-- ==== Sys2Proof/Word.lean ====
section
/-!
DEFINITION. The word types of the block: a byte as a bit vector, and four like things, one per FPA position S0 to S3.
-/
namespace Sys2Proof

/-- One byte of a memory, a telegram or a packet. -/
abbrev Byte := BitVec 8

/-- A position number S0 to S3 (00 Table 00-3). -/
abbrev Pos := Fin 4

/-- Four like things, one per position (or per generator, lane group, HK converter or trigger output). -/
structure Quad (α : Type) where
  p0 : α
  p1 : α
  p2 : α
  p3 : α
deriving DecidableEq, Repr

end Sys2Proof
end

