-- ==== Sys2Proof/Syntax.lean ====
section
/-!
DEFINITION. The commands of the block, whole: one constructor per row of the opcode table, in the table's order, with the
operands a command carries.  `t` is the chain time, in ns, at which the command takes place (00 R12).
-/
namespace Sys2Proof

/-- The path a write or read of an object arrives on (11 R387): BAR0, a chain session by its ID (0 none), the SP slave
mailbox, or the module itself (the start-up set). -/
inductive Via where
  | host
  | chain (session : Nat)
  | mailbox
  | module
deriving DecidableEq, Repr

/-- What a host access of one word addresses (12 Table 12-4): BAR0, BAR4, or the function's configuration space. -/
inductive Bar where
  | bar0
  | bar4
  | config
deriving DecidableEq, Repr

/-- A telegram addressed to the steward, as the header of 10 Table 10-1 and the arrival give it: arrival port (false
CHAIN_A, true CHAIN_B), arrival HOP, and the chain time its FCS was checked (10 R371). -/
structure Req where
  portB : Bool
  hop : Nat
  posaddr : Bool
  noreply : Bool
  dst : Nat
  src : Nat
  originPos : Nat
  seq : Nat
  session : Nat
  payload : List Byte
  t : Nat
deriving DecidableEq, Repr

/-- A PTP message as the slave clock takes it (08 R285, 10 R380): the port it arrived on, its correctionField in
units of 2^-16 ns, the time stamps it carries in ns, and those it is given at the PCS in units of 0.125 ns. -/
inductive PtpMsg where
  /-- Announce: domain, the data set compared for the best master, and the port identity of its sender. -/
  | announce (portB : Bool) (domain : Nat) (rank : List Nat) (source : Nat)
  /-- Sync: domain, sender, sequence, origin time stamp (none with twoStepFlag), correction, ingress time stamp, interval. -/
  | sync (portB : Bool) (domain source seq : Nat) (origin : Option Nat) (correction : Int) (ingress interval : Nat)
  /-- Follow_Up: domain, sender, sequence, precise origin time stamp, correction. -/
  | followUp (portB : Bool) (domain source seq origin : Nat) (correction : Int)
  /-- The Delay_Req of the module has left at this time stamp. -/
  | delaySent (egress : Nat)
  /-- Delay_Resp: domain, sender, receive time stamp, correction. -/
  | delayResp (portB : Bool) (domain source receive : Nat) (correction : Int)
deriving DecidableEq, Repr

/-- What the lanes of a group deliver in one burst (03 R78, R79): the stripe position of the first row of blocks, modulo the marker
period of 16,384, and for each of the eight lanes its 66-bit blocks in the order they arrive, as they stand at the balls: bit 0 is
the bit received first, bits 1:0 the sync header. -/
structure LaneBlocks where
  place : Nat
  lanes : List (List Nat)
deriving DecidableEq, Repr

/-- The heritage port at one edge of HP_PCLK (03 R105): the edge is a rising one, the levels of HP_FVAL and HP_LVAL, and
HP_D[15:0]. -/
structure HpEdge where
  rising : Bool
  fval : Bool
  lval : Bool
  d : Nat
deriving DecidableEq, Repr

/-- The commands of the block: one constructor per row of the opcode table, in its order. -/
inductive Instr where
  /-- VIN_RISE (R41): VIN rises through the 34 V UVLO threshold and the input stage starts the module on its own. -/
  | vinRise (held : Bool) (t : Nat)
  /-- RESET_N_ASSERT (R48): RESET_N held low for at least 10 us resets all logic at once, except NV writes in progress. -/
  | resetNAssert (t : Nat)
  /-- RESET_N_RISE (R42): Rising edge of RESET_N, one of the two instants that decide tR. -/
  | resetNRise (t : Nat)
  /-- INTERNAL_RESET_RELEASE (R42): Internal reset is released at tR, the later of 2.0 ms after VIN crosses 34 V and the RESET_N rise, and the boot ROM starts. -/
  | internalResetRelease (t : Nat)
  /-- FIRMWARE_IMAGE_CHECK (R561): After the image read completes, the ROM checks a slot and accepts it or moves on to the other slot. -/
  | firmwareImageCheck (t : Nat)
  /-- STEWARD_FIRMWARE_START (R46): The verified steward firmware starts, and the identity objects and BOOT_STATUS become readable. -/
  | stewardFirmwareStart (t : Nat)
  /-- DRAM_TRAINING_COMPLETE (R414): LPDDR5X initialisation and training end, after one retry if needed, and the devices enter self-refresh. -/
  | dramTrainingComplete (first : Bool) (second : Bool) (t : Nat)
  /-- STORE_RECOVERY_SCAN (R469): The record store is scanned at start-up, and erases, conflicts and single-copy records are listed for repair. -/
  | storeRecoveryScan (t : Nat)
  /-- STARTUP_SET_APPLY (R465): The start-up parameter set is applied at L2 and committed, or defaults are restored on failure, and STANDBY is entered. -/
  | startupSetApply (t : Nat)
  /-- WATCHDOG_RESET (R48): Watchdog expiry resets all logic at once. -/
  | watchdogReset (t : Nat)
  /-- SOFT_RESET (R48): A SOFT_RESET command resets the module. -/
  | softReset (via : Via) (v : Nat) (t : Nat)
  /-- SYSCLK_LOSS (R589): SYSCLK stops for more than 2 us, and the clock monitor resets the module with cause watchdog. -/
  | sysclkLoss (t : Nat)
  /-- PCIE_PERST_RELEASE (R45): PCIE_PERST_N is released, and the endpoint must answer configuration requests within its bound. -/
  | pciePerstRelease (rate : Nat) (lanes : Nat) (t : Nat)
  /-- PCIE_PERST_ASSERT (R437): PCIE_PERST_N low holds the host port in reset and stops DMA channels at once. -/
  | pciePerstAssert (t : Nat)
  /-- MODE_REQUEST (R60): A MODE_REQUEST telegram is answered by the first applicable row of Table 02-6. -/
  | modeRequest (r : Req)
  /-- MODE_REQ_GO (R60): The local host submits the MODE_REQ target, transaction and time as a mode request. -/
  | modeReqGo (via : Via) (v : Nat) (t : Nat)
  /-- TRANSITION_ACTIVATION (R62): At its activation chain time, an armed transaction begins its transition and works through the steps of Table 02-5. -/
  | transitionActivation (t : Nat)
  /-- TRANSITION_COMPLETE (R64): A running transition completes and its outcome is recorded in MODE_TXN. -/
  | transitionComplete (refresh : Bool) (t : Nat)
  /-- TRANSITION_TIMEOUT (R54): A transition that has not completed within its bound ends in SAFE with outcome FAILED. -/
  | transitionTimeout (t : Nat)
  /-- OP_ABORT (R70): OP_ABORT ends a running long operation with ABORTED. -/
  | opAbort (via : Via) (k : Nat) (v : Nat) (t : Nat)
  /-- OP_PROGRESS_UPDATE (R69): The progress record of a running long operation is updated at least every 100 ms. -/
  | opProgressUpdate (k : Nat) (position : Nat) (t : Nat)
  /-- LANE_BLOCK_LOCK_LOSS (R80): An MSL lane loses block lock, and its group loses alignment. -/
  | laneBlockLockLoss (lane : Nat) (t : Nat)
  /-- ALIGNMENT_MARKER (R80): An alignment marker arrives on a lane and is checked for stripe index and position. -/
  | alignmentMarker (lane : Nat) (block : Nat) (place : Nat) (t : Nat)
  /-- MSL_FRAME_START (R92): A FRAME_START packet is accepted and checked against the configured geometry, or closes a frame by NEXT_START. -/
  | mslFrameStart (grp : Nat) (b : LaneBlocks) (t : Nat)
  /-- MSL_ROW_PACKET (R94): A ROW packet is accepted and admitted to the intake buffer under the row-order and geometry rules. -/
  | mslRowPacket (grp : Nat) (b : LaneBlocks) (t : Nat)
  /-- MSL_FRAME_END (R89): A FRAME_END with the frame's FSEQ closes the open frame with cause END. -/
  | mslFrameEnd (grp : Nat) (b : LaneBlocks) (t : Nat)
  /-- INT_IDLE_TIMEOUT (R89): INT_IDLE_TIMEOUT passes without an accepted packet, and the frame closes with cause TIMEOUT. -/
  | intIdleTimeout (p : Pos) (t : Nat)
  /-- INTAKE_FORCED_CLOSE (R101): A frame still open 20 ms after activation of a transition to STANDBY is closed as TIMEOUT. -/
  | intakeForcedClose (p : Pos) (t : Nat)
  /-- DRAIN_COMPLETE (R22): All in-flight content of the ending frame has left the pipeline. -/
  | drainComplete (p : Pos) (t : Nat)
  /-- HAND_OVER_INSTANT (R23): At the first cycle in which the drain is complete and the next mark is issued, the next frame begins and the pending generation is activated. -/
  | handOverInstant (p : Pos) (t : Nat)
  /-- INGOT_COMPLETE (R25): An ingot becomes complete in its output ring and waits for the egress. -/
  | ingotComplete (p : Pos) (t : Nat)
  /-- PREFETCH_COMPLETE (R143): Coefficient entries of a row packet arrive from frame memory. -/
  | prefetchComplete (p : Pos) (t : Nat)
  /-- READOUT_ENTERS_SLICE (R133): A readout whose entries have arrived is linearised and corrected in its slice. -/
  | readoutEntersSlice (p : Pos) (t : Nat)
  /-- DEFECT_REPLACEMENT_ROW (R147): Row r leaves defect replacement once row r + 2 of its slot has been corrected, or at close. -/
  | defectReplacementRow (p : Pos) (slot : Fin 4) (t : Nat)
  /-- PIXEL_MERGE (R188): Once every enabled slot of a row has left the tail stage, each pixel's slots are merged to one radiance. -/
  | pixelMerge (p : Pos) (t : Nat)
  /-- OUTPUT_FILTER_ROW (R201): Spatial and temporal output filters run once neighbouring rows are available. -/
  | outputFilterRow (p : Pos) (t : Nat)
  /-- CORR_COEF_OPEN (R152): A coefficient set is moved toward OPEN, at once when the position is idle. -/
  | corrCoefOpen (via : Via) (p : Pos) (t : Nat)
  /-- CORR_COEF_CLOSE (R154): An OPEN set moves to CHECKING and its plane check starts. -/
  | corrCoefClose (via : Via) (p : Pos) (t : Nat)
  /-- COEF_CHECK_COMPLETE (R154): The close check ends, and the set becomes CLOSED or INVALID. -/
  | coefCheckComplete (p : Pos) (t : Nat)
  /-- CORR_LOAD_GO (R160): A COEF_LOAD long operation starts with the archive named by CORR_LOAD_KEY. -/
  | corrLoadGo (via : Via) (p : Pos) (v : Nat) (t : Nat)
  /-- COEF_LOAD_END (R161): A COEF_LOAD ends after writing the sections and closing the set, or fails and leaves the set INVALID. -/
  | coefLoadEnd (t : Nat)
  /-- CORR_SAVE_GO (R162): The CLOSED set is saved as an archive under PARAM_SAVE. -/
  | corrSaveGo (via : Via) (p : Pos) (v : Nat) (t : Nat)
  /-- TAIL_HIST_RESET (R178): Every row stamp of the position is set EMPTY at its next hand-over. -/
  | tailHistReset (via : Via) (p : Pos) (v : Nat) (t : Nat)
  /-- ECL_REQUEST_FULL (R246): A full eclipse is requested, and the position becomes QUEUED. -/
  | eclRequestFull (via : Via) (p : Pos) (t : Nat)
  /-- ECL_REQUEST_PARTIAL (R242): A partial eclipse that updates offsets and drift only is requested. -/
  | eclRequestPartial (via : Via) (p : Pos) (t : Nat)
  /-- ECL_ABORT (R223): The host ends an eclipse early with ABORTED_HOST. -/
  | eclAbort (via : Via) (p : Pos) (v : Nat) (t : Nat)
  /-- ECL_FAULT_CLEAR (R211): SHUT_FAULT and OVERDUE are cleared, and an opening pulse is started where the mode permits. -/
  | eclFaultClear (via : Via) (p : Pos) (v : Nat) (t : Nat)
  /-- ECL_SHUT_CMD_CLOSE (R212): A single closing pulse is driven through the arbiter in SERVICE. -/
  | eclShutCmdClose (via : Via) (p : Pos) (t : Nat)
  /-- ECL_SHUT_CMD_OPEN (R212): A single opening pulse is driven through the arbiter in SERVICE. -/
  | eclShutCmdOpen (via : Via) (p : Pos) (t : Nat)
  /-- ECLIPSE_GRANT (R247): The steward grants the next eclipse to the first eligible position. -/
  | eclipseGrant (t : Nat)
  /-- SHUTTER_PULSE_START (R209): The arbiter starts a waiting pulse no earlier than 10 ms after the previous pulse. -/
  | shutterPulseStart (written : Bool) (t : Nat)
  /-- END_SENSOR_ASSERTED (R214): An end sensor has been asserted for 1 ms, which fixes the closed or open sensor time. -/
  | endSensorAsserted (p : Pos) (closed : Bool) (t : Nat)
  /-- PULSE_HOLD_EXPIRY (R207): ECL_PULSE_HOLD after the end sensor ends the pulse. -/
  | pulseHoldExpiry (p : Pos) (t : Nat)
  /-- PULSE_MAX_EXPIRY (R208): A pulse ends at ECL_PULSE_MAX, which is a shutter fault when end sensing is enabled. -/
  | pulseMaxExpiry (p : Pos) (t : Nat)
  /-- BOTH_SENSORS_FAULT (R208): Both end sensors asserted together for 1 ms make a shutter fault and end any running pulse. -/
  | bothSensorsFault (p : Pos) (t : Nat)
  /-- ECLIPSE_HELD_START (R216): A held-period frame start of the eclipsing position is due on its grid. -/
  | eclipseHeldStart (p : Pos) (t : Nat)
  /-- ECLIPSE_UPDATE_COMPLETE (R225): The plane writes of UPDATE complete. -/
  | eclipseUpdateComplete (p : Pos) (t : Nat)
  /-- OPENING_END (R220): OPENING ends at the later of enough clean frames and the open sensor time. -/
  | openingEnd (p : Pos) (t : Nat)
  /-- OPENING_PULSE_RETRY (R225): A faulted opening pulse is repeated 100 ms after the fault. -/
  | openingPulseRetry (p : Pos) (t : Nat)
  /-- ECLIPSE_WINDOW_DEADLINE (R250): The latest opening start of the window passes, and the eclipse ends ABORTED_WINDOW. -/
  | eclipseWindowDeadline (p : Pos) (t : Nat)
  /-- PREDICTIVE_EVALUATION (R245): Once per second in RUN, ECL_PRED_ERR is computed and positions become due. -/
  | predictiveEvaluation (t : Nat)
  /-- ECLIPSE_OVERDUE (R251): A due position waiting past ECL_MIN_INTERVAL without a window sets OVERDUE. -/
  | eclipseOverdue (p : Pos) (t : Nat)
  /-- ECLIPSE_WINDOW (R249): An ECLIPSE_WINDOW telegram is stored among up to four windows. -/
  | eclipseWindow (r : Req)
  /-- GEN_COMMIT (R262): A COMMIT of the pending set is checked and its first governed frame is named. -/
  | genCommit (via : Via) (v : Nat) (t : Nat)
  /-- COMMIT (R368): The chain COMMIT telegram commits pending sets and replies with frame numbers. -/
  | commit (r : Req)
  /-- GEN_DISCARD (R268): A DIRTY pending set is replaced with a copy of the active set. -/
  | genDiscard (via : Via) (v : Nat) (t : Nat)
  /-- VDET_SETTLE (R257): The settle instant passes and VDET_SETTLING clears. -/
  | vdetSettle (p : Pos) (t : Nat)
  /-- VDET_OVERCURRENT (R259): VDET delivering over 50 mA for 1 ms is switched to 0 V and held. -/
  | vdetOvercurrent (p : Pos) (t : Nat)
  /-- STAT_LATCH (R280): The published statistics block is copied into the latch buffer. -/
  | statLatch (via : Via) (p : Pos) (v : Nat) (t : Nat)
  /-- STAT_LATCH_COMPLETE (R280): The latch copy completes and STAT_LATCHED_FRAME is written. -/
  | statLatchComplete (p : Pos) (t : Nat)
  /-- STAT_BLOCK_READ (R279): A read of STAT_BLOCK takes or serves a snapshot of the published block. -/
  | statBlockRead (via : Via) (p : Pos) (offset : Nat) (len : Nat) (t : Nat)
  /-- STAT_SNAPSHOT_RELEASE (R279): A STAT_BLOCK snapshot is released 1 s after it was taken. -/
  | statSnapshotRelease (p : Pos) (session : Nat) (t : Nat)
  /-- PTP_MESSAGE_RECEIVE (R285): A PTP event message is taken by the slave clock, and an offset is measured. -/
  | ptpMessageReceive (m : PtpMsg) (t : Nat)
  /-- SYNC_TIMEOUT (R286): No measurement for three Sync intervals moves LOCKED to HOLDOVER. -/
  | syncTimeout (t : Nat)
  /-- PPS_IN_EDGE (R293): A PPS_IN edge is stamped and may discipline chain time. -/
  | ppsInEdge (rising : Bool) (t : Nat)
  /-- PPS_OUT_SECOND (R292): PPS_OUT rises at each whole second of chain time. -/
  | ppsOutSecond (t : Nat)
  /-- PPS_OUT_WIDTH_EXPIRY (R292): PPS_OUT falls after PPS_OUT_WIDTH. -/
  | ppsOutWidthExpiry (t : Nat)
  /-- TIME_SET (R285): TIME_SET sets chain time at once for FREE or at the next edge for PPS_IN. -/
  | timeSet (via : Via) (v : Nat) (t : Nat)
  /-- ENCODER_COUNT_CHANGE (R294): An accepted quadrature edge changes the encoder count. -/
  | encoderCountChange (e : Bool) (a : Bool) (b : Bool) (held : Nat) (t : Nat)
  /-- ENCODER_Z_EDGE (R297): A Z rising edge latches or resets the count per ZMODE. -/
  | encoderZEdge (e : Bool) (held : Nat) (t : Nat)
  /-- ENC_PRESET (R297): The encoder count is preset and generators re-arm. -/
  | encPreset (via : Via) (e : Bool) (v : Nat) (t : Nat)
  /-- ENC_SPEED_UPDATE (R298): ENC_SPEED is updated every 10 ms. -/
  | encSpeedUpdate (e : Bool) (t : Nat)
  /-- TRIG_IN_EDGE (R299): A counted edge on a TRIG_IN input is stamped. -/
  | trigInEdge (n : Fin 4) (rising : Bool) (held : Nat) (t : Nat)
  /-- TIMER_GENERATOR_TICK (R301): A TIMER generator fires at k times TG_PERIOD plus TG_PHASE. -/
  | timerGeneratorTick (g : Fin 4) (t : Nat)
  /-- TG_FIRE (R301): A SOFTWARE generator fires an event. -/
  | tgFire (via : Via) (g : Fin 4) (v : Nat) (t : Nat)
  /-- TRIGGER_EVENT (R306): A received TRIGGER_EVENT is checked for duplicates and schedules starts. -/
  | triggerEvent (r : Req)
  /-- DECISION_POINT (R310): At d, a start is allowed, held or skipped. -/
  | decisionPoint (p : Pos) (t : Nat)
  /-- HELD_START (R312): A held start is made at its computed earliest allowed instant. -/
  | heldStart (p : Pos) (t : Nat)
  /-- MARK_TRANSACTION_START (R115): A mark transaction begins t_tx before the scheduled start. -/
  | markTransactionStart (p : Pos) (t : Nat)
  /-- MARK_RELEASE (R88): Select release of a mark transaction opens one frame of the position. -/
  | markRelease (p : Pos) (words : List Nat) (t : Nat)
  /-- SP0_TRANSACTION_END (R114): An SP0 transaction ends, and returned words are checked and refusals counted. -/
  | sp0TransactionEnd (sel : Fin 4) (words : List Nat) (t : Nat)
  /-- TRIG_OUT_PULSE_END (R318): A TRIG_OUT pulse ends after TO_WIDTH. -/
  | trigOutPulseEnd (n : Fin 4) (t : Nat)
  /-- HP_FVAL_RISE (R107): FVAL becomes active, and is used or counted as unsolicited. -/
  | hpFvalRise (edges : List HpEdge) (t : Nat)
  /-- HP_FVAL_FALL (R107): FVAL falls and closes the heritage frame with cause END. -/
  | hpFvalFall (edges : List HpEdge) (t : Nat)
  /-- HP_ROW (R106): An active LVAL period delivers one heritage row. -/
  | hpRow (edges : List HpEdge) (t : Nat)
  /-- HP_PCLK_MEASURE (R109): HP_PCLK_FREQ is updated every 10 ms. -/
  | hpPclkMeasure (hz : Nat) (t : Nat)
  /-- OUT_LINK_CHANGE (R346): An output port link goes up or down, and ingots are cut or discarded on loss. -/
  | outLinkChange (port : Bool) (up : Bool) (t : Nat)
  /-- PAUSE_FRAME (R323): A received PAUSE holds transmission for q times 512 bit times. -/
  | pauseFrame (port : Bool) (q : Nat) (t : Nat)
  /-- PAUSE_HOLD_EXPIRY (R323): The PAUSE hold time runs out. -/
  | pauseHoldExpiry (port : Bool) (t : Nat)
  /-- PAUSE_HOLD_NOTIFY (R323): A hold lasting 100 ms without break sends a NOTIFY. -/
  | pauseHoldNotify (port : Bool) (t : Nat)
  /-- ARP_REQUEST (R325): An ARP request for OUT_IP is answered. -/
  | arpRequest (port : Bool) (ip : Nat) (mac : Nat) (target : Nat) (t : Nat)
  /-- ARP_REPLY (R325): An ARP reply resolves a destination entry. -/
  | arpReply (port : Bool) (ip : Nat) (mac : Nat) (t : Nat)
  /-- ARP_RETRY (R325): An unresolved destination is retried every 1 s. -/
  | arpRetry (port : Bool) (ip : Nat) (t : Nat)
  /-- ARP_REFRESH (R325): Each resolved entry is refreshed every 60 s and discarded after three failures. -/
  | arpRefresh (port : Bool) (ip : Nat) (t : Nat)
  /-- ICMP_ECHO_REQUEST (R326): An echo request is answered, within the limit of 100 per second. -/
  | icmpEchoRequest (port : Bool) (ip : Nat) (mac : Nat) (dst : Nat) (body : List Byte) (t : Nat)
  /-- OUT_RX_DROP (R322): A received frame that is neither ARP, ICMP echo nor PAUSE is dropped and counted; `frame` runs from
  its destination address to the end of its payload, `fcs` when its FCS is right. -/
  | outRxDrop (port : Bool) (frame : List Byte) (fcs : Bool) (t : Nat)
  /-- EGRESS_INGOT_START (R344): At the end of an ingot, the egress takes the oldest waiting image ingot, then tap ingot. -/
  | egressIngotStart (port : Bool) (t : Nat)
  /-- DATAGRAM_SEND (R345): A datagram starts on the wire once it lies wholly in the egress FIFO. -/
  | datagramSend (port : Bool) (t : Nat)
  /-- CHAIN_LINK_CHANGE (R382): A chain port link goes up or down, and queued telegrams move or are discarded; whether the PCS is
  synchronised, auto-negotiation complete, and a PHY behind SGMII at 1000 Mbit/s. -/
  | chainLinkChange (port : Bool) (pcs : Bool) (an : Bool) (gigabit : Bool) (t : Nat)
  /-- CHAIN_FRAME_FORWARD (R351): A frame received on one chain port is forwarded cut-through on the other. -/
  | chainFrameForward (port : Bool) (frame : List Byte) (fcsOk : Bool) (stomped : Bool) (residence : Nat) (t : Nat)
  /-- READ (R365): A READ telegram returns an object value or a segment. -/
  | read (r : Req)
  /-- WRITE (R366): A WRITE telegram writes a scalar or stages a STR or DOM segment. -/
  | write (r : Req)
  /-- WRITE_STAGING_TIMEOUT (R366): 1 s without a segment abandons STR or DOM staging. -/
  | writeStagingTimeout (t : Nat)
  /-- RANGE_READ (R367): A RANGE_READ returns records of one index in one steward pass. -/
  | rangeRead (r : Req)
  /-- LEASE_GRANT (R375): A LEASE_GRANT is checked and the role and epoch are recorded. -/
  | leaseGrant (r : Req) (good : Bool)
  /-- LEASE_ANNOUNCE (R378): A LEASE_ANNOUNCE naming the held role with a higher epoch orphans the module. -/
  | leaseAnnounce (r : Req) (good : Bool)
  /-- HEARTBEAT (R376): A HEARTBEAT renews a matching CURRENT lease or flags stale entries. -/
  | heartbeat (r : Req) (good : Bool)
  /-- LEASE_EXPIRY (R377): T_exp passes without renewal and the lease becomes EXPIRED. -/
  | leaseExpiry (t : Nat)
  /-- LEASE_RECORD_RETRY (R378): A failed keep-array write of role and epoch is repeated once per second. -/
  | leaseRecordRetry (ok : Bool) (t : Nat)
  /-- AUTH_OPEN (R363): AUTH OPEN requests a session and is answered with a CHALLENGE. -/
  | authOpen (r : Req) (healthy : Bool)
  /-- AUTH_PROVE (R566): AUTH PROVE is checked and answered with a RESULT. -/
  | authProve (r : Req)
  /-- AUTH_CLOSE (R363): AUTH CLOSE closes the session. -/
  | authClose (r : Req)
  /-- SESSION_IDLE_EXPIRY (R566): A session closes after 10 minutes without activity. -/
  | sessionIdleExpiry (id : Nat) (t : Nat)
  /-- AUTH_LOCKOUT_EXPIRY (R566): The 60 s lockout of a path after 8 failed PROVEs ends. -/
  | authLockoutExpiry (path : Nat) (t : Nat)
  /-- BAR0_LOW_READ (R397): A BAR0 read of a low slot fills the high-word latch. -/
  | bar0LowRead (bar : Bar) (addr : Nat) (size : Nat) (t : Nat)
  /-- BAR0_UPPER_READ (R397): A BAR0 read of an upper slot returns the latch or the current upper half. -/
  | bar0UpperRead (bar : Bar) (addr : Nat) (size : Nat) (t : Nat)
  /-- BAR0_LOW_WRITE (R398): A BAR0 write of a 64-bit low slot holds the low word. -/
  | bar0LowWrite (bar : Bar) (addr : Nat) (v : Nat) (t : Nat)
  /-- BAR0_UPPER_WRITE (R398): A BAR0 write of an upper slot applies the whole 64-bit value. -/
  | bar0UpperWrite (bar : Bar) (addr : Nat) (v : Nat) (t : Nat)
  /-- BAR0_DROPPED_WRITE (R403): A narrow, unaligned or unimplemented BAR0 write is dropped and counted. -/
  | bar0DroppedWrite (bar : Bar) (addr : Nat) (size : Nat) (t : Nat)
  /-- BAR0_DOM_CMD_READ (R404): A DOM or STR object is copied into the staging buffer as one snapshot. -/
  | bar0DomCmdRead (via : Via) (t : Nat)
  /-- BAR0_DOM_CMD_WRITE (R404): The staging buffer is applied to a DOM or STR object as one write. -/
  | bar0DomCmdWrite (via : Via) (t : Nat)
  /-- BAR0_DOM_CMD_END (R404): A staging command completes and BUSY clears. -/
  | bar0DomCmdEnd (t : Nat)
  /-- EXPERT_RELEASE (R393): A function returns to basic control. -/
  | expertRelease (via : Via) (v : Nat) (t : Nat)
  /-- OBJECT_WRITE (R388): A write to an object with no row of its own is checked and applied; `ok` is false when the keep array
  fails the write of an object kept there. -/
  | objectWrite (via : Via) (key : Nat) (v : Nat) (ok : Bool) (t : Nat)
  /-- CHAIN_STATION_WRITE (R360): CHAIN_STATION is written to the keep array, takes effect at once and clears DUP_STATION. -/
  | chainStationWrite (via : Via) (v : Nat) (ok : Bool) (t : Nat)
  /-- LEASE_EPOCH_CLEAR (R379): Role and epoch are set to 0 for recommissioning. -/
  | leaseEpochClear (via : Via) (v : Nat) (ok : Bool) (t : Nat)
  /-- BAR2_WRITE (R417): A BAR2 write is applied or dropped under the frame memory map. -/
  | bar2Write (addr : Nat) (bytes : List Byte) (t : Nat)
  /-- BAR2_OFFLINE_ACCESS (R416): A BAR2 access while the controllers are off reads zero or is dropped; a read of `n`
  bytes while they run returns them (R417). -/
  | bar2OfflineAccess (addr : Nat) (n : Nat) (write : Bool) (t : Nat)
  /-- DRAM_REFRESH_MODE_READ (R408): Each device's refresh-rate mode register is read every 32 ms. -/
  | dramRefreshModeRead (r0 : Nat) (r1 : Nat) (t : Nat)
  /-- DMA_TAIL_DOORBELL (R426): A TAIL write announces new descriptors to a channel. -/
  | dmaTailDoorbell (c : Nat) (v : Nat) (t : Nat)
  /-- DMA_CTRL_RUN (R435): RUN sets a channel RUNNING or WAITING. -/
  | dmaCtrlRun (c : Nat) (t : Nat)
  /-- DMA_CTRL_STOP (R435): STOP lets the descriptor end and stops the channel. -/
  | dmaCtrlStop (c : Nat) (t : Nat)
  /-- DMA_CTRL_ABORT (R435): ABORT ends the descriptor after its current burst with ABORTED. -/
  | dmaCtrlAbort (c : Nat) (t : Nat)
  /-- DMA_CTRL_SOFT_REQ (R433): SOFT_REQ asserts request line 31 of the channel. -/
  | dmaCtrlSoftReq (c : Nat) (t : Nat)
  /-- DMA_DESCRIPTOR_START (R427): A fetched descriptor starts, after a request when WAIT, and is checked. -/
  | dmaDescriptorStart (c : Nat) (words : List Byte) (t : Nat)
  /-- DMA_BURST_START (R434): A burst starts under pacing and arbitration. -/
  | dmaBurstStart (c : Nat) (data : List Byte) (good : Bool) (t : Nat)
  /-- DMA_DESCRIPTOR_END (R429): After read-back, the descriptor is written back, HEAD advances and IRQ is raised. -/
  | dmaDescriptorEnd (c : Nat) (good : Bool) (t : Nat)
  /-- PCIE_LINK_DOWN (R437): Link down stops every channel at once without write-back. -/
  | pcieLinkDown (t : Nat)
  /-- FLR (R437): A function-level reset stops DMA and resets BAR0, BAR4, session and MSI-X state. -/
  | flr (t : Nat)
  /-- D3HOT_ENTRY (R423): In D3hot, requests complete as Unsupported Request and DMA stops. -/
  | d3hotEntry (t : Nat)
  /-- KEEP_ARRAY_WRITE (R441): A keep-array write is committed, read back and retried once. -/
  | keepArrayWrite (addr : Nat) (bytes : List Byte) (item : Bool) (good : Nat) (t : Nat)
  /-- NV_USER_DATA (R443): A write of NV_USER_DATA is loaded and committed as one page. -/
  | nvUserData (via : Via) (bytes : List Byte) (good : Nat) (t : Nat)
  /-- KEEP_ANNEAL (R448): After NV_ANNEAL_PERIOD hours, every keep-array page is margin-read and weak bytes are rewritten. -/
  | keepAnneal (page : Nat) (weak : List Nat) (t : Nat)
  /-- NV_ANNEAL_NOW (R448): An anneal of keep array and store starts at once. -/
  | nvAnnealNow (via : Via) (v : Nat) (t : Nat)
  /-- STORE_ANNEAL (R463): Store sectors are margin-read, weak ones compacted, failing copies repaired. -/
  | storeAnneal (sector : Nat) (weak : Bool) (flips : List (Nat × Byte)) (t : Nat)
  /-- RECORD_WRITE_END (R454): A record's secondary COMMIT is read back and the journal heads update. -/
  | recordWriteEnd (t : Nat)
  /-- FLASH_STATUS_POLL (R481): Device status is polled every 10 us until a program or erase completes or fails. -/
  | flashStatusPoll (busy : Bool) (fail : Bool) (t : Nat)
  /-- RECORD_REPAIR (R458): A listed record is rewritten with the next SEQ to both areas. -/
  | recordRepair (t : Nat)
  /-- STORE_COMPACTION (R461): Compaction copies current records from the tail sector and reclaims it. -/
  | storeCompaction (t : Nat)
  /-- NV_COMPACT_GO (R461): STORE_COMPACT compacts every sector holding superseded records. -/
  | nvCompactGo (via : Via) (v : Nat) (t : Nat)
  /-- NV_STORE_FORMAT (R451): Every store sector is erased and a fresh journal is written. -/
  | nvStoreFormat (via : Via) (v : Nat) (t : Nat)
  /-- NV_SET_SAVE (R464): RW and active RWG objects are saved as parameter set n. -/
  | nvSetSave (via : Via) (v : Nat) (t : Nat)
  /-- NV_SET_APPLY (R465): A parameter set is applied in STANDBY as a host would. -/
  | nvSetApply (via : Via) (v : Nat) (t : Nat)
  /-- NV_SET_DELETE (R465): A deletion is written for a parameter set key. -/
  | nvSetDelete (via : Via) (v : Nat) (t : Nat)
  /-- NV_RECORD_DELETE (R456): A deletion record is written for a key. -/
  | nvRecordDelete (via : Via) (v : Nat) (t : Nat)
  /-- NV_CLOSE_FLASH_CUT (R467): A flash program still running 2 ms into the NV close is cut and PD79 switched off. -/
  | nvCloseFlashCut (t : Nat)
  /-- SP1_SLAVE_READ (R492): A slave READ returns the status byte then window bytes. -/
  | sp1SlaveRead (port : Bool) (addr : Nat) (edges : Nat) (t : Nat)
  /-- SP1_SLAVE_WRITE (R493): A slave WRITE applies staged bytes at release and then runs commands. -/
  | sp1SlaveWrite (port : Bool) (addr : Nat) (bytes : List Byte) (edges : Nat) (t : Nat)
  /-- SP1_SLAVE_STATUS (R488): A slave STATUS returns the status byte repeatedly. -/
  | sp1SlaveStatus (port : Bool) (cmd : Nat) (edges : Nat) (t : Nat)
  /-- MBX_CMD_READ (R495): The mailbox reads an object at L0. -/
  | mbxCmdRead (t : Nat)
  /-- MBX_CMD_WRITE (R495): The mailbox writes an object at L0. -/
  | mbxCmdWrite (t : Nat)
  /-- MBX_STATE_READ (R495): A read of MBX_STATE clears MBX_DONE. -/
  | mbxStateRead (port : Bool) (t : Nat)
  /-- UP_CMD_PROGRAM (R496): In boot recovery, UP_DATA is programmed into a firmware slot. -/
  | upCmdProgram (ok : Bool) (t : Nat)
  /-- UP_CMD_FINISH (R496): The uploaded slot is checked and recorded as active. -/
  | upCmdFinish (ok : Bool) (t : Nat)
  /-- SP1_BUS_REQUEST (R486): The module requests the shared SP1 bus and takes it once SP1_SLV_N has been high for 1 us. -/
  | sp1BusRequest (t : Nat)
  /-- SP1_HANDOVER_TIMEOUT (R486): Release later than SP1_HANDOVER_MAX sets HANDOVER_TO. -/
  | sp1HandoverTimeout (t : Nat)
  /-- SP1_SLV_COLLISION (R486): SP1_SLV_N asserted while the module owns the bus is ignored and counted. -/
  | sp1SlvCollision (t : Nat)
  /-- SP0_SLAVE (R487): SP0 channel 0 is put into the slave role in SERVICE. -/
  | sp0Slave (via : Via) (v : Nat) (t : Nat)
  /-- DQS_CALIBRATION (R479): At PD62 switch-on, the DQS tap is checked and swept again on failure. -/
  | dqsCalibration (k : Fin 4) (passFirst : Bool) (passTaps : List Nat) (passHalf : List Nat) (t : Nat)
  /-- XIP_FETCH (R482): A read missing the prefetch buffer fetches an aligned 4 KiB block. -/
  | xipFetch (k : Fin 4) (addr : Nat) (n : Nat) (t : Nat)
  /-- SP1_RAW_XFER (R498): One raw SP1 master transaction runs in SERVICE. -/
  | sp1RawXfer (via : Via) (bytes : List Byte) (t : Nat)
  /-- HK_CTRL_START (R503): START begins a scan or is ignored while busy. -/
  | hkCtrlStart (via : Via) (h : Fin 4) (t : Nat)
  /-- HK_CTRL_ABORT (R504): ABORT ends a scan after the conversion in progress. -/
  | hkCtrlAbort (via : Via) (h : Fin 4) (t : Nat)
  /-- HK_CONVERSION_RESULT (R502): An averaged channel result is written to HK_RESULT. -/
  | hkConversionResult (h : Fin 4) (volts : List Nat) (refin : Nat) (t : Nat)
  /-- HK_RESULT_READ (R509): A read of HK_RESULT returns FRESH only the first time. -/
  | hkResultRead (via : Via) (h : Fin 4) (t : Nat)
  /-- HK_STATUS_READ (R510): Reading HK_STATUS clears START_IGNORED and OVERRUN. -/
  | hkStatusRead (via : Via) (h : Fin 4) (t : Nat)
  /-- HK_REF_SETTLED (R500): The reference settling time passes and REF_SETTLED sets. -/
  | hkRefSettled (h : Fin 4) (t : Nat)
  /-- HK_DOMAIN_OFF (R506): An on-demand converter domain switches off 1 ms after BUSY clears. -/
  | hkDomainOff (h : Fin 4) (t : Nat)
  /-- HK_CALIBRATION_TURN (R511): Every HK_CAL_PERIOD, the spare slice takes over a converter and the released slice calibrates. -/
  | hkCalibrationTurn (t : Nat)
  /-- HK_CALIBRATION_COMPLETE (R513): A slice calibration ends and the slice becomes spare or is retired. -/
  | hkCalibrationComplete (offset : Int) (gain : Int) (t : Nat)
  /-- SHUTTER_TEMP_CONVERSION (R514): While claimed, the shutter-temperature input is converted every 1 ms. -/
  | shutterTempConversion (volts : List Nat) (refin : Nat) (t : Nat)
  /-- THERMAL_EVALUATION (R515): Every 1 ms, the thermal model is evaluated and corrected by the sensors. -/
  | thermalEvaluation (sensors : List Int) (t : Nat)
  /-- THROTTLE_GRACE_EXPIRY (R525): At the end of the grace or step time, the next throttle step may be enforced. -/
  | throttleGraceExpiry (t : Nat)
  /-- THROTTLE_UNDO (R528): On falling to WARNING, steps are undone one per THERM_STEP_TIME. -/
  | throttleUndo (t : Nat)
  /-- THERM_QUENCH_CLEAR (R530): The quench latch is cleared below 100 C. -/
  | thermQuenchClear (via : Via) (v : Nat) (t : Nat)
  /-- HARDWARE_TRIP (R532): A junction sensor at 135 C for 100 us asserts internal reset and cuts domains. -/
  | hardwareTrip (t : Nat)
  /-- HARDWARE_TRIP_RELEASE (R532): Both sensors below 120 C for 1 s release the reset. -/
  | hardwareTripRelease (t : Nat)
  /-- POWER_FAIL_WARNING (R538): VIN below 34 V for 10 us starts the power-fail sequence. -/
  | powerFailWarning (t : Nat)
  /-- BROWN_OUT (R538): VIN below 32 V opens the input switch and starts the sequence if first. -/
  | brownOut (t : Nat)
  /-- OVERVOLTAGE (R537): VIN at 80 V for 5 us opens the input switch and starts the power-fail sequence. -/
  | overvoltage (t : Nat)
  /-- INPUT_SWITCH_CLOSE (R537): VIN back in range closes the input switch and recharges HOLDUP. -/
  | inputSwitchClose (mv : Nat) (t : Nat)
  /-- HOLDUP_READY (R539): HOLDUP reaches 68 V and HOLDUP_READY sets. -/
  | holdupReady (t : Nat)
  /-- HOLDUP_MISSING (R539): HOLDUP below 20 V at tR + 100 ms sets HOLDUP_MISSING. -/
  | holdupMissing (t : Nat)
  /-- HOLDUP_EXHAUSTED (R544): HOLDUP at 20 V with VIN low asserts internal reset. -/
  | holdupExhausted (t : Nat)
  /-- POWER_CAUSE_CLEAR (R542): VIN at or above 36 V for 100 ms clears the POWER cause. -/
  | powerCauseClear (t : Nat)
  /-- DOMAIN_RAMP_START (R546): The scheduler starts one domain ramp per 5 us. -/
  | domainRampStart (d : Nat) (t : Nat)
  /-- DOMAIN_RAMP_TIMEOUT (R548): A domain failing to reach regulation within its ramp bound is faulted. -/
  | domainRampTimeout (d : Nat) (t : Nat)
  /-- MONITOR_SNAPSHOT (R547): All 80 domain monitors are snapshotted every 1 ms. -/
  | monitorSnapshot (mv : List Nat) (ma : List Nat) (vdet : List Nat) (sup : List Nat) (t : Nat)
  /-- SEC_LIFECYCLE_SET (R557): A lifecycle transition burns its fuse pair. -/
  | secLifecycleSet (via : Via) (v : Nat) (t : Nat)
  /-- SEC_KEY_WRITE (R564): A customer key slot is written with level and key. -/
  | secKeyWrite (via : Via) (v : List Byte) (t : Nat)
  /-- SEC_KEY_ERASE (R564): A customer key slot is emptied. -/
  | secKeyErase (via : Via) (v : Nat) (t : Nat)
  /-- SEC_ARCHIVE_KEY (R569): The archive key is written. -/
  | secArchiveKey (via : Via) (v : List Byte) (t : Nat)
  /-- SEC_TOKEN_KEY (R572): The integrator token key hash is written. -/
  | secTokenKey (via : Via) (v : List Byte) (t : Nat)
  /-- SEC_ARB_COMMIT (R563): The anti-rollback counter is raised to the running SVN. -/
  | secArbCommit (via : Via) (v : Nat) (t : Nat)
  /-- HP_AUTH_REQ (R568): A host-port session OPEN is requested. -/
  | hpAuthReq (v : List Byte) (healthy : Bool) (t : Nat)
  /-- HP_AUTH_PROVE (R568): The host-port PROVE is checked and the RESULT set. -/
  | hpAuthProve (v : List Byte) (t : Nat)
  /-- HP_AUTH_CLOSE (R568): The host-port session is closed. -/
  | hpAuthClose (v : Nat) (t : Nat)
  /-- DBG_TOKEN (R572): An unlock token is submitted and verification starts. -/
  | dbgToken (via : Via) (v : List Byte) (t : Nat)
  /-- DBG_TOKEN_ACCEPT (R573): Verification completes and the token unlocks a grade, forcing SERVICE for a vendor token. -/
  | dbgTokenAccept (t : Nat)
  /-- DBG_SET_GRADE (R575): The unlocked grade is set in OPEN. -/
  | dbgSetGrade (via : Via) (v : Nat) (t : Nat)
  /-- DBG_LOCK (R572): The unlock is ended. -/
  | dbgLock (via : Via) (v : Nat) (t : Nat)
  /-- TAP_EXTEST (R574): EXTEST hands the balls to the boundary register and stops chain forwarding. -/
  | tapExtest (pins : List Byte) (bits : List Byte) (t : Nat)
  /-- TAP_SAMPLE_PRELOAD (R570): SAMPLE/PRELOAD captures and loads the boundary register. -/
  | tapSamplePreload (pins : List Byte) (bits : List Byte) (t : Nat)
  /-- TAP_IDCODE (R570): IDCODE shifts out the device identifier. -/
  | tapIdcode (t : Nat)
  /-- TAP_DBG_STATUS (R570): DBG_STATUS shifts out the debug status. -/
  | tapDbgStatus (t : Nat)
  /-- TAP_DBG_TOKEN (R572): DBG_TOKEN shifts in an unlock token. -/
  | tapDbgToken (v : List Byte) (t : Nat)
  /-- TAP_DBG_ACCESS (R571): DBG_ACCESS reads or writes internal state as the effective grade permits. -/
  | tapDbgAccess (k : Nat) (d : Nat) (addr : Nat) (v : Nat) (t : Nat)
  /-- TAP_BYPASS (R570): BYPASS, also taken by any instruction not permitted. -/
  | tapBypass (code : Nat) (t : Nat)
  /-- TAP_RESET (R570): TRST_N resets the TAP and selects IDCODE. -/
  | tapReset (t : Nat)
  /-- STEWARD_HALT (R571): Under FULL in SERVICE, the steward is halted or stepped. -/
  | stewardHalt (k : Nat) (t : Nat)
  /-- INT_CNT_CLEAR (R124): Every intake counter and INT_BUF_PEAK is cleared. -/
  | intCntClear (via : Via) (v : Nat) (t : Nat)
  /-- CORR_CNT_CLEAR (R172): Correction counters are cleared. -/
  | corrCntClear (via : Via) (v : Nat) (t : Nat)
  /-- TAIL_CNT_CLEAR (R205): Tail counters are cleared. -/
  | tailCntClear (via : Via) (v : Nat) (t : Nat)
  /-- MERGE_CNT_CLEAR (R205): Merge counters are cleared. -/
  | mergeCntClear (via : Via) (v : Nat) (t : Nat)
  /-- RAD_CNT_CLEAR (R205): RAD_CNT_CLAMP is cleared. -/
  | radCntClear (via : Via) (v : Nat) (t : Nat)
  /-- ECL_CNT_CLEAR (R252): Eclipse counters are cleared. -/
  | eclCntClear (via : Via) (v : Nat) (t : Nat)
  /-- INTG_CNT_CLEAR (R283): Integration counters are cleared. -/
  | intgCntClear (via : Via) (v : Nat) (t : Nat)
  /-- TIME_CNT_CLEAR (R386): Chain time counters are cleared. -/
  | timeCntClear (via : Via) (v : Nat) (t : Nat)
  /-- TRIG_CNT_CLEAR (R386): Trigger and encoder counters are cleared. -/
  | trigCntClear (via : Via) (v : Nat) (t : Nat)
  /-- OUT_CNT_CLEAR (R347): Output and tap counters are cleared. -/
  | outCntClear (via : Via) (v : Nat) (t : Nat)
  /-- CHAIN_CNT_CLEAR (R383): Chain counters are cleared. -/
  | chainCntClear (via : Via) (v : Nat) (t : Nat)
  /-- MEM_CNT_CLEAR (R386): Memory counters are cleared. -/
  | memCntClear (via : Via) (v : Nat) (t : Nat)
  /-- HP_CNT_CLEAR (R386): Host port and DMA counters are cleared. -/
  | hpCntClear (via : Via) (v : Nat) (t : Nat)
  /-- NV_CNT_CLEAR (R386): Storage counters are cleared. -/
  | nvCntClear (via : Via) (v : Nat) (t : Nat)
  /-- SP_CNT_CLEAR (R497): Serial port counters are cleared. -/
  | spCntClear (via : Via) (v : Nat) (t : Nat)
  /-- HK_CNT_CLEAR (R386): Converter counters are cleared. -/
  | hkCntClear (via : Via) (v : Nat) (t : Nat)
  /-- THERM_CNT_CLEAR (R534): Thermal counters are cleared. -/
  | thermCntClear (via : Via) (v : Nat) (t : Nat)
  /-- PWR_CNT_CLEAR (R386): Power counters are cleared. -/
  | pwrCntClear (via : Via) (v : Nat) (t : Nat)
  /-- LANE_BLOCK_LOCK (R80): An MSL lane reaches block lock by the Clause 49 rule, which a group needs before it can realign. -/
  | laneBlockLock (lane : Nat) (t : Nat)
  /-- PCIE_LINK_UP (R421): The PCI Express link trains up again after a loss, and LINK is set in HP_STATUS. -/
  | pcieLinkUp (rate : Nat) (lanes : Nat) (t : Nat)
  /-- D3HOT_EXIT (R423): The host returns the function from D3hot to D0, and memory requests and MSI-X messages are served again. -/
  | d3hotExit (t : Nat)
  /-- MSIX_VECTOR_UNMASK (R424): The host unmasks an MSI-X vector or the function, and the merged pending message is sent. -/
  | msixVectorUnmask (fn : Bool) (v : Nat) (t : Nat)
  /-- COMPLETION_TIMEOUT (R427): A request the module sent to the host gets no completion within 50 ms, and the descriptor ends with result PCIE. -/
  | completionTimeout (c : Nat) (t : Nat)
  /-- DMA_STANDBY_CUT (R437): A descriptor still in progress 10 ms after a transition to STANDBY begins is cut with RESULT OFFLINE, and the channel enters STOPPED. -/
  | dmaStandbyCut (c : Nat) (t : Nat)
  /-- TRIG_OUT_PULSE_START (R318): A TRIG_OUT pulse begins TO_DELAY times 4 ns after its actual start or generator event. -/
  | trigOutPulseStart (n : Fin 4) (t : Nat)
  /-- DOMAIN_RAMP_END (R546): A domain ramp reaches regulation, or a switched-off FPA rail has discharged below 10 %, and the next ramp or sequence stage may proceed. -/
  | domainRampEnd (d : Nat) (t : Nat)
  /-- VDET_RAMP_END (R550): A VDET ramp on entry to PREPARE, or toward 0 V in a transition, reaches its target, and the supply sequence continues. -/
  | vdetRampEnd (p : Pos) (t : Nat)
  /-- POWER_ON_HOURS (R446): Each whole hour of firmware running increments DEV_ON_HOURS in its two-slot counter. -/
  | powerOnHours (t : Nat)
  /-- ERASE_REDONE (R469): A sector listed for erase at start-up, because ERASING was left set, is erased in the background from STANDBY onward. -/
  | eraseRedone (t : Nat)
deriving DecidableEq, Repr

end Sys2Proof
end

