-- ==== Sys2Proof/Decode.lean ====
section
/-!
DEFINITION. Words that spell commands.  The opcode table gives no row any bits (every row's "fields" is empty): a command
is an event or a bus access, not a word.
-/
namespace Sys2Proof

/-- The command a word of the table's bits spells: none, for the table gives no row bits. -/
def decodeTableWord (_nbits _w : Nat) : Option Instr := none

end Sys2Proof
end

