-- ==== Sys2Proof/Machine/Bits.lean ====
section
/-!
DEFINITION. Bit fields, sign, byte order, rounding, saturation and check codes: the plain arithmetic every chapter uses
(00 R5 to R11; the CRC parameters are those of 03 R84).
-/
namespace Sys2Proof

/-- Bit `k` of `v`. -/
def bitAt (v k : Nat) : Bool := v / 2 ^ k % 2 == 1

/-- Bits `hi`:`lo` of `v` (00 R6). -/
def fieldOf (v hi lo : Nat) : Nat := v / 2 ^ lo % 2 ^ (hi + 1 - lo)

/-- `v` with bit `k` set to `b`. -/
def withBit (v k : Nat) (b : Bool) : Nat :=
  if bitAt v k then (if b then v else v - 2 ^ k) else (if b then v + 2 ^ k else v)

/-- A Bool as a bit. -/
def b2n (b : Bool) : Nat := if b then 1 else 0

/-- The `w`-bit two's complement code of an integer. -/
def toCode (w : Nat) (i : Int) : Nat := (i % (2 : Int) ^ w).toNat

/-- The integer a `w`-bit two's complement code stands for. -/
def fromCode (w v : Nat) : Int :=
  if v % 2 ^ w < 2 ^ (w - 1) then (v % 2 ^ w : Nat) else (v % 2 ^ w : Nat) - (2 : Int) ^ w

/-- The byte with number `n` modulo 256. -/
def byteOf (n : Nat) : Byte := BitVec.ofNat 8 n

/-- `v` as `n` bytes, most significant first (00 R8, the wire). -/
def beBytes : Nat → Nat → List Byte
  | 0, _ => []
  | n + 1, v => byteOf (v / 256 ^ n) :: beBytes n v

/-- `v` as `n` bytes, least significant first (00 R8, memories). -/
def leBytes : Nat → Nat → List Byte
  | 0, _ => []
  | n + 1, v => byteOf v :: leBytes n (v / 256)

/-- The number a byte sequence stands for, most significant byte first. -/
def beNat (bs : List Byte) : Nat := bs.foldl (fun a b => a * 256 + b.toNat) 0

/-- The number a byte sequence stands for, least significant byte first. -/
def leNat : List Byte → Nat
  | [] => 0
  | b :: r => b.toNat + 256 * leNat r

/-- `n` bytes of `bs` from offset `o`; a byte beyond the end reads zero. -/
def slice (bs : List Byte) (o n : Nat) : List Byte :=
  let r := (bs.drop o).take n
  r ++ List.replicate (n - r.length) 0#8

/-- The big-endian field of `n` bytes at offset `o`. -/
def beAt (bs : List Byte) (o n : Nat) : Nat := beNat (slice bs o n)

/-- The little-endian field of `n` bytes at offset `o`. -/
def leAt (bs : List Byte) (o n : Nat) : Nat := leNat (slice bs o n)

/-- `n / d` rounded half to even (00 R9); `d` of 0 gives 0. -/
def roundDiv (n : Int) (d : Nat) : Int :=
  if d = 0 then 0
  else
    let q := n / (d : Int)
    let r := n % (d : Int)
    if 2 * r < d then q
    else if 2 * r = d then (if q % 2 = 0 then q else q + 1)
    else q + 1

/-- The nearest value of an interval (00 R9: saturate, never wrap). -/
def clampI (lo hi v : Int) : Int := if v < lo then lo else if hi < v then hi else v

/-- Saturation to an unsigned format of `w` bits. -/
def satU (w : Nat) (v : Int) : Nat := (clampI 0 ((2 : Int) ^ w - 1) v).toNat

/-- Saturation to a signed format of `w` bits. -/
def satS (w : Nat) (v : Int) : Int := clampI (-(2 : Int) ^ (w - 1)) ((2 : Int) ^ (w - 1) - 1) v

/-- Wrap to `w` bits, for the counts the spec takes modulo a power of two. -/
def wrapU (w v : Nat) : Nat := v % 2 ^ w

/-- 00 R11: `a` precedes `b` among `w`-bit numbers when `b - a`, read as signed, is positive. -/
def precedes (w a b : Nat) : Bool :=
  let d := (b + 2 ^ w - a % 2 ^ w) % 2 ^ w
  decide (0 < d ∧ d < 2 ^ (w - 1))

/-- One byte of a bit-serial reflected CRC with polynomial `poly` (already reflected). -/
def crcStepR (poly : Nat) : Nat → Nat → Nat
  | 0, c => c
  | k + 1, c => crcStepR poly k (if c % 2 = 1 then Nat.xor (c / 2) poly else c / 2)

/-- CRC-32 of 03 R84: polynomial 0x04C11DB7 reflected, initial value and final complement of all ones. -/
def crc32 (bs : List Byte) : Nat :=
  Nat.xor (bs.foldl (fun c b => crcStepR 0xEDB88320 8 (Nat.xor c b.toNat)) 0xFFFFFFFF) 0xFFFFFFFF

/-- `n` shifts of a most-significant-bit-first CRC of `w` bits with polynomial `poly`. -/
def crcStepL (w poly : Nat) : Nat → Nat → Nat
  | 0, c => c
  | k + 1, c =>
    crcStepL w poly k
      (if c / 2 ^ (w - 1) % 2 = 1 then Nat.xor (c * 2 % 2 ^ w) poly else c * 2 % 2 ^ w)

/-- ASCII bytes of a string. -/
def asciiBytes (s : String) : List Byte := s.toList.map (fun c => byteOf c.toNat)

/-- A list with element `i` replaced; unchanged when there is none. -/
def setAt {α : Type} (l : List α) (i : Nat) (a : α) : List α := l.set i a

/-- Split a byte sequence into pieces of `n` bytes (the last may be shorter); `fuel` pieces at most. -/
def chunks (n : Nat) : Nat → List Byte → List (List Byte)
  | 0, _ => []
  | _ + 1, [] => []
  | f + 1, bs => bs.take n :: chunks n f (bs.drop n)

/-- The integer square root by Newton's rule from above, `fuel` steps. -/
def isqrtAux (n : Nat) : Nat → Nat → Nat
  | 0, x => x
  | f + 1, x => let y := (x + n / x) / 2; if y < x then isqrtAux n f y else x

/-- floor of the square root. -/
def isqrt (n : Nat) : Nat := if n = 0 then 0 else isqrtAux n (n.log2 + 4) (2 ^ (n.log2 / 2 + 1))

end Sys2Proof
end

