-- ==== Sys2Proof/Machine/Crypto.lean ====
section
/-!
DEFINITION. The published algorithms the security chapter names: SHA-256, SHA-384, HMAC-SHA-256, AES-256 in Galois counter
mode, and the verification of an ECDSA signature on P-384 (18 R559 to R572, 13 R455).  The spec names them and gives no
steps; the steps are those of FIPS 180-4, FIPS 198-1, FIPS 197, SP 800-38D and FIPS 186-5 (PRESUMED, log 19).
-/
namespace Sys2Proof

/-! ### SHA-2 (FIPS 180-4) -/

/-- A word of `w` bits rotated right. -/
def rotr (w n x : Nat) : Nat := x / 2 ^ n + x % 2 ^ n * 2 ^ (w - n)

def xor3 (a b c : Nat) : Nat := Nat.xor (Nat.xor a b) c

/-- The constants that tell SHA-256 and SHA-512 apart: word width, the rotations, the round constants. -/
structure Sha where
  w : Nat
  s0 : Nat × Nat × Nat
  s1 : Nat × Nat × Nat
  e0 : Nat × Nat × Nat
  e1 : Nat × Nat × Nat
  k : List Nat

def k256 : List Nat :=
  [0x428A2F98, 0x71374491, 0xB5C0FBCF, 0xE9B5DBA5, 0x3956C25B, 0x59F111F1, 0x923F82A4, 0xAB1C5ED5] ++
  [0xD807AA98, 0x12835B01, 0x243185BE, 0x550C7DC3, 0x72BE5D74, 0x80DEB1FE, 0x9BDC06A7, 0xC19BF174] ++
  [0xE49B69C1, 0xEFBE4786, 0x0FC19DC6, 0x240CA1CC, 0x2DE92C6F, 0x4A7484AA, 0x5CB0A9DC, 0x76F988DA] ++
  [0x983E5152, 0xA831C66D, 0xB00327C8, 0xBF597FC7, 0xC6E00BF3, 0xD5A79147, 0x06CA6351, 0x14292967] ++
  [0x27B70A85, 0x2E1B2138, 0x4D2C6DFC, 0x53380D13, 0x650A7354, 0x766A0ABB, 0x81C2C92E, 0x92722C85] ++
  [0xA2BFE8A1, 0xA81A664B, 0xC24B8B70, 0xC76C51A3, 0xD192E819, 0xD6990624, 0xF40E3585, 0x106AA070] ++
  [0x19A4C116, 0x1E376C08, 0x2748774C, 0x34B0BCB5, 0x391C0CB3, 0x4ED8AA4A, 0x5B9CCA4F, 0x682E6FF3] ++
  [0x748F82EE, 0x78A5636F, 0x84C87814, 0x8CC70208, 0x90BEFFFA, 0xA4506CEB, 0xBEF9A3F7, 0xC67178F2]

def k512 : List Nat :=
  [0x428A2F98D728AE22, 0x7137449123EF65CD, 0xB5C0FBCFEC4D3B2F, 0xE9B5DBA58189DBBC] ++
  [0x3956C25BF348B538, 0x59F111F1B605D019, 0x923F82A4AF194F9B, 0xAB1C5ED5DA6D8118] ++
  [0xD807AA98A3030242, 0x12835B0145706FBE, 0x243185BE4EE4B28C, 0x550C7DC3D5FFB4E2] ++
  [0x72BE5D74F27B896F, 0x80DEB1FE3B1696B1, 0x9BDC06A725C71235, 0xC19BF174CF692694] ++
  [0xE49B69C19EF14AD2, 0xEFBE4786384F25E3, 0x0FC19DC68B8CD5B5, 0x240CA1CC77AC9C65] ++
  [0x2DE92C6F592B0275, 0x4A7484AA6EA6E483, 0x5CB0A9DCBD41FBD4, 0x76F988DA831153B5] ++
  [0x983E5152EE66DFAB, 0xA831C66D2DB43210, 0xB00327C898FB213F, 0xBF597FC7BEEF0EE4] ++
  [0xC6E00BF33DA88FC2, 0xD5A79147930AA725, 0x06CA6351E003826F, 0x142929670A0E6E70] ++
  [0x27B70A8546D22FFC, 0x2E1B21385C26C926, 0x4D2C6DFC5AC42AED, 0x53380D139D95B3DF] ++
  [0x650A73548BAF63DE, 0x766A0ABB3C77B2A8, 0x81C2C92E47EDAEE6, 0x92722C851482353B] ++
  [0xA2BFE8A14CF10364, 0xA81A664BBC423001, 0xC24B8B70D0F89791, 0xC76C51A30654BE30] ++
  [0xD192E819D6EF5218, 0xD69906245565A910, 0xF40E35855771202A, 0x106AA07032BBD1B8] ++
  [0x19A4C116B8D2D0C8, 0x1E376C085141AB53, 0x2748774CDF8EEB99, 0x34B0BCB5E19B48A8] ++
  [0x391C0CB3C5C95A63, 0x4ED8AA4AE3418ACB, 0x5B9CCA4F7763E373, 0x682E6FF3D6B2B8A3] ++
  [0x748F82EE5DEFB2FC, 0x78A5636F43172F60, 0x84C87814A1F0AB72, 0x8CC702081A6439EC] ++
  [0x90BEFFFA23631E28, 0xA4506CEBDE82BDE9, 0xBEF9A3F7B2C67915, 0xC67178F2E372532B] ++
  [0xCA273ECEEA26619C, 0xD186B8C721C0C207, 0xEADA7DD6CDE0EB1E, 0xF57D4F7FEE6ED178] ++
  [0x06F067AA72176FBA, 0x0A637DC5A2C898A6, 0x113F9804BEF90DAE, 0x1B710B35131C471B] ++
  [0x28DB77F523047D84, 0x32CAAB7B40C72493, 0x3C9EBE0A15C9BEBC, 0x431D67C49C100D4C] ++
  [0x4CC5D4BECB3E42B6, 0x597F299CFC657E2A, 0x5FCB6FAB3AD6FAEC, 0x6C44198C4A475817]

def sha256p : Sha := ⟨32, (7, 18, 3), (17, 19, 10), (2, 13, 22), (6, 11, 25), k256⟩
def sha512p : Sha := ⟨64, (1, 8, 7), (19, 61, 6), (28, 34, 39), (14, 18, 41), k512⟩

/-- The small and the large sigma functions. -/
def Sha.small (h : Sha) (r : Nat × Nat × Nat) (x : Nat) : Nat := xor3 (rotr h.w r.1 x) (rotr h.w r.2.1 x) (x / 2 ^ r.2.2)
def Sha.large (h : Sha) (r : Nat × Nat × Nat) (x : Nat) : Nat := xor3 (rotr h.w r.1 x) (rotr h.w r.2.1 x) (rotr h.w r.2.2 x)

/-- The message schedule, newest word first, extended by `n` words. -/
def Sha.schedule (h : Sha) : Nat → List Nat → List Nat
  | 0, l => l
  | n + 1, l =>
    h.schedule n
      (((h.small h.s1 (l.getD 1 0) + l.getD 6 0 + h.small h.s0 (l.getD 14 0) + l.getD 15 0) % 2 ^ h.w) :: l)

/-- One round on the eight working words. -/
def Sha.round (h : Sha) (v : List Nat) (kw : Nat × Nat) : List Nat :=
  match v with
  | [a, b, c, d, e, f, g, hh] =>
    let t1 := hh + h.large h.e1 e + Nat.xor (Nat.land e f) (Nat.land (2 ^ h.w - 1 - e) g) + kw.1 + kw.2
    let t2 := h.large h.e0 a + xor3 (Nat.land a b) (Nat.land a c) (Nat.land b c)
    [(t1 + t2) % 2 ^ h.w, a, b, c, (d + t1) % 2 ^ h.w, e, f, g]
  | _ => v

/-- One block of sixteen words. -/
def Sha.block (h : Sha) (v : List Nat) (b : List Byte) : List Nat :=
  let ws := (List.range 16).map (fun i => beAt b (i * (h.w / 8)) (h.w / 8))
  let sched := (h.schedule (h.k.length - 16) ws.reverse).reverse
  let r := (h.k.zip sched).foldl h.round v
  (v.zip r).map (fun x => (x.1 + x.2) % 2 ^ h.w)

/-- The padded message. -/
def Sha.pad (h : Sha) (m : List Byte) : List Byte :=
  let bs := 2 * h.w
  let len := h.w / 4
  m ++ [0x80#8] ++ List.replicate ((2 * bs - (m.length + 1 + len) % bs) % bs) 0#8 ++ beBytes len (8 * m.length)

def Sha.hash (h : Sha) (iv : List Nat) (m : List Byte) : List Byte :=
  let p := h.pad m
  ((chunks (2 * h.w) (p.length + 1) p).foldl h.block iv).flatMap (beBytes (h.w / 8))

def sha256 (m : List Byte) : List Byte :=
  sha256p.hash
    ([0x6A09E667, 0xBB67AE85, 0x3C6EF372, 0xA54FF53A, 0x510E527F, 0x9B05688C, 0x1F83D9AB, 0x5BE0CD19]) m

def sha384 (m : List Byte) : List Byte :=
  (sha512p.hash
    ([0xCBBB9D5DC1059ED8, 0x629A292A367CD507, 0x9159015A3070DD17, 0x152FECD8F70E5939] ++
  [0x67332667FFC00B31, 0x8EB44A8768581511, 0xDB0C2E0D64F98FA7, 0x47B5481DBEFA4FA4]) m).take 48

/-- HMAC-SHA-256 (FIPS 198-1). -/
def hmac256 (key m : List Byte) : List Byte :=
  let k0 := if 64 < key.length then sha256 key else key
  let k := k0 ++ List.replicate (64 - k0.length) 0#8
  let x := fun (c : Nat) => k.map (fun b => byteOf (Nat.xor b.toNat c))
  sha256 (x 0x5C ++ sha256 (x 0x36 ++ m))

/-! ### AES-256 and GCM (FIPS 197, SP 800-38D) -/

/-- Doubling in the field of AES. -/
def gf2 (x : Nat) : Nat := if x < 128 then 2 * x else Nat.xor (2 * x - 256) 0x1B

/-- The product in the field of AES, over the bits of `b`. -/
def gfMul : Nat → Nat → Nat → Nat
  | 0, _, _ => 0
  | n + 1, a, b => Nat.xor (if b % 2 = 1 then a else 0) (gfMul n (gf2 a) (b / 2))

/-- The inverse: the 254th power. -/
def gfInv (x : Nat) : Nat :=
  let sq := fun (y : Nat) => gfMul 8 y y
  let r := (List.range 6).foldl (fun a _ => gfMul 8 (sq a) x) x
  sq r

/-- The S-box. -/
def sbox (x : Nat) : Nat :=
  let i := gfInv x
  let r := fun (n : Nat) => (i * 2 ^ n + i / 2 ^ (8 - n)) % 256
  Nat.xor (Nat.xor (Nat.xor i (r 1)) (Nat.xor (r 2) (r 3))) (Nat.xor (r 4) 0x63)

/-- The key schedule of AES-256: words of four bytes, newest first. -/
def aesWords (table : Array Nat) : Nat → Nat → Nat → List (List Nat) → List (List Nat)
  | 0, _, _, l => l
  | n + 1, i, rc, l =>
    let t := l.headD []
    let t := if i % 8 = 0 then
        ((t.rotateLeft 1).map (fun b => table.getD b 0)).zipIdx.map (fun b => if b.2 = 0 then Nat.xor b.1 rc else b.1)
      else if i % 8 = 4 then t.map (fun b => table.getD b 0) else t
    aesWords table n (i + 1) (if i % 8 = 0 then gf2 rc else rc) (((l.getD 7 []).zip t).map (fun b => Nat.xor b.1 b.2) :: l)

def sboxTable : Array Nat := ((List.range 256).map sbox).toArray

/-- The fifteen round keys of sixteen bytes. -/
def aesKeys (table : Array Nat) (key : List Byte) : List (List Nat) :=
  let ws := ((List.range 8).map (fun i => (slice key (4 * i) 4).map (·.toNat))).reverse
  let all := (aesWords table 52 8 1 ws).reverse
  (List.range 15).map (fun r => ((all.drop (4 * r)).take 4).flatten)

def xorNats (a b : List Nat) : List Nat := (a.zip b).map (fun x => Nat.xor x.1 x.2)

/-- MixColumns on one column. -/
def mixCol (c : List Nat) : List Nat :=
  (List.range 4).map (fun i =>
    Nat.xor (Nat.xor (gf2 (c.getD i 0)) (Nat.xor (gf2 (c.getD ((i + 1) % 4) 0)) (c.getD ((i + 1) % 4) 0)))
      (Nat.xor (c.getD ((i + 2) % 4) 0) (c.getD ((i + 3) % 4) 0)))

/-- SubBytes and ShiftRows. -/
def subShift (table : Array Nat) (b : List Nat) : List Nat :=
  (List.range 16).map (fun i => table.getD (b.getD ((i + 4 * (i % 4)) % 16) 0) 0)

/-- One block through AES-256. -/
def aesBlock (table : Array Nat) (ks : List (List Nat)) (b : List Nat) : List Nat :=
  let s0 := xorNats b (ks.getD 0 [])
  let s := (List.range 13).foldl (fun s r =>
    let x := subShift table s
    xorNats ((List.range 4).flatMap (fun c => mixCol ((x.drop (4 * c)).take 4))) (ks.getD (r + 1) [])) s0
  xorNats (subShift table s) (ks.getD 14 [])

/-- The product in the field of GCM: bit 127 is the first. -/
def ghashMul (x : Nat) : Nat → Nat → Nat → Nat
  | 0, z, _ => z
  | n + 1, z, v =>
    ghashMul x n (if bitAt x n then Nat.xor z v else z) (if v % 2 = 1 then Nat.xor (v / 2) (0xE1 * 2 ^ 120) else v / 2)

/-- GHASH over padded blocks. -/
def ghash (h : Nat) (bs : List Byte) : Nat :=
  (chunks 16 (bs.length + 1) bs).foldl (fun y b => ghashMul (Nat.xor y (beAt b 0 16)) 128 0 h) 0

def pad16 (bs : List Byte) : List Byte := bs ++ List.replicate ((16 - bs.length % 16) % 16) 0#8

/-- AES-256-GCM with a 12-byte IV: the text under the counter stream, and the tag over `ct`. -/
def gcmStream (table : Array Nat) (ks : List (List Nat)) (iv text : List Byte) : List Byte :=
  ((chunks 16 (text.length + 1) text).zipIdx).flatMap (fun b =>
    (b.1.zip (aesBlock table ks ((iv ++ beBytes 4 (b.2 + 2)).map (·.toNat)))).map (fun x => byteOf (Nat.xor x.1.toNat x.2)))

def gcmTag (table : Array Nat) (ks : List (List Nat)) (iv aad ct : List Byte) : List Byte :=
  let h := beNat ((aesBlock table ks (List.replicate 16 0)).map byteOf)
  let g := ghash h (pad16 aad ++ pad16 ct ++ beBytes 8 (8 * aad.length) ++ beBytes 8 (8 * ct.length))
  let e := beNat ((aesBlock table ks ((iv ++ beBytes 4 1).map (·.toNat))).map byteOf)
  beBytes 16 (Nat.xor g e)

/-- 13 R455: IV, ciphertext and tag of a payload. -/
def gcmSeal (key iv aad text : List Byte) : List Byte :=
  let ks := aesKeys sboxTable key
  let ct := gcmStream sboxTable ks iv text
  iv ++ ct ++ gcmTag sboxTable ks iv aad ct

/-- 13 R455: the payload behind IV, ciphertext and tag; none when the tag fails. -/
def gcmOpen (key aad b : List Byte) : Option (List Byte) :=
  if b.length < 28 then none
  else
    let ks := aesKeys sboxTable key
    let iv := b.take 12
    let ct := (b.drop 12).take (b.length - 28)
    if gcmTag sboxTable ks iv aad ct = b.drop (b.length - 16) then some (gcmStream sboxTable ks iv ct) else none

/-! ### ECDSA on P-384 (FIPS 186-5) -/

def p384 : Nat := 2 ^ 384 - 2 ^ 128 - 2 ^ 96 + 2 ^ 32 - 1
def p384n : Nat :=
  0xFFFFFFFFFFFFFFFFFFFFFFFFFFFFFFFFFFFFFFFFFFFFFFFFC7634D81F4372DDF581A0DB248B0A77AECEC196ACCC52973
def p384b : Nat :=
  0xB3312FA7E23EE7E4988E056BE3F82D19181D9C6EFE8141120314088F5013875AC656398D8A2ED19D2A85C8EDD3EC2AEF
def p384g : Nat × Nat :=
  (0xAA87CA22BE8B05378EB1C71EF320AD746E1D3B628BA79B9859F741E082542A385502F25DBF55296C3A545E3872760AB7,
   0x3617DE4A96262C6F5D9E98BF9292DC29F8F41DBD289A147CE9DA3113B5F0B8C00A60B1CE1D7E819D7A431D7C90EA0E5F)

/-- `b ^ e` modulo `m`, over the `n` low bits of `e`. -/
def powMod (m : Nat) : Nat → Nat → Nat → Nat
  | 0, _, _ => 1
  | n + 1, b, e => (if e % 2 = 1 then b else 1) * powMod m n (b * b % m) (e / 2) % m

/-- The inverse modulo a prime. -/
def invMod (m x : Nat) : Nat := powMod m 384 (x % m) (m - 2)

/-- The difference of two residues of the field. -/
def subMod (x y : Nat) : Nat := (x + (p384 - y % p384)) % p384

/-- A point doubled, in Jacobian coordinates: x / z², y / z³; z = 0 is the point at infinity. -/
def ecDouble (q : Nat × Nat × Nat) : Nat × Nat × Nat :=
  match q with
  | (x, y, z) =>
    let s := 4 * x * (y * y % p384) % p384
    let m := subMod (3 * x * x) (3 * (z * z % p384) * (z * z % p384))
    let u := subMod (m * m) (2 * s)
    (u, subMod (m * subMod s u) (8 * (y * y % p384) * (y * y % p384)), 2 * y * z % p384)

/-- The sum of two points of the curve, in Jacobian coordinates. -/
def ecAdd (p q : Nat × Nat × Nat) : Nat × Nat × Nat :=
  match p, q with
  | (x1, y1, z1), (x2, y2, z2) =>
    if z1 = 0 then q
    else if z2 = 0 then p
    else
      let u := x1 * (z2 * z2 % p384) % p384
      let v := y1 * (z2 * z2 % p384 * z2 % p384) % p384
      let h := subMod (x2 * (z1 * z1 % p384)) u
      let r := subMod (y2 * (z1 * z1 % p384 * z1 % p384)) v
      if h = 0 then (if r = 0 then ecDouble p else (1, 1, 0))
      else
        let k := u * (h * h % p384) % p384
        let c := h * h % p384 * h % p384
        let x := subMod (r * r) (c + 2 * k)
        (x, subMod (r * subMod k x) (v * c), h * z1 % p384 * z2 % p384)

/-- A multiple of a point, over the `n` low bits. -/
def ecMul : Nat → Nat → Nat × Nat × Nat → Nat × Nat × Nat
  | 0, _, _ => (1, 1, 0)
  | n + 1, k, q => ecAdd (if k % 2 = 1 then q else (1, 1, 0)) (ecMul n (k / 2) (ecDouble q))

/-- The signature r then s verifies with an uncompressed public key over a digest. -/
def ecdsaOk (pub sig digest : List Byte) : Bool :=
  let x := beAt pub 1 48
  let y := beAt pub 49 48
  let r := beAt sig 0 48
  let t := beAt sig 48 48
  if pub.head? != some 4#8 || !decide (x < p384 ∧ y < p384) || y * y % p384 != (x * x % p384 * x + (p384 - 3) * x + p384b) % p384 ||
      !decide (0 < r ∧ r < p384n ∧ 0 < t ∧ t < p384n) then false
  else
    let w := invMod p384n t
    let e := beAt digest 0 48
    match ecAdd (ecMul 384 (e * w % p384n) (p384g.1, p384g.2, 1)) (ecMul 384 (r * w % p384n) (x, y, 1)) with
    | (vx, _, vz) => vz != 0 && vx * (invMod p384 vz * invMod p384 vz % p384) % p384 % p384n == r

end Sys2Proof
end

