-- ==== Sys2Proof/Machine/Float.lean ====
section
/-!
DEFINITION. Binary64 arithmetic as exact rationals, each result rounded to 53 bits half to even, with a natural logarithm
from fixed-point series; and the exponential factor table of the tail stage (05 R179, R193, R198; 06 R233, R236).
-/
namespace Sys2Proof

/-- `q` rounded half to even to an integer (00 R9). -/
def roundQ (q : ℚ) : Int := roundDiv q.num q.den

/-- Two to an integer power. -/
def pow2Q (e : Int) : ℚ := if 0 ≤ e then ((2 ^ e.toNat : Nat) : ℚ) else 1 / ((2 ^ (-e).toNat : Nat) : ℚ)

/-- A rational rounded to 53 significant bits, half to even. -/
def r64 (q : ℚ) : ℚ :=
  if q.num = 0 then 0
  else
    let e0 : Int := (q.num.natAbs.log2 : Int) - (q.den.log2 : Int)
    let e : Int := if |q| < pow2Q e0 then e0 - 1 else e0
    let u := pow2Q (e - 52)
    (roundQ (q / u) : ℚ) * u

/-- A floating-point value that is no NaN: finite, or an infinity with its sign. -/
inductive Real64 where
  | fin (q : ℚ)
  | inf (negative : Bool)
deriving DecidableEq

/-- An IEEE 754 binary32 pattern; none for a NaN. -/
def f32? (v : Nat) : Option Real64 :=
  let s : ℚ := if bitAt v 31 then -1 else 1
  let e := fieldOf v 30 23
  let m := fieldOf v 22 0
  if e = 255 then (if m = 0 then some (.inf (bitAt v 31)) else none)
  else if e = 0 then some (.fin (s * (m : ℚ) * pow2Q (-149)))
  else some (.fin (s * ((2 ^ 23 + m : Nat) : ℚ) * pow2Q ((e : Int) - 150)))

/-- A value rounded half to even and saturated to 0 to 65,535. -/
def Real64.code : Real64 → Nat
  | .fin q => (clampI 0 65535 (roundQ q)).toNat
  | .inf negative => if negative then 0 else 65535

/-- The bits kept by the fixed-point series. -/
abbrev fixBits : Nat := 160

/-- Terms of artanh: `x + x^3/3 + x^5/5 ...` with `p` the current odd power and `x2` the square, in fixed point. -/
def artanhSum (x2 : Nat) : Nat → Nat → Nat → Nat
  | 0, _, _ => 0
  | n + 1, k, p => p / k + artanhSum x2 n (k + 2) (p * x2 / 2 ^ fixBits)

/-- ln of `n / d` with `d ≤ n < 2 d`, in fixed point. -/
def lnUnit (n d : Nat) : Nat :=
  let x := (n - d) * 2 ^ fixBits / (n + d)
  2 * artanhSum (x * x / 2 ^ fixBits) 60 1 x

/-- The natural logarithm of a rational above 1, rounded to binary64. -/
def ln64 (q : ℚ) : ℚ :=
  let n := q.num.natAbs
  let d := q.den
  let k := (n / d).log2
  r64 (((k * lnUnit 2 1 + lnUnit n (d * 2 ^ k) : Nat) : ℚ) / ((2 ^ fixBits : Nat) : ℚ))

/-- Terms of exp(-x) in fixed point: alternating, `p` the magnitude of the current term. -/
def expNegSum (x : Nat) : Nat → Nat → Nat → Int
  | 0, _, _ => 0
  | n + 1, k, p => (p : Int) - expNegSum x n (k + 1) (p * x / (2 ^ fixBits * k))

/-- 65,536 exp(-j/256), rounded half to even (05 R179): exp(-1/256)^j by squaring would lose bits, so the series runs on
the fraction and the whole part is a power of exp(-1). -/
def lagFactor (j : Nat) : Nat :=
  let one := 2 ^ fixBits
  let e1 := (expNegSum one 60 1 one).toNat
  let f := (expNegSum (j % 256 * one / 256) 60 1 one).toNat
  let w := (List.range (j / 256)).foldl (fun a _ => a * e1 / one) f
  (roundDiv (65536 * w : Nat) one).toNat

/-- The nearest integer to the square root of `n / d`, half to even. -/
def rootRound (n d : Nat) : Nat :=
  let h := isqrt (4 * n / d)
  if h % 2 = 1 ∧ h * h * d = 4 * n ∧ h / 2 % 2 = 0 then h / 2 else (h + 1) / 2

end Sys2Proof
end

