-- ==== Sys2Proof/Machine/Parts.lean ====
section
/-!
DEFINITION. The parts of the block's state beside the object dictionary: what the spec's rules say its engines remember.
Each field's docstring names the file and rule that give it; values at reset stand in Machine/State.lean.
-/
namespace Sys2Proof.Machine

/-! ### Chapter 02: boot, modes, long operations -/

/-- 02 R41, R42, R46: how far start-up has come. -/
inductive BootPhase where
  | off        -- VIN below the start threshold, or the input switch open with nothing left
  | reset      -- VIN applied, internal reset held
  | rom        -- boot ROM running
  | verified   -- an image has been accepted (18 R561)
  | recovery   -- boot recovery (R46)
  | firmware   -- steward firmware started, start-up not finished
  | running    -- STANDBY has been reached
deriving DecidableEq, Repr

/-- 02 R41 to R48, 17, 19 R589: reset and boot. -/
structure BootSt where
  /-- 02 R41, R46. -/
  phase : BootPhase
  /-- 02 R42: module time at which VIN crossed 34 V. -/
  vinAt : Nat
  /-- 02 R42: the level of RESET_N. -/
  resetN : Bool
  /-- 02 R42: tR, module time. -/
  tR : Nat
  /-- 02 Table 02-2: RESET_CAUSE of the reset now held or last released. -/
  cause : Nat
  /-- 02 R46, 18 R561: slots tried since the release (0, 1 or 2). -/
  tried : Nat
  /-- 02 Table 02-2: slot booted, 0 A or 1 B. -/
  slot : Nat
  /-- 18 R561: SVN of the image accepted. -/
  svn : Nat
  /-- 11 R406: version of the image accepted. -/
  version : Nat
  /-- 17 R589: SYSCLK present. -/
  sysclk : Bool
  /-- 16 R532: the hardware trip holds internal reset. -/
  trip : Bool
  /-- 13 R469: the store was scanned. -/
  scanned : Bool
deriving DecidableEq, Repr

/-- 02 Table 02-10: one record of a mode transaction (also the 32-byte history entry). -/
structure TxnRec where
  num : Nat
  frm : Nat
  target : Nat
  act : Nat
  outcome : Nat
  reason : Nat
  fin : Nat
  source : Nat
deriving DecidableEq, Repr

/-- 02 R60: an armed transaction. -/
structure Armed where
  txn : Nat
  target : Nat
  act : Nat
  source : Nat
  port : Nat
  reqTime : Nat
deriving DecidableEq, Repr

/-- 02 Table 02-5: a running transition. -/
structure Running where
  frm : Nat
  target : Nat
  txn : Nat
  act : Nat
  source : Nat
  deadline : Nat
  orphan : Bool
  reason : Nat
deriving DecidableEq, Repr

/-- 02: mode transactions. -/
structure ModeSt where
  /-- 02 R66: the ORPHAN sub-state. -/
  orphan : Bool
  /-- 02 R60. -/
  armed : Option Armed
  /-- 02 R54. -/
  running : Option Running
  /-- 02 R53, R64: transitions into SAFE that began while one was running; they complete with it. -/
  joined : List Running
  /-- 02 R32, R65: transaction number in force. -/
  txn : Nat
  /-- 02 R32: activation time of the mode in force. -/
  since : Nat
  /-- 02 R32: the mode in force before `since`, for a frame started earlier. -/
  prevMode : Nat
  /-- 02 R32: the transaction in force before `since`. -/
  prevTxn : Nat
  /-- 02 R52: the mode ECLIPSE was entered from. -/
  eclReturn : Nat
  /-- 02 R64: the seven records before the latest, newest first. -/
  hist : List TxnRec
  /-- 02 R57, 17 R542: fault causes that persist, as the codes of Table 02-7. -/
  causes : List Nat
  /-- 02 R51, R603: the settings marked Mode in force, by object key. -/
  inForce : List (Nat × Int)
deriving DecidableEq, Repr

/-- 02 R68 to R70, 04 R160, R162: what the running long operations work on. -/
structure OpsSt where
  /-- 04 R160: position and record key of the running COEF_LOAD. -/
  load : Option (Nat × Nat)
  /-- 02 R59, R68: positions waiting for their load, in order. -/
  loadQueue : List Nat
  /-- 04 R162, 13 R464: what the running PARAM_SAVE writes: 0 archive of a position, 1 parameter set; and its number. -/
  save : Option (Nat × Nat × Nat)
  /-- 13 R451, R461: the running STORE_COMPACT: 0 compaction, 1 format. -/
  compact : Option Nat
deriving DecidableEq, Repr

/-! ### Chapter 10: the Worset chain -/

/-- 10 R349, R382: one chain port. -/
structure ChainPort where
  /-- 10 R349. -/
  link : Bool
  /-- 10 Table 10-7, CHAIN_PORT_STATUS bit 1. -/
  pcs : Bool
  /-- 10 Table 10-7, CHAIN_PORT_STATUS bit 2. -/
  an : Bool
  /-- 10 R352: originated telegrams queued for the port, oldest first: type, payload. -/
  queue : List (Nat × List Byte)
  /-- 10 R370: telegrams waiting in the steward queue of the port. -/
  rx : Nat
deriving DecidableEq, Repr

/-- 10 R362: an open chain session. -/
structure Session where
  id : Nat
  level : Nat
  keySlot : Nat
  lastUse : Nat
deriving DecidableEq, Repr

/-- 10 R363, 18 R566: a challenge issued to an OPEN. -/
structure Challenge where
  id : Nat
  level : Nat
  keySlot : Nat
  masterNonce : List Byte
  nonce : List Byte
  at_ : Nat
deriving DecidableEq, Repr

/-- 10 R369: a kept request and its reply. -/
structure Kept where
  src : Nat
  seq : Nat
  type : Nat
  session : Nat
  payload : List Byte
  error : Bool
  reply : List Byte
  at_ : Nat
deriving DecidableEq, Repr

/-- 10 R366: STR or DOM staging. -/
structure Staging where
  session : Nat
  key : Nat
  bytes : List Byte
  lastAt : Nat
deriving DecidableEq, Repr

/-- 10: the chain. -/
structure ChainSt where
  portA : ChainPort
  portB : ChainPort
  /-- 10 R354: the upstream port is CHAIN_B. -/
  upstreamB : Bool
  /-- 10 R362: up to four sessions, most recently used first. -/
  sessions : List Session
  /-- 10 R363: challenges outstanding. -/
  challenges : List Challenge
  /-- 10 R369: up to 16 kept requests, newest first. -/
  kept : List Kept
  /-- 10 R366. -/
  staging : Option Staging
  /-- 10 R376: LEASE_MISMATCH. -/
  mismatch : Bool
  /-- 10 R361. -/
  dupStation : Bool
  /-- 10 R377: module time of the last grant or renewal. -/
  renewedAt : Nat
  /-- 10 R378: the lease record still has to be written to the keep array. -/
  leaseRetry : Bool
  /-- 10 R381: start of the second in which notifications are counted, and how many were sent in it. -/
  notifyAt : Nat
  notifySent : Nat
  /-- 10 R349: CHAIN_IF and CHAIN_ETHERTYPE as in force since the last reset. -/
  ifInForce : List Nat
  etherInForce : Nat
deriving DecidableEq, Repr

/-! ### Chapter 11: the object dictionary -/

/-- 11 R397, R398, R404: the BAR0 port. -/
structure Bar0St where
  /-- 11 R397: the high-word latch: key and upper half, until returned. -/
  latch : Option (Nat × Nat)
  /-- 11 R398: a held low word: key and word. -/
  held : Option (Nat × Nat)
  /-- 11 R404: the DOM staging buffer, 8 KiB (unlisted bytes zero). -/
  buf : List (Nat × Byte)
  /-- 11 R404: the running staging command: 1 READ or 2 WRITE, and whether it was refused. -/
  busy : Option (Nat × Bool)
deriving DecidableEq, Repr

/-! ### Chapter 13: non-volatile storage -/

/-- 13 R454: a record write in progress. -/
structure RecJob where
  key : Nat
  flags : Nat
  payload : List Byte
  seq : Nat
  stamp : Nat
  /-- 0 primary body, 1 primary COMMIT, 2 secondary body, 3 secondary COMMIT, 4 written. -/
  phase : Nat
  /-- Bytes of the body of the copy in progress already programmed. -/
  pos : Nat
  /-- Offsets in the two logs that the copies start at. -/
  priAt : Nat
  secAt : Nat
  /-- What the write serves: 0 archive, 1 parameter set, 2 log segment, 3 repair, 4 deletion. -/
  purpose : Nat
  /-- The old SEQ a repair supersedes; the first LSEQ of a log segment. -/
  oldSeq : Nat
  /-- Log entries the segment holds. -/
  count : Nat
deriving DecidableEq, Repr

/-- 13 R459: one entry of the repair list. -/
inductive Repair where
  | erase (sector : Nat)
  | rewrite (key : Nat)
deriving DecidableEq, Repr

/-- 13 R459: the journal of the record store. -/
structure Journal where
  /-- Area bounds in store sectors: primary from 0, secondary from `half`, both of `half` sectors. -/
  half : Nat
  /-- Tail sectors of the two areas, as places in the ring of the area. -/
  priTail : Nat
  secTail : Nat
  /-- Head offsets in bytes from the start of the tail sector, along the ring. -/
  priHead : Nat
  secHead : Nat
  /-- Where the first record begins behind the start of the tail sector: 0 unless the sector begins with the rest of a record that
  compaction has moved (R461; log 20). -/
  priFrom : Nat
  secFrom : Nat
  /-- The ERASING field: 0xFFFFFFFF or a store sector. -/
  erasing : Nat
  /-- Retired sectors (R462). -/
  retired : List Nat
  gen : Nat
deriving DecidableEq, Repr

/-- 13 R440 to R469, 14 R477 to R484: non-volatile storage and the flash devices. -/
structure NvSt where
  /-- 13 R440: the keep array, 512 KiB. -/
  keep : List (Nat × Byte)
  /-- 13 R441: the pages of the keep array, 256 bytes each, whose writes are read back wrong, the retry too (log 9). -/
  worn : List Nat
  /-- 13 R449: the NOR devices on SP1_CS0_N to SP1_CS3_N; a byte not listed is erased (0xFF). -/
  flash : Quad (List (Nat × Byte))
  /-- 13 R449, 14 R477: size of each device in bytes, 0 absent. -/
  size : Quad Nat
  /-- 13 R467: storage closed. -/
  closed : Bool
  /-- 13 R467: module time at which the close began. -/
  closeAt : Nat
  /-- 13 R467, Table 13-8: cause of a close whose NV_CLOSE entry waits for the flash program in progress. -/
  closeLog : Option Nat
  /-- 13 R459. -/
  journal : Option Journal
  /-- 13 R459. -/
  repairs : List Repair
  /-- 13 R454: the record write in progress, and those that wait, oldest first. -/
  job : Option RecJob
  queue : List RecJob
  /-- 14 R481: a flash program or erase in progress: device, first byte, length (0 erase of a sector), started at. -/
  flashOp : Option (Nat × Nat × Nat × Nat)
  /-- 13 R466: LSEQ of the next entry, the first not flushed, and the next segment key. -/
  logNext : Nat
  logFlushed : Nat
  logSeg : Nat
  /-- 13 R448: DEV_ON_HOURS at the last anneal. -/
  annealHours : Nat
  /-- 13 R448, R463: page of the keep-array anneal and sector of the store anneal in progress. -/
  keepAnneal : Option Nat
  storeAnneal : Option Nat
  /-- 13 R463: the area whose weak sector is being compacted, and how many sectors from its tail on are still to be reclaimed. -/
  reclaim : Option (Nat × Nat)
  /-- 13 R451, R462: the sectors whose erase has failed in the format that runs. -/
  bad : List Nat
  /-- 13 R463: SFDP advertises margin reads. -/
  marginReads : Bool
  /-- 13 Table 13-10: COUNTER_FAULT, STORE_LOW, KEEP_OK. -/
  counterFault : Bool
  storeLow : Bool
  keepOk : Bool
  /-- 11 Table 11-7: NV_FAULT since reset. -/
  nvFault : Bool
deriving DecidableEq, Repr

/-! ### Chapter 03: sensor intake -/

/-- 03 R94 to R96: what one slot of the open frame has received. -/
structure SlotRx where
  /-- Rows complete or in progress: the row number of the last accepted row. -/
  lastRow : Option Nat
  /-- First column of the last row not yet delivered; INT_WIDTH when the row is complete. -/
  nextCol : Nat
  /-- ROW packets accepted for the last row. -/
  pkts : Nat
  /-- 03 Tables 03-4, 03-9: ROIC_FAULT of the last row has been counted. -/
  fault : Bool
deriving DecidableEq, Repr

/-- 03 R88 to R97: the open frame of a position. -/
structure OpenFrame where
  /-- 01 R27. -/
  num : Nat
  /-- 03 R88: release of the mark. -/
  start : Nat
  /-- 03 R89: chain time of the last accepted packet, or of the mark. -/
  lastAt : Nat
  gotStart : Bool
  geomBad : Bool
  short : Bool
  long : Bool
  ovf : Bool
  slots : Quad SlotRx
  /-- 03 R100: SUBT of the first accepted ROW packet with SUBT_VALID. -/
  subt : Option Nat
  /-- 03 R106: rows of the heritage frame so far. -/
  hpRow : Nat
  /-- 02 R32: mode and transaction in force at the start. -/
  mode : Nat
  txn : Nat
  /-- 06 R216, R218: position in the held period of an eclipse; 0 none, 1 accumulation, 2 fit (clean) frame, 3 other held. -/
  eclKind : Nat
  /-- The geometry, slot mask, idle timeout (ns) and short-frame policy the frame is under (07 R265, R266). -/
  width : Nat
  height : Nat
  mask : Nat
  timeout : Nat
  dropShort : Bool
  /-- 03 R89: close cause and chain time, once closed. -/
  close : Nat
  closedAt : Nat
  /-- 08 R317: what made the start: kind, event time, start, count, sequence number. -/
  trigKind : Nat
  trigT : Nat
  trigE : Nat
  trigSeq : Nat
deriving DecidableEq, Repr

/-- 04 Tables 04-3 to 04-6: the coefficients of one pixel and slot as a prefetcher delivers them. -/
structure Entry where
  o0 : Int
  g : Nat
  d : Int
  c : Int
  tau : Nat
  flags : Nat
  repl : Nat
  /-- 04 R140: CHK matches. -/
  chkOk : Bool
  dslot : Int
deriving DecidableEq, Repr

/-- 03 R96, R102: a row packet, or a synthesised piece of a row, in the intake buffer; its frame number first. -/
structure RowPkt where
  num : Nat
  slot : Nat
  row : Nat
  col0 : Nat
  data : List Nat
  /-- Every readout carries INVALID. -/
  invalid : Bool
  /-- The row was synthesised (R96). -/
  synth : Bool
  /-- 03 R100: the substrate sample, when the packet has one. -/
  subt : Option Nat
  /-- 03 R102: bytes held, in the reserve and in the shared area. -/
  bytes : Nat
  shared : Bool
  /-- 04 R143: the coefficient entries, once they have arrived. -/
  entries : Option (List Entry)
deriving DecidableEq, Repr

/-- 03: the intake of one position. -/
structure IntakePos where
  frm : Option OpenFrame
  /-- 01 R27: number of the next frame. -/
  nextNum : Nat
  /-- 03 R93: chain time of the last close. -/
  closedAt : Nat
  /-- 01 R22: the closed frames whose drain is not complete, oldest first. -/
  ended : List OpenFrame
  /-- 03 R102, R104: the packets in the buffer, in arrival order. -/
  fifo : List RowPkt
  /-- 03 R90: frame tags of unsolicited frames. -/
  unsol : List Nat
  /-- 03 R108: substrate temperature read for the next heritage frame. -/
  hpSubt : Option Nat
  /-- 03 Table 03-10: the last closed frame's bits OVERFLOW, GEOM_MISMATCH, LAST_LONG, LAST_SHORT. -/
  lastOvf : Bool
  lastGeom : Bool
  lastLong : Bool
  lastShort : Bool
deriving DecidableEq, Repr

/-- 03 R78 to R81: a lane. -/
structure Lane where
  cdr : Bool
  block : Bool
  /-- 03 R78: the last 58 bits received, the earliest the least significant: what the descrambler works with. -/
  scr : Nat
  /-- The lane has delivered a marker with its stripe index, at this stripe position. -/
  marker : Option Nat
deriving DecidableEq, Repr

/-- 03 R105 to R107: the sampler of the heritage port. -/
structure HpSampler where
  /-- FVAL and LVAL were active at the last sampling edge. -/
  fval : Bool
  lval : Bool
  /-- 03 R106: sampling edges for which FVAL has been inactive, at most 8. -/
  gap : Nat
  /-- The frame that the present FVAL period delivers. -/
  num : Option Nat
  /-- Readouts of the row in progress. -/
  cols : List Nat
deriving DecidableEq, Repr

/-- 03 R82, R104, R105: what the intake as a whole holds beside its positions. -/
structure LinkSt where
  /-- 03 R82: the packet each lane group is receiving. -/
  asm : Quad (Option (List Byte))
  /-- 03 R104: the position whose turn the intake buffer served last. -/
  turn : Pos
  hp : HpSampler
deriving DecidableEq, Repr

/-- 03 Tables 03-5 and R122: a word sent on SP0.  `op`: 0 WRITE, 1 READ, 2 START, 3 NOP; heritage: 4 write, 5 read that
verifies a write of `data`, 6 SYNC, 7 read of the temperature register, 8 identity read, 9 a read that only collects. -/
structure Sp0Word where
  op : Nat
  seq : Nat
  reg : Nat
  data : Nat
deriving DecidableEq, Repr

/-- 03 R111 to R122: the module's view of one FPA. -/
structure FpaSt where
  /-- 03 R112. -/
  seq : Nat
  /-- 03 R114: the last word that awaits its reply. -/
  sent : Option Sp0Word
  /-- 03 R118: WRITEs still to send in this vertical blank: register and value. -/
  todo : List (Nat × Nat)
  /-- 03 R118: words refused once in this vertical blank. -/
  refused : List (Nat × Nat)
  /-- 03 R118: words already resent in this vertical blank. -/
  resent : List (Nat × Nat)
  /-- 03 R119: words to send again in the next vertical blank. -/
  carry : List (Nat × Nat)
  /-- 03 R119: integration register counts and slot mask the FPA acknowledged (shadow, applied at the next START). -/
  shadowTint : List Nat
  shadowMask : Nat
  /-- 03 R119: counts and slot mask in effect since the last START. -/
  effTint : List Nat
  effMask : Nat
  /-- 03 R119: those in effect before that START, while it may still prove refused. -/
  oldTint : List Nat
  oldMask : Nat
  /-- 03 R122: heritage writes whose read-back was cut off by the mark; they are written again and verified. -/
  unread : List (Nat × Nat)
  /-- 03 R121: identity words read so far, tries of the current one, and whether the reads have ended. -/
  ids : List Nat
  idTries : Nat
  idDone : Bool
  silent : Bool
  /-- 03 R118: the five integration words last asked of the FPA. -/
  want : List (Nat × Nat)
  /-- 03 R121: the identity reads run. -/
  idOn : Bool
  /-- 03 R108: the heritage temperature read is still to be sent; it awaits its value. -/
  temp : Bool
  tempSent : Bool
  /-- 03 R118, R119: a vertical blank is open. -/
  blank : Bool
deriving DecidableEq, Repr

/-- 03 R111, R115, R116: a transaction on a select; `kind` 0 mark, 1 settings, 2 collect, 3 identity, 4 heritage
temperature. -/
structure Sp0Txn where
  kind : Nat
  words : List (Pos × Sp0Word)
  endAt : Nat
deriving DecidableEq, Repr

/-- 03 R111, 14 R471 to R476: one select of SP0. -/
structure Sp0Sel where
  busy : Option Sp0Txn
  lastRelease : Nat
deriving DecidableEq, Repr

/-! ### Chapters 04 and 05: the pixel path -/

/-- 04 Table 04-2: a corrected readout with its tags, and what the later steps need of it: raw and linearised values (raw
and H2 output in heritage order), and the coefficients that came with it. -/
structure CorrPx where
  raw : Nat
  x : Nat
  y : Int
  invalid : Bool
  sat : Bool
  planeErr : Bool
  flags : Nat
  repl : Nat
  tau : Nat
deriving DecidableEq, Repr

/-- 04 R164: a raw row of a heritage frame: readout, INVALID, coefficients of each pixel; the frame's temperature. -/
structure HerRow where
  row : Nat
  px : List (Nat × Bool × Entry)
  subt : Option Nat
deriving DecidableEq, Repr

/-- 04 R146: a row in the replacement stage's line buffer. -/
structure CorrRow where
  slot : Nat
  row : Nat
  px : List CorrPx
  synth : Bool
deriving DecidableEq, Repr

/-- 05: a readout that has left the tail stage. -/
structure TailPx where
  z : Int
  invalid : Bool
  sat : Bool
  clip : Bool
  restart : Bool
  replaced : Bool
  unreplaced : Bool
deriving DecidableEq, Repr

/-- 05 R191: a row in the merge window or in staging. -/
structure TailRow where
  slot : Nat
  row : Nat
  px : List TailPx
  staged : Bool
deriving DecidableEq, Repr

/-- 05 R188, R192, R199: a pixel after merge and radiometry. -/
structure OutPx where
  t : Nat
  p : Nat
  invalid : Bool
  sat : Bool
  blended : Bool
  range : Nat
  clip : Bool
  restart : Bool
  replaced : Bool
  unreplaced : Bool
  /-- 07 R275: z of slot L below STAT_LOW_LEVEL. -/
  low : Bool
deriving DecidableEq, Repr

/-- A row of pixels before or after the output filters. -/
structure OutRow where
  row : Nat
  px : List OutPx
deriving DecidableEq, Repr

/-- 01 R31, 09 Table 09-4: what travels with the frame of a position from its hand-over. -/
structure FrameCtx where
  num : Nat
  start : Nat
  width : Nat
  height : Nat
  /-- Slots the intake delivers, and the mask and times (ns) the FPA acknowledged (03 R119, 07 R254). -/
  mask : Nat
  ackMask : Nat
  times : List Nat
  heritage : Bool
  dropShort : Bool
  /-- 07 R265: the governing set of the frame. -/
  gov : List (Nat × Int)
  settingsGen : Nat
  coefGen : Nat
  coefTag : Nat
  mode : Nat
  txn : Nat
  role : Nat
  epoch : Nat
  station : Nat
  trigKind : Nat
  trigT : Nat
  trigE : Nat
  trigSeq : Nat
  eclAge : Nat
  driftAge : Nat
  eclCount : Nat
  throttle : Nat
  throttled : Bool
  notReady : Bool
  eclipsed : Bool
  subt : Option Nat
  short : Bool
  long : Bool
  clipped : Bool
  /-- 06 R218, R232: what the frame is to its eclipse, as OpenFrame.eclKind. -/
  eclKind : Nat
  /-- 03 R97, 09 Table 09-4: the close cause and when. -/
  close : Nat
  closedAt : Nat
  /-- 03 Table 03-10: GEOM_MISMATCH and OVERFLOW of the frame. -/
  geom : Bool
  overflow : Bool
deriving DecidableEq, Repr

/-- 09 R327: a frame whose drain is complete and whose ingots are being written. -/
structure DoneFrame where
  ctx : FrameCtx
  rows : List OutRow
  stat : List Byte
  dropped : Bool
  /-- 09 R337: the tap samples of the frame: tap, slot, row, values. -/
  taps : List (Nat × Nat × Nat × List Nat)
deriving DecidableEq, Repr

/-- 04 R142 to R144: a block of 32 base entries of a row that a prefetcher holds, and for how many further row packets of the
position it may be reused (03 R94). -/
structure HeldBlock where
  row : Nat
  block : Nat
  base : List Byte
  left : Nat
deriving DecidableEq, Repr

/-- The coefficient objects of a position that a frame is processed with: linearisation table, T0, temperature tables and slot ratios
of the four ranges, the heritage drift objects (04 R151). -/
structure Calib where
  lut : List Byte
  t0 : Nat
  rad : Quad (List Byte)
  ratio : Quad Nat
  herDrift : Int
  herTref : Nat
deriving DecidableEq, Repr

/-- Chapters 04, 05: the pixel path of one position. -/
structure PipePos where
  frm : Option FrameCtx
  /-- 04 R129: the substrate track (1/1,024 K). -/
  track : Int
  trackEmpty : Bool
  /-- 04 R131: a valid substrate sample was accepted in this frame. -/
  gotSubt : Bool
  /-- 04 R144: the base-plane blocks the prefetchers hold for the frame. -/
  blocks : List HeldBlock
  /-- 04 R151, 05 R198: the coefficient objects as the frame's hand-over took them. -/
  calib : Calib
  /-- 04 R132, R164 H1: raw rows of a heritage frame waiting for their neighbour rows. -/
  rawRows : List HerRow
  /-- 04 R146. -/
  corr : List CorrRow
  /-- Rows of each slot already out of the replacement stage. -/
  outOf : Quad Nat
  /-- 05 R191: rows out of the tail stage that wait for merge. -/
  tailRows : List TailRow
  /-- Rows merged and converted, waiting for the filters. -/
  merged : List OutRow
  /-- Rows out of the filters. -/
  rows : List OutRow
  /-- 05 R185. -/
  noiseSum : Nat
  noiseCount : Nat
  noiseMax : Nat
  /-- 05 R184. -/
  clipped : Bool
  /-- 05 R191. -/
  staged : Bool
  /-- 05 Table 05-9. -/
  satSeen : Bool
  /-- 07 R275: SLOT_SAT. -/
  slotSat : List Nat
  /-- 05 Tables 05-8, 05-9; 04 Table 04-15: bits about the last closed frame. -/
  lastClipped : Bool
  lastStaged : Bool
  lastSat : Bool
  subtHeld : Bool
  /-- 09 R327: frames drained and not yet complete in their rings. -/
  done : List DoneFrame
deriving DecidableEq, Repr

/-- 04 R151 to R171: the coefficient set of one position. -/
structure CoefPos where
  /-- 01 R29: a completed change waits for the next hand-over. -/
  changed : Bool
  /-- 05 R178: that change is a load, a host open and close or an import. -/
  changedByLoad : Bool
  /-- 04 R155: NOT_READY from the open has not ceased. -/
  notReady : Bool
  /-- 05 R178: TAIL_HIST_RESET waits for the next hand-over. -/
  histReset : Bool
  /-- 04 R171: the order the set in service is for: 0 native, 1 heritage, 2 none. -/
  format : Nat
  /-- 04 R152, R603: a frame of the position has been started since the last entry. -/
  started : Bool
  /-- 04 R152: a mark has been issued and its frame has not drained. -/
  busyFrame : Bool
  /-- 04 R161: ID_MISMATCH. -/
  idMismatch : Bool
  /-- 05 R193: PLANCK ranges expanded, NONMONO bits (R195). -/
  nonmono : Nat
  /-- 04 R155: the source the change came from (CORR_COEF_SOURCE). -/
  source : Nat
deriving DecidableEq, Repr

/-! ### Chapter 07: generations, auto-integration, VDET, statistics -/

/-- 07 R260 to R273: the settings sets of one position and its auto-integration. -/
structure GenPos where
  /-- 07 R260: the three sets, by object key. -/
  pend : List (Nat × Int)
  act : List (Nat × Int)
  gov : List (Nat × Int)
  dirty : Bool
  committed : Bool
  /-- 07 R271: consecutive evaluated frames of SHORTER, LONGER and FEWER. -/
  runShorter : Nat
  runLonger : Nat
  runFewer : Nat
  /-- 07 R272: evaluated frames before a refused decision may be retried. -/
  holdoff : Nat
  /-- 07 R272: a decision waits in the pending set. -/
  aiWaiting : Bool
  /-- 07 Table 07-5: AI_LIMIT. -/
  aiLimit : Bool
deriving DecidableEq, Repr

/-- 07 R256 to R259: the VDET supply of one position. -/
structure VdetPos where
  /-- Code the output is ramping to. -/
  target : Nat
  /-- End of the running ramp, chain time; none when no ramp runs. -/
  rampEnd : Option Nat
  /-- 07 R257: the slew of the running ramp, mV/ms. -/
  slew : Nat
  settleAt : Option Nat
  fault : Bool
  /-- 07 R257: the last settle instant that has passed: a frame that started before it carries NOT_READY. -/
  settled : Nat
  /-- 07 R258: code that the last completed eclipse was measured under; none while none is known. -/
  eclCode : Option Nat
  /-- 07 R257: a generation activated at the hand-over into the frame in the pipeline changes the code; the ramp waits for its close. -/
  follow : Bool
  /-- 16 R533: the trim of the DAC in force, in DAC codes. -/
  trim : Int
deriving DecidableEq, Repr

/-- 07 R278 to R281: the statistics buffers of one position. -/
structure StatPos where
  /-- The published block without its CRC, most significant byte first and least significant byte first. -/
  blockBE : List Byte
  blockLE : List Byte
  published : Bool
  /-- 07 R279: snapshots: session, block, time taken. -/
  snaps : List (Nat × List Byte × Nat)
  /-- 07 R280: the copy that runs, with its frame number. -/
  latch : Option Nat
  histOut : Bool
  /-- 07 R271: what auto-integration reads of the published frame: V parts and slot counts. -/
  pixValid : Nat
  pixSat : Nat
  slotUse : List Nat
  slotLow : List Nat
  gen : Nat
deriving DecidableEq, Repr

/-! ### Chapter 06: eclipse calibration -/

/-- 06: the values of the eclipse objects latched at the grant. -/
structure EclParams where
  n : Nat
  framePeriod : Nat
  targetMode : Nat
  tsrc : Nat
  pulseMax : Nat
  pulseHold : Nat
  cfg : Nat
  settle : Nat
  recover : Nat
  guardUs : Nat
  rowT0 : Nat
  rowPitch : Nat
  travelClose : List Nat
  travelOpen : List Nat
  fitMinStep : Nat
  tauMinEst : Nat
  forget : Nat
  minW : Nat
  linSpan : Nat
  quadSpan : Nat
  defOfs : Nat
  defNoise : Nat
  defSet : Nat
  defCap : Nat
  defMax : Nat
  learn : Nat
deriving DecidableEq, Repr

/-- 06 R213 to R252: the eclipse engine of one position (ECL_PHASE itself stands in the dictionary). -/
structure EclPos where
  /-- 06 R242: kind requested: 0 none, 1 full, 2 partial. -/
  kind : Nat
  /-- 06 R247: requested by ECL_REQUEST. -/
  requested : Bool
  /-- 06 R244: due. -/
  due : Bool
  /-- 06 R251: chain time since which the position has been due in RUN. -/
  dueSince : Nat
  granted : Bool
  params : Option EclParams
  /-- 06 R216: F0's actual start and the held period; the number of the last held start made or dropped. -/
  f0Start : Option Nat
  period : Nat
  heldK : Nat
  /-- 06 Table 06-2: settings of F0: slot times, mask, VDET, width, height. -/
  f0Set : List Nat
  /-- 06 R250: the window of the grant: its end; none without a window. -/
  windowEnd : Option Nat
  /-- 06 R214: pulse start, closed and open sensor times of this eclipse. -/
  closeStart : Option Nat
  openStart : Option Nat
  closedAt : Option Nat
  openAt : Option Nat
  /-- 06 R219: good frames, frames taken, and the sum of CORR_SUBT_START over the good frames. -/
  accGood : Nat
  accTaken : Nat
  subtSum : Int
  /-- 06 R229: shutter-temperature samples over the accumulation: sum and count. -/
  tshSum : Int
  tshN : Nat
  /-- 06 R220: clean frames handed over since the opening edge. -/
  cleanFrames : Nat
  /-- 06 R220, R225: UPDATE has ended. -/
  updateDone : Bool
  /-- 06 R220: OPENING has ended. -/
  openingDone : Bool
  /-- 06 R225: chain time at which a faulted opening pulse is repeated. -/
  retryAt : Option Nat
  /-- 06 R223: result decided before the return to IDLE (0 none yet). -/
  result : Nat
  /-- 06 R213: this eclipse's frames carry ECLIPSED. -/
  flag : Bool
  /-- 06 R211: ECLIPSED held because the shutter could not be opened. -/
  heldFlag : Bool
  /-- 02 R58: a mandatory eclipse is still owed. -/
  mandatory : Bool
  /-- 06 R248: the position has ended its part in ECLIPSE mode: 0 not yet, 1 completed, 2 not completed. -/
  part : Nat
  /-- 06 Table 06-6. -/
  shutFault : Bool
  overdue : Bool
  overdueSent : Bool
  targetFallback : Bool
  /-- 06 R251: the last instant at which a window that is over covered the position. -/
  coveredTill : Nat
  /-- 06 R245: t_acc of the previous completed eclipse, when there was one. -/
  prevTacc : Option Int
  /-- 06 R228 to R241: t_acc, residual and fit counts of the UPDATE in progress. -/
  tAcc : Int
  /-- 06 R239: state reached by the refit of this eclipse (0 none set). -/
  driftState : Nat
  /-- 06 R232: the number of clean frames stored for each row after the closing edge. -/
  fitRows : List (Nat × Nat)
  /-- 06 R216: a held start has been dropped since the last frame of the held period. -/
  gap : Bool
  /-- 06 R226, R232: the linearised readouts of the frame in the pipeline, taken by the engine as they enter their slices. -/
  cap : List CorrRow
  /-- 06 R219, R227: good accumulation frames whose readouts are in the work area. -/
  accIn : Nat
  /-- 06 R227: CORR_SUBT_START at the hand-over of the frame in the pipeline. -/
  frameSubt : Int
  /-- 06 R231: the last good accumulation frame. -/
  lastCtx : Option FrameCtx
  /-- 06 Table 06-1: UPDATE is in progress; R225, R602: it has written the planes. -/
  updating : Bool
  wrote : Bool
deriving DecidableEq, Repr

/-- 06 R207 to R209: one shutter pulse. -/
structure Pulse where
  pos : Pos
  /-- true closing, false opening. -/
  closing : Bool
  /-- 0 eclipse, 1 opening under R211, 2 ECL_SHUT_CMD, 3 ECL_FAULT_CLEAR, 4 repeat of R225, 5 opening after an early end. -/
  purpose : Nat
deriving DecidableEq, Repr

/-- 06 R209: the shutter arbiter and the shutter supply. -/
structure ShutterSt where
  queue : List Pulse
  running : Option (Pulse × Nat)
  /-- 06 R209: end of the previous pulse. -/
  lastEnd : Option Nat
  /-- 06 R208: the end sensors: closed and open contact of each position, and since when each has been asserted. -/
  closedPin : Quad (Option Nat)
  openPin : Quad (Option Nat)
  /-- 06 R206: levels of SHUTn_A and SHUTn_B. -/
  outA : Quad Bool
  outB : Quad Bool
deriving DecidableEq, Repr

/-- 06 R249: a chain window. -/
structure Window where
  start : Nat
  fin : Nat
  mask : Nat
deriving DecidableEq, Repr

/-! ### Chapter 08: chain time, encoders, triggers -/

/-- 08 R284 to R293: chain time, the slave clock and PPS. -/
structure TimeSt where
  /-- 08 R284: chain time, ns, 64 bits. -/
  now : Nat
  /-- 10 R377: the module's own monotonic time, ns since VIN rose. -/
  mono : Nat
  /-- 11 Table 11-6: module time of the last release of internal reset. -/
  bootMono : Nat
  /-- 08 R286: consecutive good offsets (ACQUIRING) and bad ones (LOCKED). -/
  good : Nat
  bad : Nat
  /-- 08 Table 08-1: chain time of the last measurement, and the Sync interval in ns. -/
  lastMeas : Option Nat
  syncInterval : Nat
  /-- 08 R285: the selected master: announce data as one number each, its port identity, and the chain port. -/
  master : Option (List Nat)
  masterPort : Nat
  /-- 08 R285: Sync times t1 (corrected) and t2 of the exchange in progress, in 2^-16 ns. -/
  sync : Option (Int × Int)
  /-- 08 R285: the sequence number of a two-step Sync that awaits its Follow_Up. -/
  twoStepSeq : Option Nat
  /-- 08 R285: Delay_Req time t3 of the exchange in progress, in 2^-16 ns, and the sequence number of the next Delay_Req. -/
  delayAt : Option Int
  delaySeq : Nat
  /-- 08 R285: the mean path delay to the selected master, in 2^-16 ns, once measured. -/
  path : Option Int
  /-- 08 R285: module time of the last Announce of the selected master. -/
  masterSeen : Nat
  /-- 08 R287: module time of the entry to HOLDOVER. -/
  holdoverAt : Nat
  /-- 08 Table 08-6: STEP_BLOCKED, SLEWING, GM_CHANGED. -/
  stepBlocked : Bool
  slewing : Bool
  gmChanged : Bool
  /-- 08 R285: seconds value for the next PPS_IN edge. -/
  ppsSeconds : Option Nat
  ppsSeenAt : Option Nat
  /-- 08 R292: the level of PPS_OUT and its end. -/
  ppsOut : Bool
  ppsEnd : Nat
deriving DecidableEq, Repr

/-- 08 R294 to R298: one encoder. -/
structure Encoder where
  a : Bool
  b : Bool
  /-- 08 R297: ZMODE 3 still waits for its first edge. -/
  zArmed : Bool
  zSeen : Bool
  reverse : Bool
  err : Bool
  /-- 08 R298: count at the last update of ENC_SPEED. -/
  lastCount : Nat
  /-- 08 R295: module time of the last NOTIFY for illegal transitions. -/
  errNotifyAt : Option Nat
deriving DecidableEq, Repr

/-- 08 R300 to R305: one trigger generator. -/
structure Generator where
  /-- 08 R302: next thresholds upward and downward. -/
  nextUp : Nat
  nextDn : Nat
  /-- 08 R301: counted edges since the last event. -/
  edges : Nat
  /-- 08 R303: time of the previous event. -/
  lastT : Option Nat
  /-- 08 R305: sequence number of the next published event. -/
  seq : Nat
  /-- 08 R289: next TIMER instant. -/
  nextTimer : Nat
deriving DecidableEq, Repr

/-- 08 R306: a chain channel. -/
structure Channel where
  lastS : Option Nat
  lastSeq : Option Nat
deriving DecidableEq, Repr

/-- 08 R308, R317: a scheduled start, with its provenance. -/
structure Start where
  s : Nat
  t : Nat
  e : Nat
  kind : Nat
  seq : Nat
deriving DecidableEq, Repr

/-- 08 R307 to R317: the frame starts of one position. -/
structure TrigPos where
  /-- Scheduled starts, earliest first. -/
  queue : List Start
  /-- 08 R312: the held start, and its computed instant once known. -/
  held : Option Start
  heldAt : Option Nat
  /-- Committed mark transactions: release instant and start. -/
  marks : List (Nat × Start)
  /-- 08 R310: the previous actual start. -/
  lastStart : Option Nat
  /-- 08 R315: the next start is dropped under the halved rate. -/
  dropNext : Bool
deriving DecidableEq, Repr

/-- 08 R318, R319: one trigger output. -/
structure TrigOut where
  high : Bool
  endAt : Nat
  /-- Instants (already delayed) of pulses that have not begun, with their widths. -/
  pend : List (Nat × Nat)
deriving DecidableEq, Repr

/-! ### Chapter 09: image output -/

/-- 09 R342 to R346, 12 Table 12-8: one ingot slot of a ring. -/
structure RingSlot where
  /-- 12 Table 12-8: 0 FREE, 1 FILLING, 2 WAITING, 3 SENDING, 4 SENT (held for a channel). -/
  st : Nat
  pos : Nat
  frame : Nat
  /-- 09 Table 09-2: 0x00 image, 0x10 + n tap. -/
  stream : Nat
  /-- Output port the ingot leaves on, its destination, and the lease it was made under. -/
  port : Nat
  dst : Nat
  role : Nat
  epoch : Nat
  len : Nat
  /-- 12 R412: the slot's DRAM address, fixed when it is taken. -/
  addr : Nat
  /-- 12 Table 12-8: SEQ at completion, and the order of completion over all rings. -/
  seq : Nat
  order : Nat
  /-- Payload lengths of the datagrams, in sending order. -/
  lens : List Nat
  /-- 12 R431, R432: a channel copies the slot; a channel has taken the entry. -/
  held : Bool
  taken : Bool
deriving DecidableEq, Repr

/-- 09 R342: a ring: its slots, the slot size in bytes, and the ingots completed in it (12 Table 12-8, SEQ). -/
structure Ring where
  slots : List RingSlot
  size : Nat
  count : Nat
deriving DecidableEq, Repr

/-- 09 R325: an ARP entry. -/
structure ArpEntry where
  ip : Nat
  mac : Option Nat
  /-- Module time of the last request or refresh. -/
  at_ : Nat
  unanswered : Nat
deriving DecidableEq, Repr

/-- 09: one output port. -/
structure OutPort where
  link : Bool
  blockLock : Bool
  fecLock : Bool
  /-- 09 R323: hold end and hold start (module time). -/
  pausedUntil : Option Nat
  pauseStart : Nat
  pauseNotified : Bool
  /-- 09 R344, R345: the ingot being sent: ring, slot, index of its next datagram and that datagram's offset in the slot. -/
  sending : Option (Nat × Nat × Nat × Nat)
  /-- 09 R324: the destination MAC address of the ingot being sent. -/
  mac : Nat
  /-- 09 R345: the egress FIFO: datagram payloads of that ingot fetched ahead, at most 256 KiB. -/
  fifo : List (List Byte)
  arp : List ArpEntry
  /-- 09 R326: second and count of echo replies. -/
  icmpAt : Nat
  icmpN : Nat
  /-- 09 R331: STREAM_SEQ per stream (0x00 plus position, 0x10 + n). -/
  seq : List (Nat × Nat)
  /-- 09 R323: frames other than datagrams that wait for the end of a PAUSE: destination and bytes, oldest first. -/
  waiting : List (Nat × List Byte)
deriving DecidableEq, Repr

/-- 09 R337 to R342: one tap. -/
structure TapSt where
  /-- Samples collected for the frame in the pipeline: slot, row, values in the tap's encoding. -/
  rows : List (Nat × Nat × List Nat)
  /-- 09 Table 09-8, TAP_STATUS bit 2. -/
  lastDropped : Bool
deriving DecidableEq, Repr

/-! ### Chapter 12: frame memory, host port, DMA -/

/-- 12 R407 to R420: frame memory. -/
structure MemSt where
  /-- 12 R407: the 8 GiB of DRAM; a byte not listed reads 0 (log 2). -/
  dram : List (Nat × Byte)
  /-- 12 R413: controllers running; devices in self-refresh; trained since reset (Table 12-12). -/
  online : Bool
  selfRefresh : Bool
  trained : Bool
  retrained : Bool
  offlineAccess : Bool
  /-- 12 R408: module time of the last refresh-mode read. -/
  refreshAt : Nat
deriving DecidableEq, Repr

/-- 12 R421 to R424: the PCI Express endpoint. -/
structure HostSt where
  perstN : Bool
  link : Bool
  d3hot : Bool
  busMaster : Bool
  msixEn : Bool
  /-- 12 R424: function mask, per-vector masks and pending bits, as 32-bit words. -/
  fnMask : Bool
  vecMask : Nat
  vecPend : Nat
  /-- 12 R421, 02 R45: HP_ENABLE as in force since the last reset. -/
  enabled : Bool
  /-- 12 R424, Table 12-4: address and data of the MSI-X table, three words a vector. -/
  msixTable : List Nat
  /-- 12 Table 12-4: HP_SUBSYS_ID as in force since the last reset. -/
  subsys : Nat
  /-- 12 Table 12-4: the addresses the host has given to BAR0, BAR2, BAR3 and BAR4, as 32-bit words (log 79). -/
  bars : List Nat
  /-- 12 Table 12-4: Device Control: payload and read request sizes as programmed (log 79). -/
  devCtl : Nat
  /-- 12 R397, R422: the BAR4 low-word latch: register offset and upper half. -/
  latch : Option (Nat × Nat)
  /-- 18 R568: the host-port session: level, key slot, and module time of the last activity. -/
  session : Option (Nat × Nat × Nat)
  /-- 18 R568: the challenge outstanding on the host port. -/
  challenge : Option (Nat × Nat × List Byte × List Byte × Nat)
  /-- 12 R434: the channel last served in the class with PRIO set and in the class with PRIO clear. -/
  rrHi : Nat
  rrLo : Nat
  /-- 12 Table 12-11, MEM_HOST_BW: module time and bytes of the host's accesses of the last 10 ms. -/
  bw : List (Nat × Nat)
deriving DecidableEq, Repr

/-- 12 Table 12-6: a descriptor. -/
structure Desc where
  host : Nat
  dev : Nat
  len : Nat
  flags : Nat
  /-- 12 Table 12-6: bytes 20 to 23 other than the defined flags. -/
  reserved : Nat
deriving DecidableEq, Repr

/-- 12 R434: a descriptor in progress: what it moves, bytes moved, bursts started, start of burst 0. -/
structure DescRun where
  desc : Desc
  dev : Nat
  len : Nat
  moved : Nat
  bursts : Nat
  t0 : Nat
  /-- 12 R431: table, slot and SEQ of the index entry taken. -/
  entry : Option (Nat × Nat × Nat)
  /-- 12 Table 12-7: the result decided so far. -/
  result : Nat
  /-- A burst is the last (all moved, aborted or cut). -/
  ending : Bool
deriving DecidableEq, Repr

/-- 12 R425 to R435: one DMA channel (its DMA_STATE stands in the dictionary). -/
structure DmaCh where
  head : Nat
  tail : Nat
  pending : Nat
  overrun : Bool
  bytes : Nat
  lastResult : Nat
  cur : Option DescRun
  /-- 12 R435: STOP or ABORT waits for the descriptor: 0 none, 1 stop, 2 abort. -/
  stopReq : Nat
deriving DecidableEq, Repr

/-! ### Chapter 14: serial ports -/

/-- 14 R485 to R496: the SP1 and SP0 slave side. -/
structure SlaveSt where
  /-- 14 R490: OVR, FRAME, CMD_ERR of the previous transaction, per port SP0, SP1. -/
  ovr0 : Bool
  frame0 : Bool
  cmd0 : Bool
  ovr1 : Bool
  frame1 : Bool
  cmd1 : Bool
  /-- 14 Table 14-6: the sticky bits, per port: bits 6 CMD_ERR, 5 OVR, 4 FRAME_ERR. -/
  sticky0 : Nat
  sticky1 : Nat
  /-- 14 Table 14-4: the mailbox registers. -/
  mbxIndex : Nat
  mbxSub : Nat
  mbxState : Nat
  mbxDtype : Nat
  mbxAbort : Nat
  mbxData : Nat
  mbxDone : Bool
  /-- A mailbox command waits to execute: 0 none, 1 READ, 2 WRITE. -/
  mbxCmd : Nat
  /-- 14 Table 14-4: the upload registers. -/
  upOffset : Nat
  upSlot : Nat
  upState : Nat
  upResult : Nat
  upData : List (Nat × Byte)
  upCmd : Nat
  /-- 14 R496: the PROGRAM that runs has erased the sector its page begins. -/
  upErased : Bool
deriving DecidableEq, Repr

/-- 14 R470 to R498: SP1 as master and the shared bus. -/
structure SerialSt where
  slave : SlaveSt
  /-- 14 R486: SP1_SLV_N is high, and since when; SP1_BUSREQ_N pulled low since when; the module owns the bus. -/
  slvHigh : Bool
  slvSince : Nat
  busReq : Option Nat
  owned : Bool
  handoverTo : Bool
  /-- 14 R485: SP1_ROLE in force. -/
  role : Nat
  /-- 14 R482: the two halves of the prefetch buffer: select and block number. -/
  xip0 : Option (Nat × Nat)
  xip1 : Option (Nat × Nat)
  /-- 14 R483: the select in continuous read. -/
  cont : Option Nat
  /-- 14 R498: transactions run by SP1_RAW_XFER. -/
  rawCount : Nat
  /-- 14 R498: the SP1_RAW_XFER that waits for SP1. -/
  rawWait : Option (List Byte)
  /-- 14 R484: the XIP fetches that wait for the bus or the device, oldest first: select, address, bytes. -/
  fetches : List (Nat × Nat × Nat)
  /-- 14 R484: module time at which a fetch last suspended an erase. -/
  suspendAt : Option Nat
  /-- 14 R477: what SFDP of each select gave: 8D mode, continuous read, suspend, the SP1_DEV_MODE of its widest other mode, the page
  size. -/
  octal : Quad Bool
  contOk : Quad Bool
  suspend : Quad Bool
  lanes : Quad Nat
  page : Quad Nat
deriving DecidableEq, Repr

/-! ### Chapter 15: housekeeping converters -/

/-- 15 R499 to R514: one converter. -/
structure HkConv where
  /-- 15 R500: REF_SETTLED. -/
  settled : Bool
  /-- 15 R500: module time at which the domain came on or HK_REF was written. -/
  refSince : Nat
  /-- 15 R503. -/
  busy : Bool
  /-- 15 R502: channels of the running scan still to be converted, ascending. -/
  todo : List Nat
  /-- 15 R505: HK_AVG and HK_REF at the START of the running scan. -/
  avg : Nat
  ref : Nat
  /-- 15 R513: the running scan waits for a calibration of its slice. -/
  calDue : Bool
  /-- 15 R514: module time of the last conversion for a shutter-temperature claim. -/
  sampled : Option Nat
  /-- 15 R510: no result of the running scan has been written yet. -/
  first : Bool
  /-- 15 R504, R510: the sticky bits. -/
  ignored : Bool
  overrun : Bool
  /-- 15 R506: module time at which BUSY last cleared on demand power; the domain goes off 1 ms later. -/
  idleSince : Option Nat
  /-- 15 R513: CAL_FAULT. -/
  calFault : Bool
deriving DecidableEq, Repr

/-- 15: the converters and the spare slice (HK_SLICE_MAP itself stands in the dictionary). -/
structure HkSt where
  conv : Quad HkConv
  /-- 15 R511: the spare slice. -/
  spare : Nat
  /-- 15 R513: retired slices. -/
  retired : List Nat
  /-- 15 R511: converter whose turn is next. -/
  turn : Nat
  /-- 15 R511, R513: the slice being calibrated, the converter it last served or serves, and since when (module time). -/
  calibrating : Option (Nat × Nat × Nat)
  /-- 15 R513: module time of the last calibration of each of the five slices. -/
  sliceCal : List Nat
  /-- 15 R511: module time at which the period of the last turn began. -/
  lastTurn : Nat
deriving DecidableEq, Repr

/-! ### Chapter 16: thermal management -/

/-- 16: the thermal unit (node and sensor values stand in the dictionary). -/
structure ThermSt where
  /-- 16 R515: the model runs (from the release of internal reset). -/
  active : Bool
  /-- 16 R517: fused hot-spot offsets of nodes 0 to 30, in 0.01 K. -/
  offset : List Int
  /-- 16 R518: consecutive suspect evaluations, and consecutive quiet ones, of each sensor. -/
  suspect : List Nat
  quiet : List Nat
  /-- 16 R521, R522: consecutive evaluations at or above each threshold, and below the level to fall. -/
  nWarn : Nat
  nThrottle : Nat
  nQuench : Nat
  nFall : Nat
  /-- 16 R525: consecutive evaluations at or above the throttle threshold, whatever the state. -/
  hot : Nat
  /-- 16 R524: slot steps taken and the halving step. -/
  slotSteps : Nat
  halved : Bool
  /-- 16 R525: end of the grace or step time, while a request stands. -/
  graceEnd : Option Nat
  /-- 16 R525: the request that stands is for a step not yet taken. -/
  request : Bool
  /-- 16 R528: when the next step is undone. -/
  undoAt : Option Nat
  /-- 16 R530. -/
  quench : Bool
  /-- 16 R532: TRIPPED. -/
  tripped : Bool
  /-- 16 R526: slot steps and halving in force at each position (taken over at its hand-over). -/
  inSlots : Quad Nat
  inHalf : Quad Bool
  /-- 16 R524, R527: what each slot step taken has dropped at each position, the last step first: a mask with that slot, or 0 where
  the position had one slot. -/
  drops : List (Quad Nat)
  /-- 16 R526: the dropped slots in force at each position, and those that govern the frame it handed over last, as masks. -/
  inDrop : Quad Nat
  govDrop : Quad Nat
  /-- 16 R533: the trims that the last evaluation gives the compensated circuits: oscillators and bandgaps of nodes 23 and 30, in
  force at once, and the VDET DACs of S0 to S3. -/
  trims : List Int
deriving DecidableEq, Repr

/-! ### Chapter 17: power -/

/-- 17: the input stage, the domain scheduler and the FPA rails (PWR_DOM_STATE stands in the dictionary). -/
structure PowerSt where
  /-- 17 R537: VIN in mV, as last known to the supervisor. -/
  vin : Nat
  /-- 17 R537, R538: the input switch is open; the bus is fed from HOLDUP. -/
  swOpen : Bool
  /-- 17 R537: the switch is open for overvoltage. -/
  ovp : Bool
  /-- 17 R538, Table 17-1: the switch is open for a brown-out, until VIN is at 34.0 V again. -/
  under : Bool
  /-- 17 R538: the warning is armed. -/
  armed : Bool
  /-- 17 R538: the power-fail sequence has started and its cause persists. -/
  failing : Bool
  /-- 17 R544: a warning confirmed before steward firmware started blocks flash programs. -/
  blocked : Bool
  /-- 17 R542: module time since which VIN has been at or above 36.0 V. -/
  okSince : Option Nat
  /-- 17 R539: HOLDUP had reached 20 V by tR + 100 ms. -/
  charged : Bool
  /-- 17 R539. -/
  ready : Bool
  missing : Bool
  /-- 17 R544: the always-on rails stayed in regulation over the last loss of VIN. -/
  railsHeld : Bool
  /-- 17 R546: module time of the last ramp start. -/
  lastRamp : Option Nat
  /-- 17 R546: domains that are to be switched on (true) or off (false), in scheduler order. -/
  want : List (Nat × Bool)
  /-- 17 R546, R548: domains ramping, with the module time of the ramp start. -/
  ramping : List (Nat × Nat)
  /-- 17 R550: FPA rails switched off that have not yet discharged below 10 %. -/
  discharging : List Nat
  /-- 17 R550, R552: FPA rails that read FAULT and have not had their turn to be switched off. -/
  faultOn : List Nat
  /-- 17 R548: consecutive bad monitor samples of each domain. -/
  bad : List Nat
  /-- 17 R552: positions whose supplies are held off. -/
  fpaOff : Quad Bool
  /-- 17 R551: FPA_OVERLOAD, and the FPA rail power of the last 100 ms, newest first. -/
  overload : Bool
  window : List Nat
deriving DecidableEq, Repr

/-! ### Chapter 18: security and debug -/

/-- 18: the security engine.  Key slots, the archive key, the token key and the boot nonce stand in the keep array. -/
structure SecSt where
  /-- 18 R556: the fuse pairs of OPEN, SEALED and RETURN. -/
  fuseOpen : Bool × Bool
  fuseSealed : Bool × Bool
  fuseReturn : Bool × Bool
  /-- 18 R558: the fused SHA-384 hashes of the firmware key and the vendor debug key. -/
  fwHash : List Byte
  vendorHash : List Byte
  /-- 18 R565: bytes drawn from the random bit generator so far (log 6), and its health. -/
  drawn : Nat
  rngOk : Bool
  /-- 18 R567: records still to be emptied by the zeroisation. -/
  zeroise : Bool
  /-- 18 R562. -/
  arbRepaired : Bool
  /-- 18 R566: failed PROVEs in a row and end of the lockout, on CHAIN_A, CHAIN_B and the host port. -/
  failsA : Nat
  failsB : Nat
  failsH : Nat
  lockA : Option Nat
  lockB : Option Nat
  lockH : Option Nat
deriving DecidableEq, Repr

/-- 18 R570 to R576: debug. -/
structure DbgSt where
  /-- 18 Table 18-7: the grade a token has unlocked. -/
  token : Nat
  /-- 18 R573: vendor unlock in force. -/
  vendor : Bool
  /-- 18 Table 18-7: the grade of DBG_SET_GRADE. -/
  setGrade : Nat
  /-- 18 R573: SERVICE is still to be entered for a vendor token. -/
  force : Bool
  /-- 18 R571. -/
  halted : Bool
  held : List Nat
  /-- 18 R572: the token being verified. -/
  verifying : Option (List Byte)
  /-- 18 R570: the TAP instruction loaded. -/
  ir : Nat
  /-- 18 R570, R574: the boundary register. -/
  boundary : List Byte
deriving DecidableEq, Repr

end Sys2Proof.Machine
end

