-- ==== Sys2Proof/Machine/PixelOps.lean ====
section
/-!
DEFINITION. The arithmetic of one pixel and one row: linearisation, correction, heritage steps, replacement, tail
cancellation, slot merge, radiometry and the output filters (04 R126 to R166, 05 R175 to R204).
-/
namespace Sys2Proof.Machine

/-! ### Linearisation and correction (04 R126 to R136) -/

/-- 04 R127: entry k of a linearisation table of 4,096 bytes; the identity table when none has been written. -/
def lutEntry (lut : Array Byte) (k : Nat) : Int :=
  if lut.size = 0 then (1024 * k : Nat)
  else ((lut.getD (4 * k) 0).toNat + 256 * (lut.getD (4 * k + 1) 0).toNat + 65536 * ((lut.getD (4 * k + 2) 0).toNat % 16) : Nat)

/-- 04 R126. -/
def linearise (lut : Array Byte) (x : Nat) : Nat :=
  let k := if x / 64 = 1023 then 1022 else x / 64
  let f := if x / 64 = 1023 then x % 64 + 64 else x % 64
  (clampI 0 1048575 (lutEntry lut k + roundDiv ((lutEntry lut (k + 1) - lutEntry lut k) * f) 64)).toNat

/-- 04 R140: CRC-16 of a base entry. -/
def crc16 (bs : List Byte) : Nat := bs.foldl (fun c b => crcStepL 16 0x1021 8 (Nat.xor c (b.toNat * 256))) 0xFFFF

/-- 04 Tables 04-3 to 04-6: the coefficients of a pixel for a slot, from its base entry and slot entry. -/
def entryOf (base slotE : List Byte) (k : Nat) : Entry :=
  { o0 := fromCode 16 (leAt base 0 2), g := leAt base 2 2, d := fromCode 16 (leAt base 4 2), c := fromCode 8 (leAt base 6 1),
    tau := leAt base 7 1, flags := leAt base 8 1, repl := leAt base 9 1, chkOk := leAt base 14 2 == crc16 (base.take 14),
    dslot := fromCode 16 (leAt slotE (2 * k) 2) }

/-- 04 R129: the track after a valid sample. -/
def trackStep (empty : Bool) (track : Int) (smooth subt : Nat) : Int :=
  if empty then (subt * 8 : Nat) else track + roundDiv ((subt * 8 : Nat) - track) (2 ^ smooth)

/-- 04 R129: ΔT of a track. -/
def deltaT (track : Int) (t0 : Nat) : Int := satS 16 (roundDiv track 8 - t0)

/-- 04 R133, R135: the corrected value of a linearised readout before its saturation. -/
def correctRaw (mask : Nat) (e : Entry) (dT : Int) (x : Nat) : Int :=
  let o0 := if bitAt mask 0 then e.o0 else 0
  let ds := if bitAt mask 1 then e.dslot else 0
  let d := if bitAt mask 2 then e.d else 0
  let c := if bitAt mask 3 then e.c else 0
  let g : Int := if bitAt mask 4 then e.g else 32768
  let sum := (x : Int) * 2 ^ 11 - o0 * 2 ^ 11 - ds * 2 ^ 11 - d * dT - c * roundDiv (dT * dT) 128
  roundDiv (sum * g) (2 ^ 26)

/-- 04 R133: saturation to s18.4. -/
def sat184 (v : Int) : Int := clampI (-2097152) 2097151 v

/-- 04 R128, R133, R136, R145: one readout through the slice. -/
def correctPx (lut : Array Byte) (mask satLevel : Nat) (dT : Int) (raw : Nat) (invalid : Bool) (e : Entry) : CorrPx :=
  let x := if bitAt mask 5 then linearise lut raw else linearise #[] raw
  { raw := raw, x := x, y := if invalid then 0 else sat184 (correctRaw mask e dT x), invalid := invalid,
    sat := decide (satLevel ≤ raw) && !invalid, planeErr := !e.chkOk, flags := e.flags, repl := e.repl, tau := e.tau }

/-- 04 R134: the readout saturated. -/
def correctSat (lut : Array Byte) (mask : Nat) (dT : Int) (raw : Nat) (invalid : Bool) (e : Entry) : Bool :=
  let y := correctRaw mask e dT (if bitAt mask 5 then linearise lut raw else linearise #[] raw)
  !invalid && y != sat184 y

/-! ### Heritage steps (04 R164, R165) -/

/-- Rounds half up. -/
def rhuDiv (n : Int) (d : Nat) : Int := (2 * n + d) / (2 * d)

/-- 04 R164: saturation to 0 to 65,535. -/
def clamp16 (v : Int) : Nat := (clampI 0 65535 v).toNat

/-- The element of a row with the nearest column at the edges. -/
def nearest (l : Array Nat) (c : Int) : Nat := l.getD (clampI 0 ((l.size : Int) - 1) c).toNat 0

/-- 04 R164, H1: the kernel on three raw rows at a column. -/
def her1 (w : List Int) (up mid dn : Array Nat) (c : Nat) : Nat :=
  let row := fun (l : Array Nat) (k : Nat) =>
    w.getD k 0 * nearest l ((c : Int) - 1) + w.getD (k + 1) 0 * nearest l c + w.getD (k + 2) 0 * nearest l ((c : Int) + 1)
  clamp16 (rhuDiv (row up 0 + row mid 3 + row dn 6) 64)

/-- 04 R164, H2: the history after a readout; none is no valid history. -/
def her2 (beta : Nat) (m : Option Nat) (v : Nat) : Nat :=
  match m with
  | none => v
  | some m => clamp16 (m + rhuDiv (beta * ((v : Int) - m)) 256)

/-- 04 R164, H3: offset, gain and global drift; `dt` is the temperature above the reference. -/
def her3 (e : Entry) (drift dt : Int) (t : Nat) : Nat :=
  clamp16 (rhuDiv ((t - e.o0) * e.g - drift * dt) 16384)

/-! ### Defect replacement (04 R145 to R149) -/

/-- 04 R146. -/
def isDefect (flags : Nat) : Bool := bitAt flags 7 || bitAt flags 6

/-- 04 Table 04-7: members of a pattern at distance d. -/
def patMembers (code : Nat) (d : Int) : List (Int × Int) :=
  let row := [((0 : Int), -d), (0, d)]
  let col := [(-d, (0 : Int)), (d, 0)]
  let diag := [(-d, -d), (-d, d), (d, -d), (d, d)]
  match code with
  | 0 => row ++ col
  | 1 => row ++ col ++ diag
  | 2 => row
  | 3 => col
  | _ => []

/-- Five rows around a row: index 0 to 4 for offsets -2 to 2. -/
abbrev Around := List (Option (Array CorrPx))

/-- The pixel at an offset from (r, c), inside the frame. -/
def pxAt (rows : Around) (c : Nat) (m : Int × Int) : Option CorrPx :=
  let col := (c : Int) + m.2
  if col < 0 then none
  else match rows.getD (m.1 + 2).toNat none with
    | some r => r[col.toNat]?
    | none => none

/-- 04 R147: the mean of the qualifying members. -/
def patMean (rows : Around) (c code : Nat) (d : Int) : Option Int :=
  let q := (patMembers code d).filterMap (fun m =>
    match pxAt rows c m with
    | some p => if isDefect p.flags || p.invalid || p.planeErr then none else some p.y
    | none => none)
  if q.isEmpty then none else some (roundDiv (q.foldl (· + ·) 0) q.length)

/-- A readout after replacement: value and tags, and what it counts: 0 nothing, 1 REPLACED, 2 UNREPL, 3 UNREPL with a reserved
pattern. -/
structure ReplPx where
  y : Int
  invalid : Bool
  sat : Bool
  replaced : Bool
  unreplaced : Bool
  planeErr : Bool
  tau : Nat
  count : Nat
deriving DecidableEq, Repr

/-- 04 R147, R148: the value of a pattern with one fallback; `prev` is the value of PREVIOUS. -/
def patValue (rows : Around) (c code : Nat) (d : Int) (prev : Option Int) : Option Int :=
  if code = 4 then (match prev with | some v => some v | none => patMean rows c 1 d)
  else (match patMean rows c code d with | some v => some v | none => prev)

/-- 04 R145 to R149: one readout through native replacement. -/
def replacePx (rows : Around) (en : Bool) (prev : Option Int) (c : Nat) (p : CorrPx) : ReplPx :=
  let own : ReplPx := { y := p.y, invalid := p.invalid, sat := p.sat, replaced := false, unreplaced := false,
                        planeErr := p.planeErr, tau := p.tau, count := 0 }
  let by_ := fun (code : Nat) (d : Int) =>
    match patValue rows c code d prev with
    | some v => { own with y := v, replaced := true, count := 1 }
    | none => { own with y := 0, invalid := true, count := 2 }
  if p.invalid then { own with y := 0 }
  else if p.planeErr then by_ 0 1
  else if isDefect p.flags then
    if bitAt p.flags 5 || !en then { own with unreplaced := true, count := 2 }
    else if 5 ≤ p.repl % 8 then { own with y := 0, invalid := true, count := 3 }
    else by_ (p.repl % 8) (if bitAt p.repl 4 then 2 else 1)
  else own

/-- 04 R166: the KT2410 defect mark. -/
def herDefect (flags : Nat) : Bool := bitAt flags 7

/-- 04 R164 to R166, H4: one readout through heritage replacement; the mean rounds half up. -/
def herReplace (rows : Around) (c : Nat) (p : CorrPx) : ReplPx :=
  let own : ReplPx := { y := p.y, invalid := p.invalid, sat := p.sat, replaced := false, unreplaced := false,
                        planeErr := p.planeErr, tau := p.tau, count := 0 }
  if p.invalid then { own with y := 0 }
  else if herDefect p.flags || p.planeErr then
    let q := (patMembers 0 1).filterMap (fun m =>
      match pxAt rows c m with
      | some p => if herDefect p.flags || p.invalid || p.planeErr then none else some p.y
      | none => none)
    if q.isEmpty then { own with y := 0, invalid := true, count := 2 }
    else { own with y := clamp16 (rhuDiv (q.foldl (· + ·) 0) q.length), replaced := true, count := 1 }
  else own

/-! ### Tail cancellation (05 R179 to R185) -/

/-- 05 R180: M for an interval in ns, a τ code and a strength. -/
def tailGain (dtNs : Int) (code strength : Nat) : Nat :=
  let dt := clampI 0 1000000 (roundDiv dtNs 1000)
  let q := (clampI 0 65535 (roundDiv (dt * 4096) (2000 + 100 * code))).toNat
  let e0 : Int := lagFactor (q / 16)
  let a := e0 + roundDiv (((lagFactor (q / 16 + 1) : Int) - e0) * (q % 16 : Nat)) 16
  let k := if 65536 ≤ a then 16777215 else clampI 0 16777215 (roundDiv (a * 65536) (65536 - a).toNat)
  (roundDiv (k * strength) 100).toNat

/-- 05 R175: the history entry of a corrected value. -/
def histOf (y : Int) : Nat := (clampI 0 65534 (roundDiv y 16)).toNat

/-- What the tail stage makes of one readout: the readout on, the history entry written (none keeps it), whether it restarted
or clipped, and g squared when it was cancelled with M above 0. -/
structure TailStep where
  px : TailPx
  hist : Option Nat
  restart : Bool
  clip : Bool
  g2 : Option Nat
deriving DecidableEq, Repr

/-- 05 R180 to R184: `stampOk` the row stamp is VALID, `dtNs` since its start, `h` the history entry. -/
def tailPx (stampOk : Bool) (dtNs : Int) (h strength clip override median : Nat) (p : ReplPx) : TailStep :=
  let base : TailPx := { z := p.y, invalid := p.invalid, sat := p.sat, clip := false, restart := false,
                         replaced := p.replaced, unreplaced := p.unreplaced }
  if p.invalid then { px := { base with z := 0 }, hist := none, restart := false, clip := false, g2 := none }
  else if p.sat then { px := base, hist := some 0xFFFF, restart := false, clip := false, g2 := none }
  else if !stampOk || h = 0xFFFF then
    { px := { base with restart := true }, hist := some (histOf p.y), restart := true, clip := false, g2 := none }
  else
    let m := tailGain dtNs (if override ≠ 0xFF then override else if p.replaced then median else p.tau) strength
    let c := roundDiv ((p.y - 16 * h) * m) 65536
    let lim : Int := 16 * clip
    let z := p.y + clampI (-lim) lim c
    let clipped := decide (c < -lim ∨ lim < c) || z != sat184 z
    { px := { base with z := sat184 z, clip := clipped }, hist := some (histOf p.y), restart := false, clip := clipped,
      g2 := if 0 < m then some ((65536 + m) ^ 2 + m ^ 2) else none }

/-! ### Slot merge (05 R188, R192) -/

/-- 05 R188: the enabled slots, longest acknowledged time first, the lower number on a tie. -/
def slotOrder (mask : Nat) (times : List Nat) : List Nat :=
  ((List.range 4).filter (fun k => bitAt mask k)).foldr
    (fun k acc => acc.takeWhile (fun j => decide (times.getD k 0 < times.getD j 0)) ++ [k] ++
      acc.dropWhile (fun j => decide (times.getD k 0 < times.getD j 0))) []

/-- A pixel after merge: radiance, flags, the slots and weight that radiometry takes. -/
structure MergedPx where
  p : Nat
  invalid : Bool
  sat : Bool
  l : Nat
  s : Nat
  w : Nat
  clamp : Bool
deriving DecidableEq, Repr

/-- 05 R188: the loop over the usable slots; w saturates to its format (05 Table 05-1, 00 R9). -/
def mergePick (z : Nat → Int) (kl kh : Int) : List Nat → Nat × Nat × Nat
  | [] => (0, 0, 65536)
  | [l] => (l, l, 65536)
  | l :: n :: r =>
    if z l < kl * 16 then (l, l, 65536)
    else if kh * 16 ≤ z l then mergePick z kl kh (n :: r)
    else (l, n, (clampI 1 65536 (roundDiv ((kh * 16 - z l) * 65536) ((kh - kl) * 16).toNat)).toNat)

/-- 05 R188: drop each restarted slot that a slot without restart follows. -/
def skipRestart (t : Nat → TailPx) : List Nat → List Nat
  | [] => []
  | k :: r => if (t k).restart && r.any (fun j => !(t j).restart) then skipRestart t r else k :: skipRestart t r

/-- 05 R188: the merge of one pixel.  One without a candidate slot has no L, and shows RANGE 0: DESIGN CHOICE (log 80). -/
def mergePx (t : Nat → TailPx) (cand : List Nat) (skip : Bool) (kl kh : Nat) (rho : Nat → Nat) : MergedPx :=
  let use0 := cand.filter (fun k => !(t k).invalid && !(t k).sat)
  let use_ := if skip then skipRestart t use0 else use0
  if use_.isEmpty then
    if cand.all (fun k => (t k).invalid) then
      { p := 0, invalid := true, sat := false, l := 0, s := 0, w := 65536, clamp := false }
    else { p := 1048575, invalid := false, sat := true, l := 0, s := 0, w := 65536, clamp := false }
  else
    let x := mergePick (fun k => (t k).z) kl kh use_
    let num := (x.2.2 : Int) * rho x.1 * (t x.1).z + (65536 - (x.2.2 : Int)) * rho x.2.1 * (t x.2.1).z
    let v := roundDiv num (2 ^ 38)
    { p := (clampI 0 1048575 v).toNat, invalid := false, sat := false, l := x.1, s := x.2.1, w := x.2.2,
      clamp := v != clampI 0 1048575 v }

/-! ### Radiometry (05 R193 to R199) -/

/-- 05 Table 05-5: a temperature table of 8,192 bytes; the pass-through table when none has been written. -/
def radTable (bs : List Byte) : List Nat :=
  if bs.isEmpty then (List.range 4096).map (fun j => 16 * j) else (List.range 4096).map (fun j => leAt bs (2 * j) 2)

/-- 05 R193: K1 / (c - K4) for a finite K1; none where c - K4 ≤ 0. -/
def planckQuot (k1 : ℚ) (k4 : Real64) (c : ℚ) : Option ℚ :=
  match k4 with
  | .inf negative => if negative then some 0 else none
  | .fin k4 => if r64 (c - k4) ≤ 0 then none else some (r64 (k1 / r64 (c - k4)))

/-- 05 R193: one entry of a PLANCK range; also the formula at a midpoint (none where it is undefined: with an infinite K1 or K3, v
is never finite). -/
def planck (k1 k2 k3 k4 : Option Real64) (c : ℚ) : Option Real64 :=
  match k1, k2, k3, k4 with
  | some (.fin k1), some k2, some (.fin k3), some k4 =>
    match planckQuot k1 k4 c with
    | none => none
    | some w =>
      let v := r64 (w + k3)
      if v ≤ 1 then none
      else
        match k2 with
        | .fin k2 => some (.fin (r64 (r64 (32 * k2) / ln64 v)))
        | .inf negative => some (.inf negative)
  | _, _, _, _ => none

/-- 05 R193: the expanded table. -/
def planckTable (k : List (Option Real64)) : List Nat :=
  (List.range 4096).map (fun j =>
    match planck (k.getD 0 none) (k.getD 1 none) (k.getD 2 none) (k.getD 3 none) ((16 * j : Nat) : ℚ) with
    | some v => v.code
    | none => 0)

/-- 05 R194: the largest difference at the midpoints, rounded up; beyond every value of a U16 where the formula is infinite. -/
def interpErr (k : List (Option Real64)) (t : List Nat) : Nat :=
  ((t.zip (t.drop 1)).zipIdx).foldl (fun m x =>
    if x.1.1 = 0 ∨ x.1.2 = 0 then m
    else
      match planck (k.getD 0 none) (k.getD 1 none) (k.getD 2 none) (k.getD 3 none) (((16 * x.2 + 8 : Nat)) : ℚ) with
      | some (.inf _) => 65536
      | some (.fin v) =>
        let mid : ℚ := (((x.1.1 : Int) + roundDiv (((x.1.2 : Int) - x.1.1) * 128) 256 : Int) : ℚ)
        max m ⌈|v - mid|⌉.toNat
      | none => m) 0

/-- 05 R195: not non-decreasing. -/
def nonMono : List Nat → Bool
  | a :: b :: r => decide (b < a) || nonMono (b :: r)
  | _ => false

/-- 05 R199: the interpolated table between entries `a` and `b` at fraction `f`. -/
def interp (a b f : Nat) : Int := (a : Int) + roundDiv (((b : Int) - a) * f) 256

/-- 05 R198: the smallest Q code at which the interpolated table reaches a value. -/
def radW (target : Int) : Nat → List Nat → Nat
  | j, a :: b :: r =>
    let n := if r.isEmpty then 512 else 256
    if target ≤ max (max (a : Int) b) (interp a b (n - 1)) then
      match (List.range n).find? (fun f => decide (target ≤ interp a b f)) with
      | some f => 256 * j + f
      | none => radW target (j + 1) (b :: r)
    else radW target (j + 1) (b :: r)
  | _, _ => 1048575

/-- 05 R198: 32 T of a temperature in 0.01 °C, rounded half to even. -/
def code32 (t : Int) : Int := roundDiv (32 * (t + 27315)) 100

/-- 05 R198: B and E of a range for one set of surface values, each step in binary64, each result rounded once. -/
def radConst (lut : List Nat) (eps trans : Nat) (trefl tpath : Int) : Int × Nat :=
  let w1 : Int := radW (code32 trefl) 0 lut
  let w2 : Int := radW (code32 tpath) 0 lut
  let e := r64 ((eps : ℚ) / 10000)
  let t := r64 ((trans : ℚ) / 10000)
  let refl := r64 (r64 (t * r64 (1 - e)) * (w1 : ℚ))
  let path := r64 (r64 (1 - t) * (w2 : ℚ))
  (satS 24 (roundQ (r64 (refl + path))), (roundQ (r64 (32768 / r64 (t * e)))).toNat)

/-- 05 R199: T of a range, and whether Q saturated. -/
def radT (lut : Array Nat) (be : Int × Nat) (p : Nat) : Int × Bool :=
  let q0 := roundDiv ((p - be.1) * be.2) 32768
  let q := (clampI 0 1048575 q0).toNat
  let j := if q / 256 = 4095 then 4094 else q / 256
  let f := if q / 256 = 4095 then q % 256 + 256 else q % 256
  (interp (lut.getD j 0) (lut.getD (j + 1) 0) f, q0 != (q : Int))

/-- 05 R199: T_code of a merged pixel, and whether it counts in RAD_CNT_CLAMP. -/
def radPx (lut : Nat → Array Nat) (be : Nat → Int × Nat) (m : MergedPx) : Nat × Bool :=
  if m.invalid then (0, false)
  else if m.sat then (0xFFFF, false)
  else
    let tl := radT (lut m.l) (be m.l) m.p
    let ts := radT (lut m.s) (be m.s) m.p
    let t := roundDiv (m.w * tl.1 + (65536 - (m.w : Int)) * ts.1) 65536
    ((clampI 1 65534 t).toNat, tl.2 || ts.2 || t != clampI 1 65534 t)

/-! ### Output filters (05 R201, R202) -/

/-- The code is a valid temperature (07 R275). -/
def validT (t : Nat) : Bool := decide (1 ≤ t ∧ t ≤ 65534)

/-- 05 R201: the spatial filter at a column of three rows of codes. -/
def snrPx (w : List Int) (up mid dn : Array Nat) (c : Nat) : Nat :=
  let u := mid.getD c 0
  if !validT u then u
  else
    let term := fun (l : Array Nat) (k : Nat) (d : Int) =>
      let v := nearest l ((c : Int) + d)
      w.getD k 0 * (if validT v then v else u)
    let sum := term up 0 (-1) + term up 1 0 + term up 2 1 + term mid 3 (-1) + term mid 4 0 + term mid 5 1 +
      term dn 6 (-1) + term dn 7 0 + term dn 8 1
    (clampI 1 65534 (roundDiv sum 64)).toNat

/-- 05 R202: the temporal filter: the code out and the plane's new value. -/
def tnrPx (rowValid : Bool) (m beta thresh v : Nat) : Nat × Nat :=
  if !validT v then (v, 0)
  else if m = 0 ∨ rowValid = false ∨ thresh < (if m ≤ v then v - m else m - v) then (v, v)
  else
    let n := (clampI 1 65534 (m + roundDiv (beta * ((v : Int) - m)) 256)).toNat
    (n, n)

/-! ### Samples (09 R335) -/

/-- An E24 sample: tag and 22-bit value. -/
def e24 (invalid sat defect : Bool) (v : Int) : Nat :=
  if invalid then 2 ^ 22 else (if sat then 2 * 2 ^ 22 else if defect then 3 * 2 ^ 22 else 0) + toCode 22 v

end Sys2Proof.Machine
end

