-- ==== Sys2Proof/Machine/EclCalc.lean ====
section
/-!
DEFINITION. The arithmetic of an eclipse on one pixel and over a list of pixels: offsets, targets, residual, time constant,
drift sums and refit, learned defects, prediction (06 R217, R218, R226 to R245).
-/
namespace Sys2Proof.Machine

/-! ### Rows and the shutter edge (06 R217, R218) -/

/-- 06 R218: the travel profile at a row, in µs from the pulse start; points at rows 0, 96, ... 1,536. -/
def travelAt (points : List Nat) (row : Nat) : Int :=
  let a : Int := points.getD (row / 96) 0
  let b : Int := points.getD (row / 96 + 1) (points.getD (row / 96) 0)
  roundDiv (a * 96 + (b - a) * (row % 96 : Nat)) 96

/-- 06 R217, R218: a row of a frame is clean with respect to the edge of a pulse. -/
def rowClean (start rowT0 pitch row pulse : Nat) (points : List Nat) (guard : Nat) : Bool :=
  decide ((pulse : Int) + 1000 * (travelAt points row + guard) ≤ (start + rowT0 + row * pitch : Nat))

/-! ### Medians and roots -/

/-- The median, the lower middle value for an even count (06 R229, R234); 0 of nothing. -/
def medianLow (l : List Int) : Int := ((l.mergeSort (fun a b => decide (a ≤ b)))[(l.length - 1) / 2]?).getD 0

/-! ### Offsets (06 R226 to R230) -/

/-- 06 R226: a count in an enabled slot below N/2 rounded up. -/
def eclMissed (counts : List Nat) (n : Nat) : Bool := counts.any (fun c => decide (2 * c < n))

/-- The drift term of R228 at t_acc. -/
def driftTerm (d c t : Int) : Int := roundDiv (d * t + c * roundDiv (t * t) 128) 2048

/-- 06 R229, MEAN: the term of one pixel and slot. -/
def meanTerm (mx tot : Int) (g : Nat) : Int := roundDiv ((mx - tot) * g) 32768

/-- 06 R229, SHUTTER_TEMP: V of a slot from the sum of `n` temperatures in 0.01 °C, the slot's table and ratio. -/
def shutterTarget (lut : List Nat) (sum : Int) (n rho : Nat) : Int :=
  roundDiv ((radW (roundDiv (32 * (sum + 27315 * n)) (100 * n)) 0 lut : Nat) * 4194304 : Nat) rho

/-- 06 R228: a measured total offset. -/
def measured (mx v : Int) (g : Nat) : Int := mx - roundDiv (v * 32768) g

/-- 06 R230: the rms about the median, 1/16 count, saturated to U16. -/
def residual (diffs : List Int) : Nat :=
  let m := medianLow diffs
  min 65535 (rootRound (diffs.foldl (fun a d => a + ((d - m) * (d - m)).toNat) 0) diffs.length)

/-! ### The time constant (06 R232 to R234) -/

/-- 05 R180: A of a lag q. -/
def lagA (q : Nat) : Int :=
  let e0 : Int := lagFactor (q / 16)
  e0 + roundDiv (((lagFactor (q / 16 + 1) : Int) - e0) * (q % 16 : Nat)) 16

/-- The lowest q in `lo` to `lo + 2^n` with A(q) at or below a value; A does not rise. -/
def firstLe (v : Int) : Nat → Nat → Nat
  | 0, lo => lo
  | n + 1, lo => if lagA (lo + 2 ^ n - 1) ≤ v then firstLe v n lo else firstLe v n (lo + 2 ^ n)

/-- 06 R233: the q whose A is nearest, the lower on a tie. -/
def nearestQ (u : Int) : Nat :=
  let a := firstLe u 16 0
  if a = 0 then 0
  else
    let hi := lagA (a - 1)
    if 65535 < a ∨ hi - u ≤ u - lagA a then firstLe hi 16 0 else a

/-- What the fit of a pixel gives: no estimate, a rejected one, a τ code. -/
inductive TauFit where
  | nothing
  | reject
  | code (c : Nat)
deriving DecidableEq, Repr

/-- 06 R232, R233: the fit from the three deviations, the held period in µs and the smallest step in counts. -/
def tauFit (d1 d2 d3 : Int) (dt minStep : Nat) : TauFit :=
  let oneSign := (decide (0 < d1 ∧ 0 < d2 ∧ 0 < d3)) || decide (d1 < 0 ∧ d2 < 0 ∧ d3 < 0)
  if d1.natAbs < 16 * minStep || !oneSign || !decide (d3.natAbs < d2.natAbs ∧ d2.natAbs < d1.natAbs) then .nothing
  else
    let q := nearestQ (roundDiv (65536 * (d2 + d3).natAbs : Nat) (d1 + d2).natAbs)
    if q = 0 then .reject
    else
      let c := roundDiv (roundDiv (dt * 4096 : Nat) q - 2000) 100
      if c < 0 ∨ 254 < c then .reject else .code c.toNat

/-- 06 R234, 12 Table 12-2: an accepted code enters the ring as byte 0. -/
def tauPush (ring : List Byte) (c : Nat) : List Byte := byteOf c :: ring.take 7

/-- 06 R234: the median of the filled entries, once there are enough. -/
def tauOf (ring : List Byte) (minEst : Nat) : Option Nat :=
  let filled := ((ring.take 8).map (fun b => (b.toNat : Int))).filter (fun v => v != 255)
  if filled.length < minEst then none else some (medianLow filled).toNat

/-! ### Drift sums (06 R235 to R237) -/

/-- 06 Table 06-3: sign and binary places of W, T1 to T4, S0 to S2. -/
def sumFields : List (Bool × Nat) :=
  [(false, 18), (true, 17), (false, 16), (true, 15), (false, 14), (true, 6), (true, 5), (true, 4)]

/-- The eight fields of an entry. -/
def sumsOf (b : List Byte) : List Int :=
  sumFields.zipIdx.map (fun f => if f.1.1 then fromCode 24 (leAt b (3 * f.2) 3) else ((leAt b (3 * f.2) 3 : Nat) : Int))

/-- An entry from its fields, each saturated to its format. -/
def sumsBytes (l : List Int) : List Byte :=
  (l.zip sumFields).flatMap (fun f => leBytes 3 (if f.2.1 then toCode 24 (satS 24 f.1) else satU 24 f.1))

/-- 06 R236: decay, and a sample when it is entered; `a` is t_acc, `b` the offset. -/
def sumsStep (l : List Int) (forget : Nat) (a b : Int) (enter : Bool) : List Int :=
  let l := l.map (fun x => x - roundDiv x (2 ^ forget))
  if enter && decide (a.natAbs < 4096) then
    let b := clampI (-32767) 32767 b
    (l.zip [2 ^ 18, a * 64, roundDiv (a ^ 2) (2 ^ 6), roundDiv (a ^ 3) (2 ^ 18), roundDiv (a ^ 4) (2 ^ 30), b * 4,
      roundDiv (a * b) (2 ^ 10), roundDiv (a ^ 2 * b) (2 ^ 22)]).map (fun x => x.1 + x.2)
  else l

/-- Binary64 sums, differences, products and quotients (06 R237). -/
def sub64 (a b : ℚ) : ℚ := r64 (a - b)
def mul64 (a b : ℚ) : ℚ := r64 (a * b)
def div64 (a b : ℚ) : ℚ := r64 (a / b)

/-- One row of an elimination step: the row less its multiple of the pivot row. -/
def elimRow (p : ℚ) (pivot row : List ℚ) : List ℚ :=
  let f := div64 (row.headD 0) p
  ((row.zip pivot).drop 1).map (fun x => sub64 x.1 (mul64 f x.2))

/-- 06 R237: Gaussian elimination without pivoting, in equation order, on rows with the right side last; none on a zero
pivot. -/
def gauss : Nat → List (List ℚ) → Option (List ℚ)
  | 0, _ => some []
  | _, [] => some []
  | n + 1, row :: rest =>
    let p := row.headD 0
    if p = 0 then none
    else
      match gauss n (rest.map (elimRow p row)) with
      | none => none
      | some xs =>
        let known := ((row.drop 1).zip xs).foldl (fun a x => sub64 a (mul64 x.1 x.2)) (row.getLastD 0)
        some (div64 known p :: xs)

/-- What a refit of a pixel gives: kept, rejected, or D and C with the state reached (1 linear, 2 quadratic). -/
inductive Refit where
  | keep
  | reject
  | fit (d c : Int) (kind : Nat)
deriving DecidableEq, Repr

/-- 06 R237: D and C from a solution. -/
def refitOf (b1 b2 : ℚ) (kind : Nat) : Refit :=
  let d := roundQ (mul64 16 b1)
  let c := roundQ b2
  if d < -32768 ∨ 32767 < d ∨ c < -128 ∨ 127 < c then .reject else .fit d c kind

/-- 06 R237: the determinant of the quadratic condition. -/
def det64 (m1 m2 m3 m4 : ℚ) : ℚ :=
  let a := sub64 (mul64 m2 m4) (mul64 m3 m3)
  let b := mul64 m1 (sub64 (mul64 m1 m4) (mul64 m3 m2))
  let c := mul64 m2 (sub64 (mul64 m1 m3) (mul64 m2 m2))
  r64 (sub64 a b + c)

/-- 06 R237: the refit of a pixel from its sums; spans in 0.01 K. -/
def refit (l : List Int) (cOld : Int) (minW linSpan quadSpan : Nat) : Refit :=
  let v := (l.zip sumFields).map (fun f => (f.1 : ℚ) / ((2 ^ f.2.2 : Nat) : ℚ))
  let g := fun (i : Nat) => v.getD i 0
  let w := g 0
  if w ≤ 0 ∨ w < (minW : ℚ) / 256 then .keep
  else
    let m := fun (i : Nat) => div64 (g i) w
    let hl := r64 ((linSpan : ℚ) / 1600)
    let hq := r64 ((quadSpan : ℚ) / 1600)
    if sub64 (m 2) (mul64 (m 1) (m 1)) < mul64 hl hl then .keep
    else if r64 (4 * r64 (hq ^ 6) / 27) ≤ det64 (m 1) (m 2) (m 3) (m 4) then
      match gauss 3 [[w, g 1, g 2, g 5], [g 1, g 2, g 3, g 6], [g 2, g 3, g 4, g 7]] with
      | some [_, b1, b2] => refitOf b1 b2 2
      | _ => .reject
    else
      let c : ℚ := cOld
      match gauss 2 [[w, g 1, sub64 (g 5) (mul64 c (g 2))], [g 1, g 2, sub64 (g 6) (mul64 c (g 3))]] with
      | some [_, b1] => refitOf b1 c 1
      | _ => .reject

/-! ### Learned defects (06 R240, R241) -/

/-- n² times the variance of an accumulation entry: sum, sum of squares, count. -/
def accVar (a : Nat × Nat × Nat) : Nat := a.2.2 * a.2.1 - a.1 * a.1

/-- Entry `a` has a larger deviation than MUL / 16 times that of entry `b`. -/
def noisier (mul : Nat) (a b : Nat × Nat × Nat) : Bool :=
  decide (mul ^ 2 * accVar b * a.2.2 ^ 2 < 256 * accVar a * b.2.2 ^ 2)

/-- The lower median of accumulation entries by their deviation. -/
def medianDev (l : List (Nat × Nat × Nat)) : Nat × Nat × Nat :=
  ((l.mergeSort (fun a b => decide (accVar a * b.2.2 ^ 2 ≤ accVar b * a.2.2 ^ 2)))[(l.length - 1) / 2]?).getD (0, 0, 1)

/-- 06 R241: PERSIST after an eclipse. -/
def persistStep (candidate : Bool) (cap p : Nat) : Nat := if candidate then min cap (p + 1) else p - 1

/-! ### Prediction (06 R245) -/

/-- 06 R245: ECL_PRED_ERR from the temperature distance in 1/128 K, the age in ns (none unlimited), k and the age rate. -/
def predErr (dT : Nat) (age : Option Nat) (k rate : Nat) : Nat :=
  match age with
  | none => 65535
  | some a =>
    let den := 921600000000000
    let x := k * dT * (den / 32768)
    let y := rate * a
    min 65535 (rootRound (256 * (x * x + y * y)) (den * den))

/-- 06 R245: ECL_PRED_K after a completed full eclipse. -/
def predK (k resid : Nat) (tNew : Int) (tOld : Option Int) : Nat :=
  match tOld with
  | none => k
  | some t =>
    let d := (tNew - t).natAbs
    if d < 128 then k else satU 16 (roundDiv (3 * k * d + 2048 * resid : Nat) (4 * d))

end Sys2Proof.Machine
end

