-- ==== Sys2Proof/Config.lean ====
section
/-!
DEFINITION. What one implementation of the KT4816 fixes, and the free values: constants without a body, so that no proof
can see what they are (each is named in the assumption log).
-/
namespace Sys2Proof

/-- The fused 64-bit device ID (00 R3, 11 R406).  DESIGN CHOICE (log 5): the spec gives no number. -/
def Config.deviceId : Nat := 1
/-- The fused die stepping, letter in 15:8 and digit in 7:0 (11 R406).  DESIGN CHOICE (log 5): "A0". -/
def Config.stepping : Nat := 0x4130
/-- The fused assembly lot code, ten characters (00 Table 00-1).  DESIGN CHOICE (log 5): ten zeros. -/
def Config.lot : List Byte := List.replicate 10 0x30#8
/-- The version of the boot ROM (11 Table 11-6).  DESIGN CHOICE (log 5). -/
def Config.romVersion : Nat := 0x01000000
/-- The JTAG device identifier `DBG_IDCODE` (18 R570): the stepping's digit above part and maker; the digit is that of
the stepping of log 5. -/
def Config.idcode : Nat := 0x048165A3

/-- Free value (log 6): the n-th byte of the true random generator (18, nonces). -/
opaque Config.randomByte : Nat → Byte

/-- Free value (log 7): the time constants and couplings of the thermal network are fused per die and not stated (16 R515);
node `i` of the model after a step from the node values `ts` under the powers `ps` of the 80 domains in µW. -/
opaque Config.rcStep : Nat → List Int → List Int → Int

/-- Free value (log 78): the fused trim of a compensated circuit (16 R533) at 5 K times an index: oscillators of nodes 23 and 30,
bandgaps of nodes 23 and 30, VDET DACs of S0 to S3. -/
opaque Config.trimPoint : Nat → Int → Int

/-- Free value (log 8): the slew in ppb that the slave clock's servo asks for after an offset in ns while a correction in
ppb is in force, before the limit of 08 R288. -/
opaque Config.servoSlew : Int → Int → Int

/-- Free value (log 8): the correction in ppb that SYSCLK itself needs, as the servo estimates it from the same two (08
R288). -/
opaque Config.servoBase : Int → Int → Int

/-- Free value (log 9): what a raw transaction or an access reads from a device outside the module, byte `i` of the `n`-th. -/
opaque Config.deviceByte : Nat → Nat → Byte

/-- Free value (log 10): a measured quantity of the module's own converters and monitors that no command supplies. -/
opaque Config.measured : Nat → Nat → Nat

/-- Free value (log 11): an internal-state word read by debug access (18 R571 gives no map). -/
opaque Config.debugWord : Nat → Nat → Nat

/-- Free value (log 14): the CODE of a logged event that no table of the spec numbers, by the model's own name for the
kind of event. -/
opaque Config.eventCode : Nat → Nat

/-- Free value (log 61): the abort code in UP_RESULT of a FINISH whose slot fails the acceptance checks (14 R496 names none). -/
opaque Config.finishAbort : Nat → Nat

end Sys2Proof
end

