-- ==== Sys2Proof/Machine/Objects.lean ====
section
/-!
DEFINITION. The object dictionary of the block, object by object: the name, address, type, access kind, level, power-on
default, permitted range and the instant at which a written value takes effect, as the object tables of the spec's
chapters give them (00 R14, 11 R384 to R386).  A key is index * 256 + subindex.  An array is a function of its member.
-/
namespace Sys2Proof

/-- 11 Table 11-2, the data types. -/
inductive ObjTy where
  | bool | u8 | u16 | u32 | u64 | i8 | i16 | i32 | f32 | str | dom
deriving DecidableEq, Repr

/-- 11 Table 11-3, the access kinds. -/
inductive Acc where
  | ro | rw | wo | rwg | cmd
deriving DecidableEq, Repr

/-- 00 Table 00-2, the column Takes effect. -/
inductive Eff where
  | immediate | commit | mode | reset
deriving DecidableEq, Repr

/-- One line of an object table: indices `i0` to `i1`, subindices `s0`, `s0 + step`, ... up to `s1`, type, access kind,
level, default, permitted range, and the mask of the bits that are not reserved (00 R7). -/
structure ObjRow where
  i0 : Nat
  i1 : Nat
  s0 : Nat
  s1 : Nat
  step : Nat
  ty : ObjTy
  acc : Acc
  lvl : Nat
  dflt : Int
  lo : Int
  hi : Int
  mask : Nat
  eff : Eff
deriving DecidableEq, Repr

/-- A mask that reserves no bit. -/
abbrev Obj.noMask : Nat := 0xFFFFFFFFFFFFFFFF

/-- 11 Table 11-6. -/
abbrev Obj.ID_VENDOR : Nat := 0x100000
/-- 11 Table 11-6. -/
abbrev Obj.ID_PRODUCT : Nat := 0x100100
/-- 11 Table 11-6. -/
abbrev Obj.ID_DEVICE : Nat := 0x100200
/-- 11 Table 11-6. -/
abbrev Obj.ID_STEPPING : Nat := 0x100300
/-- 11 Table 11-6. -/
abbrev Obj.ID_LOT : Nat := 0x100400
/-- 11 Table 11-6. -/
abbrev Obj.ID_FW_VERSION : Nat := 0x100500
/-- 11 Table 11-6. -/
abbrev Obj.ID_ROM_VERSION : Nat := 0x100600
/-- 11 Table 11-6. -/
abbrev Obj.ID_OD_VERSION : Nat := 0x100700
/-- 11 Table 11-6. -/
abbrev Obj.DEV_STATUS : Nat := 0x101000
/-- 11 Table 11-6. -/
abbrev Obj.DEV_UPTIME : Nat := 0x101100
/-- 11 Table 11-6. -/
abbrev Obj.DEV_POWER_CYCLES : Nat := 0x101200
/-- 11 Table 11-6. -/
abbrev Obj.DEV_ON_HOURS : Nat := 0x101300
/-- 11 Table 11-6. -/
abbrev Obj.EXPERT_STATUS : Nat := 0x102000
/-- 11 Table 11-6. -/
abbrev Obj.EXPERT_RELEASE : Nat := 0x102100
/-- 11 Table 11-6. -/
abbrev Obj.OD_SESSION_LEVEL : Nat := 0x102200
/-- 11 Table 11-6. -/
abbrev Obj.BAR0_WIN_INDEX : Nat := 0x103000
/-- 11 Table 11-6. -/
abbrev Obj.BAR0_DOM_SEL : Nat := 0x103100
/-- 11 Table 11-6. -/
abbrev Obj.BAR0_DOM_LEN : Nat := 0x103200
/-- 11 Table 11-6. -/
abbrev Obj.BAR0_DOM_CMD : Nat := 0x103300
/-- 11 Table 11-6. -/
abbrev Obj.BAR0_DOM_STATUS : Nat := 0x103400
/-- 11 Table 11-6. -/
abbrev Obj.OD_LAST_ABORT : Nat := 0x103500
/-- 11 Table 11-6. -/
abbrev Obj.OD_LAST_ABORT_ADDR : Nat := 0x103600
/-- 11 Table 11-6. -/
abbrev Obj.OD_CNT_BAR0_DROP : Nat := 0x103700
/-- 02 Table 02-10. -/
abbrev Obj.MODE : Nat := 0x110000
/-- 02 Table 02-10. -/
abbrev Obj.MODE_STATUS : Nat := 0x110100
/-- 02 Table 02-10. -/
abbrev Obj.MODE_REQ_TARGET : Nat := 0x110201
/-- 02 Table 02-10. -/
abbrev Obj.MODE_REQ_TXN : Nat := 0x110202
/-- 02 Table 02-10. -/
abbrev Obj.MODE_REQ_TIME : Nat := 0x110203
/-- 02 Table 02-10. -/
abbrev Obj.MODE_REQ_GO : Nat := 0x110205
/-- 02 Table 02-10. -/
abbrev Obj.MODE_REQ_ANSWER : Nat := 0x110206
/-- 02 Table 02-10. -/
abbrev Obj.MODE_TXN_NUM : Nat := 0x110301
/-- 02 Table 02-10. -/
abbrev Obj.MODE_TXN_FROM : Nat := 0x110302
/-- 02 Table 02-10. -/
abbrev Obj.MODE_TXN_TARGET : Nat := 0x110303
/-- 02 Table 02-10. -/
abbrev Obj.MODE_TXN_ACT : Nat := 0x110304
/-- 02 Table 02-10. -/
abbrev Obj.MODE_TXN_OUTCOME : Nat := 0x110306
/-- 02 Table 02-10. -/
abbrev Obj.MODE_TXN_REASON : Nat := 0x110307
/-- 02 Table 02-10. -/
abbrev Obj.MODE_TXN_END : Nat := 0x110308
/-- 02 Table 02-10. -/
abbrev Obj.MODE_TXN_SOURCE : Nat := 0x11030A
/-- 02 Table 02-10. -/
abbrev Obj.MODE_TXN_HIST (k : Nat) : Nat := 0x110401 + 1 * k
/-- 02 Table 02-10. -/
abbrev Obj.SAFE_REASON : Nat := 0x110500
/-- 02 Table 02-10. -/
abbrev Obj.BOOT_STATUS : Nat := 0x110600
/-- 02 Table 02-10. -/
abbrev Obj.STARTUP_SET : Nat := 0x110700
/-- 02 Table 02-10. -/
abbrev Obj.WARM_START_EN : Nat := 0x110800
/-- 02 Table 02-10. -/
abbrev Obj.WARM_MAX_AGE : Nat := 0x110900
/-- 02 Table 02-10. -/
abbrev Obj.WARM_MAX_DT : Nat := 0x110A00
/-- 02 Table 02-10. -/
abbrev Obj.WARM_RESULT (k : Nat) : Nat := 0x110B01 + 1 * k
/-- 02 Table 02-10. -/
abbrev Obj.PREP_STATE (k : Nat) : Nat := 0x110C01 + 1 * k
/-- 02 Table 02-10. -/
abbrev Obj.LOCAL_ONLY : Nat := 0x110D00
/-- 02 Table 02-10. -/
abbrev Obj.SOFT_RESET : Nat := 0x110E00
/-- 02 Table 02-8. -/
abbrev Obj.OP_STATE (k : Nat) : Nat := 0x115001 + 256 * k
/-- 02 Table 02-8. -/
abbrev Obj.OP_PERCENT (k : Nat) : Nat := 0x115002 + 256 * k
/-- 02 Table 02-8. -/
abbrev Obj.OP_POSITION (k : Nat) : Nat := 0x115003 + 256 * k
/-- 02 Table 02-8. -/
abbrev Obj.OP_TOTAL (k : Nat) : Nat := 0x115004 + 256 * k
/-- 02 Table 02-8. -/
abbrev Obj.OP_RESULT (k : Nat) : Nat := 0x115005 + 256 * k
/-- 02 Table 02-8. -/
abbrev Obj.OP_ABORT (k : Nat) : Nat := 0x115006 + 256 * k
/-- 10 Table 10-7. -/
abbrev Obj.CHAIN_STATUS : Nat := 0x120000
/-- 10 Table 10-7. -/
abbrev Obj.CHAIN_STATION : Nat := 0x120100
/-- 10 Table 10-7. -/
abbrev Obj.CHAIN_POSITION : Nat := 0x120200
/-- 10 Table 10-7. -/
abbrev Obj.CHAIN_GROUPS : Nat := 0x120300
/-- 10 Table 10-7. -/
abbrev Obj.CHAIN_ETHERTYPE : Nat := 0x120400
/-- 10 Table 10-7. -/
abbrev Obj.CHAIN_IF (k : Nat) : Nat := 0x120501 + 1 * k
/-- 10 Table 10-7. -/
abbrev Obj.CHAIN_PORT_STATUS (k : Nat) : Nat := 0x120601 + 1 * k
/-- 10 Table 10-7. -/
abbrev Obj.CHAIN_MAC (k : Nat) : Nat := 0x120701 + 2 * k
/-- 10 Table 10-7. -/
abbrev Obj.NOTIFY_MASK : Nat := 0x120800
/-- 10 Table 10-7. -/
abbrev Obj.NOTIFY_SEQ : Nat := 0x120900
/-- 10 Table 10-7. -/
abbrev Obj.LEASE_STATE : Nat := 0x121000
/-- 10 Table 10-7. -/
abbrev Obj.LEASE_ROLE : Nat := 0x121100
/-- 10 Table 10-7. -/
abbrev Obj.LEASE_EPOCH : Nat := 0x121200
/-- 10 Table 10-7. -/
abbrev Obj.LEASE_HB_PERIOD : Nat := 0x121300
/-- 10 Table 10-7. -/
abbrev Obj.LEASE_MISS_LIMIT : Nat := 0x121400
/-- 10 Table 10-7. -/
abbrev Obj.LEASE_REMAIN : Nat := 0x121500
/-- 10 Table 10-7. -/
abbrev Obj.LEASE_LAST_RENEW : Nat := 0x121600
/-- 10 Table 10-7. -/
abbrev Obj.LEASE_EPOCH_CLEAR : Nat := 0x121800
/-- 10 Table 10-7. -/
abbrev Obj.CHAIN_SESSIONS : Nat := 0x121900
/-- 10 Table 10-8. -/
abbrev Obj.CHAIN_CNT_FCS (k : Nat) : Nat := 0x122001 + 1 * k
/-- 10 Table 10-8. -/
abbrev Obj.CHAIN_CNT_STOMPED (k : Nat) : Nat := 0x122101 + 1 * k
/-- 10 Table 10-8. -/
abbrev Obj.CHAIN_CNT_LINK_DOWN (k : Nat) : Nat := 0x122201 + 1 * k
/-- 10 Table 10-8. -/
abbrev Obj.CHAIN_CNT_OVERSIZE (k : Nat) : Nat := 0x122301 + 1 * k
/-- 10 Table 10-8. -/
abbrev Obj.CHAIN_CNT_HOP_LIMIT : Nat := 0x122400
/-- 10 Table 10-8. -/
abbrev Obj.CHAIN_CNT_MALFORMED : Nat := 0x122500
/-- 10 Table 10-8. -/
abbrev Obj.CHAIN_CNT_BAD_ADDR : Nat := 0x122600
/-- 10 Table 10-8. -/
abbrev Obj.CHAIN_CNT_RX_OVF (k : Nat) : Nat := 0x122701 + 1 * k
/-- 10 Table 10-8. -/
abbrev Obj.CHAIN_CNT_DUP_REQ : Nat := 0x122800
/-- 10 Table 10-8. -/
abbrev Obj.CHAIN_CNT_FOREIGN (k : Nat) : Nat := 0x122901 + 1 * k
/-- 10 Table 10-8. -/
abbrev Obj.LEASE_CNT_REFUSED : Nat := 0x122A00
/-- 10 Table 10-8. -/
abbrev Obj.LEASE_CNT_EXPIRED : Nat := 0x122B00
/-- 10 Table 10-8. -/
abbrev Obj.LEASE_CNT_STALE : Nat := 0x122C00
/-- 10 Table 10-8. -/
abbrev Obj.NOTIFY_CNT_DROPPED : Nat := 0x122D00
/-- 10 Table 10-8. -/
abbrev Obj.AUTH_CNT_FAIL : Nat := 0x122E00
/-- 10 Table 10-8. -/
abbrev Obj.CHAIN_CNT_CLEAR : Nat := 0x122F00
/-- 08 Table 08-4. -/
abbrev Obj.TIME_NOW : Nat := 0x130000
/-- 08 Table 08-4. -/
abbrev Obj.TIME_SOURCE : Nat := 0x130200
/-- 08 Table 08-4. -/
abbrev Obj.TIME_STATE : Nat := 0x130300
/-- 08 Table 08-4. -/
abbrev Obj.TIME_STATUS : Nat := 0x130400
/-- 08 Table 08-4. -/
abbrev Obj.TIME_OFFSET : Nat := 0x130500
/-- 08 Table 08-4. -/
abbrev Obj.TIME_FREQ_ADJ : Nat := 0x130600
/-- 08 Table 08-4. -/
abbrev Obj.TIME_MEAN_PATH : Nat := 0x130700
/-- 08 Table 08-4. -/
abbrev Obj.TIME_HOLDOVER_ERR : Nat := 0x130800
/-- 08 Table 08-4. -/
abbrev Obj.TIME_PTP_DOMAIN : Nat := 0x130900
/-- 08 Table 08-4. -/
abbrev Obj.TIME_GM_ID : Nat := 0x130A00
/-- 08 Table 08-4. -/
abbrev Obj.TIME_LOCK_LIMIT : Nat := 0x130B00
/-- 08 Table 08-4. -/
abbrev Obj.TIME_HOLDOVER_RATE : Nat := 0x130C00
/-- 08 Table 08-4. -/
abbrev Obj.TIME_SET : Nat := 0x130D00
/-- 08 Table 08-4. -/
abbrev Obj.PPS_OUT_CFG : Nat := 0x131000
/-- 08 Table 08-4. -/
abbrev Obj.PPS_OUT_WIDTH : Nat := 0x131100
/-- 08 Table 08-4. -/
abbrev Obj.PPS_IN_CFG : Nat := 0x131200
/-- 08 Table 08-4. -/
abbrev Obj.PPS_IN_LAST : Nat := 0x131300
/-- 08 Table 08-4. -/
abbrev Obj.TIME_PORT_ASYM (k : Nat) : Nat := 0x131401 + 1 * k
/-- 08 Table 08-4. -/
abbrev Obj.TIME_CNT_STEP : Nat := 0x132000
/-- 08 Table 08-4. -/
abbrev Obj.TIME_CNT_LOCK_LOSS : Nat := 0x132100
/-- 08 Table 08-4. -/
abbrev Obj.TIME_CNT_CLEAR : Nat := 0x132F00
/-- 03 Table 03-8. -/
abbrev Obj.POS_ENABLE : Nat := 0x200000
/-- 03 Table 03-8. -/
abbrev Obj.INT_WIDTH (k : Nat) : Nat := 0x200101 + 1 * k
/-- 03 Table 03-8. -/
abbrev Obj.INT_HEIGHT (k : Nat) : Nat := 0x200201 + 1 * k
/-- 03 Table 03-8. -/
abbrev Obj.INT_SLOT_MASK (k : Nat) : Nat := 0x200301 + 1 * k
/-- 03 Table 03-8. -/
abbrev Obj.INT_SHORT_POLICY (k : Nat) : Nat := 0x200401 + 1 * k
/-- 03 Table 03-8. -/
abbrev Obj.INT_IDLE_TIMEOUT (k : Nat) : Nat := 0x200501 + 1 * k
/-- 03 Table 03-8. -/
abbrev Obj.INT_STATUS (k : Nat) : Nat := 0x200601 + 1 * k
/-- 03 Table 03-8. -/
abbrev Obj.INT_LAST_CLOSE (k : Nat) : Nat := 0x200701 + 1 * k
/-- 03 Table 03-8. -/
abbrev Obj.INT_VBLANK_MIN (k : Nat) : Nat := 0x200801 + 1 * k
/-- 03 Table 03-8. -/
abbrev Obj.INT_BUF_PEAK : Nat := 0x200900
/-- 03 Table 03-8. -/
abbrev Obj.INT_CNT_CLEAR : Nat := 0x200A00
/-- 03 Table 03-9. -/
abbrev Obj.INT_CNT_SHORT (k : Nat) : Nat := 0x201001 + 1 * k
/-- 03 Table 03-9. -/
abbrev Obj.INT_CNT_LONG (k : Nat) : Nat := 0x201101 + 1 * k
/-- 03 Table 03-9. -/
abbrev Obj.INT_CNT_ROWS_FILLED (k : Nat) : Nat := 0x201201 + 1 * k
/-- 03 Table 03-9. -/
abbrev Obj.INT_CNT_COLS_FILLED (k : Nat) : Nat := 0x201301 + 1 * k
/-- 03 Table 03-9. -/
abbrev Obj.INT_CNT_TRUNC (k : Nat) : Nat := 0x201401 + 1 * k
/-- 03 Table 03-9. -/
abbrev Obj.INT_CNT_DROPPED (k : Nat) : Nat := 0x201501 + 1 * k
/-- 03 Table 03-9. -/
abbrev Obj.INT_CNT_CRC (k : Nat) : Nat := 0x201601 + 1 * k
/-- 03 Table 03-9. -/
abbrev Obj.INT_CNT_STRAY (k : Nat) : Nat := 0x201701 + 1 * k
/-- 03 Table 03-9. -/
abbrev Obj.INT_CNT_UNSOLICITED (k : Nat) : Nat := 0x201801 + 1 * k
/-- 03 Table 03-9. -/
abbrev Obj.INT_CNT_OVERFLOW (k : Nat) : Nat := 0x201901 + 1 * k
/-- 03 Table 03-9. -/
abbrev Obj.INT_CNT_GEOM (k : Nat) : Nat := 0x201A01 + 1 * k
/-- 03 Table 03-9. -/
abbrev Obj.INT_CNT_NO_START : Nat := 0x201A05
/-- 03 Table 03-9. -/
abbrev Obj.INT_CNT_ORDER (k : Nat) : Nat := 0x201B01 + 1 * k
/-- 03 Table 03-9. -/
abbrev Obj.INT_CNT_ROIC (k : Nat) : Nat := 0x201C01 + 1 * k
/-- 03 Table 03-9. -/
abbrev Obj.INT_CNT_LATCH_FAIL (k : Nat) : Nat := 0x201D01 + 1 * k
/-- 03 Table 03-8. -/
abbrev Obj.HP_PCLK_EDGE : Nat := 0x204000
/-- 03 Table 03-8. -/
abbrev Obj.HP_SYNC_POL : Nat := 0x204100
/-- 03 Table 03-8. -/
abbrev Obj.HP_SUBT_REG : Nat := 0x204200
/-- 03 Table 03-8. -/
abbrev Obj.HP_PCLK_FREQ : Nat := 0x204300
/-- 03 Table 03-8. -/
abbrev Obj.MSL_LANE_RATE : Nat := 0x208000
/-- 03 Table 03-8. -/
abbrev Obj.MSL_GROUPS : Nat := 0x208100
/-- 03 Table 03-8. -/
abbrev Obj.MSL_LANE_INVERT : Nat := 0x208200
/-- 03 Table 03-8. -/
abbrev Obj.MSL_GROUP_REVERSE : Nat := 0x208300
/-- 03 Table 03-8. -/
abbrev Obj.MSL_SOURCE (k : Nat) : Nat := 0x208401 + 1 * k
/-- 03 Table 03-8. -/
abbrev Obj.MSL_LANE_STATUS (k : Nat) : Nat := 0x208501 + 1 * k
/-- 03 Table 03-8. -/
abbrev Obj.MSL_LANE_ERR (k : Nat) : Nat := 0x208601 + 1 * k
/-- 03 Table 03-8. -/
abbrev Obj.MSL_GROUP_REALIGN (k : Nat) : Nat := 0x208701 + 1 * k
/-- 03 Table 03-8. -/
abbrev Obj.MSL_GROUP_LOAD (k : Nat) : Nat := 0x208801 + 1 * k
/-- 03 Table 03-8. -/
abbrev Obj.MSL_UNBOUND (k : Nat) : Nat := 0x208901 + 1 * k
/-- 03 Table 03-8. -/
abbrev Obj.MSL_CNT_HCRC (k : Nat) : Nat := 0x208A01 + 1 * k
/-- 03 Table 03-8. -/
abbrev Obj.FPA_SELECT (k : Nat) : Nat := 0x209001 + 1 * k
/-- 03 Table 03-8. -/
abbrev Obj.FPA_REG_TINT (k : Nat) : Nat := 0x209101 + 1 * k
/-- 03 Table 03-8. -/
abbrev Obj.FPA_REG_SLOTEN (k : Nat) : Nat := 0x209201 + 1 * k
/-- 03 Table 03-8. -/
abbrev Obj.FPA_REG_ID (k : Nat) : Nat := 0x209301 + 1 * k
/-- 03 Table 03-8. -/
abbrev Obj.FPA_TINT_LSB (k : Nat) : Nat := 0x209401 + 1 * k
/-- 03 Table 03-8. -/
abbrev Obj.FPA_ID (k : Nat) : Nat := 0x209501 + 2 * k
/-- 04 Table 04-14. -/
abbrev Obj.CORR_STATUS (k : Nat) : Nat := 0x210001 + 1 * k
/-- 04 Table 04-14. -/
abbrev Obj.CORR_COEF_STATE (k : Nat) : Nat := 0x210101 + 1 * k
/-- 04 Table 04-14. -/
abbrev Obj.CORR_COEF_GEN (k : Nat) : Nat := 0x210201 + 1 * k
/-- 04 Table 04-14. -/
abbrev Obj.CORR_COEF_OPEN (k : Nat) : Nat := 0x210301 + 1 * k
/-- 04 Table 04-14. -/
abbrev Obj.CORR_COEF_CLOSE (k : Nat) : Nat := 0x210401 + 1 * k
/-- 04 Table 04-14. -/
abbrev Obj.CORR_COEF_SOURCE (k : Nat) : Nat := 0x210501 + 1 * k
/-- 04 Table 04-14. -/
abbrev Obj.CORR_COEF_TAG (k : Nat) : Nat := 0x210601 + 1 * k
/-- 04 Table 04-14. -/
abbrev Obj.CORR_T0 (k : Nat) : Nat := 0x210701 + 1 * k
/-- 04 Table 04-14. -/
abbrev Obj.CORR_LIN_LUT (k : Nat) : Nat := 0x210801 + 1 * k
/-- 04 Table 04-14. -/
abbrev Obj.CORR_SAT_LEVEL (k : Nat) : Nat := 0x210901 + 1 * k
/-- 04 Table 04-14. -/
abbrev Obj.CORR_DEFECT_EN (k : Nat) : Nat := 0x210A01 + 1 * k
/-- 04 Table 04-14. -/
abbrev Obj.CORR_SUBT_SMOOTH (k : Nat) : Nat := 0x210B01 + 1 * k
/-- 04 Table 04-14. -/
abbrev Obj.CORR_SUBT_START (k : Nat) : Nat := 0x210C01 + 1 * k
/-- 04 Table 04-14. -/
abbrev Obj.CORR_CHK_LIMIT (k : Nat) : Nat := 0x210D01 + 1 * k
/-- 04 Table 04-14. -/
abbrev Obj.CORR_LOAD_KEY (k : Nat) : Nat := 0x210E01 + 1 * k
/-- 04 Table 04-14. -/
abbrev Obj.CORR_LOAD_GO (k : Nat) : Nat := 0x210F01 + 1 * k
/-- 04 Table 04-14. -/
abbrev Obj.CORR_SAVE_KEY (k : Nat) : Nat := 0x211001 + 1 * k
/-- 04 Table 04-14. -/
abbrev Obj.CORR_SAVE_GO (k : Nat) : Nat := 0x211101 + 1 * k
/-- 04 Table 04-16. -/
abbrev Obj.CORR_CNT_ARITH_SAT (k : Nat) : Nat := 0x212001 + 1 * k
/-- 04 Table 04-16. -/
abbrev Obj.CORR_CNT_REPLACED (k : Nat) : Nat := 0x212101 + 1 * k
/-- 04 Table 04-16. -/
abbrev Obj.CORR_CNT_UNREPL (k : Nat) : Nat := 0x212201 + 1 * k
/-- 04 Table 04-16. -/
abbrev Obj.CORR_CNT_PLANE_CRC (k : Nat) : Nat := 0x212301 + 1 * k
/-- 04 Table 04-16. -/
abbrev Obj.CORR_CNT_SUBT_HELD (k : Nat) : Nat := 0x212401 + 1 * k
/-- 04 Table 04-16. -/
abbrev Obj.CORR_CNT_HOST_BLOCKED (k : Nat) : Nat := 0x212501 + 1 * k
/-- 04 Table 04-16. -/
abbrev Obj.CORR_CNT_REPL_RESERVED (k : Nat) : Nat := 0x212601 + 1 * k
/-- 04 Table 04-16. -/
abbrev Obj.CORR_CNT_LOAD_FAIL (k : Nat) : Nat := 0x212701 + 1 * k
/-- 04 Table 04-14. -/
abbrev Obj.CORR_CNT_CLEAR : Nat := 0x212F00
/-- 04 Table 04-14. -/
abbrev Obj.CORR_TERM_MASK (k : Nat) : Nat := 0x218001 + 1 * k
/-- 05 Table 05-5. -/
abbrev Obj.TAIL_STATUS (k : Nat) : Nat := 0x220001 + 1 * k
/-- 05 Table 05-5. -/
abbrev Obj.TAIL_STRENGTH (k : Nat) : Nat := 0x220101 + 1 * k
/-- 05 Table 05-5. -/
abbrev Obj.TAIL_CLIP (k : Nat) : Nat := 0x220201 + 1 * k
/-- 05 Table 05-5. -/
abbrev Obj.TAIL_NOISE_GAIN (k : Nat) : Nat := 0x220301 + 1 * k
/-- 05 Table 05-5. -/
abbrev Obj.TAIL_NOISE_GAIN_MAX (k : Nat) : Nat := 0x220401 + 1 * k
/-- 05 Table 05-5. -/
abbrev Obj.TAIL_TAU_MEDIAN (k : Nat) : Nat := 0x220501 + 1 * k
/-- 05 Table 05-5. -/
abbrev Obj.TAIL_HIST_RESET (k : Nat) : Nat := 0x220601 + 1 * k
/-- 05 Table 05-5. -/
abbrev Obj.TAIL_CNT_CLIP (k : Nat) : Nat := 0x222001 + 1 * k
/-- 05 Table 05-5. -/
abbrev Obj.TAIL_CNT_RESTART (k : Nat) : Nat := 0x222101 + 1 * k
/-- 05 Table 05-5. -/
abbrev Obj.TAIL_CNT_HELD (k : Nat) : Nat := 0x222201 + 1 * k
/-- 05 Table 05-5. -/
abbrev Obj.TAIL_CNT_CLEAR : Nat := 0x222F00
/-- 05 Table 05-5. -/
abbrev Obj.TAIL_TAU_OVERRIDE (k : Nat) : Nat := 0x228001 + 1 * k
/-- 05 Table 05-6. -/
abbrev Obj.MERGE_STATUS (k : Nat) : Nat := 0x230001 + 1 * k
/-- 05 Table 05-6. -/
abbrev Obj.MERGE_KNEE_LO (k : Nat) : Nat := 0x230101 + 1 * k
/-- 05 Table 05-6. -/
abbrev Obj.MERGE_KNEE_HI (k : Nat) : Nat := 0x230201 + 1 * k
/-- 05 Table 05-6. -/
abbrev Obj.MERGE_SKIP_RESTART (k : Nat) : Nat := 0x230301 + 1 * k
/-- 05 Table 05-6. -/
abbrev Obj.MERGE_RATIO (p k : Nat) : Nat := 0x230401 + 256 * p + 1 * k
/-- 05 Table 05-6. -/
abbrev Obj.MERGE_CNT_SAT (k : Nat) : Nat := 0x232001 + 1 * k
/-- 05 Table 05-6. -/
abbrev Obj.MERGE_CNT_INVALID (k : Nat) : Nat := 0x232101 + 1 * k
/-- 05 Table 05-6. -/
abbrev Obj.MERGE_CNT_CLAMP (k : Nat) : Nat := 0x232201 + 1 * k
/-- 05 Table 05-6. -/
abbrev Obj.MERGE_CNT_STAGED (k : Nat) : Nat := 0x232301 + 1 * k
/-- 05 Table 05-6. -/
abbrev Obj.MERGE_CNT_CLEAR : Nat := 0x232F00
/-- 05 Table 05-7. -/
abbrev Obj.RAD_LUT (p k : Nat) : Nat := 0x240001 + 256 * p + 1 * k
/-- 05 Table 05-7. -/
abbrev Obj.RAD_FORM (p k : Nat) : Nat := 0x240401 + 256 * p + 1 * k
/-- 05 Table 05-7. -/
abbrev Obj.RAD_K (p k : Nat) : Nat := 0x240801 + 256 * p + 1 * k
/-- 05 Table 05-7. -/
abbrev Obj.RAD_INTERP_ERR (p k : Nat) : Nat := 0x240C01 + 256 * p + 1 * k
/-- 05 Table 05-7. -/
abbrev Obj.RAD_ROI_X (p k : Nat) : Nat := 0x241001 + 256 * p + 1 * k
/-- 05 Table 05-7. -/
abbrev Obj.RAD_ROI_Y (p k : Nat) : Nat := 0x241401 + 256 * p + 1 * k
/-- 05 Table 05-7. -/
abbrev Obj.RAD_ROI_EPS (p k : Nat) : Nat := 0x241801 + 256 * p + 1 * k
/-- 05 Table 05-7. -/
abbrev Obj.RAD_ROI_TREFL (p k : Nat) : Nat := 0x241C01 + 256 * p + 1 * k
/-- 05 Table 05-7. -/
abbrev Obj.RAD_ROI_TRANS (p k : Nat) : Nat := 0x242001 + 256 * p + 1 * k
/-- 05 Table 05-7. -/
abbrev Obj.RAD_EPS (k : Nat) : Nat := 0x243001 + 1 * k
/-- 05 Table 05-7. -/
abbrev Obj.RAD_TREFL (k : Nat) : Nat := 0x243101 + 1 * k
/-- 05 Table 05-7. -/
abbrev Obj.RAD_TRANS (k : Nat) : Nat := 0x243201 + 1 * k
/-- 05 Table 05-7. -/
abbrev Obj.RAD_TPATH (k : Nat) : Nat := 0x243301 + 1 * k
/-- 05 Table 05-7. -/
abbrev Obj.RAD_STATUS (k : Nat) : Nat := 0x243401 + 1 * k
/-- 05 Table 05-7. -/
abbrev Obj.RAD_CNT_CLAMP (k : Nat) : Nat := 0x243501 + 1 * k
/-- 05 Table 05-7. -/
abbrev Obj.OF_SNR_EN (k : Nat) : Nat := 0x244001 + 1 * k
/-- 05 Table 05-7. -/
abbrev Obj.OF_SNR_KERNEL (p k : Nat) : Nat := 0x244101 + 256 * p + 1 * k
/-- 05 Table 05-7. -/
abbrev Obj.OF_TNR_EN (k : Nat) : Nat := 0x244501 + 1 * k
/-- 05 Table 05-7. -/
abbrev Obj.OF_TNR_BETA (k : Nat) : Nat := 0x244601 + 1 * k
/-- 05 Table 05-7. -/
abbrev Obj.OF_TNR_THRESH (k : Nat) : Nat := 0x244701 + 1 * k
/-- 05 Table 05-7. -/
abbrev Obj.RAD_CNT_CLEAR : Nat := 0x244F00
/-- 04 Table 04-14. -/
abbrev Obj.HER_ORDER : Nat := 0x250000
/-- 04 Table 04-14. -/
abbrev Obj.HER_SNR_EN : Nat := 0x250100
/-- 04 Table 04-14. -/
abbrev Obj.HER_SNR_KERNEL (k : Nat) : Nat := 0x250201 + 1 * k
/-- 04 Table 04-14. -/
abbrev Obj.HER_TNR_EN : Nat := 0x250300
/-- 04 Table 04-14. -/
abbrev Obj.HER_TNR_BETA : Nat := 0x250400
/-- 04 Table 04-14. -/
abbrev Obj.HER_DRIFT_D : Nat := 0x250500
/-- 04 Table 04-14. -/
abbrev Obj.HER_TREF : Nat := 0x250600
/-- 07 Table 07-4. -/
abbrev Obj.STAT_STATUS (k : Nat) : Nat := 0x260001 + 1 * k
/-- 07 Table 07-4. -/
abbrev Obj.STAT_HIST_LO (k : Nat) : Nat := 0x260101 + 1 * k
/-- 07 Table 07-4. -/
abbrev Obj.STAT_HIST_SHIFT (k : Nat) : Nat := 0x260201 + 1 * k
/-- 07 Table 07-4. -/
abbrev Obj.STAT_LOW_LEVEL (k : Nat) : Nat := 0x260301 + 1 * k
/-- 07 Table 07-4. -/
abbrev Obj.STAT_FRAME (k : Nat) : Nat := 0x260401 + 1 * k
/-- 07 Table 07-4. -/
abbrev Obj.STAT_BLOCK (k : Nat) : Nat := 0x260501 + 1 * k
/-- 07 Table 07-4. -/
abbrev Obj.STAT_LATCH (k : Nat) : Nat := 0x260601 + 1 * k
/-- 07 Table 07-4. -/
abbrev Obj.STAT_LATCHED_FRAME (k : Nat) : Nat := 0x260701 + 1 * k
/-- 07 Table 07-4. -/
abbrev Obj.STAT_LATCH_ADDR (k : Nat) : Nat := 0x260801 + 2 * k
/-- 07 Table 07-4. -/
abbrev Obj.STAT_ROI_X (p k : Nat) : Nat := 0x261001 + 256 * p + 1 * k
/-- 07 Table 07-4. -/
abbrev Obj.STAT_ROI_Y (p k : Nat) : Nat := 0x261401 + 256 * p + 1 * k
/-- 07 Table 07-3. -/
abbrev Obj.INTG_STATUS (k : Nat) : Nat := 0x270001 + 1 * k
/-- 07 Table 07-3. -/
abbrev Obj.INTG_VDET (k : Nat) : Nat := 0x270101 + 1 * k
/-- 07 Table 07-3. -/
abbrev Obj.INTG_VDET_SLEW (k : Nat) : Nat := 0x270201 + 1 * k
/-- 07 Table 07-3. -/
abbrev Obj.INTG_VDET_OUT (k : Nat) : Nat := 0x270301 + 1 * k
/-- 07 Table 07-3. -/
abbrev Obj.INTG_VDET_CURRENT (k : Nat) : Nat := 0x270401 + 1 * k
/-- 07 Table 07-3. -/
abbrev Obj.INTG_SLOT_ACK (k : Nat) : Nat := 0x270501 + 1 * k
/-- 07 Table 07-3. -/
abbrev Obj.INTG_TINT_ACK (p k : Nat) : Nat := 0x270601 + 256 * p + 1 * k
/-- 07 Table 07-3. -/
abbrev Obj.AI_EN (k : Nat) : Nat := 0x270A01 + 1 * k
/-- 07 Table 07-3. -/
abbrev Obj.AI_POOL (k : Nat) : Nat := 0x270B01 + 1 * k
/-- 07 Table 07-3. -/
abbrev Obj.AI_SAT_ON (k : Nat) : Nat := 0x270C01 + 1 * k
/-- 07 Table 07-3. -/
abbrev Obj.AI_LOW_ON (k : Nat) : Nat := 0x270D01 + 1 * k
/-- 07 Table 07-3. -/
abbrev Obj.AI_OFF (k : Nat) : Nat := 0x270E01 + 1 * k
/-- 07 Table 07-3. -/
abbrev Obj.AI_HOLD (k : Nat) : Nat := 0x270F01 + 1 * k
/-- 07 Table 07-3. -/
abbrev Obj.GEN_ACTIVE (k : Nat) : Nat := 0x271001 + 1 * k
/-- 07 Table 07-3. -/
abbrev Obj.GEN_GOVERNING (k : Nat) : Nat := 0x271101 + 1 * k
/-- 07 Table 07-3. -/
abbrev Obj.GEN_COMMIT_FRAME (k : Nat) : Nat := 0x271201 + 1 * k
/-- 07 Table 07-3. -/
abbrev Obj.GEN_PENDING_STATE (k : Nat) : Nat := 0x271301 + 1 * k
/-- 07 Table 07-3. -/
abbrev Obj.GEN_COMMIT : Nat := 0x271400
/-- 07 Table 07-3. -/
abbrev Obj.GEN_DISCARD : Nat := 0x271500
/-- 07 Table 07-3. -/
abbrev Obj.INTG_CNT_AI_CHANGE (k : Nat) : Nat := 0x272001 + 1 * k
/-- 07 Table 07-3. -/
abbrev Obj.INTG_CNT_AI_REFUSED (k : Nat) : Nat := 0x272101 + 1 * k
/-- 07 Table 07-3. -/
abbrev Obj.INTG_CNT_COMMIT_REFUSED (k : Nat) : Nat := 0x272201 + 1 * k
/-- 07 Table 07-3. -/
abbrev Obj.INTG_CNT_VDET_FAULT (k : Nat) : Nat := 0x272301 + 1 * k
/-- 07 Table 07-3. -/
abbrev Obj.INTG_CNT_CLEAR : Nat := 0x272F00
/-- 07 Table 07-3. -/
abbrev Obj.INTG_TINT (p k : Nat) : Nat := 0x278001 + 256 * p + 1 * k
/-- 09 Table 09-7. -/
abbrev Obj.OUT_STATUS (k : Nat) : Nat := 0x280001 + 1 * k
/-- 09 Table 09-7. -/
abbrev Obj.OUT_SPEED (k : Nat) : Nat := 0x280101 + 1 * k
/-- 09 Table 09-7. -/
abbrev Obj.OUT_FEC (k : Nat) : Nat := 0x280201 + 1 * k
/-- 09 Table 09-7. -/
abbrev Obj.OUT_MAC (k : Nat) : Nat := 0x280301 + 2 * k
/-- 09 Table 09-7. -/
abbrev Obj.OUT_IP (k : Nat) : Nat := 0x280401 + 1 * k
/-- 09 Table 09-7. -/
abbrev Obj.OUT_NETMASK (k : Nat) : Nat := 0x280501 + 1 * k
/-- 09 Table 09-7. -/
abbrev Obj.OUT_GATEWAY (k : Nat) : Nat := 0x280601 + 1 * k
/-- 09 Table 09-7. -/
abbrev Obj.OUT_MTU (k : Nat) : Nat := 0x280701 + 1 * k
/-- 09 Table 09-7. -/
abbrev Obj.OUT_DSCP (k : Nat) : Nat := 0x280801 + 1 * k
/-- 09 Table 09-7. -/
abbrev Obj.OUT_UDP_PORT (k : Nat) : Nat := 0x280901 + 1 * k
/-- 09 Table 09-7. -/
abbrev Obj.OUT_FULL_POLICY (k : Nat) : Nat := 0x280A01 + 1 * k
/-- 09 Table 09-7. -/
abbrev Obj.OUT_LOAD (k : Nat) : Nat := 0x280B01 + 1 * k
/-- 09 Table 09-7. -/
abbrev Obj.OUT_RING_FILL (k : Nat) : Nat := 0x280C01 + 1 * k
/-- 09 Table 09-7. -/
abbrev Obj.OUT_IMG_PORT (k : Nat) : Nat := 0x281001 + 1 * k
/-- 09 Table 09-7. -/
abbrev Obj.OUT_IMG_FMT (k : Nat) : Nat := 0x281101 + 1 * k
/-- 09 Table 09-7. -/
abbrev Obj.OUT_IMG_DST0 (k : Nat) : Nat := 0x281201 + 1 * k
/-- 09 Table 09-7. -/
abbrev Obj.OUT_IMG_DST1 (k : Nat) : Nat := 0x281301 + 1 * k
/-- 09 Table 09-8. -/
abbrev Obj.TAP_EN (k : Nat) : Nat := 0x282001 + 1 * k
/-- 09 Table 09-8. -/
abbrev Obj.TAP_POS (k : Nat) : Nat := 0x282101 + 1 * k
/-- 09 Table 09-8. -/
abbrev Obj.TAP_SLOT (k : Nat) : Nat := 0x282201 + 1 * k
/-- 09 Table 09-8. -/
abbrev Obj.TAP_WIN_X (k : Nat) : Nat := 0x282301 + 1 * k
/-- 09 Table 09-8. -/
abbrev Obj.TAP_WIN_Y (k : Nat) : Nat := 0x282401 + 1 * k
/-- 09 Table 09-8. -/
abbrev Obj.TAP_DECIM (k : Nat) : Nat := 0x282501 + 1 * k
/-- 09 Table 09-8. -/
abbrev Obj.TAP_PORT (k : Nat) : Nat := 0x282601 + 1 * k
/-- 09 Table 09-8. -/
abbrev Obj.TAP_DST (k : Nat) : Nat := 0x282701 + 1 * k
/-- 09 Table 09-8. -/
abbrev Obj.TAP_LOAD (k : Nat) : Nat := 0x282801 + 1 * k
/-- 09 Table 09-8. -/
abbrev Obj.TAP_STATUS (k : Nat) : Nat := 0x282901 + 1 * k
/-- 09 Table 09-8. -/
abbrev Obj.OUT_CNT_DATAGRAMS (k : Nat) : Nat := 0x284001 + 2 * k
/-- 09 Table 09-8. -/
abbrev Obj.OUT_CNT_INGOTS (k : Nat) : Nat := 0x284101 + 1 * k
/-- 09 Table 09-8. -/
abbrev Obj.OUT_CNT_RING_FULL (k : Nat) : Nat := 0x284201 + 1 * k
/-- 09 Table 09-8. -/
abbrev Obj.OUT_CNT_NO_ROUTE (k : Nat) : Nat := 0x284301 + 1 * k
/-- 09 Table 09-8. -/
abbrev Obj.OUT_CNT_CUT (k : Nat) : Nat := 0x284401 + 1 * k
/-- 09 Table 09-8. -/
abbrev Obj.OUT_CNT_LEASE_DISCARD (k : Nat) : Nat := 0x284501 + 1 * k
/-- 09 Table 09-8. -/
abbrev Obj.OUT_CNT_LINKDOWN (k : Nat) : Nat := 0x284601 + 1 * k
/-- 09 Table 09-8. -/
abbrev Obj.OUT_CNT_MODE_DISCARD (k : Nat) : Nat := 0x284701 + 1 * k
/-- 09 Table 09-8. -/
abbrev Obj.OUT_CNT_PAUSE (k : Nat) : Nat := 0x284801 + 1 * k
/-- 09 Table 09-8. -/
abbrev Obj.OUT_PAUSED_TIME (k : Nat) : Nat := 0x284901 + 2 * k
/-- 09 Table 09-8. -/
abbrev Obj.OUT_CNT_RX_DROP (k : Nat) : Nat := 0x284A01 + 1 * k
/-- 09 Table 09-8. -/
abbrev Obj.OUT_CNT_ICMP (k : Nat) : Nat := 0x284B01 + 1 * k
/-- 09 Table 09-8. -/
abbrev Obj.TAP_CNT_INGOTS (k : Nat) : Nat := 0x285001 + 1 * k
/-- 09 Table 09-8. -/
abbrev Obj.TAP_CNT_DROP (k : Nat) : Nat := 0x285101 + 1 * k
/-- 09 Table 09-8. -/
abbrev Obj.OUT_CNT_CLEAR : Nat := 0x285F00
/-- 09 Table 09-7. -/
abbrev Obj.OUT_PAUSE_EN (k : Nat) : Nat := 0x288001 + 1 * k
/-- 09 Table 09-7. -/
abbrev Obj.OUT_ARP_STATIC (k : Nat) : Nat := 0x288101 + 2 * k
/-- 06 Table 06-5. -/
abbrev Obj.ECL_STATUS (k : Nat) : Nat := 0x290001 + 1 * k
/-- 06 Table 06-5. -/
abbrev Obj.ECL_PHASE (k : Nat) : Nat := 0x290101 + 1 * k
/-- 06 Table 06-5. -/
abbrev Obj.ECL_SCHED_MODE (k : Nat) : Nat := 0x290201 + 1 * k
/-- 06 Table 06-5. -/
abbrev Obj.ECL_REQUEST (k : Nat) : Nat := 0x290301 + 1 * k
/-- 06 Table 06-5. -/
abbrev Obj.ECL_ABORT (k : Nat) : Nat := 0x290401 + 1 * k
/-- 06 Table 06-5. -/
abbrev Obj.ECL_INTERVAL (k : Nat) : Nat := 0x290501 + 1 * k
/-- 06 Table 06-5. -/
abbrev Obj.ECL_MIN_INTERVAL (k : Nat) : Nat := 0x290601 + 1 * k
/-- 06 Table 06-5. -/
abbrev Obj.ECL_MAX_INTERVAL (k : Nat) : Nat := 0x290701 + 1 * k
/-- 06 Table 06-5. -/
abbrev Obj.ECL_PRED_THRESH (k : Nat) : Nat := 0x290801 + 1 * k
/-- 06 Table 06-5. -/
abbrev Obj.ECL_PRED_ERR (k : Nat) : Nat := 0x290901 + 1 * k
/-- 06 Table 06-5. -/
abbrev Obj.ECL_LAST_RESULT (k : Nat) : Nat := 0x290A01 + 1 * k
/-- 06 Table 06-5. -/
abbrev Obj.ECL_LAST_TIME (k : Nat) : Nat := 0x290B01 + 2 * k
/-- 06 Table 06-5. -/
abbrev Obj.ECL_COUNT (k : Nat) : Nat := 0x290C01 + 2 * k
/-- 06 Table 06-5. -/
abbrev Obj.ECL_SHUT_CYCLES (k : Nat) : Nat := 0x290D01 + 2 * k
/-- 06 Table 06-5. -/
abbrev Obj.ECL_LAST_RESID (k : Nat) : Nat := 0x290E01 + 1 * k
/-- 06 Table 06-5. -/
abbrev Obj.ECL_LAST_TACC (k : Nat) : Nat := 0x290F01 + 1 * k
/-- 06 Table 06-5. -/
abbrev Obj.ECL_DRIFT_STATE (k : Nat) : Nat := 0x291001 + 1 * k
/-- 06 Table 06-5. -/
abbrev Obj.ECL_DRIFT_TIME (k : Nat) : Nat := 0x291101 + 2 * k
/-- 06 Table 06-5. -/
abbrev Obj.ECL_LEARNED (k : Nat) : Nat := 0x291201 + 1 * k
/-- 06 Table 06-5. -/
abbrev Obj.ECL_TAU_FITTED (k : Nat) : Nat := 0x291301 + 1 * k
/-- 06 Table 06-5. -/
abbrev Obj.ECL_WINDOW_OPPORTUNISTIC : Nat := 0x291400
/-- 06 Table 06-5. -/
abbrev Obj.ECL_ACC_FRAMES (k : Nat) : Nat := 0x291501 + 1 * k
/-- 06 Table 06-5. -/
abbrev Obj.ECL_FRAME_PERIOD : Nat := 0x291600
/-- 06 Table 06-5. -/
abbrev Obj.ECL_EST_DURATION (k : Nat) : Nat := 0x291701 + 1 * k
/-- 06 Table 06-5. -/
abbrev Obj.ECL_TARGET_MODE (k : Nat) : Nat := 0x291801 + 1 * k
/-- 06 Table 06-5. -/
abbrev Obj.ECL_SHUT_TSRC (k : Nat) : Nat := 0x291901 + 1 * k
/-- 06 Table 06-5. -/
abbrev Obj.ECL_WINDOWS : Nat := 0x291A00
/-- 06 Table 06-5. -/
abbrev Obj.ECL_FAULT_CLEAR (k : Nat) : Nat := 0x291F01 + 1 * k
/-- 06 Table 06-5. -/
abbrev Obj.ECL_CNT_SHORT_DISCARD (k : Nat) : Nat := 0x292001 + 1 * k
/-- 06 Table 06-5. -/
abbrev Obj.ECL_CNT_PIX_MISSED (k : Nat) : Nat := 0x292101 + 1 * k
/-- 06 Table 06-5. -/
abbrev Obj.ECL_CNT_OFFSET_SAT (k : Nat) : Nat := 0x292201 + 1 * k
/-- 06 Table 06-5. -/
abbrev Obj.ECL_CNT_TAU_REJECT (k : Nat) : Nat := 0x292301 + 1 * k
/-- 06 Table 06-5. -/
abbrev Obj.ECL_CNT_DRIFT_REJECT (k : Nat) : Nat := 0x292401 + 1 * k
/-- 06 Table 06-5. -/
abbrev Obj.ECL_CNT_DEF_CAP (k : Nat) : Nat := 0x292501 + 1 * k
/-- 06 Table 06-5. -/
abbrev Obj.ECL_CNT_ABORT (k : Nat) : Nat := 0x292601 + 1 * k
/-- 06 Table 06-5. -/
abbrev Obj.ECL_CNT_WINDOW_LOST : Nat := 0x292700
/-- 06 Table 06-5. -/
abbrev Obj.ECL_CNT_CLEAR : Nat := 0x292F00
/-- 06 Table 06-5. -/
abbrev Obj.ECL_PULSE_MAX (k : Nat) : Nat := 0x298001 + 1 * k
/-- 06 Table 06-5. -/
abbrev Obj.ECL_PULSE_HOLD (k : Nat) : Nat := 0x298101 + 1 * k
/-- 06 Table 06-5. -/
abbrev Obj.ECL_DRIVE_DUTY (k : Nat) : Nat := 0x298201 + 1 * k
/-- 06 Table 06-5. -/
abbrev Obj.ECL_SHUT_CFG (k : Nat) : Nat := 0x298301 + 1 * k
/-- 06 Table 06-5. -/
abbrev Obj.ECL_SETTLE_TIME (k : Nat) : Nat := 0x298401 + 1 * k
/-- 06 Table 06-5. -/
abbrev Obj.ECL_RECOVER_FRAMES (k : Nat) : Nat := 0x298501 + 1 * k
/-- 06 Table 06-5. -/
abbrev Obj.ECL_EDGE_GUARD (k : Nat) : Nat := 0x298601 + 1 * k
/-- 06 Table 06-5. -/
abbrev Obj.ECL_ROW_T0 (k : Nat) : Nat := 0x298701 + 1 * k
/-- 06 Table 06-5. -/
abbrev Obj.ECL_ROW_PITCH (k : Nat) : Nat := 0x298801 + 1 * k
/-- 06 Table 06-5. -/
abbrev Obj.ECL_TRAVEL_CLOSE (p k : Nat) : Nat := 0x298901 + 256 * p + 1 * k
/-- 06 Table 06-5. -/
abbrev Obj.ECL_TRAVEL_OPEN (p k : Nat) : Nat := 0x298D01 + 256 * p + 1 * k
/-- 06 Table 06-5. -/
abbrev Obj.ECL_FIT_MIN_STEP (k : Nat) : Nat := 0x299101 + 1 * k
/-- 06 Table 06-5. -/
abbrev Obj.ECL_TAU_MIN_EST (k : Nat) : Nat := 0x299201 + 1 * k
/-- 06 Table 06-5. -/
abbrev Obj.ECL_DRIFT_FORGET (k : Nat) : Nat := 0x299301 + 1 * k
/-- 06 Table 06-5. -/
abbrev Obj.ECL_DRIFT_MIN_W (k : Nat) : Nat := 0x299401 + 1 * k
/-- 06 Table 06-5. -/
abbrev Obj.ECL_DRIFT_LIN_SPAN (k : Nat) : Nat := 0x299501 + 1 * k
/-- 06 Table 06-5. -/
abbrev Obj.ECL_DRIFT_QUAD_SPAN (k : Nat) : Nat := 0x299601 + 1 * k
/-- 06 Table 06-5. -/
abbrev Obj.ECL_PRED_K_INIT (k : Nat) : Nat := 0x299701 + 1 * k
/-- 06 Table 06-5. -/
abbrev Obj.ECL_PRED_K (k : Nat) : Nat := 0x299801 + 1 * k
/-- 06 Table 06-5. -/
abbrev Obj.ECL_PRED_AGE_RATE (k : Nat) : Nat := 0x299901 + 1 * k
/-- 06 Table 06-5. -/
abbrev Obj.ECL_DEF_OFS_LIM (k : Nat) : Nat := 0x299A01 + 1 * k
/-- 06 Table 06-5. -/
abbrev Obj.ECL_DEF_NOISE_MUL (k : Nat) : Nat := 0x299B01 + 1 * k
/-- 06 Table 06-5. -/
abbrev Obj.ECL_DEF_SET (k : Nat) : Nat := 0x299C01 + 1 * k
/-- 06 Table 06-5. -/
abbrev Obj.ECL_DEF_CAP (k : Nat) : Nat := 0x299D01 + 1 * k
/-- 06 Table 06-5. -/
abbrev Obj.ECL_DEF_MAX (k : Nat) : Nat := 0x299E01 + 1 * k
/-- 06 Table 06-5. -/
abbrev Obj.ECL_LEARN_EN (k : Nat) : Nat := 0x299F01 + 1 * k
/-- 06 Table 06-5. -/
abbrev Obj.ECL_SHUT_CMD (k : Nat) : Nat := 0x29A001 + 1 * k
/-- 08 Table 08-5. -/
abbrev Obj.ENC_CFG (k : Nat) : Nat := 0x2A0001 + 1 * k
/-- 08 Table 08-5. -/
abbrev Obj.ENC_COUNT (k : Nat) : Nat := 0x2A0101 + 2 * k
/-- 08 Table 08-5. -/
abbrev Obj.ENC_PRESET (k : Nat) : Nat := 0x2A0201 + 2 * k
/-- 08 Table 08-5. -/
abbrev Obj.ENC_Z_LATCH (k : Nat) : Nat := 0x2A0301 + 2 * k
/-- 08 Table 08-5. -/
abbrev Obj.ENC_SPEED (k : Nat) : Nat := 0x2A0401 + 1 * k
/-- 08 Table 08-5. -/
abbrev Obj.ENC_STATUS (k : Nat) : Nat := 0x2A0501 + 1 * k
/-- 08 Table 08-5. -/
abbrev Obj.TI_CFG (k : Nat) : Nat := 0x2A0601 + 1 * k
/-- 08 Table 08-5. -/
abbrev Obj.TG_SOURCE (k : Nat) : Nat := 0x2A0801 + 1 * k
/-- 08 Table 08-5. -/
abbrev Obj.TG_DIVIDE (k : Nat) : Nat := 0x2A0901 + 1 * k
/-- 08 Table 08-5. -/
abbrev Obj.TG_OFFSET (k : Nat) : Nat := 0x2A0A01 + 1 * k
/-- 08 Table 08-5. -/
abbrev Obj.TG_DIR (k : Nat) : Nat := 0x2A0B01 + 1 * k
/-- 08 Table 08-5. -/
abbrev Obj.TG_PERIOD (k : Nat) : Nat := 0x2A0C01 + 1 * k
/-- 08 Table 08-5. -/
abbrev Obj.TG_PHASE (k : Nat) : Nat := 0x2A0D01 + 1 * k
/-- 08 Table 08-5. -/
abbrev Obj.TG_LEAD (k : Nat) : Nat := 0x2A0E01 + 1 * k
/-- 08 Table 08-5. -/
abbrev Obj.TG_HOLDOFF (k : Nat) : Nat := 0x2A0F01 + 1 * k
/-- 08 Table 08-5. -/
abbrev Obj.TG_PUBLISH (k : Nat) : Nat := 0x2A1001 + 1 * k
/-- 08 Table 08-5. -/
abbrev Obj.TG_ENC_REF (k : Nat) : Nat := 0x2A1101 + 1 * k
/-- 08 Table 08-5. -/
abbrev Obj.TG_FIRE (k : Nat) : Nat := 0x2A1201 + 1 * k
/-- 08 Table 08-5. -/
abbrev Obj.TG_LAST_TIME (k : Nat) : Nat := 0x2A1301 + 2 * k
/-- 08 Table 08-5. -/
abbrev Obj.TRIG_SOURCE (k : Nat) : Nat := 0x2A1801 + 1 * k
/-- 08 Table 08-5. -/
abbrev Obj.TRIG_POLICY (k : Nat) : Nat := 0x2A1901 + 1 * k
/-- 08 Table 08-5. -/
abbrev Obj.TRIG_MIN_PERIOD (k : Nat) : Nat := 0x2A1A01 + 1 * k
/-- 08 Table 08-5. -/
abbrev Obj.TRIG_STATE (k : Nat) : Nat := 0x2A1B01 + 1 * k
/-- 08 Table 08-5. -/
abbrev Obj.TRIG_LAST_START (k : Nat) : Nat := 0x2A1C01 + 2 * k
/-- 08 Table 08-5. -/
abbrev Obj.TO_CFG (k : Nat) : Nat := 0x2A1D01 + 1 * k
/-- 08 Table 08-5. -/
abbrev Obj.TO_DELAY (k : Nat) : Nat := 0x2A1E01 + 1 * k
/-- 08 Table 08-5. -/
abbrev Obj.TO_WIDTH (k : Nat) : Nat := 0x2A1F01 + 1 * k
/-- 08 Table 08-5. -/
abbrev Obj.ENC_CNT_ERR (k : Nat) : Nat := 0x2A2001 + 1 * k
/-- 08 Table 08-5. -/
abbrev Obj.TG_CNT_EVENTS (k : Nat) : Nat := 0x2A2101 + 1 * k
/-- 08 Table 08-5. -/
abbrev Obj.TG_CNT_SUPPRESSED (k : Nat) : Nat := 0x2A2201 + 1 * k
/-- 08 Table 08-5. -/
abbrev Obj.TRIG_SKIPPED (k : Nat) : Nat := 0x2A2301 + 1 * k
/-- 08 Table 08-5. -/
abbrev Obj.TRIG_CNT_HELD (k : Nat) : Nat := 0x2A2401 + 1 * k
/-- 08 Table 08-5. -/
abbrev Obj.TRIG_CNT_LATE (k : Nat) : Nat := 0x2A2501 + 1 * k
/-- 08 Table 08-5. -/
abbrev Obj.TRIG_CNT_CLASH (k : Nat) : Nat := 0x2A2601 + 1 * k
/-- 08 Table 08-5. -/
abbrev Obj.TRIG_CNT_THROTTLED (k : Nat) : Nat := 0x2A2701 + 1 * k
/-- 08 Table 08-5. -/
abbrev Obj.TRIG_CNT_ECL_IGNORED (k : Nat) : Nat := 0x2A2801 + 1 * k
/-- 08 Table 08-5. -/
abbrev Obj.TRIG_CNT_DUP (k : Nat) : Nat := 0x2A2901 + 1 * k
/-- 08 Table 08-5. -/
abbrev Obj.TRIG_CNT_SEQ_GAP (k : Nat) : Nat := 0x2A2A01 + 1 * k
/-- 08 Table 08-5. -/
abbrev Obj.TRIG_CNT_QUEUE_FULL (k : Nat) : Nat := 0x2A2B01 + 1 * k
/-- 08 Table 08-5. -/
abbrev Obj.TO_CNT_OVERLAP (k : Nat) : Nat := 0x2A2C01 + 1 * k
/-- 08 Table 08-5. -/
abbrev Obj.TRIG_CNT_FOREIGN : Nat := 0x2A2D00
/-- 08 Table 08-5. -/
abbrev Obj.TRIG_CNT_CLEAR : Nat := 0x2A2F00
/-- 08 Table 08-5. -/
abbrev Obj.ENC_FILTER (k : Nat) : Nat := 0x2A8001 + 1 * k
/-- 08 Table 08-5. -/
abbrev Obj.TI_FILTER (k : Nat) : Nat := 0x2A8101 + 1 * k
/-- 12 Table 12-11. -/
abbrev Obj.MEM_STATUS : Nat := 0x300000
/-- 12 Table 12-11. -/
abbrev Obj.MEM_RETAIN_EPOCH : Nat := 0x300100
/-- 12 Table 12-11. -/
abbrev Obj.MEM_DEV_REFRESH (k : Nat) : Nat := 0x300201 + 1 * k
/-- 12 Table 12-11. -/
abbrev Obj.MEM_HOST_BW : Nat := 0x300300
/-- 12 Table 12-11. -/
abbrev Obj.MEM_CNT_OFFLINE : Nat := 0x301000
/-- 12 Table 12-11. -/
abbrev Obj.MEM_CNT_TRAIN_FAIL : Nat := 0x301100
/-- 12 Table 12-11. -/
abbrev Obj.MEM_CNT_CLEAR : Nat := 0x301F00
/-- 12 Table 12-11. -/
abbrev Obj.MEM_HOST_BW_LIMIT : Nat := 0x308000
/-- 12 Table 12-11. -/
abbrev Obj.HP_STATUS : Nat := 0x310000
/-- 12 Table 12-11. -/
abbrev Obj.HP_ENABLE : Nat := 0x310100
/-- 12 Table 12-11. -/
abbrev Obj.HP_LINK : Nat := 0x310200
/-- 12 Table 12-11. -/
abbrev Obj.HP_SUBSYS_ID : Nat := 0x310300
/-- 12 Table 12-11. -/
abbrev Obj.HP_CNT_BLOCKED : Nat := 0x310400
/-- 12 Table 12-11. -/
abbrev Obj.HP_CNT_LINK_DOWN : Nat := 0x310500
/-- 12 Table 12-11. -/
abbrev Obj.HP_CNT_CLEAR : Nat := 0x310F00
/-- 12 Table 12-11. -/
abbrev Obj.DMA_CFG (k : Nat) : Nat := 0x311001 + 1 * k
/-- 12 Table 12-11. -/
abbrev Obj.DMA_RATE (k : Nat) : Nat := 0x311101 + 1 * k
/-- 12 Table 12-11. -/
abbrev Obj.DMA_RING_BASE (k : Nat) : Nat := 0x311201 + 2 * k
/-- 12 Table 12-11. -/
abbrev Obj.DMA_RING_SIZE (k : Nat) : Nat := 0x311301 + 1 * k
/-- 12 Table 12-11. -/
abbrev Obj.DMA_STATE (k : Nat) : Nat := 0x311401 + 1 * k
/-- 12 Table 12-11. -/
abbrev Obj.DMA_CNT_DESC (k : Nat) : Nat := 0x311501 + 1 * k
/-- 12 Table 12-11. -/
abbrev Obj.DMA_CNT_ERR (k : Nat) : Nat := 0x311601 + 1 * k
/-- 13 Table 13-9. -/
abbrev Obj.NV_STATUS : Nat := 0x320000
/-- 13 Table 13-9. -/
abbrev Obj.NV_KEEP_BP : Nat := 0x320100
/-- 13 Table 13-9. -/
abbrev Obj.NV_USER_ADDR : Nat := 0x320200
/-- 13 Table 13-9. -/
abbrev Obj.NV_USER_DATA : Nat := 0x320300
/-- 13 Table 13-9. -/
abbrev Obj.NV_STORE_SIZE (k : Nat) : Nat := 0x320401 + 1 * k
/-- 13 Table 13-9. -/
abbrev Obj.NV_STORE_FREE (k : Nat) : Nat := 0x320501 + 1 * k
/-- 13 Table 13-9. -/
abbrev Obj.NV_STORE_SEQ : Nat := 0x320600
/-- 13 Table 13-9. -/
abbrev Obj.NV_STORE_DEVICES : Nat := 0x320700
/-- 13 Table 13-9. -/
abbrev Obj.NV_SET_NAME (k : Nat) : Nat := 0x320801 + 1 * k
/-- 13 Table 13-9. -/
abbrev Obj.NV_SET_SAVE : Nat := 0x320900
/-- 13 Table 13-9. -/
abbrev Obj.NV_SET_DELETE : Nat := 0x320A00
/-- 13 Table 13-9. -/
abbrev Obj.NV_SET_APPLY : Nat := 0x320B00
/-- 13 Table 13-9. -/
abbrev Obj.NV_RECORD_DELETE : Nat := 0x320C00
/-- 13 Table 13-9. -/
abbrev Obj.NV_ANNEAL_NOW : Nat := 0x320D00
/-- 13 Table 13-9. -/
abbrev Obj.NV_LAST_ANNEAL : Nat := 0x320E00
/-- 13 Table 13-9. -/
abbrev Obj.NV_COMPACT_GO : Nat := 0x320F00
/-- 13 Table 13-9. -/
abbrev Obj.NV_CNT_KEEP_WEAK : Nat := 0x321000
/-- 13 Table 13-9. -/
abbrev Obj.NV_CNT_KEEP_DROP : Nat := 0x321100
/-- 13 Table 13-9. -/
abbrev Obj.NV_CNT_COUNTER_SLOT : Nat := 0x321200
/-- 13 Table 13-9. -/
abbrev Obj.NV_CNT_REC_BAD : Nat := 0x321300
/-- 13 Table 13-9. -/
abbrev Obj.NV_CNT_REC_REPAIR : Nat := 0x321400
/-- 13 Table 13-9. -/
abbrev Obj.NV_CNT_REC_CONFLICT : Nat := 0x321500
/-- 13 Table 13-9. -/
abbrev Obj.NV_CNT_ERASE_REDO : Nat := 0x321600
/-- 13 Table 13-9. -/
abbrev Obj.NV_CNT_QUENCH_CUT : Nat := 0x321700
/-- 13 Table 13-9. -/
abbrev Obj.NV_CNT_LOG_LOST : Nat := 0x321800
/-- 13 Table 13-9. -/
abbrev Obj.NV_CNT_CLEAR : Nat := 0x321F00
/-- 13 Table 13-9. -/
abbrev Obj.NV_STORE_FORMAT : Nat := 0x328000
/-- 13 Table 13-9. -/
abbrev Obj.NV_COMPACT_THRESH : Nat := 0x328100
/-- 13 Table 13-9. -/
abbrev Obj.NV_ANNEAL_PERIOD : Nat := 0x328200
/-- 14 Table 14-5. -/
abbrev Obj.SP_STATUS (k : Nat) : Nat := 0x330001 + 1 * k
/-- 14 Table 14-5. -/
abbrev Obj.SP_FRAME_POLICY (k : Nat) : Nat := 0x330101 + 1 * k
/-- 14 Table 14-5. -/
abbrev Obj.SP1_ROLE : Nat := 0x330200
/-- 14 Table 14-5. -/
abbrev Obj.SP0_SLAVE : Nat := 0x330300
/-- 14 Table 14-5. -/
abbrev Obj.SP_SLV_CFG (k : Nat) : Nat := 0x330401 + 1 * k
/-- 14 Table 14-5. -/
abbrev Obj.SP1_HANDOVER_MAX : Nat := 0x330500
/-- 14 Table 14-5. -/
abbrev Obj.SP1_DEV_INFO (k : Nat) : Nat := 0x330601 + 1 * k
/-- 14 Table 14-5. -/
abbrev Obj.SP1_DEV_MODE (k : Nat) : Nat := 0x330701 + 1 * k
/-- 14 Table 14-5. -/
abbrev Obj.SP1_DQS_TAP (k : Nat) : Nat := 0x330801 + 1 * k
/-- 14 Table 14-5. -/
abbrev Obj.SP_CNT_FRAME (k : Nat) : Nat := 0x331001 + 1 * k
/-- 14 Table 14-5. -/
abbrev Obj.SP_CNT_OVR (k : Nat) : Nat := 0x331101 + 1 * k
/-- 14 Table 14-5. -/
abbrev Obj.SP_CNT_CMD (k : Nat) : Nat := 0x331201 + 1 * k
/-- 14 Table 14-5. -/
abbrev Obj.SP_CNT_COLLISION : Nat := 0x331300
/-- 14 Table 14-5. -/
abbrev Obj.SP_CNT_HANDOVER_TO : Nat := 0x331400
/-- 14 Table 14-5. -/
abbrev Obj.SP1_CNT_FLASH_FAIL : Nat := 0x331500
/-- 14 Table 14-5. -/
abbrev Obj.SP1_CNT_RECAL : Nat := 0x331600
/-- 14 Table 14-5. -/
abbrev Obj.SP_CNT_CLEAR : Nat := 0x331F00
/-- 14 Table 14-5. -/
abbrev Obj.SP0_CLK_DIV : Nat := 0x338000
/-- 14 Table 14-5. -/
abbrev Obj.SP0_SEL_CFG (k : Nat) : Nat := 0x338101 + 1 * k
/-- 14 Table 14-5. -/
abbrev Obj.SP0_SAMPLE_DLY (k : Nat) : Nat := 0x338201 + 1 * k
/-- 14 Table 14-5. -/
abbrev Obj.SP1_CLK_DIV : Nat := 0x338300
/-- 14 Table 14-5. -/
abbrev Obj.SP1_XIP_EN : Nat := 0x338400
/-- 14 Table 14-5. -/
abbrev Obj.SP1_CONT_READ : Nat := 0x338500
/-- 14 Table 14-5. -/
abbrev Obj.SP1_RAW_XFER : Nat := 0x338600
/-- 15 Table 15-3. -/
abbrev Obj.HK_STATUS (k : Nat) : Nat := 0x340001 + 1 * k
/-- 15 Table 15-3. -/
abbrev Obj.HK_CTRL (k : Nat) : Nat := 0x340101 + 1 * k
/-- 15 Table 15-3. -/
abbrev Obj.HK_SCAN_MASK (k : Nat) : Nat := 0x340201 + 1 * k
/-- 15 Table 15-3. -/
abbrev Obj.HK_AVG (k : Nat) : Nat := 0x340301 + 1 * k
/-- 15 Table 15-3. -/
abbrev Obj.HK_RESULT (k : Nat) : Nat := 0x340401 + 1 * k
/-- 15 Table 15-3. -/
abbrev Obj.HK_REF (k : Nat) : Nat := 0x340501 + 1 * k
/-- 15 Table 15-3. -/
abbrev Obj.HK_SCAN_COUNT (k : Nat) : Nat := 0x340601 + 1 * k
/-- 15 Table 15-3. -/
abbrev Obj.HK_SLICE_MAP : Nat := 0x340700
/-- 15 Table 15-3. -/
abbrev Obj.HK_ENG_GAIN (p k : Nat) : Nat := 0x341001 + 256 * p + 1 * k
/-- 15 Table 15-3. -/
abbrev Obj.HK_ENG_OFFSET (p k : Nat) : Nat := 0x341401 + 256 * p + 1 * k
/-- 15 Table 15-3. -/
abbrev Obj.HK_CNT_OVERRUN (k : Nat) : Nat := 0x342001 + 1 * k
/-- 15 Table 15-3. -/
abbrev Obj.HK_CNT_IGNORED (k : Nat) : Nat := 0x342101 + 1 * k
/-- 15 Table 15-3. -/
abbrev Obj.HK_CNT_CAL : Nat := 0x342200
/-- 15 Table 15-3. -/
abbrev Obj.HK_CNT_CLEAR : Nat := 0x342F00
/-- 15 Table 15-3. -/
abbrev Obj.HK_CAL_EN : Nat := 0x348000
/-- 15 Table 15-3. -/
abbrev Obj.HK_CAL_PERIOD : Nat := 0x348100
/-- 16 Table 16-2. -/
abbrev Obj.THERM_STATUS : Nat := 0x350000
/-- 16 Table 16-2. -/
abbrev Obj.THERM_STATE : Nat := 0x350100
/-- 16 Table 16-2. -/
abbrev Obj.THERM_HOTSPOT : Nat := 0x350200
/-- 16 Table 16-2. -/
abbrev Obj.THERM_HOTSPOT_NODE : Nat := 0x350300
/-- 16 Table 16-2. -/
abbrev Obj.THERM_NODE_T (k : Nat) : Nat := 0x350401 + 1 * k
/-- 16 Table 16-2. -/
abbrev Obj.THERM_SENSOR_T (k : Nat) : Nat := 0x350501 + 1 * k
/-- 16 Table 16-2. -/
abbrev Obj.THERM_EXCLUDED : Nat := 0x350600
/-- 16 Table 16-2. -/
abbrev Obj.THERM_WARN : Nat := 0x350700
/-- 16 Table 16-2. -/
abbrev Obj.THERM_THROTTLE : Nat := 0x350800
/-- 16 Table 16-2. -/
abbrev Obj.THERM_QUENCH : Nat := 0x350900
/-- 16 Table 16-2. -/
abbrev Obj.THERM_DWELL : Nat := 0x350A00
/-- 16 Table 16-2. -/
abbrev Obj.THERM_HYST : Nat := 0x350B00
/-- 16 Table 16-2. -/
abbrev Obj.THERM_GRACE : Nat := 0x350C00
/-- 16 Table 16-2. -/
abbrev Obj.THERM_STEP_TIME : Nat := 0x350D00
/-- 16 Table 16-2. -/
abbrev Obj.THERM_THROTTLE_STATE : Nat := 0x350E00
/-- 16 Table 16-2. -/
abbrev Obj.THERM_REQ_RATE : Nat := 0x350F00
/-- 16 Table 16-2. -/
abbrev Obj.THERM_QUENCH_CLEAR : Nat := 0x351000
/-- 16 Table 16-2. -/
abbrev Obj.THERM_QUENCH_COUNT : Nat := 0x351100
/-- 16 Table 16-2. -/
abbrev Obj.THERM_PEAK : Nat := 0x351200
/-- 16 Table 16-2. -/
abbrev Obj.THERM_CNT_WARN : Nat := 0x352000
/-- 16 Table 16-2. -/
abbrev Obj.THERM_CNT_THROTTLE : Nat := 0x352100
/-- 16 Table 16-2. -/
abbrev Obj.THERM_CNT_EXCLUDE : Nat := 0x352200
/-- 16 Table 16-2. -/
abbrev Obj.THERM_CNT_CLEAR : Nat := 0x352F00
/-- 16 Table 16-2. -/
abbrev Obj.THERM_CORR_SHIFT : Nat := 0x358000
/-- 17 Table 17-5. -/
abbrev Obj.PWR_STATUS : Nat := 0x360000
/-- 17 Table 17-5. -/
abbrev Obj.PWR_VIN : Nat := 0x360100
/-- 17 Table 17-5. -/
abbrev Obj.PWR_IIN : Nat := 0x360200
/-- 17 Table 17-5. -/
abbrev Obj.PWR_PIN : Nat := 0x360300
/-- 17 Table 17-5. -/
abbrev Obj.PWR_PEAK_IN : Nat := 0x360400
/-- 17 Table 17-5. -/
abbrev Obj.PWR_VIN_MIN : Nat := 0x360500
/-- 17 Table 17-5. -/
abbrev Obj.PWR_HOLDUP_V : Nat := 0x360600
/-- 17 Table 17-5. -/
abbrev Obj.PWR_BUS_V : Nat := 0x360700
/-- 17 Table 17-5. -/
abbrev Obj.PWR_DOM_STATE (k : Nat) : Nat := 0x360801 + 1 * k
/-- 17 Table 17-5. -/
abbrev Obj.PWR_DOM_V (k : Nat) : Nat := 0x360901 + 1 * k
/-- 17 Table 17-5. -/
abbrev Obj.PWR_DOM_I (k : Nat) : Nat := 0x360A01 + 1 * k
/-- 17 Table 17-5. -/
abbrev Obj.PWR_DOM_P (k : Nat) : Nat := 0x360B01 + 1 * k
/-- 17 Table 17-5. -/
abbrev Obj.PWR_FPA_P (k : Nat) : Nat := 0x360C01 + 1 * k
/-- 17 Table 17-5. -/
abbrev Obj.PWR_FPA_TOTAL : Nat := 0x360D00
/-- 17 Table 17-5. -/
abbrev Obj.PWR_CNT_FAIL : Nat := 0x362000
/-- 17 Table 17-5. -/
abbrev Obj.PWR_CNT_OVP : Nat := 0x362100
/-- 17 Table 17-5. -/
abbrev Obj.PWR_CNT_DOM_FAULT (k : Nat) : Nat := 0x362201 + 1 * k
/-- 17 Table 17-5. -/
abbrev Obj.PWR_CNT_FPA_OVERLOAD : Nat := 0x362300
/-- 17 Table 17-5. -/
abbrev Obj.PWR_CNT_CLEAR : Nat := 0x362F00
/-- 17 Table 17-5. -/
abbrev Obj.PWR_FPA_D_MV (k : Nat) : Nat := 0x368001 + 1 * k
/-- 17 Table 17-5. -/
abbrev Obj.PWR_FPA_A_MV (k : Nat) : Nat := 0x368101 + 1 * k
/-- 18 Table 18-10. -/
abbrev Obj.SEC_STATUS : Nat := 0x370000
/-- 18 Table 18-10. -/
abbrev Obj.SEC_LIFECYCLE : Nat := 0x370100
/-- 18 Table 18-10. -/
abbrev Obj.SEC_LIFECYCLE_SET : Nat := 0x370200
/-- 18 Table 18-10. -/
abbrev Obj.SEC_ARB : Nat := 0x370300
/-- 18 Table 18-10. -/
abbrev Obj.SEC_FW_SVN : Nat := 0x370400
/-- 18 Table 18-10. -/
abbrev Obj.SEC_ARB_AUTO : Nat := 0x370500
/-- 18 Table 18-10. -/
abbrev Obj.SEC_ARB_COMMIT : Nat := 0x370600
/-- 18 Table 18-10. -/
abbrev Obj.SEC_KEY_WRITE : Nat := 0x370700
/-- 18 Table 18-10. -/
abbrev Obj.SEC_KEY_ERASE : Nat := 0x370800
/-- 18 Table 18-10. -/
abbrev Obj.SEC_KEY_STATUS : Nat := 0x370900
/-- 18 Table 18-10. -/
abbrev Obj.SEC_ARCHIVE_KEY : Nat := 0x370A00
/-- 18 Table 18-10. -/
abbrev Obj.SEC_ARCHIVE_ENC : Nat := 0x370B00
/-- 18 Table 18-10. -/
abbrev Obj.SEC_TOKEN_KEY : Nat := 0x370C00
/-- 18 Table 18-10. -/
abbrev Obj.HP_AUTH_REQ : Nat := 0x371000
/-- 18 Table 18-10. -/
abbrev Obj.HP_AUTH_CHAL : Nat := 0x371100
/-- 18 Table 18-10. -/
abbrev Obj.HP_AUTH_PROVE : Nat := 0x371200
/-- 18 Table 18-10. -/
abbrev Obj.HP_AUTH_RESULT : Nat := 0x371300
/-- 18 Table 18-10. -/
abbrev Obj.HP_AUTH_CLOSE : Nat := 0x371400
/-- 18 Table 18-11. -/
abbrev Obj.DBG_STATUS : Nat := 0x380000
/-- 18 Table 18-11. -/
abbrev Obj.DBG_GRADE : Nat := 0x380100
/-- 18 Table 18-11. -/
abbrev Obj.DBG_UNLOCKED : Nat := 0x380200
/-- 18 Table 18-11. -/
abbrev Obj.DBG_SET_GRADE : Nat := 0x380300
/-- 18 Table 18-11. -/
abbrev Obj.DBG_NONCE : Nat := 0x380400
/-- 18 Table 18-11. -/
abbrev Obj.DBG_TOKEN : Nat := 0x380500
/-- 18 Table 18-11. -/
abbrev Obj.DBG_IDCODE : Nat := 0x380600
/-- 18 Table 18-11. -/
abbrev Obj.DBG_LOCK : Nat := 0x380700
/-- 18 Table 18-11. -/
abbrev Obj.DBG_HELD : Nat := 0x380800
/-- 13 Table 13-9. -/
abbrev Obj.LOG_NEWEST : Nat := 0x500000
/-- 13 Table 13-9. -/
abbrev Obj.LOG_FROM : Nat := 0x500100
/-- 13 Table 13-9. -/
abbrev Obj.LOG_ENTRIES : Nat := 0x500200

/-- The object tables of chapter 02, part 1. -/
def Obj.rowsMode1 : List ObjRow := [
  ⟨0x1100, 0x1100, 0, 0, 1, .u8, .ro, 0, 0, 0, 255, Obj.noMask, .immediate⟩,
  ⟨0x1101, 0x1101, 0, 0, 1, .u16, .ro, 0, 0, 0, 65535, Obj.noMask, .immediate⟩,
  ⟨0x1102, 0x1102, 1, 1, 1, .u8, .rw, 1, 0, 0, 254, Obj.noMask, .immediate⟩,
  ⟨0x1102, 0x1102, 2, 2, 1, .u16, .rw, 1, 0, 1, 65535, Obj.noMask, .immediate⟩,
  ⟨0x1102, 0x1102, 3, 3, 1, .u64, .rw, 1, 0, 0, 18446744073709551615, Obj.noMask, .immediate⟩,
  ⟨0x1102, 0x1102, 5, 5, 1, .u8, .cmd, 1, 0, 0, 255, Obj.noMask, .immediate⟩,
  ⟨0x1102, 0x1102, 6, 6, 1, .u8, .ro, 0, 0, 0, 255, Obj.noMask, .immediate⟩,
  ⟨0x1103, 0x1103, 1, 1, 1, .u16, .ro, 0, 0, 0, 65535, Obj.noMask, .immediate⟩,
  ⟨0x1103, 0x1103, 2, 2, 1, .u8, .ro, 0, 0, 0, 255, Obj.noMask, .immediate⟩,
  ⟨0x1103, 0x1103, 3, 3, 1, .u8, .ro, 0, 0, 0, 255, Obj.noMask, .immediate⟩,
  ⟨0x1103, 0x1103, 4, 4, 1, .u64, .ro, 0, 0, 0, 18446744073709551615, Obj.noMask, .immediate⟩,
  ⟨0x1103, 0x1103, 6, 6, 1, .u8, .ro, 0, 6, 0, 255, Obj.noMask, .immediate⟩,
  ⟨0x1103, 0x1103, 7, 7, 1, .u8, .ro, 0, 0, 0, 255, Obj.noMask, .immediate⟩,
  ⟨0x1103, 0x1103, 8, 8, 1, .u64, .ro, 0, 0, 0, 18446744073709551615, Obj.noMask, .immediate⟩,
  ⟨0x1103, 0x1103, 10, 10, 1, .u8, .ro, 0, 0, 0, 255, Obj.noMask, .immediate⟩,
  ⟨0x1104, 0x1104, 1, 7, 1, .dom, .ro, 0, 0, 0, 0, Obj.noMask, .immediate⟩,
  ⟨0x1105, 0x1105, 0, 0, 1, .u16, .ro, 0, 0, 0, 65535, Obj.noMask, .immediate⟩,
  ⟨0x1106, 0x1106, 0, 0, 1, .u32, .ro, 0, 0, 0, 4294967295, Obj.noMask, .reset⟩,
  ⟨0x1107, 0x1107, 0, 0, 1, .u8, .rw, 2, 0, 0, 255, Obj.noMask, .reset⟩,
  ⟨0x1108, 0x1108, 0, 0, 1, .bool, .rw, 2, 1, 0, 1, Obj.noMask, .mode⟩,
  ⟨0x1109, 0x1109, 0, 0, 1, .u32, .rw, 2, 600, 0, 86400, Obj.noMask, .mode⟩,
  ⟨0x110A, 0x110A, 0, 0, 1, .i16, .rw, 2, 200, 0, 1000, Obj.noMask, .mode⟩,
  ⟨0x110B, 0x110B, 1, 4, 1, .u8, .ro, 0, 0, 0, 255, Obj.noMask, .mode⟩,
  ⟨0x110C, 0x110C, 1, 4, 1, .u8, .ro, 0, 0, 0, 255, Obj.noMask, .immediate⟩]

/-- The object tables of chapter 02, part 2. -/
def Obj.rowsMode2 : List ObjRow := [
  ⟨0x110D, 0x110D, 0, 0, 1, .bool, .rw, 2, 0, 0, 1, Obj.noMask, .mode⟩,
  ⟨0x110E, 0x110E, 0, 0, 1, .u8, .cmd, 2, 0, 0, 255, Obj.noMask, .immediate⟩,
  ⟨0x1150, 0x1155, 1, 1, 1, .u8, .ro, 0, 0, 0, 255, Obj.noMask, .immediate⟩,
  ⟨0x1150, 0x1155, 2, 2, 1, .u8, .ro, 0, 255, 0, 255, Obj.noMask, .immediate⟩,
  ⟨0x1150, 0x1155, 3, 3, 1, .u32, .ro, 0, 0, 0, 4294967295, Obj.noMask, .immediate⟩,
  ⟨0x1150, 0x1155, 4, 4, 1, .u32, .ro, 0, 0, 0, 4294967295, Obj.noMask, .immediate⟩,
  ⟨0x1150, 0x1155, 5, 5, 1, .u32, .ro, 0, 0, 0, 4294967295, Obj.noMask, .immediate⟩,
  ⟨0x1150, 0x1155, 6, 6, 1, .u8, .cmd, 1, 0, 0, 255, Obj.noMask, .immediate⟩]

/-- The object tables of chapter 02. -/
def Obj.rowsMode : List ObjRow := Obj.rowsMode1 ++ Obj.rowsMode2

/-- The object tables of chapter 03, part 1. -/
def Obj.rowsIntake1 : List ObjRow := [
  ⟨0x2000, 0x2000, 0, 0, 1, .u8, .rw, 2, 0, 0, 255, 0xf, .mode⟩,
  ⟨0x2001, 0x2001, 1, 4, 1, .u16, .rwg, 1, 2048, 16, 2048, Obj.noMask, .commit⟩,
  ⟨0x2002, 0x2002, 1, 4, 1, .u16, .rwg, 1, 1536, 16, 1536, Obj.noMask, .commit⟩,
  ⟨0x2003, 0x2003, 1, 4, 1, .u8, .rwg, 1, 1, 1, 15, Obj.noMask, .commit⟩,
  ⟨0x2004, 0x2004, 1, 4, 1, .u8, .rwg, 1, 0, 0, 1, Obj.noMask, .commit⟩,
  ⟨0x2005, 0x2005, 1, 4, 1, .u32, .rwg, 1, 2000, 50, 100000, Obj.noMask, .commit⟩,
  ⟨0x2006, 0x2006, 1, 4, 1, .u16, .ro, 0, 0, 0, 65535, Obj.noMask, .immediate⟩,
  ⟨0x2007, 0x2007, 1, 4, 1, .u8, .ro, 0, 0, 0, 255, Obj.noMask, .immediate⟩,
  ⟨0x2008, 0x2008, 1, 4, 1, .u32, .ro, 0, 9200, 0, 4294967295, Obj.noMask, .mode⟩,
  ⟨0x2009, 0x2009, 0, 0, 1, .u32, .ro, 0, 0, 0, 4294967295, Obj.noMask, .immediate⟩,
  ⟨0x200A, 0x200A, 0, 0, 1, .u8, .cmd, 1, 0, 0, 255, Obj.noMask, .immediate⟩,
  ⟨0x2010, 0x2010, 1, 4, 1, .u32, .ro, 0, 0, 0, 4294967295, Obj.noMask, .immediate⟩,
  ⟨0x2011, 0x2011, 1, 4, 1, .u32, .ro, 0, 0, 0, 4294967295, Obj.noMask, .immediate⟩,
  ⟨0x2012, 0x2012, 1, 4, 1, .u32, .ro, 0, 0, 0, 4294967295, Obj.noMask, .immediate⟩,
  ⟨0x2013, 0x2013, 1, 4, 1, .u32, .ro, 0, 0, 0, 4294967295, Obj.noMask, .immediate⟩,
  ⟨0x2014, 0x2014, 1, 4, 1, .u32, .ro, 0, 0, 0, 4294967295, Obj.noMask, .immediate⟩,
  ⟨0x2015, 0x2015, 1, 4, 1, .u32, .ro, 0, 0, 0, 4294967295, Obj.noMask, .immediate⟩,
  ⟨0x2016, 0x2016, 1, 4, 1, .u32, .ro, 0, 0, 0, 4294967295, Obj.noMask, .immediate⟩,
  ⟨0x2017, 0x2017, 1, 4, 1, .u32, .ro, 0, 0, 0, 4294967295, Obj.noMask, .immediate⟩,
  ⟨0x2018, 0x2018, 1, 4, 1, .u32, .ro, 0, 0, 0, 4294967295, Obj.noMask, .immediate⟩,
  ⟨0x2019, 0x2019, 1, 4, 1, .u32, .ro, 0, 0, 0, 4294967295, Obj.noMask, .immediate⟩,
  ⟨0x201A, 0x201A, 1, 4, 1, .u32, .ro, 0, 0, 0, 4294967295, Obj.noMask, .immediate⟩,
  ⟨0x201A, 0x201A, 5, 5, 1, .u32, .ro, 0, 0, 0, 4294967295, Obj.noMask, .immediate⟩,
  ⟨0x201B, 0x201B, 1, 4, 1, .u32, .ro, 0, 0, 0, 4294967295, Obj.noMask, .immediate⟩]

/-- The object tables of chapter 03, part 2. -/
def Obj.rowsIntake2 : List ObjRow := [
  ⟨0x201C, 0x201C, 1, 4, 1, .u32, .ro, 0, 0, 0, 4294967295, Obj.noMask, .immediate⟩,
  ⟨0x201D, 0x201D, 1, 4, 1, .u32, .ro, 0, 0, 0, 4294967295, Obj.noMask, .immediate⟩,
  ⟨0x2040, 0x2040, 0, 0, 1, .u8, .rw, 2, 0, 0, 1, Obj.noMask, .mode⟩,
  ⟨0x2041, 0x2041, 0, 0, 1, .u8, .rw, 2, 0, 0, 255, 0x3, .mode⟩,
  ⟨0x2042, 0x2042, 0, 0, 1, .u8, .rw, 2, 64, 0, 255, Obj.noMask, .mode⟩,
  ⟨0x2043, 0x2043, 0, 0, 1, .u32, .ro, 0, 0, 0, 4294967295, Obj.noMask, .immediate⟩,
  ⟨0x2080, 0x2080, 0, 0, 1, .u8, .rw, 2, 5, 0, 5, Obj.noMask, .mode⟩,
  ⟨0x2081, 0x2081, 0, 0, 1, .u8, .rw, 2, 2, 0, 5, Obj.noMask, .mode⟩,
  ⟨0x2082, 0x2082, 0, 0, 1, .u8, .rw, 2, 0, 0, 255, Obj.noMask, .mode⟩,
  ⟨0x2083, 0x2083, 0, 0, 1, .u8, .rw, 2, 0, 0, 255, 0xf, .mode⟩,
  ⟨0x2084, 0x2084, 1, 4, 1, .u8, .rw, 2, 0, 0, 255, 0x3f, .mode⟩,
  ⟨0x2085, 0x2085, 1, 8, 1, .u8, .ro, 0, 0, 0, 255, Obj.noMask, .immediate⟩,
  ⟨0x2086, 0x2086, 1, 8, 1, .u32, .ro, 0, 0, 0, 4294967295, Obj.noMask, .immediate⟩,
  ⟨0x2087, 0x2087, 1, 4, 1, .u32, .ro, 0, 0, 0, 4294967295, Obj.noMask, .immediate⟩,
  ⟨0x2088, 0x2088, 1, 4, 1, .u8, .ro, 0, 0, 0, 255, Obj.noMask, .commit⟩,
  ⟨0x2089, 0x2089, 1, 4, 1, .u32, .ro, 0, 0, 0, 4294967295, Obj.noMask, .immediate⟩,
  ⟨0x208A, 0x208A, 1, 4, 1, .u32, .ro, 0, 0, 0, 4294967295, Obj.noMask, .immediate⟩,
  ⟨0x2090, 0x2090, 1, 4, 1, .u8, .rw, 2, 0, 0, 255, 0x33, .mode⟩,
  ⟨0x2091, 0x2091, 1, 4, 1, .u16, .rw, 2, 16, 0, 1020, Obj.noMask, .mode⟩,
  ⟨0x2092, 0x2092, 1, 4, 1, .u16, .rw, 2, 20, 0, 1023, Obj.noMask, .mode⟩,
  ⟨0x2093, 0x2093, 1, 4, 1, .u16, .rw, 2, 1008, 0, 1020, Obj.noMask, .mode⟩,
  ⟨0x2094, 0x2094, 1, 4, 1, .u16, .rw, 2, 100, 1, 10000, Obj.noMask, .mode⟩,
  ⟨0x2095, 0x2095, 1, 7, 2, .u64, .ro, 0, 0, 0, 18446744073709551615, Obj.noMask, .mode⟩]

/-- The object tables of chapter 03. -/
def Obj.rowsIntake : List ObjRow := Obj.rowsIntake1 ++ Obj.rowsIntake2

/-- The object tables of chapter 04, part 1. -/
def Obj.rowsCorr1 : List ObjRow := [
  ⟨0x2100, 0x2100, 1, 4, 1, .u16, .ro, 0, 0, 0, 65535, Obj.noMask, .immediate⟩,
  ⟨0x2101, 0x2101, 1, 4, 1, .u8, .ro, 0, 4, 0, 255, Obj.noMask, .immediate⟩,
  ⟨0x2102, 0x2102, 1, 4, 1, .u32, .ro, 0, 0, 0, 4294967295, Obj.noMask, .immediate⟩,
  ⟨0x2103, 0x2103, 1, 4, 1, .u8, .cmd, 2, 0, 0, 255, Obj.noMask, .immediate⟩,
  ⟨0x2104, 0x2104, 1, 4, 1, .u8, .cmd, 2, 0, 0, 255, Obj.noMask, .immediate⟩,
  ⟨0x2105, 0x2105, 1, 4, 1, .u8, .ro, 0, 0, 0, 255, Obj.noMask, .immediate⟩,
  ⟨0x2106, 0x2106, 1, 4, 1, .u32, .rw, 2, 0, 0, 4294967295, Obj.noMask, .immediate⟩,
  ⟨0x2107, 0x2107, 1, 4, 1, .u16, .rw, 2, 38400, 0, 65535, Obj.noMask, .immediate⟩,
  ⟨0x2108, 0x2108, 1, 4, 1, .dom, .rw, 2, 0, 0, 0, Obj.noMask, .immediate⟩,
  ⟨0x2109, 0x2109, 1, 4, 1, .u16, .rwg, 1, 65000, 1, 65535, Obj.noMask, .commit⟩,
  ⟨0x210A, 0x210A, 1, 4, 1, .bool, .rwg, 1, 1, 0, 1, Obj.noMask, .commit⟩,
  ⟨0x210B, 0x210B, 1, 4, 1, .u8, .rwg, 1, 3, 0, 6, Obj.noMask, .commit⟩,
  ⟨0x210C, 0x210C, 1, 4, 1, .u16, .ro, 0, 0, 0, 65535, Obj.noMask, .immediate⟩,
  ⟨0x210D, 0x210D, 1, 4, 1, .u32, .rw, 2, 64, 0, 3145728, Obj.noMask, .immediate⟩,
  ⟨0x210E, 0x210E, 1, 4, 1, .u32, .rw, 2, 0, 0, 50331647, Obj.noMask, .immediate⟩,
  ⟨0x210F, 0x210F, 1, 4, 1, .u8, .cmd, 2, 0, 0, 255, Obj.noMask, .immediate⟩,
  ⟨0x2110, 0x2110, 1, 4, 1, .u32, .rw, 2, 0, 0, 50331647, Obj.noMask, .immediate⟩,
  ⟨0x2111, 0x2111, 1, 4, 1, .u8, .cmd, 2, 0, 0, 255, Obj.noMask, .immediate⟩,
  ⟨0x2120, 0x2120, 1, 4, 1, .u32, .ro, 0, 0, 0, 4294967295, Obj.noMask, .immediate⟩,
  ⟨0x2121, 0x2121, 1, 4, 1, .u32, .ro, 0, 0, 0, 4294967295, Obj.noMask, .immediate⟩,
  ⟨0x2122, 0x2122, 1, 4, 1, .u32, .ro, 0, 0, 0, 4294967295, Obj.noMask, .immediate⟩,
  ⟨0x2123, 0x2123, 1, 4, 1, .u32, .ro, 0, 0, 0, 4294967295, Obj.noMask, .immediate⟩,
  ⟨0x2124, 0x2124, 1, 4, 1, .u32, .ro, 0, 0, 0, 4294967295, Obj.noMask, .immediate⟩,
  ⟨0x2125, 0x2125, 1, 4, 1, .u32, .ro, 0, 0, 0, 4294967295, Obj.noMask, .immediate⟩]

/-- The object tables of chapter 04, part 2. -/
def Obj.rowsCorr2 : List ObjRow := [
  ⟨0x2126, 0x2126, 1, 4, 1, .u32, .ro, 0, 0, 0, 4294967295, Obj.noMask, .immediate⟩,
  ⟨0x2127, 0x2127, 1, 4, 1, .u32, .ro, 0, 0, 0, 4294967295, Obj.noMask, .immediate⟩,
  ⟨0x212F, 0x212F, 0, 0, 1, .u8, .cmd, 1, 0, 0, 255, Obj.noMask, .immediate⟩,
  ⟨0x2180, 0x2180, 1, 4, 1, .u8, .rwg, 2, 63, 0, 255, 0x3f, .commit⟩,
  ⟨0x2500, 0x2500, 0, 0, 1, .bool, .rw, 2, 0, 0, 1, Obj.noMask, .mode⟩,
  ⟨0x2501, 0x2501, 0, 0, 1, .bool, .rwg, 1, 0, 0, 1, Obj.noMask, .commit⟩,
  ⟨0x2502, 0x2502, 1, 9, 1, .i8, .rwg, 1, 0, -128, 127, Obj.noMask, .commit⟩,
  ⟨0x2503, 0x2503, 0, 0, 1, .bool, .rwg, 1, 0, 0, 1, Obj.noMask, .commit⟩,
  ⟨0x2504, 0x2504, 0, 0, 1, .u8, .rwg, 1, 64, 1, 255, Obj.noMask, .commit⟩,
  ⟨0x2505, 0x2505, 0, 0, 1, .i16, .rw, 2, 0, -32768, 32767, Obj.noMask, .immediate⟩,
  ⟨0x2506, 0x2506, 0, 0, 1, .u16, .rw, 2, 38400, 0, 65535, Obj.noMask, .immediate⟩]

/-- The object tables of chapter 04. -/
def Obj.rowsCorr : List ObjRow := Obj.rowsCorr1 ++ Obj.rowsCorr2

/-- The object tables of chapter 05, part 1. -/
def Obj.rowsTail1 : List ObjRow := [
  ⟨0x2200, 0x2200, 1, 4, 1, .u16, .ro, 0, 0, 0, 65535, Obj.noMask, .immediate⟩,
  ⟨0x2201, 0x2201, 1, 4, 1, .u8, .rwg, 1, 100, 0, 100, Obj.noMask, .commit⟩,
  ⟨0x2202, 0x2202, 1, 4, 1, .u16, .rwg, 1, 4096, 1, 65535, Obj.noMask, .commit⟩,
  ⟨0x2203, 0x2203, 1, 4, 1, .u16, .ro, 0, 1000, 0, 65535, Obj.noMask, .immediate⟩,
  ⟨0x2204, 0x2204, 1, 4, 1, .u16, .ro, 0, 1000, 0, 65535, Obj.noMask, .immediate⟩,
  ⟨0x2205, 0x2205, 1, 4, 1, .u8, .ro, 0, 0, 0, 255, Obj.noMask, .immediate⟩,
  ⟨0x2206, 0x2206, 1, 4, 1, .u8, .cmd, 1, 0, 0, 255, Obj.noMask, .immediate⟩,
  ⟨0x2220, 0x2220, 1, 4, 1, .u32, .ro, 0, 0, 0, 4294967295, Obj.noMask, .immediate⟩,
  ⟨0x2221, 0x2221, 1, 4, 1, .u32, .ro, 0, 0, 0, 4294967295, Obj.noMask, .immediate⟩,
  ⟨0x2222, 0x2222, 1, 4, 1, .u32, .ro, 0, 0, 0, 4294967295, Obj.noMask, .immediate⟩,
  ⟨0x222F, 0x222F, 0, 0, 1, .u8, .cmd, 1, 0, 0, 255, Obj.noMask, .immediate⟩,
  ⟨0x2280, 0x2280, 1, 4, 1, .u8, .rwg, 2, 255, 0, 255, Obj.noMask, .commit⟩,
  ⟨0x2300, 0x2300, 1, 4, 1, .u16, .ro, 0, 0, 0, 65535, Obj.noMask, .immediate⟩,
  ⟨0x2301, 0x2301, 1, 4, 1, .u16, .rwg, 1, 48000, 0, 65534, Obj.noMask, .commit⟩,
  ⟨0x2302, 0x2302, 1, 4, 1, .u16, .rwg, 1, 56000, 1, 65535, Obj.noMask, .commit⟩,
  ⟨0x2303, 0x2303, 1, 4, 1, .bool, .rwg, 1, 1, 0, 1, Obj.noMask, .commit⟩,
  ⟨0x2304, 0x2307, 1, 4, 1, .u32, .rw, 2, 4194304, 0, 4294967295, 0xffffff, .immediate⟩,
  ⟨0x2320, 0x2320, 1, 4, 1, .u32, .ro, 0, 0, 0, 4294967295, Obj.noMask, .immediate⟩,
  ⟨0x2321, 0x2321, 1, 4, 1, .u32, .ro, 0, 0, 0, 4294967295, Obj.noMask, .immediate⟩,
  ⟨0x2322, 0x2322, 1, 4, 1, .u32, .ro, 0, 0, 0, 4294967295, Obj.noMask, .immediate⟩,
  ⟨0x2323, 0x2323, 1, 4, 1, .u32, .ro, 0, 0, 0, 4294967295, Obj.noMask, .immediate⟩,
  ⟨0x232F, 0x232F, 0, 0, 1, .u8, .cmd, 1, 0, 0, 255, Obj.noMask, .immediate⟩,
  ⟨0x2400, 0x2403, 1, 4, 1, .dom, .rw, 2, 0, 0, 0, Obj.noMask, .immediate⟩,
  ⟨0x2404, 0x2407, 1, 4, 1, .u8, .rw, 2, 0, 0, 1, Obj.noMask, .immediate⟩]

/-- The object tables of chapter 05, part 2. -/
def Obj.rowsTail2 : List ObjRow := [
  ⟨0x2408, 0x240B, 1, 16, 1, .f32, .rw, 2, 0, 0, 4294967295, Obj.noMask, .immediate⟩,
  ⟨0x240C, 0x240F, 1, 4, 1, .u16, .ro, 0, 0, 0, 65535, Obj.noMask, .immediate⟩,
  ⟨0x2410, 0x2413, 1, 64, 1, .u32, .rwg, 1, 0, 0, 4294967295, 0x87ff07ff, .commit⟩,
  ⟨0x2414, 0x2417, 1, 64, 1, .u32, .rwg, 1, 0, 0, 4294967295, 0x7ff07ff, .commit⟩,
  ⟨0x2418, 0x241B, 1, 64, 1, .u16, .rwg, 1, 10000, 500, 10000, Obj.noMask, .commit⟩,
  ⟨0x241C, 0x241F, 1, 64, 1, .i16, .rwg, 1, 2000, -27315, 32767, Obj.noMask, .commit⟩,
  ⟨0x2420, 0x2423, 1, 64, 1, .u16, .rwg, 1, 10000, 500, 10000, Obj.noMask, .commit⟩,
  ⟨0x2430, 0x2430, 1, 4, 1, .u16, .rwg, 1, 10000, 500, 10000, Obj.noMask, .commit⟩,
  ⟨0x2431, 0x2431, 1, 4, 1, .i16, .rwg, 1, 2000, -27315, 32767, Obj.noMask, .commit⟩,
  ⟨0x2432, 0x2432, 1, 4, 1, .u16, .rwg, 1, 10000, 500, 10000, Obj.noMask, .commit⟩,
  ⟨0x2433, 0x2433, 1, 4, 1, .i16, .rwg, 1, 2000, -27315, 32767, Obj.noMask, .commit⟩,
  ⟨0x2434, 0x2434, 1, 4, 1, .u16, .ro, 0, 0, 0, 65535, Obj.noMask, .immediate⟩,
  ⟨0x2435, 0x2435, 1, 4, 1, .u32, .ro, 0, 0, 0, 4294967295, Obj.noMask, .immediate⟩,
  ⟨0x2440, 0x2440, 1, 4, 1, .bool, .rwg, 1, 0, 0, 1, Obj.noMask, .commit⟩,
  ⟨0x2441, 0x2444, 1, 9, 1, .i8, .rwg, 1, 0, -128, 127, Obj.noMask, .commit⟩,
  ⟨0x2445, 0x2445, 1, 4, 1, .bool, .rwg, 1, 0, 0, 1, Obj.noMask, .commit⟩,
  ⟨0x2446, 0x2446, 1, 4, 1, .u8, .rwg, 1, 64, 1, 255, Obj.noMask, .commit⟩,
  ⟨0x2447, 0x2447, 1, 4, 1, .u16, .rwg, 1, 160, 0, 65534, Obj.noMask, .commit⟩,
  ⟨0x244F, 0x244F, 0, 0, 1, .u8, .cmd, 1, 0, 0, 255, Obj.noMask, .immediate⟩]

/-- The object tables of chapter 05. -/
def Obj.rowsTail : List ObjRow := Obj.rowsTail1 ++ Obj.rowsTail2

/-- The object tables of chapter 06, part 1. -/
def Obj.rowsEcl1 : List ObjRow := [
  ⟨0x2900, 0x2900, 1, 4, 1, .u16, .ro, 0, 0, 0, 65535, Obj.noMask, .immediate⟩,
  ⟨0x2901, 0x2901, 1, 4, 1, .u8, .ro, 0, 0, 0, 255, Obj.noMask, .immediate⟩,
  ⟨0x2902, 0x2902, 1, 4, 1, .u8, .rw, 1, 2, 0, 2, Obj.noMask, .immediate⟩,
  ⟨0x2903, 0x2903, 1, 4, 1, .u8, .cmd, 1, 0, 1, 2, Obj.noMask, .immediate⟩,
  ⟨0x2904, 0x2904, 1, 4, 1, .u8, .cmd, 1, 0, 0, 255, Obj.noMask, .immediate⟩,
  ⟨0x2905, 0x2905, 1, 4, 1, .u32, .rw, 1, 600, 10, 86400, Obj.noMask, .immediate⟩,
  ⟨0x2906, 0x2906, 1, 4, 1, .u32, .rw, 1, 60, 10, 86400, Obj.noMask, .immediate⟩,
  ⟨0x2907, 0x2907, 1, 4, 1, .u32, .rw, 1, 3600, 10, 86400, Obj.noMask, .immediate⟩,
  ⟨0x2908, 0x2908, 1, 4, 1, .u16, .rw, 1, 48, 1, 65535, Obj.noMask, .immediate⟩,
  ⟨0x2909, 0x2909, 1, 4, 1, .u16, .ro, 0, 65535, 0, 65535, Obj.noMask, .immediate⟩,
  ⟨0x290A, 0x290A, 1, 4, 1, .u8, .ro, 0, 0, 0, 255, Obj.noMask, .immediate⟩,
  ⟨0x290B, 0x290B, 1, 7, 2, .u64, .ro, 0, 0, 0, 18446744073709551615, Obj.noMask, .immediate⟩,
  ⟨0x290C, 0x290C, 1, 7, 2, .u64, .ro, 0, 0, 0, 18446744073709551615, Obj.noMask, .immediate⟩,
  ⟨0x290D, 0x290D, 1, 7, 2, .u64, .ro, 0, 0, 0, 18446744073709551615, Obj.noMask, .immediate⟩,
  ⟨0x290E, 0x290E, 1, 4, 1, .u16, .ro, 0, 0, 0, 65535, Obj.noMask, .immediate⟩,
  ⟨0x290F, 0x290F, 1, 4, 1, .i16, .ro, 0, 0, -32768, 32767, Obj.noMask, .immediate⟩,
  ⟨0x2910, 0x2910, 1, 4, 1, .u8, .ro, 0, 0, 0, 255, Obj.noMask, .immediate⟩,
  ⟨0x2911, 0x2911, 1, 7, 2, .u64, .ro, 0, 0, 0, 18446744073709551615, Obj.noMask, .immediate⟩,
  ⟨0x2912, 0x2912, 1, 4, 1, .u32, .ro, 0, 0, 0, 4294967295, Obj.noMask, .immediate⟩,
  ⟨0x2913, 0x2913, 1, 4, 1, .u32, .ro, 0, 0, 0, 4294967295, Obj.noMask, .immediate⟩,
  ⟨0x2914, 0x2914, 0, 0, 1, .bool, .rw, 2, 1, 0, 1, Obj.noMask, .immediate⟩,
  ⟨0x2915, 0x2915, 1, 4, 1, .u8, .rw, 1, 16, 4, 64, Obj.noMask, .immediate⟩,
  ⟨0x2916, 0x2916, 0, 0, 1, .u32, .rw, 1, 8333333, 1000000, 100000000, Obj.noMask, .immediate⟩,
  ⟨0x2917, 0x2917, 1, 4, 1, .u32, .ro, 0, 548333, 0, 4294967295, Obj.noMask, .immediate⟩]

/-- The object tables of chapter 06, part 2. -/
def Obj.rowsEcl2 : List ObjRow := [
  ⟨0x2918, 0x2918, 1, 4, 1, .u8, .rw, 2, 0, 0, 1, Obj.noMask, .immediate⟩,
  ⟨0x2919, 0x2919, 1, 4, 1, .u8, .rw, 2, 255, 0, 255, 0xff, .immediate⟩,
  ⟨0x291A, 0x291A, 0, 0, 1, .dom, .ro, 0, 0, 0, 0, Obj.noMask, .immediate⟩,
  ⟨0x291F, 0x291F, 1, 4, 1, .u8, .cmd, 2, 0, 0, 255, Obj.noMask, .immediate⟩,
  ⟨0x2920, 0x2920, 1, 4, 1, .u32, .ro, 0, 0, 0, 4294967295, Obj.noMask, .immediate⟩,
  ⟨0x2921, 0x2921, 1, 4, 1, .u32, .ro, 0, 0, 0, 4294967295, Obj.noMask, .immediate⟩,
  ⟨0x2922, 0x2922, 1, 4, 1, .u32, .ro, 0, 0, 0, 4294967295, Obj.noMask, .immediate⟩,
  ⟨0x2923, 0x2923, 1, 4, 1, .u32, .ro, 0, 0, 0, 4294967295, Obj.noMask, .immediate⟩,
  ⟨0x2924, 0x2924, 1, 4, 1, .u32, .ro, 0, 0, 0, 4294967295, Obj.noMask, .immediate⟩,
  ⟨0x2925, 0x2925, 1, 4, 1, .u32, .ro, 0, 0, 0, 4294967295, Obj.noMask, .immediate⟩,
  ⟨0x2926, 0x2926, 1, 4, 1, .u32, .ro, 0, 0, 0, 4294967295, Obj.noMask, .immediate⟩,
  ⟨0x2927, 0x2927, 0, 0, 1, .u32, .ro, 0, 0, 0, 4294967295, Obj.noMask, .immediate⟩,
  ⟨0x292F, 0x292F, 0, 0, 1, .u8, .cmd, 1, 0, 0, 255, Obj.noMask, .immediate⟩,
  ⟨0x2980, 0x2980, 1, 4, 1, .u16, .rw, 2, 120, 20, 200, Obj.noMask, .immediate⟩,
  ⟨0x2981, 0x2981, 1, 4, 1, .u16, .rw, 2, 5, 0, 50, Obj.noMask, .immediate⟩,
  ⟨0x2982, 0x2982, 1, 4, 1, .u8, .rw, 2, 100, 10, 100, Obj.noMask, .immediate⟩,
  ⟨0x2983, 0x2983, 1, 4, 1, .u8, .rw, 2, 2, 0, 255, 0x3, .immediate⟩,
  ⟨0x2984, 0x2984, 1, 4, 1, .u16, .rw, 2, 150, 20, 1000, Obj.noMask, .immediate⟩,
  ⟨0x2985, 0x2985, 1, 4, 1, .u8, .rw, 2, 1, 1, 16, Obj.noMask, .immediate⟩,
  ⟨0x2986, 0x2986, 1, 4, 1, .u16, .rw, 2, 2000, 0, 20000, Obj.noMask, .immediate⟩,
  ⟨0x2987, 0x2987, 1, 4, 1, .u32, .rw, 2, 10000, 0, 10000000, Obj.noMask, .immediate⟩,
  ⟨0x2988, 0x2988, 1, 4, 1, .u32, .rw, 2, 2600, 0, 1000000, Obj.noMask, .immediate⟩,
  ⟨0x2989, 0x298C, 1, 17, 1, .u16, .rw, 2, 0, 0, 65535, Obj.noMask, .immediate⟩,
  ⟨0x298D, 0x2990, 1, 17, 1, .u16, .rw, 2, 0, 0, 65535, Obj.noMask, .immediate⟩]

/-- The object tables of chapter 06, part 3. -/
def Obj.rowsEcl3 : List ObjRow := [
  ⟨0x2991, 0x2991, 1, 4, 1, .u16, .rw, 2, 200, 1, 65535, Obj.noMask, .immediate⟩,
  ⟨0x2992, 0x2992, 1, 4, 1, .u8, .rw, 2, 3, 1, 8, Obj.noMask, .immediate⟩,
  ⟨0x2993, 0x2993, 1, 4, 1, .u8, .rw, 2, 4, 1, 5, Obj.noMask, .immediate⟩,
  ⟨0x2994, 0x2994, 1, 4, 1, .u16, .rw, 2, 1024, 256, 8192, Obj.noMask, .immediate⟩,
  ⟨0x2995, 0x2995, 1, 4, 1, .u16, .rw, 2, 150, 10, 3200, Obj.noMask, .immediate⟩,
  ⟨0x2996, 0x2996, 1, 4, 1, .u16, .rw, 2, 400, 10, 3200, Obj.noMask, .immediate⟩,
  ⟨0x2997, 0x2997, 1, 4, 1, .u16, .rw, 2, 512, 0, 65535, Obj.noMask, .immediate⟩,
  ⟨0x2998, 0x2998, 1, 4, 1, .u16, .ro, 0, 512, 0, 65535, Obj.noMask, .immediate⟩,
  ⟨0x2999, 0x2999, 1, 4, 1, .u16, .rw, 2, 256, 0, 65535, Obj.noMask, .immediate⟩,
  ⟨0x299A, 0x299A, 1, 4, 1, .u16, .rw, 2, 400, 1, 32767, Obj.noMask, .immediate⟩,
  ⟨0x299B, 0x299B, 1, 4, 1, .u8, .rw, 2, 64, 17, 255, Obj.noMask, .immediate⟩,
  ⟨0x299C, 0x299C, 1, 4, 1, .u8, .rw, 2, 3, 1, 255, Obj.noMask, .immediate⟩,
  ⟨0x299D, 0x299D, 1, 4, 1, .u8, .rw, 2, 8, 1, 255, Obj.noMask, .immediate⟩,
  ⟨0x299E, 0x299E, 1, 4, 1, .u32, .rw, 2, 4096, 0, 3145728, Obj.noMask, .immediate⟩,
  ⟨0x299F, 0x299F, 1, 4, 1, .u8, .rw, 2, 7, 0, 255, 0x7, .immediate⟩,
  ⟨0x29A0, 0x29A0, 1, 4, 1, .u8, .cmd, 2, 0, 1, 2, Obj.noMask, .immediate⟩]

/-- The object tables of chapter 06. -/
def Obj.rowsEcl : List ObjRow := Obj.rowsEcl1 ++ Obj.rowsEcl2 ++ Obj.rowsEcl3

/-- The object tables of chapter 07, part 1. -/
def Obj.rowsIntg1 : List ObjRow := [
  ⟨0x2600, 0x2600, 1, 4, 1, .u16, .ro, 0, 0, 0, 65535, Obj.noMask, .immediate⟩,
  ⟨0x2601, 0x2601, 1, 4, 1, .u16, .rwg, 1, 8192, 0, 65534, Obj.noMask, .commit⟩,
  ⟨0x2602, 0x2602, 1, 4, 1, .u8, .rwg, 1, 5, 0, 6, Obj.noMask, .commit⟩,
  ⟨0x2603, 0x2603, 1, 4, 1, .u16, .rwg, 1, 4000, 0, 65535, Obj.noMask, .commit⟩,
  ⟨0x2604, 0x2604, 1, 4, 1, .u32, .ro, 0, 0, 0, 4294967295, Obj.noMask, .immediate⟩,
  ⟨0x2605, 0x2605, 1, 4, 1, .dom, .ro, 0, 0, 0, 0, Obj.noMask, .immediate⟩,
  ⟨0x2606, 0x2606, 1, 4, 1, .u8, .cmd, 0, 0, 0, 255, Obj.noMask, .immediate⟩,
  ⟨0x2607, 0x2607, 1, 4, 1, .u32, .ro, 0, 0, 0, 4294967295, Obj.noMask, .immediate⟩,
  ⟨0x2608, 0x2608, 1, 7, 2, .u64, .ro, 0, 0, 0, 18446744073709551615, Obj.noMask, .mode⟩,
  ⟨0x2610, 0x2613, 1, 64, 1, .u32, .rwg, 1, 0, 0, 4294967295, 0x87ff07ff, .commit⟩,
  ⟨0x2614, 0x2617, 1, 64, 1, .u32, .rwg, 1, 0, 0, 4294967295, 0x7ff07ff, .commit⟩,
  ⟨0x2700, 0x2700, 1, 4, 1, .u16, .ro, 0, 0, 0, 65535, Obj.noMask, .immediate⟩,
  ⟨0x2701, 0x2701, 1, 4, 1, .u16, .rwg, 2, 9830, 0, 16383, Obj.noMask, .commit⟩,
  ⟨0x2702, 0x2702, 1, 4, 1, .u16, .rw, 2, 1000, 500, 10000, Obj.noMask, .immediate⟩,
  ⟨0x2703, 0x2703, 1, 4, 1, .u16, .ro, 0, 0, 0, 65535, Obj.noMask, .immediate⟩,
  ⟨0x2704, 0x2704, 1, 4, 1, .u16, .ro, 0, 0, 0, 65535, Obj.noMask, .immediate⟩,
  ⟨0x2705, 0x2705, 1, 4, 1, .u8, .ro, 0, 0, 0, 255, Obj.noMask, .immediate⟩,
  ⟨0x2706, 0x2709, 1, 4, 1, .u32, .ro, 0, 0, 0, 4294967295, Obj.noMask, .immediate⟩,
  ⟨0x270A, 0x270A, 1, 4, 1, .bool, .rwg, 1, 0, 0, 1, Obj.noMask, .commit⟩,
  ⟨0x270B, 0x270B, 1, 4, 1, .u8, .rwg, 1, 15, 0, 255, 0xf, .commit⟩,
  ⟨0x270C, 0x270C, 1, 4, 1, .u16, .rwg, 1, 10, 1, 10000, Obj.noMask, .commit⟩,
  ⟨0x270D, 0x270D, 1, 4, 1, .u16, .rwg, 1, 2000, 1, 10000, Obj.noMask, .commit⟩,
  ⟨0x270E, 0x270E, 1, 4, 1, .u16, .rwg, 1, 5, 0, 9999, Obj.noMask, .commit⟩,
  ⟨0x270F, 0x270F, 1, 4, 1, .u8, .rwg, 1, 8, 1, 255, Obj.noMask, .commit⟩]

/-- The object tables of chapter 07, part 2. -/
def Obj.rowsIntg2 : List ObjRow := [
  ⟨0x2710, 0x2710, 1, 4, 1, .u32, .ro, 0, 0, 0, 4294967295, Obj.noMask, .immediate⟩,
  ⟨0x2711, 0x2711, 1, 4, 1, .u32, .ro, 0, 0, 0, 4294967295, Obj.noMask, .immediate⟩,
  ⟨0x2712, 0x2712, 1, 4, 1, .u32, .ro, 0, 0, 0, 4294967295, Obj.noMask, .immediate⟩,
  ⟨0x2713, 0x2713, 1, 4, 1, .u8, .ro, 0, 0, 0, 255, Obj.noMask, .immediate⟩,
  ⟨0x2714, 0x2714, 0, 0, 1, .u8, .cmd, 1, 0, 0, 255, 0xf, .immediate⟩,
  ⟨0x2715, 0x2715, 0, 0, 1, .u8, .cmd, 1, 0, 0, 255, 0xf, .immediate⟩,
  ⟨0x2720, 0x2720, 1, 4, 1, .u32, .ro, 0, 0, 0, 4294967295, Obj.noMask, .immediate⟩,
  ⟨0x2721, 0x2721, 1, 4, 1, .u32, .ro, 0, 0, 0, 4294967295, Obj.noMask, .immediate⟩,
  ⟨0x2722, 0x2722, 1, 4, 1, .u32, .ro, 0, 0, 0, 4294967295, Obj.noMask, .immediate⟩,
  ⟨0x2723, 0x2723, 1, 4, 1, .u32, .ro, 0, 0, 0, 4294967295, Obj.noMask, .immediate⟩,
  ⟨0x272F, 0x272F, 0, 0, 1, .u8, .cmd, 1, 0, 0, 255, Obj.noMask, .immediate⟩,
  ⟨0x2780, 0x2783, 1, 4, 1, .u32, .rwg, 2, 0, 1000, 2000000, Obj.noMask, .commit⟩]

/-- The object tables of chapter 07. -/
def Obj.rowsIntg : List ObjRow := Obj.rowsIntg1 ++ Obj.rowsIntg2

/-- The object tables of chapter 08, part 1. -/
def Obj.rowsTrig1 : List ObjRow := [
  ⟨0x1300, 0x1300, 0, 0, 1, .u64, .ro, 0, 0, 0, 18446744073709551615, Obj.noMask, .immediate⟩,
  ⟨0x1302, 0x1302, 0, 0, 1, .u8, .rw, 2, 0, 0, 2, Obj.noMask, .immediate⟩,
  ⟨0x1303, 0x1303, 0, 0, 1, .u8, .ro, 0, 0, 0, 255, Obj.noMask, .immediate⟩,
  ⟨0x1304, 0x1304, 0, 0, 1, .u16, .ro, 0, 0, 0, 65535, Obj.noMask, .immediate⟩,
  ⟨0x1305, 0x1305, 0, 0, 1, .i32, .ro, 0, 0, -2147483648, 2147483647, Obj.noMask, .immediate⟩,
  ⟨0x1306, 0x1306, 0, 0, 1, .i32, .ro, 0, 0, -2147483648, 2147483647, Obj.noMask, .immediate⟩,
  ⟨0x1307, 0x1307, 0, 0, 1, .u32, .ro, 0, 0, 0, 4294967295, Obj.noMask, .immediate⟩,
  ⟨0x1308, 0x1308, 0, 0, 1, .u32, .ro, 0, 0, 0, 4294967295, Obj.noMask, .immediate⟩,
  ⟨0x1309, 0x1309, 0, 0, 1, .u8, .rw, 2, 0, 0, 127, Obj.noMask, .immediate⟩,
  ⟨0x130A, 0x130A, 0, 0, 1, .u64, .ro, 0, 0, 0, 18446744073709551615, Obj.noMask, .immediate⟩,
  ⟨0x130B, 0x130B, 0, 0, 1, .u16, .rw, 2, 20, 8, 1000, Obj.noMask, .immediate⟩,
  ⟨0x130C, 0x130C, 0, 0, 1, .u16, .rw, 2, 100, 1, 10000, Obj.noMask, .immediate⟩,
  ⟨0x130D, 0x130D, 0, 0, 1, .u64, .cmd, 2, 0, 0, 18446744073709551615, Obj.noMask, .immediate⟩,
  ⟨0x1310, 0x1310, 0, 0, 1, .u8, .rw, 1, 3, 0, 255, 0x3, .immediate⟩,
  ⟨0x1311, 0x1311, 0, 0, 1, .u32, .rw, 1, 100000, 1, 500000, Obj.noMask, .immediate⟩,
  ⟨0x1312, 0x1312, 0, 0, 1, .u8, .rw, 2, 0, 0, 255, 0x3, .immediate⟩,
  ⟨0x1313, 0x1313, 0, 0, 1, .u64, .ro, 0, 0, 0, 18446744073709551615, Obj.noMask, .immediate⟩,
  ⟨0x1314, 0x1314, 1, 2, 1, .i16, .rw, 2, 0, -30000, 30000, Obj.noMask, .immediate⟩,
  ⟨0x1320, 0x1320, 0, 0, 1, .u32, .ro, 0, 0, 0, 4294967295, Obj.noMask, .immediate⟩,
  ⟨0x1321, 0x1321, 0, 0, 1, .u32, .ro, 0, 0, 0, 4294967295, Obj.noMask, .immediate⟩,
  ⟨0x132F, 0x132F, 0, 0, 1, .u8, .cmd, 1, 0, 0, 255, Obj.noMask, .immediate⟩,
  ⟨0x2A00, 0x2A00, 1, 2, 1, .u8, .rw, 2, 1, 0, 255, 0x1f, .immediate⟩,
  ⟨0x2A01, 0x2A01, 1, 3, 2, .u64, .ro, 0, 0, 0, 18446744073709551615, Obj.noMask, .immediate⟩,
  ⟨0x2A02, 0x2A02, 1, 3, 2, .u64, .cmd, 1, 0, 0, 18446744073709551615, Obj.noMask, .immediate⟩]

/-- The object tables of chapter 08, part 2. -/
def Obj.rowsTrig2 : List ObjRow := [
  ⟨0x2A03, 0x2A03, 1, 3, 2, .u64, .ro, 0, 0, 0, 18446744073709551615, Obj.noMask, .immediate⟩,
  ⟨0x2A04, 0x2A04, 1, 2, 1, .i32, .ro, 0, 0, -2147483648, 2147483647, Obj.noMask, .immediate⟩,
  ⟨0x2A05, 0x2A05, 1, 2, 1, .u8, .ro, 0, 0, 0, 255, Obj.noMask, .immediate⟩,
  ⟨0x2A06, 0x2A06, 1, 4, 1, .u8, .rw, 2, 0, 0, 3, Obj.noMask, .immediate⟩,
  ⟨0x2A08, 0x2A08, 1, 4, 1, .u8, .rw, 2, 0, 0, 8, Obj.noMask, .immediate⟩,
  ⟨0x2A09, 0x2A09, 1, 4, 1, .u32, .rw, 2, 1000, 0, 4294967295, Obj.noMask, .immediate⟩,
  ⟨0x2A0A, 0x2A0A, 1, 4, 1, .u32, .rw, 2, 0, 0, 4294967295, Obj.noMask, .immediate⟩,
  ⟨0x2A0B, 0x2A0B, 1, 4, 1, .u8, .rw, 2, 0, 0, 2, Obj.noMask, .immediate⟩,
  ⟨0x2A0C, 0x2A0C, 1, 4, 1, .u32, .rw, 2, 4166667, 10000, 4000000000, Obj.noMask, .immediate⟩,
  ⟨0x2A0D, 0x2A0D, 1, 4, 1, .u32, .rw, 2, 0, 0, 4294967295, Obj.noMask, .immediate⟩,
  ⟨0x2A0E, 0x2A0E, 1, 4, 1, .u16, .rw, 2, 40, 10, 1000, Obj.noMask, .immediate⟩,
  ⟨0x2A0F, 0x2A0F, 1, 4, 1, .u32, .rw, 2, 100000, 0, 100000000, Obj.noMask, .immediate⟩,
  ⟨0x2A10, 0x2A10, 1, 4, 1, .u8, .rw, 2, 255, 0, 255, Obj.noMask, .immediate⟩,
  ⟨0x2A11, 0x2A11, 1, 4, 1, .u8, .rw, 2, 0, 0, 1, Obj.noMask, .immediate⟩,
  ⟨0x2A12, 0x2A12, 1, 4, 1, .u8, .cmd, 1, 0, 0, 255, Obj.noMask, .immediate⟩,
  ⟨0x2A13, 0x2A13, 1, 7, 2, .u64, .ro, 0, 0, 0, 18446744073709551615, Obj.noMask, .immediate⟩,
  ⟨0x2A18, 0x2A18, 1, 4, 1, .u8, .rwg, 1, 64, 0, 255, 0xc7, .commit⟩,
  ⟨0x2A19, 0x2A19, 1, 4, 1, .u8, .rwg, 1, 0, 0, 1, Obj.noMask, .commit⟩,
  ⟨0x2A1A, 0x2A1A, 1, 4, 1, .u32, .rwg, 1, 4166667, 500000, 1000000000, Obj.noMask, .commit⟩,
  ⟨0x2A1B, 0x2A1B, 1, 4, 1, .u8, .ro, 0, 0, 0, 255, Obj.noMask, .immediate⟩,
  ⟨0x2A1C, 0x2A1C, 1, 7, 2, .u64, .ro, 0, 0, 0, 18446744073709551615, Obj.noMask, .immediate⟩,
  ⟨0x2A1D, 0x2A1D, 1, 4, 1, .u8, .rw, 1, 0, 0, 255, 0xc3, .immediate⟩,
  ⟨0x2A1E, 0x2A1E, 1, 4, 1, .u32, .rw, 1, 0, 0, 25000000, Obj.noMask, .immediate⟩,
  ⟨0x2A1F, 0x2A1F, 1, 4, 1, .u32, .rw, 1, 2500, 1, 25000000, Obj.noMask, .immediate⟩]

/-- The object tables of chapter 08, part 3. -/
def Obj.rowsTrig3 : List ObjRow := [
  ⟨0x2A20, 0x2A20, 1, 2, 1, .u32, .ro, 0, 0, 0, 4294967295, Obj.noMask, .immediate⟩,
  ⟨0x2A21, 0x2A21, 1, 4, 1, .u32, .ro, 0, 0, 0, 4294967295, Obj.noMask, .immediate⟩,
  ⟨0x2A22, 0x2A22, 1, 4, 1, .u32, .ro, 0, 0, 0, 4294967295, Obj.noMask, .immediate⟩,
  ⟨0x2A23, 0x2A23, 1, 4, 1, .u32, .ro, 0, 0, 0, 4294967295, Obj.noMask, .immediate⟩,
  ⟨0x2A24, 0x2A24, 1, 4, 1, .u32, .ro, 0, 0, 0, 4294967295, Obj.noMask, .immediate⟩,
  ⟨0x2A25, 0x2A25, 1, 4, 1, .u32, .ro, 0, 0, 0, 4294967295, Obj.noMask, .immediate⟩,
  ⟨0x2A26, 0x2A26, 1, 4, 1, .u32, .ro, 0, 0, 0, 4294967295, Obj.noMask, .immediate⟩,
  ⟨0x2A27, 0x2A27, 1, 4, 1, .u32, .ro, 0, 0, 0, 4294967295, Obj.noMask, .immediate⟩,
  ⟨0x2A28, 0x2A28, 1, 4, 1, .u32, .ro, 0, 0, 0, 4294967295, Obj.noMask, .immediate⟩,
  ⟨0x2A29, 0x2A29, 1, 8, 1, .u32, .ro, 0, 0, 0, 4294967295, Obj.noMask, .immediate⟩,
  ⟨0x2A2A, 0x2A2A, 1, 8, 1, .u32, .ro, 0, 0, 0, 4294967295, Obj.noMask, .immediate⟩,
  ⟨0x2A2B, 0x2A2B, 1, 4, 1, .u32, .ro, 0, 0, 0, 4294967295, Obj.noMask, .immediate⟩,
  ⟨0x2A2C, 0x2A2C, 1, 4, 1, .u32, .ro, 0, 0, 0, 4294967295, Obj.noMask, .immediate⟩,
  ⟨0x2A2D, 0x2A2D, 0, 0, 1, .u32, .ro, 0, 0, 0, 4294967295, Obj.noMask, .immediate⟩,
  ⟨0x2A2F, 0x2A2F, 0, 0, 1, .u8, .cmd, 1, 0, 0, 255, Obj.noMask, .immediate⟩,
  ⟨0x2A80, 0x2A80, 1, 2, 1, .u16, .rw, 2, 20, 0, 1000, Obj.noMask, .immediate⟩,
  ⟨0x2A81, 0x2A81, 1, 4, 1, .u16, .rw, 2, 20, 0, 1000, Obj.noMask, .immediate⟩]

/-- The object tables of chapter 08. -/
def Obj.rowsTrig : List ObjRow := Obj.rowsTrig1 ++ Obj.rowsTrig2 ++ Obj.rowsTrig3

/-- The object tables of chapter 09, part 1. -/
def Obj.rowsOut1 : List ObjRow := [
  ⟨0x2800, 0x2800, 1, 2, 1, .u16, .ro, 0, 0, 0, 65535, Obj.noMask, .immediate⟩,
  ⟨0x2801, 0x2801, 1, 2, 1, .u8, .rw, 2, 0, 0, 1, Obj.noMask, .mode⟩,
  ⟨0x2802, 0x2802, 1, 2, 1, .bool, .rw, 2, 1, 0, 1, Obj.noMask, .mode⟩,
  ⟨0x2803, 0x2803, 1, 3, 2, .u64, .rw, 2, 0, 0, 18446744073709551615, 0xffffffffffff, .mode⟩,
  ⟨0x2804, 0x2804, 1, 2, 1, .u32, .rw, 2, 0, 0, 4294967295, Obj.noMask, .mode⟩,
  ⟨0x2805, 0x2805, 1, 2, 1, .u32, .rw, 2, 4294967040, 0, 4294967295, Obj.noMask, .mode⟩,
  ⟨0x2806, 0x2806, 1, 2, 1, .u32, .rw, 2, 0, 0, 4294967295, Obj.noMask, .mode⟩,
  ⟨0x2807, 0x2807, 1, 2, 1, .u16, .rw, 2, 9000, 1500, 9000, Obj.noMask, .mode⟩,
  ⟨0x2808, 0x2808, 1, 2, 1, .u8, .rw, 2, 0, 0, 63, Obj.noMask, .mode⟩,
  ⟨0x2809, 0x2809, 1, 2, 1, .u16, .rw, 2, 0, 1024, 65535, Obj.noMask, .mode⟩,
  ⟨0x280A, 0x280A, 1, 2, 1, .u8, .rwg, 1, 0, 0, 1, Obj.noMask, .commit⟩,
  ⟨0x280B, 0x280B, 1, 2, 1, .u32, .ro, 0, 0, 0, 4294967295, Obj.noMask, .commit⟩,
  ⟨0x280C, 0x280C, 1, 2, 1, .u8, .ro, 0, 0, 0, 255, Obj.noMask, .immediate⟩,
  ⟨0x2810, 0x2810, 1, 4, 1, .u8, .rwg, 1, 0, 0, 255, 0x3, .commit⟩,
  ⟨0x2811, 0x2811, 1, 4, 1, .u8, .rwg, 1, 0, 0, 1, Obj.noMask, .commit⟩,
  ⟨0x2812, 0x2812, 1, 4, 1, .u32, .rwg, 1, 0, 0, 4294967295, Obj.noMask, .commit⟩,
  ⟨0x2813, 0x2813, 1, 4, 1, .u32, .rwg, 1, 0, 0, 4294967295, Obj.noMask, .commit⟩,
  ⟨0x2820, 0x2820, 1, 8, 1, .bool, .rwg, 2, 0, 0, 1, Obj.noMask, .commit⟩,
  ⟨0x2821, 0x2821, 1, 8, 1, .u8, .rwg, 2, 0, 0, 3, Obj.noMask, .commit⟩,
  ⟨0x2822, 0x2822, 1, 8, 1, .u8, .rwg, 2, 0, 0, 3, Obj.noMask, .commit⟩,
  ⟨0x2823, 0x2823, 1, 8, 1, .u32, .rwg, 2, 134152192, 0, 4294967295, 0x7ff07ff, .commit⟩,
  ⟨0x2824, 0x2824, 1, 8, 1, .u32, .rwg, 2, 100597760, 0, 4294967295, 0x7ff07ff, .commit⟩,
  ⟨0x2825, 0x2825, 1, 8, 1, .u8, .rwg, 2, 1, 1, 255, Obj.noMask, .commit⟩,
  ⟨0x2826, 0x2826, 1, 8, 1, .u8, .rwg, 2, 0, 0, 1, Obj.noMask, .commit⟩]

/-- The object tables of chapter 09, part 2. -/
def Obj.rowsOut2 : List ObjRow := [
  ⟨0x2827, 0x2827, 1, 8, 1, .u32, .rwg, 2, 0, 0, 4294967295, Obj.noMask, .commit⟩,
  ⟨0x2828, 0x2828, 1, 8, 1, .u32, .ro, 0, 0, 0, 4294967295, Obj.noMask, .commit⟩,
  ⟨0x2829, 0x2829, 1, 8, 1, .u8, .ro, 0, 0, 0, 255, Obj.noMask, .immediate⟩,
  ⟨0x2840, 0x2840, 1, 3, 2, .u64, .ro, 0, 0, 0, 18446744073709551615, Obj.noMask, .immediate⟩,
  ⟨0x2841, 0x2841, 1, 2, 1, .u32, .ro, 0, 0, 0, 4294967295, Obj.noMask, .immediate⟩,
  ⟨0x2842, 0x2842, 1, 2, 1, .u32, .ro, 0, 0, 0, 4294967295, Obj.noMask, .immediate⟩,
  ⟨0x2843, 0x2843, 1, 2, 1, .u32, .ro, 0, 0, 0, 4294967295, Obj.noMask, .immediate⟩,
  ⟨0x2844, 0x2844, 1, 2, 1, .u32, .ro, 0, 0, 0, 4294967295, Obj.noMask, .immediate⟩,
  ⟨0x2845, 0x2845, 1, 2, 1, .u32, .ro, 0, 0, 0, 4294967295, Obj.noMask, .immediate⟩,
  ⟨0x2846, 0x2846, 1, 2, 1, .u32, .ro, 0, 0, 0, 4294967295, Obj.noMask, .immediate⟩,
  ⟨0x2847, 0x2847, 1, 2, 1, .u32, .ro, 0, 0, 0, 4294967295, Obj.noMask, .immediate⟩,
  ⟨0x2848, 0x2848, 1, 2, 1, .u32, .ro, 0, 0, 0, 4294967295, Obj.noMask, .immediate⟩,
  ⟨0x2849, 0x2849, 1, 3, 2, .u64, .ro, 0, 0, 0, 18446744073709551615, Obj.noMask, .immediate⟩,
  ⟨0x284A, 0x284A, 1, 2, 1, .u32, .ro, 0, 0, 0, 4294967295, Obj.noMask, .immediate⟩,
  ⟨0x284B, 0x284B, 1, 2, 1, .u32, .ro, 0, 0, 0, 4294967295, Obj.noMask, .immediate⟩,
  ⟨0x2850, 0x2850, 1, 8, 1, .u32, .ro, 0, 0, 0, 4294967295, Obj.noMask, .immediate⟩,
  ⟨0x2851, 0x2851, 1, 8, 1, .u32, .ro, 0, 0, 0, 4294967295, Obj.noMask, .immediate⟩,
  ⟨0x285F, 0x285F, 0, 0, 1, .u8, .cmd, 1, 0, 0, 255, Obj.noMask, .immediate⟩,
  ⟨0x2880, 0x2880, 1, 2, 1, .bool, .rw, 2, 1, 0, 1, Obj.noMask, .immediate⟩,
  ⟨0x2881, 0x2881, 1, 3, 2, .u64, .rw, 2, 0, 0, 18446744073709551615, 0xffffffffffff, .mode⟩]

/-- The object tables of chapter 09. -/
def Obj.rowsOut : List ObjRow := Obj.rowsOut1 ++ Obj.rowsOut2

/-- The object tables of chapter 10, part 1. -/
def Obj.rowsChain1 : List ObjRow := [
  ⟨0x1200, 0x1200, 0, 0, 1, .u16, .ro, 0, 0, 0, 65535, Obj.noMask, .immediate⟩,
  ⟨0x1201, 0x1201, 0, 0, 1, .u8, .rw, 2, 127, 1, 127, Obj.noMask, .immediate⟩,
  ⟨0x1202, 0x1202, 0, 0, 1, .u8, .ro, 0, 0, 0, 255, Obj.noMask, .immediate⟩,
  ⟨0x1203, 0x1203, 0, 0, 1, .u8, .rw, 1, 0, 0, 255, Obj.noMask, .immediate⟩,
  ⟨0x1204, 0x1204, 0, 0, 1, .u16, .rw, 2, 34997, 34997, 34998, Obj.noMask, .reset⟩,
  ⟨0x1205, 0x1205, 1, 2, 1, .u8, .rw, 2, 0, 0, 2, Obj.noMask, .reset⟩,
  ⟨0x1206, 0x1206, 1, 2, 1, .u8, .ro, 0, 0, 0, 255, Obj.noMask, .immediate⟩,
  ⟨0x1207, 0x1207, 1, 3, 2, .u64, .ro, 0, 0, 0, 18446744073709551615, Obj.noMask, .reset⟩,
  ⟨0x1208, 0x1208, 0, 0, 1, .u32, .rw, 1, 4294967295, 0, 4294967295, Obj.noMask, .immediate⟩,
  ⟨0x1209, 0x1209, 0, 0, 1, .u16, .ro, 0, 0, 0, 65535, Obj.noMask, .immediate⟩,
  ⟨0x1210, 0x1210, 0, 0, 1, .u8, .ro, 0, 0, 0, 255, Obj.noMask, .immediate⟩,
  ⟨0x1211, 0x1211, 0, 0, 1, .u8, .ro, 0, 0, 0, 255, Obj.noMask, .immediate⟩,
  ⟨0x1212, 0x1212, 0, 0, 1, .u32, .ro, 0, 0, 0, 4294967295, Obj.noMask, .immediate⟩,
  ⟨0x1213, 0x1213, 0, 0, 1, .u8, .ro, 0, 10, 0, 255, Obj.noMask, .immediate⟩,
  ⟨0x1214, 0x1214, 0, 0, 1, .u8, .ro, 0, 3, 0, 255, Obj.noMask, .immediate⟩,
  ⟨0x1215, 0x1215, 0, 0, 1, .u32, .ro, 0, 0, 0, 4294967295, Obj.noMask, .immediate⟩,
  ⟨0x1216, 0x1216, 0, 0, 1, .u64, .ro, 0, 0, 0, 18446744073709551615, Obj.noMask, .immediate⟩,
  ⟨0x1218, 0x1218, 0, 0, 1, .u8, .cmd, 2, 0, 0, 255, Obj.noMask, .immediate⟩,
  ⟨0x1219, 0x1219, 0, 0, 1, .dom, .ro, 0, 0, 0, 0, Obj.noMask, .immediate⟩,
  ⟨0x1220, 0x1220, 1, 2, 1, .u32, .ro, 0, 0, 0, 4294967295, Obj.noMask, .immediate⟩,
  ⟨0x1221, 0x1221, 1, 2, 1, .u32, .ro, 0, 0, 0, 4294967295, Obj.noMask, .immediate⟩,
  ⟨0x1222, 0x1222, 1, 2, 1, .u32, .ro, 0, 0, 0, 4294967295, Obj.noMask, .immediate⟩,
  ⟨0x1223, 0x1223, 1, 2, 1, .u32, .ro, 0, 0, 0, 4294967295, Obj.noMask, .immediate⟩,
  ⟨0x1224, 0x1224, 0, 0, 1, .u32, .ro, 0, 0, 0, 4294967295, Obj.noMask, .immediate⟩]

/-- The object tables of chapter 10, part 2. -/
def Obj.rowsChain2 : List ObjRow := [
  ⟨0x1225, 0x1225, 0, 0, 1, .u32, .ro, 0, 0, 0, 4294967295, Obj.noMask, .immediate⟩,
  ⟨0x1226, 0x1226, 0, 0, 1, .u32, .ro, 0, 0, 0, 4294967295, Obj.noMask, .immediate⟩,
  ⟨0x1227, 0x1227, 1, 2, 1, .u32, .ro, 0, 0, 0, 4294967295, Obj.noMask, .immediate⟩,
  ⟨0x1228, 0x1228, 0, 0, 1, .u32, .ro, 0, 0, 0, 4294967295, Obj.noMask, .immediate⟩,
  ⟨0x1229, 0x1229, 1, 2, 1, .u32, .ro, 0, 0, 0, 4294967295, Obj.noMask, .immediate⟩,
  ⟨0x122A, 0x122A, 0, 0, 1, .u32, .ro, 0, 0, 0, 4294967295, Obj.noMask, .immediate⟩,
  ⟨0x122B, 0x122B, 0, 0, 1, .u32, .ro, 0, 0, 0, 4294967295, Obj.noMask, .immediate⟩,
  ⟨0x122C, 0x122C, 0, 0, 1, .u32, .ro, 0, 0, 0, 4294967295, Obj.noMask, .immediate⟩,
  ⟨0x122D, 0x122D, 0, 0, 1, .u32, .ro, 0, 0, 0, 4294967295, Obj.noMask, .immediate⟩,
  ⟨0x122E, 0x122E, 0, 0, 1, .u32, .ro, 0, 0, 0, 4294967295, Obj.noMask, .immediate⟩,
  ⟨0x122F, 0x122F, 0, 0, 1, .u8, .cmd, 1, 0, 0, 255, Obj.noMask, .immediate⟩]

/-- The object tables of chapter 10. -/
def Obj.rowsChain : List ObjRow := Obj.rowsChain1 ++ Obj.rowsChain2

/-- The object tables of chapter 11, part 1. -/
def Obj.rowsDict1 : List ObjRow := [
  ⟨0x1000, 0x1000, 0, 0, 1, .str, .ro, 0, 0, 0, 0, Obj.noMask, .immediate⟩,
  ⟨0x1001, 0x1001, 0, 0, 1, .str, .ro, 0, 0, 0, 0, Obj.noMask, .immediate⟩,
  ⟨0x1002, 0x1002, 0, 0, 1, .u64, .ro, 0, (Config.deviceId : Int), 0, 18446744073709551615, Obj.noMask, .immediate⟩,
  ⟨0x1003, 0x1003, 0, 0, 1, .u16, .ro, 0, (Config.stepping : Int), 0, 65535, Obj.noMask, .immediate⟩,
  ⟨0x1004, 0x1004, 0, 0, 1, .str, .ro, 0, 0, 0, 0, Obj.noMask, .immediate⟩,
  ⟨0x1005, 0x1005, 0, 0, 1, .u32, .ro, 0, 0, 0, 4294967295, Obj.noMask, .immediate⟩,
  ⟨0x1006, 0x1006, 0, 0, 1, .u32, .ro, 0, (Config.romVersion : Int), 0, 4294967295, Obj.noMask, .immediate⟩,
  ⟨0x1007, 0x1007, 0, 0, 1, .u16, .ro, 0, 256, 0, 65535, Obj.noMask, .immediate⟩,
  ⟨0x1010, 0x1010, 0, 0, 1, .u32, .ro, 0, 1, 0, 4294967295, Obj.noMask, .immediate⟩,
  ⟨0x1011, 0x1011, 0, 0, 1, .u64, .ro, 0, 0, 0, 18446744073709551615, Obj.noMask, .immediate⟩,
  ⟨0x1012, 0x1012, 0, 0, 1, .u64, .ro, 0, 0, 0, 18446744073709551615, Obj.noMask, .immediate⟩,
  ⟨0x1013, 0x1013, 0, 0, 1, .u64, .ro, 0, 0, 0, 18446744073709551615, Obj.noMask, .immediate⟩,
  ⟨0x1020, 0x1020, 0, 0, 1, .u32, .ro, 0, 0, 0, 4294967295, Obj.noMask, .immediate⟩,
  ⟨0x1021, 0x1021, 0, 0, 1, .u8, .cmd, 2, 0, 0, 255, Obj.noMask, .immediate⟩,
  ⟨0x1022, 0x1022, 0, 0, 1, .u8, .ro, 0, 0, 0, 255, Obj.noMask, .immediate⟩,
  ⟨0x1030, 0x1030, 0, 0, 1, .u16, .rw, 0, 4096, 0, 65535, Obj.noMask, .immediate⟩,
  ⟨0x1031, 0x1031, 0, 0, 1, .u32, .rw, 0, 0, 0, 4294967295, 0xffffff, .immediate⟩,
  ⟨0x1032, 0x1032, 0, 0, 1, .u32, .rw, 0, 0, 0, 8192, Obj.noMask, .immediate⟩,
  ⟨0x1033, 0x1033, 0, 0, 1, .u8, .cmd, 0, 0, 1, 2, Obj.noMask, .immediate⟩,
  ⟨0x1034, 0x1034, 0, 0, 1, .u8, .ro, 0, 0, 0, 255, Obj.noMask, .immediate⟩,
  ⟨0x1035, 0x1035, 0, 0, 1, .u32, .ro, 0, 0, 0, 4294967295, Obj.noMask, .immediate⟩,
  ⟨0x1036, 0x1036, 0, 0, 1, .u32, .ro, 0, 0, 0, 4294967295, Obj.noMask, .immediate⟩,
  ⟨0x1037, 0x1037, 0, 0, 1, .u32, .ro, 0, 0, 0, 4294967295, Obj.noMask, .immediate⟩]

/-- The object tables of chapter 11. -/
def Obj.rowsDict : List ObjRow := Obj.rowsDict1

/-- The object tables of chapter 12, part 1. -/
def Obj.rowsMem1 : List ObjRow := [
  ⟨0x3000, 0x3000, 0, 0, 1, .u16, .ro, 0, 0, 0, 65535, Obj.noMask, .immediate⟩,
  ⟨0x3001, 0x3001, 0, 0, 1, .u32, .ro, 0, 0, 0, 4294967295, Obj.noMask, .immediate⟩,
  ⟨0x3002, 0x3002, 1, 2, 1, .u8, .ro, 0, 0, 0, 255, Obj.noMask, .immediate⟩,
  ⟨0x3003, 0x3003, 0, 0, 1, .u32, .ro, 0, 0, 0, 4294967295, Obj.noMask, .immediate⟩,
  ⟨0x3010, 0x3010, 0, 0, 1, .u32, .ro, 0, 0, 0, 4294967295, Obj.noMask, .immediate⟩,
  ⟨0x3011, 0x3011, 0, 0, 1, .u32, .ro, 0, 0, 0, 4294967295, Obj.noMask, .immediate⟩,
  ⟨0x301F, 0x301F, 0, 0, 1, .u8, .cmd, 1, 0, 0, 255, Obj.noMask, .immediate⟩,
  ⟨0x3080, 0x3080, 0, 0, 1, .u16, .rw, 2, 8000, 1000, 8000, Obj.noMask, .immediate⟩,
  ⟨0x3100, 0x3100, 0, 0, 1, .u16, .ro, 0, 0, 0, 65535, Obj.noMask, .immediate⟩,
  ⟨0x3101, 0x3101, 0, 0, 1, .bool, .rw, 2, 1, 0, 1, Obj.noMask, .reset⟩,
  ⟨0x3102, 0x3102, 0, 0, 1, .u8, .ro, 0, 0, 0, 255, Obj.noMask, .immediate⟩,
  ⟨0x3103, 0x3103, 0, 0, 1, .u32, .rw, 2, 496715798, 0, 4294967295, Obj.noMask, .reset⟩,
  ⟨0x3104, 0x3104, 0, 0, 1, .u32, .ro, 0, 0, 0, 4294967295, Obj.noMask, .immediate⟩,
  ⟨0x3105, 0x3105, 0, 0, 1, .u32, .ro, 0, 0, 0, 4294967295, Obj.noMask, .immediate⟩,
  ⟨0x310F, 0x310F, 0, 0, 1, .u8, .cmd, 1, 0, 0, 255, Obj.noMask, .immediate⟩,
  ⟨0x3110, 0x3110, 1, 16, 1, .u32, .rw, 1, 1024, 0, 4294967295, 0x73f, .immediate⟩,
  ⟨0x3111, 0x3111, 1, 16, 1, .u16, .rw, 1, 0, 0, 8000, Obj.noMask, .immediate⟩,
  ⟨0x3112, 0x3112, 1, 31, 2, .u64, .rw, 1, 0, 0, 18446744073709551615, Obj.noMask, .immediate⟩,
  ⟨0x3113, 0x3113, 1, 16, 1, .u16, .rw, 1, 256, 2, 4096, Obj.noMask, .immediate⟩,
  ⟨0x3114, 0x3114, 1, 16, 1, .u8, .ro, 0, 0, 0, 255, Obj.noMask, .immediate⟩,
  ⟨0x3115, 0x3115, 1, 16, 1, .u32, .ro, 0, 0, 0, 4294967295, Obj.noMask, .immediate⟩,
  ⟨0x3116, 0x3116, 1, 16, 1, .u32, .ro, 0, 0, 0, 4294967295, Obj.noMask, .immediate⟩]

/-- The object tables of chapter 12. -/
def Obj.rowsMem : List ObjRow := Obj.rowsMem1

/-- The object tables of chapter 13, part 1. -/
def Obj.rowsNv1 : List ObjRow := [
  ⟨0x3200, 0x3200, 0, 0, 1, .u16, .ro, 0, 0, 0, 65535, Obj.noMask, .immediate⟩,
  ⟨0x3201, 0x3201, 0, 0, 1, .u8, .rw, 2, 1, 0, 3, Obj.noMask, .immediate⟩,
  ⟨0x3202, 0x3202, 0, 0, 1, .u16, .rw, 1, 0, 0, 65535, Obj.noMask, .immediate⟩,
  ⟨0x3203, 0x3203, 0, 0, 1, .dom, .rw, 1, 0, 0, 0, Obj.noMask, .immediate⟩,
  ⟨0x3204, 0x3204, 1, 2, 1, .u32, .ro, 0, 0, 0, 4294967295, Obj.noMask, .immediate⟩,
  ⟨0x3205, 0x3205, 1, 2, 1, .u32, .ro, 0, 0, 0, 4294967295, Obj.noMask, .immediate⟩,
  ⟨0x3206, 0x3206, 0, 0, 1, .u32, .ro, 0, 0, 0, 4294967295, Obj.noMask, .immediate⟩,
  ⟨0x3207, 0x3207, 0, 0, 1, .u8, .ro, 0, 0, 0, 255, Obj.noMask, .immediate⟩,
  ⟨0x3208, 0x3208, 1, 8, 1, .str, .rw, 2, 0, 0, 0, Obj.noMask, .immediate⟩,
  ⟨0x3209, 0x3209, 0, 0, 1, .u8, .cmd, 2, 0, 0, 7, Obj.noMask, .immediate⟩,
  ⟨0x320A, 0x320A, 0, 0, 1, .u8, .cmd, 2, 0, 0, 7, Obj.noMask, .immediate⟩,
  ⟨0x320B, 0x320B, 0, 0, 1, .u8, .cmd, 2, 0, 0, 7, Obj.noMask, .immediate⟩,
  ⟨0x320C, 0x320C, 0, 0, 1, .u32, .cmd, 2, 0, 0, 4294967295, Obj.noMask, .immediate⟩,
  ⟨0x320D, 0x320D, 0, 0, 1, .u8, .cmd, 2, 0, 0, 255, Obj.noMask, .immediate⟩,
  ⟨0x320E, 0x320E, 0, 0, 1, .u64, .ro, 0, 0, 0, 18446744073709551615, Obj.noMask, .immediate⟩,
  ⟨0x320F, 0x320F, 0, 0, 1, .u8, .cmd, 2, 0, 0, 255, Obj.noMask, .immediate⟩,
  ⟨0x3210, 0x3210, 0, 0, 1, .u32, .ro, 0, 0, 0, 4294967295, Obj.noMask, .immediate⟩,
  ⟨0x3211, 0x3211, 0, 0, 1, .u32, .ro, 0, 0, 0, 4294967295, Obj.noMask, .immediate⟩,
  ⟨0x3212, 0x3212, 0, 0, 1, .u32, .ro, 0, 0, 0, 4294967295, Obj.noMask, .immediate⟩,
  ⟨0x3213, 0x3213, 0, 0, 1, .u32, .ro, 0, 0, 0, 4294967295, Obj.noMask, .immediate⟩,
  ⟨0x3214, 0x3214, 0, 0, 1, .u32, .ro, 0, 0, 0, 4294967295, Obj.noMask, .immediate⟩,
  ⟨0x3215, 0x3215, 0, 0, 1, .u32, .ro, 0, 0, 0, 4294967295, Obj.noMask, .immediate⟩,
  ⟨0x3216, 0x3216, 0, 0, 1, .u32, .ro, 0, 0, 0, 4294967295, Obj.noMask, .immediate⟩,
  ⟨0x3217, 0x3217, 0, 0, 1, .u32, .ro, 0, 0, 0, 4294967295, Obj.noMask, .immediate⟩]

/-- The object tables of chapter 13, part 2. -/
def Obj.rowsNv2 : List ObjRow := [
  ⟨0x3218, 0x3218, 0, 0, 1, .u32, .ro, 0, 0, 0, 4294967295, Obj.noMask, .immediate⟩,
  ⟨0x321F, 0x321F, 0, 0, 1, .u8, .cmd, 1, 0, 0, 255, Obj.noMask, .immediate⟩,
  ⟨0x3280, 0x3280, 0, 0, 1, .u8, .cmd, 3, 0, 0, 255, Obj.noMask, .immediate⟩,
  ⟨0x3281, 0x3281, 0, 0, 1, .u8, .rw, 2, 25, 5, 75, Obj.noMask, .immediate⟩,
  ⟨0x3282, 0x3282, 0, 0, 1, .u8, .rw, 2, 24, 1, 168, Obj.noMask, .immediate⟩,
  ⟨0x5000, 0x5000, 0, 0, 1, .u32, .ro, 0, 0, 0, 4294967295, Obj.noMask, .immediate⟩,
  ⟨0x5001, 0x5001, 0, 0, 1, .u32, .rw, 0, 0, 0, 4294967295, Obj.noMask, .immediate⟩,
  ⟨0x5002, 0x5002, 0, 0, 1, .dom, .ro, 0, 0, 0, 0, Obj.noMask, .immediate⟩]

/-- The object tables of chapter 13. -/
def Obj.rowsNv : List ObjRow := Obj.rowsNv1 ++ Obj.rowsNv2

/-- The object tables of chapter 14, part 1. -/
def Obj.rowsSp1 : List ObjRow := [
  ⟨0x3300, 0x3300, 1, 2, 1, .u16, .ro, 0, 0, 0, 65535, Obj.noMask, .immediate⟩,
  ⟨0x3301, 0x3301, 1, 2, 1, .u8, .rw, 2, 0, 0, 1, Obj.noMask, .immediate⟩,
  ⟨0x3302, 0x3302, 0, 0, 1, .u8, .rw, 2, 0, 0, 1, Obj.noMask, .reset⟩,
  ⟨0x3303, 0x3303, 0, 0, 1, .bool, .rw, 2, 0, 0, 1, Obj.noMask, .immediate⟩,
  ⟨0x3304, 0x3304, 1, 2, 1, .u16, .rw, 2, 2048, 0, 65535, 0xf7f, .immediate⟩,
  ⟨0x3305, 0x3305, 0, 0, 1, .u16, .rw, 2, 100, 10, 10000, Obj.noMask, .immediate⟩,
  ⟨0x3306, 0x3306, 1, 4, 1, .dom, .ro, 0, 0, 0, 0, Obj.noMask, .reset⟩,
  ⟨0x3307, 0x3307, 1, 4, 1, .u8, .ro, 0, 0, 0, 255, Obj.noMask, .reset⟩,
  ⟨0x3308, 0x3308, 1, 4, 1, .u8, .ro, 0, 0, 0, 255, Obj.noMask, .immediate⟩,
  ⟨0x3310, 0x3310, 1, 2, 1, .u32, .ro, 0, 0, 0, 4294967295, Obj.noMask, .immediate⟩,
  ⟨0x3311, 0x3311, 1, 2, 1, .u32, .ro, 0, 0, 0, 4294967295, Obj.noMask, .immediate⟩,
  ⟨0x3312, 0x3312, 1, 2, 1, .u32, .ro, 0, 0, 0, 4294967295, Obj.noMask, .immediate⟩,
  ⟨0x3313, 0x3313, 0, 0, 1, .u32, .ro, 0, 0, 0, 4294967295, Obj.noMask, .immediate⟩,
  ⟨0x3314, 0x3314, 0, 0, 1, .u32, .ro, 0, 0, 0, 4294967295, Obj.noMask, .immediate⟩,
  ⟨0x3315, 0x3315, 0, 0, 1, .u32, .ro, 0, 0, 0, 4294967295, Obj.noMask, .immediate⟩,
  ⟨0x3316, 0x3316, 0, 0, 1, .u32, .ro, 0, 0, 0, 4294967295, Obj.noMask, .immediate⟩,
  ⟨0x331F, 0x331F, 0, 0, 1, .u8, .cmd, 1, 0, 0, 255, Obj.noMask, .immediate⟩,
  ⟨0x3380, 0x3380, 0, 0, 1, .u8, .rw, 2, 5, 5, 250, Obj.noMask, .mode⟩,
  ⟨0x3381, 0x3381, 1, 4, 1, .u8, .rw, 2, 0, 0, 255, 0x3, .mode⟩,
  ⟨0x3382, 0x3382, 1, 4, 1, .u8, .rw, 2, 0, 0, 15, Obj.noMask, .mode⟩,
  ⟨0x3383, 0x3383, 0, 0, 1, .u8, .rw, 2, 1, 1, 64, Obj.noMask, .mode⟩,
  ⟨0x3384, 0x3384, 0, 0, 1, .bool, .rw, 2, 1, 0, 1, Obj.noMask, .immediate⟩,
  ⟨0x3385, 0x3385, 0, 0, 1, .bool, .rw, 2, 1, 0, 1, Obj.noMask, .immediate⟩,
  ⟨0x3386, 0x3386, 0, 0, 1, .dom, .rw, 3, 0, 0, 0, Obj.noMask, .immediate⟩]

/-- The object tables of chapter 14. -/
def Obj.rowsSp : List ObjRow := Obj.rowsSp1

/-- The object tables of chapter 15, part 1. -/
def Obj.rowsHk1 : List ObjRow := [
  ⟨0x3400, 0x3400, 1, 4, 1, .u16, .ro, 0, 0, 0, 65535, Obj.noMask, .immediate⟩,
  ⟨0x3401, 0x3401, 1, 4, 1, .u8, .cmd, 1, 0, 0, 255, 0x3, .immediate⟩,
  ⟨0x3402, 0x3402, 1, 4, 1, .u32, .rw, 1, 4194304, 0, 4294967295, 0xffffff, .immediate⟩,
  ⟨0x3403, 0x3403, 1, 4, 1, .u8, .rw, 1, 68, 0, 136, Obj.noMask, .immediate⟩,
  ⟨0x3404, 0x3404, 1, 4, 1, .u32, .ro, 0, 0, 0, 4294967295, Obj.noMask, .immediate⟩,
  ⟨0x3405, 0x3405, 1, 4, 1, .u8, .rw, 2, 0, 0, 2, Obj.noMask, .immediate⟩,
  ⟨0x3406, 0x3406, 1, 4, 1, .u32, .ro, 0, 0, 0, 4294967295, Obj.noMask, .immediate⟩,
  ⟨0x3407, 0x3407, 0, 0, 1, .u16, .ro, 0, 12816, 0, 65535, Obj.noMask, .immediate⟩,
  ⟨0x3410, 0x3413, 1, 16, 1, .i32, .rw, 2, 65536, -2147483648, 2147483647, Obj.noMask, .immediate⟩,
  ⟨0x3414, 0x3417, 1, 16, 1, .i32, .rw, 2, 0, -2147483648, 2147483647, Obj.noMask, .immediate⟩,
  ⟨0x3420, 0x3420, 1, 4, 1, .u32, .ro, 0, 0, 0, 4294967295, Obj.noMask, .immediate⟩,
  ⟨0x3421, 0x3421, 1, 4, 1, .u32, .ro, 0, 0, 0, 4294967295, Obj.noMask, .immediate⟩,
  ⟨0x3422, 0x3422, 0, 0, 1, .u32, .ro, 0, 0, 0, 4294967295, Obj.noMask, .immediate⟩,
  ⟨0x342F, 0x342F, 0, 0, 1, .u8, .cmd, 1, 0, 0, 255, Obj.noMask, .immediate⟩,
  ⟨0x3480, 0x3480, 0, 0, 1, .bool, .rw, 2, 1, 0, 1, Obj.noMask, .immediate⟩,
  ⟨0x3481, 0x3481, 0, 0, 1, .u16, .rw, 2, 1000, 100, 60000, Obj.noMask, .immediate⟩]

/-- The object tables of chapter 15. -/
def Obj.rowsHk : List ObjRow := Obj.rowsHk1

/-- The object tables of chapter 16, part 1. -/
def Obj.rowsTherm1 : List ObjRow := [
  ⟨0x3500, 0x3500, 0, 0, 1, .u16, .ro, 0, 1, 0, 65535, Obj.noMask, .immediate⟩,
  ⟨0x3501, 0x3501, 0, 0, 1, .u8, .ro, 0, 0, 0, 255, Obj.noMask, .immediate⟩,
  ⟨0x3502, 0x3502, 0, 0, 1, .i16, .ro, 0, 0, -32768, 32767, Obj.noMask, .immediate⟩,
  ⟨0x3503, 0x3503, 0, 0, 1, .u8, .ro, 0, 0, 0, 255, Obj.noMask, .immediate⟩,
  ⟨0x3504, 0x3504, 1, 32, 1, .i16, .ro, 0, 0, -32768, 32767, Obj.noMask, .immediate⟩,
  ⟨0x3505, 0x3505, 1, 32, 1, .i16, .ro, 0, 0, -32768, 32767, Obj.noMask, .immediate⟩,
  ⟨0x3506, 0x3506, 0, 0, 1, .u32, .ro, 0, 0, 0, 4294967295, Obj.noMask, .immediate⟩,
  ⟨0x3507, 0x3507, 0, 0, 1, .i16, .rw, 2, 10000, 8500, 10500, Obj.noMask, .immediate⟩,
  ⟨0x3508, 0x3508, 0, 0, 1, .i16, .rw, 2, 11000, 10000, 11500, Obj.noMask, .immediate⟩,
  ⟨0x3509, 0x3509, 0, 0, 1, .i16, .rw, 2, 12500, 11500, 12500, Obj.noMask, .immediate⟩,
  ⟨0x350A, 0x350A, 0, 0, 1, .u8, .rw, 2, 10, 1, 100, Obj.noMask, .immediate⟩,
  ⟨0x350B, 0x350B, 0, 0, 1, .u16, .rw, 2, 500, 100, 2000, Obj.noMask, .immediate⟩,
  ⟨0x350C, 0x350C, 0, 0, 1, .u16, .rw, 2, 2000, 0, 60000, Obj.noMask, .immediate⟩,
  ⟨0x350D, 0x350D, 0, 0, 1, .u16, .rw, 2, 1000, 100, 60000, Obj.noMask, .immediate⟩,
  ⟨0x350E, 0x350E, 0, 0, 1, .u8, .ro, 0, 0, 0, 255, Obj.noMask, .immediate⟩,
  ⟨0x350F, 0x350F, 0, 0, 1, .u32, .ro, 0, 0, 0, 4294967295, Obj.noMask, .immediate⟩,
  ⟨0x3510, 0x3510, 0, 0, 1, .u8, .cmd, 2, 0, 0, 255, Obj.noMask, .immediate⟩,
  ⟨0x3511, 0x3511, 0, 0, 1, .u64, .ro, 0, 0, 0, 18446744073709551615, Obj.noMask, .immediate⟩,
  ⟨0x3512, 0x3512, 0, 0, 1, .i16, .ro, 0, 0, -32768, 32767, Obj.noMask, .immediate⟩,
  ⟨0x3520, 0x3520, 0, 0, 1, .u32, .ro, 0, 0, 0, 4294967295, Obj.noMask, .immediate⟩,
  ⟨0x3521, 0x3521, 0, 0, 1, .u32, .ro, 0, 0, 0, 4294967295, Obj.noMask, .immediate⟩,
  ⟨0x3522, 0x3522, 0, 0, 1, .u32, .ro, 0, 0, 0, 4294967295, Obj.noMask, .immediate⟩,
  ⟨0x352F, 0x352F, 0, 0, 1, .u8, .cmd, 1, 0, 0, 255, Obj.noMask, .immediate⟩,
  ⟨0x3580, 0x3580, 0, 0, 1, .u8, .rw, 2, 4, 0, 8, Obj.noMask, .immediate⟩]

/-- The object tables of chapter 16. -/
def Obj.rowsTherm : List ObjRow := Obj.rowsTherm1

/-- The object tables of chapter 17, part 1. -/
def Obj.rowsPwr1 : List ObjRow := [
  ⟨0x3600, 0x3600, 0, 0, 1, .u16, .ro, 0, 0, 0, 65535, Obj.noMask, .immediate⟩,
  ⟨0x3601, 0x3601, 0, 0, 1, .u16, .ro, 0, 0, 0, 65535, Obj.noMask, .immediate⟩,
  ⟨0x3602, 0x3602, 0, 0, 1, .u16, .ro, 0, 0, 0, 65535, Obj.noMask, .immediate⟩,
  ⟨0x3603, 0x3603, 0, 0, 1, .u32, .ro, 0, 0, 0, 4294967295, Obj.noMask, .immediate⟩,
  ⟨0x3604, 0x3604, 0, 0, 1, .u32, .ro, 0, 0, 0, 4294967295, Obj.noMask, .immediate⟩,
  ⟨0x3605, 0x3605, 0, 0, 1, .u16, .ro, 0, 65535, 0, 65535, Obj.noMask, .immediate⟩,
  ⟨0x3606, 0x3606, 0, 0, 1, .u16, .ro, 0, 0, 0, 65535, Obj.noMask, .immediate⟩,
  ⟨0x3607, 0x3607, 0, 0, 1, .u16, .ro, 0, 0, 0, 65535, Obj.noMask, .immediate⟩,
  ⟨0x3608, 0x3608, 1, 80, 1, .u8, .ro, 0, 0, 0, 255, Obj.noMask, .immediate⟩,
  ⟨0x3609, 0x3609, 1, 80, 1, .u16, .ro, 0, 0, 0, 65535, Obj.noMask, .immediate⟩,
  ⟨0x360A, 0x360A, 1, 80, 1, .u16, .ro, 0, 0, 0, 65535, Obj.noMask, .immediate⟩,
  ⟨0x360B, 0x360B, 1, 80, 1, .u16, .ro, 0, 0, 0, 65535, Obj.noMask, .immediate⟩,
  ⟨0x360C, 0x360C, 1, 4, 1, .u16, .ro, 0, 0, 0, 65535, Obj.noMask, .immediate⟩,
  ⟨0x360D, 0x360D, 0, 0, 1, .u16, .ro, 0, 0, 0, 65535, Obj.noMask, .immediate⟩,
  ⟨0x3620, 0x3620, 0, 0, 1, .u32, .ro, 0, 0, 0, 4294967295, Obj.noMask, .immediate⟩,
  ⟨0x3621, 0x3621, 0, 0, 1, .u32, .ro, 0, 0, 0, 4294967295, Obj.noMask, .immediate⟩,
  ⟨0x3622, 0x3622, 1, 80, 1, .u32, .ro, 0, 0, 0, 4294967295, Obj.noMask, .immediate⟩,
  ⟨0x3623, 0x3623, 0, 0, 1, .u32, .ro, 0, 0, 0, 4294967295, Obj.noMask, .immediate⟩,
  ⟨0x362F, 0x362F, 0, 0, 1, .u8, .cmd, 1, 0, 0, 255, Obj.noMask, .immediate⟩,
  ⟨0x3680, 0x3680, 1, 4, 1, .u16, .rw, 2, 1800, 1650, 1950, Obj.noMask, .mode⟩,
  ⟨0x3681, 0x3681, 1, 4, 1, .u16, .rw, 2, 3300, 3000, 3600, Obj.noMask, .mode⟩]

/-- The object tables of chapter 17. -/
def Obj.rowsPwr : List ObjRow := Obj.rowsPwr1

/-- The object tables of chapter 18, part 1. -/
def Obj.rowsSec1 : List ObjRow := [
  ⟨0x3700, 0x3700, 0, 0, 1, .u16, .ro, 0, 0, 0, 65535, Obj.noMask, .immediate⟩,
  ⟨0x3701, 0x3701, 0, 0, 1, .u8, .ro, 0, 0, 0, 255, Obj.noMask, .immediate⟩,
  ⟨0x3702, 0x3702, 0, 0, 1, .u8, .cmd, 2, 0, 0, 3, Obj.noMask, .immediate⟩,
  ⟨0x3703, 0x3703, 0, 0, 1, .u64, .ro, 0, 0, 0, 18446744073709551615, Obj.noMask, .immediate⟩,
  ⟨0x3704, 0x3704, 0, 0, 1, .u32, .ro, 0, 0, 0, 4294967295, Obj.noMask, .immediate⟩,
  ⟨0x3705, 0x3705, 0, 0, 1, .bool, .rw, 2, 1, 0, 1, Obj.noMask, .immediate⟩,
  ⟨0x3706, 0x3706, 0, 0, 1, .u8, .cmd, 2, 0, 0, 255, Obj.noMask, .immediate⟩,
  ⟨0x3707, 0x3707, 0, 0, 1, .dom, .wo, 2, 0, 0, 0, Obj.noMask, .immediate⟩,
  ⟨0x3708, 0x3708, 0, 0, 1, .u8, .cmd, 2, 0, 0, 5, Obj.noMask, .immediate⟩,
  ⟨0x3709, 0x3709, 0, 0, 1, .dom, .ro, 0, 0, 0, 0, Obj.noMask, .immediate⟩,
  ⟨0x370A, 0x370A, 0, 0, 1, .dom, .wo, 2, 0, 0, 0, Obj.noMask, .immediate⟩,
  ⟨0x370B, 0x370B, 0, 0, 1, .bool, .rw, 2, 0, 0, 1, Obj.noMask, .immediate⟩,
  ⟨0x370C, 0x370C, 0, 0, 1, .dom, .wo, 2, 0, 0, 0, Obj.noMask, .immediate⟩,
  ⟨0x3710, 0x3710, 0, 0, 1, .dom, .wo, 0, 0, 0, 0, Obj.noMask, .immediate⟩,
  ⟨0x3711, 0x3711, 0, 0, 1, .dom, .ro, 0, 0, 0, 0, Obj.noMask, .immediate⟩,
  ⟨0x3712, 0x3712, 0, 0, 1, .dom, .wo, 0, 0, 0, 0, Obj.noMask, .immediate⟩,
  ⟨0x3713, 0x3713, 0, 0, 1, .dom, .ro, 0, 0, 0, 0, Obj.noMask, .immediate⟩,
  ⟨0x3714, 0x3714, 0, 0, 1, .u8, .cmd, 0, 0, 0, 255, Obj.noMask, .immediate⟩,
  ⟨0x3800, 0x3800, 0, 0, 1, .u16, .ro, 0, 0, 0, 65535, Obj.noMask, .immediate⟩,
  ⟨0x3801, 0x3801, 0, 0, 1, .u8, .ro, 0, 0, 0, 255, Obj.noMask, .immediate⟩,
  ⟨0x3802, 0x3802, 0, 0, 1, .u8, .ro, 0, 0, 0, 255, Obj.noMask, .immediate⟩,
  ⟨0x3803, 0x3803, 0, 0, 1, .u8, .cmd, 2, 0, 0, 2, Obj.noMask, .immediate⟩,
  ⟨0x3804, 0x3804, 0, 0, 1, .dom, .ro, 0, 0, 0, 0, Obj.noMask, .reset⟩,
  ⟨0x3805, 0x3805, 0, 0, 1, .dom, .wo, 2, 0, 0, 0, Obj.noMask, .immediate⟩]

/-- The object tables of chapter 18, part 2. -/
def Obj.rowsSec2 : List ObjRow := [
  ⟨0x3806, 0x3806, 0, 0, 1, .u32, .ro, 0, (Config.idcode : Int), 0, 4294967295, Obj.noMask, .immediate⟩,
  ⟨0x3807, 0x3807, 0, 0, 1, .u8, .cmd, 1, 0, 0, 255, Obj.noMask, .immediate⟩,
  ⟨0x3808, 0x3808, 0, 0, 1, .dom, .ro, 0, 0, 0, 0, Obj.noMask, .immediate⟩]

/-- The object tables of chapter 18. -/
def Obj.rowsSec : List ObjRow := Obj.rowsSec1 ++ Obj.rowsSec2

/-- Every row of the dictionary. -/
def Obj.rows : List ObjRow :=
  Obj.rowsDict ++ Obj.rowsMode ++ Obj.rowsChain ++ Obj.rowsTrig ++ Obj.rowsIntake ++ Obj.rowsCorr ++ Obj.rowsTail ++
    Obj.rowsIntg ++ Obj.rowsOut ++ Obj.rowsEcl ++ Obj.rowsMem ++ Obj.rowsNv ++ Obj.rowsSp ++ Obj.rowsHk ++ Obj.rowsTherm ++
    Obj.rowsPwr ++ Obj.rowsSec

/-- The rows of the index block an index lies in (11 Table 11-1); an index outside the listed blocks has none. -/
def Obj.blockRows (i : Nat) : List ObjRow :=
  if i < 0x1000 then []
  else if i < 0x1100 then Obj.rowsDict
  else if i < 0x1200 then Obj.rowsMode
  else if i < 0x1300 then Obj.rowsChain
  else if i < 0x1400 then Obj.rowsTrig
  else if i < 0x2000 then []
  else if i < 0x2100 then Obj.rowsIntake
  else if i < 0x2200 then Obj.rowsCorr
  else if i < 0x2500 then Obj.rowsTail
  else if i < 0x2600 then Obj.rowsCorr
  else if i < 0x2800 then Obj.rowsIntg
  else if i < 0x2900 then Obj.rowsOut
  else if i < 0x2A00 then Obj.rowsEcl
  else if i < 0x2B00 then Obj.rowsTrig
  else if i < 0x3000 then []
  else if i < 0x3200 then Obj.rowsMem
  else if i < 0x3300 then Obj.rowsNv
  else if i < 0x3400 then Obj.rowsSp
  else if i < 0x3500 then Obj.rowsHk
  else if i < 0x3600 then Obj.rowsTherm
  else if i < 0x3700 then Obj.rowsPwr
  else if i < 0x3900 then Obj.rowsSec
  else if i < 0x5000 then []
  else if i < 0x6000 then Obj.rowsNv
  else []

end Sys2Proof
end

