-- ==== Sys2Proof/Machine/Dict.lean ====
section
/-!
DEFINITION. Look-up in the object dictionary: the row of a key, its default, its type's length and code on the chain, and
the range check of a write (11 R384 to R386, R402, R405; the special ranges are those of each object's own table).
-/
namespace Sys2Proof

/-- The row lists the index. -/
def ObjRow.hasIndex (r : ObjRow) (i : Nat) : Bool := decide (r.i0 ≤ i ∧ i ≤ r.i1)

/-- The row lists index and subindex (11 R385: exactly the subindices its table lists). -/
def ObjRow.has (r : ObjRow) (i sub : Nat) : Bool :=
  r.hasIndex i && decide (r.s0 ≤ sub ∧ sub ≤ r.s1 ∧ (sub - r.s0) % r.step = 0)

/-- The row of a key. -/
def Obj.row? (k : Nat) : Option ObjRow := (Obj.blockRows (k / 256)).find? (fun r => r.has (k / 256) (k % 256))

/-- The index is implemented. -/
def Obj.indexExists (i : Nat) : Bool := (Obj.blockRows i).any (fun r => r.hasIndex i)

/-- The default of the members of an array whose table gives them one by one. -/
def Obj.special (i sub : Nat) (d : Int) : Int :=
  if i = 0x2084 then 0x11 * ((sub : Int) - 1)
  else if i = 0x2090 then (sub : Int) - 1
  else if i = 0x2502 then (if sub = 5 then 64 else 0)
  else if 0x2441 ≤ i ∧ i ≤ 0x2444 then (if sub = 5 then 64 else 0)
  else if 0x2780 ≤ i ∧ i ≤ 0x2783 then (match sub with | 1 => 640000 | 2 => 160000 | 3 => 40000 | _ => 10000)
  else if i = 0x2803 then (0x02 * 2 ^ 40 + 2 * (Config.deviceId % 2 ^ 39) + (sub - 1) / 2 : Nat)
  else if i = 0x1207 then (0x06 * 2 ^ 40 + 2 * (Config.deviceId % 2 ^ 39) + (sub - 1) / 2 : Nat)
  else if i = 0x2809 then 49199 + (sub : Int)
  else if i = 0x2810 then (if sub ≤ 2 then 1 else 2)
  else if 0x2989 ≤ i ∧ i ≤ 0x2990 then 10000 + 1875 * ((sub : Int) - 1)
  else if i = 0x2A08 then (if sub = 1 then 7 else 0)
  else d

/-- The power-on default of an object (00 R14). -/
def Obj.dflt (k : Nat) : Int :=
  match Obj.row? k with
  | none => 0
  | some r => Obj.special (k / 256) (k % 256) r.dflt

/-- Bytes of a value of a scalar type; 0 for STR and DOM (11 Table 11-2). -/
def ObjTy.size : ObjTy → Nat
  | .bool => 1 | .u8 => 1 | .u16 => 2 | .u32 => 4 | .u64 => 8
  | .i8 => 1 | .i16 => 2 | .i32 => 4 | .f32 => 4 | .str => 0 | .dom => 0

/-- DTYPE on the chain (11 Table 11-2). -/
def ObjTy.code : ObjTy → Nat
  | .bool => 1 | .u8 => 2 | .u16 => 3 | .u32 => 4 | .u64 => 5
  | .i8 => 6 | .i16 => 7 | .i32 => 8 | .f32 => 9 | .str => 10 | .dom => 11

/-- The type has a sign. -/
def ObjTy.signed : ObjTy → Bool
  | .i8 => true | .i16 => true | .i32 => true | _ => false

/-- The type is a scalar. -/
def ObjTy.scalar : ObjTy → Bool
  | .str => false | .dom => false | _ => true

/-- The value a code of the type's width stands for. -/
def ObjTy.decode (t : ObjTy) (v : Nat) : Int :=
  if t.signed then fromCode (8 * t.size) v else (v % 2 ^ (8 * t.size) : Nat)

/-- The code of a value in the type's width. -/
def ObjTy.encode (t : ObjTy) (v : Int) : Nat := toCode (8 * t.size) v

/-- A binary32 pattern that is a NaN (11 Table 11-2: refused with RANGE). -/
def isNaN32 (v : Nat) : Bool := fieldOf v 30 23 == 255 && fieldOf v 22 0 != 0

/-- The number is a power of two. -/
def isPow2 (v : Nat) : Bool := v != 0 && 2 ^ v.log2 == v

/-- A contiguous network mask: ones then zeros (09 Table 09, OUT_NETMASK). -/
def isNetmask (v : Nat) : Bool := isPow2 (2 ^ 32 - v)

/-- Ranges that are more than one interval, by the object tables' Range column. -/
def Obj.rangeExtra (i : Nat) (v : Int) : Bool :=
  let n := v.toNat
  if i = 0x1102 then true
  else if i = 0x1107 then decide (n ≤ 7 ∨ n = 0xFF)
  else if i = 0x210E ∨ i = 0x2110 then decide (n = 0 ∨ (0x02000000 ≤ n ∧ n ≤ 0x02FFFFFF))
  else if i = 0x2919 then decide (n = 0xFF ∨ n ≤ 0x3F)
  else if i = 0x2A10 then decide (n ≤ 7 ∨ n = 0xFF)
  else if i = 0x2A18 then decide (fieldOf n 7 6 ≠ 3 ∧ ¬ (fieldOf n 7 6 = 1 ∧ 4 ≤ fieldOf n 2 0))
  else if i = 0x2803 then !bitAt n 40
  else if i = 0x2805 then isNetmask n
  else if i = 0x3110 then decide (fieldOf n 10 8 ≤ 4)
  else if i = 0x3112 then n % 4096 == 0
  else if i = 0x3113 then isPow2 n
  else if i = 0x3403 then decide (fieldOf n 3 0 ≤ 8 ∧ fieldOf n 7 4 ≤ 8)
  else if i = 0x3680 ∨ i = 0x3681 then n % 10 == 0
  else if 0x2408 ≤ i ∧ i ≤ 0x240B then !isNaN32 n
  else if i = 0x3304 then true
  else true

/-- MODE_REQ_TARGET admits 0 to 5 and 0xFE (02 Table 02-10). -/
def Obj.rangeMode (k : Nat) (v : Int) : Bool :=
  if k = Obj.MODE_REQ_TARGET then decide (v ≤ 5 ∨ v = 0xFE) else true

/-- The value lies in the object's range (11 Table 11-5, RANGE), reserved bits ignored (00 R7). -/
def ObjRow.inRange (r : ObjRow) (k : Nat) (v : Int) : Bool :=
  let v' : Int := if r.mask = Obj.noMask then v else ((Nat.land v.toNat r.mask : Nat) : Int)
  decide (r.lo ≤ v' ∧ v' ≤ r.hi) && Obj.rangeExtra (k / 256) v' && Obj.rangeMode k v'

/-- The value as stored: reserved bits read as zero (00 R7). -/
def ObjRow.stored (r : ObjRow) (v : Int) : Int :=
  if r.mask = Obj.noMask then v else ((Nat.land v.toNat r.mask : Nat) : Int)

end Sys2Proof
end

