-- ==== Sys2Proof/Machine/Store.lean ====
section
/-!
DEFINITION. Sparse memories as plain data: key and value pairs in one canonical form, keys strictly rising and no entry
equal to what an unlisted key reads as.  The same form holds the DRAM, the keep array, the flash devices and the values
of the object dictionary.
-/
namespace Sys2Proof

/-- What key `k` reads as; an unlisted key reads as `d k`. -/
def Store.get {α : Type} (d : Nat → α) : List (Nat × α) → Nat → α
  | [], k => d k
  | (k', v) :: r, k => if k' = k then v else Store.get d r k

/-- Write `v` at key `k`, keeping the canonical form. -/
def Store.set {α : Type} [DecidableEq α] (d : Nat → α) : List (Nat × α) → Nat → α → List (Nat × α)
  | [], k, v => if v = d k then [] else [(k, v)]
  | (k', v') :: r, k, v =>
    if k < k' then (if v = d k then (k', v') :: r else (k, v) :: (k', v') :: r)
    else if k = k' then (if v = d k then r else (k, v) :: r)
    else (k', v') :: Store.set d r k v

/-- The canonical form: keys strictly rising, every key of the list above `lo`, no entry equal to its default. -/
def Store.wfFrom {α : Type} [DecidableEq α] (d : Nat → α) : Nat → List (Nat × α) → Bool
  | _, [] => true
  | lo, (k, v) :: r => decide (lo ≤ k) && decide (v ≠ d k) && Store.wfFrom d (k + 1) r

/-- The canonical form of a whole store. -/
def Store.wf {α : Type} [DecidableEq α] (d : Nat → α) (m : List (Nat × α)) : Bool := Store.wfFrom d 0 m

/-- The store with every key from `lo` to below `hi` back at its default. -/
def Store.dropRange {α : Type} (m : List (Nat × α)) (lo hi : Nat) : List (Nat × α) :=
  m.filter (fun c => decide (c.1 < lo ∨ hi ≤ c.1))

/-- `n` consecutive bytes from address `a`. -/
def Store.read {α : Type} (d : Nat → α) (m : List (Nat × α)) : Nat → Nat → List α
  | _, 0 => []
  | a, n + 1 => Store.get d m a :: Store.read d m (a + 1) n

/-- Consecutive writes from address `a`, the first element at `a`. -/
def Store.write {α : Type} [DecidableEq α] (d : Nat → α) :
    List (Nat × α) → Nat → List α → List (Nat × α)
  | m, _, [] => m
  | m, a, v :: r => Store.write d (Store.set d m a v) (a + 1) r

/-- The member of a quad. -/
def Quad.get {α : Type} (q : Quad α) (p : Pos) : α :=
  match p with
  | 0 => q.p0
  | 1 => q.p1
  | 2 => q.p2
  | 3 => q.p3

/-- The quad with one member replaced. -/
def Quad.set {α : Type} (q : Quad α) (p : Pos) (a : α) : Quad α :=
  match p with
  | 0 => { q with p0 := a }
  | 1 => { q with p1 := a }
  | 2 => { q with p2 := a }
  | 3 => { q with p3 := a }

/-- The quad with one member changed by a function. -/
def Quad.upd {α : Type} (q : Quad α) (p : Pos) (f : α → α) : Quad α := q.set p (f (q.get p))

/-- Four copies of one value. -/
def Quad.all {α : Type} (a : α) : Quad α := ⟨a, a, a, a⟩

/-- The quad of a function's four values. -/
def Quad.of {α : Type} (f : Pos → α) : Quad α := ⟨f 0, f 1, f 2, f 3⟩

/-- Every member changed. -/
def Quad.map {α β : Type} (f : α → β) (q : Quad α) : Quad β := ⟨f q.p0, f q.p1, f q.p2, f q.p3⟩

/-- The members in the order S0 to S3. -/
def Quad.toList {α : Type} (q : Quad α) : List α := [q.p0, q.p1, q.p2, q.p3]

/-- The four position numbers. -/
def allPos : List Pos := [0, 1, 2, 3]

end Sys2Proof
end

