-- ==== Sys2Proof/Machine/State.lean ====
section
/-!
DEFINITION. The state of the block, whole and as plain data, what leaves it, the reasons a command can stop, and the
state at power-on reset.
-/
namespace Sys2Proof.Machine

/-- What an observer outside the module sees leave it (log 3), newest first in `State.out`. -/
inductive Emit where
  /-- A frame on a chain port (0 CHAIN_A, 1 CHAIN_B), from the destination address to the end of the payload; `good` is
  false for a frame that ends with the inverse of its correct FCS (10 R353). -/
  | chain (port : Nat) (bytes : List Byte) (good : Bool)
  /-- A transaction on an SP0 select: the words of one link after another (14 R471). -/
  | sp0 (sel : Nat) (words : List Nat)
  /-- A UDP datagram on an output port, to an IPv4 address: the Ethernet frame that carries it (09 R322, R324). -/
  | datagram (port dst : Nat) (frame : List Byte)
  /-- An Ethernet frame other than a datagram on an output port (09 R325, R326). -/
  | frame (port mac : Nat) (bytes : List Byte)
  /-- An MSI-X message (12 R424). -/
  | msix (vector : Nat)
  /-- A word a read returns to its requester. -/
  | value (v : Nat)
  /-- Bytes a read returns to its requester. -/
  | bytes (bs : List Byte)
  /-- A refusal with its abort code and the key it concerns (11 R405). -/
  | abort (key code : Nat)
  /-- A completion with Unsupported Request (12 R423). -/
  | unsupported
  /-- A master transaction on SP1: select, lane codes of its phases, dummy cycles, and the bytes driven (14 R480, R498). -/
  | sp1 (sel lanes dummy : Nat) (bytes : List Byte)
  /-- Bytes driven by the module as SP slave (14 R488). -/
  | slave (port : Nat) (bytes : List Byte)
  /-- A memory write request of a DMA channel to the host, with its No-Snoop attribute (12 R427, R429). -/
  | dma (channel addr : Nat) (bytes : List Byte) (noSnoop : Bool)
  /-- A memory read request of a DMA channel to the host for `n` bytes, with its No-Snoop attribute (12 R427, R429). -/
  | dmaRead (channel addr n : Nat) (noSnoop : Bool)
  /-- A word shifted out on TDO (18 R570). -/
  | tdo (bits : List Byte)
deriving DecidableEq, Repr

/-- Why the machine stops with a fault. -/
inductive Fault where
  /-- BAR2_WRITE: an address beyond the BAR2 aperture, which no host access can carry (12 R416).  Safe: the model stops. -/
  | barRange
deriving DecidableEq, Repr

/-- Why the model gives a command no meaning. -/
inductive Refusal where
  /-- The dispatch, for a command whose meaning is not written.  Safe: the model stops. -/
  | notModelled (mnemonic : String)
deriving DecidableEq, Repr

/-- The state of the block. -/
structure State where
  /-- The commands that wait, first in first out. -/
  pending : List Instr
  /-- What has left the module, newest first (log 3). -/
  out : List Emit
  /-- The object dictionary: value of each scalar object by key index * 256 + subindex, canonical over the power-on
  defaults (11 R384, 00 R14). -/
  od : List (Nat × Int)
  /-- STR and DOM objects that are stored, by key; an unlisted one is empty. -/
  doms : List (Nat × List Byte)
  time : TimeSt
  boot : BootSt
  modes : ModeSt
  ops : OpsSt
  chain : ChainSt
  bar0 : Bar0St
  nv : NvSt
  /-- 03: the eight lanes, and which groups are aligned. -/
  lanes : List Lane
  aligned : Quad Bool
  intake : Quad IntakePos
  link : LinkSt
  fpa : Quad FpaSt
  sp0 : Quad Sp0Sel
  pipe : Quad PipePos
  coef : Quad CoefPos
  gen : Quad GenPos
  vdet : Quad VdetPos
  stat : Quad StatPos
  ecl : Quad EclPos
  shut : ShutterSt
  windows : List Window
  enc0 : Encoder
  enc1 : Encoder
  tg : Quad Generator
  /-- 08 R306: the eight chain channels. -/
  chan : List Channel
  trig : Quad TrigPos
  trigOut : Quad TrigOut
  out0 : OutPort
  out1 : OutPort
  /-- 09 R328: the eight taps T0 to T7. -/
  taps : List TapSt
  mem : MemSt
  host : HostSt
  /-- 12: the sixteen DMA channels. -/
  dma : List DmaCh
  /-- 09 R342, 12 R431: the image rings of OUT0 and OUT1 and the tap rings of T0 to T7, in the order of the index tables. -/
  rings : List Ring
  /-- 09 R344: ingots completed so far, over all rings. -/
  ingots : Nat
  serial : SerialSt
  hk : HkSt
  therm : ThermSt
  pwr : PowerSt
  sec : SecSt
  dbg : DbgSt
  /-- The model's own field, not the spec's: how many free values have been drawn (log 12). -/
  free : Nat
deriving DecidableEq, Repr

/-! ### The parts at power-on reset, before VIN is applied (log 13) -/

def TimeSt.reset : TimeSt :=
  { now := 0, mono := 0, bootMono := 0, good := 0, bad := 0, lastMeas := none, syncInterval := 125000000, master := none,
    masterPort := 0, sync := none, twoStepSeq := none, delayAt := none, delaySeq := 0, path := none, masterSeen := 0, holdoverAt := 0, stepBlocked := false,
    slewing := false, gmChanged := false, ppsSeconds := none, ppsSeenAt := none, ppsOut := false, ppsEnd := 0 }

def BootSt.reset : BootSt :=
  { phase := .off, vinAt := 0, resetN := true, tR := 0, cause := 0, tried := 0, slot := 0, svn := 0, version := 0, sysclk := true, trip := false, scanned := false }

def ModeSt.reset : ModeSt :=
  { orphan := false, armed := none, running := none, joined := [], txn := 0, since := 0, prevMode := 0, prevTxn := 0, eclReturn := 0,
    hist := [], causes := [], inForce := [] }

def OpsSt.reset : OpsSt := { load := none, loadQueue := [], save := none, compact := none }

def ChainPort.reset : ChainPort := { link := false, pcs := false, an := false, queue := [], rx := 0 }

def ChainSt.reset : ChainSt :=
  { portA := ChainPort.reset, portB := ChainPort.reset, upstreamB := false, sessions := [], challenges := [], kept := [],
    staging := none, mismatch := false, dupStation := false, renewedAt := 0, leaseRetry := false, notifyAt := 0,
    notifySent := 0, ifInForce := [0, 0], etherInForce := 0x88B5 }

def Bar0St.reset : Bar0St := { latch := none, held := none, buf := [], busy := none }

def NvSt.reset : NvSt :=
  { keep := [], worn := [], flash := Quad.all [], size := ⟨0x1000000, 0, 0, 0⟩, closed := false, closeAt := 0, closeLog := none, journal := none,
    repairs := [], job := none, flashOp := none, logNext := 1, logFlushed := 1, logSeg := 0x03000000, annealHours := 0,
    keepAnneal := none, storeAnneal := none, reclaim := none, bad := [], marginReads := false, counterFault := false, storeLow := false,
    keepOk := false, nvFault := false, queue := [] }

def Lane.reset : Lane := { cdr := false, block := false, scr := 0, marker := none }

def IntakePos.reset : IntakePos :=
  { frm := none, nextNum := 0, closedAt := 0, ended := [], fifo := [], unsol := [], hpSubt := none,
    lastOvf := false, lastGeom := false, lastLong := false, lastShort := false }

def LinkSt.reset : LinkSt :=
  { asm := Quad.all none, turn := 3, hp := { fval := false, lval := false, gap := 8, num := none, cols := [] } }

def FpaSt.reset : FpaSt :=
  { seq := 0, sent := none, todo := [], refused := [], resent := [], carry := [], shadowTint := [0, 0, 0, 0],
    shadowMask := 0, effTint := [0, 0, 0, 0], effMask := 0, oldTint := [0, 0, 0, 0], oldMask := 0, unread := [], ids := [], idTries := 0, idDone := false, silent := false,
    want := [], idOn := false, temp := false, tempSent := false, blank := false }

def Sp0Sel.reset : Sp0Sel := { busy := none, lastRelease := 0 }

def Calib.reset : Calib :=
  { lut := [], t0 := 38400, rad := Quad.all [], ratio := Quad.all 4194304, herDrift := 0, herTref := 38400 }

def PipePos.reset : PipePos :=
  { frm := none, track := 0, trackEmpty := true, gotSubt := false, blocks := [], calib := Calib.reset, rawRows := [], corr := [], outOf := Quad.all 0,
    tailRows := [], merged := [], rows := [], noiseSum := 0, noiseCount := 0, noiseMax := 0, clipped := false,
    staged := false, satSeen := false, slotSat := [0, 0, 0, 0], lastClipped := false, lastStaged := false,
    lastSat := false, subtHeld := false, done := [] }

def CoefPos.reset : CoefPos :=
  { changed := false, changedByLoad := false, notReady := false, histReset := false, format := 2,
    started := false, busyFrame := false, idMismatch := false, nonmono := 0, source := 0 }

def GenPos.reset : GenPos :=
  { pend := [], act := [], gov := [], dirty := false, committed := false, runShorter := 0, runLonger := 0,
    runFewer := 0, holdoff := 0, aiWaiting := false, aiLimit := false }

def VdetPos.reset : VdetPos := { target := 0, rampEnd := none, slew := 0, settleAt := none, fault := false, settled := 0, eclCode := none, follow := false, trim := 0 }

def StatPos.reset : StatPos :=
  { blockBE := [], blockLE := [], published := false, snaps := [], latch := none, histOut := false, pixValid := 0,
    pixSat := 0, slotUse := [0, 0, 0, 0], slotLow := [0, 0, 0, 0], gen := 0 }

def EclPos.reset : EclPos :=
  { kind := 0, requested := false, due := false, dueSince := 0, granted := false, params := none, f0Start := none,
    period := 0, heldK := 0, f0Set := [], windowEnd := none, closeStart := none, openStart := none, closedAt := none,
    openAt := none, accGood := 0, accTaken := 0, subtSum := 0, tshSum := 0, tshN := 0, cleanFrames := 0,
    updateDone := false, openingDone := false, retryAt := none, result := 0,
    flag := false, heldFlag := false, mandatory := false, part := 0, shutFault := false, overdue := false,
    overdueSent := false, targetFallback := false, coveredTill := 0, prevTacc := none, tAcc := 0, driftState := 0, fitRows := [],
    gap := false, cap := [], accIn := 0, frameSubt := 0, lastCtx := none, updating := false, wrote := false }

def ShutterSt.reset : ShutterSt :=
  { queue := [], running := none, lastEnd := none, closedPin := Quad.all none, openPin := Quad.all none,
    outA := Quad.all false, outB := Quad.all false }

def Encoder.reset : Encoder :=
  { a := false, b := false, zArmed := true, zSeen := false, reverse := false, err := false, lastCount := 0,
    errNotifyAt := none }

def Generator.reset : Generator := { nextUp := 0, nextDn := 0, edges := 0, lastT := none, seq := 0, nextTimer := 0 }

def Channel.reset : Channel := { lastS := none, lastSeq := none }

def TrigPos.reset : TrigPos :=
  { queue := [], held := none, heldAt := none, marks := [], lastStart := none, dropNext := false }

def TrigOut.reset : TrigOut := { high := false, endAt := 0, pend := [] }

def OutPort.reset : OutPort :=
  { link := false, blockLock := false, fecLock := false, pausedUntil := none, pauseStart := 0, pauseNotified := false,
    sending := none, mac := 0, fifo := [], arp := [], icmpAt := 0, icmpN := 0, seq := [], waiting := [] }

def TapSt.reset : TapSt := { rows := [], lastDropped := false }

def MemSt.reset : MemSt :=
  { dram := [], online := false, selfRefresh := false, trained := false, retrained := false, offlineAccess := false,
    refreshAt := 0 }

def HostSt.reset : HostSt :=
  { perstN := false, link := false, d3hot := false, busMaster := false, msixEn := false, fnMask := false,
    vecMask := 0xFFFFFFFF, vecPend := 0, enabled := true, msixTable := List.replicate 96 0, subsys := 0x1D9B4816,
    bars := [0, 0, 0, 0], devCtl := 0x2810, latch := none, session := none, challenge := none, rrHi := 0, rrLo := 0, bw := [] }

def DmaCh.reset : DmaCh :=
  { head := 0, tail := 0, pending := 0, overrun := false, bytes := 0, lastResult := 0, cur := none, stopReq := 0 }

def Ring.reset : Ring := { slots := [], size := 0, count := 0 }

def SlaveSt.reset : SlaveSt :=
  { ovr0 := false, frame0 := false, cmd0 := false, ovr1 := false, frame1 := false, cmd1 := false, sticky0 := 0,
    sticky1 := 0, mbxIndex := 0, mbxSub := 0, mbxState := 0, mbxDtype := 0, mbxAbort := 0, mbxData := 0,
    mbxDone := false, mbxCmd := 0, upOffset := 0, upSlot := 0, upState := 0, upResult := 0, upData := [], upCmd := 0,
    upErased := false }

def SerialSt.reset : SerialSt :=
  { slave := SlaveSt.reset, slvHigh := true, slvSince := 0, busReq := none, owned := false, handoverTo := false, role := 0,
    xip0 := none, xip1 := none, cont := none, rawCount := 0, rawWait := none, fetches := [], suspendAt := none,
    octal := ⟨true, false, false, false⟩, contOk := ⟨true, false, false, false⟩, suspend := ⟨true, false, false, false⟩,
    lanes := Quad.all 3, page := Quad.all 256 }

def HkConv.reset : HkConv :=
  { settled := false, refSince := 0, busy := false, todo := [], avg := 0, ref := 0, calDue := false, sampled := none, first := true,
    ignored := false, overrun := false, idleSince := none, calFault := false }

def HkSt.reset : HkSt :=
  { conv := Quad.all HkConv.reset, spare := 4, retired := [], turn := 0, calibrating := none, sliceCal := [0, 0, 0, 0, 0],
    lastTurn := 0 }

def ThermSt.reset : ThermSt :=
  { active := false, offset := List.replicate 31 0, suspect := List.replicate 32 0, quiet := List.replicate 32 0,
    nWarn := 0, nThrottle := 0, nQuench := 0, nFall := 0, hot := 0, slotSteps := 0, halved := false, graceEnd := none,
    request := false, undoAt := none, quench := false, tripped := false, inSlots := Quad.all 0, inHalf := Quad.all false, drops := [],
    inDrop := Quad.all 0, govDrop := Quad.all 0,
    trims := List.replicate 8 0 }

def PowerSt.reset : PowerSt :=
  { vin := 0, swOpen := true, ovp := false, under := false, armed := false, failing := false, blocked := false, okSince := none,
    charged := false, ready := false, missing := false, railsHeld := false, lastRamp := none, want := [], ramping := [],
    discharging := [], faultOn := [],
    bad := List.replicate 80 0, fpaOff := Quad.all false, overload := false, window := [] }

def SecSt.reset : SecSt :=
  { fuseOpen := (false, false), fuseSealed := (false, false), fuseReturn := (false, false),
    fwHash := List.replicate 48 0#8, vendorHash := List.replicate 48 0#8, drawn := 0, rngOk := true, zeroise := false,
    arbRepaired := false, failsA := 0, failsB := 0, failsH := 0, lockA := none, lockB := none, lockH := none }

def DbgSt.reset : DbgSt :=
  { token := 0, vendor := false, setGrade := 0, force := false, halted := false, held := [], verifying := none,
    ir := 0x02, boundary := [] }

/-- The machine at power-on reset, before VIN has risen: every object at its default (00 R14), every engine idle, every
memory as it was made (log 13). -/
def State.reset : State :=
  { pending := [], out := [], od := [], doms := [], time := TimeSt.reset, boot := BootSt.reset, modes := ModeSt.reset,
    ops := OpsSt.reset, chain := ChainSt.reset, bar0 := Bar0St.reset, nv := NvSt.reset,
    lanes := List.replicate 8 Lane.reset, aligned := Quad.all false, intake := Quad.all IntakePos.reset, link := LinkSt.reset,
    fpa := Quad.all FpaSt.reset, sp0 := Quad.all Sp0Sel.reset, pipe := Quad.all PipePos.reset,
    coef := Quad.all CoefPos.reset, gen := Quad.all GenPos.reset, vdet := Quad.all VdetPos.reset,
    stat := Quad.all StatPos.reset, ecl := Quad.all EclPos.reset, shut := ShutterSt.reset, windows := [],
    enc0 := Encoder.reset, enc1 := Encoder.reset, tg := Quad.all Generator.reset, chan := List.replicate 8 Channel.reset,
    trig := Quad.all TrigPos.reset, trigOut := Quad.all TrigOut.reset, out0 := OutPort.reset, out1 := OutPort.reset,
    taps := List.replicate 8 TapSt.reset, mem := MemSt.reset, host := HostSt.reset, dma := List.replicate 16 DmaCh.reset,
    rings := List.replicate 10 Ring.reset, ingots := 0, serial := SerialSt.reset, hk := HkSt.reset, therm := ThermSt.reset,
    pwr := PowerSt.reset, sec := SecSt.reset, dbg := DbgSt.reset, free := 0 }

end Sys2Proof.Machine
end

