-- ==== Sys2Proof/Machine/Ops.lean ====
section
/-!
DEFINITION. The named operations over the state that every family uses: time, objects, counters, what leaves the module,
the keep array with its two-slot records, the event log, MSI-X, originated telegrams and NOTIFY, access levels and the
frame every command written as an object shares.
-/
namespace Sys2Proof.Machine

/-! ### Time -/

/-- Chain time runs on to `t`, and the module's own time with it; time never runs back on its own (08 R284). -/
def State.advance (s : State) (t : Nat) : State :=
  let n := max s.time.now t
  { s with time := { s.time with now := n, mono := s.time.mono + (n - s.time.now) } }

/-- What a meaning answers. -/
abbrev Ans : Type := Host.Outcome State Fault Refusal

/-! ### Objects -/

/-- The stored value of a scalar object. -/
def State.oi (s : State) (k : Nat) : Int := Store.get Obj.dflt s.od k

/-- The stored value of an unsigned object. -/
def State.o (s : State) (k : Nat) : Nat := (s.oi k).toNat

/-- A flag object, or a Bool. -/
def State.ob (s : State) (k : Nat) : Bool := s.o k != 0

/-- Write the stored value of an object. -/
def State.setO (s : State) (k : Nat) (v : Int) : State := { s with od := Store.set Obj.dflt s.od k v }

/-- Several objects written, in order. -/
def State.setOs (s : State) (l : List (Nat × Int)) : State := l.foldl (fun s c => s.setO c.1 c.2) s

/-- A counter after one more event: it saturates at 0xFFFF_FFFF (10 R383 and its sisters). -/
def State.inc (s : State) (k : Nat) : State := s.setO k (clampI 0 0xFFFFFFFF (s.oi k + 1))

/-- A counter after `n` more events. -/
def State.incBy (s : State) (k n : Nat) : State := s.setO k (clampI 0 0xFFFFFFFF (s.oi k + n))

/-- A count that wraps modulo 2^32. -/
def State.incWrap (s : State) (k : Nat) : State := s.setO k ((s.oi k + 1) % 2 ^ 32)

/-- A STR or DOM object. -/
def State.dom (s : State) (k : Nat) : List Byte := ((s.doms.find? (fun c => c.1 == k)).map (·.2)).getD []

/-- Write a STR or DOM object. -/
def State.setDom (s : State) (k : Nat) (v : List Byte) : State :=
  { s with doms := (k, v) :: s.doms.filter (fun c => c.1 != k) }

/-- Objects of the index range back at their defaults. -/
def State.clearIdx (s : State) (i0 i1 : Nat) : State :=
  { s with od := Store.dropRange s.od (i0 * 256) ((i1 + 1) * 256) }

/-- Something leaves the module. -/
def State.emit (s : State) (e : Emit) : State := { s with out := e :: s.out }

/-! ### Mode and position questions -/

/-- 02 Table 02-10: the codes of MODE. -/
abbrev Mode.standby : Nat := 0
abbrev Mode.prepare : Nat := 1
abbrev Mode.run : Nat := 2
abbrev Mode.eclipse : Nat := 3
abbrev Mode.service : Nat := 4
abbrev Mode.safe : Nat := 5

def State.mode (s : State) : Nat := s.o Obj.MODE

/-- The modes that image: PREPARE, RUN, ECLIPSE and SERVICE. -/
def State.imaging (s : State) : Bool := s.mode == 1 || s.mode == 2 || s.mode == 3 || s.mode == 4

/-- Steward firmware processes telegrams and serves objects (02 R46, Table 02-1). -/
def State.fwUp (s : State) : Bool := s.boot.phase == .firmware || s.boot.phase == .running

/-- The steward serves requests: firmware runs and is not halted (18 R571). -/
def State.serving (s : State) : Bool := s.fwUp && !s.dbg.halted

/-- A setting marked Mode, as in force since the last entry (02 R603, 11 R389). -/
def State.inForce (s : State) (k : Nat) : Int := Store.get Obj.dflt s.modes.inForce k

/-- 03 POS_ENABLE as in force: the position is enabled. -/
def State.enabled (s : State) (p : Pos) : Bool := bitAt (s.inForce Obj.POS_ENABLE).toNat p.val

/-- The governing value of an RWG object at a position (07 R260). -/
def State.gov (s : State) (p : Pos) (k : Nat) : Int := Store.get Obj.dflt (s.gen.get p).gov k

/-- The active value of an RWG object at a position. -/
def State.act (s : State) (p : Pos) (k : Nat) : Int := Store.get Obj.dflt (s.gen.get p).act k

/-- The pending value of an RWG object at a position. -/
def State.pendv (s : State) (p : Pos) (k : Nat) : Int := Store.get Obj.dflt (s.gen.get p).pend k

/-! ### Abort codes (11 Table 11-5) -/

abbrev Abort.noObject : Nat := 0xE0010000
abbrev Abort.noSubindex : Nat := 0xE0010001
abbrev Abort.readOnly : Nat := 0xE0020000
abbrev Abort.writeOnly : Nat := 0xE0020001
abbrev Abort.access : Nat := 0xE0030000
abbrev Abort.type : Nat := 0xE0040000
abbrev Abort.offset : Nat := 0xE0040001
abbrev Abort.segment : Nat := 0xE0040002
abbrev Abort.expert : Nat := 0xE0050000
abbrev Abort.state : Nat := 0xE0060000
abbrev Abort.busy : Nat := 0xE0060001
abbrev Abort.range : Nat := 0xE0070000
abbrev Abort.param : Nat := 0xE0070001
abbrev Abort.nv : Nat := 0xE0080000
abbrev Abort.internal : Nat := 0xE0FF0000

/-- What a checked operation answers: an abort code, or the next state. -/
abbrev Res := Except Nat State

/-- The first failing check refuses; otherwise the effect. -/
def Res.check (bad : Bool) (code : Nat) (r : Res) : Res := if bad then .error code else r

/-! ### The keep array (13 R440 to R447) -/

/-- Addresses of the two-slot records: counters of 13 Table 13-2, the anti-rollback counter, the lease record. -/
def Keep.counter (k : Nat) : Nat := 0x15000 + 32 * k
abbrev Keep.arb : Nat := 0x60100
abbrev Keep.lease : Nat := 0x60140
abbrev Keep.station : Nat := 0x60160
abbrev Keep.slot : Nat := 0x60161
abbrev Keep.bp : Nat := 0x60162
abbrev Keep.log : Nat := 0x10000
abbrev Keep.journal : Nat := 0x14000
def Keep.lastEclipse (p : Nat) : Nat := 0x16000 + 64 * p
def Keep.key (k : Nat) : Nat := 0x61000 + 64 * k
abbrev Keep.archiveKey : Nat := 0x61200
abbrev Keep.tokenKey : Nat := 0x61240
abbrev Keep.nonce : Nat := 0x61280

/-- The address is that of a two-slot record's first slot. -/
def Keep.twoSlot (a : Nat) : Bool :=
  (0x15000 ≤ a && a < 0x15160) || (0x60100 ≤ a && a < 0x60120) || (0x60140 ≤ a && a < 0x60160)

/-- The objects marked as kept in the keep array outside the protected quarter, 8 bytes each from 0x1_7000 in this
order (log 15: the spec gives no layout of that area). -/
def Keep.objects : List Nat :=
  [Obj.CHAIN_ETHERTYPE, Obj.CHAIN_IF 0, Obj.CHAIN_IF 1, Obj.HP_SUBSYS_ID, Obj.SP1_ROLE, Obj.SEC_ARB_AUTO]

/-- The vendor key record of slot 6 as made (18 Table 18-3): SET, level L3, a key of zeros, its KCV and CRC.  The key
is DESIGN CHOICE (log 16). -/
def Keep.vendorRecord : List Byte :=
  [1#8, 3#8, 0#8, 0#8] ++ List.replicate 32 0#8 ++ [0x95#8, 0x64#8, 0x02#8, 0xD5#8] ++ List.replicate 20 0#8 ++
    leBytes 4 0x8652409B

/-- 13 Table 13-1, identity mirror: 8 bytes each of ID_DEVICE, ID_VENDOR and ID_PRODUCT (their first 8 characters), ID_STEPPING and
ID_ROM_VERSION, zero behind them: DESIGN CHOICE (log 17: the spec names no layout of the 256 bytes). -/
def Keep.identity (o : Nat) : Byte :=
  (leBytes 8 Config.deviceId ++ slice (asciiBytes "VUGIPOR") 0 8 ++ slice (asciiBytes "KT4816-X1716") 0 8 ++
    leBytes 8 Config.stepping ++ leBytes 8 Config.romVersion).getD o 0#8

/-- What the keep array holds as made: the identity mirror, two-slot records by 13 R447 (slot 0 valid with VALUE 0 and GEN 0, so the
CRC of twelve zero bytes; slot 1 zeroed), CHAIN_STATION 127, BP 1, slot A active, the kept objects at their defaults, the vendor
key; zero elsewhere (log 17). -/
def keepDflt (a : Nat) : Byte :=
  if Keep.twoSlot a && a % 32 / 4 == 3 then byteOf (0x7BD5C66F / 256 ^ (a % 4))
  else if 0x60000 ≤ a ∧ a < 0x60100 then Keep.identity (a - 0x60000)
  else if a = Keep.station then 127#8
  else if a = Keep.bp then 1#8
  else if 0x17000 ≤ a ∧ a < 0x17000 + 8 * 6 then
    byteOf ((Obj.dflt (Keep.objects.getD ((a - 0x17000) / 8) 0)).toNat / 256 ^ (a % 8))
  else if 0x61180 ≤ a ∧ a < 0x611C0 then Keep.vendorRecord.getD (a - 0x61180) 0#8
  else 0#8

/-- Bytes of the keep array. -/
def State.keep (s : State) (a n : Nat) : List Byte := Store.read keepDflt s.nv.keep a n

/-- 13 R441: a byte of the range lies in a page of the keep array whose writes fail. -/
def State.wornAt (s : State) (a n : Nat) : Bool := s.nv.worn.any (fun q => decide (a < 256 * q + 256 ∧ 256 * q < a + n))

/-- 13 R441: how a write of the range is read back: right, so that none of its pages fails, or wrong with its retry, so that its
first page fails its writes until one is read back right (log 9). -/
def State.pageIs (s : State) (a n : Nat) (good : Bool) : State :=
  let rest := s.nv.worn.filter (fun q => !decide (a < 256 * q + 256 ∧ 256 * q < a + n))
  { s with nv := { s.nv with worn := if good then rest else a / 256 :: rest } }

/-- 13 R441: the bytes after a write of the keep array: those of a page whose writes fail are what the failed write left, free
values (log 9). -/
def State.writtenKeep (s : State) (a : Nat) (bs : List Byte) : List Byte :=
  bs.zipIdx.map (fun x => if s.wornAt (a + x.2) 1 then Config.deviceByte s.free x.2 else x.1)

/-- A sanctioned write of one item: through the guarded path, so never dropped (13 R442); a write that fails sets NV_FAULT (R441). -/
def State.putKeep (s : State) (a : Nat) (bs : List Byte) : State :=
  let bad := s.wornAt a bs.length
  { s with
    free := if bad then s.free + 1 else s.free,
    nv := { s.nv with
      nvFault := bad || s.nv.nvFault, keep := Store.write keepDflt s.nv.keep a (if bad then s.writtenKeep a bs else bs) } }

/-- A slot of a two-slot record is valid when its CRC matches (13 R444). -/
def slotOk (b : List Byte) : Bool := leAt b 12 4 == crc32 (slice b 0 12)

/-- 13 R445: the slot a read uses: value, GEN and slot number; none when neither is valid. -/
def twoSlotPick (b : List Byte) : Option (Nat × Nat × Nat) :=
  let b0 := slice b 0 16
  let b1 := slice b 16 16
  let r0 := (leAt b0 0 8, leAt b0 8 4, 0)
  let r1 := (leAt b1 0 8, leAt b1 8 4, 1)
  match slotOk b0, slotOk b1 with
  | true, true => if precedes 32 r0.2.1 r1.2.1 then some r1 else some r0
  | true, false => some r0
  | false, true => some r1
  | false, false => none

/-- The value of a two-slot record; 0 when no slot is valid. -/
def State.twoSlot (s : State) (a : Nat) : Nat := ((twoSlotPick (s.keep a 32)).map (·.1)).getD 0

/-! ### MSI-X (12 R424) -/

/-- A vector is raised: the message is sent, or merged into the pending bit. -/
def State.raise (s : State) (v : Nat) : State :=
  if !s.host.msixEn || !s.host.link then s
  else if s.host.fnMask || bitAt s.host.vecMask v || s.host.d3hot then
    { s with host := { s.host with vecPend := withBit s.host.vecPend v true } }
  else s.emit (.msix v)

/-! ### The event log (13 R466) -/

/-- `DEV_UPTIME`: ns since the release of internal reset (11 Table 11-6). -/
def State.uptime (s : State) : Nat := s.time.mono - s.time.bootMono

/-- Fields as (bytes, value), most significant byte first. -/
def fieldsBE (fs : List (Nat × Nat)) : List Byte := (fs.map (fun f => beBytes f.1 f.2)).flatten

/-- Fields as (bytes, value), least significant byte first. -/
def fieldsLE (fs : List (Nat × Nat)) : List Byte := (fs.map (fun f => leBytes f.1 f.2)).flatten

/-- A record write that waits: key, flags, payload and what it serves (13 R454). -/
def RecJob.make (key flags : Nat) (payload : List Byte) (purpose oldSeq count : Nat) : RecJob :=
  { key := key, flags := flags, payload := payload, seq := 0, stamp := 0, phase := 0, pos := 0, priAt := 0, secAt := 0,
    purpose := purpose, oldSeq := oldSeq, count := count }

/-- A flush of the log: the unflushed entries wait to be written as one segment record, where the store can take one
(13 R466). -/
def State.flushLog (s : State) : State :=
  let n := s.nv.logNext - s.nv.logFlushed
  let waits := s.nv.queue.any (fun j => j.purpose == 2) || (s.nv.job.map (·.purpose)) == some 2
  if n = 0 ∨ s.mode = Mode.safe ∨ s.nv.closed ∨ s.nv.journal.isNone ∨ waits then s
  else
    let bytes := ((List.range (min n 256)).map
      (fun i => s.keep (Keep.log + 64 * ((s.nv.logFlushed + i) % 256)) 64)).flatten
    { s with nv := { s.nv with queue := s.nv.queue ++ [RecJob.make s.nv.logSeg 0 bytes 2 s.nv.logFlushed (min n 256)] } }

/-- The oldest unflushed entry gives way when the buffer of 256 is full (13 R466). -/
def State.logRoom (s : State) : State :=
  if s.nv.logNext - s.nv.logFlushed < 256 then s
  else ({ s with nv := { s.nv with logFlushed := s.nv.logFlushed + 1 } } : State).inc Obj.NV_CNT_LOG_LOST

/-- The bytes of an entry without its CRC (13 Table 13-6). -/
def State.logBytes (s : State) (code pos source detail : Nat) (data : List Byte) : List Byte :=
  leBytes 4 s.nv.logNext ++ leBytes 8 s.time.now ++ leBytes 8 s.uptime ++ leBytes 2 code ++
    [byteOf pos, byteOf source] ++ leBytes 4 detail ++ slice data 0 32

/-- The entry is stored and LSEQ counts on. -/
def State.logStore (s : State) (b : List Byte) : State :=
  (({ s with nv := { s.nv with logNext := s.nv.logNext + 1 } } : State).putKeep
    (Keep.log + 64 * (s.nv.logNext % 256)) (b ++ leBytes 4 (crc32 b))).setO Obj.LOG_NEWEST ((s.nv.logNext % 2 ^ 32 : Nat) : Int)

/-- At 128 unflushed entries a flush starts (13 R466). -/
def State.logLimit (s : State) : State := if 128 ≤ s.nv.logNext - s.nv.logFlushed then s.flushLog else s

/-- One entry of 13 Table 13-6 is written into the keep-array buffer; at 128 unflushed entries a flush starts. -/
def State.logAdd (s : State) (code pos source detail : Nat) (data : List Byte) : State :=
  ((s.logRoom).logStore (s.logRoom.logBytes code pos source detail data)).logLimit

/-- An entry that no cause of SAFE makes: none while storage is closed (13 R467). -/
def State.logRaw (s : State) (code pos source detail : Nat) (data : List Byte) : State :=
  if s.nv.closed then s else s.logAdd code pos source detail data

/-- An event with a code of the spec, from the module. -/
def State.log (s : State) (code pos : Nat) (fs : List (Nat × Nat)) : State := s.logRaw code pos 0 0 (fieldsLE fs)

/-- Kinds of logged events that no table numbers (log 14). -/
inductive Evt where
  | startupSet | nvFail | barDrop | bar2Drop | idMismatch | sensorExcluded | holdupMissing | domainFault
  | calFault | objectWrite | sectorRetired | tempWord | internal | wordRefused | aiChange | dqsFallback
deriving DecidableEq, Repr

/-- The model's own name of the kind, for the free code. -/
def Evt.num : Evt → Nat
  | .startupSet => 0 | .nvFail => 1 | .barDrop => 2 | .bar2Drop => 3 | .idMismatch => 4 | .sensorExcluded => 5
  | .holdupMissing => 6 | .domainFault => 7 | .calFault => 8 | .objectWrite => 9 | .sectorRetired => 10
  | .tempWord => 11 | .internal => 12 | .wordRefused => 13 | .aiChange => 14 | .dqsFallback => 15

/-- An event the spec logs without numbering it: its code is a free value (log 14). -/
def State.logEvt (s : State) (e : Evt) (pos detail : Nat) (fs : List (Nat × Nat)) : State :=
  s.logRaw (Config.eventCode e.num) pos 0 detail (fieldsLE fs)

/-- A failed storage write: NV_FAULT in DEV_STATUS, and logged (13 R441). -/
def State.nvFailed (s : State) (a : Nat) : State :=
  ({ s with nv := { s.nv with nvFault := true } } : State).logEvt .nvFail 0xFF 0 [(4, a)]

/-- A write of an item; one that fails is logged too (13 R441). -/
def State.setKeep (s : State) (a : Nat) (bs : List Byte) : State :=
  if s.wornAt a bs.length then (s.putKeep a bs).nvFailed a else s.putKeep a bs

/-- 13 R446: the slot not used takes the new value, with the next GEN. -/
def State.setTwoSlot (s : State) (a v : Nat) : State :=
  let (gen, slot) :=
    match twoSlotPick (s.keep a 32) with
    | some (_, g, n) => ((g + 1) % 2 ^ 32, 1 - n)
    | none => (1, 0)
  let b := leBytes 8 v ++ leBytes 4 gen
  s.setKeep (a + 16 * slot) (b ++ leBytes 4 (crc32 b))

/-- 13 R445: a two-slot record that a read finds without a valid slot sets COUNTER_FAULT, is counted and logged. -/
def State.slotsBad (s : State) (a : Nat) : State :=
  (({ s with nv := { s.nv with counterFault := true } } : State).inc Obj.NV_CNT_COUNTER_SLOT).log 0x0095 0xFF [(4, a)]

/-- 13 R445, R446: a two-slot record is read and takes a new value. -/
def State.updTwoSlot (s : State) (a v : Nat) : State :=
  (if (twoSlotPick (s.keep a 32)).isNone then s.slotsBad a else s).setTwoSlot a v

/-- A two-slot counter one higher (13 R446), mirrored in its object; nothing while storage is closed (13 R467). -/
def State.bumpCounter (s : State) (k obj : Nat) : State :=
  if s.nv.closed then s
  else
    let v := s.twoSlot (Keep.counter k) + 1
    (s.updTwoSlot (Keep.counter k) v).setO obj v

/-! ### Originated telegrams (10 R352, R354, R355) -/

def State.port (s : State) (b : Bool) : ChainPort := if b then s.chain.portB else s.chain.portA

def State.setPort (s : State) (b : Bool) (c : ChainPort) : State :=
  { s with chain := if b then { s.chain with portB := c } else { s.chain with portA := c } }

/-- A telegram from the EtherType on, padded to the Ethernet minimum (10 R355, Table 10-1). -/
def State.telegram (s : State) (type flags dst seq session : Nat) (payload : List Byte) : List Byte :=
  beBytes 2 s.chain.etherInForce ++
    [0x10#8, byteOf type, byteOf flags, 0#8, byteOf dst, byteOf (s.o Obj.CHAIN_STATION), byteOf (s.o Obj.CHAIN_POSITION), 0#8] ++
    beBytes 2 seq ++ beBytes 2 payload.length ++ beBytes 4 session ++ payload ++
    List.replicate (30 - payload.length) 0#8

/-- A telegram joins the queue of originated telegrams of a port. -/
def State.originate (s : State) (b : Bool) (type : Nat) (tele : List Byte) : State :=
  s.setPort b { s.port b with queue := (s.port b).queue ++ [(type, tele)] }

/-- 10 R354: NOTIFY and spontaneous MODE_REPORT leave on the upstream port, or on the other while its link is down. -/
def State.spontaneousPort (s : State) : Bool :=
  if (s.port s.chain.upstreamB).link then s.chain.upstreamB
  else if (s.port (!s.chain.upstreamB)).link then !s.chain.upstreamB else s.chain.upstreamB

/-- 10 R357: a reply leaves on the port its request arrived on. -/
def State.reply (s : State) (r : Req) (type : Nat) (payload : List Byte) : State :=
  s.originate r.portB type (s.telegram type 0x80 0 r.seq r.session payload)

/-- 10 R357: a refusal carries the abort code alone. -/
def State.replyErr (s : State) (r : Req) (type code : Nat) : State :=
  s.originate r.portB type (s.telegram type 0xC0 0 r.seq r.session (beBytes 4 code))

/-- A new second of the NOTIFY limit begins (10 R381). -/
def State.notifyWindow (s : State) : State :=
  if 1000000000 ≤ s.time.mono - s.chain.notifyAt
  then { s with chain := { s.chain with notifyAt := s.time.mono, notifySent := 0 } } else s

/-- The payload of a NOTIFY (10 Table 10-5). -/
def State.notifyBytes (s : State) (code pos : Nat) (fs : List (Nat × Nat)) : List Byte :=
  beBytes 2 code ++ beBytes 2 (s.o Obj.NOTIFY_SEQ) ++ [byteOf pos, 0#8, 0#8, 0#8] ++ beBytes 8 s.time.now ++
    slice (fieldsBE fs) 0 16

/-- A NOTIFY is sent, unless the mask or the limit of 100 per second suppresses it (10 R381). -/
def State.notifySend (s : State) (code pos : Nat) (fs : List (Nat × Nat)) : State :=
  if !bitAt (s.o Obj.NOTIFY_MASK) (code / 16) || 100 ≤ s.chain.notifySent then s.inc Obj.NOTIFY_CNT_DROPPED
  else
    ({ s with chain := { s.chain with notifySent := s.chain.notifySent + 1 } } : State).originate s.spontaneousPort 0x40
      (s.telegram 0x40 0 0 0 0 (s.notifyBytes code pos fs))

/-- What follows the entry of a NOTIFY in the log: its vector raised, NSEQ one higher, and sent or suppressed. -/
def State.notifyRest (s : State) (code pos : Nat) (fs : List (Nat × Nat)) : State :=
  (((s.raise 2).setO Obj.NOTIFY_SEQ ((s.oi Obj.NOTIFY_SEQ + 1) % 65536)).notifyWindow).notifySend code pos fs

/-- 10 R381: one NOTIFY, logged first.  Before steward firmware starts nothing is sent (10 R350). -/
def State.notify (s : State) (code pos : Nat) (fs : List (Nat × Nat)) : State :=
  if !s.fwUp then s else (s.log code pos fs).notifyRest code pos fs

/-- 13 R467, 17 R542: a NOTIFY of a cause of SAFE, whose entry is logged also while storage is closed. -/
def State.notifyCause (s : State) (code pos : Nat) (fs : List (Nat × Nat)) : State :=
  if !s.fwUp then s else (s.logAdd code pos 0 0 (fieldsLE fs)).notifyRest code pos fs

/-- 10 R354: the telegram is a NOTIFY or a MODE_REPORT, by its type. -/
def spontaneous (x : Nat × List Byte) : Bool := x.1 == 0x40 || x.1 == 0x11

/-- A telegram as it leaves a port (10 R355). -/
def State.sendFrom (s : State) (b : Bool) (tele : List Byte) : State :=
  s.emit (.chain (b2n b) (List.replicate 6 0xFF#8 ++ beBytes 6 (s.o (Obj.CHAIN_MAC (b2n b))) ++ tele) true)

/-- 18 Table 18-3 and R556: a state counts as reached when either bit of its pair is burned. -/
def State.lifecycle (s : State) : Nat :=
  if s.sec.fuseReturn.1 || s.sec.fuseReturn.2 then 3
  else if s.sec.fuseSealed.1 || s.sec.fuseSealed.2 then 2
  else if s.sec.fuseOpen.1 || s.sec.fuseOpen.2 then 1 else 0

/-- 18 R574: EXTEST is loaded and permitted: the balls follow the boundary register.  Not permitted any more, it behaves as BYPASS (R570). -/
def State.extest (s : State) : Bool := s.dbg.ir == 0 && s.lifecycle != 2 && (s.mode == 0 || s.mode == 5)

/-- The oldest originated telegram of a port leaves it while its link is up; while it is down, the oldest NOTIFY or MODE_REPORT
of its queue leaves on the other port (10 R352, R354, R382). -/
def State.sendQueued (s : State) (b : Bool) : State :=
  if s.extest then s
  else if (s.port b).link then
    match (s.port b).queue with
    | [] => s
    | x :: rest => (s.setPort b { s.port b with queue := rest }).sendFrom b x.2
  else
    match (s.port (!b)).link, (s.port b).queue.find? spontaneous with
    | true, some x => (s.setPort b { s.port b with queue := (s.port b).queue.eraseP spontaneous }).sendFrom (!b) x.2
    | _, _ => s

/-! ### Sessions and levels (10 R362, 11 R387, 18 Table 18-1) -/

/-- In BLANK every access executes at L2 (18 Table 18-1). -/
def State.baseLevel (s : State) : Nat := if s.lifecycle = 0 then 2 else 0

/-- The idle time that ends a session: ten minutes, in ns (18 R566). -/
abbrev sessionIdle : Nat := 600000000000

/-- 18 R566: a session last used at an instant of module time has not expired. -/
def State.unexpired (s : State) (lastUse : Nat) : Bool := decide (s.time.mono < lastUse + sessionIdle)

/-- 10 R362: the chain sessions that are open and have not expired. -/
def State.liveSessions (s : State) : List Session := s.chain.sessions.filter (fun x => s.unexpired x.lastUse)

/-- 10 R362: the open session of an ID that has not expired; ID 0 names none. -/
def State.chainSession (s : State) (id : Nat) : Option Session :=
  if id = 0 then none else s.liveSessions.find? (fun x => x.id == id)

/-- 18 R566, R568: the host-port session, while it has not expired: its level, its slot, and the time of its last activity. -/
def State.hostSession (s : State) : Option (Nat × Nat × Nat) := s.host.session.filter (fun x => s.unexpired x.2.2)

/-- The level of the session on a path; 0 without one. -/
def State.sessionLevel (s : State) : Via → Nat
  | .host => ((s.hostSession).map (·.1)).getD 0
  | .chain id => ((s.chainSession id).map (·.level)).getD 0
  | .mailbox => 0
  | .module => 2

/-- The level an access executes at. -/
def State.level (s : State) (v : Via) : Nat := max s.baseLevel (s.sessionLevel v)

/-- Activity of a session (10 R362, 18 R566): idle expiry starts anew, and the session is the most recently used. -/
def State.touch (s : State) : Via → State
  | .host =>
    match s.hostSession with
    | some (l, k, _) => { s with host := { s.host with session := some (l, k, s.time.mono) } }
    | none => s
  | .chain id =>
    match s.chainSession id with
    | some x =>
      { s with chain := { s.chain with
          sessions := { x with lastUse := s.time.mono } :: s.chain.sessions.filter (fun y => y.id != id) } }
    | none => s
  | _ => s

/-- The source number of a path in logs and mode records: 0 module, 1 chain, 2 local host. -/
def viaSource : Via → Nat
  | .host => 2
  | .chain _ => 1
  | .mailbox => 0
  | .module => 0

/-! ### Expert control (11 R391 to R394) -/

/-- Bit of EXPERT_STATUS of a function code. -/
def expertBit (f : Nat) : Option Nat :=
  if 0x20 ≤ f ∧ f ≤ 0x2A then some (f - 0x20) else if 0x30 ≤ f ∧ f ≤ 0x36 then some (f - 0x20) else none

/-- The key is that of an expert object. -/
def isExpertKey (k : Nat) : Bool := 0x80 ≤ k / 256 % 256 && (expertBit (k / 65536)).isSome

/-- The function of the key is under expert control. -/
def State.expertOn (s : State) (k : Nat) : Bool :=
  match expertBit (k / 65536) with
  | some b => bitAt (s.o Obj.EXPERT_STATUS) b
  | none => false

/-- An accepted write or command to an expert object puts its function under expert control. -/
def State.markExpert (s : State) (k : Nat) : State :=
  match isExpertKey k, expertBit (k / 65536) with
  | true, some b => s.setO Obj.EXPERT_STATUS (withBit (s.o Obj.EXPERT_STATUS) b true)
  | _, _ => s

/-! ### Commands that are objects -/

/-- A refusal as its path shows it: BAR0 in OD_LAST_ABORT with vector 0 (11 R403, R405), the chain and the mailbox in
what is returned. -/
def State.refuse (s : State) (via : Via) (key code : Nat) : State :=
  match via with
  | .host => ((s.setO Obj.OD_LAST_ABORT code).setO Obj.OD_LAST_ABORT_ADDR key).raise 0
  | .chain _ => s.emit (.abort key code)
  | .mailbox => s.emit (.abort key code)
  | .module => s

/-- 11 R389, 13 Table 13-1: where the keep array holds an object that is marked as kept: address and bytes. -/
def keptAddr (k : Nat) : Option (Nat × Nat) :=
  if k = Obj.CHAIN_STATION then some (Keep.station, 1)
  else if k = Obj.NV_KEEP_BP then some (Keep.bp, 1)
  else (Keep.objects.findIdx? (fun x => x == k)).map (fun n => (0x17000 + 8 * n, 8))

/-- 13 Table 13-1: where the keep array holds what a write of an object puts there: first byte and length. -/
def State.keepHome (s : State) (k : Nat) : Option (Nat × Nat) :=
  match keptAddr k with
  | some x => some x
  | none =>
    if k = Obj.LEASE_EPOCH_CLEAR then some (Keep.lease, 32)
    else if k = Obj.NV_USER_DATA then some (s.o Obj.NV_USER_ADDR, 1)
    else if k = Obj.SEC_ARB_COMMIT then some (Keep.arb, 32)
    else if k = Obj.SEC_KEY_WRITE ∨ k = Obj.SEC_KEY_ERASE then some (Keep.key 0, 384)
    else if k = Obj.SEC_ARCHIVE_KEY then some (Keep.archiveKey, 64)
    else if k = Obj.SEC_TOKEN_KEY then some (Keep.tokenKey, 64)
    else none

/-- 11 Table 11-5, 13 R441: what a refusal brings beside its code: INTERNAL is logged; a write that the keep array failed sets
NV_FAULT and is logged.  The bytes keep their old values (11 R388, R389). -/
def State.failNoted (s : State) (key code : Nat) : State :=
  if code = Abort.internal then s.logEvt .internal 0xFF 0 [(4, key)]
  else if code = Abort.nv ∧ s.nv.closed = false then
    match s.keepHome key with
    | some (a, n) => if s.wornAt a n then s.nvFailed a else s
    | none => s
  else s

/-- A held low word is lost to another write of BAR0, and counted (11 R398). -/
def State.dropHeld (s : State) : State :=
  if s.bar0.held.isSome then ({ s with bar0 := { s.bar0 with held := none } } : State).inc Obj.OD_CNT_BAR0_DROP else s

/-- An access reaches the steward, which serves: over BAR0 while the link is up and the function is not in D3hot (12 R423). -/
def State.onPath (s : State) (via : Via) (f : State → State) : State :=
  match via with
  | .host => if !s.host.link then s else if s.host.d3hot then s.emit .unsupported else if !s.serving then s else f s
  | _ => if !s.serving then s else f s

/-- A write on a path: the low word that another write of BAR0 left waiting is lost to one over BAR0 (11 R398). -/
def State.writeOf (s : State) : Via → State
  | .host => s.dropHeld
  | _ => s

/-- The checks every command shares (11 R388: level, then the command's own), and expert control (11 R391). -/
def State.command (s : State) (via : Via) (key lvl : Nat) (op : State → Res) : Res :=
  if s.level via < lvl then .error Abort.access
  else
    match op (s.touch via) with
    | .ok s' => .ok (s'.markExpert key)
    | .error c => .error c

/-- A command as a row of the table: at chain time `t`, while its path reaches the steward. -/
def State.runCommand (s : State) (via : Via) (key t : Nat) (r : State → Res) : State :=
  (s.advance t).onPath via (fun s =>
    let s := s.writeOf via
    match r s with
    | .ok s' => s'
    | .error c => (s.failNoted key c).refuse via key c)

end Sys2Proof.Machine
end

