-- ==== Sys2Proof/Machine/PowerOps.lean ====
section
/-!
DEFINITION. The switched domains and FPA rails as other families use them: which domains a mode powers, how a domain is
asked on and off, and the FPA supply order (02 Table 02-3, 17 R545 to R552).
-/
namespace Sys2Proof.Machine

/-- The state of a domain: 0 OFF, 1 RAMPING, 2 ON, 3 FAULT (17 Table 17-5). -/
def State.dom80 (s : State) (d : Nat) : Nat := s.o (Obj.PWR_DOM_STATE d)

def State.domOn (s : State) (d : Nat) : Bool := s.dom80 d == 2

/-- 17 Table 17-2: nominal voltage in mV; the FPA setpoints of 17 R549 are those in force. -/
def State.domNominal (s : State) (d : Nat) : Nat :=
  if d ≤ 7 then 900 else if d = 8 then 1800 else if d ≤ 45 then 750 else if d ≤ 47 then 1050
  else if d ≤ 49 then 750 else if d ≤ 51 then 900 else if d ≤ 53 then 750 else if d ≤ 55 then 900
  else if d ≤ 57 then 750 else if d = 58 then 900 else if d ≤ 60 then 750 else if d ≤ 66 then 1800
  else if d ≤ 69 then 750 else if d ≤ 73 then (s.inForce (Obj.PWR_FPA_D_MV (d - 70))).toNat
  else if d ≤ 77 then (s.inForce (Obj.PWR_FPA_A_MV (d - 74))).toNat else if d = 78 then 24000 else 1800

/-- 17 Table 17-2: current limit in mA. -/
def domLimit (d : Nat) : Nat :=
  if d ≤ 7 then 300 else if d = 8 then 100 else if d ≤ 12 then 600 else if d ≤ 20 then 1400 else if d ≤ 36 then 400
  else if d ≤ 45 then 300 else if d ≤ 47 then 3000 else if d ≤ 51 then 1000 else if d ≤ 53 then 600
  else if d ≤ 55 then 800 else if d ≤ 57 then 300 else if d = 58 then 800 else if d = 59 then 600
  else if d = 60 then 300 else if d ≤ 62 then 100 else if d ≤ 66 then 50 else if d ≤ 68 then 200
  else if d = 69 then 100 else if d ≤ 73 then 750 else if d ≤ 77 then 650 else if d = 78 then 1500 else 300

/-- 17 Table 17-2: ramp bound in ns. -/
def domBound (d : Nat) : Nat :=
  if d ≤ 7 then 200000 else if d ≤ 45 then 20000 else if d ≤ 51 then 200000 else if d ≤ 53 then 20000
  else if d ≤ 55 then 200000 else if d ≤ 57 then 20000 else if d = 58 then 200000 else if d ≤ 69 then 20000
  else if d ≤ 77 then 1000000 else if d = 78 then 5000000 else 200000

/-- 03 R75, Table 03-2: the lane group of a lane under a code of MSL_GROUPS; none when the lane is unused. -/
def laneGroup (code lane : Nat) : Option Nat :=
  match code with
  | 0 => some 0
  | 1 => some (lane / 4)
  | 2 => some (lane / 2)
  | 3 => some (if lane < 4 then 0 else lane / 2 - 1)
  | 4 => some (if lane < 4 then lane / 2 else 2)
  | _ => if lane < 4 then some lane else none

/-- 03 MSL_SOURCE: the group an enabled position is bound to. -/
def State.groupOf (s : State) (p : Pos) : Nat := fieldOf (s.inForce (Obj.MSL_SOURCE p.val)).toNat 5 4

/-- S0 is in heritage order (04 HER_ORDER, as in force since the last entry). -/
def State.heritage (s : State) : Bool := s.inForce Obj.HER_ORDER != 0

/-- 03 R76: the lane carries at least one enabled native position. -/
def State.laneUsed (s : State) (lane : Nat) : Bool :=
  match laneGroup (s.inForce Obj.MSL_GROUPS).toNat lane with
  | none => false
  | some g => allPos.any (fun p => s.enabled p && s.groupOf p == g && !(p == 0 && s.heritage))

/-- The position of a per-position domain family. -/
def posOf (n : Nat) : Pos := Fin.ofNat 4 n

/-- 02 Table 02-3: a domain belongs to the set of an imaging mode.  Demand domains follow their users. -/
def State.imagingDomain (s : State) (d : Nat) : Bool :=
  if d ≤ 7 then s.laneUsed d
  else if d = 8 then s.enabled 0 && s.heritage
  else if d ≤ 12 then s.enabled (posOf (d - 9))
  else if d ≤ 37 then true
  else if d ≤ 41 then s.enabled (posOf (d - 38))
  else if d ≤ 45 then s.enabled (posOf (d - 42))
  else if d ≤ 57 then true
  else if d ≤ 60 then s.host.enabled
  else if d = 61 then true
  else if d = 62 then false
  else if d ≤ 68 then true
  else if d = 69 then false
  else if d ≤ 73 then s.enabled (posOf (d - 70))
  else if d ≤ 77 then s.enabled (posOf (d - 74))
  else d == 78

/-- 02 Table 02-3: the domains on in STANDBY and SAFE beside demand and debug domains. -/
def State.quietDomain (s : State) (d : Nat) : Bool :=
  if d = 58 ∨ d = 59 then s.host.enabled else d == 46 || d == 47 || d == 67 || d == 68

/-- The order in which a transition switches domains on: DRAM first, then the rest rising, the FPA rails with VFPA_D of a position
ahead of its VFPA_A (02 Table 02-5, 17 R546, R550). -/
def onOrder : List Nat :=
  [46, 47, 48, 49, 50, 51] ++ List.range 46 ++ [52, 53, 54, 55, 56, 57, 58, 59, 60, 61, 62, 63, 64, 65, 66, 67, 68] ++
    [70, 74, 71, 75, 72, 76, 73, 77, 78, 79]

/-- A domain is asked on: it waits for the scheduler; one that ramps goes on, and a request to switch it off that waited for its ramp is
gone; a faulted one is released by the transition that asks it (17 R546, R548). -/
def State.wantOn (s : State) (d : Nat) : State :=
  if s.dom80 d == 1 then { s with pwr := { s.pwr with want := s.pwr.want.filter (fun w => w.1 != d) } }
  else if s.dom80 d == 2 || s.pwr.want.contains (d, true) then s
  else
    ({ s with pwr := { s.pwr with want := s.pwr.want.filter (fun w => w.1 != d) ++ [(d, true)] } } : State).setO
      (Obj.PWR_DOM_STATE d) 0

/-- The domain is off at once: nothing of it is left, and a demand converter's reference is unsettled (15 R500). -/
def State.domCut (s : State) (d : Nat) : State :=
  let s : State := { s with pwr := { s.pwr with
    want := s.pwr.want.filter (fun w => w.1 != d), ramping := s.pwr.ramping.filter (fun w => w.1 != d) } }
  let s := s.setO (Obj.PWR_DOM_STATE d) 0
  if 63 ≤ d ∧ d ≤ 66 then
    { s with hk := { s.hk with conv := s.hk.conv.upd (posOf (d - 63)) (fun c => { c with settled := false, idleSince := none }) } }
  else s

/-- A domain is off at once; one that reads FAULT goes on reading it until a transition switches it on (17 R548). -/
def State.cutOff (s : State) (d : Nat) : State := if s.dom80 d == 3 then s else s.domCut d

/-- A domain is asked off: a ramping one goes off after its ramp, a held one stays (17 R546, 18 R571). -/
def State.wantOff (s : State) (d : Nat) : State :=
  if s.dbg.held.contains d then s
  else if s.dom80 d == 1 then
    { s with pwr := { s.pwr with want := s.pwr.want.filter (fun w => w.1 != d) ++ [(d, false)] } }
  else if s.dom80 d == 3 then { s with pwr := { s.pwr with want := s.pwr.want.filter (fun w => w.1 != d) } }
  else s.domCut d

/-- 18 Table 18-8: a cause of SAFE ends halt and holds before anything is switched off. -/
def State.debugCap (s : State) : State := { s with dbg := { s.dbg with halted := false, held := [] } }

/-- A demand domain: on for an access (02 Table 02-3, Dem); a faulted one stays off (17 R548). -/
def State.demand (s : State) (d : Nat) : State := if s.dom80 d = 3 then s else s.wantOn d

/-- A rail that is on goes off and discharges, a faulted one in its turn; one that ramps goes off after its ramp (17 R546, R550,
R552). -/
def State.railCut (s : State) (d : Nat) : State :=
  if s.domOn d then
    let s := s.domCut d
    { s with pwr := { s.pwr with discharging := d :: s.pwr.discharging } }
  else if s.pwr.faultOn.contains d then
    { s with pwr := { s.pwr with faultOn := s.pwr.faultOn.filter (· != d), discharging := d :: s.pwr.discharging } }
  else { s with pwr := { s.pwr with want := s.pwr.want.filter (fun w => w.1 != d) } }

/-- 17 R550: the supplies of a position go off once VDET is at 0 V: VFPA_A, and when it has discharged VFPA_D. -/
def State.railOff (s : State) (p : Pos) : State :=
  let s := s.railCut (74 + p.val)
  if s.dom80 (74 + p.val) = 1 ∨ s.pwr.discharging.contains (74 + p.val) then
    { s with pwr := { s.pwr with want := s.pwr.want.filter (fun w => w.1 != 70 + p.val) } }
  else s.railCut (70 + p.val)

/-- 07 R256 to R258: the ns a ramp over `d` codes of 5.000 V / 16,383 takes at a slew in mV/ms. -/
def vdetRampNs (slew d : Nat) : Nat := if slew = 0 then 0 else (d * 5000000000 + 16383 * slew - 1) / (16383 * slew)

/-- The code a VDET output gives now: along a running ramp, what is left of it below or above the target (07 R256, R257). -/
def State.vdetNow (s : State) (p : Pos) : Nat :=
  let v := s.vdet.get p
  let out := s.o (Obj.INTG_VDET_OUT p.val)
  match v.rampEnd with
  | none => out
  | some e =>
    let rem := (roundDiv ((e - s.time.now) * 16383 * v.slew : Nat) 5000000000).toNat
    if out ≤ v.target then max out (v.target - rem) else min out (v.target + rem)

/-- The VDET output starts a ramp to a code (07 R257, R258). -/
def State.vdetRamp (s : State) (p : Pos) (code : Nat) : State :=
  let cur := s.vdetNow p
  let dist := if cur ≤ code then code - cur else cur - code
  let fin := if dist = 0 then none else some (s.time.now + vdetRampNs (s.o (Obj.INTG_VDET_SLEW p.val)) dist)
  ({ s with vdet := s.vdet.upd p (fun v => { v with target := code, rampEnd := fin, slew := s.o (Obj.INTG_VDET_SLEW p.val), settleAt := none }) } : State).setO
    (Obj.INTG_VDET_OUT p.val) ((cur : Nat) : Int)

end Sys2Proof.Machine
end

