-- ==== Sys2Proof/Machine/OutOps.lean ====
section
/-!
DEFINITION. Frame memory as bytes, the ingot rings with their index tables, and what discards ingots; the DMA channels'
way out of their descriptors (09 R342 to R346, 12 R407 to R437).
-/
namespace Sys2Proof.Machine

/-! ### Frame memory (12 R407, R409) -/

/-- What a byte of frame memory that nothing has written reads as (log 2): 0, in the τ-history planes an empty entry (06 R234). -/
def dramDflt (a : Nat) : Byte :=
  if a < 0x40000000 ∧ 0xA800000 ≤ a % 0x10000000 ∧ a % 0x10000000 < 0xC000000 then 0xFF#8 else 0#8

def State.dram (s : State) (a n : Nat) : List Byte := Store.read dramDflt s.mem.dram a n

def State.setDram (s : State) (a : Nat) (bs : List Byte) : State :=
  { s with mem := { s.mem with dram := Store.write dramDflt s.mem.dram a bs } }

/-- Little-endian number of `n` bytes in frame memory. -/
def State.dramN (s : State) (a n : Nat) : Nat := leNat (s.dram a n)

/-- 12 Table 12-1: start of the position region. -/
def posBase (p : Pos) : Nat := p.val * 0x10000000

/-- 12 R410: offset of a pixel's entry in a plane of entries of `size` bytes. -/
def pixOff (row col size : Nat) : Nat := (row * 2048 + col) * size

/-- Frame memory is gone: its bytes are undefined (log 2), the retain epoch counts, and no set stands (12 R414, R415). -/
def State.dramLost (s : State) : State :=
  ((({ s with mem := { s.mem with dram := [] } } : State).incWrap Obj.MEM_RETAIN_EPOCH).setOs
    ((List.range 4).map (fun p => (Obj.CORR_COEF_STATE p, Obj.dflt (Obj.CORR_COEF_STATE p)))))

/-! ### Rings and index tables (09 R342, R343, 12 R431) -/

/-- 12 Table 12-1: start of a ring: 0 and 1 the image rings, 2 to 9 the tap rings. -/
def ringBase (r : Nat) : Nat := if r < 2 then 0x50000000 + r * 0x10000000 else 0x70000000 + (r - 2) * 0x04000000

def freeSlot : RingSlot :=
  { st := 0, pos := 0, frame := 0, stream := 0, port := 0, dst := 0, role := 0, epoch := 0, len := 0, addr := 0, seq := 0, order := 0,
    lens := [], held := false, taken := false }

def State.ring (s : State) (r : Nat) : Ring := s.rings.getD r Ring.reset

def State.slot (s : State) (r k : Nat) : RingSlot := (s.ring r).slots.getD k freeSlot

/-- 12 Table 12-8: the bytes of an index entry. -/
def slotEntry (x : RingSlot) : List Byte :=
  leBytes 8 x.addr ++ leBytes 4 x.len ++ leBytes 4 x.frame ++
    [byteOf x.pos, byteOf x.stream, byteOf x.st, byteOf (b2n x.held)] ++ leBytes 4 x.seq ++ List.replicate 8 0#8

/-- 12 R412: where slot (r, k) begins, by the slot size in force. -/
def State.slotAddr (s : State) (r k : Nat) : Nat := ringBase r + k * (s.ring r).size

/-- Slot (r, k) when it is free: its entry names its address (12 Table 12-8). -/
def State.freed (s : State) (r k : Nat) : RingSlot := { freeSlot with addr := s.slotAddr r k }

/-- A slot changes: the ring and its index entry with it (12 R431). -/
def State.setSlot (s : State) (r k : Nat) (x : RingSlot) : State :=
  ({ s with rings := s.rings.set r { s.ring r with slots := (s.ring r).slots.set k x } } : State).setDram
    (0x90010000 + r * 0x1000 + 32 * k) (slotEntry x)

/-- 09 R342: the slot size of a ring that an accepted generation fixes; a ring not yet laid out gets its slots, 16 for
an image ring and 4 for a tap ring.  The entries of free slots name their addresses (12 R431); a slot in use keeps its place. -/
def State.layRing (s : State) (r size : Nat) : State :=
  let n := if r < 2 then 16 else 4
  let s : State := { s with rings := s.rings.set r { s.ring r with
      slots := if (s.ring r).slots.length = n then (s.ring r).slots else List.replicate n freeSlot, size := size } }
  (List.range n).foldl (fun s k => if (s.slot r k).st = 0 then s.setSlot r k (s.freed r k) else s) s

/-- Slot (r, k) is taken for a frame: its address is fixed (12 R412). -/
def State.takeSlot (s : State) (r k : Nat) (x : RingSlot) : State :=
  s.setSlot r k { x with st := 1, addr := s.slotAddr r k }

/-- A slot's ingot has been sent or discarded: the slot is free, or SENT while a channel holds it (12 R432). -/
def State.release (s : State) (r k : Nat) : State :=
  if (s.slot r k).held then s.setSlot r k { s.slot r k with st := 4 } else s.setSlot r k (s.freed r k)

/-- 09 R343, OUT_RING_FILL: slots of the image ring whose ingot waits or is being sent. -/
def State.ringFill (s : State) (r : Nat) : Nat := ((s.ring r).slots.filter (fun x => x.st == 2 || x.st == 3)).length

/-- Every slot of every ring, by ring and index. -/
def State.allSlots (s : State) : List (Nat × Nat) :=
  ((List.range 10).map (fun r => (List.range (s.ring r).slots.length).map (fun k => (r, k)))).flatten

def State.outPort (s : State) (b : Bool) : OutPort := if b then s.out1 else s.out0

def State.setOutPort (s : State) (b : Bool) (o : OutPort) : State :=
  if b then { s with out1 := o } else { s with out0 := o }

/-- The ports whose egress is at slot (r, k) let it go, cut after the current Ethernet frame (09 R346). -/
def State.cutSlot (s : State) (r k : Nat) : State :=
  [false, true].foldl (fun s b =>
    match (s.outPort b).sending with
    | some (r', k', _, _) =>
      if r' = r ∧ k' = k then (s.setOutPort b { s.outPort b with sending := none, fifo := [] }).inc (Obj.OUT_CNT_CUT (b2n b)) else s
    | none => s) s

/-! ### DMA channels (12 R425 to R437) -/

def State.ch (s : State) (c : Nat) : DmaCh := s.dma.getD c DmaCh.reset

def State.setCh (s : State) (c : Nat) (x : DmaCh) : State := { s with dma := s.dma.set c x }

def State.chState (s : State) (c : Nat) : Nat := s.o (Obj.DMA_STATE c)

/-- The index entry a descriptor has taken is no longer held (12 R432). -/
def State.dropHold (s : State) (c : Nat) : State :=
  match (s.ch c).cur with
  | some x =>
    match x.entry with
    | some (r, k, _) =>
      if (s.slot r k).st = 4 then s.setSlot r k (s.freed r k) else s.setSlot r k { s.slot r k with held := false }
    | none => s
  | none => s

/-- 12 R433, R435: the line of a channel is asserted: one more request is pending, and a channel that lacked one runs. -/
def State.requestOf (s : State) (c : Nat) : State :=
  let s := if (s.ch c).pending < 255 then s.setCh c { s.ch c with pending := (s.ch c).pending + 1 }
    else s.setCh c { s.ch c with overrun := true }
  if s.chState c = 2 then s.setO (Obj.DMA_STATE c) 1 else s

/-- 12 R433: an assertion of a request line adds one to the pending count of every channel bound to it. -/
def State.requestLine (s : State) (line : Nat) : State :=
  (List.range 16).foldl (fun s c => if fieldOf (s.o (Obj.DMA_CFG c)) 4 0 = line then s.requestOf c else s) s

/-- 12 R429: the last 4 bytes a channel wrote to the host are read back, with the descriptor's NS setting. -/
def State.readBack (s : State) (c : Nat) (x : DescRun) : State :=
  if bitAt x.desc.flags 0 && decide (4 ≤ x.moved) then
    s.emit (.dmaRead c (x.desc.host + x.moved - 4) 4 (bitAt x.desc.flags 1)) else s

/-- 12 R429: a descriptor in progress ends: read-back, snooped write-back of bytes 24 to 31, HEAD, counters, the channel's next state
and its vector. -/
def State.endDesc (s : State) (c : Nat) : State :=
  match (s.ch c).cur with
  | none => s
  | some x =>
    let size := s.o (Obj.DMA_RING_SIZE c)
    let h := (s.ch c).head
    let wb := leBytes 4 (2 ^ 31 + x.result % 16 * 2 ^ 27 + x.moved % 2 ^ 27) ++
      leBytes 4 ((x.entry.map (fun e => e.2.2)).getD 0)
    let st := if x.result = 3 ∨ x.result = 7 then 4 else if 4 ≤ x.result then 5
      else if bitAt x.desc.flags 5 ∨ (s.ch c).stopReq ≠ 0 then 4 else 1
    let s := ((s.readBack c x).dropHold c).emit (.dma c (s.o (Obj.DMA_RING_BASE c) + 32 * h + 24) wb false)
    let s := s.setCh c { s.ch c with head := (h + 1) % size, cur := none, stopReq := 0, lastResult := x.result }
    let s := (s.inc (Obj.DMA_CNT_DESC c)).setO (Obj.DMA_STATE c) st
    let s := if 3 ≤ x.result then s.inc (Obj.DMA_CNT_ERR c) else s
    if bitAt x.desc.flags 2 ∨ st ≠ 1 then s.raise (16 + c) else s

/-- 12 R437: a link loss, D3hot, PERST or FLR stops every running channel at once, without write-back. -/
def State.dmaDrop (s : State) : State :=
  ((List.range 16).foldl (fun s c =>
    if s.chState c = 1 ∨ s.chState c = 2 ∨ s.chState c = 3 then
      ((s.dropHold c).setCh c { s.ch c with cur := none, stopReq := 0 }).setO (Obj.DMA_STATE c) 0
    else s) s).inc Obj.HP_CNT_LINK_DOWN

/-- 12 R437: entry to SAFE: the descriptor in progress ends with OFFLINE after its burst, and the channel stops. -/
def State.dmaSafe (s : State) : State :=
  (List.range 16).foldl (fun s c =>
    match (s.ch c).cur with
    | some x => (s.setCh c { s.ch c with cur := some { x with result := 7 } }).endDesc c
    | none => if s.chState c = 1 ∨ s.chState c = 2 then (s.setO (Obj.DMA_STATE c) 4).raise (16 + c) else s) s

/-- 12 R437, R435: a transition to STANDBY: a descriptor in progress may end (STOPPING); other channels stop. -/
def State.dmaStandby (s : State) : State :=
  (List.range 16).foldl (fun s c =>
    match (s.ch c).cur with
    | some _ => (s.setCh c { s.ch c with stopReq := 1 }).setO (Obj.DMA_STATE c) 3
    | none => if s.chState c = 1 ∨ s.chState c = 2 then (s.setO (Obj.DMA_STATE c) 4).raise (16 + c) else s) s

/-- 12 R432: the ingot a channel copies was discarded under 01 R33: result DISCARDED after the current burst. -/
def State.dmaDiscard (s : State) (r k : Nat) : State :=
  (List.range 16).foldl (fun s c =>
    match (s.ch c).cur with
    | some x =>
      if x.entry.map (fun e => (e.1, e.2.1)) = some (r, k) then
        s.setCh c { s.ch c with cur := some { x with result := 2, ending := true } }
      else s
    | none => s) s

/-! ### Discards (09 R346, 01 R33) -/

/-- Why ingots are discarded, each with its counter: a lost lease, a lost link, a mode. -/
inductive Discard where
  | lease | link | mode
deriving DecidableEq, Repr

def Discard.counter : Discard → Nat → Nat
  | .lease, b => Obj.OUT_CNT_LEASE_DISCARD b
  | .link, b => Obj.OUT_CNT_LINKDOWN b
  | .mode, b => Obj.OUT_CNT_MODE_DISCARD b

/-- One slot's ingot is discarded, or cut when it is being sent; a copy of it ends DISCARDED under R33 only, and the slot that a channel
holds is freed with the end of its descriptor (12 R432). -/
def State.discardSlot (s : State) (why : Discard) (r k : Nat) : State :=
  let x := s.slot r k
  if x.st = 0 ∨ x.st = 4 then s
  else
    let s := if why = .lease then s.dmaDiscard r k else s
    let s := if x.st = 3 then s.cutSlot r k else s.inc (why.counter x.port)
    s.release r k

/-- Every ingot that meets the test, in every ring. -/
def State.discardIf (s : State) (why : Discard) (p : RingSlot → Bool) : State :=
  s.allSlots.foldl (fun s rk => if p (s.slot rk.1 rk.2) then s.discardSlot why rk.1 rk.2 else s) s

/-- 01 R33: every ingot of a role that has not been released is discarded. -/
def State.discardRole (s : State) (role : Nat) : State :=
  if role = 0 then s else s.discardIf .lease (fun x => x.role == role)

/-- Entry to SAFE or a transition to STANDBY: everything not sent is discarded (09 R346). -/
def State.discardMode (s : State) : State := s.discardIf .mode (fun _ => true)

/-- 09 R323: the hold of a port is over, and the time it lasted counts. -/
def State.stopHold (s : State) (b : Bool) : State :=
  let o := s.outPort b
  match o.pausedUntil with
  | none => s
  | some e =>
    let k := Obj.OUT_PAUSED_TIME (b2n b)
    (s.setO k (clampI 0 (2 ^ 64 - 1) (s.oi k + (min e s.time.mono - o.pauseStart : Nat)))).setOutPort b
      { o with pausedUntil := none, pauseNotified := false }

/-- A port is off: its link down, nothing in transmission (09 R347). -/
def State.portOff (s : State) (b : Bool) : State :=
  let s := s.stopHold b
  s.setOutPort b { s.outPort b with
    link := false, blockLock := false, fecLock := false, sending := none, fifo := [], arp := [], waiting := [] }

/-- Both ports are off. -/
def State.outOff (s : State) : State := (s.portOff false).portOff true

end Sys2Proof.Machine
end

