-- ==== Sys2Proof/Machine/EclAcc.lean ====
section
/-!
DEFINITION. The eclipse engine's work area in frame memory: the readouts it takes as they enter their slices, and what it
stores of a frame when that frame has drained (06 R219, R226, R227, R232; 12 Table 12-3).
-/
namespace Sys2Proof.Machine

/-- A value of the set that governs the frame. -/
def FrameCtx.g (x : FrameCtx) (k : Nat) : Int := Store.get Obj.dflt x.gov k
def FrameCtx.n (x : FrameCtx) (k : Nat) : Nat := (x.g k).toNat

/-- A frame of the eclipse is an accumulation frame. -/
def accKind (kind : Nat) : Bool := kind == 1 || kind == 4

/-- 12 Table 12-3. -/
def accAt (k r c : Nat) : Nat := 0x40000000 + ((k * 1536 + r) * 2048 + c) * 16
def fitAt (r c : Nat) : Nat := 0x4C000000 + (r * 2048 + c) * 8

def State.setEcl (s : State) (p : Pos) (e : EclPos) : State := { s with ecl := s.ecl.set p e }

/-- An accumulation entry: sum, sum of squares, count. -/
def State.accEntry (s : State) (k r c : Nat) : Nat × Nat × Nat :=
  let b := s.dram (accAt k r c) 16
  (leAt b 0 4, leAt b 4 8, leAt b 12 1)

/-- A fit entry: the three readouts with their unusable flags. -/
def State.fitEntry (s : State) (r c : Nat) : List (Nat × Bool) :=
  let v := s.dramN (fitAt r c) 8
  (List.range 3).map (fun i => (v / 2 ^ (20 * i) % 2 ^ 20, bitAt v (60 + i)))

/-- A piece of a row joins the row of its slot (04 R146). -/
def joinRow (k r : Nat) (px : List CorrPx) (synth : Bool) (l : List CorrRow) : List CorrRow :=
  if l.any (fun y => y.slot == k && y.row == r) then
    l.map (fun y => if y.slot == k && y.row == r then { y with px := y.px ++ px } else y)
  else l ++ [{ slot := k, row := r, px := px, synth := synth }]

/-- The engine taps the readouts of a frame of the eclipse after linearisation (06, offset update). -/
def State.eclCapture (s : State) (p : Pos) (kind k r : Nat) (px : List CorrPx) (synth : Bool) : State :=
  if kind = 0 then s
  else s.setEcl p { s.ecl.get p with cap := joinRow k r px synth (s.ecl.get p).cap }

/-- 06 R226: the readouts of a row enter the accumulation. -/
def State.accRow (s : State) (row : CorrRow) : State :=
  row.px.zipIdx.foldl (fun s d =>
    if d.1.invalid || d.1.sat then s
    else
      let a := s.accEntry row.slot row.row d.2
      s.setDram (accAt row.slot row.row d.2)
        (leBytes 4 (a.1 + d.1.x) ++ leBytes 8 (a.2.1 + d.1.x ^ 2) ++ [byteOf (a.2.2 + 1)])) s

/-- 06 R232: the readouts of a row as sample `i` of their pixels. -/
def State.fitRow (s : State) (i : Nat) (bad : Bool) (row : CorrRow) : State :=
  row.px.zipIdx.foldl (fun s d =>
    let v := s.dramN (fitAt row.row d.2) 8
    let u := d.1.x % 2 ^ 20 * 2 ^ (20 * i) + (if bad || d.1.invalid || d.1.sat then 2 ^ (60 + i) else 0)
    s.setDram (fitAt row.row d.2) (leBytes 8 (v + u))) s

/-- How many clean frames are stored for a row. -/
def EclPos.stored (e : EclPos) (r : Nat) : Nat := ((e.fitRows.find? (fun x => x.1 == r)).map (·.2)).getD 0

/-- 06 R232: the rows of the fit slot that are clean after the closing edge and lack samples. -/
def State.fitFrame (s : State) (p : Pos) (x : FrameCtx) (slot : Nat) : State :=
  let e := s.ecl.get p
  match e.params, e.closeStart with
  | some q, some t =>
    if e.kind ≠ 1 ∨ x.heritage = true then s
    else
      (e.cap.filter (fun r => r.slot == slot)).foldl (fun s r =>
        let n := (s.ecl.get p).stored r.row
        if n < 3 ∧ rowClean x.start q.rowT0 q.rowPitch r.row t q.travelClose q.guardUs = true then
          (s.fitRow n (x.short || x.eclKind == 3 || x.eclKind == 4) r).setEcl p { s.ecl.get p with
            fitRows := (r.row, n + 1) :: ((s.ecl.get p).fitRows.filter (fun y => y.1 != r.row)) }
        else s) s
  | _, _ => s

/-- 06 R219, R226, R227: a good accumulation frame is in the work area. -/
def State.accFrame (s : State) (p : Pos) (x : FrameCtx) : State :=
  if accKind x.eclKind && !x.short then
    let s := (s.ecl.get p).cap.foldl State.accRow s
    let e := s.ecl.get p
    s.setEcl p { e with accIn := e.accIn + 1, subtSum := e.subtSum + e.frameSubt, lastCtx := some x }
  else s

/-- The frame has drained: the engine stores what it took of it. -/
def State.eclDrained (s : State) (p : Pos) (x : FrameCtx) : State :=
  if x.eclKind = 0 then s
  else
    let s := (s.fitFrame p x ((slotOrder x.mask x.times).headD 0)).accFrame p x
    s.setEcl p { s.ecl.get p with cap := [] }

end Sys2Proof.Machine
end

