-- ==== Sys2Proof/Machine/GenOps.lean ====
section
/-!
DEFINITION. Generations: the pending, active and governing sets, what a COMMIT is checked for, and its acceptance
(07 R260 to R268; 01 R35; 03 R77, R106; 05 R189, R197; 09 R338 to R342).
-/
namespace Sys2Proof.Machine

/-- 01 R26: the position whose set an RWG object belongs to; none for an object that applies module-wide. -/
def rwgPos (k : Nat) : Option Pos :=
  let i := k / 256
  if (0x2501 ≤ i ∧ i ≤ 0x2504) ∨ i = 0x280A ∨ (0x2820 ≤ i ∧ i ≤ 0x2827) then none
  else if 0x2410 ≤ i ∧ i ≤ 0x2423 then some (posOf ((i - 0x2410) % 4))
  else if 0x2441 ≤ i ∧ i ≤ 0x2444 then some (posOf (i - 0x2441))
  else if 0x2610 ≤ i ∧ i ≤ 0x2617 then some (posOf ((i - 0x2610) % 4))
  else if 0x2780 ≤ i ∧ i ≤ 0x2783 then some (posOf (i - 0x2780))
  else some (posOf (k % 256 - 1))

def State.setGen (s : State) (p : Pos) (g : GenPos) : State := { s with gen := s.gen.set p g }

/-- The shown state of a pending set: 0 CLEAN, 1 DIRTY, 2 COMMITTED (07 R260). -/
def genState (g : GenPos) : Nat := if g.committed then 2 else if g.dirty then 1 else 0

/-- A write lands in the pending set of one position, which is DIRTY from then on. -/
def State.setPending (s : State) (p : Pos) (k : Nat) (v : Int) : State :=
  let g := s.gen.get p
  (s.setGen p { g with pend := Store.set Obj.dflt g.pend k v, dirty := true }).setO (Obj.GEN_PENDING_STATE p.val) 1

/-! ### Exact sums of fractions -/

/-- The sum of fractions `n / d`. -/
def ratSum (l : List (Nat × Nat)) : Nat × Nat := l.foldl (fun a b => (a.1 * b.2 + b.1 * a.2, a.2 * b.2)) (0, 1)

/-- The sum exceeds `n / d`. -/
def ratOver (l : List (Nat × Nat)) (n d : Nat) : Bool :=
  let r := ratSum l
  decide (n * r.2 < r.1 * d)

/-- The set bits of a 4-bit mask. -/
def maskBits (m : Nat) : List Nat := (List.range 4).filter (fun k => bitAt m k)

/-! ### The configuration a COMMIT is judged by -/

/-- The values a position would have: the pending set of a position of the mask, the active set (or the one already
accepted) of another. -/
def State.cfg (s : State) (mask : Nat) (p : Pos) (k : Nat) : Nat :=
  (if bitAt mask p.val || (s.gen.get p).committed then s.pendv p k else s.act p k).toNat

/-- A setting marked Mode: the value in force while imaging, else the one that the next entry puts in force (02 R603). -/
def State.modeSet (s : State) (k : Nat) : Nat := if s.imaging then (s.inForce k).toNat else s.o k

/-- Positions that take part: those enabled, by the setting that will be in force at the next entry while stopped. -/
def State.cfgEnabled (s : State) (p : Pos) : Bool :=
  if s.imaging then s.enabled p else bitAt (s.o Obj.POS_ENABLE) p.val

def State.cfgHeritage (s : State) : Bool := if s.imaging then s.heritage else s.ob Obj.HER_ORDER

/-- Readouts per second of a position as a fraction (01 R35): geometry times slots over the minimum period. -/
def cfgRate (cf : Pos → Nat → Nat) (p : Pos) : Nat × Nat :=
  (cf p (Obj.INT_WIDTH p.val) * cf p (Obj.INT_HEIGHT p.val) *
    (maskBits (cf p (Obj.INT_SLOT_MASK p.val))).length * 1000000000,
    cf p (Obj.TRIG_MIN_PERIOD p.val))

/-- 03 Table 03-1: lane bit rates in bit/s. -/
def laneRate (code : Nat) : Nat :=
  match code with
  | 0 => 1250000000 | 1 => 2500000000 | 2 => 3125000000 | 3 => 5000000000 | 4 => 6250000000 | _ => 10312500000

/-- 03 R77: load of a position in its group in bit/s: 16 bits a readout and 160 bits a row packet, one packet a row. -/
def mslLoad (cf : Pos → Nat → Nat) (p : Pos) : Nat × Nat :=
  let rows := cf p (Obj.INT_HEIGHT p.val) * (maskBits (cf p (Obj.INT_SLOT_MASK p.val))).length
  (rows * (cf p (Obj.INT_WIDTH p.val) * 16 + 160) * 1000000000, cf p (Obj.TRIG_MIN_PERIOD p.val))

/-- Lanes of a group under a code of MSL_GROUPS. -/
def groupLanes (code g : Nat) : List Nat := (List.range 8).filter (fun l => laneGroup code l == some g)

/-- The loads of the positions bound to a group. -/
def State.groupLoads (s : State) (cf : Pos → Nat → Nat) (g : Nat) : List (Nat × Nat) :=
  (allPos.filter (fun p => s.cfgEnabled p && fieldOf (s.modeSet (Obj.MSL_SOURCE p.val)) 5 4 == g &&
    !(p == 0 && s.cfgHeritage))).map (mslLoad cf)

/-- 03 R77: some group is over 97 % of its payload rate (bit rate times 64 / 66).  Positions bound to a group that MSL_GROUPS gives no
lanes are not judged: DESIGN CHOICE (log 73). -/
def State.groupOver (s : State) (cf : Pos → Nat → Nat) : Bool :=
  (List.range 4).any (fun g =>
    let n := (groupLanes (s.modeSet Obj.MSL_GROUPS) g).length
    n != 0 && ratOver (s.groupLoads cf g) (97 * laneRate (s.modeSet Obj.MSL_LANE_RATE) * n * 64) (100 * 66))

/-! ### Output load (09 R334, R340, R341) -/

/-- 09 R334: data bytes of a datagram on a port. -/
def State.dLimit (s : State) (b : Nat) : Nat :=
  min 8928 (s.modeSet (Obj.OUT_MTU b) - 60) / 12 * 12

def ceilDiv (a b : Nat) : Nat := (a + b - 1) / b

/-- Payload bytes of an ingot: header datagram, row datagrams, trailer datagrams; `extra` is what each datagram adds on
the wire beside its payload. -/
def ingotBytes (width height size d tb extra : Nat) : Nat :=
  320 + extra + height * (width * size + ceilDiv (width * size) d * (32 + extra)) + tb + max 1 (ceilDiv tb d) * (32 + extra)

/-- Bytes a sample of the image stream takes (09 Table 09-5). -/
def imgBytes (fmt : Nat) : Nat := if fmt = 1 then 4 else 2

/-- 09 R327: the image stream of a position is on a port. -/
def State.imgOn (s : State) (cf : Pos → Nat → Nat) (p : Pos) (b : Nat) : Bool :=
  s.cfgEnabled p && bitAt (cf p (Obj.OUT_IMG_PORT p.val)) b &&
    cf p (if b = 0 then Obj.OUT_IMG_DST0 p.val else Obj.OUT_IMG_DST1 p.val) != 0

/-- Bytes of one image ingot of a position on a port. -/
def State.imgIngot (s : State) (cf : Pos → Nat → Nat) (p : Pos) (b extra : Nat) : Nat :=
  ingotBytes (cf p (Obj.INT_WIDTH p.val)) (cf p (Obj.INT_HEIGHT p.val))
    (imgBytes (cf p (Obj.OUT_IMG_FMT p.val))) (s.dLimit b) 6788 extra

/-- 09 Table 09-6b: the format of a tap point: 0 T16, 2 E16, 3 E24. -/
def tapFmt (n : Nat) (heritage : Bool) : Nat :=
  match n with
  | 0 => 2
  | 1 => if heritage then 2 else 3
  | 2 => if heritage then 2 else 3
  | 3 => 3
  | 4 => 3
  | 5 => 0
  | 6 => 3
  | _ => 2

/-- 09 Table 09-5: bytes of a sample. -/
def fmtBytes (f : Nat) : Nat := match f with | 0 => 2 | 1 => 4 | 2 => 2 | _ => 3

def clipSpan (field limit : Nat) : Nat × Nat :=
  let x0 := fieldOf field 10 0
  let x1 := min (fieldOf field 26 16) (limit - 1)
  (x0, x1 + 1 - x0)

/-- 09 R338: the window of a tap at a position, clipped to that position's geometry: X0 and columns, Y0 and rows (0 when empty). -/
def tapWin (cf : Pos → Nat → Nat) (n : Nat) (p : Pos) : (Nat × Nat) × (Nat × Nat) :=
  (clipSpan (cf p (Obj.TAP_WIN_X n)) (cf p (Obj.INT_WIDTH p.val)), clipSpan (cf p (Obj.TAP_WIN_Y n)) (cf p (Obj.INT_HEIGHT p.val)))

/-- 01 R26, 09 R338: the tap settings are module-wide and each position adopts them with its own generation: tap `n` is at position `p`
when the set of `p` enables it there. -/
def tapOn (cf : Pos → Nat → Nat) (n : Nat) (p : Pos) : Bool := cf p (Obj.TAP_EN n) == 1 && cf p (Obj.TAP_POS n) == p.val

def State.tapHer (s : State) (p : Pos) : Bool := p == 0 && s.cfgHeritage

/-- 09 R338: a tap that no generation may have. -/
def State.tapBad (s : State) (cf : Pos → Nat → Nat) (n : Nat) : Bool :=
  allPos.any (fun p =>
    let w := tapWin cf n p
    tapOn cf n p && (w.1.2 == 0 || w.2.2 == 0 || !s.cfgEnabled p || (n == 7 && !s.tapHer p) || (n == 6 && s.tapHer p)))

/-- Bytes of one ingot of a tap at a position. -/
def State.tapIngot (s : State) (cf : Pos → Nat → Nat) (n : Nat) (p : Pos) (extra : Nat) : Nat :=
  let w := tapWin cf n p
  ingotBytes w.1.2 w.2.2 (fmtBytes (tapFmt n (s.tapHer p))) (s.dLimit (cf p (Obj.TAP_PORT n))) 0 extra

/-- Load of the image stream of a position on a port, in bit/s. -/
def State.imgLoad (s : State) (cf : Pos → Nat → Nat) (p : Pos) (b : Nat) : Nat × Nat :=
  if s.imgOn cf p b then (s.imgIngot cf p b 66 * 8 * 1000000000, cf p (Obj.TRIG_MIN_PERIOD p.val)) else (0, 1)

/-- Load of a tap at a position, in bit/s; T6 counts one ingot per enabled slot per held period (09 R340, 06 R216). -/
def State.tapRate (s : State) (cf : Pos → Nat → Nat) (n : Nat) (p : Pos) : Nat × Nat :=
  if tapOn cf n p && cf p (Obj.TAP_DST n) != 0 then
    if n = 6 then
      (s.tapIngot cf n p 66 * 8 * 1000000000 * (maskBits (cf p (Obj.INT_SLOT_MASK p.val))).length,
        max (s.o Obj.ECL_FRAME_PERIOD) (cf p (Obj.TRIG_MIN_PERIOD p.val)))
    else (s.tapIngot cf n p 66 * 8 * 1000000000, cf p (Obj.TRIG_MIN_PERIOD p.val) * cf p (Obj.TAP_DECIM n))
  else (0, 1)

/-- The loads of a tap: one at each position whose set places it there. -/
def State.tapRates (s : State) (cf : Pos → Nat → Nat) (n : Nat) : List (Nat × Nat) := allPos.map (s.tapRate cf n)

/-- Every stream's load on a port. -/
def State.portLoads (s : State) (cf : Pos → Nat → Nat) (b : Nat) : List (Nat × Nat) :=
  allPos.map (fun p => s.imgLoad cf p b) ++
    (List.range 8).flatMap (fun n => (allPos.filter (fun p => cf p (Obj.TAP_PORT n) == b)).map (s.tapRate cf n))

/-- 09 R341: 95 % of the line rate. -/
def State.portBudget (s : State) (b : Nat) : Nat :=
  if s.modeSet (Obj.OUT_SPEED b) = 0 then 23750000000 else 9500000000

/-! ### The COMMIT checks (07 R261) -/

/-- An enabled ROI with X1 below X0 or Y1 below Y0 (05 R197). -/
def roiBad (cf : Pos → Nat → Nat) (p : Pos) (kx ky : Nat → Nat) : Bool :=
  (List.range 64).any (fun i =>
    let x := cf p (kx i)
    let y := cf p (ky i)
    bitAt x 31 && (fieldOf x 26 16 < fieldOf x 10 0 || fieldOf y 26 16 < fieldOf y 10 0))

/-- 07 R269: auto-integration runs at the position. -/
def State.aiRuns (s : State) (p : Pos) : Bool :=
  s.gov p (Obj.AI_EN p.val) == 1 && !bitAt (s.o Obj.EXPERT_STATUS) 7 && (s.mode == 1 || s.mode == 2)

/-- 07 R261, R269: the set would change the mask that auto-integration owns. -/
def State.commitBarred (s : State) (p : Pos) : Bool :=
  s.aiRuns p && s.pendv p (Obj.INT_SLOT_MASK p.val) != s.act p (Obj.INT_SLOT_MASK p.val) && !(s.gen.get p).aiWaiting

/-- What belongs to one position: R106, R189, R197, R271. -/
def State.commitPos (s : State) (cf : Pos → Nat → Nat) (p : Pos) : Option Nat :=
  if p == 0 && s.cfgHeritage && cf p (Obj.INT_SLOT_MASK 0) != 1 then some Abort.param
  else if cf p (Obj.MERGE_KNEE_HI p.val) ≤ cf p (Obj.MERGE_KNEE_LO p.val) then some Abort.param
  else if roiBad cf p (Obj.RAD_ROI_X p.val) (Obj.RAD_ROI_Y p.val) then some Abort.param
  else if roiBad cf p (Obj.STAT_ROI_X p.val) (Obj.STAT_ROI_Y p.val) then some Abort.param
  else if cf p (Obj.AI_SAT_ON p.val) ≤ cf p (Obj.AI_OFF p.val) ||
      cf p (Obj.AI_LOW_ON p.val) ≤ cf p (Obj.AI_OFF p.val) then some Abort.param
  else none

/-- What concerns the whole module: R35, R77, R338, R341. -/
def State.commitAll (s : State) (cf : Pos → Nat → Nat) : Option Nat :=
  if ratOver ((allPos.filter s.cfgEnabled).map (cfgRate cf)) 3200000000 1 then some Abort.param
  else if s.groupOver cf then some Abort.param
  else if (List.range 8).any (s.tapBad cf) then some Abort.param
  else if ratOver (s.portLoads cf 0) (s.portBudget 0) 1 || ratOver (s.portLoads cf 1) (s.portBudget 1) 1 then some Abort.param
  else none

/-- 07 R266: the position is stopped: not imaging, not enabled, or the writes of 03 R121 have not begun since the entry. -/
def State.stopped (s : State) (p : Pos) : Bool := !s.imaging || !s.enabled p || (s.fpa.get p).want.isEmpty

/-- 07 R262: the frame whose hand-over comes next at the position: the oldest one closed or open that has not been handed over,
else the next to start. -/
def State.nextHandOver (s : State) (p : Pos) : Nat :=
  let i := s.intake.get p
  (((i.ended ++ i.frm.toList).map (·.num)).find? (fun n => ((s.pipe.get p).frm.map (·.num)) != some n)).getD i.nextNum

/-! ### What the sets in force show -/

/-- The governing values; of a stopped position, which has no frame, the active ones. -/
def State.inGov (s : State) (p : Pos) (k : Nat) : Nat := (if s.stopped p then s.act p k else s.gov p k).toNat

/-- 06 R216: the held period of a position. -/
def State.heldPeriod (s : State) (p : Pos) : Nat := max (s.o Obj.ECL_FRAME_PERIOD) (s.inGov p (Obj.TRIG_MIN_PERIOD p.val))

/-- 06 R222: ECL_EST_DURATION, µs. -/
def State.estDuration (s : State) (p : Pos) : Int :=
  roundDiv (((2 * s.o (Obj.ECL_PULSE_MAX p.val) + s.o (Obj.ECL_SETTLE_TIME p.val)) * 1000000 +
    (s.o (Obj.ECL_ACC_FRAMES p.val) + s.o (Obj.ECL_RECOVER_FRAMES p.val) + 2) * s.heldPeriod p : Nat)) 1000

/-- 06 R222: the bound follows its terms. -/
def State.setEstimates (s : State) : State :=
  allPos.foldl (fun s p => s.setO (Obj.ECL_EST_DURATION p.val) (clampI 0 0xFFFFFFFF (s.estDuration p))) s

/-- Mbit/s, rounded half to even. -/
def mbitOf (l : List (Nat × Nat)) : Int := let r := ratSum l; roundDiv r.1 (r.2 * 1000000)

/-- Percent of the payload rate of a group, by the active generations (03 R77). -/
def State.groupPercent (s : State) (g : Nat) : Int :=
  let n := (groupLanes (s.modeSet Obj.MSL_GROUPS) g).length
  let r := ratSum (s.groupLoads (fun p k => (s.act p k).toNat) g)
  clampI 0 255 (roundDiv (r.1 * 6600) (r.2 * (laneRate (s.modeSet Obj.MSL_LANE_RATE) * n * 64)))

/-- 03 R77, 06 R222, 09 R341: the loads of the active and the governing sets and the bound of an eclipse are shown. -/
def State.showLoads (s : State) : State :=
  let s := s.setOs ((List.range 2).map (fun b => (Obj.OUT_LOAD b, mbitOf (s.portLoads s.inGov b))) ++
    (List.range 8).map (fun n => (Obj.TAP_LOAD n, mbitOf (s.tapRates s.inGov n))) ++
    (List.range 4).map (fun g => (Obj.MSL_GROUP_LOAD g, s.groupPercent g)))
  s.setEstimates

/-- 09 R342: the slot sizes an accepted generation fixes, and the loads as they are then. -/
def State.fixLoads (s : State) : State :=
  let cf := s.cfg 0
  let s := [0, 1].foldl (fun s b =>
    let big := allPos.foldl (fun m p => if s.imgOn cf p b then max m (s.imgIngot cf p b 0) else m) 0
    s.layRing b (ceilDiv big 65536 * 65536)) s
  let s := (List.range 8).foldl (fun s n =>
    let at_ := allPos.filter (tapOn cf n)
    if at_.isEmpty then s
    else s.layRing (2 + n) (ceilDiv (at_.foldl (fun m p => max m (s.tapIngot cf n p 0)) 0) 65536 * 65536)) s
  s.showLoads

/-- The pending set of a position becomes active: the settings generation counts (01 R28, 07 R265). -/
def State.activate (s : State) (p : Pos) : State :=
  let g := s.gen.get p
  ((s.setGen p { g with act := g.pend, dirty := false, committed := false, aiWaiting := false }).incWrap
    (Obj.GEN_ACTIVE p.val)).setO (Obj.GEN_PENDING_STATE p.val) 0

/-- A COMMIT accepted at one position: active at once while it is stopped (07 R266), else at the next hand-over
(07 R262); the reply names the frame it first governs (07 R263 for a repeat). -/
def State.acceptPos (s : State) (p : Pos) : State :=
  let g := { s.gen.get p with aiWaiting := false }
  let s := if (s.gen.get p).aiWaiting then
      (s.inc (Obj.INTG_CNT_AI_CHANGE p.val)).logEvt .aiChange p.val (s.pendv p (Obj.INT_SLOT_MASK p.val)).toNat [] else s
  if g.committed then s
  else if s.stopped p then (s.activate p).setO (Obj.GEN_COMMIT_FRAME p.val) ((s.intake.get p).nextNum : Nat)
  else
    ((s.setGen p { g with committed := true }).setO (Obj.GEN_PENDING_STATE p.val) 2).setO (Obj.GEN_COMMIT_FRAME p.val)
      ((s.nextHandOver p + 1) % 2 ^ 32 : Nat)

/-- The positions of a mask. -/
def maskPos (m : Nat) : List Pos := allPos.filter (fun p => bitAt m p.val)

/-- A COMMIT to the positions of a mask, all or none (07 R261, R267): STATE at any of them comes before PARAM (11 Table 11-5). -/
def State.commit (s : State) (mask : Nat) : Res :=
  let ps := (maskPos mask).filter (fun p => !(s.gen.get p).committed)
  let m := ps.foldl (fun a p => a + 2 ^ p.val) 0
  if ps.any s.commitBarred then .error Abort.state
  else
  match ps.findSome? (s.commitPos (s.cfg m)), (if ps.isEmpty then none else s.commitAll (s.cfg m)) with
  | none, none => .ok ((ps.foldl State.acceptPos s).fixLoads)
  | some c, _ => .error c
  | none, some c => .error c

/-- 07 R272: a decision whose COMMIT is refused is dropped, and not retried for AI_HOLD evaluated frames. -/
def State.dropDecision (s : State) (p : Pos) : State :=
  let g := s.gen.get p
  if g.aiWaiting then
    (s.setGen p { g with
      pend := Store.set Obj.dflt g.pend (Obj.INT_SLOT_MASK p.val) (s.act p (Obj.INT_SLOT_MASK p.val)),
      aiWaiting := false, holdoff := (s.gov p (Obj.AI_HOLD p.val)).toNat }).inc (Obj.INTG_CNT_AI_REFUSED p.val)
  else s

/-- 07 R261: a refused COMMIT counts at each of its positions. -/
def State.countRefused (s : State) (mask : Nat) : State :=
  (maskPos mask).foldl (fun s p => (s.inc (Obj.INTG_CNT_COMMIT_REFUSED p.val)).dropDecision p) s

/-- 07 R268: a DIRTY pending set becomes a copy of the active set again. -/
def State.discardGen (s : State) (mask : Nat) : Res :=
  if (maskPos mask).any (fun p => (s.gen.get p).committed) then .error Abort.busy
  else
    .ok ((maskPos mask).foldl (fun s p =>
      (s.setGen p { s.gen.get p with pend := (s.gen.get p).act, dirty := false, aiWaiting := false }).setO
        (Obj.GEN_PENDING_STATE p.val) 0) s)

end Sys2Proof.Machine
end

