-- ==== Sys2Proof/Machine/SensorOps.lean ====
section
/-!
DEFINITION. SP0 and the FPAs: words, transactions, replies, the vertical blank; lanes and lane groups; the intake buffer and
the frames of a position (03 R71 to R124, 14 R470 to R475).
-/
namespace Sys2Proof.Machine

/-! ### SP0 (03 R110 to R122, 14 R471, R472) -/

def State.setFpa (s : State) (p : Pos) (f : FpaSt) : State := { s with fpa := s.fpa.set p f }

/-- 03 R72: the position reads the heritage port. -/
def State.fpaHer (s : State) (p : Pos) : Bool := p == 0 && s.heritage

/-- 03 R110: select and link index of a position's FPA. -/
def State.fpaSel (s : State) (p : Pos) : Pos := posOf (s.inForce (Obj.FPA_SELECT p.val)).toNat
def State.fpaLink (s : State) (p : Pos) : Nat := fieldOf (s.inForce (Obj.FPA_SELECT p.val)).toNat 5 4

/-- The enabled positions on a select, highest link index first: the order of the words shifted (03 R111). -/
def State.onSel (s : State) (sel : Pos) : List Pos :=
  [3, 2, 1, 0].flatMap (fun j => allPos.filter (fun p => s.enabled p && s.fpaSel p == sel && s.fpaLink p == j))

/-- 03 R111: t_tx of a select in ns; a period of the SP0 clock is 4 ns times SP0_CLK_DIV (14 R471). -/
def State.ttx (s : State) (sel : Pos) : Nat :=
  100 + (s.onSel sel).length * (if (s.onSel sel).any s.fpaHer then 32 else 40) * 4 * (s.inForce Obj.SP0_CLK_DIV).toNat

/-- 03 R120: INT_VBLANK_MIN of a position, with the m other enabled positions of its select. -/
def State.vblankMin (s : State) (p : Pos) : Nat :=
  let m := ((s.onSel (s.fpaSel p)).filter (fun q => q != p)).length
  let tx := 100 + (m + 1) * (if s.fpaHer p then 32 else 40) * 4 * (s.inForce Obj.SP0_CLK_DIV).toNat
  8 * tx + m * (tx + 1000) + 2000

/-- 03 R112: CRC-8, polynomial 0x07, initial value 0xFF. -/
def crc8 (bs : List Byte) : Nat := bs.foldl (fun c b => crcStepL 8 7 8 (Nat.xor c b.toNat)) 0xFF

/-- 03 Table 03-5, R122: the bits of a word as they are shifted.  DESIGN CHOICE (log 73): the address and data bits of a SYNC word
are 0, and a register address above 0xFF appears with its low eight bits in the word of a heritage array. -/
def Sp0Word.bits (w : Sp0Word) : Nat :=
  match w.op with
  | 0 | 1 | 2 | 3 =>
    let c := w.op * 2 ^ 30 + w.seq * 2 ^ 26 + w.reg % 1024 * 2 ^ 16 + w.data % 65536
    c * 256 + crc8 (beBytes 4 c)
  | 4 => 0x01 * 2 ^ 24 + w.reg % 256 * 2 ^ 16 + w.data % 65536
  | 6 => 0xA5 * 2 ^ 24
  | _ => 0x02 * 2 ^ 24 + w.reg % 256 * 2 ^ 16

/-- 03 R110, R73: a configuration that the entry to PREPARE or SERVICE refuses, by the settings that would come into
force: link indices with gaps, S0 in heritage order not alone, two positions on one group and SRC. -/
def State.fpaConfigBad (s : State) : Bool :=
  let en := allPos.filter (fun p => bitAt (s.o Obj.POS_ENABLE) p.val)
  let sel := fun (p : Pos) => s.o (Obj.FPA_SELECT p.val) % 4
  let lnk := fun (p : Pos) => fieldOf (s.o (Obj.FPA_SELECT p.val)) 5 4
  let her := s.ob Obj.HER_ORDER
  let gaps := (List.range 4).any (fun c =>
    let on := en.filter (fun p => sel p == c)
    (List.range on.length).any (fun j => !on.any (fun p => lnk p == j)))
  let alone := her && en.contains 0 && en.any (fun p => p != 0 && sel p == sel 0)
  let msl := en.filter (fun p => !(p == 0 && her))
  let twice := msl.any (fun p => msl.any (fun q =>
    p != q && s.o (Obj.MSL_SOURCE p.val) % 64 == s.o (Obj.MSL_SOURCE q.val) % 64))
  gaps || alone || twice

/-- A word for a position's FPA with its sequence number (03 R112). -/
def State.fpaWord (s : State) (p : Pos) (op reg data : Nat) : Sp0Word := ⟨op, (s.fpa.get p).seq, reg, data⟩

/-- 03 R114, R118: the last word has a reply that is still to be collected: any but a NOP or a heritage SYNC; a heritage write is
followed by its read-back. -/
def FpaSt.collects (f : FpaSt) : Bool :=
  match f.sent with
  | some w => w.op != 3 && w.op != 4 && w.op != 6 && w.op != 9
  | none => false

/-- 03 R122, R123: a heritage read that only collects reads the register of the word it collects for. -/
def State.herIdle (s : State) : Sp0Word :=
  ⟨9, 0, ((s.fpa.get 0).sent.map (·.reg)).getD (s.inForce (Obj.FPA_REG_ID 0)).toNat, 0⟩

/-- A word that only moves replies: NOP, or on a heritage array a read (03 R118, R122). -/
def State.fpaIdle (s : State) (p : Pos) : Sp0Word :=
  if s.fpaHer p then s.herIdle else ⟨3, (s.fpa.get p).seq, 0, 0⟩

/-- The next word a heritage array needs, with the class of its transaction: the settings words of the vertical blank with what
collects for them and their resends come before a temperature read (14 R475, 03 R108). -/
def State.herNext (s : State) : Option (Nat × Sp0Word) :=
  let f := s.fpa.get 0
  let reg := (s.inForce (Obj.FPA_REG_ID 0)).toNat
  if f.idOn then
    if f.collects then some (2, s.herIdle) else some (3, ⟨8, 0, reg + f.ids.length, 0⟩)
  else
    let settings : Option (Nat × Sp0Word) :=
      if !f.blank then (if (f.sent.map (·.op)) = some 7 then some (2, s.herIdle) else none)
      else match f.sent, f.todo, f.refused with
        | some ⟨4, _, r, d⟩, _, _ => some (1, ⟨5, 0, r, d⟩)
        | _, (r, v) :: _, _ => some (1, ⟨4, 0, r, v⟩)
        | _, [], (r, v) :: _ => if f.collects then some (2, s.herIdle) else some (1, ⟨4, 0, r, v⟩)
        | _, [], [] => if f.collects then some (2, s.herIdle) else none
    if settings.isSome then settings
    else if f.temp then some (4, ⟨7, 0, (s.inForce Obj.HP_SUBT_REG).toNat, 0⟩) else none

/-- The next word an FPA needs: identity reads (R121), the writes of the vertical blank, a NOP that collects, a resend
(R118); none when it needs nothing. -/
def State.fpaNext (s : State) (p : Pos) : Option (Nat × Sp0Word) :=
  let f := s.fpa.get p
  if s.fpaHer p then s.herNext
  else if f.idOn then
    if f.collects then some (2, s.fpaIdle p)
    else some (3, s.fpaWord p 1 ((s.inForce (Obj.FPA_REG_ID p.val)).toNat + f.ids.length) 0)
  else if !f.blank then none
  else
    match f.todo, f.refused with
    | (r, v) :: _, _ => some (1, s.fpaWord p 0 r v)
    | [], (r, v) :: _ => if f.collects then some (2, s.fpaIdle p) else some (1, s.fpaWord p 0 r v)
    | [], [] => if f.collects then some (2, s.fpaIdle p) else none

/-- 03 R118: the FPA's next word is a resend, which is followed by a collecting word. -/
def State.resends (s : State) (p : Pos) : Bool :=
  let f := s.fpa.get p
  f.blank && !f.idOn && f.todo.isEmpty && !f.refused.isEmpty && !f.collects

/-- What a word's departure changes in the FPA's record: its sequence number, the lists it came from. -/
def FpaSt.depart (f : FpaSt) (w : Sp0Word) : FpaSt :=
  let f := if w.op ≤ 2 then { f with seq := (f.seq + 1) % 16 } else f
  let f := if w.op = 7 then { f with temp := false, tempSent := true } else f
  if w.op = 0 ∨ w.op = 4 then
    match f.todo, f.refused with
    | _ :: r, _ => { f with todo := r }
    | [], x :: r => { f with refused := r, resent := x :: f.resent }
    | [], [] => f
  else f

/-- 06 R216: the held start that is next on the grid of an eclipse. -/
def State.heldNext (s : State) (p : Pos) : Option Nat :=
  let e := s.ecl.get p
  if e.openingDone then none else e.f0Start.map (fun f => f + (e.heldK + 1) * e.period)

/-- Marks and scheduled starts of the positions on a select, the next held start of an eclipse among them: the chain times their
transactions begin (03 R116). -/
def State.markBegins (s : State) (sel : Pos) : List Nat :=
  (s.onSel sel).flatMap (fun p =>
    let g := s.trig.get p
    (g.marks.map (·.1) ++ g.queue.map (·.s) ++ g.heldAt.toList ++ (s.heldNext p).toList).map (fun x => x - s.ttx sel))

/-- A transaction begins: its words are shifted until `fin` (03 R111; 14 R472: 100 ns after the last release). -/
def State.sp0Begin (s : State) (sel : Pos) (kind : Nat) (ws : List (Pos × Sp0Word)) (fin : Nat) : State :=
  let s := ws.foldl (fun s w => s.setFpa w.1 ((s.fpa.get w.1).depart w.2)) s
  ({ s with sp0 := s.sp0.upd sel (fun c => { c with busy := some ⟨kind, ws, fin⟩ }) } : State).emit
    (.sp0 sel.val (ws.map (fun w => w.2.bits)))

/-- The next waiting transaction of a select starts when it releases 1 µs before the next mark transaction
(03 R116, R118; 14 R475). -/
def State.sp0Next (s : State) (sel : Pos) : State :=
  if (s.sp0.get sel).busy.isSome || !s.imaging then s
  else
    let ps := s.onSel sel
    let needs := ps.filterMap s.fpaNext
    match needs with
    | [] => s
    | (k, _) :: _ =>
      let start := max s.time.now ((s.sp0.get sel).lastRelease + 100)
      let fin := start + s.ttx sel
      let all := if ps.any s.resends then fin + 100 + s.ttx sel else fin
      if (s.markBegins sel).any (fun b => decide (s.time.now ≤ b ∧ b < all + 1000)) then s
      else
        s.sp0Begin sel k (ps.map (fun p => (p, ((s.fpaNext p).map (·.2)).getD (s.fpaIdle p)))) fin

/-- 03 R119: the value of an acknowledged word goes to the FPA's shadow. -/
def State.shadowWrite (s : State) (p : Pos) (f : FpaSt) (reg v : Nat) : FpaSt :=
  let t := (s.inForce (Obj.FPA_REG_TINT p.val)).toNat
  if reg = (s.inForce (Obj.FPA_REG_SLOTEN p.val)).toNat then { f with shadowMask := v % 16 }
  else if t ≤ reg ∧ reg < t + 4 then { f with shadowTint := f.shadowTint.set (reg - t) v }
  else f

/-- 03 R117, R119: the last START was refused: the FPA applied nothing, and the frame it opened is under the values in effect
before. -/
def State.startRefused (s : State) (p : Pos) (tag : Nat) : State :=
  let f := s.fpa.get p
  let lsb := (s.inForce (Obj.FPA_TINT_LSB p.val)).toNat
  let times := (f.oldTint.map (· * lsb)).zipIdx.map (fun x => if bitAt f.oldMask x.2 then x.1 else 0)
  let fix := fun (x : FrameCtx) => if x.num % 65536 = tag then { x with times := times, ackMask := f.oldMask } else x
  let s := (s.setFpa p { f with effTint := f.oldTint, effMask := f.oldMask }).setO (Obj.INTG_SLOT_ACK p.val) f.oldMask
  let s : State := { s with pipe := s.pipe.upd p (fun y =>
    { y with frm := y.frm.map fix, done := y.done.map (fun d => { d with ctx := fix d.ctx }) }) }
  s.setOs ((List.range 4).map (fun k => (Obj.INTG_TINT_ACK p.val k, ((f.oldTint.getD k 0 * lsb : Nat) : Int))))

/-- A word was refused (03 R114): counted; a write is resent once in the blank, then carried to the next; an identity
read is repeated up to three times.  DESIGN CHOICE (log 73): a WRITE answered by IDLE or DATA is treated so too, uncounted. -/
def State.wordRefused (s : State) (p : Pos) (w : Sp0Word) (count : Bool) : State :=
  let s := if count then s.inc (Obj.INT_CNT_LATCH_FAIL p.val) else s
  let f := s.fpa.get p
  if w.op = 0 ∨ w.op = 5 then
    if f.resent.contains (w.reg, w.data) then s.setFpa p { f with carry := f.carry ++ [(w.reg, w.data)] }
    else s.setFpa p { f with refused := f.refused ++ [(w.reg, w.data)] }
  else if w.op = 1 then
    if f.idTries < 3 then s.setFpa p { f with idTries := f.idTries + 1 }
    else s.setFpa p { f with silent := true, idDone := true, idOn := false }
  else if w.op = 2 then s.startRefused p w.data
  else s

/-- An identity word has been read (03 R121): after the fourth, FPA_ID is set and the identity reads end. -/
def State.gotId (s : State) (p : Pos) (v : Nat) : State :=
  let f := s.fpa.get p
  let ids := f.ids ++ [v]
  if ids.length < 4 then s.setFpa p { f with ids := ids, idTries := 0 }
  else
    (s.setFpa p { f with ids := ids, idTries := 0, idDone := true, idOn := false }).setO (Obj.FPA_ID p.val)
      (ids.foldl (fun a w => a * 65536 + w) 0 : Nat)

/-- The reply to the last word sent to an FPA, as it returns while `next` is shifted (03 R114; R122 for a heritage array, where a
write whose read-back does not follow at once stays unverified). -/
def State.fpaReply (s : State) (p : Pos) (r : Nat) (next : Sp0Word) : State :=
  let f := s.fpa.get p
  match f.sent with
  | none => s
  | some w =>
    let s := s.setFpa p { f with sent := none }
    let f := s.fpa.get p
    let v := r % 65536
    if s.fpaHer p then
      match w.op with
      | 4 => if next.op = 5 then s else s.setFpa p { f with unread := f.unread ++ [(w.reg, w.data)] }
      | 5 => if v = w.data then s.setFpa p (s.shadowWrite p f w.reg v) else s.wordRefused p w true
      | 7 => { (s.setFpa p { f with tempSent := false }) with
                intake := s.intake.upd p (fun i => { i with hpSubt := some v }) }
      | 8 => s.gotId p v
      | _ => s
    else
      let c := r / 256 % 2 ^ 32
      let kind := fieldOf c 31 30
      let d := fieldOf c 15 0
      if crc8 (beBytes 4 c) ≠ r % 256 ∨ kind = 2 ∨ fieldOf c 29 26 ≠ w.seq ∨ fieldOf c 25 16 ≠ w.reg % 1024 then
        s.wordRefused p w true
      else if w.op = 0 then
        if kind = 1 then s.setFpa p (s.shadowWrite p f w.reg d) else s.wordRefused p w false
      else if w.op = 1 then
        if kind = 0 then s.gotId p d else s.wordRefused p w false
      else if w.op = 2 then
        if kind = 1 then s else s.wordRefused p w false
      else s

/-- A word whose transaction has been released awaits its reply (03 R114); a heritage SYNC and a read that only collects have
none that is looked at. -/
def FpaSt.await (f : FpaSt) (w : Sp0Word) : FpaSt :=
  if w.op = 6 ∨ w.op = 9 then f else { f with sent := some w }

/-- A transaction is released: every FPA's reply to its previous word is taken, and the new words await theirs. -/
def State.sp0Release (s : State) (sel : Pos) (words : List Nat) : State :=
  match (s.sp0.get sel).busy with
  | none => s
  | some x =>
    let s := { s with sp0 := s.sp0.upd sel (fun c => { c with busy := none, lastRelease := max x.endAt s.time.now }) }
    (x.words.zip (words ++ List.replicate x.words.length 0)).foldl (fun s w =>
      let s := s.fpaReply w.1.1 w.2 w.1.2
      s.setFpa w.1.1 ((s.fpa.get w.1.1).await w.1.2)) s

/-- 08 R307: the source a position is bound to: a new binding holds from the hand-over instant that makes its set active. -/
def State.binding (s : State) (p : Pos) : Nat := (s.act p (Obj.TRIG_SOURCE p.val)).toNat

/-! ### The vertical blank (03 R118, R119, 07 R253) -/

/-- 07 R253: the register count of an integration time. -/
def State.tintCount (s : State) (p : Pos) (ns : Nat) : Nat :=
  let lsb := (s.inForce (Obj.FPA_TINT_LSB p.val)).toNat
  (clampI 1 65535 (roundDiv ns lsb)).toNat

/-- 16 R524, R527: a slot mask without the slots of another mask that steps have dropped.  Where none would be left its lowest slot
stays: DESIGN CHOICE (log 64). -/
def overlayMask (dropped m : Nat) : Nat :=
  match (maskBits m).filter (fun k => !bitAt dropped k) with
  | [] => ((maskBits m).head?.map (fun k => 2 ^ k)).getD m
  | l => (l.map (fun k => 2 ^ k)).foldl (· + ·) 0

/-- 16 R524: the slots that the steps taken have dropped at a position. -/
def ThermSt.dropMask (x : ThermSt) (p : Pos) : Nat := x.drops.foldl (fun a d => Nat.lor a (d.get p)) 0

/-- The slot mask of the active set under the throttle overlay in force at the position (16 R526, R527). -/
def State.slotMask (s : State) (p : Pos) : Nat :=
  overlayMask (s.therm.inDrop.get p) (s.act p (Obj.INT_SLOT_MASK p.val)).toNat

/-- The five integration words of the active set (03 R118; 07 R255: the mask goes to FPA_REG_SLOTEN). -/
def State.intWords (s : State) (p : Pos) : List (Nat × Nat) :=
  (List.range 4).map (fun k => ((s.inForce (Obj.FPA_REG_TINT p.val)).toNat + k,
    s.tintCount p (s.act p (Obj.INTG_TINT p.val k)).toNat)) ++
    [((s.inForce (Obj.FPA_REG_SLOTEN p.val)).toNat, s.slotMask p)]

/-- The vertical blank opens: the words of a generation activated at this frame's hand-over that change a register, and the
words the last blank left refused (03 R118, R119). -/
def State.openBlank (s : State) (p : Pos) : State :=
  let f := s.fpa.get p
  let fresh := (s.intWords p).filter (fun w => !f.want.contains w)
  let left := f.carry.filter (fun w => !fresh.any (fun x => x.1 == w.1))
  (s.setFpa p { f with blank := true, want := s.intWords p, todo := left ++ fresh, refused := [], resent := [], carry := [],
                       unread := [] }).sp0Next (s.fpaSel p)

/-- 03 R118, 07 R265: the words of a generation activated at the hand-over into a frame that has closed before it, while the vertical
blank of that frame lasts. -/
def State.lateWords (s : State) (p : Pos) : State :=
  let f := s.fpa.get p
  if !f.blank then s
  else
    let fresh := (s.intWords p).filter (fun w => !f.want.contains w)
    let rest := fun (l : List (Nat × Nat)) => l.filter (fun w => !fresh.any (fun x => x.1 == w.1))
    (s.setFpa p { f with want := s.intWords p, todo := rest f.todo ++ fresh, refused := rest f.refused }).sp0Next (s.fpaSel p)

/-- The vertical blank ends with the next mark, once the replies that come back with it are known: words still refused, not
verified or not sent go to the next one; a refused word is logged and notified (03 R119).  A heritage temperature not read counts
as a failed read, and the next frame has none (R108).  DESIGN CHOICE (log 73): the frame named is the one the mark starts, and of
several refused words the first is told. -/
def State.endBlank (s : State) (p : Pos) (num : Nat) : State :=
  let f := s.fpa.get p
  if !f.blank then s
  else
    let bad := f.carry ++ f.refused
    let failed := f.temp || f.tempSent
    let s := s.setFpa p { f with blank := false, todo := [], refused := [], resent := [], unread := [],
                                 carry := bad ++ f.unread ++ f.todo, temp := false, tempSent := false }
    let s := if failed then
        ({ s with intake := s.intake.upd p (fun i => { i with hpSubt := none }) } : State).inc (Obj.INT_CNT_ROIC p.val) else s
    match bad with
    | [] => s
    | (r, _) :: _ => s.notify 0x0002 p.val [(4, num), (2, r)]

/-! ### Lanes and groups (03 R75 to R81) -/

def State.lane (s : State) (l : Nat) : Lane := s.lanes.getD l Lane.reset
def State.setLane (s : State) (l : Nat) (x : Lane) : State := { s with lanes := s.lanes.set l x }

/-- The group a lane belongs to under the grouping in force. -/
def State.groupOfLane (s : State) (l : Nat) : Option Nat := laneGroup (s.inForce Obj.MSL_GROUPS).toNat l

def State.lanesOf (s : State) (g : Nat) : List Nat := groupLanes (s.inForce Obj.MSL_GROUPS).toNat g

/-- 03 R75: the stripe index of a lane within its group. -/
def State.stripeOf (s : State) (g l : Nat) : Nat :=
  let ls := s.lanesOf g
  let k := (ls.filter (fun x => decide (x < l))).length
  if bitAt (s.inForce Obj.MSL_GROUP_REVERSE).toNat g then ls.length - 1 - k else k

def State.groupAligned (s : State) (g : Nat) : Bool := s.aligned.get (posOf g)

/-- 03 R81: a group loses alignment, and the packet it is receiving. -/
def State.loseAlignment (s : State) (g : Nat) : State :=
  let s := if s.groupAligned g then
      ({ s with aligned := s.aligned.set (posOf g) false } : State).inc (Obj.MSL_GROUP_REALIGN g) else s
  let s : State := { s with link := { s.link with asm := s.link.asm.set (posOf g) none } }
  (s.lanesOf g).foldl (fun s l => s.setLane l { s.lane l with marker := none }) s

/-- 03 R80: a group is aligned when every lane has block lock and a correct marker in the same stripe position. -/
def State.tryAlign (s : State) (g : Nat) : State :=
  match (s.lanesOf g).map (fun l => if (s.lane l).block then (s.lane l).marker else none) with
  | some p :: rest => if rest.all (fun m => m == some p) then { s with aligned := s.aligned.set (posOf g) true } else s
  | _ => s

/-! ### The intake (03 R86 to R104) -/

def State.setIntake (s : State) (p : Pos) (i : IntakePos) : State := { s with intake := s.intake.set p i }

/-- 03 R73, R87: the enabled position bound to a group and SRC. -/
def State.boundTo (s : State) (g src : Nat) : Option Pos :=
  allPos.find? (fun p => s.enabled p && !s.fpaHer p && s.groupOf p == g &&
    (s.inForce (Obj.MSL_SOURCE p.val)).toNat % 16 == src)

/-- The enabled positions bound to a group. -/
def State.boundIn (s : State) (g : Nat) : List Pos := allPos.filter (fun p => s.enabled p && !s.fpaHer p && s.groupOf p == g)

/-- 03 R82, R84 to R86: a packet passes all checks. -/
def pktGood (b : List Byte) : Bool :=
  let n := beAt b 8 2
  let ty := beAt b 0 1
  decide (b.length = 20 + 2 * n) && beAt b (16 + 2 * n) 4 == crc32 (b.take (16 + 2 * n)) &&
    ((ty == 1 && n == 8) || (ty == 2 && decide (n ≤ 2048)) || (ty == 3 && n == 0))

/-- 03 R84: the header is whole and its HCRC passes. -/
def hcrcOk (b : List Byte) : Bool := decide (16 ≤ b.length) && beAt b 15 1 == crc8 (b.take 15)

/-- 03 R86, R87: a packet as it arrives: the position and the packet when it counts, else what its discard counts. -/
def State.takePacket (s : State) (g : Nat) (b : List Byte) (malformed : Bool) : State × Option Pos :=
  if !hcrcOk b then
    let s := s.inc (Obj.MSL_CNT_HCRC g)
    match s.boundIn g with
    | [p] => (s.inc (Obj.INT_CNT_CRC p.val), none)
    | _ => (s, none)
  else
    match s.boundTo g (fieldOf (beAt b 1 1) 7 4) with
    | none => (s.inc (Obj.MSL_UNBOUND g), none)
    | some p => if malformed || !pktGood b then (s.inc (Obj.INT_CNT_CRC p.val), none) else (s, some p)

/-- 03 R101, Table 02-5: the intake runs in the imaging modes, and on the way to STANDBY until its domains are switched off. -/
def State.intakeOn (s : State) : Bool :=
  s.imaging || (match s.modes.running with | some r => r.target == 0 && s.mem.online | none => false)

/-- The packet reaches the intake: its group exists, is aligned, and the intake is powered (03 R80, R101). -/
def State.linkUp (s : State) (g : Nat) : Bool :=
  s.intakeOn && s.groupAligned g && !(s.lanesOf g).isEmpty && decide (g < 4)

/-- 03 R102: bytes a position holds in its reserve, and what all hold in the shared area. -/
def State.reserveUsed (s : State) (p : Pos) : Nat :=
  ((s.intake.get p).fifo.filter (fun r => !r.shared)).foldl (fun a r => a + r.bytes) 0
def State.sharedUsed (s : State) : Nat :=
  (allPos.map (fun p => ((s.intake.get p).fifo.filter (fun r => r.shared)).foldl (fun a r => a + r.bytes) 0)).foldl (· + ·) 0
def State.fillUsed (s : State) : Nat := (allPos.map s.reserveUsed).foldl (· + ·) 0 + s.sharedUsed

/-- 03 R102: where a packet of so many bytes is admitted: false the reserve, true the shared area, none not at all. -/
def State.bufferRoom (s : State) (p : Pos) (bytes : Nat) : Option Bool :=
  if s.reserveUsed p + bytes ≤ 65536 then some false
  else if s.sharedUsed + bytes ≤ 524288 - 65536 * (allPos.filter s.enabled).length then some true
  else none

/-- A piece of a row joins the buffer; the peak fill follows (R104). -/
def State.push (s : State) (p : Pos) (r : RowPkt) : State :=
  let i := s.intake.get p
  let s := s.setIntake p { i with fifo := i.fifo ++ [r] }
  if s.o Obj.INT_BUF_PEAK < s.fillUsed then s.setO Obj.INT_BUF_PEAK s.fillUsed else s

/-- A synthesised piece of a row: value 0, INVALID (03 R96).  It takes no room in the intake buffer: DESIGN CHOICE (log 73). -/
def synthPkt (num slot row col0 n : Nat) : RowPkt :=
  { num := num, slot := slot, row := row, col0 := col0, data := List.replicate n 0, invalid := true, synth := true,
    subt := none, bytes := 0, shared := false, entries := none }

def State.setOpen (s : State) (p : Pos) (f : OpenFrame) : State := s.setIntake p { s.intake.get p with frm := some f }

/-- 03 R96: the unfinished row of a slot is filled to the width. -/
def State.fillRow (s : State) (p : Pos) (k : Pos) : State :=
  match (s.intake.get p).frm with
  | none => s
  | some f =>
    let x := f.slots.get k
    match x.lastRow with
    | some r =>
      if x.nextCol < f.width then
        ((s.setOpen p { f with short := true, slots := f.slots.set k { x with nextCol := f.width } }).incBy
          (Obj.INT_CNT_COLS_FILLED p.val) (f.width - x.nextCol)).push p
          (synthPkt f.num k.val r x.nextCol (f.width - x.nextCol))
      else s
    | none => s

/-- 03 R96: rows of a slot up to before `row` are synthesised; the last of them counts as the slot's last row. -/
def State.fillRows (s : State) (p : Pos) (k : Pos) (row : Nat) : State :=
  match (s.intake.get p).frm with
  | none => s
  | some f =>
    let x := f.slots.get k
    let from_ := (x.lastRow.map (· + 1)).getD 0
    if from_ < row then
      let s := (s.setOpen p { f with
          short := true,
          slots := f.slots.set k { lastRow := some (row - 1), nextCol := f.width, pkts := 0, fault := false } }).incBy
        (Obj.INT_CNT_ROWS_FILLED p.val) (row - from_)
      (List.range (row - from_)).foldl (fun s i => s.push p (synthPkt f.num k.val (from_ + i) 0 f.width)) s
    else s

/-- 03 R95, R96: readouts discarded beyond the geometry or overlapping. -/
def State.truncate (s : State) (p : Pos) (n : Nat) : State :=
  match (s.intake.get p).frm with
  | some f => if n = 0 then s else (s.setOpen p { f with long := true }).incBy (Obj.INT_CNT_TRUNC p.val) n
  | none => s

/-- 03 R103: a packet that cannot be admitted. -/
def State.overflowed (s : State) (p : Pos) : State :=
  match (s.intake.get p).frm with
  | some f =>
    let s := s.inc (Obj.INT_CNT_OVERFLOW p.val)
    if f.ovf then s else (s.setOpen p { f with ovf := true }).notify 0x0001 p.val [(4, f.num)]
  | none => s

/-- An admitted row packet: skipped rows and columns are filled ahead of it, readouts beyond the geometry or already
received are dropped (03 Table 03-4); a packet of a split row that begins below them is cut so, and not counted as out of order (R94):
DESIGN CHOICE (log 73).  ROIC_FAULT counts once a row (Table 03-9), and of a split row makes the readouts of its own
packet INVALID: DESIGN CHOICE (log 73). -/
def State.acceptRow (s : State) (p : Pos) (k : Pos) (row col0 : Nat) (data : List Nat) (fault : Bool) (subt : Option Nat)
    (shared : Bool) (bytes : Nat) : State :=
  match (s.intake.get p).frm with
  | none => s
  | some f0 =>
    let again := (f0.slots.get k).lastRow = some row
    let s := if again then s else (s.fillRow p k).fillRows p k row
    let f := ((s.intake.get p).frm).getD f0
    let x := f.slots.get k
    let next := if again then x.nextCol else 0
    let lost := min data.length (next - col0)
    let at_ := max next col0
    let keep := (data.drop lost).take (f.width - at_)
    let s := s.truncate p (data.length - keep.length)
    let f := ((s.intake.get p).frm).getD f
    let gap := min at_ f.width - next
    let f1 : OpenFrame := { f with
      lastAt := s.time.now, short := f.short || decide (0 < gap),
      subt := if f.subt.isSome then f.subt else subt,
      slots := f.slots.set k { lastRow := some row, nextCol := min f.width (at_ + keep.length),
                               pkts := if again then x.pkts + 1 else 1, fault := (again && x.fault) || fault } }
    let s := (s.setOpen p f1).incBy (Obj.INT_CNT_COLS_FILLED p.val) gap
    let s := if 0 < gap then s.push p (synthPkt f.num k.val row next gap) else s
    let s := if fault && !(again && x.fault) then s.inc (Obj.INT_CNT_ROIC p.val) else s
    s.push p { num := f.num, slot := k.val, row := row, col0 := at_, data := keep, invalid := fault, synth := false,
               subt := subt, bytes := bytes, shared := shared, entries := none }

/-- 03 R94, R95: whether a row packet is out of order: its row is not above the last one of the slot, unless it continues
that row as its second to fourth packet. -/
def OpenFrame.outOfOrder (f : OpenFrame) (k : Pos) (row : Nat) : Bool :=
  match (f.slots.get k).lastRow with
  | none => false
  | some r => decide (row < r) || (row == r && (decide (f.width ≤ (f.slots.get k).nextCol) || decide (4 ≤ (f.slots.get k).pkts)))

/-- 03 R94 to R96, R103: a row of readouts offered to the open frame.  A row at or above INT_HEIGHT is discarded, and its packet
yet counts as accepted for the idle timeout of R89: DESIGN CHOICE (log 73). -/
def State.offerRow (s : State) (p : Pos) (k : Pos) (row col0 : Nat) (data : List Nat) (fault : Bool) (subt : Option Nat) : State :=
  match (s.intake.get p).frm with
  | none => s
  | some f =>
    let bytes := 2 * data.length + 16
    if !bitAt f.mask k.val then s.inc (Obj.INT_CNT_GEOM p.val)
    else if f.height ≤ row then (s.truncate p data.length).setOpen p { f with lastAt := s.time.now, long := true }
    else if f.outOfOrder k row then s.inc (Obj.INT_CNT_ORDER p.val)
    else
      match s.bufferRoom p bytes with
      | none => s.overflowed p
      | some sh => s.acceptRow p k row col0 data fault subt sh bytes

/-- The readouts of a ROW packet. -/
def pktWords (b : List Byte) : List Nat := (List.range (beAt b 8 2)).map (fun i => beAt b (16 + 2 * i) 2)

/-- 03 R91: a packet outside an open frame or with another tag; R90: of an unsolicited frame. -/
def State.stray (s : State) (p : Pos) : State := s.inc (Obj.INT_CNT_STRAY p.val)

/-- 03 R89, R96, R97: the intake closes the open frame: missing columns and rows are filled, the flags are final.  A frame of the
heritage port, which knows no FRAME_START, does not count in INT_CNT_NO_START (R92): DESIGN CHOICE (log 73). -/
def State.intakeClose (s : State) (p : Pos) (cause at_ : Nat) : State :=
  match (s.intake.get p).frm with
  | none => s
  | some f0 =>
    let s := (maskBits f0.mask).foldl (fun s k => (s.fillRow p (posOf k)).fillRows p (posOf k) f0.height) s
    let f := ((s.intake.get p).frm).getD f0
    let s := if f.short then s.inc (Obj.INT_CNT_SHORT p.val) else s
    let s := if f.long then s.inc (Obj.INT_CNT_LONG p.val) else s
    let s := if f.gotStart || s.fpaHer p then s else s.inc Obj.INT_CNT_NO_START
    let s := if f.short && f.dropShort then s.inc (Obj.INT_CNT_DROPPED p.val) else s
    (s.setIntake p { s.intake.get p with
        frm := none, ended := (s.intake.get p).ended ++ [{ f with close := cause, closedAt := at_ }], closedAt := at_,
        lastOvf := f.ovf, lastGeom := f.geomBad, lastLong := f.long, lastShort := f.short }).setO
      (Obj.INT_LAST_CLOSE p.val) cause

/-- 03 R101: on entry to SAFE the open frame and the buffered readouts are discarded. -/
def State.intakeDiscard (s : State) (p : Pos) : State :=
  let i := s.intake.get p
  let s := if i.frm.isSome then s.setO (Obj.INT_LAST_CLOSE p.val) 4 else s
  s.setIntake p { i with
      frm := none, ended := [], fifo := [],
      closedAt := if i.frm.isSome then s.time.now else i.closedAt }

/-- 02 R32: the mode and transaction in force at an instant. -/
def State.modeAt (s : State) (t : Nat) : Nat × Nat :=
  if s.modes.since ≤ t then (s.mode, s.modes.txn) else (s.modes.prevMode, s.modes.prevTxn)

/-- 03 R88: a mark opens exactly one frame of the position, under the set that is active at the mark (07 R265: it governs
that frame from its hand-over). -/
def State.openFrame (s : State) (p : Pos) (st : Start) (kind : Nat) : State :=
  let i := s.intake.get p
  let m := s.modeAt st.s
  let slot : SlotRx := { lastRow := none, nextCol := 0, pkts := 0, fault := false }
  let f : OpenFrame :=
    { num := i.nextNum, start := st.s, lastAt := st.s, gotStart := false, geomBad := false, short := false, long := false,
      ovf := false, slots := Quad.all slot, subt := if s.fpaHer p then i.hpSubt else none, hpRow := 0, mode := m.1, txn := m.2,
      eclKind := kind, width := (s.act p (Obj.INT_WIDTH p.val)).toNat, height := (s.act p (Obj.INT_HEIGHT p.val)).toNat,
      mask := s.slotMask p,
      timeout := (s.act p (Obj.INT_IDLE_TIMEOUT p.val)).toNat * 1000,
      dropShort := s.act p (Obj.INT_SHORT_POLICY p.val) == 1, close := 0, closedAt := 0, trigKind := st.kind, trigT := st.t,
      trigE := st.e, trigSeq := st.seq }
  s.setIntake p { i with frm := some f, nextNum := (i.nextNum + 1) % 2 ^ 32, hpSubt := none,
                         unsol := i.unsol.filter (· != i.nextNum % 65536) }

/-- 03 R119, 07 R254: at a START the FPA applies its shadow; the acknowledged values in effect are shown. -/
def State.applyShadow (s : State) (p : Pos) : State :=
  let f := s.fpa.get p
  let lsb := (s.inForce (Obj.FPA_TINT_LSB p.val)).toNat
  ((s.setFpa p { f with effTint := f.shadowTint, effMask := f.shadowMask, oldTint := f.effTint, oldMask := f.effMask }).setO (Obj.INTG_SLOT_ACK p.val) f.shadowMask).setOs
    ((List.range 4).map (fun k => (Obj.INTG_TINT_ACK p.val k, ((f.shadowTint.getD k 0 * lsb : Nat) : Int))))

end Sys2Proof.Machine
end

