-- ==== Sys2Proof/Machine/TrigOps.lean ====
section
/-!
DEFINITION. Trigger generators, scheduled and held starts, mark instants, trigger outputs and steps of chain time
(08 R287 to R319).
-/
namespace Sys2Proof.Machine

def State.setTrig (s : State) (p : Pos) (g : TrigPos) : State := { s with trig := s.trig.set p g }
def State.enc (s : State) (e : Bool) : Encoder := if e then s.enc1 else s.enc0
def State.setEnc (s : State) (e : Bool) (x : Encoder) : State := if e then { s with enc1 := x } else { s with enc0 := x }

/-! ### Trigger outputs (08 R318, R319) -/

/-- 02 R51: the outputs drive in PREPARE, RUN and ECLIPSE. -/
def State.trigOutDrives (s : State) : Bool := s.mode == 1 || s.mode == 2 || s.mode == 3

/-- A pulse waits for its instant plus TO_DELAY; its width is that of the instant. -/
def State.pulseAt (s : State) (i : Pos) (at_ : Nat) : State :=
  { s with trigOut := s.trigOut.upd i (fun o => { o with
      pend := o.pend ++ [(at_ + 4 * s.o (Obj.TO_DELAY i.val), 4 * s.o (Obj.TO_WIDTH i.val))] }) }

/-- The outputs whose configuration has a mode and a source. -/
def State.outsOf (s : State) (mode src : Nat) : List Pos :=
  allPos.filter (fun i => s.o (Obj.TO_CFG i.val) / 64 == mode && s.o (Obj.TO_CFG i.val) % 4 == src)

/-- 08 R318: what an actual start does to the outputs of its position. -/
def State.outsStart (s : State) (p : Pos) (at_ : Nat) : State :=
  let s := (s.outsOf 1 p.val).foldl (fun s i => s.pulseAt i at_) s
  if s.trigOutDrives then
    (s.outsOf 2 p.val).foldl (fun s i => { s with trigOut := s.trigOut.upd i (fun o => { o with high := true }) }) s
  else s

/-- 08 R318: LEVEL falls when the source position's frame closes. -/
def State.outsClose (s : State) (p : Pos) : State :=
  (s.outsOf 2 p.val).foldl (fun s i => { s with trigOut := s.trigOut.upd i (fun o => { o with high := false }) }) s

/-- 02 R51: held low in the other modes. -/
def State.outsLow (s : State) : State := { s with trigOut := s.trigOut.map (fun o => { o with high := false, pend := [] }) }

/-! ### Starts (08 R307 to R316) -/

/-- 06 R216, 08 R314: the bound source is ignored from F0 to the end of OPENING. -/
def State.eclHold (s : State) (p : Pos) : Bool := (s.ecl.get p).f0Start.isSome && !(s.ecl.get p).openingDone

/-- 06 R211: the opening pulse of an entry still waits or runs; no mark comes before it. -/
def State.opensFirst (s : State) (p : Pos) : Bool :=
  (s.shut.queue ++ (s.shut.running.map (·.1)).toList).any (fun x => x.pos == p && x.purpose == 1)

/-- Starts are taken while the position images, its shutter has been opened and the FPAs are programmed (08 R316, 02 R603,
06 R211). -/
def State.takesStarts (s : State) (p : Pos) : Bool :=
  s.imaging && s.enabled p && !s.pwr.fpaOff.get p && !s.opensFirst p && (match s.modes.running with | some r => r.frm != 0 | none => true)

/-- A start into the queue of a position, in order of s. -/
def insStart (x : Start) : List Start → List Start
  | [] => [x]
  | y :: r => if x.s < y.s then x :: y :: r else y :: insStart x r

/-- 08 R309: the decision point of a start. -/
def State.decision (s : State) (p : Pos) (at_ : Nat) : Nat := at_ - s.ttx (s.fpaSel p) - 1000

/-- 08 R308, R309, R314: an event of the bound source schedules a start. -/
def State.trigEvent (s : State) (p : Pos) (st : Start) : State :=
  if !s.takesStarts p then s
  else if s.eclHold p then s.inc (Obj.TRIG_CNT_ECL_IGNORED p.val)
  else if s.decision p st.s < s.time.now then s.inc (Obj.TRIG_CNT_LATE p.val)
  else if 8 ≤ (s.trig.get p).queue.length then s.inc (Obj.TRIG_CNT_QUEUE_FULL p.val)
  else s.setTrig p { s.trig.get p with queue := insStart st (s.trig.get p).queue }

/-- Releases of the marks committed on a select (08 R312: a held start's mark is committed once its instant is known). -/
def State.committed (s : State) (sel : Pos) : List Nat :=
  (s.onSel sel).flatMap (fun p => (s.trig.get p).marks.map (·.1) ++ (s.trig.get p).heldAt.toList)

/-- 08 R313: a mark that would release at `x` clashes with a committed mark, or with a transaction that has begun, or would begin
less than 1 µs after the release of the last one. -/
def State.clashes (s : State) (sel : Pos) (x : Nat) : Bool :=
  let d := s.ttx sel
  (s.committed sel).any (fun r => r / 4 != x / 4 && decide (¬ (x + 1000 + d ≤ r ∨ r + 1000 + d ≤ x))) ||
    (match (s.sp0.get sel).busy with
     | some b => !(b.kind == 0 && b.endAt / 4 == x / 4) && decide (x < b.endAt + 1000 + d)
     | none => false) ||
    decide (0 < (s.sp0.get sel).lastRelease ∧ x < (s.sp0.get sel).lastRelease + 1000 + d)

/-- Round up to the next 4 ns. -/
def up4 (x : Nat) : Nat := (x + 3) / 4 * 4

/-- 08 R312: the end of any clash, tried in turn against each committed mark and the running transaction. -/
def State.clashEnd (s : State) (sel : Pos) : Nat → Nat → Nat
  | 0, x => x
  | n + 1, x =>
    if s.clashes sel x then
      let d := s.ttx sel
      let ends := ((s.committed sel).filter (fun r => decide (¬ (x + 1000 + d ≤ r ∨ r + 1000 + d ≤ x))) ++
        (((s.sp0.get sel).busy.map (·.endAt)).toList) ++ [(s.sp0.get sel).lastRelease]).map (fun r => r + 1000 + d)
      s.clashEnd sel n (up4 (ends.foldl max x))
    else x

/-- 08 R312: the instant of a held start for `at_` once the previous frame has closed: not before the start itself. -/
def State.heldInstant (s : State) (p : Pos) (at_ : Nat) : Nat :=
  let sel := s.fpaSel p
  let a := (s.intake.get p).closedAt + s.o (Obj.INT_VBLANK_MIN p.val)
  let b := (((s.trig.get p).lastStart).map (· + (s.gov p (Obj.TRIG_MIN_PERIOD p.val)).toNat)).getD 0
  s.clashEnd sel 16 (up4 (max (max (max a b) at_) (s.time.now + s.ttx sel)))

/-- The position's previous frame has closed, and no mark is on its way. -/
def State.prevClosed (s : State) (p : Pos) : Bool := (s.intake.get p).frm.isNone && (s.trig.get p).marks.isEmpty

/-- 08 R312: the held start's instant is computed when the previous frame has closed. -/
def State.computeHeld (s : State) (p : Pos) : State :=
  match (s.trig.get p).held with
  | some st =>
    if (s.trig.get p).heldAt.isNone && s.prevClosed p then
      s.setTrig p { s.trig.get p with heldAt := some (s.heldInstant p st.s) }
    else s
  | none => s

/-- 08 R310: rules 1 and 2 of an allowed start. -/
def State.startAllowed (s : State) (p : Pos) (st : Start) : Bool :=
  let g := s.trig.get p
  !s.pwr.fpaOff.get p && s.prevClosed p && g.heldAt.isNone &&
    (g.lastStart.isNone || decide ((s.intake.get p).closedAt + s.o (Obj.INT_VBLANK_MIN p.val) ≤ st.s)) &&
    (match g.lastStart with
     | some l => decide (l + (s.gov p (Obj.TRIG_MIN_PERIOD p.val)).toNat ≤ st.s)
     | none => true)

/-- 08 R315: under a halved rate every second start that would be made is dropped, the first one is made. -/
def State.commitStart (s : State) (p : Pos) (at_ : Nat) (st : Start) : State :=
  let g := s.trig.get p
  if s.therm.inHalf.get p && g.dropNext then
    (s.setTrig p { g with dropNext := false }).inc (Obj.TRIG_CNT_THROTTLED p.val)
  else s.setTrig p { g with marks := g.marks ++ [(at_, st)], dropNext := s.therm.inHalf.get p }

/-- 08 R311, R312: a start that is not allowed. -/
def State.notAllowed (s : State) (p : Pos) (st : Start) : State :=
  let g := s.trig.get p
  if s.gov p (Obj.TRIG_POLICY p.val) = 1 ∧ g.held.isNone then
    ((s.setTrig p { g with held := some st, heldAt := none }).inc (Obj.TRIG_CNT_HELD p.val)).computeHeld p
  else s.inc (Obj.TRIG_SKIPPED p.val)

/-- 08 R310 to R313: the decision on the next start of a position. -/
def State.decide_ (s : State) (p : Pos) : State :=
  match (s.trig.get p).queue with
  | [] => s
  | st :: rest =>
    if s.time.now < s.decision p st.s then s
    else
      let s := s.setTrig p { s.trig.get p with queue := rest }
      let clash := s.clashes (s.fpaSel p) st.s
      let allowed := s.startAllowed p st && !clash
      let s := if clash then s.inc (Obj.TRIG_CNT_CLASH p.val) else s
      if allowed then s.commitStart p st.s st else s.notAllowed p st

/-- Scheduled and held starts whose mark transaction has not begun are discarded (08 R289, R316); those of one time-clock cycle share
one transaction (R313). -/
def State.discardStarts (s : State) (p : Pos) : State :=
  let begun := match (s.sp0.get (s.fpaSel p)).busy with
    | some b => if b.kind = 0 ∧ b.words.any (fun w => w.1 == p && (w.2.op == 2 || w.2.op == 6)) then [b.endAt / 4] else []
    | none => []
  s.setTrig p { s.trig.get p with
    queue := [], held := none, heldAt := none, marks := (s.trig.get p).marks.filter (fun m => begun.contains (m.1 / 4)) }

def State.discardAllStarts (s : State) : State := allPos.foldl State.discardStarts s

/-! ### Generators (08 R300 to R306) -/

def State.setTg (s : State) (g : Pos) (x : Generator) : State := { s with tg := s.tg.set g x }

/-- 08 R301: N. -/
def State.tgN (s : State) (g : Pos) : Nat := let n := s.o (Obj.TG_DIVIDE g.val); if n = 0 then 2 ^ 32 else n

/-- 08 R302: the next thresholds strictly above and strictly below a count. -/
def State.rearm (s : State) (g : Pos) : State :=
  let src := s.o (Obj.TG_SOURCE g.val)
  if src = 1 ∨ src = 2 then
    let c : Int := s.oi (Obj.ENC_COUNT (src - 1))
    let off : Int := s.oi (Obj.TG_OFFSET g.val)
    let n : Int := s.tgN g
    let up := off + ((c - off) / n + 1) * n
    let dn := off + ((c - off - 1) / n) * n
    s.setTg g { s.tg.get g with nextUp := toCode 64 up, nextDn := toCode 64 dn }
  else s

/-- 08 R289, R301: the next TIMER instant of a generator, after a change of its settings or of chain time. -/
def State.rearmTimer (s : State) (g : Pos) : State :=
  let per := s.o (Obj.TG_PERIOD g.val)
  let ph := s.o (Obj.TG_PHASE g.val)
  let k := if s.time.now < ph then 0 else (s.time.now - ph) / per + 1
  s.setTg g { s.tg.get g with nextTimer := k * per + ph }

/-- 08 R302: a generator whose source is this encoder takes its thresholds anew. -/
def State.rearmEnc (s : State) (e : Nat) : State :=
  allPos.foldl (fun s g => if s.o (Obj.TG_SOURCE g.val) = 1 + e then s.rearm g else s) s

/-- 08 R305: a TRIGGER_EVENT leaves on both chain ports, without the steward (10 R372). -/
def State.publish (s : State) (c seq t st e : Nat) : State :=
  let tele := s.telegram 0x20 0 0xFF 0 0
    ([byteOf c, 0#8] ++ beBytes 2 seq ++ beBytes 8 t ++ beBytes 8 st ++ beBytes 8 e)
  [false, true].foldl (fun s b =>
    if (s.port b).link && !s.extest then
      s.emit (.chain (b2n b) (List.replicate 6 0xFF#8 ++ beBytes 6 (s.o (Obj.CHAIN_MAC (b2n b))) ++ tele) true)
    else s) s

/-- 08 R306, R307: the positions whose binding in force is this source take the event. -/
def State.deliver (s : State) (source : Nat) (st : Start) : State :=
  allPos.foldl (fun s p =>
    if s.binding p = source then s.trigEvent p { st with kind := source } else s) s

/-- 08 R300 to R306: an event of a generator at chain time `t`. -/
def State.genEvent (s : State) (g : Pos) (t : Nat) : State :=
  let x := s.tg.get g
  let early := match x.lastT with
    | some l => decide (t < l + s.o (Obj.TG_HOLDOFF g.val) ∧ l < t + s.o (Obj.TG_HOLDOFF g.val))
    | none => false
  if early then s.inc (Obj.TG_CNT_SUPPRESSED g.val)
  else
    let e := s.o (Obj.ENC_COUNT (s.o (Obj.TG_ENC_REF g.val)))
    let st := t + 1000 * s.o (Obj.TG_LEAD g.val)
    let c := s.o (Obj.TG_PUBLISH g.val)
    let pub := c < 8 ∧ s.fwUp = true ∧ s.o Obj.TIME_STATE = 2
    let s := ((s.setTg g { x with lastT := some t, seq := if pub then (x.seq + 1) % 65536 else x.seq }).inc
      (Obj.TG_CNT_EVENTS g.val)).setO (Obj.TG_LAST_TIME g.val) t
    let s := (s.outsOf 3 g.val).foldl (fun s i => s.pulseAt i t) s
    let s := if pub then s.publish c x.seq t st e else if c < 8 then s.inc (Obj.TG_CNT_SUPPRESSED g.val) else s
    let ev : Start := { s := st, t := t, e := e, kind := 0, seq := 0 }
    let s := s.deliver (0x40 + g.val) ev
    if c < 8 then s.deliver (0x80 + c) { ev with seq := if pub then x.seq else 0 } else s

/-- 08 R301, R302: the count of an encoder has changed by one step up (or down): thresholds that it reaches fire. -/
def State.countReached (s : State) (e : Nat) (up : Bool) (t : Nat) : State :=
  allPos.foldl (fun s g =>
    if s.o (Obj.TG_SOURCE g.val) = 1 + e then
      let x := s.tg.get g
      let c := s.o (Obj.ENC_COUNT e)
      let n := s.tgN g
      let add := (c + n) % 2 ^ 64
      let sub := (c + 2 ^ 64 - n) % 2 ^ 64
      match s.o (Obj.TG_DIR g.val), up with
      | 0, true => if c = x.nextUp then (s.setTg g { x with nextUp := add }).genEvent g t else s
      | 1, false => if c = x.nextDn then (s.setTg g { x with nextDn := sub }).genEvent g t else s
      | 2, true => if c = x.nextUp then (s.setTg g { x with nextUp := add, nextDn := sub }).genEvent g t else s
      | 2, false => if c = x.nextDn then (s.setTg g { x with nextUp := add, nextDn := sub }).genEvent g t else s
      | _, _ => s
    else s) s

/-! ### Chain time (08 R286 to R289) -/

/-- The state of the slave clock changes; leaving LOCKED counts (08 Table 08-4). -/
def State.timeState (s : State) (n : Nat) : State :=
  let s := if s.o Obj.TIME_STATE = 2 ∧ n ≠ 2 then s.inc Obj.TIME_CNT_LOCK_LOSS else s
  let s := if n = 3 ∧ s.o Obj.TIME_STATE ≠ 3 then
      ({ s with time := { s.time with holdoverAt := s.time.mono } } : State).setO Obj.TIME_HOLDOVER_ERR 0 else s
  ({ s with time := { s.time with good := 0, bad := 0 } } : State).setO Obj.TIME_STATE n

/-- An instant moved by a step. -/
def moveBy (d : Int) (x : Nat) : Nat := ((x : Int) + d).toNat

/-- What runs across a step of chain time keeps its length: DEDUCED (log 77). -/
def State.moveTimers (s : State) (d : Int) : State :=
  let mv := moveBy d
  { s with
    modes := { s.modes with running := s.modes.running.map (fun r => { r with deadline := mv r.deadline }),
                            joined := s.modes.joined.map (fun r => { r with deadline := mv r.deadline }) },
    vdet := s.vdet.map (fun v => { v with rampEnd := v.rampEnd.map mv, settleAt := v.settleAt.map mv, settled := if v.settled = 0 then 0 else mv v.settled }),
    intake := s.intake.map (fun i => { i with closedAt := mv i.closedAt, frm := i.frm.map (fun f => { f with lastAt := mv f.lastAt }) }),
    shut := { s.shut with lastEnd := s.shut.lastEnd.map mv, running := s.shut.running.map (fun r => (r.1, mv r.2)),
                          closedPin := s.shut.closedPin.map (·.map mv), openPin := s.shut.openPin.map (·.map mv) },
    ecl := s.ecl.map (fun e => { e with retryAt := e.retryAt.map mv, coveredTill := 0 }),
    sp0 := s.sp0.map (fun c => { c with lastRelease := if c.lastRelease = 0 then 0 else mv c.lastRelease,
                                        busy := c.busy.map (fun b => { b with endAt := mv b.endAt }) }),
    dma := s.dma.map (fun c => { c with cur := c.cur.map (fun x => { x with t0 := mv x.t0 }) }),
    time := { s.time with ppsEnd := mv s.time.ppsEnd, sync := s.time.sync.map (fun x => (x.1, x.2 + d * 65536)),
                          delayAt := s.time.delayAt.map (· + d * 65536) } }

/-- 08 R289: chain time steps to a new value; scheduled starts and held triggers are discarded and every TIMER generator is
armed anew. -/
def State.stepTime (s : State) (to_ : Nat) : State :=
  let d : Int := (to_ : Int) - s.time.now
  let s := (({ s with time := { s.time with now := to_ } } : State).moveTimers d).discardAllStarts
  let s := allPos.foldl State.rearmTimer s
  (s.inc Obj.TIME_CNT_STEP).notify 0x0032 0xFF [(8, toCode 64 d)]

end Sys2Proof.Machine
end

