-- ==== Sys2Proof/Machine/PipeOps.lean ====
section
/-!
DEFINITION. The pixel path over the state: prefetch, correction, heritage rows, replacement and tail, merge and radiometry,
output filters, taps, the statistics of a frame and auto-integration (04, 05, 07 R269 to R282, 09 R337, R338).
-/
namespace Sys2Proof.Machine

def State.setPipe (s : State) (p : Pos) (x : PipePos) : State := { s with pipe := s.pipe.set p x }

/-! ### Planes of a position (12 Table 12-2) -/

def baseAt (p : Pos) (r c : Nat) : Nat := posBase p + pixOff r c 16
def slotAt (p : Pos) (r c : Nat) : Nat := posBase p + 0x3000000 + pixOff r c 8
def sumsAt (p : Pos) (r c : Nat) : Nat := posBase p + 0x4800000 + pixOff r c 24
def histAt (p : Pos) (r c k : Nat) : Nat := posBase p + 0x9000000 + pixOff r c 8 + 2 * k
def tauHistAt (p : Pos) (r c : Nat) : Nat := posBase p + 0xA800000 + pixOff r c 8
def filtAt (p : Pos) (r c : Nat) : Nat := posBase p + 0xC000000 + pixOff r c 2
def stampAt (p : Pos) (r k : Nat) : Nat := posBase p + 0xC600000 + (k * 1536 + r) * 8
def validAt (p : Pos) (r : Nat) : Nat := posBase p + 0xC610000 + r / 8
def stageAt (p : Pos) (k r c : Nat) : Nat := posBase p + 0xC800000 + ((k * 1536 + r) * 2048 + c) * 3

/-- 05 R176: STATE and start time of a row stamp. -/
def State.stamp (s : State) (p : Pos) (r k : Nat) : Nat × Nat :=
  let w := s.dramN (stampAt p r k) 8
  (w / 2 ^ 62, w % 2 ^ 62)

def State.setStamp (s : State) (p : Pos) (r k st time : Nat) : State :=
  s.setDram (stampAt p r k) (leBytes 8 (st * 2 ^ 62 + time % 2 ^ 62))

/-- 05 R178: every row stamp of the position EMPTY. -/
def State.emptyStamps (s : State) (p : Pos) : State :=
  { s with mem := { s.mem with
      dram := Store.dropRange s.mem.dram (posBase p + 0xC600000) (posBase p + 0xC600000 + 1536 * 4 * 8) } }

/-- 05 R202: every row's valid bit clear. -/
def State.clearRowValid (s : State) (p : Pos) : State :=
  { s with mem := { s.mem with dram := Store.dropRange s.mem.dram (posBase p + 0xC610000) (posBase p + 0xC610000 + 192) } }

/-- 05 R177: the row's stamp after its readouts: VALID, PARTIAL, or kept. -/
def State.stampRow (s : State) (p : Pos) (r k start : Nat) (invalid : List Bool) : State :=
  if invalid.all (fun b => !b) then s.setStamp p r k 1 start
  else if invalid.all (fun b => b) then s.inc (Obj.TAIL_CNT_HELD p.val)
  else s.setStamp p r k 2 start

/-! ### Taps (09 R337, R338) -/

/-- The samples of a row a tap takes of this frame; `k` is the slot for T0 to T3. -/
def FrameCtx.tapTakes (x : FrameCtx) (p : Pos) (n k r : Nat) : Bool :=
  let y := clipSpan (x.n (Obj.TAP_WIN_Y n)) x.height
  x.n (Obj.TAP_EN n) == 1 && x.n (Obj.TAP_POS n) == p.val && x.num % x.n (Obj.TAP_DECIM n) == 0 &&
    decide (y.1 ≤ r ∧ r < y.1 + y.2) && (decide (4 ≤ n) || x.n (Obj.TAP_SLOT n) == k)

def State.tapPut (s : State) (x : FrameCtx) (p : Pos) (n k r : Nat) (vals : List Nat) : State :=
  if x.tapTakes p n k r then
    let w := clipSpan (x.n (Obj.TAP_WIN_X n)) x.width
    let t := s.taps.getD n TapSt.reset
    { s with taps := s.taps.set n { t with rows := t.rows ++ [(k, r, (vals.drop w.1).take w.2)] } }
  else s

/-! ### Prefetch and slices (04 R129 to R145) -/

/-- 04 R142: the slice that a column goes to. -/
def sliceOf (col : Nat) : Nat := col / 32 % 8

/-- 04 R142: the blocks of 32 columns of a packet that a slice takes. -/
def sliceBlocks (c0 n k : Nat) : List Nat :=
  ((List.range 64).filter (fun b => decide (c0 < 32 * b + 32 ∧ 32 * b < c0 + n))).filter (fun b => sliceOf (32 * b) == k)

/-- 04 R142, R144: the prefetcher of a slice reads the 512 bytes of base plane of a block, or takes them from the block it holds. -/
def State.baseBlock (s : State) (p : Pos) (r b : Nat) : List Byte :=
  match (s.pipe.get p).blocks.find? (fun h => h.row == r && h.block == b) with
  | some h => h.base
  | none => s.dram (baseAt p r (32 * b)) 512

/-- 04 R142: the eight prefetchers fetch the blocks of a packet: block, 512 bytes of base plane, 256 bytes of slot plane. -/
def State.fetchBlocks (s : State) (p : Pos) (r c0 n : Nat) : List (Nat × List Byte × List Byte) :=
  (List.range 8).flatMap (fun k => (sliceBlocks c0 n k).map (fun b =>
    (b, s.baseBlock p r b, s.dram (slotAt p r (32 * b)) 256)))

/-- The entries of consecutive pixels of a row for a slot, out of the blocks fetched. -/
def blockEntries (bs : List (Nat × List Byte × List Byte)) (c0 n k : Nat) : List Entry :=
  (List.range n).map (fun i =>
    let c := c0 + i
    match bs.find? (fun b => b.1 == c / 32) with
    | some b => entryOf (slice b.2.1 (c % 32 * 16) 16) (slice b.2.2 (c % 32 * 8) 8) k
    | none => entryOf [] [] k)

/-- 03 R94, 04 R144: the blocks held after a packet: a block fetched serves the next eight row packets of the position. -/
def heldAfter (held : List HeldBlock) (r : Nat) (bs : List (Nat × List Byte × List Byte)) : List HeldBlock :=
  let old := (held.filter (fun h => decide (1 < h.left))).map (fun h => { h with left := h.left - 1 })
  old ++ ((bs.filter (fun b => !held.any (fun h => h.row == r && h.block == b.1))).map (fun b =>
    { row := r, block := b.1, base := b.2.1, left := 8 }))

/-- 04 R143, R144: the entries of the first packet of the frame in the pipeline that waits for them. -/
def State.prefetch (s : State) (p : Pos) : State :=
  match (s.pipe.get p).frm with
  | none => s
  | some x =>
    let i := s.intake.get p
    match i.fifo.findIdx? (fun r => r.entries.isNone && r.num == x.num) with
    | none => s
    | some j =>
      match i.fifo[j]? with
      | none => s
      | some r =>
        let bs := s.fetchBlocks p r.row r.col0 r.data.length
        (s.setIntake p { i with fifo := i.fifo.set j { r with entries := some (blockEntries bs r.col0 r.data.length r.slot) } }).setPipe p
          { s.pipe.get p with blocks := heldAfter (s.pipe.get p).blocks r.row bs }

/-- 04 R129, R131: the substrate track takes the packet's sample. -/
def State.takeSample (s : State) (p : Pos) (x : FrameCtx) (r : RowPkt) : State :=
  let y := s.pipe.get p
  match r.subt with
  | none => s
  | some t =>
    if x.heritage then s.setPipe p { y with gotSubt := true }
    else
      s.setPipe p { y with track := trackStep y.trackEmpty y.track (x.n (Obj.CORR_SUBT_SMOOTH p.val)) t, trackEmpty := false,
                           gotSubt := true }

/-- ΔT in force for the readouts of a packet (04 R129, R130). -/
def State.curDT (s : State) (p : Pos) : Int :=
  let y := s.pipe.get p
  if y.trackEmpty then 0 else deltaT y.track y.calib.t0

/-- 04 R133 to R136: the readouts of a packet, corrected, each in the slice of its column (R142); the slices work apart, so the row is
their results in column order. -/
def State.correctRow (s : State) (p : Pos) (x : FrameCtx) (r : RowPkt) (es : List Entry) : List CorrPx :=
  let lut := (s.pipe.get p).calib.lut.toArray
  (r.data.zip es).map (fun d => correctPx lut (x.n (Obj.CORR_TERM_MASK p.val)) (x.n (Obj.CORR_SAT_LEVEL p.val)) (s.curDT p) d.1
    r.invalid d.2)

/-- How many readouts of the packet saturated in R133 (04 R134). -/
def State.arithSat (s : State) (p : Pos) (x : FrameCtx) (r : RowPkt) (es : List Entry) : Nat :=
  let lut := (s.pipe.get p).calib.lut.toArray
  ((r.data.zip es).filter (fun d => correctSat lut (x.n (Obj.CORR_TERM_MASK p.val)) (s.curDT p) d.1 r.invalid d.2)).length

/-- Corrected readouts go to the line buffer, and are counted (04 R128, R145; 07 R275: SLOT_SAT).  A failing entry counts in
CORR_CNT_PLANE_CRC with every readout that uses it, a block that is held (R144) included: DESIGN CHOICE (log 74). -/
def State.toBuffer (s : State) (p : Pos) (k r : Nat) (px : List CorrPx) (synth : Bool) : State :=
  let s := s.eclCapture p (((s.pipe.get p).frm.map (·.eclKind)).getD 0) k r px synth
  let y := s.pipe.get p
  let sats := (px.filter (·.sat)).length
  (s.setPipe p { y with corr := joinRow k r px synth y.corr, slotSat := y.slotSat.modify k (· + sats) }).incBy
    (Obj.CORR_CNT_PLANE_CRC p.val) (px.filter (·.planeErr)).length

/-- A native packet through its slices. -/
def State.nativeRow (s : State) (p : Pos) (x : FrameCtx) (r : RowPkt) (es : List Entry) : State :=
  ((s.incBy (Obj.CORR_CNT_ARITH_SAT p.val) (s.arithSat p x r es))).toBuffer p r.slot r.row (s.correctRow p x r es) r.synth

/-! ### Heritage rows (04 R163 to R166, 05 R204) -/

/-- H1 on a row, with the raw rows above and below (edges replicate). -/
def herSnr (en : Bool) (w : List Int) (up mid dn : HerRow) : List Nat :=
  let a := fun (h : HerRow) => (h.px.map (·.1)).toArray
  mid.px.zipIdx.map (fun d => if d.1.2.1 then 0 else if en then her1 w (a up) (a mid) (a dn) d.2 else d.1.1)

/-- 05 R204: the H2 history of a pixel. -/
def State.herHist (s : State) (p : Pos) (r c : Nat) : Option Nat :=
  if (s.stamp p r 3).1 = 1 then some (s.dramN (histAt p r c 3) 2) else none

/-- H2 on a row: the values, stored back as history when the step runs. -/
def State.herTnr (s : State) (p : Pos) (x : FrameCtx) (h : HerRow) (v : List Nat) : State × List Nat :=
  if x.n Obj.HER_TNR_EN = 1 then
    let t := (h.px.zip v).zipIdx.map (fun d =>
      if d.1.1.2.1 then 0 else her2 (x.n Obj.HER_TNR_BETA) (s.herHist p h.row d.2) d.1.2)
    let s := ((h.px.zip t).zipIdx).foldl (fun s d =>
      if d.1.1.2.1 then s else s.setDram (histAt p h.row d.2 3) (leBytes 2 d.1.2)) s
    (s.stampRow p h.row 3 x.start (h.px.map (·.2.1)), t)
  else (s, v)

/-- One heritage row through H1 to H3 into the line buffer. -/
def State.herRow (s : State) (p : Pos) (x : FrameCtx) (up mid dn : HerRow) : State :=
  let kernel := (List.range 9).map (fun k => x.g (Obj.HER_SNR_KERNEL k))
  let y := s.herTnr p x mid (herSnr (x.n Obj.HER_SNR_EN == 1) kernel up mid dn)
  let s := y.1
  let cal := (s.pipe.get p).calib
  let dt : Int := match mid.subt with
    | some t => (t : Int) - cal.herTref
    | none => 0
  let px := (mid.px.zip y.2).map (fun d =>
    ({ raw := d.1.1, x := d.2, y := if d.1.2.1 then 0 else (her3 d.1.2.2 cal.herDrift dt d.2 : Nat),
       invalid := d.1.2.1, sat := decide (x.n (Obj.CORR_SAT_LEVEL p.val) ≤ d.1.1) && !d.1.2.1, planeErr := !d.1.2.2.chkOk,
       flags := d.1.2.2.flags, repl := 0, tau := 0 } : CorrPx))
  s.toBuffer p 0 mid.row px false

/-- A heritage piece joins its raw row; the row before it, and the last row itself, go on (H1 needs the next row). -/
def State.heritageRow (s : State) (p : Pos) (x : FrameCtx) (r : RowPkt) (es : List Entry) : State :=
  let y := s.pipe.get p
  let px := (r.data.zip es).map (fun d => (d.1, r.invalid, d.2))
  let old := y.rawRows.find? (fun h => h.row == r.row)
  let row : HerRow := match old with
    | some h => { h with px := h.px ++ px }
    | none => { row := r.row, px := px, subt := r.subt }
  let rows := (y.rawRows.filter (fun h => h.row != r.row)) ++ [row]
  let s := s.setPipe p { y with rawRows := rows }
  if row.px.length < x.width then s
  else
    let at_ := fun (k : Nat) => rows.find? (fun h => h.row == k)
    let s := match at_ (r.row - 1) with
      | some m => if r.row = 0 then s else s.herRow p x ((at_ (r.row - 2)).getD m) m row
      | none => s
    let s := if r.row + 1 = x.height then s.herRow p x ((at_ (r.row - 1)).getD row) row row else s
    s.setPipe p { s.pipe.get p with rawRows := rows.filter (fun h => decide (r.row ≤ h.row + 1)) }

/-- 03 R104: the buffer has a packet of the position to serve: of the frame in its pipeline, so the position is not draining. -/
def State.serves (s : State) (p : Pos) : Bool :=
  match (s.pipe.get p).frm, (s.intake.get p).fifo with
  | some x, r :: _ => r.num == x.num
  | _, _ => false

/-- 03 R104: the position whose turn it is, round robin after the one served last, passing over those with nothing to serve. -/
def State.bufferTurn (s : State) : Option Pos :=
  ((List.range 4).map (fun i => posOf (s.link.turn.val + 1 + i))).find? s.serves

/-- 04 R143, 03 R104: the readouts of the next packet of the position whose turn it is leave the buffer and enter their slices, once
their entries have arrived; until then the slices stall. -/
def State.enterSlice (s : State) (p : Pos) : State :=
  match (s.pipe.get p).frm, (s.intake.get p).fifo with
  | some x, r :: rest =>
    match r.entries with
    | some es =>
      if s.bufferTurn = some p then
        let s := { (s.setIntake p { s.intake.get p with fifo := rest }).takeSample p x r with link := { s.link with turn := p } }
        if x.heritage then s.heritageRow p x r es else s.nativeRow p x r es
      else s
    | none => s
  | _, _ => s

/-! ### Replacement and tail (04 R145 to R149, 05 R180 to R186, R191) -/

/-- The complete rows around row r of a slot, offsets -2 to 2. -/
def aroundRow (rows : List CorrRow) (k r width : Nat) : Around :=
  [(-2 : Int), -1, 0, 1, 2].map (fun d =>
    if (r : Int) + d < 0 then none
    else ((rows.find? (fun y => y.slot == k && y.row == ((r : Int) + d).toNat && y.px.length == width)).map (·.px.toArray)))

/-- 04 R148, 05 R186: the value of PREVIOUS. -/
def State.prevValue (s : State) (p : Pos) (r c k : Nat) : Option Int :=
  let h := s.dramN (histAt p r c k) 2
  if (s.stamp p r k).1 = 0 ∨ h = 0xFFFF then none else some (16 * h : Nat)

/-- 04 R145 to R149: the row of a slot after replacement. -/
def State.replRow (s : State) (p : Pos) (x : FrameCtx) (k r : Nat) (around : Around) (row : List CorrPx) : List ReplPx :=
  row.zipIdx.map (fun d =>
    if x.heritage then herReplace around d.2 d.1
    else replacePx around (x.n (Obj.CORR_DEFECT_EN p.val) == 1) (s.prevValue p r d.2 k) d.2 d.1)

/-- 05 R180 to R184 for a row. -/
def State.tailSteps (s : State) (p : Pos) (x : FrameCtx) (k r : Nat) (row : List ReplPx) : List TailStep :=
  let st := s.stamp p r k
  row.zipIdx.map (fun d =>
    tailPx (st.1 == 1) ((x.start : Int) - st.2) (s.dramN (histAt p r d.2 k) 2) (x.n (Obj.TAIL_STRENGTH p.val))
      (x.n (Obj.TAIL_CLIP p.val)) (x.n (Obj.TAIL_TAU_OVERRIDE p.val)) (s.o (Obj.TAIL_TAU_MEDIAN p.val)) d.1)

/-- 05 R204: a heritage row passes the tail stage as H4 times 16. -/
def herTail (p : ReplPx) : TailPx :=
  { z := 16 * p.y, invalid := p.invalid, sat := p.sat, clip := false, restart := false, replaced := p.replaced,
    unreplaced := p.unreplaced }

/-- 05 R183, R185: history, counters and noise sums of a row. -/
def State.tailWrite (s : State) (p : Pos) (k r : Nat) (ts : List TailStep) : State :=
  let s := ts.zipIdx.foldl (fun s d =>
    match d.1.hist with
    | some h => s.setDram (histAt p r d.2 k) (leBytes 2 h)
    | none => s) s
  let y := s.pipe.get p
  let g := ts.filterMap (·.g2)
  ((s.setPipe p { y with
      noiseSum := y.noiseSum + g.foldl (· + ·) 0, noiseCount := y.noiseCount + g.length, noiseMax := g.foldl max y.noiseMax,
      clipped := y.clipped || ts.any (·.clip) }).incBy (Obj.TAIL_CNT_CLIP p.val) (ts.filter (·.clip)).length).incBy
    (Obj.TAIL_CNT_RESTART p.val) (ts.filter (·.restart)).length

/-- A readout whose z and whose INVALID and SAT are in frame memory (05 R191). -/
def TailPx.away (t : TailPx) : TailPx := { t with z := 0, invalid := false, sat := false }

/-- 05 R191: a row of a non-final slot that finds 16 rows of its slot in the window is staged in frame memory.  The two tag bits hold
the tag of 09 R335; TAIL_CLIP, TAIL_RESTART, REPLACED and UNREPLACED, which Table 05-3 needs and two bits cannot hold, stay on the
die: DESIGN CHOICE (log 74). -/
def State.toMerge (s : State) (p : Pos) (x : FrameCtx) (k r : Nat) (px : List TailPx) (errs : List Bool) : State :=
  let y := s.pipe.get p
  let full := decide (16 ≤ (y.tailRows.filter (fun t => t.slot == k && !t.staged)).length) && k != x.mask.log2
  let s := s.setPipe p { y with tailRows := y.tailRows ++
                                  [{ slot := k, row := r, px := if full then px.map TailPx.away else px, staged := full }],
                                staged := y.staged || full }
  if full then
    ((px.zip errs).zipIdx.foldl (fun s d =>
      s.setDram (stageAt p k r d.2) (leBytes 3
        (e24 d.1.1.invalid d.1.1.sat (d.1.1.replaced || d.1.1.unreplaced || d.1.2) d.1.1.z))) s).inc
      (Obj.MERGE_CNT_STAGED p.val)
  else s

/-- 04 R148: counters of a replaced row. -/
def State.countRepl (s : State) (p : Pos) (row : List ReplPx) : State :=
  let n := fun (q : Nat → Bool) => (row.filter (fun r => q r.count)).length
  ((s.incBy (Obj.CORR_CNT_REPLACED p.val) (n (fun c => c == 1))).incBy (Obj.CORR_CNT_UNREPL p.val)
    (n (fun c => c == 2 || c == 3))).incBy (Obj.CORR_CNT_REPL_RESERVED p.val) (n (fun c => c == 3))

/-- The taps before and at the tail stage (09 Table 09-6b); the raw readout of a row under ROIC_FAULT is the one received (03 Table 03-4),
and that of a synthesised one is 0. -/
def State.tapRow (s : State) (x : FrameCtx) (p : Pos) (k r : Nat) (row : List CorrPx) (rep : List ReplPx) (z : List TailPx) : State :=
  let s := s.tapPut x p 0 k r (row.map (·.raw))
  let defect := fun (q : ReplPx) => q.replaced || q.unreplaced || q.planeErr
  let s := s.tapPut x p 3 k r ((z.zip rep).map (fun d => e24 d.1.invalid d.1.sat (defect d.2) d.1.z))
  if x.heritage then
    let s := s.tapPut x p 1 k r (rep.map (fun q => q.y.toNat))
    let s := s.tapPut x p 2 k r (row.map (fun q => q.y.toNat))
    s.tapPut x p 7 0 r (row.map (fun q => if q.invalid then 0 else q.x))
  else
    let s := s.tapPut x p 1 k r ((row.zip rep).map (fun d => e24 d.2.invalid d.2.sat (defect d.2) d.1.x))
    s.tapPut x p 2 k r (row.map (fun q => e24 q.invalid q.sat q.planeErr q.y))

/-- Row r of a slot leaves replacement, passes the tail stage and waits for merge. -/
def State.rowOut (s : State) (p : Pos) (x : FrameCtx) (k r : Nat) (row : List CorrPx) : State :=
  let y := s.pipe.get p
  let rep := s.replRow p x k r (aroundRow y.corr k r x.width) row
  let s := (s.setPipe p { y with
    outOf := y.outOf.set (posOf k) (r + 1),
    corr := y.corr.filter (fun c => c.slot != k || decide (r ≤ c.row + 1)) }).countRepl p rep
  let errs := rep.map (·.planeErr)
  if x.heritage then
    let z := rep.map herTail
    (s.tapRow x p k r row rep z).toMerge p x k r z errs
  else
    let ts := s.tailSteps p x k r rep
    let z := ts.map (·.px)
    ((((s.tailWrite p k r ts).stampRow p r k x.start (rep.map (·.invalid))).tapRow x p k r row rep z)).toMerge p x k r z errs

/-- 04 R147: row r of a slot leaves once row r + 2 has been corrected, or at the frame's close. -/
def State.replaceRow (s : State) (p : Pos) (k : Pos) : State :=
  match (s.pipe.get p).frm with
  | none => s
  | some x =>
    let y := s.pipe.get p
    let r := y.outOf.get k
    let full := fun (n : Nat) => (y.corr.find? (fun c => c.slot == k.val && c.row == n && c.px.length == x.width))
    let last := (s.intake.get p).ended.any (fun f => f.num == x.num)
    let ready := (full (r + 2)).isSome || (decide (x.height ≤ r + 2) && last && (full (x.height - 1)).isSome)
    match full r with
    | some c => if ready && bitAt x.mask k.val then s.rowOut p x k.val r c.px else s
    | none => s

/-! ### Merge and radiometry (05 R187 to R199) -/

/-- 05 R196: the surface sets that a row can take, lowest-numbered ROI first, the global set last: columns, ε, transmission,
reflected temperature. -/
def FrameCtx.surfaces (x : FrameCtx) (p : Pos) (r : Nat) : List ((Nat × Nat) × Nat × Nat × Int) :=
  ((List.range 64).filterMap (fun i =>
    let a := x.n (Obj.RAD_ROI_X p.val i)
    let b := x.n (Obj.RAD_ROI_Y p.val i)
    if bitAt a 31 && decide (fieldOf b 10 0 ≤ r ∧ r ≤ fieldOf b 26 16) then
      some ((fieldOf a 10 0, fieldOf a 26 16), x.n (Obj.RAD_ROI_EPS p.val i), x.n (Obj.RAD_ROI_TRANS p.val i),
        x.g (Obj.RAD_ROI_TREFL p.val i))
    else none)) ++
    [((0, 2047), x.n (Obj.RAD_EPS p.val), x.n (Obj.RAD_TRANS p.val), x.g (Obj.RAD_TREFL p.val))]

/-- 05 R192: the flags and T_code of a pixel. -/
def outPx (t : Nat → TailPx) (low : Nat) (m : MergedPx) (tc : Nat) : OutPx :=
  let on := fun (f : TailPx → Bool) => !m.invalid && !m.sat && (f (t m.l) || (decide (m.w < 65536) && f (t m.s)))
  { t := tc, p := m.p, invalid := m.invalid, sat := m.sat, blended := m.s != m.l, range := m.l, clip := on (·.clip),
    restart := on (·.restart), replaced := on (·.replaced), unreplaced := on (·.unreplaced),
    low := !m.invalid && !m.sat && decide ((t m.l).z < low * 16) }

/-- 05 R191: a staged row as it is read back. -/
def State.readStaged (s : State) (p : Pos) (k r : Nat) (px : List TailPx) : List TailPx :=
  px.zipIdx.map (fun d =>
    let v := s.dramN (stageAt p k r d.2) 3
    { d.1 with z := fromCode 22 v, invalid := v / 2 ^ 22 == 1, sat := v / 2 ^ 22 == 2 })

/-- The readouts of a row that waits for merge. -/
def State.rowOf (s : State) (p : Pos) (t : TailRow) : List TailPx := if t.staged then s.readStaged p t.slot t.row t.px else t.px

/-- The pixels of a row merged and converted, with the counts MERGE_CNT_CLAMP and RAD_CNT_CLAMP; tables, ratios and the constants
derived from them are those of the frame's hand-over (05 R198). -/
def State.mergePixels (s : State) (p : Pos) (x : FrameCtx) (r : Nat) (rows : Nat → Array TailPx) : List (MergedPx × OutPx × Bool) :=
  let cand := slotOrder x.mask x.times
  let cal := (s.pipe.get p).calib
  let lut := fun (k : Nat) => radTable (cal.rad.get (posOf k))
  let luts := (List.range 4).map (fun k => if bitAt x.mask k then (lut k).toArray else #[])
  let sets := (x.surfaces p r).map (fun w =>
    (w.1, (List.range 4).map (fun k => if bitAt x.mask k then
      radConst (lut k) w.2.1 w.2.2.1 w.2.2.2 (x.g (Obj.RAD_TPATH p.val)) else (0, 0))))
  let none_ : TailPx := ⟨0, true, false, false, false, false, false⟩
  (List.range x.width).map (fun c =>
    let t := fun (k : Nat) => (rows k).getD c none_
    let m := mergePx t cand (x.n (Obj.MERGE_SKIP_RESTART p.val) == 1) (x.n (Obj.MERGE_KNEE_LO p.val))
      (x.n (Obj.MERGE_KNEE_HI p.val)) (fun k => cal.ratio.get (posOf k))
    let be := ((sets.find? (fun w => decide (w.1.1 ≤ c ∧ c ≤ w.1.2))).map (·.2)).getD []
    let tc := radPx (fun k => luts.getD k #[]) (fun k => be.getD k (0, 0)) m
    (m, outPx t (x.n (Obj.STAT_LOW_LEVEL p.val)) m tc.1, tc.2))

/-- 05 R190, R199: counters of a merged row. -/
def State.countMerge (s : State) (p : Pos) (px : List (MergedPx × OutPx × Bool)) : State :=
  let n := fun (q : MergedPx × OutPx × Bool → Bool) => (px.filter q).length
  (((s.incBy (Obj.MERGE_CNT_SAT p.val) (n (fun d => d.1.sat))).incBy (Obj.MERGE_CNT_INVALID p.val) (n (fun d => d.1.invalid))).incBy
    (Obj.MERGE_CNT_CLAMP p.val) (n (fun d => d.1.clamp))).incBy (Obj.RAD_CNT_CLAMP p.val) (n (fun d => d.2.2))

/-- 05 R187, R188: once every enabled slot of the next row has left the tail stage, its pixels are merged and converted. -/
def State.merge (s : State) (p : Pos) : State :=
  match (s.pipe.get p).frm with
  | none => s
  | some x =>
    let y := s.pipe.get p
    let r := y.merged.length
    let row := fun (k : Nat) => y.tailRows.find? (fun t => t.slot == k && t.row == r)
    if (maskBits x.mask).all (fun k => (row k).isSome) && decide (r < x.height) then
      let px := s.mergePixels p x r (fun k => ((row k).map (fun t => (s.rowOf p t).toArray)).getD #[])
      let s := s.setPipe p { y with
        merged := y.merged ++ [{ row := r, px := px.map (·.2.1) }], tailRows := y.tailRows.filter (fun t => t.row != r),
        satSeen := y.satSeen || px.any (fun d => d.1.sat) }
      (s.countMerge p px).tapPut x p 4 0 r
        (px.map (fun d => e24 d.1.invalid d.1.sat (d.2.1.replaced || d.2.1.unreplaced) d.1.p))
    else s

/-- 05 R201, R202: the next row through the output filters, once its neighbour rows are available. -/
def State.filterRow (s : State) (p : Pos) : State :=
  match (s.pipe.get p).frm with
  | none => s
  | some x =>
    let y := s.pipe.get p
    let r := y.rows.length
    let row := fun (n : Nat) => (y.merged.find? (fun m => m.row == n)).map (fun m => (m.px.map (·.t)).toArray)
    match y.merged.find? (fun m => m.row == r), row r with
    | some cur, some mid =>
      if r + 1 < x.height ∧ (row (r + 1)).isNone then s
      else
        let up := if r = 0 then mid else (row (r - 1)).getD mid
        let dn := (row (r + 1)).getD mid
        let w := (List.range 9).map (fun k => x.g (Obj.OF_SNR_KERNEL p.val k))
        let v := (List.range mid.size).map (fun c =>
          if x.n (Obj.OF_SNR_EN p.val) = 1 then snrPx w up mid dn c else mid.getD c 0)
        let tnr := x.n (Obj.OF_TNR_EN p.val) = 1
        let valid := bitAt (s.dramN (validAt p r) 1) (r % 8)
        let out := v.zipIdx.map (fun d =>
          if tnr then tnrPx valid (s.dramN (filtAt p r d.2) 2) (x.n (Obj.OF_TNR_BETA p.val)) (x.n (Obj.OF_TNR_THRESH p.val)) d.1
          else (d.1, 0))
        let s := if tnr then
            (s.setDram (filtAt p r 0) (out.flatMap (fun o => leBytes 2 o.2))).setDram (validAt p r)
              [byteOf (withBit (s.dramN (validAt p r) 1) (r % 8) true)] else s
        let px := (cur.px.zip out).map (fun d => { d.1 with t := d.2.1 })
        (s.setPipe p { y with rows := y.rows ++ [{ row := r, px := px }] }).tapPut x p 5 0 r (px.map (·.t))
    | _, _ => s

/-! ### Statistics (07 R274 to R282) -/

/-- Codes counted into bins. -/
def binCounts (n : Nat) (ks : List Nat) : Array Nat := ks.foldl (fun a k => a.modify k (· + 1)) (Array.replicate n 0)

/-- 07 R277, Table 07-2: the record of a statistics ROI as (bytes, value) fields. -/
def roiFields (en : Bool) (x0 x1 y0 y1 : Nat) (rows : List OutRow) : List (Nat × Nat) :=
  let px := if en then
      (rows.filter (fun r => decide (y0 ≤ r.row ∧ r.row ≤ y1))).flatMap (fun r =>
        (((r.px.zipIdx.drop x0).take (x1 + 1 - x0)).map (fun d => (r.row, d.2, d.1)))) else []
  let v := px.filter (fun d => validT d.2.2.t)
  let n := v.length
  let sum : Nat := v.foldl (fun a d => a + d.2.2.t) 0
  let mx := v.foldl (fun a d => max a d.2.2.t) 0
  let mn := v.foldl (fun a d => min a d.2.2.t) 65535
  let hot := (v.find? (fun d => d.2.2.t == mx)).map (fun d => (d.1, d.2.1))
  [(4, n), (4, (px.filter (fun d => d.2.2.t == 0xFFFF)).length), (2, if n = 0 then 0 else mn), (2, mx),
    (2, (roundDiv (sum : Int) n).toNat), (2, 0), (2, (hot.map (·.1)).getD 0xFFFF), (2, (hot.map (·.2)).getD 0xFFFF), (4, 0), (8, sum),
    (8, v.foldl (fun a d => a + d.2.2.t ^ 2) 0)]

/-- 05 R185: TAIL_NOISE_GAIN and its maximum for the frame in the pipeline, saturated to their 16 bits (00 R9). -/
def PipePos.noise (y : PipePos) (heritage : Bool) : Nat × Nat :=
  if heritage || y.noiseCount = 0 then (1000, 1000)
  else (min 65535 (rootRound (1000000 * y.noiseSum) (y.noiseCount * 2 ^ 32)), min 65535 (rootRound (1000000 * y.noiseMax) (2 ^ 32)))

/-- 07 R275: the pixels of the slots: SLOT_USE and SLOT_LOW. -/
def slotCounts (px : List OutPx) : List Nat × List Nat :=
  ((List.range 4).map (fun k => (px.filter (fun q => !q.invalid && !q.sat && q.range == k)).length),
    (List.range 4).map (fun k => (px.filter (fun q => q.low && q.range == k)).length))

/-- 07 Table 07-1 without its CRC, as (bytes, value) fields. -/
def State.statFields (s : State) (p : Pos) (x : FrameCtx) : List (Nat × Nat) :=
  let y := s.pipe.get p
  let px := y.rows.flatMap (·.px)
  let n := fun (q : OutPx → Bool) => (px.filter q).length
  let lo := x.n (Obj.STAT_HIST_LO p.val)
  let sh := x.n (Obj.STAT_HIST_SHIFT p.val)
  let codes := (px.filter (fun q => validT q.t)).map (·.t)
  let bins := (codes.filter (fun c => decide (lo ≤ c))).map (fun c => (c - lo) / 2 ^ sh)
  let flags := 128 + 64 * b2n (x.short && x.dropShort) + 32 * b2n y.clipped + 16 * b2n x.throttled + 8 * b2n x.eclipsed +
    4 * b2n x.notReady + 2 * b2n x.long + b2n x.short
  let use_ := slotCounts px
  [(4, x.num), (1, p.val), (1, flags), (2, 0), (4, x.settingsGen), (4, x.coefGen), (2, lo), (1, sh), (1, x.ackMask),
    (4, codes.length), (4, n (fun q => q.t == 0)), (4, n (fun q => q.t == 0xFFFF)), (4, n (·.replaced)), (4, n (·.unreplaced)),
    (4, n (·.clip)), (4, n (·.restart)), (4, n (·.blended)), (4, (codes.filter (fun c => decide (c < lo))).length),
    (4, (bins.filter (fun b => decide (1024 ≤ b))).length), (2, (y.noise x.heritage).1), (2, (y.noise x.heritage).2)] ++
    y.slotSat.map (fun v => (4, v)) ++ use_.1.map (fun v => (4, v)) ++ use_.2.map (fun v => (4, v)) ++ [(16, 0)] ++
    ((binCounts 1024 (bins.filter (fun b => decide (b < 1024)))).toList.map (fun v => (4, v))) ++
    (List.range 64).flatMap (fun i =>
      let a := x.n (Obj.STAT_ROI_X p.val i)
      let b := x.n (Obj.STAT_ROI_Y p.val i)
      roiFields (bitAt a 31) (fieldOf a 10 0) (fieldOf a 26 16) (fieldOf b 10 0) (fieldOf b 26 16) y.rows)

/-- A statistics block with the CRC of its own byte order (07 R282). -/
def blockBE (b : List Byte) : List Byte := b ++ beBytes 4 (crc32 b)
def blockLE (b : List Byte) : List Byte := b ++ leBytes 4 (crc32 b)

/-- 07 R278: the frame's block is published; noise gain and the flags about the last frame follow. -/
def State.publishStats (s : State) (p : Pos) (x : FrameCtx) : State :=
  let y := s.pipe.get p
  let f := s.statFields p x
  let px := y.rows.flatMap (·.px)
  let use_ := slotCounts px
  let st := s.stat.get p
  ((({ s with stat := s.stat.set p { st with
      blockBE := fieldsBE f, blockLE := fieldsLE f, published := true,
      histOut := (f.getD 17 (0, 0)).2 != 0 || (f.getD 18 (0, 0)).2 != 0, pixValid := (f.getD 9 (0, 0)).2,
      pixSat := (f.getD 11 (0, 0)).2, slotUse := use_.1, slotLow := use_.2, gen := x.settingsGen } } : State).setO
    (Obj.STAT_FRAME p.val) x.num).setO (Obj.TAIL_NOISE_GAIN p.val) (y.noise x.heritage).1).setO (Obj.TAIL_NOISE_GAIN_MAX p.val)
    (y.noise x.heritage).2

/-! ### Auto-integration (07 R269 to R273) -/

/-- 07 R270: evaluation is held. -/
def State.aiHeld (s : State) (p : Pos) : Bool :=
  decide (2 ≤ s.o (Obj.ECL_PHASE p.val)) || (s.gen.get p).committed

/-- 07 R273, 16 R524, R526: slots that throttle enforcement has dropped: from the mask that governs the frame, and from the active
one. -/
def State.throttled (s : State) (p : Pos) (k : Nat) : Bool :=
  let gov := (s.gov p (Obj.INT_SLOT_MASK p.val)).toNat
  (bitAt gov k && !bitAt (overlayMask (s.therm.govDrop.get p) gov) k) ||
    (bitAt (s.act p (Obj.INT_SLOT_MASK p.val)).toNat k && !bitAt (s.slotMask p) k)

/-- Acknowledged time of a slot, enabled or not. -/
def State.ackTime (s : State) (p : Pos) (k : Nat) : Nat := (s.fpa.get p).effTint.getD k 0 * (s.inForce (Obj.FPA_TINT_LSB p.val)).toNat

/-- The slot of a list with the largest (or smallest) key; the first on a tie. -/
def bestSlot (better : Nat → Nat → Bool) (key : Nat → Nat) : List Nat → Option Nat
  | [] => none
  | k :: r => some (r.foldl (fun b j => if better (key j) (key b) then j else b) k)

/-- 07 R271: what the run counts decide: none; a pool slot is missing; a new mask. -/
inductive AiPick where
  | none | limit | mask (m : Nat)
deriving DecidableEq, Repr

/-- 07 R271: the change decided on: one slot of the active mask, which an overlay does not alter (16 R526). -/
def State.aiDecide (s : State) (p : Pos) (x : FrameCtx) (short long few : Bool) : AiPick :=
  let mask := (s.act p (Obj.INT_SLOT_MASK p.val)).toNat
  let order := slotOrder x.mask x.times
  let pool := (List.range 4).filter (fun k => bitAt (x.n (Obj.AI_POOL p.val)) k && !bitAt x.mask k && !s.throttled p k)
  let shortest := order.getLast?.getD 0
  let longest := order.headD 0
  let st := s.stat.get p
  if short then
    match bestSlot (fun a b => decide (b < a)) (s.ackTime p)
        (pool.filter (fun k => decide (s.ackTime p k < x.times.getD shortest 0))) with
    | some k => .mask (withBit mask k true)
    | none => .limit
  else if long then
    match bestSlot (fun a b => decide (a < b)) (s.ackTime p)
        (pool.filter (fun k => decide (x.times.getD longest 0 < s.ackTime p k))) with
    | some k => .mask (withBit mask k true)
    | none => .limit
  else if few then
    match bestSlot (fun a b => decide (a < b)) (fun k => st.slotUse.getD k 0) (maskBits x.mask) with
    | some k => .mask (withBit mask k false)
    | none => .none
  else .none

/-- 07 R272: a decision goes into the pending mask, and is committed unless host writes wait there. -/
def State.aiApply (s : State) (p : Pos) (m : Nat) : State :=
  let g := s.gen.get p
  let s1 := s.setGen p { g with
    pend := Store.set Obj.dflt g.pend (Obj.INT_SLOT_MASK p.val) m, aiWaiting := true, runShorter := 0, runLonger := 0,
    runFewer := 0 }
  if g.dirty then s1
  else
    match s1.commit (2 ^ p.val) with
    | .ok s' => s'
    | .error _ => s1.countRefused (2 ^ p.val)

/-- 07 R270, R271: a published frame is evaluated. -/
def State.aiEvaluate (s : State) (p : Pos) (x : FrameCtx) : State :=
  if !s.aiRuns p || s.aiHeld p || x.settingsGen != s.o (Obj.GEN_ACTIVE p.val) then s
  else
    let st := s.stat.get p
    let v := st.pixValid + st.pixSat
    let hold := x.n (Obj.AI_HOLD p.val)
    let longest := (slotOrder x.mask x.times).headD 0
    let short := decide (x.n (Obj.AI_SAT_ON p.val) * v ≤ st.pixSat * 10000)
    let long := decide (x.n (Obj.AI_LOW_ON p.val) * v ≤ st.slotLow.getD longest 0 * 10000)
    let few := decide (1 < (maskBits x.mask).length) &&
      (maskBits x.mask).any (fun k => decide (st.slotUse.getD k 0 * 10000 < x.n (Obj.AI_OFF p.val) * v))
    let g0 := s.gen.get p
    let g := { g0 with runShorter := if short then g0.runShorter + 1 else 0, runLonger := if long then g0.runLonger + 1 else 0,
                       runFewer := if few then g0.runFewer + 1 else 0, holdoff := g0.holdoff - 1 }
    let s := s.setGen p g
    if 0 < g0.holdoff || g.aiWaiting then s
    else
      match s.aiDecide p x (decide (hold ≤ g.runShorter)) (decide (hold ≤ g.runLonger)) (decide (hold ≤ g.runFewer)) with
      | .none => s.setGen p { g with aiLimit := false }
      | .limit => s.setGen p { g with aiLimit := true }
      | .mask m => (s.setGen p { g with aiLimit := false }).aiApply p m

/-! ### The end of a drain (01 R21, R22) -/

/-- Everything of the ended frame has left the pipeline. -/
def State.drained (s : State) (p : Pos) : Bool :=
  match (s.pipe.get p).frm, (s.intake.get p).ended.head? with
  | some x, some f =>
    x.num == f.num && (s.intake.get p).fifo.all (fun r => r.num != x.num) && (s.pipe.get p).rows.length == x.height
  | _, _ => false

/-- The flags that are final at the close join the frame's record (01 Table 01-5). -/
def FrameCtx.close_ (x : FrameCtx) (f : OpenFrame) (clipped : Bool) : FrameCtx :=
  { x with short := f.short, long := f.long, clipped := clipped, close := f.close, closedAt := f.closedAt, geom := f.geomBad,
           overflow := f.ovf, subt := f.subt }

/-- The rows that the taps of the position hold, taken out of them (09 R337). -/
def State.takeTaps (s : State) (p : Pos) (x : FrameCtx) : State × List (Nat × Nat × Nat × List Nat) :=
  let mine := (List.range 8).filter (fun n => x.n (Obj.TAP_POS n) == p.val && n != 6)
  let rows := mine.flatMap (fun n => ((s.taps.getD n TapSt.reset).rows).map (fun r => (n, r)))
  (mine.foldl (fun s n => { s with taps := s.taps.set n { s.taps.getD n TapSt.reset with rows := [] } }) s, rows)

/-- 04 R130, R131: the carry of the substrate track, and frames without a sample. -/
def State.carryTrack (s : State) (p : Pos) (x : FrameCtx) : State :=
  let y := s.pipe.get p
  let v := if y.trackEmpty then 0 else roundDiv y.track 8
  let s := if x.heritage then s else s.setO (Obj.CORR_SUBT_START p.val) (clampI 0 65535 v)
  if y.gotSubt then s.setPipe p { y with subtHeld := false }
  else (s.setPipe p { y with subtHeld := true }).inc (Obj.CORR_CNT_SUBT_HELD p.val)

/-- 01 R22, 07 R278: the drain is complete: statistics are published, the frame waits for its ingots, the pipeline of the
position is empty (05 R191, 01 R24). -/
def State.endDrain (s : State) (p : Pos) : State :=
  match (s.pipe.get p).frm, (s.intake.get p).ended.head? with
  | some x0, some f =>
    if !s.drained p then s
    else
      let x := x0.close_ f (s.pipe.get p).clipped
      let s := ((s.publishStats p x).eclDrained p x).carryTrack p x
      let t := s.takeTaps p x
      let s := t.1
      let y := s.pipe.get p
      let done : DoneFrame := { ctx := x, rows := y.rows, stat := (s.stat.get p).blockBE, dropped := x.short && x.dropShort,
                                taps := t.2 }
      let s := s.setPipe p { PipePos.reset with
        track := y.track, trackEmpty := y.trackEmpty, lastClipped := y.clipped, lastStaged := y.staged, lastSat := y.satSeen,
        subtHeld := y.subtHeld, done := y.done ++ [done] }
      let s := s.setIntake p { s.intake.get p with ended := (s.intake.get p).ended.drop 1 }
      let s := { s with coef := s.coef.upd p (fun c => { c with
          busyFrame := (s.intake.get p).frm.isSome || !(s.intake.get p).ended.isEmpty }) }
      ((s.aiEvaluate p x).raise (4 + p.val)).requestLine p.val
  | _, _ => s

end Sys2Proof.Machine
end

