-- ==== Sys2Proof/Machine/CoefOps.lean ====
section
/-!
DEFINITION. Coefficient sets: their states, the close check with cluster labelling, archives and the KT2410 import; long
operations (04 R150 to R171, 05 R181, R193 to R195, R200; 02 R68 to R70).
-/
namespace Sys2Proof.Machine

/-! ### Long operations (02 R68, R69) -/

/-- 02 R69: PERCENT. -/
def opPercent (pos total : Nat) : Nat := if total = 0 then 255 else 100 * pos / total

def State.opRunning (s : State) (k : Nat) : Bool := s.o (Obj.OP_STATE k) == 1

def State.opStart (s : State) (k total : Nat) : State :=
  (s.setOs [(Obj.OP_STATE k, 1), (Obj.OP_POSITION k, 0), (Obj.OP_TOTAL k, total), (Obj.OP_PERCENT k, opPercent 0 total),
    (Obj.OP_RESULT k, 0)]).raise 3

def State.opAt (s : State) (k pos : Nat) : State :=
  s.setOs [(Obj.OP_POSITION k, pos), (Obj.OP_PERCENT k, opPercent pos (s.o (Obj.OP_TOTAL k)))]

/-- An operation ends: 2 DONE, 3 FAILED, 4 ABORTED, with its result. -/
def State.opEnd (s : State) (k st result : Nat) : State :=
  let s := if st = 2 then s.opAt k (s.o (Obj.OP_TOTAL k)) else s
  (s.setOs [(Obj.OP_STATE k, st), (Obj.OP_RESULT k, result)]).raise 3

/-! ### States of a set (04 R151 to R158) -/

def State.setCoef (s : State) (p : Pos) (c : CoefPos) : State := { s with coef := s.coef.set p c }

def State.coefState (s : State) (p : Pos) : Nat := s.o (Obj.CORR_COEF_STATE p.val)

/-- 04 R152: the position is idle. -/
def State.posIdle (s : State) (p : Pos) : Bool := !s.enabled p || !(s.coef.get p).started || !(s.coef.get p).busyFrame

/-- A COEF_LOAD of the position runs. -/
def State.loading (s : State) (p : Pos) : Bool := s.opRunning 0 && s.ops.load.map (·.1) == some p.val

/-- A PARAM_SAVE of the position's archive runs (04 R162). -/
def State.saving (s : State) (p : Pos) : Bool :=
  s.opRunning 3 && (match s.ops.save with | some (0, q, _) => q == p.val | _ => false)

/-- The set moves toward OPEN: at once when the position is idle, else at its next hand-over (04 R152).  An INVALID set has no order. -/
def State.coefToOpen (s : State) (p : Pos) : State :=
  let inv := s.coefState p == 4
  let idle := s.posIdle p
  (s.setCoef p { s.coef.get p with notReady := (s.coef.get p).notReady || idle || inv, format := if inv then 2 else (s.coef.get p).format }).setO
    (Obj.CORR_COEF_STATE p.val) (if idle then 2 else 1)

/-- 11 Table 11-4: the key of the object a BAR0 offset names. -/
def State.barKey (s : State) (a : Nat) : Nat :=
  if 0x10000 ≤ a ∧ a < 0x60000 then a / 16 * 256 + a % 16 / 4
  else if 0xFF000 ≤ a ∧ a < 0xFF400 then s.o Obj.BAR0_WIN_INDEX * 256 + (a - 0xFF000) / 4 else 0

/-- The command that waits writes ECL_REQUEST of the position now: by a row of its own, over the chain, over BAR0, or from the
mailbox. -/
def State.asksEclipse (s : State) (p : Pos) : Instr → Bool
  | .eclRequestFull _ q t => q == p && t == s.time.now
  | .eclRequestPartial _ q t => q == p && t == s.time.now
  | .objectWrite _ k _ _ t => k == Obj.ECL_REQUEST p.val && t == s.time.now
  | .write r => beAt r.payload 0 3 == Obj.ECL_REQUEST p.val && r.t == s.time.now
  | .bar0LowWrite .bar0 a _ t => s.barKey a == Obj.ECL_REQUEST p.val && t == s.time.now
  | .mbxCmdWrite t =>
    s.serial.slave.mbxIndex * 256 + s.serial.slave.mbxSub == Obj.ECL_REQUEST p.val && t == s.time.now
  | _ => false

/-- 04 R158: an eclipse request for the position waits at the same instant, which is the same steward cycle: DESIGN CHOICE (log 75). -/
def State.eclAsked (s : State) (p : Pos) : Bool := s.pending.any (s.asksEclipse p)

/-- 04 R152, R158: CORR_COEF_OPEN. -/
def State.coefOpen (s : State) (p : Pos) : Res :=
  if ¬ (s.mode = 1 ∨ s.mode = 2 ∨ s.mode = 4) then .error Abort.state
  else if s.eclAsked p = true ∨ s.o (Obj.ECL_PHASE p.val) ≠ 0 ∨ s.loading p = true ∨ s.saving p = true ∨
      (s.coefState p = 1 ∨ s.coefState p = 2 ∨ s.coefState p = 3) then .error Abort.busy
  else .ok (s.coefToOpen p)

/-- 12 R428, 04 R154: a descriptor in progress writes into the position region. -/
def State.dmaIntoRegion (s : State) (p : Pos) : Bool :=
  (List.range 16).any (fun c =>
    match (s.ch c).cur with
    | some x => !bitAt x.desc.flags 0 && decide (x.dev < posBase p + 0x10000000 ∧ posBase p < x.dev + x.len)
    | none => false)

/-- 04 R154: CORR_COEF_CLOSE. -/
def State.coefClose (s : State) (p : Pos) : Res :=
  if s.coefState p ≠ 2 then .error Abort.state
  else if s.loading p || s.dmaIntoRegion p then .error Abort.busy
  else .ok (s.setO (Obj.CORR_COEF_STATE p.val) 3)

/-- 04 R156: an unfinished set becomes INVALID. -/
def State.coefInvalidate (s : State) (p : Pos) : State :=
  if s.coefState p = 1 ∨ s.coefState p = 2 ∨ s.coefState p = 3 then s.setO (Obj.CORR_COEF_STATE p.val) 4 else s

/-! ### Labelling (04 R150) -/

/-- The bytes of a base entry. -/
def State.baseBytes (s : State) (p : Pos) (r c : Nat) : List Byte := s.dram (baseAt p r c) 16

/-- The entry's CHK matches. -/
def chkOk (b : List Byte) : Bool := leAt b 14 2 == crc16 (b.take 14)

/-- An entry counts as a defect in labelling. -/
def labelDefect (b : List Byte) : Bool := !chkOk b || isDefect (leAt b 8 1)

/-- The pixels of a geometry. -/
def pixelsOf (w h : Nat) : List (Nat × Nat) := (List.range h).flatMap (fun r => (List.range w).map (fun c => (r, c)))

/-- Two pixels are neighbours (8-connected). -/
def adjacent (a b : Nat × Nat) : Bool := decide (a.1 ≤ b.1 + 1 ∧ b.1 ≤ a.1 + 1 ∧ a.2 ≤ b.2 + 1 ∧ b.2 ≤ a.2 + 1)

/-- The cluster around a seed: grown from the defects left, `fuel` rounds at most; members and the rest. -/
def growCluster : Nat → List (Nat × Nat) → List (Nat × Nat) → List (Nat × Nat) → List (Nat × Nat) × List (Nat × Nat)
  | 0, _, done, rest => (done, rest)
  | n + 1, front, done, rest =>
    let next := rest.filter (fun x => front.any (adjacent x))
    if next.isEmpty then (done, rest) else growCluster n next (done ++ next) (rest.filter (fun x => !next.contains x))

/-- The clusters of a list of defects. -/
def clusters : Nat → List (Nat × Nat) → List (List (Nat × Nat))
  | _, [] => []
  | 0, _ => []
  | n + 1, x :: r => let g := growCluster (r.length + 1) [x] [x] r; g.1 :: clusters n g.2

/-- The bounding box exceeds 3 x 3. -/
def bigCluster (l : List (Nat × Nat)) : Bool :=
  let rs : List Nat := l.map (·.1)
  let cs : List Nat := l.map (·.2)
  decide (rs.foldl min 4096 + 3 ≤ rs.foldl max 0 ∨ cs.foldl min 4096 + 3 ≤ cs.foldl max 0)

/-- No member of the pattern at distance one is usable: inside the geometry and no defect. -/
def needsDist (w h : Nat) (defects : List (Nat × Nat)) (x : Nat × Nat) (pattern : Nat) : Bool :=
  !((patMembers (if pattern = 4 then 1 else pattern) 1).any (fun m =>
    let r := (x.1 : Int) + m.1
    let c := (x.2 : Int) + m.2
    decide (0 ≤ r ∧ 0 ≤ c ∧ r < h ∧ c < w) && !defects.contains (r.toNat, c.toNat)))

/-- A base entry with FLAGS and REPL changed and a new CHK. -/
def rewriteEntry (b : List Byte) (flags repl : Nat) : List Byte :=
  let d := b.take 8 ++ [byteOf flags, byteOf repl] ++ (b.drop 10).take 4
  d ++ leBytes 2 (crc16 d)

/-- 04 R150: the labels of the defects: pixel, BIG_CLUSTER, DIST. -/
def State.labels (s : State) (p : Pos) (w h : Nat) : List ((Nat × Nat) × Bool × Bool) :=
  let ds := (pixelsOf w h).filter (fun x => labelDefect (s.baseBytes p x.1 x.2))
  (clusters ds.length ds).flatMap (fun cl =>
    let big := bigCluster cl
    cl.map (fun x => (x, big, !big && needsDist w h ds x (leAt (s.baseBytes p x.1 x.2) 9 1 % 8))))

/-- 04 R150, R154: FLAGS, REPL and CHK of every checked entry that the labelling changes are rewritten. -/
def State.relabel (s : State) (p : Pos) (w h : Nat) : State :=
  let ls := s.labels p w h
  (pixelsOf w h).foldl (fun s x =>
    let b := s.baseBytes p x.1 x.2
    if !chkOk b then s
    else
      let l := ((ls.find? (fun y => y.1 == x)).map (·.2)).getD (false, false)
      let fl := withBit (leAt b 8 1) 5 l.1
      let rp := withBit (leAt b 9 1) 4 l.2
      if fl = leAt b 8 1 ∧ rp = leAt b 9 1 then s else s.setDram (baseAt p x.1 x.2) (rewriteEntry b fl rp)) s

/-! ### The close check (04 R154, 05 R193 to R195) -/

/-- The four constants of a range. -/
def State.radK (s : State) (p : Pos) (r : Nat) : List (Option Real64) :=
  (List.range 4).map (fun k => f32? (s.o (Obj.RAD_K p.val (4 * r + k))))

/-- 05 R193 to R195: PLANCK ranges are expanded, interpolation errors and monotony judged: NONMONO follows a table at the check of the
close, not at the write: DESIGN CHOICE (log 80). -/
def State.expandRanges (s : State) (p : Pos) : State :=
  let s := (List.range 4).foldl (fun s r =>
    if s.o (Obj.RAD_FORM p.val r) = 1 then
      let t := planckTable (s.radK p r)
      (s.setDom (Obj.RAD_LUT p.val r) (t.flatMap (leBytes 2))).setO (Obj.RAD_INTERP_ERR p.val r)
        (clampI 0 65535 (interpErr (s.radK p r) t))
    else s.setO (Obj.RAD_INTERP_ERR p.val r) 0) s
  let bits := (List.range 4).foldl (fun a r => if nonMono (radTable (s.dom (Obj.RAD_LUT p.val r))) then a + 2 ^ r else a) 0
  s.setCoef p { s.coef.get p with nonmono := bits }

/-- The configured geometry of the active generation. -/
def State.actGeom (s : State) (p : Pos) : Nat × Nat :=
  ((s.act p (Obj.INT_WIDTH p.val)).toNat, (s.act p (Obj.INT_HEIGHT p.val)).toNat)

/-- Entries of the geometry that fail CHK. -/
def State.badEntries (s : State) (p : Pos) : Nat :=
  ((pixelsOf (s.actGeom p).1 (s.actGeom p).2).filter (fun x => !chkOk (s.baseBytes p x.1 x.2))).length

/-- The set's order as it is, or will be, in force (04 R161, R171). -/
def State.orderOf (s : State) (p : Pos) : Bool :=
  p == 0 && (if s.imaging then s.heritage else s.ob Obj.HER_ORDER)

/-- 04 R154, R155: the check of a set ends: CLOSED with a completed change, or INVALID.  A set keeps the order it has (R171); one that the
host has written from INVALID on is of the order it was written under. -/
def State.closeCheck (s : State) (p : Pos) (source : Nat) : State :=
  let bad := s.badEntries p
  let s := ((s.relabel p (s.actGeom p).1 (s.actGeom p).2).expandRanges p).incBy (Obj.CORR_CNT_PLANE_CRC p.val) bad
  if bad ≤ s.o (Obj.CORR_CHK_LIMIT p.val) then
    (s.setCoef p { s.coef.get p with changed := true, changedByLoad := true, source := source,
                                     format := if (s.coef.get p).format = 2 then b2n (s.orderOf p) else (s.coef.get p).format }).setOs
      [(Obj.CORR_COEF_STATE p.val, 0), (Obj.CORR_COEF_SOURCE p.val, source)]
  else s.setO (Obj.CORR_COEF_STATE p.val) 4

/-! ### TAIL_TAU_MEDIAN (05 R181) -/

/-- The lower median of a list of codes. -/
def lowerMedian (l : List Nat) : Option Nat := (l.mergeSort (fun a b => decide (a ≤ b)))[(l.length - 1) / 2]?

def State.tauMedian (s : State) (p : Pos) : State :=
  let bs := ((pixelsOf (s.gov p (Obj.INT_WIDTH p.val)).toNat (s.gov p (Obj.INT_HEIGHT p.val)).toNat).map
    (fun x => s.baseBytes p x.1 x.2)).filter chkOk
  let good := bs.filter (fun b => !isDefect (leAt b 8 1))
  match lowerMedian ((if good.isEmpty then bs else good).map (fun b => leAt b 7 1)) with
  | some m => s.setO (Obj.TAIL_TAU_MEDIAN p.val) m
  | none => s

/-! ### Archives (04 R159 to R162, R168 to R170, 05 R200) -/

/-- A directory entry: type, offset, length. -/
def archiveDir (b : List Byte) : List (Nat × Nat × Nat) :=
  (List.range (leAt b 28 4)).map (fun i => (leAt b (32 + 12 * i) 2, leAt b (32 + 12 * i + 4) 4, leAt b (32 + 12 * i + 8) 4))

/-- The length a section must have; none for a reserved type. -/
def sectionLen (w h ndef ty : Nat) : Option Nat :=
  match ty with
  | 1 => some 4096
  | 2 => some (w * h * 16)
  | 3 => some (w * h * 8)
  | 4 => some (w * h * 24)
  | 5 => some 32864
  | 7 => some (48 + 4 * w * h + 4 * ndef + 4)
  | _ => none

/-- The bytes of a section. -/
def archiveSection (b : List Byte) (ty : Nat) : Option (List Byte) :=
  ((archiveDir b).find? (fun d => d.1 == ty)).map (fun d => slice b d.2.1 d.2.2)

/-- 04 R168, R170: a KT2410 set that imports. -/
def kt2cOk (k : List Byte) (w h : Nat) : Bool :=
  let n := leAt k 28 4
  let at_ := 48 + 4 * w * h
  k.take 4 == asciiBytes "KT2C" && (leAt k 4 2 == 2 || leAt k 4 2 == 3) && leAt k 6 2 == w && leAt k 8 2 == h &&
    leAt k 15 1 != 0 && leAt k (at_ + 4 * n) 4 == crc32 (k.take (at_ + 4 * n)) &&
    (List.range n).all (fun i => decide (leAt k (at_ + 4 * i) 2 < h ∧ leAt k (at_ + 4 * i + 2) 2 < w))

/-- 04 R161, R170: the archive fits the position and every section is well formed and apart from the others.  DESIGN CHOICE (log 75):
a directory that names a section type twice, and a native archive with a section of type 7, fail as malformed. -/
def State.archiveOk (s : State) (p : Pos) (heritage : Bool) (b : List Byte) : Bool :=
  let w := leAt b 8 2
  let h := leAt b 10 2
  let dir := archiveDir b
  let ndef := match dir.find? (fun d => d.1 == 7) with | some d => leAt b (d.2.1 + 28) 4 | none => 0
  let has := fun (t : Nat) => dir.any (fun d => d.1 == t)
  decide (128 ≤ b.length) && b.take 4 == asciiBytes "KTCA" && leAt b 4 2 == 1 && leAt b 6 1 == b2n heritage &&
    (w, h) == s.actGeom p && decide (1 ≤ leAt b 28 4 ∧ leAt b 28 4 ≤ 8) &&
    dir.all (fun d => sectionLen w h ndef d.1 == some d.2.2 && decide (128 ≤ d.2.1 ∧ d.2.1 + d.2.2 ≤ b.length)) &&
    dir.zipIdx.all (fun a => dir.zipIdx.all (fun c => a.2 == c.2 ||
      (a.1.1 != c.1.1 && decide (a.1.2.1 + a.1.2.2 ≤ c.1.2.1 ∨ c.1.2.1 + c.1.2.2 ≤ a.1.2.1)))) &&
    (match archiveSection b 5 with
     | some r => (List.range 4).all (fun k => decide (leAt r (8216 * k) 1 ≤ 1))
     | none => true) &&
    (if heritage then (match archiveSection b 7 with | some k => kt2cOk k w h | none => false) else has 2 && !has 7)

/-- A plane of a geometry from row-major bytes, `size` bytes an entry; none clears it. -/
def State.writePlane (s : State) (at_ : Nat → Nat → Nat) (w h size : Nat) (b : Option (List Byte)) : State :=
  (List.range h).foldl (fun s r =>
    s.setDram (at_ r 0) (match b with
      | some b => slice b (r * w * size) (w * size)
      | none => List.replicate (w * size) 0#8)) s

/-- 05 R200: the radiometric calibration of an archive. -/
def State.writeRad (s : State) (p : Pos) (b : List Byte) : State :=
  (List.range 4).foldl (fun s k =>
    let r := slice b (8216 * k) 8216
    ((s.setDom (Obj.RAD_LUT p.val k) (r.drop 24)).setOs
      ([(Obj.RAD_FORM p.val k, ((leAt r 0 1 : Nat) : Int)), (Obj.MERGE_RATIO p.val k, ((leAt r 4 4 % 2 ^ 24 : Nat) : Int))] ++
        (List.range 4).map (fun i => (Obj.RAD_K p.val (4 * k + i), ((leAt r (8 + 4 * i) 4 : Nat) : Int)))))) s

/-- 04 R169: a base entry with offset, gain and defect mark of a KT2410 set; D, C and PERSIST stay. -/
def kt2cEntry (old : List Byte) (off gain : Nat) (defect : Bool) : List Byte :=
  let d := leBytes 2 off ++ leBytes 2 gain ++ slice old 4 3 ++ [0#8, byteOf (if defect then 0x80 else 0), 0#8] ++ slice old 10 4
  d ++ leBytes 2 (crc16 d)

/-- 04 R169: offsets, gains and defects of a KT2410 set; the drift objects; the recipe goes into the pending generation of S0
and is committed.  A COMMIT that is refused counts (07 R261) and leaves the recipe pending; into a set COMMITTED already (07 R263) the
recipe goes all the same, and the COMMIT given before carries it: DESIGN CHOICE (log 75). -/
def State.importKt2c (s : State) (k : List Byte) (w h : Nat) : State :=
  let at_ := 48 + 4 * w * h
  let defs := (List.range (leAt k 28 4)).map (fun i => (leAt k (at_ + 4 * i) 2, leAt k (at_ + 4 * i + 2) 2))
  let s := (pixelsOf w h).foldl (fun s x =>
    let o := 48 + 4 * (x.1 * w + x.2)
    s.setDram (baseAt 0 x.1 x.2) (kt2cEntry (s.baseBytes 0 x.1 x.2) (leAt k o 2) (leAt k (o + 2) 2) (defs.contains x))) s
  let drift : Int := if leAt k 4 2 = 2 then 0 else fromCode 16 (leAt k 12 2)
  let s := s.setOs [(Obj.HER_TREF, ((leAt k 10 2 : Nat) : Int)), (Obj.HER_DRIFT_D, drift)]
  let s := ([(Obj.HER_SNR_EN, ((leAt k 14 1 % 2 : Nat) : Int)), (Obj.HER_TNR_EN, ((leAt k 14 1 / 2 % 2 : Nat) : Int)),
      (Obj.HER_TNR_BETA, ((leAt k 15 1 : Nat) : Int))] ++
    (List.range 9).map (fun i => (Obj.HER_SNR_KERNEL i, fromCode 8 (leAt k (16 + i) 1)))).foldl
    (fun s o => s.setPending 0 o.1 o.2) s
  match s.commit 1 with
  | .ok s' => s'
  | .error _ => s.countRefused 1

/-- 04 R160, R169, Table 04-10: the sections of a checked archive are written into the planes and objects; where one is absent, the
linearisation table is the identity, the slot plane zero, the sums cleared, the base plane (of a heritage archive) as it stands. -/
def State.writeArchive (s : State) (p : Pos) (heritage : Bool) (b : List Byte) : State :=
  let w := leAt b 8 2
  let h := leAt b 10 2
  let s := match archiveSection b 2 with
    | some d => s.writePlane (baseAt p) w h 16 (some d)
    | none => s
  let s := ((s.writePlane (slotAt p) w h 8 (archiveSection b 3)).writePlane (sumsAt p) w h 24 (archiveSection b 4)).setDom
    (Obj.CORR_LIN_LUT p.val) ((archiveSection b 1).getD [])
  let s := match heritage, archiveSection b 7 with
    | true, some k => s.importKt2c k w h
    | _, _ => s
  let s := match archiveSection b 5 with
    | some r => s.writeRad p r
    | none => s
  let mis := leAt b 20 8 != s.o (Obj.FPA_ID p.val)
  let s := (s.setCoef p { s.coef.get p with format := b2n heritage, idMismatch := mis }).setOs
    [(Obj.CORR_T0 p.val, ((leAt b 12 2 : Nat) : Int)), (Obj.CORR_COEF_TAG p.val, ((leAt b 16 4 : Nat) : Int))]
  if mis then s.logEvt .idMismatch p.val 0 [(8, leAt b 20 8)] else s

/-- A plane of a geometry as row-major bytes. -/
def State.readPlane (s : State) (at_ : Nat → Nat → Nat) (w h size : Nat) : List Byte :=
  (List.range h).flatMap (fun r => s.dram (at_ r 0) (w * size))

/-- 05 R200: the radiometric calibration as a section. -/
def State.radSection (s : State) (p : Pos) : List Byte :=
  (List.range 4).flatMap (fun k =>
    [byteOf (s.o (Obj.RAD_FORM p.val k)), 0#8, 0#8, 0#8] ++ leBytes 4 (s.o (Obj.MERGE_RATIO p.val k)) ++
      (List.range 4).flatMap (fun i => leBytes 4 (s.o (Obj.RAD_K p.val (4 * k + i)))) ++
      (radTable (s.dom (Obj.RAD_LUT p.val k))).flatMap (leBytes 2))

/-- 04 R127: the linearisation table as bytes. -/
def State.lutBytes (s : State) (p : Pos) : List Byte :=
  let lut := (s.dom (Obj.CORR_LIN_LUT p.val)).toArray
  (List.range 1024).flatMap (fun k => leBytes 4 (lutEntry lut k).toNat)

/-- 04 R168: the heritage set in service as a KT2410 coefficient set. -/
def State.kt2cBytes (s : State) (w h : Nat) : List Byte :=
  let px := pixelsOf w h
  let bs := px.map (fun x => (x, s.baseBytes 0 x.1 x.2))
  let defs := bs.filter (fun d => bitAt (leAt d.2 8 1) 7)
  let g := fun (k : Nat) => (s.act 0 k)
  let b := asciiBytes "KT2C" ++ leBytes 2 3 ++ leBytes 2 w ++ leBytes 2 h ++ leBytes 2 (s.o Obj.HER_TREF) ++
    leBytes 2 (toCode 16 (s.oi Obj.HER_DRIFT_D)) ++
    [byteOf ((g Obj.HER_SNR_EN).toNat + 2 * (g Obj.HER_TNR_EN).toNat), byteOf (g Obj.HER_TNR_BETA).toNat] ++
    (List.range 9).map (fun i => byteOf (toCode 8 (g (Obj.HER_SNR_KERNEL i)))) ++ [0#8, 0#8, 0#8] ++ leBytes 4 defs.length ++
    List.replicate 16 0#8 ++ bs.flatMap (fun d => d.2.take 4) ++ defs.flatMap (fun d => leBytes 2 d.1.1 ++ leBytes 2 d.1.2)
  b ++ leBytes 4 (crc32 b)

/-- An archive of typed sections behind its header (04 Table 04-9). -/
def buildArchive (format w h t0 tag id : Nat) (secs : List (Nat × List Byte)) : List Byte :=
  let offs := secs.foldl (fun (a : Nat × List (Nat × Nat × Nat)) x => (a.1 + x.2.length, a.2 ++ [(x.1, a.1, x.2.length)])) (128, [])
  let dir := offs.2.flatMap (fun d => leBytes 2 d.1 ++ [0#8, 0#8] ++ leBytes 4 d.2.1 ++ leBytes 4 d.2.2)
  asciiBytes "KTCA" ++ leBytes 2 1 ++ [byteOf format, 0#8] ++ leBytes 2 w ++ leBytes 2 h ++ leBytes 2 t0 ++ [0#8, 0#8] ++
    leBytes 4 tag ++ leBytes 8 id ++ leBytes 4 secs.length ++ dir ++ List.replicate (96 - dir.length) 0#8 ++
    secs.flatMap (·.2)

/-- 04 R162: the position's set as an archive with all its sections, in the set's own format; that of a heritage set holds the KT2410 set
beside the planes (DEDUCED, log 75).  It carries the FPA_ID of the position as it is now, whatever the set was loaded with: DESIGN CHOICE
(log 75). -/
def State.archiveBytes (s : State) (p : Pos) : List Byte :=
  let w := (s.actGeom p).1
  let h := (s.actGeom p).2
  let her := (s.coef.get p).format == 1
  let secs := [(1, s.lutBytes p), (2, s.readPlane (baseAt p) w h 16), (3, s.readPlane (slotAt p) w h 8),
      (4, s.readPlane (sumsAt p) w h 24), (5, s.radSection p)] ++ (if her then [(7, s.kt2cBytes w h)] else [])
  buildArchive (b2n her) w h (s.o (Obj.CORR_T0 p.val)) (s.o (Obj.CORR_COEF_TAG p.val)) (s.o (Obj.FPA_ID p.val)) secs

/-- 04 R161: a load that fails or is aborted leaves the set INVALID and is counted; the operation ends. -/
def State.loadFailed (s : State) (p : Pos) (st result : Nat) : State :=
  ((((({ s with ops := { s.ops with load := none } } : State).setO (Obj.CORR_COEF_STATE p.val) 4).inc
    (Obj.CORR_CNT_LOAD_FAIL p.val)).opEnd 0 st result).setO (Obj.PREP_STATE p.val) (if s.mode = 1 then 5 else s.o (Obj.PREP_STATE p.val)))

end Sys2Proof.Machine
end

