-- ==== Sys2Proof/Machine/EclOps.lean ====
section
/-!
DEFINITION. The eclipse engine: scheduling, grants, phases, the shutter arbiter, held starts and the ends of an eclipse
(06 R206 to R225, R242 to R252; 08 R314).
-/
namespace Sys2Proof.Machine

def State.phase (s : State) (p : Pos) : Nat := s.o (Obj.ECL_PHASE p.val)
def State.setPhase (s : State) (p : Pos) (n : Nat) : State := s.setO (Obj.ECL_PHASE p.val) n

/-! ### Scheduling (06 R244 to R251) -/

/-- 06 R244: ns since the last completed eclipse; none while there is none. -/
def State.eclAge (s : State) (p : Pos) : Option Nat :=
  let l := s.o (Obj.ECL_LAST_TIME p.val)
  if l = 0 then none else some (s.time.now - l)

/-- The age has reached a number of seconds. -/
def State.aged (s : State) (p : Pos) (sec : Nat) : Bool :=
  match s.eclAge p with
  | none => true
  | some a => decide (sec * 1000000000 ≤ a)

/-- 06 R244: due by the schedule. -/
def State.dueBySchedule (s : State) (p : Pos) : Bool :=
  match s.o (Obj.ECL_SCHED_MODE p.val) with
  | 1 => s.aged p (s.o (Obj.ECL_INTERVAL p.val))
  | 2 => (s.aged p (s.o (Obj.ECL_MIN_INTERVAL p.val)) &&
      decide (s.o (Obj.ECL_PRED_THRESH p.val) ≤ s.o (Obj.ECL_PRED_ERR p.val))) || s.aged p (s.o (Obj.ECL_MAX_INTERVAL p.val))
  | _ => false

/-- 06 R245: the prediction for a position now, at a substrate temperature. -/
def State.predAt (s : State) (p : Pos) (subt : Int) : Nat :=
  predErr (subt - s.oi (Obj.CORR_T0 p.val) - s.oi (Obj.ECL_LAST_TACC p.val)).natAbs (s.eclAge p)
    (s.o (Obj.ECL_PRED_K p.val)) (s.o (Obj.ECL_PRED_AGE_RATE p.val))

/-- 06 R245: the prediction for a position now. -/
def State.predNow (s : State) (p : Pos) : Nat := s.predAt p (s.oi (Obj.CORR_SUBT_START p.val))

/-- 06 R244: a position becomes due, and waits in QUEUED. -/
def State.becomeDue (s : State) (p : Pos) : State :=
  let e := s.ecl.get p
  let s := s.setEcl p { e with due := true, dueSince := if e.due then e.dueSince else s.time.now }
  if s.phase p = 0 then s.setPhase p 1 else s

/-- 06 R246: ECL_REQUEST. -/
def State.eclRequest (s : State) (p : Pos) (kind : Nat) : Res :=
  if s.mode = 0 ∨ s.mode = 5 ∨ s.enabled p = false ∨ (s.ecl.get p).shutFault = true then .error Abort.state
  else if s.phase p ≠ 0 ∨ s.coefState p ≠ 0 ∨ s.saving p = true then .error Abort.busy
  else .ok ((s.becomeDue p).setEcl p { (s.becomeDue p).ecl.get p with requested := true, kind := kind })

/-- A window into the list, in start order. -/
def insWindow (w : Window) : List Window → List Window
  | [] => [w]
  | x :: r => if w.start < x.start then w :: x :: r else x :: insWindow w r

/-- 06 R249: the windows held: one whose end has passed is ignored. -/
def State.heldWindows (s : State) : List Window := s.windows.filter (fun w => decide (s.time.now < w.fin))

/-- 06 R251: the last instant, up to now, at which a window covered the position. -/
def State.lastCovered (s : State) (p : Pos) : Nat :=
  (s.windows.filter (fun w => bitAt w.mask p.val && decide (w.start ≤ s.time.now))).foldl (fun a w => max a (min w.fin s.time.now))
    (s.ecl.get p).coveredTill

/-- The windows held are about to change: how far they have covered the positions is kept. -/
def State.keepCovered (s : State) : State :=
  allPos.foldl (fun s p => s.setEcl p { s.ecl.get p with coveredTill := s.lastCovered p }) s

/-- 06 R249: a chain window is stored; a fifth displaces the one held that starts latest. -/
def State.addWindow (s : State) (w : Window) : State :=
  let s := s.keepCovered
  if w.fin ≤ w.start ∨ w.fin ≤ s.time.now then s
  else
    let l := s.heldWindows
    if l.length < 4 then { s with windows := insWindow w l }
    else ({ s with windows := insWindow w l.dropLast } : State).inc Obj.ECL_CNT_WINDOW_LOST

/-- 06 R251: a window covers a position now. -/
def State.inWindow (s : State) (p : Pos) : Bool :=
  s.windows.any (fun w => bitAt w.mask p.val && decide (w.start ≤ s.time.now ∧ s.time.now < w.fin))

/-- 06 R250: the window that covers a position now and lasts long enough. -/
def State.windowFor (s : State) (p : Pos) : Option Nat :=
  (s.windows.find? (fun w => bitAt w.mask p.val &&
    decide (w.start ≤ s.time.now ∧ s.time.now + 1000 * s.o (Obj.ECL_EST_DURATION p.val) ≤ w.fin))).map (·.fin)

/-- Due or requested. -/
def EclPos.wanted (e : EclPos) : Bool := e.due || e.requested

/-- 06 R247, R251: whether a position is eligible: its class (0 due, 1 opportunistic), and the end of its window.  A position
whose opening pulse is still to be repeated (R225) is not granted before: DESIGN CHOICE (log 76). -/
def State.eligible (s : State) (p : Pos) : Option (Nat × Option Nat) :=
  let e := s.ecl.get p
  if !s.enabled p || decide (1 < s.phase p) || e.granted || e.retryAt.isSome then none
  else if s.mode = 3 then (if e.part = 0 then some (0, none) else none)
  else if s.coefState p ≠ 0 then none
  else
    match s.mode with
    | 1 => if e.mandatory then some (0, none) else none
    | 2 =>
      if s.inForce Obj.LOCAL_ONLY = 1 then (if e.wanted then some (0, none) else none)
      else
        match s.windowFor p with
        | some f =>
          if e.wanted then some (0, some f)
          else if s.o Obj.ECL_WINDOW_OPPORTUNISTIC = 1 ∧ s.aged p (s.o (Obj.ECL_MIN_INTERVAL p.val)) = true then some (1, some f)
          else none
        | none => none
    | 4 => if e.requested then some (0, none) else none
    | _ => none

/-- 06 R247: the position granted next: class, then among requested and due ones in RUN and SERVICE the highest ECL_PRED_ERR, then
the lower number. -/
def State.nextGrant (s : State) : Option (Pos × Option Nat) :=
  let l := allPos.filterMap (fun p => (s.eligible p).map (fun x => (p, x)))
  let before := fun (a b : Pos × Nat × Option Nat) =>
    decide (a.2.1 < b.2.1) || (a.2.1 == 0 && b.2.1 == 0 && (s.mode == 2 || s.mode == 4) &&
      decide (s.o (Obj.ECL_PRED_ERR b.1.val) < s.o (Obj.ECL_PRED_ERR a.1.val)))
  match l with
  | [] => none
  | x :: r => let b := r.foldl (fun b y => if before y b then y else b) x; some (b.1, b.2.2)

/-- 06 R209: the arbiter can start a pulse. -/
def State.arbiterFree (s : State) : Bool :=
  s.shut.running.isNone && s.shut.queue.isEmpty &&
    (match s.shut.lastEnd with | some t => decide (t + 10000000 ≤ s.time.now) | none => true)

/-- The values of a grant (06 Table 06-5: latched at the grant; R242 for a partial eclipse). -/
def State.eclParams (s : State) (p : Pos) (kind : Nat) : EclParams :=
  let k := p.val
  let n := s.o (Obj.ECL_ACC_FRAMES k)
  { n := if kind = 2 then max 4 (roundDiv n 4).toNat else n, framePeriod := s.o Obj.ECL_FRAME_PERIOD, targetMode := s.o (Obj.ECL_TARGET_MODE k),
    tsrc := s.o (Obj.ECL_SHUT_TSRC k), pulseMax := s.o (Obj.ECL_PULSE_MAX k), pulseHold := s.o (Obj.ECL_PULSE_HOLD k),
    cfg := s.o (Obj.ECL_SHUT_CFG k), settle := s.o (Obj.ECL_SETTLE_TIME k),
    recover := s.o (Obj.ECL_RECOVER_FRAMES k), guardUs := s.o (Obj.ECL_EDGE_GUARD k), rowT0 := s.o (Obj.ECL_ROW_T0 k),
    rowPitch := s.o (Obj.ECL_ROW_PITCH k), travelClose := (List.range 17).map (fun i => s.o (Obj.ECL_TRAVEL_CLOSE k i)),
    travelOpen := (List.range 17).map (fun i => s.o (Obj.ECL_TRAVEL_OPEN k i)), fitMinStep := s.o (Obj.ECL_FIT_MIN_STEP k),
    tauMinEst := s.o (Obj.ECL_TAU_MIN_EST k), forget := s.o (Obj.ECL_DRIFT_FORGET k), minW := s.o (Obj.ECL_DRIFT_MIN_W k),
    linSpan := s.o (Obj.ECL_DRIFT_LIN_SPAN k), quadSpan := s.o (Obj.ECL_DRIFT_QUAD_SPAN k), defOfs := s.o (Obj.ECL_DEF_OFS_LIM k),
    defNoise := s.o (Obj.ECL_DEF_NOISE_MUL k), defSet := s.o (Obj.ECL_DEF_SET k), defCap := s.o (Obj.ECL_DEF_CAP k),
    defMax := s.o (Obj.ECL_DEF_MAX k), learn := s.o (Obj.ECL_LEARN_EN k) }

/-- What a position keeps from one eclipse to the next; the values an UPDATE still works on stay until it ends (R224), and a
faulted opening pulse is still repeated (R225). -/
def EclPos.rest (e : EclPos) : EclPos :=
  let keep := { EclPos.reset with
    kind := e.kind, requested := e.requested, due := e.due, dueSince := e.dueSince, heldFlag := e.heldFlag,
    mandatory := e.mandatory, part := e.part, shutFault := e.shutFault, overdue := e.overdue, overdueSent := e.overdueSent,
    targetFallback := e.targetFallback, coveredTill := e.coveredTill, prevTacc := e.prevTacc, retryAt := e.retryAt }
  if e.updating then
    { keep with
      params := e.params, lastCtx := e.lastCtx, accIn := e.accIn, accGood := e.accGood, subtSum := e.subtSum,
      tshSum := e.tshSum, tshN := e.tshN, fitRows := e.fitRows, cap := e.cap, period := e.period, frameSubt := e.frameSubt, updating := true }
  else keep

/-- The position is in IDLE again, or QUEUED while it is due. -/
def State.eclIdle (s : State) (p : Pos) : State :=
  let e := (s.ecl.get p).rest
  (s.setEcl p e).setPhase p (if e.wanted then 1 else 0)

/-- 06 R247: the grant; the position's part (R248) is still to end. -/
def State.grant (s : State) (p : Pos) (window : Option Nat) : State :=
  let e := s.ecl.get p
  let kind := if e.kind = 0 ∨ e.mandatory = true then 1 else e.kind
  (s.setEcl p { e.rest with
    granted := true, windowEnd := window, kind := kind, part := 0, params := some (s.eclParams p kind), updating := false }).setPhase p 1

/-- 06 R248: positions whose turn comes in ECLIPSE mode with a set that is not CLOSED, or with SHUT_FAULT, end their part. -/
def State.skipParts (s : State) : State :=
  allPos.foldl (fun s p =>
    let e := s.ecl.get p
    if s.enabled p ∧ e.part = 0 ∧ s.phase p ≤ 1 ∧ e.granted = false ∧ (s.coefState p ≠ 0 ∨ e.shutFault = true) ∧
        allPos.all (fun q => decide (p.val ≤ q.val) || !s.enabled q || (s.ecl.get q).part != 0) = true then
      s.setEcl p { e with part := 2 } else s) s

/-! ### Pulses (06 R206 to R212) -/

/-- End sensing, swap, pulse bounds in ns: latched values for a pulse of an eclipse, those of now otherwise. -/
def State.pulseCfg (s : State) (x : Pulse) : Nat := 
  match x.purpose, (s.ecl.get x.pos).params with
  | 0, some q => q.cfg
  | 4, some q => q.cfg
  | 5, some q => q.cfg
  | _, _ => s.o (Obj.ECL_SHUT_CFG x.pos.val)

def State.pulseMaxNs (s : State) (x : Pulse) : Nat :=
  1000000 * (match x.purpose, (s.ecl.get x.pos).params with
    | 0, some q => q.pulseMax
    | 4, some q => q.pulseMax
    | 5, some q => q.pulseMax
    | _, _ => s.o (Obj.ECL_PULSE_MAX x.pos.val))

def State.pulseHoldNs (s : State) (x : Pulse) : Nat :=
  1000000 * (match x.purpose, (s.ecl.get x.pos).params with
    | 0, some q => q.pulseHold
    | 4, some q => q.pulseHold
    | 5, some q => q.pulseHold
    | _, _ => s.o (Obj.ECL_PULSE_HOLD x.pos.val))

/-- 06 R207: end sensing is enabled for a pulse. -/
def State.sensing (s : State) (x : Pulse) : Bool := bitAt (s.pulseCfg x) 1

/-- A pulse waits for the arbiter. -/
def State.askPulse (s : State) (p : Pos) (closing : Bool) (purpose : Nat) : State :=
  { s with shut := { s.shut with queue := s.shut.queue ++ [⟨p, closing, purpose⟩] } }

/-- Waiting pulses of a position that meet a test are withdrawn. -/
def State.dropPulses (s : State) (p : Pos) (f : Pulse → Bool) : State :=
  { s with shut := { s.shut with queue := s.shut.queue.filter (fun x => !(x.pos == p && f x)) } }

/-- 06 R206: the bridge drives: A high for closing, B for opening, or the other way round. -/
def State.drive (s : State) (x : Pulse) : State :=
  let a := x.closing != bitAt (s.pulseCfg x) 0
  { s with shut := { s.shut with outA := s.shut.outA.set x.pos a, outB := s.shut.outB.set x.pos (!a) } }

/-- Between pulses both outputs are low. -/
def State.brake (s : State) (p : Pos) : State :=
  { s with shut := { s.shut with
      running := none, lastEnd := some s.time.now, outA := s.shut.outA.set p false, outB := s.shut.outB.set p false } }

/-- A pulse of an eclipse. -/
def Pulse.ofEclipse (x : Pulse) : Bool := x.purpose == 0 || x.purpose == 4 || x.purpose == 5

/-- 06 R223: an eclipse ends early.  Before F0 the position returns at once; with no closing pulse begun nothing is to be
opened; else the engine opens the shutter and the frames clear under R220. -/
def State.eclEarly (s : State) (p : Pos) (result : Nat) : State :=
  let s := (s.setO (Obj.ECL_LAST_RESULT p.val) result).inc (Obj.ECL_CNT_ABORT p.val)
  let e := s.ecl.get p
  let e := { e with result := result, updateDone := true, updating := false }
  if s.phase p ≤ 1 then (s.setEcl p { e with part := 2 }).eclIdle p
  else if e.closeStart.isNone then
    ((s.setEcl p { e with openingDone := true }).dropPulses p Pulse.ofEclipse).setPhase p 6
  else ((s.setEcl p e).askPulse p false 5).setPhase p 5

/-- 06 R225: the repeated opening pulse faulted: the eclipse ends, and the frames keep ECLIPSED; writes already complete count
as a completed change (R29). -/
def State.openingFailed (s : State) (p : Pos) : State :=
  let e := s.ecl.get p
  let s := if e.result = 0 then s.setO (Obj.ECL_LAST_RESULT p.val) 7 else s
  let s := if e.wrote then s.setCoef p { s.coef.get p with changed := true } else s
  (s.setEcl p { e with heldFlag := true, part := 2 }).eclIdle p

/-- What follows a fault of a pulse, by what the pulse was for (06 R211, R223, R225). -/
def State.pulseFailed (s : State) (x : Pulse) : State :=
  let e := s.ecl.get x.pos
  if x.closing then (if x.purpose = 0 ∧ s.phase x.pos = 2 then s.eclEarly x.pos 7 else s)
  else if x.purpose = 4 then (if 2 ≤ s.phase x.pos then s.openingFailed x.pos else s.setEcl x.pos { e with heldFlag := true })
  else if x.ofEclipse then (if s.imaging then s.setEcl x.pos { e with retryAt := some (s.time.now + 100000000) } else s)
  else if x.purpose = 2 then s
  else s.setEcl x.pos { e with heldFlag := true }

/-- 06 R208: a shutter fault of a position. -/
def State.shutterFault (s : State) (p : Pos) : State :=
  (s.setEcl p { s.ecl.get p with shutFault := true }).notify 0x0010 p.val [(1, s.phase p)]

/-- A running pulse ends in a shutter fault. -/
def State.pulseFault (s : State) (x : Pulse) : State := ((s.brake x.pos).shutterFault x.pos).pulseFailed x

/-- A pulse ends as it should (06 R207, R214; R211 for what an opening ends). -/
def State.pulseDone (s : State) (x : Pulse) : State :=
  let s := s.brake x.pos
  let e := s.ecl.get x.pos
  if x.closing then
    if x.purpose = 0 ∧ s.phase x.pos = 2 then
      (s.setEcl x.pos { e with closedAt := if e.closedAt.isSome then e.closedAt else some s.time.now }).setPhase x.pos 3
    else s
  else
    let e := if x.purpose = 2 ∨ e.shutFault = false then { e with heldFlag := false } else e
    s.setEcl x.pos (if x.ofEclipse && e.openAt.isNone then { e with openAt := some s.time.now } else e)

/-- A pulse begins: its outputs, and the sensor of the end it leaves (log 40). -/
def State.pulseBegin (s : State) (x : Pulse) : State :=
  let s := s.drive x
  let s : State := { s with shut := { s.shut with
    running := some (x, s.time.now),
    closedPin := if x.closing then s.shut.closedPin else s.shut.closedPin.set x.pos none,
    openPin := if x.closing then s.shut.openPin.set x.pos none else s.shut.openPin } }
  let e := s.ecl.get x.pos
  if x.closing then
    let s := s.bumpCounter (3 + x.pos.val) (Obj.ECL_SHUT_CYCLES x.pos.val)
    if x.purpose = 0 then s.setEcl x.pos { e with closeStart := some s.time.now } else s
  else if x.ofEclipse then s.setEcl x.pos { e with openStart := some s.time.now, openAt := none, cleanFrames := 0 } else s

/-- 06 R210: the cycle counter cannot be written: the closing pulse is not started, and its eclipse ends with NV. -/
def State.cycleFailed (s : State) (x : Pulse) : State := if x.purpose = 0 then s.eclEarly x.pos 9 else s

/-- 06 R209, R210, 17 R554: the arbiter takes the pulse that has waited longest; `written` is false when the keep array fails the
write of the cycle counter, also on its retry (13 R441). -/
def State.arbiter (s : State) (written : Bool) : State :=
  match s.shut.queue with
  | [] => s
  | x :: rest =>
    if s.shut.running.isSome ∨ (match s.shut.lastEnd with | some t => decide (s.time.now < t + 10000000) | none => false) = true then s
    else
      let s' : State := { s with shut := { s.shut with queue := rest } }
      let s' := if x.closing && s.domOn 78 && !s.nv.closed then s'.pageIs (Keep.counter (3 + x.pos.val)) 32 written else s'
      if s.dom80 78 = 3 then s'.pulseFailed x
      else if !s.domOn 78 then s
      else if x.closing && s.nv.closed then s'.cycleFailed x
      else if x.closing && s'.wornAt (Keep.counter (3 + x.pos.val)) 32 then (s'.nvFailed (Keep.counter (3 + x.pos.val))).cycleFailed x
      else s'.pulseBegin x

/-- 17 R541: at power fail the pulse in progress is cut, without a fault. -/
def State.pulseCut (s : State) : State :=
  match s.shut.running with
  | some (x, _) => s.brake x.pos
  | none => s

/-! ### The course of an eclipse (06 R213 to R221) -/

/-- The settings an eclipse is bound to (06 Table 06-2). -/
def FrameCtx.eclSet (x : FrameCtx) (p : Pos) : List Nat :=
  [x.width, x.height, x.n (Obj.INT_SLOT_MASK p.val), x.n (Obj.INTG_VDET p.val)] ++
    (List.range 4).map (fun k => x.n (Obj.INTG_TINT p.val k))

/-- 06 R411: the work area holds nothing of an earlier eclipse. -/
def State.clearWork (s : State) : State :=
  { s with mem := { s.mem with dram := Store.dropRange s.mem.dram 0x40000000 0x50000000 } }

/-- 06 R213, R216, 08 R314: F0: the closing pulse is asked for, the held period begins, starts of the bound source go. -/
def State.eclBegin (s : State) (p : Pos) (x : FrameCtx) : State :=
  let e := s.ecl.get p
  let n := (s.trig.get p).queue.length + (s.trig.get p).marks.length
  let s := s.discardStarts p
  let s := s.incBy (Obj.TRIG_CNT_ECL_IGNORED p.val) (n - (s.trig.get p).marks.length)
  (((s.clearWork).setEcl p { e with
      f0Start := some x.start, heldK := 0, f0Set := x.eclSet p, flag := true,
      period := max ((e.params.map (·.framePeriod)).getD 0) (x.n (Obj.TRIG_MIN_PERIOD p.val)) }).setPhase p 2).askPulse p true 0

/-- 08 Table 08-3: the encoder count of a held start: TG_ENC_REF of the bound generator, ENC0 for a chain binding. -/
def State.heldEnc (s : State) (kind : Nat) : Nat :=
  s.o (Obj.ENC_COUNT (if kind / 64 = 1 then s.o (Obj.TG_ENC_REF (kind % 4)) else 0))

/-- 06 R216, 08 R317: the provenance of a held start, marked by bit 4 of its kind; its encoder count is taken at the start. -/
def State.heldProv (s : State) (p : Pos) (at_ : Nat) : Start :=
  { s := at_, t := at_, e := s.heldEnc (s.binding p), kind := s.binding p + 16, seq := 0 }

/-- The provenance at the start itself (06 R216). -/
def State.provAtStart (s : State) (st : Start) : Start := if bitAt st.kind 4 then { st with e := s.heldEnc st.kind } else st

/-- 06 R216: a held start at its decision point: its mark is committed, or it is dropped as under SKIP. -/
def State.heldDecide (s : State) (p : Pos) : State :=
  match s.heldNext p with
  | none => s
  | some st =>
    if s.time.now < s.decision p st then s
    else
      let e := s.ecl.get p
      let h := s.heldProv p st
      let s := s.setEcl p { e with heldK := e.heldK + 1 }
      let drop := fun (s : State) => (s.inc (Obj.TRIG_SKIPPED p.val)).setEcl p { s.ecl.get p with gap := true }
      let clash := s.clashes (s.fpaSel p) st
      if clash then drop (s.inc (Obj.TRIG_CNT_CLASH p.val))
      else if !s.startAllowed p h then drop s
      else s.setTrig p { s.trig.get p with marks := (s.trig.get p).marks ++ [(st, h)] }

/-- 06 R213, R219, R223: what a mark begins, and what the frame is to the eclipse: 0 nothing, 1 accumulation, 2 held, 3 held
after a dropped start, 4 accumulation after a dropped start. -/
def State.eclMark (s : State) (p : Pos) (start : Nat) : State × Nat :=
  let e := s.ecl.get p
  let settle := (e.params.map (·.settle)).getD 0
  if e.f0Start.isNone || e.openingDone then (s, 0)
  else
    let kind := if e.gap then 3 else 2
    let acc := if e.gap then 4 else 1
    let s := s.setEcl p { e with gap := false }
    match s.phase p with
    | 3 =>
      match e.closedAt with
      | some c => if c + settle * 1000000 ≤ start then (s.setPhase p 4, acc) else (s, kind)
      | none => (s, kind)
    | 4 => (s, acc)
    | 7 => ((s.setPhase p 5).askPulse p false 0, kind)
    | _ => (s, kind)

/-- 06 R219: an accumulation frame has closed. -/
def State.eclClosed (s : State) (p : Pos) (f : OpenFrame) : State :=
  let e := s.ecl.get p
  if !accKind f.eclKind || s.phase p != 4 then s
  else
    let n := (e.params.map (·.n)).getD 0
    let taken := e.accTaken + 1
    if f.short then
      let s := (s.setEcl p { e with accTaken := taken }).inc (Obj.ECL_CNT_SHORT_DISCARD p.val)
      if 2 * n ≤ taken then s.eclEarly p 8 else s
    else if e.accGood + 1 = n then
      (s.setEcl p { e with accTaken := taken, accGood := n, updating := true }).setPhase p 7
    else
      let s := s.setEcl p { e with accTaken := taken, accGood := e.accGood + 1 }
      if 2 * n ≤ taken then s.eclEarly p 8 else s

/-- 06 R220: every row of a frame is clean after the opening edge. -/
def State.allClean (s : State) (p : Pos) (x : FrameCtx) : Bool :=
  let e := s.ecl.get p
  match e.params, e.openStart with
  | some q, some t => (List.range x.height).all (fun r => rowClean x.start q.rowT0 q.rowPitch r t q.travelOpen q.guardUs)
  | _, _ => false

/-- 06 R220: OPENING ends. -/
def State.openingEnds (s : State) (p : Pos) : State :=
  let e := s.ecl.get p
  if s.phase p = 5 ∧ e.openAt.isSome = true ∧ ((e.params.map (·.recover)).getD 0) ≤ e.cleanFrames then
    (s.setEcl p { e with openingDone := true }).setPhase p 6
  else s

/-- 13 Table 13-1: the last-eclipse record of a position (its layout: log 41). -/
def State.eclRecord (s : State) (p : Pos) (at_ : Nat) : State :=
  if s.nv.closed then s
  else
    s.setKeep (Keep.lastEclipse p.val)
      (leBytes 8 (s.o (Obj.FPA_ID p.val)) ++ leBytes 2 ((s.vdet.get p).eclCode.getD 0) ++ leBytes 2 (toCode 16 (s.oi (Obj.ECL_LAST_TACC p.val))) ++
        leBytes 4 (s.o Obj.MEM_RETAIN_EPOCH) ++ leBytes 8 at_)

/-- 06 R245: ECL_PRED_K after a completed full eclipse. -/
def State.learnK (s : State) (p : Pos) : State :=
  let e := s.ecl.get p
  if e.kind = 1 then
    s.setO (Obj.ECL_PRED_K p.val) (predK (s.o (Obj.ECL_PRED_K p.val)) (s.o (Obj.ECL_LAST_RESID p.val)) e.tAcc e.prevTacc)
  else s

/-- 06 R221, R239: a completed eclipse becomes effective at Fu's hand-over; its VDET code is the one it was measured under, that of F0
(07 R258, 06 Table 06-2). -/
def State.eclEffective (s : State) (p : Pos) (x : FrameCtx) : State :=
  let s := s.setCoef p { s.coef.get p with changed := true }
  let s := (s.learnK p).bumpCounter (7 + p.val) (Obj.ECL_COUNT p.val)
  let s := s.setOs [(Obj.ECL_LAST_TIME p.val, ((x.start : Nat) : Int)), (Obj.ECL_LAST_RESULT p.val, 1)]
  let e := s.ecl.get p
  let s := if e.driftState ≠ 0 then
      s.setOs [(Obj.ECL_DRIFT_STATE p.val, ((e.driftState : Nat) : Int)), (Obj.ECL_DRIFT_TIME p.val, ((x.start : Nat) : Int))] else s
  let s : State := { s with vdet := s.vdet.upd p (fun v => { v with eclCode := some ((s.ecl.get p).f0Set.getD 3 0) }) }
  let s := s.eclRecord p x.start
  (s.setEcl p { e with prevTacc := some e.tAcc, mandatory := false, part := 1, requested := false, due := false, kind := 0,
                       overdueSent := false }).eclIdle p

/-- 06 R220, R221, R223: Fu: the eclipse has ended. -/
def State.eclFu (s : State) (p : Pos) (x : FrameCtx) : State :=
  let e := s.ecl.get p
  if e.result = 0 then s.eclEffective p x else (s.setEcl p { e with part := 2 }).eclIdle p

/-- 06 R213 to R223: what a hand-over does to the eclipse of its position, and what the frame is to it.  `throttle`: a step
of throttle enforcement reaches the position with this hand-over (16 R527). -/
def State.eclHandOver (s : State) (p : Pos) (x : FrameCtx) (throttle : Bool) : State × Nat :=
  let e := s.ecl.get p
  let ph := s.phase p
  let r : State × Nat :=
    if ph = 1 ∧ e.granted = true then (s.eclBegin p x, 2)
    else if 2 ≤ ph ∧ ph ≤ 4 ∧ throttle = true then (s.eclEarly p 5, x.eclKind)
    else if 2 ≤ ph ∧ ph ≤ 4 ∧ x.eclSet p ≠ e.f0Set then (s.eclEarly p 4, x.eclKind)
    else if ph = 5 then
      (if s.allClean p x then s.setEcl p { e with cleanFrames := e.cleanFrames + 1 } else s, x.eclKind)
    else if ph = 6 ∧ e.openingDone = true ∧ e.updateDone = true then (s.eclFu p x, 0)
    else (s, x.eclKind)
  (r.1.setEcl p { r.1.ecl.get p with frameSubt := r.1.oi (Obj.CORR_SUBT_START p.val) }, r.2)

/-- 01 Table 01-5: frames of the position carry ECLIPSED. -/
def State.eclFlag (s : State) (p : Pos) : Bool := (s.ecl.get p).flag || (s.ecl.get p).heldFlag

/-- 06 Table 06-2, R224: a transition to STANDBY or SERVICE, or entry to SAFE: ABORTED_MODE.  A pulse in progress and, but for
SAFE, an UPDATE in progress complete; one that has completed counts at the next hand-over (01 R29), and the frames still on their
way keep ECLIPSED (01 R30). -/
def State.eclModeEnd (s : State) (p : Pos) (safe : Bool) : State :=
  let e := { s.ecl.get p with retryAt := none }
  let s := (s.dropPulses p (fun _ => true)).setEcl p e
  let s := if safe && e.updating then
      (s.setO (Obj.CORR_COEF_STATE p.val) 4).setEcl p { e with updating := false } else s
  let s := if e.wrote then s.setCoef p { s.coef.get p with changed := true } else s
  if s.phase p = 0 then s
  else
    let s := (((s.setO (Obj.ECL_LAST_RESULT p.val) 3).inc (Obj.ECL_CNT_ABORT p.val)).eclIdle p).setPhase p 0
    s.setEcl p { s.ecl.get p with flag := e.flag }

/-- 06 R211: at an entry into PREPARE or SERVICE, with end sensing, a shutter that is not open is opened. -/
def State.openAtEntry (s : State) (p : Pos) : State :=
  if bitAt (s.o (Obj.ECL_SHUT_CFG p.val)) 1 && (s.shut.openPin.get p).isNone then s.askPulse p false 1 else s

end Sys2Proof.Machine
end

