-- ==== Sys2Proof/Machine/EclUpdate.lean ====
section
/-!
DEFINITION. UPDATE: what an eclipse writes to the planes of its position from the work area (06 R226 to R243, R602; 04 R150,
R167).
-/
namespace Sys2Proof.Machine

/-- A pixel as UPDATE takes it: place, base entry as bytes and fields, slot entry, accumulation entries of the four slots,
whether it is missed and whether it counts as a defect. -/
structure EclPx where
  r : Nat
  c : Nat
  base : List Byte
  e : Entry
  ds : List Int
  acc : List (Nat × Nat × Nat)
  missed : Bool
  defect : Bool
deriving DecidableEq, Repr

/-- The mean of an accumulation entry, 1/16 count (06 R228). -/
def accMean (a : Nat × Nat × Nat) : Int := roundDiv a.1 a.2.2

/-- The reference slot: the lowest enabled one. -/
def refSlot (mask : Nat) : Nat := ((maskBits mask).head?).getD 0

def EclPx.mx (x : EclPx) (k : Nat) : Int := accMean (x.acc.getD k (0, 0, 0))

/-- 06 R228: the total offset in force before the eclipse. -/
def EclPx.tot (x : EclPx) (k : Nat) (t : Int) : Int := x.e.o0 + x.ds.getD k 0 + driftTerm x.e.d x.e.c t

/-- 06 R226, R228: a pixel of the geometry. -/
def State.eclPx (s : State) (p : Pos) (x : FrameCtx) (n r c : Nat) : EclPx :=
  let b := s.baseBytes p r c
  let sl := s.dram (slotAt p r c) 8
  let acc := (List.range 4).map (fun k => s.accEntry k r c)
  let e := entryOf b sl 0
  { r := r, c := c, base := b, e := e, ds := (List.range 4).map (fun k => fromCode 16 (leAt sl (2 * k) 2)), acc := acc,
    missed := eclMissed ((maskBits x.mask).map (fun k => (acc.getD k (0, 0, 0)).2.2)) n || (!x.heritage && e.g == 0),
    defect := labelDefect b }

/-- What UPDATE has for the whole position: t_acc, the targets of the slots, the median offset and deviation of R240, the held
period in µs. -/
structure EclUpd where
  q : EclParams
  x : FrameCtx
  full : Bool
  tAcc : Int
  v : List Int
  medOfs : Int
  medDev : Nat × Nat × Nat
  dt : Nat
deriving DecidableEq, Repr

/-- 06 R229: SHUTTER_TEMP applies to a slot. -/
def State.shutTarget (s : State) (p : Pos) (q : EclParams) (k : Nat) : Bool :=
  q.targetMode == 1 && q.tsrc != 0xFF && s.o (Obj.MERGE_RATIO p.val k) != 0 && decide (0 < (s.ecl.get p).tshN)

/-- 06 R229: the target of a slot; `good` are the valid pixels that are no defects. -/
def State.eclTarget (s : State) (p : Pos) (q : EclParams) (t : Int) (good : List EclPx) (k : Nat) : Int :=
  if s.shutTarget p q k then
    shutterTarget (radTable (s.dom (Obj.RAD_LUT p.val k))) (s.ecl.get p).tshSum (s.ecl.get p).tshN (s.o (Obj.MERGE_RATIO p.val k))
  else medianLow (good.map (fun x => meanTerm (x.mx k) (x.tot k t) x.e.g))

/-- o[r] of a pixel. -/
def EclUpd.ofs (u : EclUpd) (x : EclPx) (k : Nat) : Int := measured (x.mx k) (u.v.getD k 0) x.e.g

/-- What the update of one pixel counts and finds. -/
structure EclCnt where
  osat : Nat
  tauRej : Nat
  drift : Nat
  fitted : Nat
  lin : Nat
  quad : Nat
  refit : Nat
  capped : Nat
  learned : Nat
  flags : Bool
deriving DecidableEq, Repr

/-- 06 R236: the pixel's sums with this eclipse, while the DRIFT bit is set. -/
def State.eclSums (s : State) (p : Pos) (u : EclUpd) (x : EclPx) : List Int :=
  sumsStep (sumsOf (s.dram (sumsAt p x.r x.c) 24)) u.q.forget u.tAcc (if x.missed then 0 else u.ofs x (refSlot u.x.mask)) (!x.missed)

/-- 06 R237: D and C of a pixel after any refit. -/
def EclUpd.refit (u : EclUpd) (x : EclPx) (sums : List Int) : Refit :=
  if !bitAt u.q.learn 1 || x.missed || bitAt x.e.flags 3 then .keep
  else Machine.refit sums x.e.c u.q.minW u.q.linSpan u.q.quadSpan

/-- 06 R232, R233: the fit of a pixel. -/
def State.eclFit (s : State) (p : Pos) (u : EclUpd) (x : EclPx) : TauFit :=
  let f := s.fitEntry x.r x.c
  let m := x.mx ((slotOrder u.x.mask u.x.times).headD 0)
  if !u.full || x.missed || (s.ecl.get p).stored x.r != 3 || f.any (·.2) then .nothing
  else tauFit ((f.getD 0 (0, true)).1 - m) ((f.getD 1 (0, true)).1 - m) ((f.getD 2 (0, true)).1 - m) u.dt u.q.fitMinStep

/-- 06 R240: a candidate for a learned defect. -/
def EclUpd.candidate (u : EclUpd) (x : EclPx) (fit : TauFit) : Bool :=
  x.missed || fit == .reject || decide (16 * u.q.defOfs < (u.ofs x (refSlot u.x.mask) - u.medOfs).natAbs) ||
    noisier u.q.defNoise (x.acc.getD (refSlot u.x.mask) (0, 0, 1)) u.medDev

/-- 06 R240, R241: FLAGS and PERSIST of a pixel, and whether the cap kept it clear; `learned` is the number of LEARNED pixels
so far. -/
def EclUpd.learn (u : EclUpd) (x : EclPx) (fit : TauFit) (learned : Nat) : Nat × Nat × Bool :=
  let fl := x.e.flags
  let old := leAt x.base 10 1
  if !u.full || !bitAt u.q.learn 2 || bitAt fl 7 || bitAt fl 2 then (fl, old, false)
  else
    let cand := u.candidate x fit
    let pr := persistStep cand u.q.defCap old
    if bitAt fl 6 then (if pr = 0 then withBit fl 6 false else fl, pr, false)
    else if cand && decide (u.q.defSet ≤ pr) then
      (if learned < u.q.defMax then (withBit fl 6 true, pr, false) else (fl, pr, true))
    else (fl, pr, false)

/-- A base entry from its fields, with a matching CHK (04 R139, R140). -/
def packBase (b : List Byte) (o0 : Int) (d c : Int) (tau flags persist : Nat) : List Byte :=
  let x := leBytes 2 (toCode 16 o0) ++ (b.drop 2).take 2 ++ leBytes 2 (toCode 16 d) ++
    [byteOf (toCode 8 c), byteOf tau, byteOf flags] ++ (b.drop 9).take 1 ++ [byteOf persist] ++ (b.drop 11).take 3
  x ++ leBytes 2 (crc16 x)

/-- 06 R228: O0 and the slot offsets of a pixel with D and C as refitted. -/
def EclUpd.offsets (u : EclUpd) (x : EclPx) (d c : Int) : Int × List (Nat × Int) :=
  let r := refSlot u.x.mask
  let ref := u.ofs x r
  (ref - driftTerm d c u.tAcc, (maskBits u.x.mask).map (fun k => (k, if k = r then 0 else u.ofs x k - ref)))

/-- A value the s16 format cannot hold. -/
def over16 (v : Int) : Bool := decide (v < -32768 ∨ 32767 < v)

/-- 06 R234: the ring and TAU of a pixel after its fit. -/
def State.eclTau (s : State) (p : Pos) (u : EclUpd) (x : EclPx) (fit : TauFit) : State × Nat :=
  match fit with
  | .code c =>
    let ring := tauPush (s.dram (tauHistAt p x.r x.c) 8) c
    let s := s.setDram (tauHistAt p x.r x.c) ring
    match tauOf ring u.q.tauMinEst with
    | some t => (s, if bitAt u.q.learn 0 && !bitAt x.e.flags 4 then t else x.e.tau)
    | none => (s, x.e.tau)
  | _ => (s, x.e.tau)

/-- The pixel's slot offsets are written. -/
def State.writeSlots (s : State) (p : Pos) (x : EclPx) (l : List (Nat × Int)) : State :=
  l.foldl (fun s y => s.setDram (slotAt p x.r x.c + 2 * y.1) (leBytes 2 (toCode 16 (satS 16 y.2)))) s

/-- One pixel of a native position (06 R228 to R241). -/
def State.eclPixel (s : State) (p : Pos) (u : EclUpd) (n : EclCnt) (x : EclPx) : State × EclCnt :=
  let drift := bitAt u.q.learn 1
  let sums := s.eclSums p u x
  let s := if drift then s.setDram (sumsAt p x.r x.c) (sumsBytes sums) else s
  let rf := u.refit x sums
  let dc : Int × Int := match rf with | .fit d c _ => (d, c) | _ => (x.e.d, x.e.c)
  let fit := s.eclFit p u x
  let l := u.learn x fit n.learned
  let n : EclCnt := { n with
    drift := n.drift + b2n (rf == .reject), tauRej := n.tauRej + b2n (fit == .reject), capped := n.capped + b2n l.2.2,
    lin := n.lin + (match rf with | .fit _ _ 1 => 1 | _ => 0), quad := n.quad + (match rf with | .fit _ _ 2 => 1 | _ => 0),
    refit := n.refit + (match rf with | .fit _ _ _ => b2n (!x.defect) | _ => 0),
    learned := n.learned + b2n (bitAt l.1 6) - b2n (bitAt x.e.flags 6), flags := n.flags || l.1 != x.e.flags }
  if x.missed then
    (if l.1 = x.e.flags ∧ l.2.1 = leAt x.base 10 1 then s
     else s.setDram (baseAt p x.r x.c) (packBase x.base x.e.o0 x.e.d x.e.c x.e.tau l.1 l.2.1), n)
  else
    let o := u.offsets x dc.1 dc.2
    let t := s.eclTau p u x fit
    ((t.1.setDram (baseAt p x.r x.c) (packBase x.base (satS 16 o.1) dc.1 dc.2 t.2 l.1 l.2.1)).writeSlots p x o.2,
      { n with osat := n.osat + b2n (over16 o.1 || o.2.any (fun y => over16 y.2)),
               fitted := n.fitted + (match fit with | .code _ => 1 | _ => 0) })

/-- 04 R167: a pixel of S0 in heritage order: O0 takes the mean, rounded half up to whole counts and saturated to its format (00 R9). -/
def State.eclHerPixel (s : State) (p : Pos) (x : EclPx) : State :=
  let a := x.acc.getD 0 (0, 0, 1)
  if x.missed then s
  else s.setDram (baseAt p x.r x.c) (packBase x.base (satS 16 (rhuDiv a.1 a.2.2)) x.e.d x.e.c x.e.tau x.e.flags (leAt x.base 10 1))

/-- 06 R239: the state most pixels reach, once 90 % of the non-defect ones are refitted. -/
def driftReached (lin quad refit nonDefect : Nat) : Nat :=
  if nonDefect = 0 ∨ refit * 10 < nonDefect * 9 then 0 else if lin < quad then 2 else 1

/-- The counters and results of a native UPDATE. -/
def State.eclResults (s : State) (p : Pos) (u : EclUpd) (px good : List EclPx) (n : EclCnt) : State :=
  let k := p.val
  let rej := n.drift + b2n (bitAt u.q.learn 1 && decide (4096 ≤ u.tAcc.natAbs))
  let r := refSlot u.x.mask
  let s := (((((s.incBy (Obj.ECL_CNT_OFFSET_SAT k) n.osat).incBy (Obj.ECL_CNT_TAU_REJECT k) n.tauRej).incBy
    (Obj.ECL_CNT_DRIFT_REJECT k) rej).incBy (Obj.ECL_CNT_DEF_CAP k) n.capped).setOs
      [(Obj.ECL_LAST_RESID k, ((residual (good.map (fun x => u.ofs x r - x.tot r u.tAcc)) : Nat) : Int)),
        (Obj.ECL_LEARNED k, ((n.learned : Nat) : Int))])
  let s := if u.full then s.setO (Obj.ECL_TAU_FITTED k) n.fitted else s
  s.setEcl p { s.ecl.get p with driftState := driftReached n.lin n.quad n.refit (px.filter (fun x => !x.defect)).length }

/-- 06 R231: tap T6: the mean values of each enabled slot as one frame each, missed pixels INVALID. -/
def State.tapMeans (s : State) (p : Pos) (x : FrameCtx) (px : List EclPx) : State :=
  if x.n (Obj.TAP_EN 6) = 1 ∧ x.n (Obj.TAP_POS 6) = p.val then
    let wy := clipSpan (x.n (Obj.TAP_WIN_Y 6)) x.height
    let wx := clipSpan (x.n (Obj.TAP_WIN_X 6)) x.width
    let frames := (maskBits x.mask).map (fun k =>
      ({ ctx := x, rows := [], stat := [], dropped := false,
         taps := (List.range wy.2).map (fun i =>
          (6, k, wy.1 + i, ((px.filter (fun y => y.r == wy.1 + i && decide (wx.1 ≤ y.c ∧ y.c < wx.1 + wx.2))).map (fun y =>
            e24 y.missed false false (if y.missed then 0 else y.mx k))))) } : DoneFrame))
    s.setPipe p { s.pipe.get p with done := (s.pipe.get p).done ++ frames }
  else s

/-- 06 R602: no pixel is both valid and no defect: nothing is written, the eclipse ends NO_REFERENCE. -/
def State.eclNoReference (s : State) (p : Pos) : State :=
  let e := s.ecl.get p
  if s.phase p ≤ 1 then s.setEcl p { { e with updating := false }.rest with flag := e.flag }
  else ((s.setO (Obj.ECL_LAST_RESULT p.val) 10).inc (Obj.ECL_CNT_ABORT p.val)).setEcl p
    { e with result := 10, updateDone := true, updating := false, wrote := false }

/-- The state without counts. -/
def EclCnt.zero (learned : Nat) : EclCnt := ⟨0, 0, 0, 0, 0, 0, 0, 0, learned, false⟩

/-- The plane writes of UPDATE on a native position. -/
def State.eclNative (s : State) (p : Pos) (u : EclUpd) (px good : List EclPx) : State :=
  let learned := (px.filter (fun x => bitAt x.e.flags 6)).length
  let r := px.foldl (fun (a : State × EclCnt) x => a.1.eclPixel p u a.2 x) (s, EclCnt.zero learned)
  let s := if r.2.flags then r.1.relabel p (s.actGeom p).1 (s.actGeom p).2 else r.1
  s.eclResults p u px good r.2

/-- UPDATE is complete (06 R225: what it wrote counts as a completed change at once when the eclipse has already ended). -/
def State.eclUpdated (s : State) (p : Pos) (t : Int) : State :=
  let s := s.setO (Obj.ECL_LAST_TACC p.val) t
  let e := s.ecl.get p
  if s.phase p ≤ 1 then
    ({ s with coef := s.coef.upd p (fun c => { c with changed := true }) } : State).setEcl p
      { { e with updating := false }.rest with flag := e.flag }
  else s.setEcl p { e with tAcc := t, updateDone := true, updating := false, wrote := true }

/-- 06 R228 to R243: UPDATE with the frame record of the last good accumulation frame. -/
def State.eclUpdate (s : State) (p : Pos) (q : EclParams) (x : FrameCtx) : State :=
  let e := s.ecl.get p
  let px := (pixelsOf x.width x.height).map (fun c => s.eclPx p x q.n c.1 c.2)
  let good := px.filter (fun y => !y.missed && !y.defect)
  let t := satS 16 (roundDiv (e.subtSum - e.accIn * s.oi (Obj.CORR_T0 p.val)) e.accIn)
  let s := s.setEcl p { e with
    targetFallback := q.targetMode == 1 && (maskBits x.mask).any (fun k => !s.shutTarget p q k) && !x.heritage }
  let s := s.incBy (Obj.ECL_CNT_PIX_MISSED p.val) (px.filter (·.missed)).length
  let s := if x.heritage then s else s.tapMeans p x px
  if good.isEmpty then s.eclNoReference p
  else if x.heritage then ((px.foldl (fun s y => s.eclHerPixel p y) s)).eclUpdated p t
  else
    let v := (List.range 4).map (fun k => if bitAt x.mask k then s.eclTarget p q t good k else 0)
    let u0 : EclUpd := { q := q, x := x, full := e.kind == 1, tAcc := t, v := v, medOfs := 0, medDev := (0, 0, 1),
                         dt := (roundDiv e.period 1000).toNat }
    let r := refSlot x.mask
    let u := { u0 with medOfs := medianLow (good.map (fun y => u0.ofs y r)),
                       medDev := medianDev (good.map (fun y => y.acc.getD r (0, 0, 1))) }
    (s.eclNative p u px good).eclUpdated p t

/-- ECLIPSE_UPDATE_COMPLETE: once every good accumulation frame is in the work area. -/
def State.eclUpdateEnd (s : State) (p : Pos) : State :=
  let e := s.ecl.get p
  match e.params, e.lastCtx with
  | some q, some x => if e.updating ∧ e.accIn = q.n then s.eclUpdate p q x else s
  | _, _ => s

/-- 06 R234: the τ history of a position is empty, every entry of the plane, and ECL_PRED_K starts anew (R245). -/
def State.emptyTauHistory (s : State) (p : Pos) : State :=
  let s : State := { s with mem := { s.mem with dram := Store.dropRange s.mem.dram (tauHistAt p 0 0) (tauHistAt p 1536 0) } }
  s.setO (Obj.ECL_PRED_K p.val) (s.oi (Obj.ECL_PRED_K_INIT p.val))

end Sys2Proof.Machine
end

