-- ==== Sys2Proof/Machine/Flash.lean ====
section
/-!
DEFINITION. The flash devices on SP1 and the module's accesses to them: the bytes, the shared bus, the prefetch buffer and continuous
read, fetches in their order, and raw transactions (14 R480 to R486, R498).
-/
namespace Sys2Proof.Machine

/-- A byte of flash that is not listed is erased. -/
def flashDflt (_ : Nat) : Byte := 0xFF#8

def State.flashBytes (s : State) (dev a n : Nat) : List Byte := Store.read flashDflt (s.nv.flash.get (posOf dev)) a n

def State.setFlash (s : State) (dev a : Nat) (bs : List Byte) : State :=
  { s with nv := { s.nv with flash := s.nv.flash.upd (posOf dev) (fun m => Store.write flashDflt m a bs) } }

/-- A program clears bits and sets none. -/
def State.programFlash (s : State) (dev a : Nat) (bs : List Byte) : State :=
  s.setFlash dev a (((s.flashBytes dev a bs.length).zip bs).map (fun x => x.1 &&& x.2))

def State.eraseSector (s : State) (dev a : Nat) : State :=
  { s with nv := { s.nv with flash := s.nv.flash.upd (posOf dev) (fun m => Store.dropRange m a (a + 65536)) } }

/-- Bytes of a cut device operation are what the cut left: free values (log 9). -/
def State.cutBytes (s : State) (dev a n : Nat) : State :=
  ({ s with free := s.free + 1 } : State).setFlash dev a ((List.range n).map (Config.deviceByte s.free))

/-! ### The shared bus (14 R485, R486) -/

/-- SP1 serves an external master, whatever the module does on it now: role SHARED once steward firmware runs, or boot recovery (14
R485). -/
def State.sp1Shared (s : State) : Bool := (s.serial.role == 1 && s.fwUp) || s.boot.phase == .recovery

/-- The module may run a master operation on SP1 now; a shared bus must be owned (14 R486). -/
def State.busFree (s : State) : Bool := !s.sp1Shared || s.serial.owned

/-- The module asks for the shared bus. -/
def State.askBus (s : State) : State :=
  if s.sp1Shared && !s.serial.owned && s.serial.busReq.isNone
  then { s with serial := { s.serial with busReq := some s.time.mono } } else s

/-- The bus is handed back after one operation. -/
def State.giveBus (s : State) : State :=
  if s.sp1Shared then { s with serial := { s.serial with owned := false, busReq := none } } else s

/-- SP1 and the flash supply are switched off after the last access that demanded them (02 Table 02-3, Dem); SP1 stays on while it serves
an external master (14 R485). -/
def State.flashRelax (s : State) : State :=
  if s.nv.flashOp.isSome ∨ s.nv.job.isSome ∨ s.serial.fetches.isEmpty = false ∨ s.mode = Mode.service then s
  else (if s.sp1Shared then s.demand 62 else s.wantOff 62).wantOff 79

/-! ### Commands to a select (14 R482, R483) -/

/-- 14 R483: a command to a select other than a continued read ends its continuous read. -/
def State.selectUsed (s : State) (dev : Nat) : State :=
  if s.serial.cont = some dev then { s with serial := { s.serial with cont := none } } else s

/-- 14 R482, R483: a program or erase of a select drops its blocks of the prefetch buffer and ends its continuous read. -/
def State.selectTaken (s : State) (dev : Nat) : State :=
  let keep : Option (Nat × Nat) → Option (Nat × Nat) := fun h => match h with
    | some x => if x.1 = dev then none else some x
    | none => none
  ({ s with serial := { s.serial with xip0 := keep s.serial.xip0, xip1 := keep s.serial.xip1 } } : State).selectUsed dev

/-- A device operation begins. -/
def State.flashStart (s : State) (dev a len : Nat) : State :=
  let s := ((s.demand 62).demand 79).selectTaken dev
  { s with nv := { s.nv with flashOp := some (dev, a, len, s.time.mono) } }

/-- The base of a firmware slot on SP1_CS0_N (13 R449). -/
def slotBase (slot : Nat) : Nat := if slot = 0 then 0 else 0x400000

/-- The firmware slot marked active in the protected quarter (02 R46, 13 R449). -/
def State.activeSlot (s : State) : Nat := ((s.keep Keep.slot 1).headD 0#8).toNat % 2

/-- 02 R70: the slot that FW_UPDATE writes is marked invalid: its MAGIC is programmed to zeros (log 70). -/
def State.slotInvalid (s : State) : State := (s.setFlash 0 (slotBase (1 - s.activeSlot)) (List.replicate 4 0#8)).selectTaken 0

/-! ### XIP (14 R482 to R484) -/

/-- A fetch from the device: continuous read begins, on a device and with a setting that allow it, and ends on another. -/
def State.xipDevice (s : State) (k : Nat) : State :=
  let may := s.ob Obj.SP1_CONT_READ && s.ob Obj.SP1_XIP_EN && s.o (Obj.SP1_DEV_MODE k) == 4 && s.serial.contOk.get (posOf k)
  { s with serial := { s.serial with cont := if may then some k else none } }

/-- The prefetch buffer after a read of a block of a select, and whether the device was read for it (14 R482). -/
structure XipRead where
  xip0 : Option (Nat × Nat)
  xip1 : Option (Nat × Nat)
  device : Bool
deriving DecidableEq, Repr

/-- 14 R482: the first half takes a miss, and the second half the block after it; a read in the second of two sequential blocks fetches
the next one, while the select holds it, into the first half. -/
def XipRead.of (x0 x1 : Option (Nat × Nat)) (k b blocks : Nat) : XipRead :=
  let hit := x0 == some (k, b) || x1 == some (k, b)
  let seq := decide (0 < b) && x0 == some (k, b - 1)
  let x1 := if !hit && seq then some (k, b) else x1
  let ahead := seq && x1 == some (k, b) && decide (b + 1 < blocks)
  { xip0 := if ahead then some (k, b + 1) else if !hit && !seq then some (k, b) else x0, xip1 := x1, device := !hit || ahead }

/-- One block of 4 KiB is read, through the prefetch buffer. -/
def State.xipBlock (s : State) (k b : Nat) : State :=
  if !s.ob Obj.SP1_XIP_EN then s.xipDevice k
  else
    let r := XipRead.of s.serial.xip0 s.serial.xip1 k b (s.nv.size.get (posOf k) / 4096)
    let s : State := { s with serial := { s.serial with xip0 := r.xip0, xip1 := r.xip1 } }
    if r.device then s.xipDevice k else s

/-- The first block of `n` bytes from an address, and how many blocks hold them. -/
def blockSpan (a n : Nat) : Nat × Nat := (a / 4096, (a + n - 1) / 4096 + 1 - a / 4096)

/-- The blocks that hold `n` bytes of a select are read in turn. -/
def State.xipBlocks (s : State) (k a n : Nat) : State :=
  (List.range (blockSpan a n).2).foldl (fun s i => s.xipBlock k ((blockSpan a n).1 + i)) s

/-- The prefetch buffer holds all of it, and nothing is fetched ahead. -/
def State.xipHit (s : State) (k a n : Nat) : Bool :=
  s.ob Obj.SP1_XIP_EN && (List.range (blockSpan a n).2).all (fun i =>
    !(XipRead.of s.serial.xip0 s.serial.xip1 k ((blockSpan a n).1 + i) (s.nv.size.get (posOf k) / 4096)).device)

/-- The device answers reads: no operation runs on it, or an erase that it can suspend and that has not been suspended within the last
millisecond (14 R484). -/
def State.xipFree (s : State) (k : Pos) : Bool :=
  match s.nv.flashOp with
  | some (dev, _, len, _) =>
    dev != k.val || (len == 0 && s.serial.suspend.get k &&
      (match s.serial.suspendAt with | some a => decide (a + 1000000 ≤ s.time.mono) | none => true))
  | none => true

/-- A fetch that suspends the erase on its device is noted. -/
def State.noteSuspend (s : State) (k : Nat) : State :=
  match s.nv.flashOp with
  | some (dev, _, _, _) => if dev = k then { s with serial := { s.serial with suspendAt := some s.time.mono } } else s
  | none => s

/-- The bus goes back after one operation, but while a program or erase holds it (14 R486). -/
def State.busDone (s : State) : State := if s.nv.flashOp.isSome then s else s.giveBus

/-- 14 R482 to R486: `n` bytes of a select are read from the device. -/
def State.fetchRun (s : State) (k a n : Nat) : State :=
  ((((((s.demand 62).demand 79).noteSuspend k).xipBlocks k a n).emit (.bytes (s.flashBytes k a n))).busDone)

/-- The oldest fetch that waits is served: behind the end of an NV close and once the bus and the device are free; it asks for the bus
else (14 R484). -/
def State.fetchNext (s : State) : State :=
  match s.serial.fetches with
  | [] => s
  | (k, a, n) :: rest =>
    if !s.busFree then s.askBus
    else if s.nv.closeLog.isSome || !s.xipFree (posOf k) then s
    else (({ s with serial := { s.serial with fetches := rest } } : State).fetchRun k a n).flashRelax

/-- The fetches that wait are served, in request order. -/
def State.serveFetches (s : State) : State := (List.range s.serial.fetches.length).foldl (fun s _ => s.fetchNext) s

/-- A program or erase may begin: the bus is the module's, and no fetch waits (14 R484, R486). -/
def State.mayProgram (s : State) : Bool := s.busFree && s.serial.fetches.isEmpty

/-! ### Raw transactions (14 R498, R480) -/

/-- The fields of a descriptor: select, lanes of the phases, command bytes, address bytes, dummy cycles, direction, data length, command,
address; most significant byte first. -/
structure RawDesc where
  sel : Nat
  lanes : Nat
  cmdN : Nat
  addrN : Nat
  dummy : Nat
  dir : Nat
  len : Nat
  cmd : Nat
  addr : Nat
deriving DecidableEq, Repr

/-- The descriptor in the first 16 bytes. -/
def rawDesc (b : List Byte) : RawDesc :=
  { sel := beAt b 0 1, lanes := beAt b 1 1, cmdN := beAt b 2 1, addrN := beAt b 3 1, dummy := beAt b 4 1, dir := beAt b 5 1, len := beAt b 6 2,
    cmd := beAt b 8 2, addr := beAt b 10 4 }

/-- Every field lies in its range; the lanes are coded as SP_SLV_CFG bits 6:0. -/
def RawDesc.ok (d : RawDesc) : Bool :=
  decide (d.sel ≤ 3 ∧ d.lanes < 128 ∧ d.cmdN ≤ 2 ∧ d.addrN ≤ 4 ∧ d.dir ≤ 1 ∧ d.len ≤ 4096)

/-- What the module drives: the low bytes of the command and of the address, then the write data. -/
def RawDesc.drives (d : RawDesc) (b : List Byte) : List Byte :=
  beBytes d.cmdN d.cmd ++ beBytes d.addrN d.addr ++ (if d.dir = 0 then slice (b.drop 16) 0 d.len else [])

/-- What the device answers is a free value (log 9); the object reads the descriptor and the data after it. -/
def State.rawRun (b : List Byte) (s : State) : State :=
  let d := rawDesc b
  let got := if d.dir = 1 then (List.range d.len).map (Config.deviceByte s.free) else []
  let s := ((s.demand 62).demand 79).selectTaken d.sel
  let s : State := { s with free := s.free + 1, serial := { s.serial with rawCount := s.serial.rawCount + 1, rawWait := none } }
  ((s.setDom Obj.SP1_RAW_XFER (slice b 0 16 ++ got)).emit (.sp1 d.sel d.lanes d.dummy (d.drives b))).giveBus

/-- The raw transaction that waits runs once SP1 has nothing else to do (14 R484, R486); outside SERVICE it is dropped (log 81). -/
def State.rawNext (s : State) : State :=
  match s.serial.rawWait with
  | none => s
  | some b =>
    if s.mode ≠ Mode.service then { s with serial := { s.serial with rawWait := none } }
    else if s.nv.flashOp.isSome ∨ s.serial.fetches.isEmpty = false then s
    else if !s.busFree then s.askBus else s.rawRun b

end Sys2Proof.Machine
end

