-- ==== Sys2Proof/Machine/NvOps.lean ====
section
/-!
DEFINITION. The record store: sectors, the two logs, records and their copies, the journal, record writes page by page,
repairs, compaction, format, and the close of storage (13 R449 to R469, 14 R481).
-/
namespace Sys2Proof.Machine

/-! ### Sectors and areas (13 R449, R450) -/

/-- Store sectors of each device: CS0 beyond the firmware slots, then CS1, CS2, CS3. -/
def State.sectorsOf (s : State) (dev : Nat) : Nat := (s.nv.size.get (posOf dev)) / 65536 - (if dev = 0 then 128 else 0)

def State.storeSectors (s : State) : Nat := s.sectorsOf 0 + s.sectorsOf 1 + s.sectorsOf 2 + s.sectorsOf 3

/-- Device and address of a store sector. -/
def State.sectorAt (s : State) (n : Nat) : Nat × Nat :=
  if n < s.sectorsOf 0 then (0, (n + 128) * 65536)
  else if n < s.sectorsOf 0 + s.sectorsOf 1 then (1, (n - s.sectorsOf 0) * 65536)
  else if n < s.sectorsOf 0 + s.sectorsOf 1 + s.sectorsOf 2 then (2, (n - s.sectorsOf 0 - s.sectorsOf 1) * 65536)
  else (3, (n - s.sectorsOf 0 - s.sectorsOf 1 - s.sectorsOf 2) * 65536)

/-- The ring of an area, 0 primary or 1 secondary, from its tail sector on; retired sectors are out of it (R462). -/
def Journal.ring (j : Journal) (a : Nat) : List Nat :=
  let all := ((List.range j.half).map (fun n => a * j.half + n)).filter (fun n => !j.retired.contains n)
  let t := if a = 0 then j.priTail else j.secTail
  all.drop t ++ all.take t

def Journal.head (j : Journal) (a : Nat) : Nat := if a = 0 then j.priHead else j.secHead

/-- Where the scan of an area begins. -/
def Journal.origin (j : Journal) (a : Nat) : Nat := if a = 0 then j.priFrom else j.secFrom

def Journal.withHead (j : Journal) (a h : Nat) : Journal := if a = 0 then { j with priHead := h } else { j with secHead := h }

def Journal.capacity (j : Journal) (a : Nat) : Nat := (j.ring a).length * 65536

def Journal.free (j : Journal) (a : Nat) : Nat := j.capacity a - j.head a

/-- Device and address of a byte of an area's log; none beyond its ring. -/
def State.logAt (s : State) (j : Journal) (a o : Nat) : Option (Nat × Nat) :=
  ((j.ring a)[o / 65536]?).map (fun n => ((s.sectorAt n).1, (s.sectorAt n).2 + o % 65536))

/-- Bytes of an area's log. -/
def State.logRead (s : State) (j : Journal) (a o n : Nat) : List Byte :=
  (List.range n).map (fun i =>
    match s.logAt j a (o + i) with
    | some x => Store.get flashDflt (s.nv.flash.get (posOf x.1)) x.2
    | none => 0xFF#8)

/-- 14 R482: the blocks that hold `n` bytes of an area's log are read in turn. -/
def State.xipLog (s : State) (j : Journal) (a o n : Nat) : State :=
  (List.range (blockSpan o n).2).foldl (fun s i =>
    match s.logAt j a (((blockSpan o n).1 + i) * 4096) with
    | some x => s.xipBlock x.1 (x.2 / 4096)
    | none => s) s

/-! ### The journal in the keep array (13 R459); its layout is DESIGN CHOICE (log 20) -/

def Repair.code : Repair → Nat × Nat
  | .erase n => (0, n)
  | .rewrite k => (1, k)

/-- The bytes of one copy of the journal. -/
def journalBytes (j : Journal) (rs : List Repair) : List Byte :=
  let a := leBytes 4 j.half ++ leBytes 4 j.priTail ++ leBytes 4 j.secTail ++ leBytes 8 j.priHead ++ leBytes 8 j.secHead ++
    leBytes 4 j.erasing ++ leBytes 8 j.priFrom ++ leBytes 8 j.secFrom ++ leBytes 4 j.retired.length ++
    (j.retired.take 128).flatMap (leBytes 4)
  let b := leBytes 4 rs.length ++ (rs.take 64).flatMap (fun r => leBytes 4 r.code.1 ++ leBytes 4 r.code.2)
  let c := slice a 0 1024 ++ slice b 0 1016 ++ leBytes 4 j.gen
  c ++ leBytes 4 (crc32 c)

/-- A copy of the journal, read back. -/
def journalOf (b : List Byte) : Option (Journal × List Repair) :=
  if leAt b 2044 4 != crc32 (slice b 0 2044) then none
  else
    some
      ({ half := leAt b 0 4, priTail := leAt b 4 4, secTail := leAt b 8 4, priHead := leAt b 12 8, secHead := leAt b 20 8,
         erasing := leAt b 28 4, priFrom := leAt b 32 8, secFrom := leAt b 40 8,
         retired := (List.range (leAt b 48 4)).map (fun i => leAt b (52 + 4 * i) 4),
         gen := leAt b 2040 4 },
       (List.range (leAt b 1024 4)).map (fun i =>
         if leAt b (1028 + 8 * i) 4 = 0 then .erase (leAt b (1032 + 8 * i) 4) else .rewrite (leAt b (1032 + 8 * i) 4)))

/-- The journal as a read finds it: the newer of the valid copies (R445). -/
def State.readJournal (s : State) : Option (Journal × List Repair) :=
  match journalOf (s.keep Keep.journal 2048), journalOf (s.keep (Keep.journal + 2048) 2048) with
  | some x, some y => if precedes 32 x.1.gen y.1.gen then some y else some x
  | some x, none => some x
  | none, r => r

/-- Size and free space of the areas as the host reads them, in KiB. -/
def State.showStore (s : State) : State :=
  match s.nv.journal with
  | none => s.setOs [(Obj.NV_STORE_SIZE 0, 0), (Obj.NV_STORE_SIZE 1, 0), (Obj.NV_STORE_FREE 0, 0), (Obj.NV_STORE_FREE 1, 0)]
  | some j =>
    s.setOs ((List.range 2).flatMap (fun a =>
      [(Obj.NV_STORE_SIZE a, (((j.capacity a) / 1024 : Nat) : Int)), (Obj.NV_STORE_FREE a, (((j.free a) / 1024 : Nat) : Int))]))

/-- The journal takes new content: the copy not read last is written (R446, R459). -/
def State.setJournal (s : State) (j : Journal) (rs : List Repair) : State :=
  let j := { j with gen := (j.gen + 1) % 2 ^ 32 }
  let s := s.setKeep (Keep.journal + 2048 * (j.gen % 2)) (journalBytes j rs)
  ({ s with nv := { s.nv with journal := some j, repairs := rs } } : State).showStore

/-- A change of the journal that stands. -/
def State.updJournal (s : State) (f : Journal → Journal) : State :=
  match s.nv.journal with
  | some j => s.setJournal (f j) s.nv.repairs
  | none => s

/-! ### Records (13 R452 to R457) -/

/-- A record found in a log. -/
structure RecAt where
  off : Nat
  total : Nat
  key : Nat
  flags : Nat
  len : Nat
  seq : Nat
  stamp : Nat
  good : Bool
deriving DecidableEq, Repr

def recTotal (len : Nat) : Nat := 48 + (len + 15) / 16 * 16

/-- Header bytes 0 to 27, then HCRC (Table 13-3). -/
def recHeader (flags key len seq stamp : Nat) : List Byte :=
  let b := asciiBytes "KREC" ++ [1#8, byteOf flags, 0#8, 0#8] ++ leBytes 4 key ++ leBytes 4 len ++ leBytes 4 seq ++ leBytes 8 stamp
  b ++ leBytes 4 (crc32 b)

/-- A whole copy: header, payload, padding and trailer (R452, Table 13-4). -/
def recBytes (flags key seq stamp : Nat) (payload : List Byte) : List Byte :=
  let h := recHeader flags key payload.length seq stamp
  h ++ payload ++ List.replicate ((16 - payload.length % 16) % 16) 0xFF#8 ++ leBytes 4 (crc32 (h ++ payload)) ++
    List.replicate 8 0xFF#8 ++ leBytes 4 0x5A0FC3A5

/-- The header names a record: MAGIC and HCRC match. -/
def headerOk (h : List Byte) : Bool := h.take 4 == asciiBytes "KREC" && leAt h 28 4 == crc32 (slice h 0 28)

/-- MAGIC is erased. -/
def headerErased (h : List Byte) : Bool := h.take 4 == [0xFF#8, 0xFF#8, 0xFF#8, 0xFF#8]

/-- The record whose header is `h`, and whether its copy is valid (R453). -/
def State.recAt (s : State) (j : Journal) (a o : Nat) (h : List Byte) : RecAt :=
  let len := leAt h 12 4
  let pad := (len + 15) / 16 * 16
  let tr := s.logRead j a (o + 32 + pad) 16
  { off := o, total := recTotal len, key := leAt h 8 4, flags := leAt h 5 1, len := len, seq := leAt h 16 4,
    stamp := leAt h 20 8,
    good := leAt tr 12 4 == 0x5A0FC3A5 && leAt tr 0 4 == crc32 (h ++ s.logRead j a (o + 32) len) }

/-- The start of the next sector above an offset. -/
def nextSector (o : Nat) : Nat := (o / 65536 + 1) * 65536

/-- The least sector boundary at or above an offset. -/
def sectorCeil (o : Nat) : Nat := (o + 65535) / 65536 * 65536

/-- 13 R453: the records of an area below `stop`, each skipped by its LENGTH, valid or not; where no header stands, what has been
written since goes on at the next sector boundary (log 21). -/
def State.scanTo (s : State) (j : Journal) (a stop : Nat) : Nat → Nat → List RecAt
  | 0, _ => []
  | n + 1, o =>
    if stop < o + 32 then []
    else
      let h := s.logRead j a o 32
      if headerOk h then
        let r := s.recAt j a o h
        r :: s.scanTo j a stop n (o + r.total)
      else s.scanTo j a stop n (nextSector o)

/-- The records of an area, up to its head. -/
def State.recordsIn (s : State) (a : Nat) : List RecAt :=
  match s.nv.journal with
  | some j => s.scanTo j a (j.head a) (j.head a / 16 + 1) (j.origin a)
  | none => []

def State.payloadOf (s : State) (a : Nat) (r : RecAt) : List Byte :=
  match s.nv.journal with
  | some j => s.logRead j a (r.off + 32) r.len
  | none => []

/-- The valid copies of the highest SEQ of a key, in one area's records. -/
def bestOf (key : Nat) (rs : List RecAt) : Option RecAt :=
  rs.foldl (fun b r =>
    if r.key == key && r.good && (match b with | some x => decide (x.seq < r.seq) | none => true) then some r else b) none

/-- What decides a key (R456, R457): the area the winner stands in, the winner, whether both copies are valid, and whether
they conflict. -/
structure Current where
  area : Nat
  rec_ : RecAt
  both : Bool
  conflict : Bool
deriving DecidableEq, Repr

/-- 13 R457: contents are KEY, LENGTH, FLAGS bit 0 and payload; the KEYs are equal. -/
def State.sameContents (s : State) (x y : RecAt) : Bool :=
  x.len == y.len && x.flags % 2 == y.flags % 2 && s.payloadOf 0 x == s.payloadOf 1 y

/-- 13 R457: the valid copy of equal SEQ and another KEY among the records of the other area. -/
def rival (r : RecAt) (rs : List RecAt) : Option RecAt := rs.find? (fun y => y.good && y.seq == r.seq && y.key != r.key)

/-- 13 R457: the primary records that no secondary copy of another KEY beats: none of equal SEQ has a higher STAMP. -/
def unbeaten0 (r0 r1 : List RecAt) : List RecAt :=
  r0.filter (fun x => match rival x r1 with | some y => decide (y.stamp ≤ x.stamp) | none => true)

/-- 13 R457: the secondary records that no primary copy of another KEY beats: theirs is the higher STAMP. -/
def unbeaten1 (r0 r1 : List RecAt) : List RecAt :=
  r1.filter (fun y => match rival y r0 with | some x => decide (x.stamp < y.stamp) | none => true)

/-- 13 R456, R457: the winner of a key among the copies that none of another KEY beats; it conflicts with one that it beats. -/
def State.currentIn (s : State) (r0 r1 : List RecAt) (key : Nat) : Option Current :=
  match bestOf key (unbeaten0 r0 r1), bestOf key (unbeaten1 r0 r1) with
  | none, none => none
  | some x, none => some ⟨0, x, false, (rival x r1).isSome⟩
  | none, some y => some ⟨1, y, false, (rival y r0).isSome⟩
  | some x, some y =>
    if y.seq < x.seq then some ⟨0, x, false, (rival x r1).isSome⟩
    else if x.seq < y.seq then some ⟨1, y, false, (rival y r0).isSome⟩
    else if s.sameContents x y then some ⟨0, x, true, false⟩
    else if x.stamp < y.stamp then some ⟨1, y, true, true⟩ else some ⟨0, x, true, true⟩

def State.current (s : State) (key : Nat) : Option Current := s.currentIn (s.recordsIn 0) (s.recordsIn 1) key

/-- 13 R456: the FLAGS and payload of a key's record; none when it has none. -/
def State.findRecord (s : State) (key : Nat) : Option (Nat × List Byte) :=
  match s.current key with
  | some c => if c.rec_.len = 0 then none else some (c.rec_.flags, s.payloadOf c.area c.rec_)
  | none => none

/-- 14 R482: a record read of the store passes through the prefetch buffer. -/
def State.xipRecord (s : State) (key : Nat) : State :=
  match s.current key, s.nv.journal with
  | some c, some j => s.xipLog j c.area c.rec_.off c.rec_.total
  | _, _ => s

/-- 18 Table 18-3: the archive key, when one is stored. -/
def State.archiveKey (s : State) : Option (List Byte) :=
  let b := s.keep Keep.archiveKey 64
  if leAt b 0 1 = 1 ∧ leAt b 60 4 = crc32 (slice b 0 60) then some (slice b 4 32) else none

/-- 13 R455: additional authenticated data. -/
def recAad (key len : Nat) : List Byte := leBytes 4 key ++ leBytes 4 len

/-- 13 R455: the plain payload of a key's record; none when it has none, or its tag fails. -/
def State.loadRecord (s : State) (key : Nat) : Option (List Byte) :=
  match s.findRecord key with
  | none => none
  | some (fl, b) =>
    if fl % 2 = 0 then some b
    else match s.archiveKey with
      | none => none
      | some k => gcmOpen k (recAad key b.length) b

/-! ### Record writes (13 R454, 14 R481) -/

/-- The bytes of the copy a job is writing: FLAGS bit 1 in the secondary. -/
def RecJob.bytes (x : RecJob) : List Byte :=
  recBytes (if x.phase < 2 then x.flags else x.flags + 2) x.key x.seq x.stamp x.payload

def RecJob.off (x : RecJob) : Nat := if x.phase < 2 then x.priAt else x.secAt

def RecJob.area (x : RecJob) : Nat := if x.phase < 2 then 0 else 1

/-- The next piece of a job: its offset in the copy and its length, within one page of the device (14 R481, log 22). -/
def RecJob.piece (x : RecJob) (page : Nat) : Nat × Nat :=
  let n := x.bytes.length
  if x.phase = 1 ∨ x.phase = 3 then (n - 4, 4) else (x.pos, min (page - (x.off + x.pos) % page) (n - 4 - x.pos))

/-- The page size of the device that a job is writing to (14 R477, R481). -/
def State.jobPage (s : State) (x : RecJob) : Nat :=
  match s.nv.journal with
  | some j => match s.logAt j x.area (x.off + x.pos) with
    | some at_ => max 1 (s.serial.page.get (posOf at_.1))
    | none => 256
  | none => 256

/-- The next page program of the job in progress starts. -/
def State.jobProgram (s : State) : State :=
  match s.nv.job, s.nv.journal with
  | some x, some j =>
    if 4 ≤ x.phase ∨ s.nv.flashOp.isSome ∨ s.nv.closed = true then s
    else if !s.mayProgram then s.askBus
    else
      let y := x.piece (s.jobPage x)
      match s.logAt j x.area (x.off + y.1) with
      | some at_ => s.flashStart at_.1 at_.2 y.2
      | none => s
  | _, _ => s

/-- An entry of the keys of Table 13-5. -/
def keyOk (k : Nat) : Bool :=
  decide ((0x01000000 ≤ k ∧ k ≤ 0x01000007) ∨ (0x02000000 ≤ k ∧ k ≤ 0x03FFFFFF))

/-- 13 R455: FLAGS bit 0 asks the payload to be encrypted; a repair copies it as it is stored. -/
def RecJob.seals (x : RecJob) : Bool := x.flags % 2 != 0 && x.purpose != 3

/-- 13 R455: the payload as stored: encrypted under the archive key where it is to be; none when the key has been emptied since the
save was accepted. -/
def State.sealPayload (s : State) (x : RecJob) (seq : Nat) : Option (List Byte) :=
  if x.seals then
    s.archiveKey.map (fun k =>
      let iv := leBytes 4 Config.deviceId ++ leBytes 4 seq ++ (List.range 4).map (fun i => Config.randomByte (s.sec.drawn + i))
      gcmSeal k iv (recAad x.key (x.payload.length + 28)) x.payload)
  else some x.payload

/-- What a record write served ends badly: a save fails with the code, a deletion that waited is refused with it (log 23), a log segment
stays unwritten (R454, R466). -/
def State.jobFailed (s : State) (x : RecJob) (code : Nat) : State :=
  let s : State := { s with nv := { s.nv with job := none } }
  if (x.purpose = 0 ∨ x.purpose = 1) ∧ s.opRunning 3 = true
  then ({ s with ops := { s.ops with save := none } } : State).opEnd 3 3 code
  else if x.purpose = 4 then s.emit (.abort Obj.NV_RECORD_DELETE code)
  else s

/-- A write that waits is taken: SEQ, STAMP and the places of its copies; refused with NV where the SEQ or the space runs out (R454,
R461), or while the flash supply is faulted (17 R548), and with STATE when it is to be encrypted and the archive key is EMPTY
(18 R569). -/
def State.jobTake (s : State) (x : RecJob) (rest : List RecJob) (j : Journal) : State :=
  let s : State := { s with nv := { s.nv with queue := rest } }
  let seq := s.o Obj.NV_STORE_SEQ + 1
  match s.sealPayload x seq with
  | none => s.jobFailed x Abort.state
  | some payload =>
  let need := recTotal payload.length
  if 0xFFFFFFFF ≤ seq ∨ s.dom80 79 = 3 then s.jobFailed x Abort.nv
  else if j.free 0 < need ∨ j.free 1 < need then ({ s with nv := { s.nv with storeLow := true } } : State).jobFailed x Abort.nv
  else
    ({ s with
        sec := { s.sec with drawn := if x.seals then s.sec.drawn + 4 else s.sec.drawn },
        nv := { s.nv with job := some { x with
          payload := payload, seq := seq, stamp := s.o Obj.DEV_POWER_CYCLES, phase := 0, pos := 0, priAt := j.head 0, secAt := j.head 1 } } } :
      State).jobProgram

/-- A record write that may be taken up: no log segment in SAFE (R466), and only a repair while the repair list is not worked off
(R469). -/
def State.mayTake (s : State) (x : RecJob) : Bool :=
  !(x.purpose == 2 && s.mode == Mode.safe) && (x.purpose == 3 || s.nv.repairs.isEmpty)

/-- The steward takes the next record write up, once nothing else uses the device.  Before steward firmware starts a confirmed power
failure blocks it (17 R544). -/
def State.nvKick (s : State) : State :=
  if s.nv.closed ∨ s.nv.flashOp.isSome ∨ s.pwr.blocked = true then s
  else
    match s.nv.job, s.nv.journal, s.nv.queue.find? s.mayTake with
    | some _, _, _ => s.jobProgram
    | none, some j, some x => s.jobTake x (s.nv.queue.eraseP s.mayTake) j
    | _, _, _ => s

/-- A record write joins the queue. -/
def State.nvWrite (s : State) (x : RecJob) : State :=
  ({ s with nv := { s.nv with queue := s.nv.queue ++ [x] } } : State).nvKick

/-- The store takes writes: formatted, not closed, its supply not faulted, and SEQs left for those accepted and one more (R451, R454,
R467, 17 R548). -/
def State.storeOpen (s : State) : Bool :=
  s.nv.journal.isSome && !s.nv.closed && s.dom80 79 != 3 &&
    decide (s.o Obj.NV_STORE_SEQ + s.nv.queue.length + b2n s.nv.job.isSome + 1 < 0xFFFFFFFF)

/-- The piece in progress is programmed, and the job moves on (R454). -/
def State.jobAdvance (s : State) (x : RecJob) : State :=
  let pos := x.pos + (x.piece (s.jobPage x)).2
  let x' : RecJob :=
    if x.phase = 1 ∨ x.phase = 3 then { x with phase := x.phase + 1, pos := 0 }
    else if x.bytes.length - 4 ≤ pos then { x with phase := x.phase + 1, pos := pos }
    else { x with pos := pos }
  { s with nv := { s.nv with job := some x' } }

/-- The heads after a write that ends unfinished: past a complete primary copy, and the area of the copy in progress at a
sector boundary beyond it (R469). -/
def Journal.skip (j : Journal) (x : RecJob) : Journal :=
  let n := x.bytes.length
  let past := fun (a o : Nat) => min (j.capacity a) (sectorCeil (o + n))
  if x.phase < 2 then j.withHead 0 (past 0 x.priAt) else (j.withHead 0 (x.priAt + n)).withHead 1 (past 1 x.secAt)

/-- A SEQ that a complete copy carries is used up. -/
def State.seqUsed (s : State) (x : RecJob) : State :=
  if 2 ≤ x.phase then s.setO Obj.NV_STORE_SEQ ((x.seq : Nat) : Int) else s

/-- A failed program fails its record write with NV: what was written stays behind (14 R481), NV_FAULT is set and the failure logged (11 Table
11-7). -/
def State.jobAbandon (s : State) (x : RecJob) : State :=
  (((s.updJournal (fun j => j.skip x)).seqUsed x).nvFailed x.key).jobFailed x Abort.nv

/-! ### Erases (13 R460, R462) -/

/-- An erase begins: recorded in ERASING first. -/
def State.eraseStart (s : State) (sector : Nat) : State :=
  let s := s.updJournal (fun j => { j with erasing := sector })
  if s.mayProgram then s.flashStart (s.sectorAt sector).1 (s.sectorAt sector).2 0 else s.askBus

/-- The place in its area's ring a sector leaves by retiring, and the tail after it. -/
def Journal.retire (j : Journal) (n : Nat) : Journal :=
  let a := if n < j.half then 0 else 1
  let all := ((List.range j.half).map (fun k => a * j.half + k)).filter (fun k => !j.retired.contains k)
  let i := all.findIdx (· == n)
  let t := if a = 0 then j.priTail else j.secTail
  let t' := if i < t then t - 1 else t
  let j := { j with retired := j.retired ++ [n], erasing := 0xFFFFFFFF }
  if a = 0 then { j with priTail := t' } else { j with secTail := t' }

/-- An erase that failed retires its sector; NV_FAULT is set (11 Table 11-7). -/
def State.eraseFailed (s : State) (sector : Nat) : State :=
  let s := (s.updJournal (fun j => j.retire sector)).log 0x0093 0xFF [(4, sector)]
  { s with nv := { s.nv with nvFault := true } }

/-! ### Repairs (13 R458, R459) -/

/-- An entry joins the repair list, unless listed or the list of 64 is full. -/
def addRepair (r : Repair) (l : List Repair) : List Repair := if l.contains r || 64 ≤ l.length then l else l ++ [r]

/-- The head of the repair list is worked off. -/
def State.repairDone (s : State) : State :=
  match s.nv.journal with
  | some j => s.setJournal j (s.nv.repairs.drop 1)
  | none => s

/-- 13 R458: the winner's contents as a new record. -/
def State.repairJob (s : State) (key : Nat) : Option RecJob :=
  (s.current key).map (fun c => RecJob.make key (c.rec_.flags % 2) (s.payloadOf c.area c.rec_) 3 c.rec_.seq 0)

/-- 13 R457, R469: what the scan finds of one key: a conflict is decided and logged, and it or a single copy is listed. -/
def State.judgeKey (s : State) (r0 r1 : List RecAt) (acc : State × List Repair) (key : Nat) : State × List Repair :=
  match s.currentIn r0 r1 key with
  | none => acc
  | some c =>
    let t := if c.conflict then
        (acc.1.inc Obj.NV_CNT_REC_CONFLICT).log 0x0090 0xFF [(4, key), (4, c.rec_.seq), (1, c.area)] else acc.1
    if c.conflict || !c.both then (t, addRepair (.rewrite key) acc.2) else (t, acc.2)

/-! ### Compaction (13 R461) -/

/-- The event-log segments older than the newest 1,024. -/
def State.oldSegment (s : State) (key : Nat) : Bool :=
  decide (0x03000000 ≤ key ∧ key < 0x04000000 ∧ key + 1024 < s.nv.logSeg)

/-- The records that the tail sector of an area must hand on before it is erased: the current copies that begin in it, no segment that is
too old, and a deletion only while an older valid record of its key remains outside it. -/
def State.toCopy (s : State) (a : Nat) (r0 r1 : List RecAt) : List RecAt :=
  (if a = 0 then r0 else r1).filter (fun r =>
    let cur := match s.currentIn r0 r1 r.key with | some c => c.rec_.seq == r.seq | none => false
    let older := fun (b : Nat) (rs : List RecAt) =>
      rs.any (fun x => x.key == r.key && x.good && x.seq < r.seq && (b != a || 65536 ≤ x.off))
    decide (r.off < 65536) && r.good && cur && !s.oldSegment r.key && (r.len != 0 || older 0 r0 || older 1 r1))

/-- A copy moved to the head, unchanged; the devices it is programmed into take commands meanwhile (14 R482, R483). -/
def State.copyRecord (s : State) (a : Nat) (r : RecAt) : State :=
  match s.nv.journal with
  | none => s
  | some j =>
    let b := s.logRead j a r.off r.total
    let s := b.zipIdx.foldl (fun s x =>
      match s.logAt j a (j.head a + x.2) with
      | some at_ => (s.programFlash at_.1 at_.2 [x.1]).selectTaken at_.1
      | none => s) s
    s.updJournal (fun j => j.withHead a (j.head a + r.total))

/-- The tail moves on by one sector: offsets count from the new tail, in which the first record begins at `first` of the old ones. -/
def Journal.advanceTail (j : Journal) (a first : Nat) : Journal :=
  let n := (j.ring a).length
  if a = 0 then { j with priTail := (j.priTail + 1) % n, priHead := j.priHead - 65536, priFrom := first - 65536 }
  else { j with secTail := (j.secTail + 1) % n, secHead := j.secHead - 65536, secFrom := first - 65536 }

/-- The first record of an area behind its tail sector begins here, or the log ends here. -/
def Journal.firstBehind (j : Journal) (a : Nat) (rs : List RecAt) : Nat :=
  ((rs.map (·.off)).find? (fun o => decide (65536 ≤ o))).getD (j.head a)

/-- Nothing is reclaimed any more, for want of space. -/
def State.noRoom (s : State) : State := { s with nv := { s.nv with storeLow := true, reclaim := none } }

/-- 13 R461: the tail sector of an area is compacted: its current records to the head, the tail on, the sector to be erased; nothing is moved or
erased where they do not fit. -/
def State.compactTail (s : State) (a : Nat) : State :=
  match s.nv.journal with
  | none => s
  | some j =>
    match j.ring a with
    | [] => s
    | sector :: _ =>
      let l := s.toCopy a (s.recordsIn 0) (s.recordsIn 1)
      if j.head a < 65536 then { s with nv := { s.nv with reclaim := none } }
      else if j.free a < (l.map (·.total)).foldl (· + ·) 0 then s.noRoom
      else
        let first := j.firstBehind a (s.recordsIn a)
        let s := l.foldl (fun s r => s.copyRecord a r) s
        (s.updJournal (fun j => j.advanceTail a first)).eraseStart sector

/-- 13 R463: the n-th sector of an area's ring is weak: the sectors from the tail up to it are compacted in turn, for its records lie in one
log (log 21).  The head moves out of it first. -/
def State.compactSector (s : State) (a i : Nat) : State :=
  match s.nv.journal with
  | none => s
  | some j =>
    if j.head a < i * 65536 ∨ (j.ring a).length ≤ i + 1 then s
    else
      let s := if j.head a < (i + 1) * 65536 then s.updJournal (fun j => j.withHead a ((i + 1) * 65536)) else s
      ({ s with nv := { s.nv with reclaim := some (a, i) } } : State).compactTail a

/-- The next sector of a reclaim that runs. -/
def State.reclaimNext (s : State) : State :=
  match s.nv.reclaim with
  | some (_, 0) => { s with nv := { s.nv with reclaim := none } }
  | some (a, n + 1) => ({ s with nv := { s.nv with reclaim := some (a, n) } } : State).compactTail a
  | none => s

/-- The area has a record that is superseded: not current any more. -/
def State.superseded (s : State) (a : Nat) (r0 r1 : List RecAt) : List RecAt :=
  (if a = 0 then r0 else r1).filter (fun r =>
    !(r.good && (match s.currentIn r0 r1 r.key with | some c => c.rec_.seq == r.seq | none => false)))

/-- Sectors an area must compact until its last superseded record is gone. -/
def State.compactNeed (s : State) (a : Nat) : Nat :=
  match s.nv.journal with
  | none => 0
  | some j =>
    let l := (s.superseded a (s.recordsIn 0) (s.recordsIn 1)).map (·.off)
    if l.isEmpty then 0 else min (l.foldl max 0 / 65536 + 1) (j.head a / 65536)

/-- An area's free space is below NV_COMPACT_THRESH (Table 13-10). -/
def State.areaLow (s : State) (a : Nat) : Bool :=
  match s.nv.journal with
  | none => false
  | some j => decide (j.free a * 100 < j.capacity a * s.o Obj.NV_COMPACT_THRESH)

/-- 13 R461: the area the next compaction step takes: the one the long operation still has sectors for, or by itself in
STANDBY and SERVICE the one with too little space. -/
def State.compactArea (s : State) : Option Nat :=
  if s.opRunning 5 && s.ops.compact == some 0 then (List.range 2).find? (fun a => decide (0 < s.compactNeed a))
  else if s.mode = Mode.standby ∨ s.mode = Mode.service then
    (List.range 2).find? (fun a => s.areaLow a && decide (0 < s.compactNeed a)) else none

/-! ### Format (13 R451) -/

/-- The next sector of a format is erased, recorded in ERASING first where there is a journal (R460). -/
def State.formatStep (s : State) (n : Nat) : State :=
  let s := s.updJournal (fun j => { j with erasing := n })
  if s.mayProgram then s.flashStart (s.sectorAt n).1 (s.sectorAt n).2 0 else s.askBus

/-- Every sector is erased: a fresh journal, in which the sectors whose erase failed are retired (R462). -/
def State.formatEnd (s : State) : State :=
  let gen := match s.readJournal with | some x => x.1.gen | none => 0
  let j : Journal := { half := s.storeSectors / 2, priTail := 0, secTail := 0, priHead := 0, secHead := 0,
                       priFrom := 0, secFrom := 0, erasing := 0xFFFFFFFF, retired := s.nv.bad, gen := gen }
  (({ s.setJournal j [] with ops := { s.ops with compact := none } } : State).setO Obj.NV_STORE_SEQ 0).opEnd 5 2 0

/-! ### The end of a device operation (14 R481) -/

/-- A format goes on to the next sector; POSITION counts sectors (R451).  It fails with NV while the flash supply is faulted (17 R548). -/
def State.formatNext (s : State) : State :=
  let n := s.o (Obj.OP_POSITION 5) + 1
  let s := s.opAt 5 n
  if s.storeSectors ≤ n then s.formatEnd
  else if s.dom80 79 = 3 then ({ s with ops := { s.ops with compact := none } } : State).opEnd 5 3 Abort.nv
  else s.formatStep n

/-- The erase of a format has ended: ERASING is cleared; one that failed retires its sector and is logged (R460, R462). -/
def State.formatErased (s : State) (ok : Bool) : State :=
  let n := s.o (Obj.OP_POSITION 5)
  let s := if ok then s
    else { s.eraseFailed n with nv := { (s.eraseFailed n).nv with bad := s.nv.bad ++ [n] } }
  (s.updJournal (fun j => { j with erasing := 0xFFFFFFFF })).formatNext

/-- An erase under ERASING has ended: a redone one leaves the repair list (R469), a compaction counts on. -/
def State.erased (s : State) (sector : Nat) : State :=
  let s := match s.nv.repairs with
    | .erase n :: _ => if n = sector then (s.repairDone.inc Obj.NV_CNT_ERASE_REDO).log 0x0092 0xFF [(4, sector)] else s
    | _ => s
  let s : State := { s with nv := { s.nv with storeLow := false } }
  if s.opRunning 5 && s.ops.compact == some 0 then s.opAt 5 (s.o (Obj.OP_POSITION 5) + 1) else s

/-- An erase has ended, well or not: ERASING is cleared, or the format goes on. -/
def State.eraseEnded (s : State) (ok : Bool) : State :=
  if s.ops.compact == some 1 then s.formatErased ok
  else
    match s.nv.journal with
    | some j =>
      if j.erasing = 0xFFFFFFFF then s
      else
        ((if ok then s.updJournal (fun j => { j with erasing := 0xFFFFFFFF }) else s.eraseFailed j.erasing).erased j.erasing).reclaimNext.nvKick
    | none => s

/-- The device reports ready. -/
def State.flashReady (s : State) (op : Nat × Nat × Nat × Nat) : State :=
  let s : State := ({ s with nv := { s.nv with flashOp := none } } : State).giveBus
  if op.2.2.1 = 0 then ((s.eraseSector op.1 op.2.1).serveFetches.eraseEnded true).rawNext.flashRelax
  else
    match s.nv.job with
    | some x =>
      let y := x.piece (s.jobPage x)
      (((s.programFlash op.1 op.2.1 (slice x.bytes y.1 y.2)).serveFetches.jobAdvance x).nvKick).rawNext.flashRelax
    | none => s.serveFetches.rawNext.flashRelax

/-- The device reports a failure, or takes too long. -/
def State.flashFailed (s : State) (op : Nat × Nat × Nat × Nat) : State :=
  let s : State := ((({ s with nv := { s.nv with flashOp := none } } : State).giveBus).inc Obj.SP1_CNT_FLASH_FAIL).serveFetches
  if op.2.2.1 = 0 then (s.eraseEnded false).rawNext.flashRelax
  else
    match s.nv.job with
    | some x => if s.nv.closed then s else ((s.jobAbandon x).nvKick).rawNext.flashRelax
    | none => s.rawNext.flashRelax

/-! ### A record write ends (13 R454) -/

/-- What the write served is done. -/
def State.jobServed (s : State) (x : RecJob) : State :=
  match x.purpose with
  | 0 | 1 => if s.opRunning 3 then ({ s with ops := { s.ops with save := none } } : State).opEnd 3 2 0 else s
  | 2 => { s with nv := { s.nv with logFlushed := max s.nv.logFlushed (x.oldSeq + x.count), logSeg := s.nv.logSeg + 1 } }
  | 3 => (s.repairDone.inc Obj.NV_CNT_REC_REPAIR).log 0x0091 0xFF [(4, x.key), (4, x.oldSeq), (4, x.seq)]
  | _ => s

/-- The secondary COMMIT has been read back: heads and SEQ stand. -/
def State.recordEnd (s : State) : State :=
  match s.nv.job with
  | some x =>
    if x.phase < 4 then s
    else
      let n := recTotal x.payload.length
      let s := (s.updJournal (fun j => (j.withHead 0 (x.priAt + n)).withHead 1 (x.secAt + n))).setO Obj.NV_STORE_SEQ ((x.seq : Nat) : Int)
      ((({ s with nv := { s.nv with job := none } } : State).jobServed x).nvKick).flashRelax
  | none => s

/-! ### Recovery at start-up (13 R469) -/

/-- 13 R453, R469: what follows the record of an invalid copy: the header behind its LENGTH, or where none stands the next sector
boundary (log 21). -/
def State.behindBad (s : State) (j : Journal) (a o : Nat) : Nat := if headerOk (s.logRead j a o 32) then o else sectorCeil o

/-- 13 R469: the scan of an area to the first header whose MAGIC is erased, or whose HCRC fails: the records and the head. -/
def State.scanArea (s : State) (j : Journal) (a : Nat) : Nat → Nat → List RecAt × Nat
  | 0, o => ([], o)
  | n + 1, o =>
    let h := s.logRead j a o 32
    if j.capacity a < o + 32 then ([], min o (j.capacity a))
    else if headerOk h then
      let r := s.recAt j a o h
      let rest := s.scanArea j a n (if r.good then o + r.total else s.behindBad j a (o + r.total))
      (r :: rest.1, rest.2)
    else if headerErased h then ([], o)
    else ([], min (nextSector o) (j.capacity a))

/-- Keys of a list of records, each once. -/
def keysOf (rs : List RecAt) : List Nat := (rs.map (·.key)).eraseDups

/-- The scan of a formatted store: heads, bad copies counted, the repair list, the highest SEQ and the next segment key. -/
def State.scanStore (s : State) (j : Journal) (rs : List Repair) : State :=
  let f := fun (a : Nat) => s.scanArea j a (j.capacity a / 16 + 1) (j.origin a)
  let p := f 0
  let q := f 1
  let j' := (j.withHead 0 p.2).withHead 1 q.2
  let all := p.1 ++ q.1
  let seq := all.foldl (fun m r => max m r.seq) 0
  let seg := all.foldl (fun m r => if 0x03000000 ≤ r.key ∧ r.key < 0x04000000 then max m (r.key + 1) else m) 0x03000000
  let s : State := { s with nv := { s.nv with journal := some j', logSeg := seg } }
  let s := (s.incBy Obj.NV_CNT_REC_BAD (all.filter (fun r => !r.good)).length).setO Obj.NV_STORE_SEQ ((seq : Nat) : Int)
  let rs := if j.erasing = 0xFFFFFFFF then rs else addRepair (.erase j.erasing) rs
  let t := (keysOf all).foldl (fun acc k => s.judgeKey p.1 q.1 acc k) (s, rs)
  t.1.setJournal j' t.2

/-- 14 R482: a scan reads an area's log up to the header that ends it. -/
def State.xipScan (s : State) (a : Nat) : State :=
  match s.nv.journal with
  | some j => s.xipLog j a 0 (min (j.capacity a) (j.head a + 32))
  | none => s

/-- 13 R469: the record-store step of start-up. -/
def State.storeScan (s : State) : State :=
  let s := s.setO Obj.NV_STORE_DEVICES ((List.range 4).foldl (fun m d => if s.nv.size.get (posOf d) = 0 then m else m + 2 ^ d) 0 : Nat)
  let s := match s.readJournal with
    | some (j, rs) => ((s.scanStore j rs).xipScan 0).xipScan 1
    | none => s.showStore
  { s with boot := { s.boot with scanned := true } }

/-! ### The close of storage (13 R467, R468) -/

/-- A program or erase in progress is cut. -/
def State.flashCut (s : State) : State :=
  match s.nv.flashOp with
  | some (dev, a, len, _) =>
    ((({ s with nv := { s.nv with flashOp := none } } : State).cutBytes dev a (if len = 0 then 65536 else len)).giveBus)
  | none => s

/-- Running NV long operations end ABORTED (02 R70): PARAM_SAVE and STORE_COMPACT; a load ends with its set INVALID. -/
def State.nvAbort (s : State) : State :=
  let s := if s.opRunning 3 then ({ s with ops := { s.ops with save := none } } : State).opEnd 3 4 Abort.nv else s
  let s := if s.opRunning 5 then ({ s with ops := { s.ops with compact := none } } : State).opEnd 5 4 Abort.nv else s
  match s.opRunning 0, s.ops.load with
  | true, some (p, _) => s.loadFailed (posOf p) 4 Abort.nv
  | _, _ => s

/-- The record in progress stays behind as written so far, without a write to the keep array; waiting ones are dropped. -/
def State.jobDrop (s : State) : State :=
  let s : State := { s with nv := { s.nv with reclaim := none } }
  match s.nv.job with
  | some x =>
    ({ s with nv := { s.nv with job := none, queue := [], journal := s.nv.journal.map (fun j => j.skip x) } } : State).seqUsed x
  | none => { s with nv := { s.nv with queue := [] } }

/-- 13 R467: the deletions that wait, or are being written, are refused with NV; how the refusal of an accepted command shows is DESIGN
CHOICE (log 23). -/
def State.refuseQueued (s : State) : State :=
  ((s.nv.job.toList ++ s.nv.queue).filter (fun x => x.purpose == 4)).foldl
    (fun s _ => s.emit (.abort Obj.NV_RECORD_DELETE Abort.nv)) s

/-- An erase in progress is abandoned, with ERASING left set; a program goes on (Table 13-8). -/
def State.dropErase (s : State) : State :=
  match s.nv.flashOp with
  | some (_, _, 0, _) => s.flashCut
  | _ => s

/-- The NV_CLOSE entry of a close, written once it is known whether a program was cut (Table 13-8 and the worked example;
log 23); SP1 is idle then, and PD79 goes off. -/
def State.closeEnd (s : State) (cut : Bool) : State :=
  match s.nv.closeLog with
  | none => s
  | some cause =>
    let s : State := { s with nv := { s.nv with closed := false, closeLog := none } }
    let s := (s.log 0x0096 0xFF [(1, cause), (1, b2n cut)]).refuseQueued.jobDrop.cutOff 79
    { s with nv := { s.nv with closed := true } }

/-- 13 R467: the NV close of a cause: 0 quench, 1 power fail. -/
def State.nvClose (s : State) (cause : Nat) : State :=
  if s.nv.closed then s
  else
    let s := s.dropErase.nvAbort
    let s : State := { s with nv := { s.nv with closed := true, closeAt := s.time.mono, closeLog := some cause } }
    if s.nv.flashOp.isSome then s else s.closeEnd false

/-- 13 R467, Table 13-8: 2 ms into the close a program still running is cut and counted. -/
def State.nvCloseCut (s : State) : State :=
  if s.nv.flashOp.isSome then (s.flashCut.inc Obj.NV_CNT_QUENCH_CUT).closeEnd true else s

/-- The program or erase that waited for the bus, or for the fetches before it, starts (14 R484, R486); an erase to be redone waits for its
turn in the repair list (R469). -/
def State.resumeBus (s : State) : State :=
  if s.nv.closed || s.nv.flashOp.isSome || !s.serial.fetches.isEmpty then s
  else if s.ops.compact == some 1 then s.formatStep (s.o (Obj.OP_POSITION 5))
  else match s.nv.journal with
    | some j =>
      if j.erasing = 0xFFFFFFFF ∨ s.nv.repairs.contains (.erase j.erasing) = true then s.nvKick else s.eraseStart j.erasing
    | none => s

/-- SP1 takes up what waits, in the order of 14 R484: fetches, record programs and erases, a raw transaction last. -/
def State.sp1Next (s : State) : State := s.serveFetches.resumeBus.rawNext

/-- 14 R486: the bus is taken once SP1_SLV_N has been high for 1 µs; HANDOVER_TO tells whether the release came late.  A module that
owns the bus already keeps it. -/
def State.takeBus (s : State) : State :=
  match s.serial.busReq with
  | some at_ =>
    if s.serial.slvHigh && !s.serial.owned && decide (s.serial.slvSince + 1000 ≤ s.time.mono) then
      { s with serial := { s.serial with
          owned := true, handoverTo := decide (at_ + s.o Obj.SP1_HANDOVER_MAX * 1000 < s.serial.slvSince) } }
    else s
  | none => s

/-- The bus is taken where it may be, and what waits for it begins. -/
def State.busTurn (s : State) : State := s.takeBus.sp1Next

/-- 13 R467: the close ends when its cause is cleared and the module leaves SAFE. -/
def State.nvReopen (s : State) : State := { s with nv := { s.nv with closed := false } }

/-- 13 R468: a reset cuts a program at once. -/
def State.nvReset (s : State) : State :=
  let cut := s.nv.flashOp.isSome
  (s.log 0x0096 0xFF [(1, 2), (1, b2n cut)]).flashCut.jobDrop

end Sys2Proof.Machine
end

