-- ==== Sys2Proof/Machine/ModeOps.lean ====
section
/-!
DEFINITION. Modes: answers to requests, the record of transactions, the course of a transition, entry to SAFE and to ORPHAN,
preparation and warm start, ECLIPSE's end (02 R49 to R70, R603).
-/
namespace Sys2Proof.Machine

/-! ### Records and reports (02 R64) -/

/-- 02 Table 02-10: the latest record, as the objects hold it. -/
def State.latestTxn (s : State) : TxnRec :=
  { num := s.o Obj.MODE_TXN_NUM, frm := s.o Obj.MODE_TXN_FROM, target := s.o Obj.MODE_TXN_TARGET, act := s.o Obj.MODE_TXN_ACT,
    outcome := s.o Obj.MODE_TXN_OUTCOME, reason := s.o Obj.MODE_TXN_REASON, fin := s.o Obj.MODE_TXN_END,
    source := s.o Obj.MODE_TXN_SOURCE }

def State.setLatest (s : State) (r : TxnRec) : State :=
  s.setOs [(Obj.MODE_TXN_NUM, r.num), (Obj.MODE_TXN_FROM, r.frm), (Obj.MODE_TXN_TARGET, r.target), (Obj.MODE_TXN_ACT, r.act),
    (Obj.MODE_TXN_OUTCOME, r.outcome), (Obj.MODE_TXN_REASON, r.reason), (Obj.MODE_TXN_END, r.fin), (Obj.MODE_TXN_SOURCE, r.source)]

/-- Two records tell of the same transaction. -/
def TxnRec.same (a b : TxnRec) : Bool := a.num == b.num && a.target == b.target

/-- The record of a transaction still armed or under way. -/
def TxnRec.live (a : TxnRec) : Bool := a.outcome == 1 || a.outcome == 5

/-- A record is kept: in its own place while the transaction is known, else as the latest with seven before it. -/
def State.recordTxn (s : State) (r : TxnRec) : State :=
  let old := s.latestTxn
  if r.same old && (old.live || r.num != 0) then s.setLatest r
  else if s.modes.hist.any (fun h => r.same h && h.live) then
    { s with modes := { s.modes with hist := s.modes.hist.map (fun h => if r.same h && h.live then r else h) } }
  else ({ s with modes := { s.modes with hist := (old :: s.modes.hist).take 7 } } : State).setLatest r

/-- 10 Table 10-4, MODE_REPORT. -/
def State.reportBytes (s : State) (r : TxnRec) : List Byte :=
  beBytes 2 r.num ++ [byteOf r.outcome, byteOf r.reason, byteOf r.target, byteOf s.mode, byteOf r.source, 0#8] ++
    beBytes 8 r.act ++ beBytes 8 r.fin

/-- 02 R64: a MODE_REPORT on its own account, and its vector (12 Table 12-4). -/
def State.report (s : State) (r : TxnRec) : State :=
  if !s.fwUp then s
  else (s.originate s.spontaneousPort 0x11 (s.telegram 0x11 0 0 0 0 (s.reportBytes r))).raise 1

/-- An armed transaction ends without having begun: 02 R56, R63. -/
def State.cancelArmed (s : State) (reason : Nat) : State :=
  match s.modes.armed with
  | none => s
  | some a =>
    let r : TxnRec := { num := a.txn, frm := s.mode, target := a.target, act := a.act, outcome := 4, reason := reason,
                        fin := s.time.now, source := a.source }
    let s : State := { s with modes := { s.modes with armed := none } }
    (s.recordTxn r).report r

/-! ### Preparation (02 R58, R59) -/

/-- The enabled positions. -/
def State.enabledPos (s : State) : List Pos := allPos.filter s.enabled

/-- 02 R59: the rails of a position are in regulation: both FPA rails on, VDET without a fault, supplies not held off. -/
def State.railsIn (s : State) (p : Pos) : Bool :=
  s.domOn (70 + p.val) && s.domOn (74 + p.val) && !(s.vdet.get p).fault && !s.pwr.fpaOff.get p

/-- 02 R59, Table 02-11, PREPARED: the rails are off in STANDBY and SAFE, where nothing is prepared. -/
def State.prepared (s : State) : Bool :=
  s.mode != 0 && s.mode != 5 && s.enabledPos.all (fun p => s.o (Obj.PREP_STATE p.val) == 4 && s.railsIn p)

/-- 02 R59, 04 R157, R171: the coefficient set is not retained, or is of the other order. -/
def State.needsLoad (s : State) (p : Pos) : Bool :=
  s.coefState p == 4 || ((s.coef.get p).format != 2 && (s.coef.get p).format != b2n (s.orderOf p))

/-- 04 R160: COEF_LOAD of a position begins: the record's length is its total, and the set is opened. -/
def State.startLoad (s : State) (p : Pos) (key : Nat) : State :=
  let n := ((s.loadRecord key).map (·.length)).getD 0
  let s : State := { s with ops := { s.ops with load := some (p.val, key) } }
  (s.opStart 0 n).coefToOpen p

/-- 02 R59, R68: loads waiting are started one after another. -/
def State.loadNext (s : State) : State :=
  match s.ops.loadQueue with
  | [] => s
  | n :: rest =>
    if s.opRunning 0 then s
    else ({ s with ops := { s.ops with loadQueue := rest } } : State).startLoad (posOf n) (s.o (Obj.CORR_LOAD_KEY n))

/-- The state of a position's preparation in PREPARE (02 R59): one that failed stays so until a set is loaded or closed after all. -/
def State.prepUpdate (s : State) (p : Pos) : State :=
  if s.mode ≠ Mode.prepare ∨ s.enabled p = false then s
  else if s.loading p || s.ops.loadQueue.contains p.val then s.setO (Obj.PREP_STATE p.val) 2
  else if s.needsLoad p then (if s.o (Obj.PREP_STATE p.val) = 5 then s else s.setO (Obj.PREP_STATE p.val) 2)
  else if (s.ecl.get p).mandatory then s.setO (Obj.PREP_STATE p.val) 3
  else if s.o (Obj.WARM_RESULT p.val) = 0 ∨ s.railsIn p = false then s.setO (Obj.PREP_STATE p.val) 1
  else s.setO (Obj.PREP_STATE p.val) 4

def State.prepAll (s : State) : State := allPos.foldl State.prepUpdate s

/-- 02 R58, R246: the mandatory first eclipse of a position is owed. -/
def State.oweEclipse (s : State) (p : Pos) : State :=
  (s.becomeDue p).setEcl p { (s.becomeDue p).ecl.get p with mandatory := true, part := 0 }

/-- The last-eclipse record of a position: FPA identity, VDET code, t_acc, epoch, time (log 41). -/
def State.lastEclipse (s : State) (p : Pos) : Nat × Nat × Int × Nat × Nat :=
  let b := s.keep (Keep.lastEclipse p.val) 64
  (leAt b 0 8, leAt b 8 2, fromCode 16 (leAt b 10 2), leAt b 12 4, leAt b 16 8)

/-- 02 R58: the first of conditions 1 to 4 that fails; none when all hold.  A recorded eclipse later than the present chain
time counts as failing condition 2: DESIGN CHOICE (log 70). -/
def State.warmFail (s : State) (p : Pos) : Option Nat :=
  let r := s.lastEclipse p
  if r.2.2.2.1 ≠ s.o Obj.MEM_RETAIN_EPOCH then some 1
  else if (s.inForce Obj.WARM_MAX_AGE).toNat * 1000000000 < s.time.now - r.2.2.2.2 ∨ s.time.now < r.2.2.2.2 then some 2
  else if r.1 ≠ s.o (Obj.FPA_ID p.val) then some 3
  else if (r.2.1 : Int) ≠ s.act p (Obj.INTG_VDET p.val) then some 4
  else none

/-- 02 R58: the warm start of a position is evaluated at entry, but for condition 5. -/
def State.warmStart (s : State) (p : Pos) : State :=
  if s.inForce Obj.WARM_START_EN = 0 then (s.setO (Obj.WARM_RESULT p.val) 7).oweEclipse p
  else
    match s.warmFail p with
    | some c => (s.setO (Obj.WARM_RESULT p.val) ((c + 1 : Nat) : Int)).oweEclipse p
    | none => s

/-- What the last-eclipse record gives back to a position that starts warm: time and t_acc of that eclipse (06 R221, R245) and
its VDET code (07 R258); the next full eclipse learns from that t_acc (06 R245). -/
def State.recallEclipse (s : State) (p : Pos) : State :=
  let r := s.lastEclipse p
  (({ s with vdet := s.vdet.upd p (fun v => { v with eclCode := some r.2.1 }) } : State).setEcl p { s.ecl.get p with prevTacc := some r.2.2.1 }).setOs
    [(Obj.ECL_LAST_TIME p.val, ((r.2.2.2.2 : Nat) : Int)), (Obj.ECL_LAST_TACC p.val, r.2.2.1)]

/-- 02 R58, condition 5: the row's substrate temperature is near that of the recorded eclipse, or the drift model is valid and
its prediction at the row's temperature is below the threshold. -/
def State.warmNear (s : State) (p : Pos) (subt : Nat) : Bool :=
  let was : Int := s.oi (Obj.CORR_T0 p.val) + (s.lastEclipse p).2.2.1
  decide (((subt : Int) - was).natAbs * 100 ≤ (s.inForce Obj.WARM_MAX_DT).toNat * 128) ||
    (s.o (Obj.ECL_DRIFT_STATE p.val) != 0 && decide ((s.recallEclipse p).predAt p subt < s.o (Obj.ECL_PRED_THRESH p.val)))

/-- 02 R58, condition 5, on the substrate temperature of the first valid row in PREPARE. -/
def State.warmRow (s : State) (p : Pos) (subt : Nat) : State :=
  if s.mode ≠ Mode.prepare ∨ s.enabled p = false ∨ s.o (Obj.WARM_RESULT p.val) ≠ 0 ∨ s.modes.running.isSome = true then s
  else
    (if s.warmNear p subt then (s.recallEclipse p).setO (Obj.WARM_RESULT p.val) 1
     else (s.setO (Obj.WARM_RESULT p.val) 6).oweEclipse p).prepUpdate p

/-! ### Answers to requests (02 R60, Table 02-6) -/

/-- A mode request as it arrives: `multi` for a group or broadcast telegram. -/
structure ModeReq where
  txn : Nat
  target : Nat
  act : Nat
  source : Nat
  level : Nat
  multi : Bool
deriving DecidableEq, Repr

/-- 02 Table 02-5: the transition may be asked for. -/
def modeAllowed (frm target : Nat) : Bool :=
  target == 5 || (frm == 0 && (target == 1 || target == 4)) || (frm == 1 && (target == 2 || target == 3 || target == 0)) ||
    (frm == 2 && (target == 3 || target == 1 || target == 0)) || (frm == 3 && (target == 2 || target == 1 || target == 0)) ||
    (frm == 4 && target == 0) || (frm == 5 && target == 0)

/-- 10 R374, R55: a valid role lease. -/
def State.leaseValid (s : State) : Bool := s.o Obj.LEASE_STATE == 1

/-- 02 R55: LOCAL_ONLY as in force, or, from STANDBY, as it comes into force with the entry asked for (02 R603). -/
def State.localOnly (s : State) : Bool := if s.mode = 0 then s.ob Obj.LOCAL_ONLY else s.inForce Obj.LOCAL_ONLY == 1

/-- 02 Table 02-6, row 9: the reason that refuses a transition; 0 none.  In ORPHAN, PREPARE and RUN are refused with reason
ORPHAN, whatever else speaks against them (R67). -/
def State.modeRefusal (s : State) (q : ModeReq) : Nat :=
  if (q.target = 1 ∨ q.target = 2) ∧ s.modes.orphan = true then 6
  else if q.target = 0xFE ∨ modeAllowed s.mode q.target = false then 1
  else if s.dbg.vendor = true ∧ (q.target = 1 ∨ q.target = 2 ∨ q.target = 3) then 1
  else if s.extest then 3
  else if q.level < 1 ∨ (q.target = 4 ∧ q.level < 2) then 7
  else if s.mode = 5 ∧ q.target = 0 ∧ s.modes.causes.isEmpty = false then 8
  else if (q.target = 1 ∨ q.target = 4) ∧ s.pwr.vin < 36000 then 8
  else if (q.target = 1 ∨ q.target = 2) ∧ s.leaseValid = false ∧ s.localOnly = false then 5
  else if q.target = 2 ∧ s.prepared = false then 4
  else if s.mode = 0 ∧ (q.target = 1 ∨ q.target = 4) ∧ s.fpaConfigBad = true then 0x22
  else if (q.target = 1 ∨ q.target = 4 ∨ q.target = 3) ∧ s.oi Obj.THERM_THROTTLE ≤ s.oi Obj.THERM_HOTSPOT then 9
  else 0

/-- The record of an answer. -/
def State.answerRec (s : State) (q : ModeReq) (outcome reason act : Nat) : TxnRec :=
  { num := q.txn, frm := s.mode, target := q.target, act := act, outcome := outcome, reason := reason, fin := 0, source := q.source }

/-- A transaction is armed (R61: activation time 0 stands for 1 ms after arrival). -/
def State.arm (s : State) (q : ModeReq) (act : Nat) : State × TxnRec :=
  let r := s.answerRec q 1 0 act
  let a : Armed := { txn := q.txn, target := q.target, act := act, source := q.source, port := 0, reqTime := q.act }
  (({ s with modes := { s.modes with armed := some a } } : State).recordTxn r, r)

/-- An answer that arms nothing. -/
def State.decline (s : State) (q : ModeReq) (outcome reason : Nat) : State × TxnRec :=
  (s.recordTxn (s.answerRec q outcome reason q.act), s.answerRec q outcome reason q.act)

/-- The armed transaction is the one of a request. -/
def State.armedIs (s : State) (q : ModeReq) : Bool := match s.modes.armed with | some a => a.txn == q.txn | none => false

/-- 02 Table 02-6, rows 3 to 12.  CANCEL with the number of the armed transaction is accepted at every level, since row 3 names
none: DESIGN CHOICE (log 70). -/
def State.answerRest (s : State) (q : ModeReq) : State × TxnRec :=
  match s.armedIs q, s.modes.armed with
  | true, some a =>
    if q.target = 0xFE then
      let r := { s.answerRec { q with target := a.target } 4 0 a.act with fin := s.time.now }
      (({ s with modes := { s.modes with armed := none } } : State).recordTxn r, r)
    else if q.target = a.target ∧ q.act = a.reqTime then (s, s.answerRec q 1 0 a.act)
    else (s, s.answerRec q 2 0x0A q.act)
  | _, _ =>
    if q.act ≠ 0 ∧ q.act < s.time.now then s.decline q 3 0
    else if q.act ≠ 0 ∧ s.o Obj.TIME_STATE ≠ 2 then s.decline q 2 0x0C
    else if q.act = 0 ∧ q.multi = true then s.decline q 2 0x0B
    else if s.modeRefusal q ≠ 0 then s.decline q 2 (s.modeRefusal q)
    else if s.modes.armed.isSome then s.decline q 2 3
    else if q.act ≠ 0 ∧ q.act < s.time.now + 500000 then s.decline q 2 2
    else s.arm q (if q.act = 0 then s.time.now + 1000000 else q.act)

/-- The armed transaction is an entry to SAFE with the number of a request for SAFE: not another one (02 R56). -/
def State.safeArmed (s : State) (q : ModeReq) : Option Armed :=
  match s.modes.armed with
  | some a => if a.txn = q.txn ∧ a.target = 5 then some a else none
  | none => none

/-- 02 R56, Table 02-6, row 1: a request for SAFE.  A repeat of the armed one leaves it as it is; with another time it is armed
for that time instead (log 70); any other armed transaction ends CANCELLED with reason HOST. -/
def State.answerSafe (s : State) (q : ModeReq) : State × TxnRec :=
  let act := if q.act ≤ s.time.now then s.time.now + 1000000 else q.act
  match s.safeArmed q with
  | some a => if q.act = a.reqTime then (s, s.answerRec q 1 0 a.act) else s.arm q act
  | none => (s.cancelArmed 0x33).arm q act

/-- 02 R60: the answer to a mode request. -/
def State.answerMode (s : State) (q : ModeReq) : State × TxnRec :=
  if q.target = 5 ∧ 1 ≤ q.level then s.answerSafe q
  else if q.txn = 0 then s.decline q 2 0x0A
  else s.answerRest q

/-! ### What leaving modes ends (02 R70, 04 R156, 06 R224, 08 R316, 09 R346, 12 R437) -/

/-- 02 Table 02-9: a long operation may run in a mode. -/
def opMode (k mode : Nat) : Bool :=
  match k with
  | 0 => mode == 1 || mode == 4
  | 1 => mode == 4
  | 2 => mode == 4
  | 3 => mode != 5
  | 4 => mode == 3
  | _ => mode == 0 || mode == 4

/-- 02 R70, 04 R161: one long operation is aborted, and a load that waits behind it goes on (R59); FW_UPDATE leaves its slot invalid and the active one untouched. -/
def State.abortOp (s : State) (k : Nat) : State :=
  if !s.opRunning k then s
  else
    match k, s.ops.load with
    | 0, some (p, _) => (s.loadFailed (posOf p) 4 Abort.state).loadNext
    | 1, _ => (s.opEnd 1 4 Abort.state).slotInvalid
    | 3, _ => ({ s with ops := { s.ops with save := none } } : State).opEnd 3 4 Abort.state
    | 5, _ => ({ s with ops := { s.ops with compact := none } } : State).opEnd 5 4 Abort.state
    | _, _ => s.opEnd k 4 Abort.state

/-- The operations a mode does not allow end. -/
def State.abortOps (s : State) (mode : Nat) : State :=
  (([0, 1, 2, 3, 4, 5] : List Nat).foldl (fun s k => if opMode k mode then s else s.abortOp k)
    (if opMode 0 mode then s else { s with ops := { s.ops with loadQueue := [] } }))

/-- 06 R252: stored windows go on leaving RUN. -/
def State.dropWindows (s : State) : State := if s.mode = Mode.run then { s with windows := [] } else s

/-- 14 R487: leaving SERVICE gives the SP0 channel back. -/
def State.endSlave (s : State) : State := if s.mode = Mode.service then s.setO Obj.SP0_SLAVE 0 else s

/-- A mode is in force from now on, under a transaction (02 R32). -/
def State.putMode (s : State) (target txn since : Nat) : State :=
  (({ s with modes := { s.modes with prevMode := s.mode, prevTxn := s.modes.txn, txn := txn, since := since } } : State).setO
    Obj.MODE ((target : Nat) : Int)).showLoads

/-- What leaving the imaging modes for STANDBY, ORPHAN or SAFE ends at once. -/
def State.leaveImaging (s : State) (target : Nat) : State :=
  let s := ((s.dropWindows.endSlave).abortOps target).discardAllStarts
  let s := allPos.foldl (fun s p => ((s.eclModeEnd p (target == 5)).coefInvalidate p).setO (Obj.PREP_STATE p.val) 0) s
  s.outsLow

/-- Everything of a position's frames in intake and pipeline is gone (03 R101, 02 R66). -/
def State.dropFrames (s : State) (p : Pos) : State :=
  let s := s.intakeDiscard p
  let y := s.pipe.get p
  (s.setPipe p { PipePos.reset with track := y.track, trackEmpty := y.trackEmpty, lastClipped := y.lastClipped,
                                    lastStaged := y.lastStaged, lastSat := y.lastSat, subtHeld := y.subtHeld })

def State.dropAllFrames (s : State) : State :=
  let s := allPos.foldl State.dropFrames s
  { s with taps := s.taps.map (fun t => { t with rows := [] }) }

/-! ### The close of a frame (03 R89) -/

/-- 07 R257: a change of VDET activated at the hand-over into the frame ramps from its close. -/
def State.vdetFollow (s : State) (p : Pos) : State :=
  if (s.vdet.get p).follow then
    let s : State := { s with vdet := s.vdet.upd p (fun v => { v with follow := false }) }
    if (s.vdet.get p).fault then s else s.vdetRamp p (s.act p (Obj.INTG_VDET p.val)).toNat
  else s

/-- One step of at most one code toward a value. -/
def oneToward (x y : Int) : Int := if x < y then x + 1 else if y < x then x - 1 else x

/-- 16 R533: at the close of a frame the trim of the position's VDET DAC moves by at most one code. -/
def State.vdetTrim (s : State) (p : Pos) : State :=
  { s with vdet := s.vdet.upd p (fun v => { v with trim := oneToward v.trim (s.therm.trims.getD (4 + p.val) 0) }) }

/-- The open frame of a position closes with a cause (03 R89): the intake completes its shape, the eclipse counts it, the
vertical blank opens, LEVEL outputs fall and a held start gets its instant. -/
def State.frameClosed (s : State) (p : Pos) (cause : Nat) : State :=
  let s := s.intakeClose p cause s.time.now
  let s := match (s.intake.get p).ended.getLast? with
    | some f => s.eclClosed p f
    | none => s
  let s := if s.imaging then (s.vdetFollow p).openBlank p else s
  ((s.vdetTrim p).outsClose p).computeHeld p

/-- 02 R59, 17 R552: a prepared position whose rails have failed is back at its rails (PREP_STATE 1: log 70). -/
def State.railsLost (s : State) (p : Pos) : State :=
  if s.o (Obj.PREP_STATE p.val) = 4 then s.setO (Obj.PREP_STATE p.val) 1 else s

/-! ### The course to STANDBY and SAFE (02 Table 02-5, 17 R550) -/

/-- A frame of the position is still on its way (03 R101, 08 R316), or an UPDATE in progress (06 R224). -/
def State.posBusy (s : State) (p : Pos) : Bool :=
  (s.ecl.get p).updating || (s.intake.get p).frm.isSome || !(s.intake.get p).ended.isEmpty || (s.pipe.get p).frm.isSome || !(s.trig.get p).marks.isEmpty

/-- VDET of every position ramps to 0 V (07 R258). -/
def State.vdetDown (s : State) : State :=
  allPos.foldl (fun s p =>
    if (s.vdet.get p).target ≠ 0 then s.vdetRamp p 0 else s) s

/-- The FPA rails of positions whose VDET is at 0 V go off in order (17 R550). -/
def State.railsDown (s : State) : State :=
  allPos.foldl (fun s p =>
    if s.o (Obj.INTG_VDET_OUT p.val) = 0 ∧ (s.vdet.get p).target = 0 then s.railOff p else s) s

/-- Every supply of the FPAs is off and discharged. -/
def State.railsOff (s : State) : Bool :=
  allPos.all (fun p => s.o (Obj.INTG_VDET_OUT p.val) == 0 && s.dom80 (70 + p.val) != 2 && s.dom80 (74 + p.val) != 2 &&
    s.dom80 (70 + p.val) != 1 && s.dom80 (74 + p.val) != 1) && s.pwr.discharging.isEmpty && s.pwr.faultOn.isEmpty

/-- A demand converter is kept on: it is busy, or has been idle for less than 1 ms (15 R506). -/
def State.hkKeeps (s : State) (d : Nat) : Bool :=
  let c := s.hk.conv.get (posOf (d - 63))
  decide (63 ≤ d ∧ d ≤ 66) && (c.busy || (match c.idleSince with | some a => decide (s.time.mono < a + 1000000) | none => false))

/-- A transaction is in progress on some select of SP0 (14 R473). -/
def State.sp0Runs (s : State) : Bool := allPos.any (fun p => (s.sp0.get p).busy.isSome)

/-- The domains a quiet mode keeps: those of Table 02-3, demand and debug domains, the FPA rails (their own order), the shutter
supply while a pulse runs, and SP0 until its transaction has ended (14 R473). -/
def State.keepsDomain (s : State) (d : Nat) : Bool :=
  s.quietDomain d || d == 62 || d == 79 || d == 69 || s.hkKeeps d || decide (70 ≤ d ∧ d ≤ 77) || (d == 78 && s.shut.running.isSome) ||
    (d == 61 && s.sp0Runs)

/-- The other domains go off in descending order (17 R546), but for some; the output ports and lanes with them; DRAM goes to
self-refresh (12 R413). -/
def State.domainsOff (s : State) (but : List Nat) : State :=
  let s := (s.discardMode).outOff
  let s := (List.range 80).reverse.foldl (fun s d => if s.keepsDomain d || but.contains d then s else s.wantOff d) s
  let s : State := { s with
    lanes := List.replicate 8 Lane.reset, aligned := Quad.all false, link := { s.link with asm := Quad.all none },
    mem := { s.mem with online := false, selfRefresh := s.mem.trained } }
  s.flashRelax

/-- The last step of a course to STANDBY or SAFE. -/
def State.domainsDown (s : State) : State := s.domainsOff []

/-- 17 R552: the supplies of positions held off go down in order. -/
def State.heldDown (s : State) : State :=
  allPos.foldl (fun s p =>
    if s.pwr.fpaOff.get p ∧ s.o (Obj.INTG_VDET_OUT p.val) = 0 ∧ (s.vdet.get p).target = 0 then s.railOff p else s) s

/-- The work of a transition to STANDBY or SAFE goes on as far as it can, and that of supplies held off. -/
def State.modeProceed (s : State) : State :=
  let s := s.heldDown
  match s.modes.running with
  | some r =>
    if r.target = 0 then
      if allPos.any s.posBusy then s
      else
        let s := s.vdetDown.railsDown
        if s.railsOff && s.dma.all (fun c => c.cur.isNone) then s.domainsDown else s
    else if r.target = 5 then
      let s := s.vdetDown
      if allPos.any s.posBusy then s
      else
        let s := s.railsDown
        if s.railsOff && s.dma.all (fun c => c.cur.isNone) then s.domainsDown else s
    else s
  | none => s

/-- ns the bound of a transition is longer for a shutter pulse in progress. -/
def State.pulseBound (s : State) : Nat := if s.shut.running.isSome then 200000000 else 0

/-- A transition runs (02 R54). -/
def State.run (s : State) (frm target txn act source bound reason : Nat) (orphan : Bool) : State :=
  let r : Running := { frm := frm, target := target, txn := txn, act := act, source := source,
                       deadline := act + bound + s.pulseBound, orphan := orphan, reason := reason }
  { s with modes := { s.modes with running := some r } }

/-- The record of a running transition at an outcome. -/
def State.runRec (s : State) (r : Running) (outcome reason : Nat) : TxnRec :=
  { num := r.txn, frm := r.frm, target := r.target, act := r.act, outcome := outcome, reason := reason,
    fin := if outcome = 5 then 0 else s.time.now, source := r.source }

/-- The record of a transition that ends well, with the report of its end (02 R64). -/
def State.endedWell (s : State) (r : Running) : State := (s.recordTxn (s.runRec r 6 r.reason)).report (s.runRec r 6 r.reason)

/-- A transition that ends while another begins (log 43): entries to SAFE never fail, so they end COMPLETED; any other ends
FAILED. -/
def State.supersede (s : State) (reason : Nat) : State :=
  match s.modes.running with
  | none => s
  | some r =>
    let also := s.modes.joined
    let s : State := { s with modes := { s.modes with running := none, joined := [] } }
    if r.target = 5 then (r :: also).foldl State.endedWell s
    else (s.recordTxn (s.runRec r 7 reason)).report (s.runRec r 7 reason)

/-- 02 R66: the frames in flight are not waited for: an open frame closes at once, as one that R101 closes after 20 ms. -/
def State.closeAllNow (s : State) : State := allPos.foldl (fun s p => if (s.intake.get p).frm.isSome then s.frameClosed p 3 else s) s

/-- A transition to STANDBY begins. -/
def State.toStandby (s : State) (txn act source : Nat) (orphan : Bool) : State :=
  let frm := s.mode
  let s := ((s.supersede 0).leaveImaging 0).putMode 0 txn act
  let s := s.run frm 0 txn act source 50000000 0 orphan
  let s := (s.dmaStandby).flushLog
  (if orphan then s.closeAllNow else s).modeProceed

/-- 02 R53, R64: an entry to SAFE while one is running joins it; any other running transition ends FAILED, and the entry to SAFE
runs. -/
def State.runSafe (s : State) (frm txn act source lo : Nat) : State :=
  match s.modes.running with
  | some r =>
    if r.target = 5 then
      let n : Running := { frm := frm, target := 5, txn := txn, act := act, source := source, deadline := r.deadline,
                           orphan := false, reason := lo }
      { s with modes := { s.modes with joined := s.modes.joined ++ [n] } }
    else s.run frm 5 txn act source 20000000 lo false
  | none => s.run frm 5 txn act source 20000000 lo false

/-- 02 R56: SAFE is entered: source and reason of Table 02-7, under a transaction of the host or 0.  After a failed transition
MODE_TXN shows this entry, and the FAILED record is the newest of MODE_TXN_HIST: DESIGN CHOICE (log 43).  SAFE_REASON keeps the
reason of the first cause (17 R542). -/
def State.toSafe (s : State) (txn act source hi lo : Nat) : State :=
  let s := s.debugCap.cancelArmed 8
  let s := match s.modes.running with
    | some r => if r.target = 5 then s else s.supersede lo
    | none => s
  let frm := s.mode
  let s := (((s.leaveImaging 5).dmaSafe).dropAllFrames).discardMode
  let s := (s.putMode 5 txn act).setO Obj.SAFE_REASON (if frm = 5 then s.oi Obj.SAFE_REASON else ((hi * 256 + lo : Nat) : Int))
  let s := s.runSafe frm txn act source lo
  let r := { s.answerRec ⟨txn, 5, act, source, 2, false⟩ 5 lo act with frm := frm }
  ((s.recordTxn r).modeProceed).notifyCause 0x0070 0xFF [(2, s.o Obj.SAFE_REASON)]

/-- A fault enters SAFE, with the source and the reason of Table 02-7 (02 R56, R64); in SAFE too (R53), unless the cause stands
already. -/
def State.faultSafe (s : State) (hi lo : Nat) : State :=
  if s.fwUp = false ∨ (s.mode = Mode.safe ∧ s.modes.causes.contains lo = true) then s
  else s.toSafe 0 s.time.now 0 hi lo

/-- A fault cause that persists (02 R57). -/
def State.addCause (s : State) (c : Nat) : State :=
  if s.modes.causes.contains c then s else { s with modes := { s.modes with causes := s.modes.causes ++ [c] } }

def State.dropCause (s : State) (c : Nat) : State := { s with modes := { s.modes with causes := s.modes.causes.filter (· != c) } }

/-- 02 R54: the running transition fails. -/
def State.failTransition (s : State) (reason : Nat) : State :=
  match s.modes.running with
  | some r => if r.target = 5 then s else s.toSafe 0 s.time.now 0 0 reason
  | none => s

/-! ### Entry to PREPARE and SERVICE (02 R603, Table 02-5) -/

/-- The settings marked Mode come into force. -/
def State.takeModeSettings (s : State) : State :=
  { s with modes := { s.modes with inForce := s.od.filter (fun c =>
      match Obj.row? c.1 with | some r => r.eff == .mode | none => false) } }

/-- What an entry resets at one position. -/
def State.entryPos (s : State) (p : Pos) : State :=
  let s := (s.emptyStamps p).clearRowValid p
  let s := s.setEcl p { s.ecl.get p with mandatory := false, part := 0, flag := (s.ecl.get p).flag && (s.ecl.get p).updating }
  let s := if s.enabled p ∧ (s.ecl.get p).wanted = true ∧ s.phase p = 0 then s.setPhase p 1 else s
  let s := s.setCoef p { s.coef.get p with started := false, busyFrame := false }
  let s := s.setFpa p { FpaSt.reset with idOn := false }
  let s : State := { s with
    vdet := s.vdet.upd p (fun v => { v with fault := false, follow := false }),
    pwr := { s.pwr with fpaOff := s.pwr.fpaOff.set p false },
    pipe := s.pipe.upd p (fun y => { y with trackEmpty := true }),
    intake := s.intake.upd p (fun i => { i with unsol := [], hpSubt := none }),
    trig := s.trig.upd p (fun g => { g with lastStart := none, held := none, heldAt := none, queue := [], marks := [], dropNext := false }) }
  s.setOs [(Obj.CORR_SUBT_START p.val, 0), (Obj.INT_VBLANK_MIN p.val, s.vblankMin p), (Obj.WARM_RESULT p.val, 0), (Obj.FPA_ID p.val, 0),
    (Obj.PREP_STATE p.val, if s.enabled p ∧ s.mode = Mode.prepare then 1 else 0)]

/-- An entry from STANDBY into PREPARE or SERVICE. -/
def State.enter (s : State) (target txn act source : Nat) : State :=
  let s := (((s.supersede 0).abortOps target).putMode target txn act).takeModeSettings
  let s := s.run 0 target txn act source 100000000 0 false
  let s := (allPos.foldl State.entryPos s).showLoads
  let s := { s with pwr := { s.pwr with overload := false } }
  if !s.mem.trained then s.failTransition 0x21
  else
    let s := onOrder.foldl (fun s d => if s.imagingDomain d || (d == 62 && target == 4) || (d == 79 && target == 4) then s.wantOn d else s) s
    s.enabledPos.foldl State.openAtEntry s

/-- The FPA rails of every position on a select are up, so its identities can be read (03 R121). -/
def State.railsUp (s : State) (sel : Pos) : Bool :=
  (s.onSel sel).all (fun p => s.domOn (70 + p.val) && s.domOn (74 + p.val)) && s.domOn 61

/-- 03 R121, 17 R550: what the rails' coming up allows next: the VDET ramp on the way to PREPARE, and identity reads. -/
def State.entryStep (s : State) : State :=
  match s.modes.running with
  | some r =>
    if r.frm ≠ 0 ∨ (r.target ≠ 1 ∧ r.target ≠ 4) then s
    else
      let s := s.enabledPos.foldl (fun s p =>
        if r.target = 1 ∧ s.domOn (74 + p.val) = true ∧ (s.vdet.get p).fault = false ∧
            (s.vdet.get p).target ≠ (s.act p (Obj.INTG_VDET p.val)).toNat then s.vdetRamp p (s.act p (Obj.INTG_VDET p.val)).toNat else s) s
      allPos.foldl (fun s sel =>
        if !(s.onSel sel).isEmpty && s.railsUp sel then
          ((s.onSel sel).foldl (fun s p =>
            let f := s.fpa.get p
            if f.idOn || f.idDone then s else s.setFpa p { f with idOn := true }) s).sp0Next sel
        else s) s
  | none => s

/-- After the identity reads of an entry: a silent FPA fails it; else the integration words are written (03 R121), and the
active generation is the one that governs the first frame (07 R266). -/
def State.entryIds (s : State) : State :=
  match s.modes.running with
  | some r =>
    if r.frm ≠ 0 ∨ (r.target ≠ 1 ∧ r.target ≠ 4) then s
    else if s.enabledPos.any (fun p => (s.fpa.get p).silent) then s.failTransition 0x22
    else
      s.enabledPos.foldl (fun s p =>
        let f := s.fpa.get p
        if f.idDone && !f.blank && f.want.isEmpty then
          (s.setGen p { s.gen.get p with gov := (s.gen.get p).act }).openBlank p
        else s) s
  | none => s

/-- The FPA has its identity read and its words sent and answered. -/
def State.fpaReady (s : State) (p : Pos) : Bool :=
  let f := s.fpa.get p
  f.idDone && f.todo.isEmpty && f.refused.isEmpty && !f.collects && (f.sent.map (·.op)) != some 4

/-- Every step of an entry is done (02 Table 02-5). -/
def State.entryReady (s : State) (target : Nat) : Bool :=
  (List.range 80).all (fun d => !s.imagingDomain d || s.domOn d) && s.enabledPos.all s.fpaReady &&
    (target != 1 || s.enabledPos.all (fun p => (s.vdet.get p).rampEnd.isNone &&
      s.oi (Obj.INTG_VDET_OUT p.val) == s.act p (Obj.INTG_VDET p.val)))

/-- An entry to PREPARE completes: warm starts are evaluated and the loads that are needed begin (02 R58, R59). -/
def State.entryDone (s : State) (target : Nat) : State :=
  if target ≠ 1 then s
  else
    let s := s.enabledPos.foldl State.warmStart s
    let q : List Nat := (s.enabledPos.filter s.needsLoad).map (fun p => p.val)
    let s : State := { s with ops := { s.ops with loadQueue := q } }
    s.loadNext.prepAll

/-! ### Activation and completion (02 R62, R64) -/

/-- 02 R52, 06 R248: ECLIPSE begins: each enabled position owes its part; an eclipse that runs counts. -/
def State.eclipseMode (s : State) (frm : Nat) : State :=
  let s := allPos.foldl (fun s p => s.setEcl p { s.ecl.get p with part := 0 }) s
  let s := { s with modes := { s.modes with eclReturn := frm } }
  (s.opStart 4 s.enabledPos.length).skipParts

/-- The running transition ends well, and the entries to SAFE that joined it with it. -/
def State.completed (s : State) (r : Running) : State :=
  let also := s.modes.joined
  also.foldl State.endedWell (({ s with modes := { s.modes with running := none, joined := [] } } : State).endedWell r)

/-- A transition that is immediate, or waits for a shutter pulse only.  It leaves a running entry to PREPARE to its course, and
then it ends at once (log 43). -/
def State.switchMode (s : State) (a : Armed) (frm : Nat) : State :=
  let s := (s.dropWindows.abortOps a.target).putMode a.target a.txn a.act
  let other := s.modes.running
  let s := s.run frm a.target a.txn a.act a.source 0 0 false
  let s := if a.target = 3 then s.eclipseMode frm else s
  let s := if frm = 3 ∧ s.opRunning 4 = true then s.opEnd 4 4 Abort.state else s
  let s := if frm = 3 then allPos.foldl (fun s p => s.setEcl p { s.ecl.get p with part := 0 }) s else s
  match s.modes.running with
  | some r =>
    if other.isSome then { s.endedWell r with modes := { (s.endedWell r).modes with running := other } }
    else if frm = 3 ∧ s.shut.running.isSome = true then s
    else s.completed r
  | none => s

/-- The quiet state a transition to STANDBY or SAFE ends in. -/
def State.quietReady (s : State) : Bool :=
  s.railsOff && s.shut.running.isNone && s.pwr.ramping.isEmpty && !s.mem.online && !s.sp0Runs

/-- 02 Table 02-5: leaving SAFE.  The transition ends at once, unless the module is still on its way into SAFE. -/
def State.leaveSafe (s : State) (a : Armed) : State :=
  let s := ((((s.supersede 0).nvReopen).setO Obj.SAFE_REASON 0).putMode 0 a.txn a.act).flushLog.nvKick
  let s := s.run 5 0 a.txn a.act a.source 1000000 0 false
  match s.modes.running with
  | some r => if s.quietReady then s.completed r else s
  | none => s

/-- 18 R573: SERVICE is still to be entered for a vendor token, by way of STANDBY; in SAFE it waits. -/
def State.vendorNext (s : State) : State :=
  if !s.dbg.force || s.modes.running.isSome then s
  else if s.mode = 0 then
    if s.fpaConfigBad then s
    else ({ s with dbg := { s.dbg with force := false } } : State).enter 4 0 s.time.now 0
  else if s.mode = 4 then { s with dbg := { s.dbg with force := false } }
  else if s.mode = 5 then s
  else s.toStandby 0 s.time.now 0 false

/-- 02 R62: an armed transaction begins. -/
def State.activateTxn (s : State) (a : Armed) : State :=
  let s : State := { s with modes := { s.modes with armed := none } }
  let started : TxnRec := { num := a.txn, frm := s.mode, target := a.target, act := a.act, outcome := 5, reason := 0, fin := 0,
                            source := a.source }
  let frm := s.mode
  if a.target = 5 then s.toSafe a.txn a.act a.source 4 0x33
  else if modeAllowed frm a.target = false then
    let r := { started with outcome := 4, reason := 1, fin := s.time.now }
    (s.recordTxn r).report r
  else
    if frm = 0 ∧ (a.target = 1 ∨ a.target = 4) ∧ s.fpaConfigBad = true then
      let r := { started with outcome := 2, reason := 0x22, fin := s.time.now }
      (s.recordTxn r).report r
    else
    let s := s.recordTxn started
    if frm = 5 then (s.leaveSafe a).vendorNext
    else if a.target = 0 then s.toStandby a.txn a.act a.source false
    else if frm = 0 then s.enter a.target a.txn a.act a.source
    else s.switchMode a frm

/-- Every step of the running transition is done. -/
def State.transitionReady (s : State) (r : Running) : Bool :=
  match r.target with
  | 0 => s.quietReady && !allPos.any s.posBusy
  | 5 => s.quietReady
  | 1 => if r.frm = 0 then s.entryReady 1 else s.shut.running.isNone
  | 4 => s.entryReady 4
  | _ => s.shut.running.isNone

/-- 02 R64: the running transition completes; one to STANDBY whose DRAM did not enter self-refresh fails with DRAM (Table
02-5). -/
def State.completeTransition (s : State) (refresh : Bool) : State :=
  let s := s.modeProceed
  match s.modes.running with
  | none => s
  | some r =>
    if !s.transitionReady r then s
    else if r.target = 0 ∧ r.frm ≠ 5 ∧ refresh = false then s.failTransition 0x21
    else
      let s := s.completed r
      if r.target = 0 then (s.wantOff 78).nvKick.vendorNext
      else if r.target = 5 then s.wantOff 78
      else (if r.frm = 0 then s.entryDone r.target else s).vendorNext

/-- 02 R52, 06 R248: ECLIPSE ends by itself once every enabled position has ended its part. -/
def State.eclipseEnds (s : State) : State :=
  if s.mode ≠ Mode.eclipse then s
  else
    let s := s.skipParts
    let n := (s.enabledPos.filter (fun p => (s.ecl.get p).part != 0)).length
    let s := if s.opRunning 4 then s.opAt 4 n else s
    if n < s.enabledPos.length ∨ s.modes.running.isSome = true then s
    else
      let ok := s.enabledPos.all (fun p => (s.ecl.get p).part == 1)
      let s := if s.opRunning 4 then s.opEnd 4 (if ok then 2 else 3) 0 else s
      let a : Armed := { txn := s.modes.txn, target := s.modes.eclReturn, act := s.time.now, source := 0, port := 0, reqTime := 0 }
      s.switchMode a 3

/-- 02 R56: a mandatory eclipse that ended without success in PREPARE. -/
def State.mandatoryFailed (s : State) : State :=
  if s.mode = Mode.prepare ∧ s.enabledPos.any (fun p => (s.ecl.get p).mandatory && (s.ecl.get p).part == 2) = true then
    (s.enabledPos.foldl (fun s p =>
      if (s.ecl.get p).mandatory && (s.ecl.get p).part == 2 then s.setO (Obj.PREP_STATE p.val) 5 else s) s).toSafe 0 s.time.now 0 3 0x24
  else s

/-- What the end of an eclipse, or of a part, means to the mode. -/
def State.afterEcl (s : State) : State := s.mandatoryFailed.prepAll.eclipseEnds

/-! ### ORPHAN and the lease record (02 R66, 10 R374, R378) -/

/-- Role and epoch go into the keep array; nothing while storage is closed. -/
def State.writeLease (s : State) : State :=
  if s.nv.closed then { s with chain := { s.chain with leaseRetry := true } }
  else
    ({ s with chain := { s.chain with leaseRetry := false } } : State).updTwoSlot Keep.lease
      (s.o Obj.LEASE_ROLE % 256 * 2 ^ 32 + s.o Obj.LEASE_EPOCH % 2 ^ 32)

/-- 10 R378, 13 R441: the write of the lease record on losing a role; `good` is false when the keep array fails it, and it is
then repeated. -/
def State.orphanRecord (s : State) (good : Bool) : State :=
  let s := s.pageIs Keep.lease 32 good
  if good then s.writeLease
  else ({ s with chain := { s.chain with leaseRetry := true } } : State).nvFailed Keep.lease

/-- 02 R66: ORPHAN holds from now on; a running transition to STANDBY is now ORPHAN's too. -/
def State.markOrphan (s : State) : State :=
  { s with modes := { s.modes with
      orphan := true, running := s.modes.running.map (fun r => { r with orphan := r.orphan || r.target == 0 }) } }

/-- 02 R66, 10 R378: the role is lost to another station.  In SAFE the module stays in SAFE, in ORPHAN, and starts no transition:
DESIGN CHOICE (log 71).  A transition to STANDBY that runs goes on, without waiting for the frame in flight. -/
def State.toOrphan (s : State) (good : Bool) (station epoch : Nat) : State :=
  let role := s.o Obj.LEASE_ROLE
  let s := (s.cancelArmed 6).discardRole role
  let s := (s.setOs [(Obj.LEASE_ROLE, 0), (Obj.LEASE_EPOCH, epoch), (Obj.LEASE_STATE, 3)]).orphanRecord good
  let s := s.notify 0x0061 0xFF [(1, role), (1, station), (2, 0), (4, epoch)]
  let s := s.markOrphan
  if s.mode = Mode.safe then s
  else if s.mode = Mode.standby then (if s.modes.running.isSome then s.closeAllNow.modeProceed else s)
  else (s.supersede 6).toStandby 0 s.time.now 0 true

end Sys2Proof.Machine
end

