-- ==== Sys2Proof/Machine/SecOps.lean ====
section
/-!
DEFINITION. Security: records, keys, nonces, sessions and their lock-outs, zeroisation, lifecycle, the debug grade, the
checks of a firmware image; and the resets of the module (02 R42 to R48, 18 R556 to R576).
-/
namespace Sys2Proof.Machine

/-! ### Security records (18 R559, Table 18-3) -/

/-- A record of `n` bytes whose last four are its CRC. -/
def secSeal (n : Nat) (b : List Byte) : List Byte := let d := slice b 0 (n - 4); d ++ leBytes 4 (crc32 d)

/-- The record at an address when its CRC matches. -/
def State.secRec (s : State) (a n : Nat) : Option (List Byte) :=
  let b := s.keep a n
  if leAt b (n - 4) 4 = crc32 (slice b 0 (n - 4)) then some b else none

/-- A record that is SET. -/
def State.secSet (s : State) (a n : Nat) : Option (List Byte) :=
  match s.secRec a n with
  | some b => if leAt b 0 1 = 1 then some b else none
  | none => none

/-- The level and key of a slot that is SET. -/
def State.keyOf (s : State) (k : Nat) : Option (Nat × List Byte) :=
  if 7 < k then none else (s.secSet (Keep.key k) 64).map (fun b => (leAt b 1 1, slice b 4 32))

/-- The KCV of a key. -/
def kcv (key : List Byte) : List Byte := (hmac256 key (asciiBytes "KCV")).take 4

/-- A record is emptied. -/
def State.secEmpty (s : State) (a n : Nat) : State := s.setKeep a (secSeal n [])

/-- A key slot takes a level and a key. -/
def State.setKey (s : State) (k level : Nat) (key : List Byte) : State :=
  s.setKeep (Keep.key k) (secSeal 64 ([1#8, byteOf level, 0#8, 0#8] ++ key ++ kcv key))

/-- The archive key is set. -/
def State.setArchiveKey (s : State) (key : List Byte) : State :=
  s.setKeep Keep.archiveKey (secSeal 64 ([1#8, 0#8, 0#8, 0#8] ++ key ++ kcv key))

/-- The hash of the integrator token key is set. -/
def State.setTokenKey (s : State) (h : List Byte) : State := s.setKeep Keep.tokenKey (secSeal 64 ([1#8, 0#8, 0#8, 0#8] ++ h))

/-- A slot of level L2 is provisioned (Table 18-2). -/
def State.hasL2 (s : State) : Bool :=
  (List.range 6).any (fun k => match s.keyOf k with | some x => x.1 == 2 | none => false)

/-- Random bytes (18 R565; log 6). -/
def State.random (s : State) (n : Nat) : State × List Byte :=
  ({ s with sec := { s.sec with drawn := s.sec.drawn + n } }, (List.range n).map (fun i => Config.randomByte (s.sec.drawn + i)))

/-- 18 R572: the boot nonce; empty when the CRC of its record fails (R559). -/
def State.bootNonce (s : State) : List Byte := ((s.secRec Keep.nonce 32).map (fun b => slice b 0 16)).getD []

/-- The boot nonce is renewed at every release of internal reset. -/
def State.renewNonce (s : State) : State :=
  let r := s.random 16
  r.1.setKeep Keep.nonce (secSeal 32 r.2)

/-! ### Sessions (10 R362, R363, 18 R565, R566) -/

/-- A chain session ends; staging under it with it (10 R366). -/
def State.closeSession (s : State) (id : Nat) : State :=
  { s with chain := { s.chain with
      sessions := s.chain.sessions.filter (fun x => x.id != id),
      staging := match s.chain.staging with
        | some g => if g.session = id then none else some g
        | none => none } }

/-- The host-port session ends. -/
def State.closeHostSession (s : State) : State := { s with host := { s.host with session := none } }

/-- Every session ends (18 R557). -/
def State.closeAll (s : State) : State :=
  ((s.chain.sessions.map (·.id)).foldl State.closeSession s).closeHostSession

/-- 18 R564: the sessions opened with a slot end. -/
def State.closeKey (s : State) (k : Nat) : State :=
  let s := ((s.chain.sessions.filter (fun x => x.keySlot == k)).map (·.id)).foldl State.closeSession s
  match s.host.session with
  | some (_, k', _) => if k' = k then s.closeHostSession else s
  | none => s

/-- 18 R565: the fields of a MAC, most significant byte first. -/
def macFields (tag : String) (session level slot : Nat) (nm nd : List Byte) : List Byte :=
  asciiBytes tag ++ beBytes 8 Config.deviceId ++ beBytes 4 session ++ [byteOf level, byteOf slot] ++ nm ++ nd

/-- 18 R566: the conditions of a PROVE, but the nonce's lifetime. -/
def State.proveOk (s : State) (session level slot : Nat) (nm nd mac : List Byte) : Bool :=
  match s.keyOf slot with
  | none => false
  | some (l, key) =>
    decide (1 ≤ level ∧ level ≤ l) && mac == hmac256 key (macFields "KTA1" session level slot nm nd) &&
      !(level == 3 && s.lifecycle == 2 && !s.dbg.vendor)

/-- The module's MAC for a level granted. -/
def State.moduleMac (s : State) (session level slot : Nat) (nm nd : List Byte) : List Byte :=
  match s.keyOf slot with
  | some (_, key) => hmac256 key (macFields "KTA2" session level slot nm nd ++ [byteOf level])
  | none => List.replicate 32 0#8

/-- The paths of a session: 0 CHAIN_A, 1 CHAIN_B, 2 host port: failures in a row and end of the lock-out (module time). -/
def State.authFails (s : State) (path : Nat) : Nat :=
  if path = 0 then s.sec.failsA else if path = 1 then s.sec.failsB else s.sec.failsH
def State.authLock (s : State) (path : Nat) : Option Nat :=
  if path = 0 then s.sec.lockA else if path = 1 then s.sec.lockB else s.sec.lockH
def State.setAuth (s : State) (path fails : Nat) (lock : Option Nat) : State :=
  { s with sec :=
      if path = 0 then { s.sec with failsA := fails, lockA := lock }
      else if path = 1 then { s.sec with failsB := fails, lockB := lock }
      else { s.sec with failsH := fails, lockH := lock } }

/-- A failed PROVE: counted, and the eighth in a row locks its path out for 60 s (18 R566). -/
def State.proveFailed (s : State) (path : Nat) : State :=
  let s := s.inc Obj.AUTH_CNT_FAIL
  if 8 ≤ s.authFails path + 1 then (s.setAuth path 0 (some (s.time.mono + 60000000000))).log 0x00A5 0xFF [(1, path)]
  else s.setAuth path (s.authFails path + 1) (s.authLock path)

/-- A path is locked out. -/
def State.lockedOut (s : State) (path : Nat) : Bool :=
  match s.authLock path with
  | some t => decide (s.time.mono < t)
  | none => false

/-! ### Zeroisation (18 R567) -/

/-- A customer record is still SET: the keep array has not taken its erasure. -/
def State.keysLeft (s : State) : Bool :=
  (List.range 6).any (fun k => (s.keyOf k).isSome) || (s.secSet Keep.archiveKey 64).isSome || (s.secSet Keep.tokenKey 64).isSome

/-- Customer slots, archive key and token key are emptied, in that order; nothing while storage is closed.  Until every one is EMPTY the
zeroisation is repeated at each start. -/
def State.zeroiseKeys (s : State) : State :=
  if s.nv.closed then { s with sec := { s.sec with zeroise := true } }
  else
    let s := (List.range 6).foldl (fun s k => s.secEmpty (Keep.key k) 64) s
    let s := (s.secEmpty Keep.archiveKey 64).secEmpty Keep.tokenKey 64
    if s.keysLeft then { s with sec := { s.sec with zeroise := true } }
    else ({ s with sec := { s.sec with zeroise := false } } : State).log 0x00A3 0xFF []

/-! ### Debug grade (18 R575) -/

/-- Table 18-7: the unlocked grade. -/
def State.unlockedGrade (s : State) : Nat :=
  let base := match s.lifecycle with
    | 0 => 2
    | 1 => s.dbg.setGrade
    | 3 => 2
    | _ => 0
  max base s.dbg.token

/-- Mode and power caps (R575, Table 18-8). -/
def State.gradeCap (s : State) : Nat :=
  if s.boot.phase = .recovery ∨ s.mode = Mode.safe ∨ s.pwr.failing = true ∨ s.therm.quench = true then 1 else 2

/-- The effective grade. -/
def State.grade (s : State) : Nat := if s.fwUp || s.boot.phase == .recovery then min s.unlockedGrade s.gradeCap else 0

/-- 18 R570: PD69 is on while the effective grade is not NONE. -/
def State.debugDomain (s : State) : State := if s.grade = 0 then s.wantOff 69 else s.wantOn 69

/-- Holds and a halt end when the effective grade is below FULL, and PD69 follows the grade (18 R570, R571). -/
def State.gradeChanged (s : State) : State :=
  let freed := if s.grade = 2 then [] else s.dbg.held
  let s : State := { s with dbg := { s.dbg with held := s.dbg.held.filter (fun d => !freed.contains d), halted := s.dbg.halted && s.grade == 2 } }
  let powered := fun (s : State) (d : Nat) =>
    if s.imaging || s.modes.running.isSome then s.imagingDomain d || s.keepsDomain d else s.keepsDomain d
  (freed.foldl (fun s d => if powered s d then s else s.wantOff d) s).debugDomain

/-- Boundary scan is permitted (18 R574). -/
def State.scanPermitted (s : State) : Bool := s.lifecycle != 2

/-! ### Firmware images (18 R560 to R562) -/

/-- 18 R561, checks 1 to 4 of a slot's image. -/
def State.imageOk (s : State) (slot : Nat) : Bool :=
  let h := s.flashBytes 0 (slotBase slot) 512
  let len := leAt h 16 4
  let zero := fun (o n : Nat) => (slice h o n).all (· == 0#8)
  h.take 4 == asciiBytes "KTFW" && leAt h 4 2 == 1 && decide (1 ≤ len ∧ len ≤ 4193792) && zero 6 2 && zero 165 91 && zero 352 160 &&
    sha384 (slice h 68 97) == s.sec.fwHash &&
    sha384 (s.flashBytes 0 (slotBase slot + 512) len) == slice h 20 48 &&
    ecdsaOk (slice h 68 97) (slice h 256 96) (sha384 (slice h 0 256))

def State.imageSvn (s : State) (slot : Nat) : Nat := leAt (s.flashBytes 0 (slotBase slot) 512) 12 4
def State.imageVersion (s : State) (slot : Nat) : Nat := leAt (s.flashBytes 0 (slotBase slot) 512) 8 4

/-- The anti-rollback counter can be read. -/
def State.arbReadable (s : State) : Bool := (twoSlotPick (s.keep Keep.arb 32)).isSome

/-- 18 R562: the anti-rollback value a boot is judged by. -/
def State.arbValue (s : State) : Nat :=
  match twoSlotPick (s.keep Keep.arb 32) with
  | some v => v.1
  | none =>
    if s.lifecycle = 0 ∨ s.lifecycle = 3 then 0
    else (List.range 2).foldl (fun m k => if s.imageOk k then max m (s.imageSvn k) else m) 0

/-- 18 R561: the whole check of a slot. -/
def State.slotOkay (s : State) (slot : Nat) : Bool := s.imageOk slot && decide (s.arbValue ≤ s.imageSvn slot)

/-- 18 R563, 13 R446: the counter is raised, never lowered. -/
def State.raiseArb (s : State) (svn : Nat) : State :=
  let old := s.twoSlot Keep.arb
  if svn ≤ old ∨ s.nv.closed = true then s
  else ((s.updTwoSlot Keep.arb svn).setO Obj.SEC_ARB ((svn : Nat) : Int)).log 0x00A4 0xFF [(4, old), (4, svn)]

/-! ### Resets (02 R42, R48, R394; 10 R383; 13 R468) -/

/-- The counters of a function: the index ranges its clear command names (first and last). -/
def cntInt : List (Nat × Nat) := [(0x2009, 0x2009), (0x2010, 0x201D), (0x2086, 0x2087), (0x2089, 0x208A)]
def cntRanges : List (Nat × Nat) :=
  cntInt ++ [(0x2120, 0x2127), (0x2220, 0x2222), (0x2320, 0x2323), (0x2435, 0x2435), (0x2920, 0x2927), (0x2720, 0x2723),
    (0x1320, 0x1321), (0x2A20, 0x2A2D), (0x2840, 0x2851), (0x1220, 0x122E), (0x3010, 0x3011), (0x3104, 0x3105),
    (0x3115, 0x3116), (0x3210, 0x3218), (0x3310, 0x3316), (0x3420, 0x3422), (0x3520, 0x3522), (0x3620, 0x3623)]

/-- Objects that only power-on reset returns to their defaults: counters, what continues across resets, and settings that
take effect at reset (00 R14, 01 R27, R28, 04 R172, 08, 11 R394; log 42). -/
def keptOverReset (k : Nat) : Bool :=
  let i := k / 256
  cntRanges.any (fun r => decide (r.1 ≤ i ∧ i ≤ r.2)) || k == Obj.OD_CNT_BAR0_DROP || k == Obj.MEM_RETAIN_EPOCH ||
    allPos.any (fun p => k == Obj.GEN_ACTIVE p.val || k == Obj.GEN_GOVERNING p.val || k == Obj.CORR_COEF_GEN p.val || k == Obj.STAT_FRAME p.val) || k == Obj.EXPERT_STATUS ||
    k == Obj.ENC_COUNT 0 || k == Obj.ENC_COUNT 1 || k == Obj.STARTUP_SET || k == Obj.HP_ENABLE || k == Obj.LOG_NEWEST

/-- The memory devices lose power, and frame memory its contents (12 R414, 16 R532, 17 R544). -/
def State.losesDram (cause : Nat) : Bool := cause == 0 || cause == 3 || cause == 4

/-- 02 R48: every logic but the input stage is reset; a keep-array write completes and a flash program is cut (13 R468).
Chain time starts anew; the module's own time, the memories, the fuses and the log's numbering stay (log 42). -/
def State.resetLogic (s : State) (cause : Nat) : State :=
  let s := if s.boot.phase = .off ∨ s.boot.phase = .reset then s else s.nvReset
  let z := State.reset
  let keepOd := if cause = 0 then s.od.filter (fun c => c.1 == Obj.MEM_RETAIN_EPOCH || c.1 == Obj.LOG_NEWEST)
    else s.od.filter (fun c => keptOverReset c.1)
  let z : State := { z with
    pending := s.pending, out := s.out, od := keepOd, free := s.free,
    time := { z.time with mono := s.time.mono, bootMono := s.time.mono },
    boot := { z.boot with phase := .reset, vinAt := s.boot.vinAt, resetN := s.boot.resetN, cause := cause, sysclk := s.boot.sysclk,
                          trip := s.boot.trip },
    nv := { z.nv with keep := s.nv.keep, worn := s.nv.worn, flash := s.nv.flash, size := s.nv.size, logNext := s.nv.logNext,
                      logFlushed := s.nv.logFlushed, logSeg := s.nv.logSeg, annealHours := s.nv.annealHours },
    intake := z.intake.map (fun i => i),
    pwr := { z.pwr with vin := s.pwr.vin, swOpen := s.pwr.swOpen, ovp := s.pwr.ovp, under := s.pwr.under,
                        charged := s.pwr.charged, ready := s.pwr.ready, missing := s.pwr.missing,
                        railsHeld := s.pwr.railsHeld, lastRamp := s.pwr.lastRamp },
    sec := { z.sec with fuseOpen := s.sec.fuseOpen, fuseSealed := s.sec.fuseSealed, fuseReturn := s.sec.fuseReturn,
                        fwHash := s.sec.fwHash, vendorHash := s.sec.vendorHash, drawn := s.sec.drawn, rngOk := s.sec.rngOk,
                        zeroise := s.sec.zeroise },
    therm := { z.therm with offset := s.therm.offset, tripped := cause == 3 },
    host := { z.host with perstN := s.host.perstN },
    shut := { z.shut with closedPin := s.shut.closedPin, openPin := s.shut.openPin },
    enc0 := { z.enc0 with a := s.enc0.a, b := s.enc0.b }, enc1 := { z.enc1 with a := s.enc1.a, b := s.enc1.b },
    hk := { z.hk with sliceCal := s.hk.sliceCal },
    serial := { z.serial with slvHigh := s.serial.slvHigh, slvSince := s.serial.slvSince, octal := s.serial.octal,
                              contOk := s.serial.contOk, suspend := s.serial.suspend, lanes := s.serial.lanes,
                              page := s.serial.page } }
  let z := if cause = 0 then z
    else { z with intake := ⟨{ z.intake.p0 with nextNum := s.intake.p0.nextNum }, { z.intake.p1 with nextNum := s.intake.p1.nextNum },
                             { z.intake.p2 with nextNum := s.intake.p2.nextNum }, { z.intake.p3 with nextNum := s.intake.p3.nextNum }⟩,
                  stat := s.stat.map (fun b => { b with snaps := [], latch := none }),
                  mem := { z.mem with dram := s.mem.dram } }
  if State.losesDram cause then z.dramLost else z

end Sys2Proof.Machine
end

