-- ==== Sys2Proof/Machine/CmdOps.lean ====
section
/-!
DEFINITION. The frame of a command that is an object: level, state and occupation, range, effect, in the order of 11
Table 11-5; and what chapters share when a row of the table takes place.
-/
namespace Sys2Proof.Machine

/-- 11 R388, Table 11-5 for a CMD object: ACCESS, then the state and occupation checks `pre` (0 when they pass), then RANGE
unless the argument is admitted, then the effect. -/
def State.cmd (s : State) (via : Via) (key lvl : Nat) (ok : Bool) (pre : State → Nat) (eff : State → Res) : Res :=
  s.command via key lvl (fun s =>
    if pre s ≠ 0 then .error (pre s) else if !ok then .error Abort.range else eff s)

/-- A write of a whole STR or DOM value (11 Table 11-5): ACCESS, TYPE for a length not permitted, the state and occupation
checks, RANGE, then the effect. -/
def State.cmdDom (s : State) (via : Via) (key lvl : Nat) (lenOk : Bool) (pre : State → Nat) (ok : Bool) (eff : State → Res) : Res :=
  s.command via key lvl (fun s =>
    if !lenOk then .error Abort.type else if pre s ≠ 0 then .error (pre s) else if !ok then .error Abort.range else eff s)

/-- A command whose argument may be any value of its type of `n` bytes. -/
def anyOf (n v : Nat) : Bool := decide (v < 256 ^ n)

/-- No check of state or occupation. -/
def noPre (_ : State) : Nat := 0

/-- A state check. -/
def stateIf (bad : Bool) : Nat := if bad then Abort.state else 0

/-- An effect that cannot fail. -/
def done (f : State → State) (s : State) : Res := .ok (f s)

/-- 13 R444, Table 13-2: the two-slot counters as the keep array holds them. -/
def State.keptCounters (s : State) : State :=
  let c := fun k => ((s.twoSlot (Keep.counter k) : Nat) : Int)
  s.setOs ([(Obj.DEV_POWER_CYCLES, c 0), (Obj.DEV_ON_HOURS, c 1), (Obj.THERM_QUENCH_COUNT, c 2)] ++
    allPos.map (fun p => (Obj.ECL_SHUT_CYCLES p.val, c (3 + p.val))) ++ allPos.map (fun p => (Obj.ECL_COUNT p.val, c (7 + p.val))))

/-- A write to an object of a chapter that has its writes logged (18, Objects). -/
def State.logWrite (s : State) (via : Via) (key : Nat) : State :=
  s.logRaw (Config.eventCode Evt.objectWrite.num) 0xFF (viaSource via) 0 (fieldsLE [(4, key)])

/-- An effect that writes `n` bytes of the keep array: refused with NV while storage is closed, or when the array fails the write
(11 R389, 13 R441, R467). -/
def kept (via : Via) (key a n : Nat) (f : State → State) (s : State) : Res :=
  if s.nv.closed || s.wornAt a n then .error Abort.nv else .ok ((f s).logWrite via key)

end Sys2Proof.Machine
end

