-- ==== Sys2Proof/Machine/ChainOps.lean ====
section
/-!
DEFINITION. What every telegram addressed to the steward shares (10 R350, R356 to R359, R362, R369, R370): whether it is
for this module, its place, its session, requests repeated, and the reply.
-/
namespace Sys2Proof.Machine

/-- The DST values a type permits (10 Table 10-2). -/
inductive DstKind where
  | unicast    -- a station 1 to 126, or a position
  | anyDst     -- any
  | stationOrGroup
  | broadcast
  | master     -- 0, the chain master
deriving DecidableEq, Repr

/-- A DST that a type permits (10 R358, Table 10-3). -/
def DstKind.permits (k : DstKind) (posaddr : Bool) (dst : Nat) : Bool :=
  let station := !posaddr && decide (1 ≤ dst ∧ dst ≤ 0x7E)
  let group := !posaddr && decide (0x80 ≤ dst ∧ dst ≤ 0x87)
  match k with
  | .unicast => station || (posaddr && decide (1 ≤ dst ∧ dst ≤ 254))
  | .anyDst => if posaddr then decide (1 ≤ dst ∧ dst ≤ 254) else true
  | .stationOrGroup => station || group
  | .broadcast => !posaddr && dst == 0xFF
  | .master => !posaddr && dst == 0

/-- 10 Table 10-3, R358, R360: DST addresses this module; a module without a station takes no group telegram (log 27). -/
def State.addressed (s : State) (posaddr : Bool) (dst hop : Nat) : Bool :=
  let st := s.o Obj.CHAIN_STATION
  if posaddr then dst == hop + 1
  else if dst = 0 then false
  else if dst ≤ 0x7F then dst == st
  else if dst ≤ 0x87 then st != 127 && bitAt (s.o Obj.CHAIN_GROUPS) (dst - 0x80)
  else dst == 0xFF

/-- The telegram addresses one module (10 R369: unicast). -/
def reqUni (r : Req) : Bool := DstKind.unicast.permits r.posaddr r.dst

/-- 10 R370: a telegram leaves the steward queue of its port. -/
def State.takeTelegram (s : State) (b : Bool) : State := s.setPort b { s.port b with rx := (s.port b).rx - 1 }

/-- 10 R359: the position seen by the last processed telegram of the master on the upstream port. -/
def State.place (s : State) (r : Req) : State :=
  if r.portB = s.chain.upstreamB then s.setO Obj.CHAIN_POSITION ((r.hop % 256 + 1 : Nat) : Int) else s

/-- A telegram is processed: at its arrival time, by steward firmware, when it comes from the master, is long enough and
addresses this module (10 R350, R356 to R358); its session counts it as activity (R362).  One with HOP 255 is not (R353). -/
def State.onTelegram (s : State) (r : Req) (k : DstKind) (min : Nat) (f : State → State) : State :=
  let s := if r.hop < 255 then (s.advance r.t).takeTelegram r.portB else s.advance r.t
  if 255 ≤ r.hop || !s.serving || r.src != 0 || r.payload.length < min || !k.permits r.posaddr r.dst || !s.addressed r.posaddr r.dst r.hop then s
  else f ((s.place r).touch (.chain r.session))

/-- What a request is answered with: an abort code, or a payload. -/
abbrev Reply := Except Nat (List Byte)

/-- 10 R357, Table 10-1: the reply to a request, unless none is wanted (WRITE and COMMIT only). -/
def State.answer (s : State) (r : Req) (type : Nat) (a : Reply) : State :=
  if r.noreply && (type == 0x02 || type == 0x04) then s
  else
    match a with
    | .ok b => s.reply r type b
    | .error c => s.replyErr r type c

/-- 10 R369: a kept request that this one repeats. -/
def State.keptReply (s : State) (r : Req) (type : Nat) : Option Kept :=
  s.chain.kept.find? (fun k => k.src == r.src && k.seq == r.seq && k.type == type && k.session == r.session &&
    k.payload == r.payload && decide (s.time.mono < k.at_ + 1000000000))

/-- A processed unicast request is kept with its reply; the last 16 are kept (10 R369). -/
def State.keepReply (s : State) (r : Req) (type : Nat) (a : Reply) : State :=
  if !(reqUni r) then s
  else
    let b : Bool × List Byte := match a with
      | .ok b => (false, b)
      | .error c => (true, beBytes 4 c)
    let k : Kept := { src := r.src, seq := r.seq, type := type, session := r.session, payload := r.payload, error := b.1,
                      reply := b.2, at_ := s.time.mono }
    { s with chain := { s.chain with kept := (k :: s.chain.kept).take 16 } }

/-- A request of a kind that is kept: repeated, it is answered with its kept reply and counted; else it is executed,
kept and answered (10 R369). -/
def State.once (s : State) (r : Req) (type : Nat) (f : State → State × Reply) : State :=
  match if reqUni r then s.keptReply r type else none with
  | some k =>
    (s.inc Obj.CHAIN_CNT_DUP_REQ).answer r type (if k.error then .error (beNat k.reply) else .ok k.reply)
  | none =>
    let x := f s
    (x.1.keepReply r type x.2).answer r type x.2

/-- A checked operation as a reply: its payload when it is done. -/
def replyOf (s : State) (x : Res) (ok : State → List Byte) : State × Reply :=
  match x with
  | .ok s' => (s', .ok (ok s'))
  | .error c => (s, .error c)

/-- 10 Table 10-2: the level a telegram executes at. -/
def State.reqLevel (s : State) (r : Req) : Nat := s.level (.chain r.session)

end Sys2Proof.Machine
end

