-- ==== Sys2Proof/Machine/Boot.lean ====
section
/-!
DEFINITION. Power-on, boot and resets (02 R41 to R48, 12 R413, R414, 13 R468, R469, 18 R560 to R563, 19 R589).
-/
namespace Sys2Proof.Machine

/-- VIN_RISE (02 R41, 17 R544): VIN crosses 34 V and the module starts; `held` when the always-on rails stayed in
regulation over the loss, so that the reset is a brown-out recovered. -/
def execVinRise (held : Bool) (t : Nat) (s : State) : Ans :=
  let s := s.advance t
  if s.boot.phase ≠ .off then .next s
  else
    let s := s.resetLogic (if held then 4 else 0)
    .next { s with
      boot := { s.boot with vinAt := s.time.mono },
      pwr := { s.pwr with vin := 34000, swOpen := false, ovp := false, under := false, armed := false, charged := false, ready := false,
                          missing := false, railsHeld := held } }

/-- RESET_N_ASSERT (02 R42, R48): while RESET_N is low everything but the input stage is held in reset. -/
def execResetNAssert (t : Nat) (s : State) : Ans :=
  let s := s.advance t
  let s := if s.boot.phase = .off ∨ s.boot.phase = .reset then s else s.resetLogic 1
  .next { s with boot := { s.boot with resetN := false } }

/-- RESET_N_RISE (02 R42): one of the two instants that decide tR. -/
def execResetNRise (t : Nat) (s : State) : Ans :=
  let s := s.advance t
  .next { s with boot := { s.boot with resetN := true } }

/-- Eight bytes of a kept object (log 15). -/
def State.keptAt (s : State) (k : Nat) : Nat := leNat (s.keep (0x17000 + 8 * k) 8)

/-- 14 R477: the bring-up of a select: SP1_DEV_MODE (0 absent, 4 8D-8D-8D, else the widest other mode it advertises) and the 16 bytes of
SP1_DEV_INFO, with the page size of its tables; the JEDEC ID and the dummy cycles are what the device gives (log 9). -/
def State.deviceUp (s : State) (k : Pos) : State :=
  let size := s.nv.size.get k
  if size = 0 then s
  else
    let b := Config.deviceByte s.free
    let flags := b2n (s.serial.suspend.get k) + 2 * b2n (s.serial.contOk.get k) + 4 * b2n s.nv.marginReads
    ((({ s with free := s.free + 1 } : State).setO (Obj.SP1_DEV_MODE k.val) (if s.serial.octal.get k then 4 else s.serial.lanes.get k : Nat)).setDom
      (Obj.SP1_DEV_INFO k.val) ([b 0, b 1, b 2, byteOf size.log2] ++ beBytes 2 (s.serial.page.get k) ++ [b 3, byteOf flags] ++ List.replicate 8 0#8))

/-- 02 Table 02-1, 10 R349, 14 R485, 16 R515: what stands from the release of internal reset on: the time of it, the boot
counter (R44), the boot nonce (18 R572), station, block protection (13 R442), chain interface, the subsystem ID (12 Table 12-4), the SP1 role, the thermal model and the next TIMER instant of
every generator (08 R301).  SP1 and its devices are switched on for the ROM's bring-up and boot reads (02 Table 02-3). -/
def State.released (s : State) : State :=
  let s : State := { s with
    boot := { s.boot with phase := .rom, tR := s.time.mono, sysclk := true, tried := 0 },
    time := { s.time with bootMono := s.time.mono },
    therm := { s.therm with active := true },
    host := { s.host with subsys := s.keptAt 3 },
    chain := { s.chain with etherInForce := s.keptAt 0, ifInForce := [s.keptAt 1, s.keptAt 2] },
    serial := { s.serial with role := s.keptAt 4 } }
  let s := s.setOs [(Obj.CHAIN_STATION, ((((s.keep Keep.station 1).headD 0#8).toNat : Nat) : Int)),
    (Obj.NV_KEEP_BP, ((((s.keep Keep.bp 1).headD 0#8).toNat % 4 : Nat) : Int)), (Obj.BOOT_STATUS, ((s.boot.cause % 16 : Nat) : Int))]
  allPos.foldl State.rearmTimer (allPos.foldl State.deviceUp (((s.bumpCounter 0 Obj.DEV_POWER_CYCLES).renewNonce.demand 62).demand 79))

/-- INTERNAL_RESET_RELEASE (02 R42): at tR the boot ROM starts. -/
def execInternalResetRelease (t : Nat) (s : State) : Ans :=
  let s := s.advance t
  if s.boot.phase = .reset ∧ s.boot.resetN = true ∧ s.boot.trip = false ∧ s.boot.vinAt + 2000000 ≤ s.time.mono then .next s.released
  else .next s

/-- The slot the ROM tries next: the one marked active, then the other (02 R46). -/
def State.slotToTry (s : State) : Nat :=
  if s.boot.tried = 0 then s.activeSlot else 1 - s.activeSlot

/-- In boot recovery the ROM serves SP1, whose domain stays on, and debug has the grade of R575 (14 R485, 18 R575). -/
def State.slotsFailed (s : State) : State := if s.boot.phase = .recovery then s.flashRelax.debugDomain else s

/-- FIRMWARE_IMAGE_CHECK (18 R561, 02 R46): the image of a slot is accepted, or the ROM moves on; with neither slot
accepted it holds in boot recovery. -/
def execFirmwareImageCheck (t : Nat) (s : State) : Ans :=
  let s := s.advance t
  if s.boot.phase ≠ .rom then .next s
  else
    let k := s.slotToTry
    if s.slotOkay k then
      .next { s with boot := { s.boot with phase := .verified, slot := k, svn := s.imageSvn k, version := s.imageVersion k } }
    else
      .next (({ s with boot := { s.boot with tried := s.boot.tried + 1, phase := if s.boot.tried = 0 then .rom else .recovery } } :
        State).slotsFailed)

/-- 11 R389, 12, 14: objects kept in the keep array take their kept values. -/
def State.loadKept (s : State) : State :=
  let s := (List.range 6).foldl (fun s k => s.setO (Keep.objects.getD k 0) ((s.keptAt k : Nat) : Int)) s
  s.setOs [(Obj.CHAIN_STATION, ((((s.keep Keep.station 1).headD 0#8).toNat : Nat) : Int)),
    (Obj.NV_KEEP_BP, ((((s.keep Keep.bp 1).headD 0#8).toNat % 4 : Nat) : Int))]

/-- 10 R374, R377: role and epoch held over a reset stand without a running lease: EXPIRED for a role. -/
def State.loadLease (s : State) : State :=
  let v := s.twoSlot Keep.lease
  s.setOs [(Obj.LEASE_ROLE, ((v / 2 ^ 32 % 256 : Nat) : Int)), (Obj.LEASE_EPOCH, ((v % 2 ^ 32 : Nat) : Int)),
    (Obj.LEASE_STATE, if v / 2 ^ 32 % 256 = 0 then 0 else 2)]

/-- 02 Table 02-2: BOOT_STATUS at firmware start. -/
def State.bootWord (s : State) : Nat :=
  s.boot.cause % 16 + s.boot.slot * 256 + (if s.boot.tried = 0 then 0 else 512)

/-- 18 R562: an anti-rollback counter that could not be read is rewritten with the value the boot was judged by. -/
def State.repairArb (s : State) : State :=
  if s.arbReadable || s.lifecycle == 0 || s.lifecycle == 3 then s.setO Obj.SEC_ARB ((s.arbValue : Nat) : Int)
  else
    let v := s.arbValue
    let s := (s.setTwoSlot Keep.arb v).setO Obj.SEC_ARB ((v : Nat) : Int)
    { s with sec := { s.sec with arbRepaired := true } }

/-- The two-slot records, by address (13 Table 13-1): the counters, the anti-rollback counter, the lease record. -/
def Keep.records : List Nat := (List.range 11).map Keep.counter ++ [Keep.arb, Keep.lease]

/-- 13 R445: a two-slot record without a valid slot reads 0, is counted and logged. -/
def State.checkCounters (s : State) : State :=
  let bad := Keep.records.filter (fun a => (twoSlotPick (s.keep a 32)).isNone)
  bad.foldl State.slotsBad { s with nv := { s.nv with keepOk := true } }

/-- A failed training, or a failed exit from self-refresh, counts (12 R414). -/
def State.trainFails (s : State) (n : Nat) : State := s.incBy Obj.MEM_CNT_TRAIN_FAIL n

/-- 12 R414: training at start-up, with one retry. -/
def State.bootTraining (s : State) (first second : Bool) : State :=
  let ok := first || second
  let s := s.trainFails (if first then 0 else if second then 1 else 2)
  let s : State := { s with
    mem := { s.mem with trained := ok, selfRefresh := ok } }
  s.setO Obj.BOOT_STATUS ((withBit (s.o Obj.BOOT_STATUS) 12 ok : Nat) : Int)

/-- 12 R414: a self-refresh exit that failed its check loses the contents and retrains; a retraining that fails ends the
transition in SAFE with DRAM. -/
def State.retraining (s : State) (first : Bool) : State :=
  let s := (s.trainFails (if first then 1 else 2)).dramLost
  let s : State := { s with mem := { s.mem with trained := first, retrained := true } }
  if first then s else s.failTransition 0x21

/-- The running transition takes frame memory out of self-refresh. -/
def State.leavingRefresh (s : State) : Bool :=
  match s.modes.running with
  | some r => r.frm == 0 && (r.target == 1 || r.target == 4)
  | none => false

/-- DRAM_TRAINING_COMPLETE (12 R413, R414): the training of start-up ends, `first` and `second` saying whether each try
passed; or, while a transition takes the devices out of self-refresh, the retraining after a failed exit ends. -/
def execDramTrainingComplete (first second : Bool) (t : Nat) (s : State) : Ans :=
  let s := s.advance t
  if s.boot.phase = .firmware then .next (s.bootTraining first second)
  else if s.leavingRefresh then .next (s.retraining first)
  else .next s

/-- STORE_RECOVERY_SCAN (13 R469): the store is scanned; what is to be repaired is listed. -/
def execStoreRecoveryScan (t : Nat) (s : State) : Ans :=
  let s := s.advance t
  if s.boot.phase ≠ .firmware then .next s
  else
    let s := s.storeScan
    .next (s.setO Obj.BOOT_STATUS ((withBit (s.o Obj.BOOT_STATUS) 13 (!s.nv.repairs.isEmpty) : Nat) : Int))

/-- A reset of a running module: from the release of internal reset on. -/
def State.resetFrom (s : State) (cause : Nat) : State :=
  if s.boot.phase = .off ∨ s.boot.phase = .reset then s else s.resetLogic cause

/-- WATCHDOG_RESET (02 R48): suspended while the steward is halted (18 R571). -/
def execWatchdogReset (t : Nat) (s : State) : Ans :=
  let s := s.advance t
  if s.dbg.halted then .next s else .next (s.resetFrom 2)

/-- 02 R48: the software reset. -/
def State.cmdSoftReset (via : Via) (v : Nat) (s : State) : Res :=
  s.cmd via Obj.SOFT_RESET 2 (anyOf 1 v) noPre (done (fun s => s.resetFrom 5))

/-- SOFT_RESET (02 R48). -/
def execSoftReset (via : Via) (v : Nat) (t : Nat) (s : State) : Ans :=
  .next (s.runCommand via Obj.SOFT_RESET t (State.cmdSoftReset via v))

/-- SYSCLK_LOSS (19 R589): the clock monitor resets the module with cause watchdog. -/
def execSysclkLoss (t : Nat) (s : State) : Ans :=
  let s := (s.advance t).resetFrom 2
  .next { s with boot := { s.boot with sysclk := false } }

end Sys2Proof.Machine
end

