-- ==== Sys2Proof/Machine/Correct.lean ====
section
/-!
DEFINITION. Coefficient sets: opening, closing, loading and saving them, and the reset of the tail history (04 R152 to R162,
R169 to R172, 05 R178).
-/
namespace Sys2Proof.Machine

/-- 04 R152. -/
def State.cmdCoefOpen (via : Via) (p : Pos) (v : Nat) (s : State) : Res :=
  s.cmd via (Obj.CORR_COEF_OPEN p.val) 2 (anyOf 1 v) noPre (fun s => s.coefOpen p)

/-- CORR_COEF_OPEN (04 R152). -/
def execCorrCoefOpen (via : Via) (p : Pos) (t : Nat) (s : State) : Ans :=
  .next (s.runCommand via (Obj.CORR_COEF_OPEN p.val) t (State.cmdCoefOpen via p 0))

/-- 04 R154. -/
def State.cmdCoefClose (via : Via) (p : Pos) (v : Nat) (s : State) : Res :=
  s.cmd via (Obj.CORR_COEF_CLOSE p.val) 2 (anyOf 1 v) noPre (fun s => s.coefClose p)

/-- CORR_COEF_CLOSE (04 R154): the plane check of an OPEN set starts. -/
def execCorrCoefClose (via : Via) (p : Pos) (t : Nat) (s : State) : Ans :=
  .next (s.runCommand via (Obj.CORR_COEF_CLOSE p.val) t (State.cmdCoefClose via p 0))

/-- COEF_CHECK_COMPLETE (04 R154, R155): the check of a set that the host closed ends, source 2. -/
def execCoefCheckComplete (p : Pos) (t : Nat) (s : State) : Ans :=
  let s := s.advance t
  if s.coefState p = 3 then .next ((s.closeCheck p 2).prepAll) else .next s

/-! ### Loading (04 R160, R161) -/

/-- The states in which a set may be opened (04 R152). -/
def State.coefBusy (s : State) (p : Pos) : Bool :=
  s.o (Obj.ECL_PHASE p.val) != 0 || s.saving p || s.coefState p == 1 || s.coefState p == 2 || s.coefState p == 3

/-- 02 Table 02-9, R68, 04 R152: the checks of a load. -/
def State.loadPre (p : Pos) (s : State) : Nat :=
  if ¬ (s.mode = 1 ∨ s.mode = 4) then Abort.state
  else if s.opRunning 0 || s.coefBusy p then Abort.busy else 0

/-- 04 R160: CORR_LOAD_GO. -/
def State.cmdLoadGo (via : Via) (p : Pos) (v : Nat) (s : State) : Res :=
  s.cmd via (Obj.CORR_LOAD_GO p.val) 2 (anyOf 1 v && s.o (Obj.CORR_LOAD_KEY p.val) != 0) (State.loadPre p)
    (done (fun s => (s.startLoad p (s.o (Obj.CORR_LOAD_KEY p.val))).prepUpdate p))

/-- CORR_LOAD_GO (04 R160). -/
def execCorrLoadGo (via : Via) (p : Pos) (v : Nat) (t : Nat) (s : State) : Ans :=
  .next (s.runCommand via (Obj.CORR_LOAD_GO p.val) t (State.cmdLoadGo via p v))

/-- A load ends without a set: in PREPARE the module goes to SAFE with COEF_LOAD (02 R56, 04 R157, R161). -/
def State.loadEndsBadly (s : State) (p : Pos) (result : Nat) : State :=
  let s := s.loadFailed p 3 result
  if s.mode = Mode.prepare then s.toSafe 0 s.time.now 0 3 0x23 else s.loadNext

/-- A load has written its sections and closes its set (04 R160, step 4): source 1, or 3 for a KT2410 set (R169). -/
def State.loadCloses (s : State) (p : Pos) (her : Bool) : State :=
  let s := (s.closeCheck p (if her then 3 else 1)).prepUpdate p
  if s.coefState p = 0 then
    ((({ s with ops := { s.ops with load := none } } : State).opEnd 0 2 0).loadNext).prepAll
  else s.loadEndsBadly p Abort.param

/-- 04 R160, R161: the archive of a running load is checked, written and closed. -/
def State.endLoad (s : State) (p : Pos) (key : Nat) : State :=
  let her := s.orderOf p
  match s.loadRecord key with
  | none => s.loadEndsBadly p Abort.nv
  | some b =>
    let s := s.xipRecord key
    if s.archiveOk p her b then (s.writeArchive p her b).loadCloses p her else s.loadEndsBadly p Abort.param

/-- COEF_LOAD_END (04 R160, R161): the running load, its set open, ends; its close waits while a DMA descriptor writes into the region
of the position (R154): DESIGN CHOICE (log 75). -/
def execCoefLoadEnd (t : Nat) (s : State) : Ans :=
  let s := s.advance t
  match s.ops.load with
  | some (n, key) => if s.opRunning 0 ∧ s.coefState (posOf n) = 2 ∧ s.dmaIntoRegion (posOf n) = false then .next (s.endLoad (posOf n) key) else .next s
  | none => .next s

/-! ### Saving (04 R162) -/

/-- A save is refused in SAFE (02 Table 02-9), while one runs, while the set is not CLOSED and while the position
eclipses. -/
def State.savePre (p : Pos) (s : State) : Nat :=
  if s.mode = Mode.safe ∨ (s.ob Obj.SEC_ARCHIVE_ENC && s.archiveKey.isNone) = true then Abort.state
  else if s.opRunning 3 ∨ s.coefState p ≠ 0 ∨ s.o (Obj.ECL_PHASE p.val) ≠ 0 then Abort.busy else 0

/-- The archive of a position joins the record writes as the operation PARAM_SAVE, encrypted with SEC_ARCHIVE_ENC, which
needs the archive key (13 R455, 18 R569). -/
def State.saveArchive (s : State) (p : Pos) (key : Nat) : Res :=
  if !s.storeOpen then .error Abort.nv
  else
    let b := s.archiveBytes p
    let s := ({ s with ops := { s.ops with save := some (0, p.val, key) } } : State).opStart 3 b.length
    .ok (s.nvWrite (RecJob.make key (b2n (s.ob Obj.SEC_ARCHIVE_ENC)) b 0 0 0))

/-- 04 R162: CORR_SAVE_GO. -/
def State.cmdSaveGo (via : Via) (p : Pos) (v : Nat) (s : State) : Res :=
  s.cmd via (Obj.CORR_SAVE_GO p.val) 2 (anyOf 1 v && s.o (Obj.CORR_SAVE_KEY p.val) != 0) (State.savePre p)
    (fun s => s.saveArchive p (s.o (Obj.CORR_SAVE_KEY p.val)))

/-- CORR_SAVE_GO (04 R162). -/
def execCorrSaveGo (via : Via) (p : Pos) (v : Nat) (t : Nat) (s : State) : Ans :=
  .next (s.runCommand via (Obj.CORR_SAVE_GO p.val) t (State.cmdSaveGo via p v))

/-! ### The tail history (05 R178) -/

/-- 05 R178: the row stamps of a position are set EMPTY at its next hand-over. -/
def State.cmdTailHistReset (via : Via) (p : Pos) (v : Nat) (s : State) : Res :=
  s.cmd via (Obj.TAIL_HIST_RESET p.val) 1 (anyOf 1 v) noPre
    (done (fun s => s.setCoef p { s.coef.get p with histReset := true }))

/-- TAIL_HIST_RESET (05 R178). -/
def execTailHistReset (via : Via) (p : Pos) (v : Nat) (t : Nat) (s : State) : Ans :=
  .next (s.runCommand via (Obj.TAIL_HIST_RESET p.val) t (State.cmdTailHistReset via p v))

end Sys2Proof.Machine
end

