-- ==== Sys2Proof/Machine/Counters.lean ====
section
/-!
DEFINITION. The counter-clear commands (03 R124, 04 R172, 05 R205, 06 R252, 07 R283, 08, 09 R347, 10 R383, 12, 13, 14 R497,
15, 16 R534, 17): each clears the counters its table names.
-/
namespace Sys2Proof.Machine

/-- The counters of the index ranges read zero. -/
def State.clearCounters (s : State) (l : List (Nat × Nat)) : State := l.foldl (fun s r => s.clearIdx r.1 r.2) s

/-- The held time of a port counts anew from now: of a hold in progress, what has passed is taken off (09 R323, R347). -/
def State.restartHold (s : State) (b : Bool) : State :=
  let o := s.outPort b
  if o.pausedUntil.isSome then s.setO (Obj.OUT_PAUSED_TIME (b2n b)) (-((s.time.mono - o.pauseStart : Nat) : Int)) else s

/-- A counter-clear command: L1, any value. -/
def State.cmdClear (key : Nat) (l : List (Nat × Nat)) (via : Via) (v : Nat) (s : State) : Res :=
  s.cmd via key 1 (anyOf 1 v) noPre (done (fun s =>
    if key = Obj.OUT_CNT_CLEAR then ((s.clearCounters l).restartHold false).restartHold true else s.clearCounters l))

/-- INT_CNT_CLEAR (03 R124). -/
def execIntCntClear (via : Via) (v t : Nat) (s : State) : Ans :=
  .next (s.runCommand via Obj.INT_CNT_CLEAR t (State.cmdClear Obj.INT_CNT_CLEAR cntInt via v))

/-- CORR_CNT_CLEAR (04 R172). -/
def execCorrCntClear (via : Via) (v t : Nat) (s : State) : Ans :=
  .next (s.runCommand via Obj.CORR_CNT_CLEAR t (State.cmdClear Obj.CORR_CNT_CLEAR [(0x2120, 0x2127)] via v))

/-- TAIL_CNT_CLEAR (05 R205). -/
def execTailCntClear (via : Via) (v t : Nat) (s : State) : Ans :=
  .next (s.runCommand via Obj.TAIL_CNT_CLEAR t (State.cmdClear Obj.TAIL_CNT_CLEAR [(0x2220, 0x2222)] via v))

/-- MERGE_CNT_CLEAR (05 R205). -/
def execMergeCntClear (via : Via) (v t : Nat) (s : State) : Ans :=
  .next (s.runCommand via Obj.MERGE_CNT_CLEAR t (State.cmdClear Obj.MERGE_CNT_CLEAR [(0x2320, 0x2323)] via v))

/-- RAD_CNT_CLEAR (05 R205). -/
def execRadCntClear (via : Via) (v t : Nat) (s : State) : Ans :=
  .next (s.runCommand via Obj.RAD_CNT_CLEAR t (State.cmdClear Obj.RAD_CNT_CLEAR [(0x2435, 0x2435)] via v))

/-- ECL_CNT_CLEAR (06 R252). -/
def execEclCntClear (via : Via) (v t : Nat) (s : State) : Ans :=
  .next (s.runCommand via Obj.ECL_CNT_CLEAR t (State.cmdClear Obj.ECL_CNT_CLEAR [(0x2920, 0x2927)] via v))

/-- INTG_CNT_CLEAR (07 R283). -/
def execIntgCntClear (via : Via) (v t : Nat) (s : State) : Ans :=
  .next (s.runCommand via Obj.INTG_CNT_CLEAR t (State.cmdClear Obj.INTG_CNT_CLEAR [(0x2720, 0x2723)] via v))

/-- TIME_CNT_CLEAR (08 Table 08-4). -/
def execTimeCntClear (via : Via) (v t : Nat) (s : State) : Ans :=
  .next (s.runCommand via Obj.TIME_CNT_CLEAR t (State.cmdClear Obj.TIME_CNT_CLEAR [(0x1320, 0x1321)] via v))

/-- TRIG_CNT_CLEAR (08 Table 08-5). -/
def execTrigCntClear (via : Via) (v t : Nat) (s : State) : Ans :=
  .next (s.runCommand via Obj.TRIG_CNT_CLEAR t (State.cmdClear Obj.TRIG_CNT_CLEAR [(0x2A20, 0x2A2D)] via v))

/-- OUT_CNT_CLEAR (09 R347). -/
def execOutCntClear (via : Via) (v t : Nat) (s : State) : Ans :=
  .next (s.runCommand via Obj.OUT_CNT_CLEAR t (State.cmdClear Obj.OUT_CNT_CLEAR [(0x2840, 0x2851)] via v))

/-- CHAIN_CNT_CLEAR (10 R383). -/
def execChainCntClear (via : Via) (v t : Nat) (s : State) : Ans :=
  .next (s.runCommand via Obj.CHAIN_CNT_CLEAR t (State.cmdClear Obj.CHAIN_CNT_CLEAR [(0x1220, 0x122E)] via v))

/-- MEM_CNT_CLEAR (12 Table 12-11). -/
def execMemCntClear (via : Via) (v t : Nat) (s : State) : Ans :=
  .next (s.runCommand via Obj.MEM_CNT_CLEAR t (State.cmdClear Obj.MEM_CNT_CLEAR [(0x3010, 0x3011)] via v))

/-- HP_CNT_CLEAR (12 Table 12-11). -/
def execHpCntClear (via : Via) (v t : Nat) (s : State) : Ans :=
  .next (s.runCommand via Obj.HP_CNT_CLEAR t (State.cmdClear Obj.HP_CNT_CLEAR [(0x3104, 0x3105), (0x3115, 0x3116)] via v))

/-- NV_CNT_CLEAR (13 Table 13-9). -/
def execNvCntClear (via : Via) (v t : Nat) (s : State) : Ans :=
  .next (s.runCommand via Obj.NV_CNT_CLEAR t (State.cmdClear Obj.NV_CNT_CLEAR [(0x3210, 0x3218)] via v))

/-- SP_CNT_CLEAR (14 R497). -/
def execSpCntClear (via : Via) (v t : Nat) (s : State) : Ans :=
  .next (s.runCommand via Obj.SP_CNT_CLEAR t (State.cmdClear Obj.SP_CNT_CLEAR [(0x3310, 0x3316)] via v))

/-- HK_CNT_CLEAR (15 Table 15-3). -/
def execHkCntClear (via : Via) (v t : Nat) (s : State) : Ans :=
  .next (s.runCommand via Obj.HK_CNT_CLEAR t (State.cmdClear Obj.HK_CNT_CLEAR [(0x3420, 0x3422)] via v))

/-- THERM_CNT_CLEAR (16 R534). -/
def execThermCntClear (via : Via) (v t : Nat) (s : State) : Ans :=
  .next (s.runCommand via Obj.THERM_CNT_CLEAR t (State.cmdClear Obj.THERM_CNT_CLEAR [(0x3520, 0x3522)] via v))

/-- PWR_CNT_CLEAR (17 Table 17-5). -/
def execPwrCntClear (via : Via) (v t : Nat) (s : State) : Ans :=
  .next (s.runCommand via Obj.PWR_CNT_CLEAR t (State.cmdClear Obj.PWR_CNT_CLEAR [(0x3620, 0x3623)] via v))

/-- The clear commands and the index ranges of their counters. -/
def clearTable : List (Nat × List (Nat × Nat)) :=
  [(Obj.INT_CNT_CLEAR, cntInt),
   (Obj.CORR_CNT_CLEAR, [(0x2120, 0x2127)]),
   (Obj.TAIL_CNT_CLEAR, [(0x2220, 0x2222)]),
   (Obj.MERGE_CNT_CLEAR, [(0x2320, 0x2323)]),
   (Obj.RAD_CNT_CLEAR, [(0x2435, 0x2435)]),
   (Obj.ECL_CNT_CLEAR, [(0x2920, 0x2927)]),
   (Obj.INTG_CNT_CLEAR, [(0x2720, 0x2723)]),
   (Obj.TIME_CNT_CLEAR, [(0x1320, 0x1321)]),
   (Obj.TRIG_CNT_CLEAR, [(0x2A20, 0x2A2D)]),
   (Obj.OUT_CNT_CLEAR, [(0x2840, 0x2851)]),
   (Obj.CHAIN_CNT_CLEAR, [(0x1220, 0x122E)]),
   (Obj.MEM_CNT_CLEAR, [(0x3010, 0x3011)]),
   (Obj.HP_CNT_CLEAR, [(0x3104, 0x3105), (0x3115, 0x3116)]),
   (Obj.NV_CNT_CLEAR, [(0x3210, 0x3218)]),
   (Obj.SP_CNT_CLEAR, [(0x3310, 0x3316)]),
   (Obj.HK_CNT_CLEAR, [(0x3420, 0x3422)]),
   (Obj.THERM_CNT_CLEAR, [(0x3520, 0x3522)]),
   (Obj.PWR_CNT_CLEAR, [(0x3620, 0x3623)])]

end Sys2Proof.Machine
end

