-- ==== Sys2Proof/Machine/Eclipse.lean ====
section
/-!
DEFINITION. Eclipses: requests, grants, shutter pulses and sensors, the phases' events, scheduling and chain windows
(06 R206 to R225, R242 to R252, R602; 10 R373; 16 R527).
-/
namespace Sys2Proof.Machine

/-! ### Commands of the host -/

/-- What a checked operation refuses with; 0 when it does not. -/
def preOf (f : State → Res) (s : State) : Nat :=
  match f s with
  | .ok _ => 0
  | .error c => c

/-- 06 R246, R242: ECL_REQUEST, 1 full, 2 partial. -/
def State.cmdEclRequest (via : Via) (p : Pos) (v : Nat) (s : State) : Res :=
  s.cmd via (Obj.ECL_REQUEST p.val) 1 (v == 1 || v == 2) (preOf (fun s => s.eclRequest p v)) (fun s => s.eclRequest p v)

/-- ECL_REQUEST_FULL (06 R246). -/
def execEclRequestFull (via : Via) (p : Pos) (t : Nat) (s : State) : Ans :=
  .next (s.runCommand via (Obj.ECL_REQUEST p.val) t (State.cmdEclRequest via p 1))

/-- ECL_REQUEST_PARTIAL (06 R242, R246). -/
def execEclRequestPartial (via : Via) (p : Pos) (t : Nat) (s : State) : Ans :=
  .next (s.runCommand via (Obj.ECL_REQUEST p.val) t (State.cmdEclRequest via p 2))

/-- 06 R223: ECL_ABORT ends an eclipse early in phases 1 to 4. -/
def State.cmdEclAbort (via : Via) (p : Pos) (v : Nat) (s : State) : Res :=
  s.cmd via (Obj.ECL_ABORT p.val) 1 (anyOf 1 v) (fun s => stateIf (s.phase p == 0 || decide (5 ≤ s.phase p)))
    (done (fun s => (s.eclEarly p 6).afterEcl))

/-- ECL_ABORT (06 R223, Table 06-2). -/
def execEclAbort (via : Via) (p : Pos) (v : Nat) (t : Nat) (s : State) : Ans :=
  .next (s.runCommand via (Obj.ECL_ABORT p.val) t (State.cmdEclAbort via p v))

/-- 06 R211: the flags are cleared; an imaging mode asks for an opening pulse, unless the open sensor is asserted already: then the held
ECLIPSED ends, in STANDBY and SAFE too, where the next entry asks for no pulse: DEDUCED (log 76). -/
def State.faultClear (s : State) (p : Pos) : State :=
  let s := s.setEcl p { s.ecl.get p with shutFault := false, overdue := false, overdueSent := false }
  if bitAt (s.o (Obj.ECL_SHUT_CFG p.val)) 1 && (s.shut.openPin.get p).isSome then
    s.setEcl p { s.ecl.get p with heldFlag := false }
  else if !s.imaging then s
  else s.askPulse p false 3

/-- 06 R211: ECL_FAULT_CLEAR. -/
def State.cmdEclFaultClear (via : Via) (p : Pos) (v : Nat) (s : State) : Res :=
  s.cmd via (Obj.ECL_FAULT_CLEAR p.val) 2 (anyOf 1 v) noPre (done (fun s => s.faultClear p))

/-- ECL_FAULT_CLEAR (06 R211). -/
def execEclFaultClear (via : Via) (p : Pos) (v : Nat) (t : Nat) (s : State) : Ans :=
  .next (s.runCommand via (Obj.ECL_FAULT_CLEAR p.val) t (State.cmdEclFaultClear via p v))

/-- 06 R212: ECL_SHUT_CMD, 1 close, 2 open: SERVICE only, not while the position eclipses. -/
def State.cmdEclShut (via : Via) (p : Pos) (v : Nat) (s : State) : Res :=
  s.cmd via (Obj.ECL_SHUT_CMD p.val) 2 (v == 1 || v == 2)
    (fun s => if s.mode ≠ Mode.service then Abort.state else if s.phase p ≠ 0 then Abort.busy else 0)
    (done (fun s => s.askPulse p (v == 1) 2))

/-- ECL_SHUT_CMD_CLOSE (06 R212). -/
def execEclShutCmdClose (via : Via) (p : Pos) (t : Nat) (s : State) : Ans :=
  .next (s.runCommand via (Obj.ECL_SHUT_CMD p.val) t (State.cmdEclShut via p 1))

/-- ECL_SHUT_CMD_OPEN (06 R211, R212). -/
def execEclShutCmdOpen (via : Via) (p : Pos) (t : Nat) (s : State) : Ans :=
  .next (s.runCommand via (Obj.ECL_SHUT_CMD p.val) t (State.cmdEclShut via p 2))

/-! ### Grants and pulses -/

/-- 06 R213, R247, 16 R527: a grant may be made: no position is past QUEUED or granted, the arbiter is free, no throttle or
quench stands. -/
def State.mayGrant (s : State) : Bool :=
  allPos.all (fun p => decide (s.phase p ≤ 1) && !(s.ecl.get p).granted) && s.arbiterFree && decide (s.o Obj.THERM_STATE < 2)

/-- ECLIPSE_GRANT (06 R247, R248): the first eligible position is granted; in ECLIPSE mode the parts that end at once do. -/
def execEclipseGrant (t : Nat) (s : State) : Ans :=
  let s := s.advance t
  if !s.serving || !s.imaging || !s.mayGrant then .next s
  else
    let s := if s.mode = Mode.eclipse then s.skipParts.afterEcl else s
    match s.nextGrant with
    | some (p, w) => .next (s.grant p w)
    | none => .next s

/-- SHUTTER_PULSE_START (06 R206, R209, R210, 17 R553, R554): the pulse that has waited longest starts. -/
def execShutterPulseStart (written : Bool) (t : Nat) (s : State) : Ans := .next (((s.advance t).arbiter written).afterEcl)

/-- The pulse of a position that runs. -/
def State.pulseOf (s : State) (p : Pos) : Option (Pulse × Nat) :=
  match s.shut.running with
  | some (x, t) => if x.pos = p then some (x, t) else none
  | none => none

/-- The sensor of the end a pulse moves to: since when it has been asserted. -/
def State.endPin (s : State) (x : Pulse) : Option Nat :=
  if x.closing then s.shut.closedPin.get x.pos else s.shut.openPin.get x.pos

/-- 06 R214: the closed or open sensor time of the eclipse whose pulse runs. -/
def State.sensorTime (s : State) (p : Pos) (closed : Bool) : State :=
  match s.pulseOf p with
  | some (x, _) =>
    let e := s.ecl.get p
    if !s.sensing x || x.closing != closed || !x.ofEclipse then s
    else if closed then s.setEcl p { e with closedAt := if e.closedAt.isSome then e.closedAt else some s.time.now }
    else s.setEcl p { e with openAt := if e.openAt.isSome then e.openAt else some s.time.now }
  | none => s

/-- END_SENSOR_ASSERTED (06 R207, R214): a sensor has been asserted for 1 ms. -/
def execEndSensorAsserted (p : Pos) (closed : Bool) (t : Nat) (s : State) : Ans :=
  let s := s.advance t
  let now := some s.time.now
  let s : State := { s with shut :=
    if closed then { s.shut with closedPin := s.shut.closedPin.set p now } else { s.shut with openPin := s.shut.openPin.set p now } }
  .next (s.sensorTime p closed)

/-- PULSE_HOLD_EXPIRY (06 R207): ECL_PULSE_HOLD after the end sensor the pulse ends. -/
def execPulseHoldExpiry (p : Pos) (t : Nat) (s : State) : Ans :=
  let s := s.advance t
  match s.pulseOf p with
  | some (x, _) =>
    match s.endPin x with
    | some a => if s.sensing x ∧ a + s.pulseHoldNs x ≤ s.time.now then .next ((s.pulseDone x).afterEcl) else .next s
    | none => .next s
  | none => .next s

/-- 06 R207, R208: a pulse at its longest: a shutter fault when its sensor has not asserted; one whose sensor has asserted
ends under its hold, at 200 ms at the latest. -/
def State.pulseLongest (s : State) (x : Pulse) (since : Nat) : State :=
  if !s.sensing x then s.pulseDone x
  else if (s.endPin x).isNone then s.pulseFault x
  else if since + 200000000 ≤ s.time.now then s.pulseDone x else s

/-- PULSE_MAX_EXPIRY (06 R207, R208). -/
def execPulseMaxExpiry (p : Pos) (t : Nat) (s : State) : Ans :=
  let s := s.advance t
  match s.pulseOf p with
  | some (x, since) => if since + s.pulseMaxNs x ≤ s.time.now then .next ((s.pulseLongest x since).afterEcl) else .next s
  | none => .next s

/-- BOTH_SENSORS_FAULT (06 R208): both sensors asserted together for 1 ms, with end sensing: a fault that ends any running
pulse of the position. -/
def execBothSensorsFault (p : Pos) (t : Nat) (s : State) : Ans :=
  let s := s.advance t
  let now := some s.time.now
  let s : State := { s with shut := { s.shut with closedPin := s.shut.closedPin.set p now, openPin := s.shut.openPin.set p now } }
  match s.pulseOf p with
  | some (x, _) => if s.sensing x then .next ((s.pulseFault x).afterEcl) else .next s
  | none => if bitAt (s.o (Obj.ECL_SHUT_CFG p.val)) 1 then .next (s.shutterFault p) else .next s

/-! ### The course of an eclipse -/

/-- ECLIPSE_HELD_START (06 R216): the next held start at its decision point; words that it held back go on when it is not made
(03 R118). -/
def execEclipseHeldStart (p : Pos) (t : Nat) (s : State) : Ans :=
  let s := s.advance t
  if s.imaging then .next ((s.heldDecide p).sp0Next (s.fpaSel p)) else .next s

/-- ECLIPSE_UPDATE_COMPLETE (06 R224 to R241, R602): the plane writes of UPDATE complete; a transition that waits for it goes on. -/
def execEclipseUpdateComplete (p : Pos) (t : Nat) (s : State) : Ans :=
  .next ((((s.advance t).eclUpdateEnd p).afterEcl).modeProceed)

/-- OPENING_END (06 R216, R220): the recovery frames are clean and the open sensor time has passed. -/
def execOpeningEnd (p : Pos) (t : Nat) (s : State) : Ans := .next ((s.advance t).openingEnds p)

/-- OPENING_PULSE_RETRY (06 R225): a faulted opening pulse is repeated once. -/
def execOpeningPulseRetry (p : Pos) (t : Nat) (s : State) : Ans :=
  let s := s.advance t
  match (s.ecl.get p).retryAt with
  | some a => if a ≤ s.time.now then .next ((s.setEcl p { s.ecl.get p with retryAt := none }).askPulse p false 4) else .next s
  | none => .next s

/-- 06 R250: an opening pulse would start too late for the window.  In ECLIPSE mode, where no window holds, an eclipse that runs at
its activation completes (R248). -/
def State.windowLate (s : State) (p : Pos) (w : Nat) : Bool :=
  let e := s.ecl.get p
  s.mode != Mode.eclipse && e.granted && decide (1 ≤ s.phase p ∧ s.phase p ≤ 4 ∧ w < s.time.now + 1000000 * (e.params.map (·.pulseMax)).getD 0)

/-- ECLIPSE_WINDOW_DEADLINE (06 R223, R250). -/
def execEclipseWindowDeadline (p : Pos) (t : Nat) (s : State) : Ans :=
  let s := s.advance t
  match (s.ecl.get p).windowEnd with
  | some w => if s.windowLate p w then .next ((s.eclEarly p 2).afterEcl) else .next s
  | none => .next s

/-! ### Scheduling -/

/-- 06 R244, R245: the prediction of a position, and whether it becomes due. -/
def State.evaluatePos (s : State) (p : Pos) : State :=
  let s := s.setO (Obj.ECL_PRED_ERR p.val) ((s.predNow p : Nat) : Int)
  if s.dueBySchedule p then s.becomeDue p else s

/-- PREDICTIVE_EVALUATION (06 R244, R245): once per second in RUN. -/
def execPredictiveEvaluation (t : Nat) (s : State) : Ans :=
  let s := s.advance t
  if s.serving ∧ s.mode = Mode.run then .next (s.enabledPos.foldl State.evaluatePos s) else .next s

/-- 06 R251: a due position has waited in RUN for longer than ECL_MIN_INTERVAL without a covering window.  DEDUCED (log 76): the wait
counts anew from the end of a window that covered the position. -/
def State.waitsTooLong (s : State) (p : Pos) : Bool :=
  let e := s.ecl.get p
  s.serving && s.mode == Mode.run && s.enabled p && e.due && decide (s.phase p ≤ 1) && !e.granted && s.inForce Obj.LOCAL_ONLY == 0 && !s.inWindow p &&
    decide (max (max e.dueSince s.modes.since) (s.lastCovered p) + 1000000000 * s.o (Obj.ECL_MIN_INTERVAL p.val) < s.time.now)

/-- ECLIPSE_OVERDUE (06 R251): OVERDUE is set, and one NOTIFY sent. -/
def execEclipseOverdue (p : Pos) (t : Nat) (s : State) : Ans :=
  let s := s.advance t
  if !s.waitsTooLong p then .next s
  else
    let sent := (s.ecl.get p).overdueSent
    let s := s.setEcl p { s.ecl.get p with overdue := true, overdueSent := true }
    .next (if sent then s else s.notify 0x0011 p.val [])

/-- 06 R249, 10 R373: a window is stored and the number held is answered. -/
def State.storeWindow (s : State) (r : Req) : State × Reply :=
  if s.reqLevel r < 1 then (s, .error Abort.access)
  else if s.mode ≠ Mode.prepare ∧ s.mode ≠ Mode.run then (s, .error Abort.state)
  else
    let s := s.addWindow { start := beAt r.payload 0 8, fin := beAt r.payload 8 8, mask := beAt r.payload 16 1 % 16 }
    (s, .ok [byteOf s.heldWindows.length])

/-- ECLIPSE_WINDOW (06 R249, 10 R369, R373). -/
def execEclipseWindow (r : Req) (s : State) : Ans :=
  .next (s.onTelegram r .stationOrGroup 24 (fun s => s.once r 0x21 (fun s => s.storeWindow r)))

end Sys2Proof.Machine
end

