-- ==== Sys2Proof/Machine/RawXfer.lean ====
section
/-!
DEFINITION. The write of SP1_RAW_XFER in SERVICE (14 R498).
-/
namespace Sys2Proof.Machine

/-- The transaction waits for SP1, and runs at once where nothing else does (14 R484, R486; log 81). -/
def State.rawAsk (b : List Byte) (s : State) : State :=
  ({ s with serial := { s.serial with rawWait := some b } } : State).rawNext

/-- 14 R498: SERVICE only; BUSY while another waits; a write that brings fewer data bytes than its length names does not go together. -/
def State.cmdRawXfer (via : Via) (b : List Byte) (s : State) : Res :=
  s.cmdDom via Obj.SP1_RAW_XFER 3 (decide (16 ≤ b.length ∧ b.length ≤ 4112))
    (fun s => if s.mode ≠ Mode.service then Abort.state else if s.serial.rawWait.isSome then Abort.busy else 0) (rawDesc b).ok
    (fun s =>
      let d := rawDesc b
      if d.dir = 0 ∧ b.length - 16 < d.len then .error Abort.param else .ok (s.rawAsk b))

/-- SP1_RAW_XFER (14 R498). -/
def execSp1RawXfer (via : Via) (bytes : List Byte) (t : Nat) (s : State) : Ans :=
  .next (s.runCommand via Obj.SP1_RAW_XFER t (State.cmdRawXfer via bytes))

end Sys2Proof.Machine
end

