-- ==== Sys2Proof/Machine/Security.lean ====
section
/-!
DEFINITION. Security: lifecycle, keys, anti-rollback, sessions of the chain and of the host port (18 R556 to R569,
10 R362, R363).
-/
namespace Sys2Proof.Machine

/-! ### Lifecycle (18 R556, R557) -/

/-- 18 Table 18-2: the state check of a transition; 0 when it is permitted.  A target beyond 3 is left to RANGE. -/
def State.lifecyclePre (v : Nat) (s : State) : Nat :=
  let now := s.lifecycle
  let mode := s.mode == Mode.standby || (v == 3 && s.mode == Mode.service)
  let step := (now == 0 && v == 1 && s.hasL2) || (now == 1 && v == 2 && s.hasL2) ||
    (v == 3 && (now == 0 || now == 1 || (now == 2 && s.dbg.vendor)))
  if 3 < v then 0 else stateIf (!mode || !step || decide (s.pwr.vin < 36000))

/-- Both bits of the pair of a state are burned (18 R556). -/
def State.burn (s : State) (v : Nat) : State :=
  { s with sec :=
      if v = 1 then { s.sec with fuseOpen := (true, true) }
      else if v = 2 then { s.sec with fuseSealed := (true, true) }
      else { s.sec with fuseReturn := (true, true) } }

/-- What a transition brings beside the fuses (18 Table 18-2). -/
def State.lifecycleEffect (s : State) (v : Nat) : State :=
  if v = 2 then
    if s.o Obj.NV_KEEP_BP = 0 then (s.setKeep Keep.bp [1#8]).setO Obj.NV_KEEP_BP 1 else s
  else if v = 3 then s.zeroiseKeys else s

/-- 18 R557: a lifecycle transition; to RETURN it takes an L3 session. -/
def State.cmdSecLifecycleSet (via : Via) (v : Nat) (s : State) : Res :=
  s.cmd via Obj.SEC_LIFECYCLE_SET (if v = 3 then 3 else 2) (decide (v ≤ 3)) (State.lifecyclePre v) (done (fun s =>
    let old := s.lifecycle
    ((((s.burn v).lifecycleEffect v).closeAll.log 0x00A0 0xFF [(1, old), (1, v)]).logWrite via Obj.SEC_LIFECYCLE_SET).gradeChanged))

/-- SEC_LIFECYCLE_SET (18 R556, R557). -/
def execSecLifecycleSet (via : Via) (v t : Nat) (s : State) : Ans :=
  .next (s.runCommand via Obj.SEC_LIFECYCLE_SET t (State.cmdSecLifecycleSet via v))

/-! ### Keys (18 R564, R569, R572) -/

/-- 18 R564: a customer slot takes a level and a key; sessions opened with it end. -/
def State.cmdSecKeyWrite (via : Via) (v : List Byte) (s : State) : Res :=
  let slot := leAt v 0 1
  let level := leAt v 1 1
  s.cmdDom via Obj.SEC_KEY_WRITE 2 (v.length == 36) noPre (decide (slot ≤ 5 ∧ 1 ≤ level ∧ level ≤ 2))
    (kept via Obj.SEC_KEY_WRITE (Keep.key slot) 64 (fun s => (s.setKey slot level (slice v 4 32)).closeKey slot))

/-- SEC_KEY_WRITE (18 R564). -/
def execSecKeyWrite (via : Via) (v : List Byte) (t : Nat) (s : State) : Ans :=
  .next (s.runCommand via Obj.SEC_KEY_WRITE t (State.cmdSecKeyWrite via v))

/-- 18 R564: a customer slot is emptied. -/
def State.cmdSecKeyErase (via : Via) (v : Nat) (s : State) : Res :=
  s.cmd via Obj.SEC_KEY_ERASE 2 (decide (v ≤ 5)) noPre
    (kept via Obj.SEC_KEY_ERASE (Keep.key v) 64 (fun s => (s.secEmpty (Keep.key v) 64).closeKey v))

/-- SEC_KEY_ERASE (18 R564). -/
def execSecKeyErase (via : Via) (v t : Nat) (s : State) : Ans :=
  .next (s.runCommand via Obj.SEC_KEY_ERASE t (State.cmdSecKeyErase via v))

/-- 18 R569: the archive key is written. -/
def State.cmdSecArchiveKey (via : Via) (v : List Byte) (s : State) : Res :=
  s.cmdDom via Obj.SEC_ARCHIVE_KEY 2 (v.length == 32) noPre true
    (kept via Obj.SEC_ARCHIVE_KEY Keep.archiveKey 64 (fun s => s.setArchiveKey v))

/-- SEC_ARCHIVE_KEY (18 R569). -/
def execSecArchiveKey (via : Via) (v : List Byte) (t : Nat) (s : State) : Ans :=
  .next (s.runCommand via Obj.SEC_ARCHIVE_KEY t (State.cmdSecArchiveKey via v))

/-- 18 R572: the hash of the integrator token key is written. -/
def State.cmdSecTokenKey (via : Via) (v : List Byte) (s : State) : Res :=
  s.cmdDom via Obj.SEC_TOKEN_KEY 2 (v.length == 48) noPre true
    (kept via Obj.SEC_TOKEN_KEY Keep.tokenKey 64 (fun s => s.setTokenKey v))

/-- SEC_TOKEN_KEY (18 R572). -/
def execSecTokenKey (via : Via) (v : List Byte) (t : Nat) (s : State) : Ans :=
  .next (s.runCommand via Obj.SEC_TOKEN_KEY t (State.cmdSecTokenKey via v))

/-- 18 R563: the anti-rollback counter is raised to the running image's SVN. -/
def State.cmdSecArbCommit (via : Via) (v : Nat) (s : State) : Res :=
  s.cmd via Obj.SEC_ARB_COMMIT 2 (anyOf 1 v) noPre (kept via Obj.SEC_ARB_COMMIT Keep.arb 32 (fun s => s.raiseArb s.boot.svn))

/-- SEC_ARB_COMMIT (18 R563). -/
def execSecArbCommit (via : Via) (v t : Nat) (s : State) : Ans :=
  .next (s.runCommand via Obj.SEC_ARB_COMMIT t (State.cmdSecArbCommit via v))

/-! ### Chain sessions (10 R362, R363, 18 R565, R566) -/

/-- The payload of an AUTH reply (10 Table 10-5). -/
def authReply (step level result : Nat) (value : List Byte) : List Byte :=
  [byteOf step, byteOf level, 0#8, byteOf result] ++ slice value 0 32

/-- 18 R565: what the health tests of the random bit generator say as an OPEN asks it for a nonce. -/
def State.healthIs (s : State) (healthy : Bool) : State := { s with sec := { s.sec with rngOk := healthy } }

/-- 10 R363, OPEN: an open ID is closed first; a module nonce is issued.  A generator that fails its health tests refuses it with
INTERNAL, which is logged (18 R565, 11 Table 11-5). -/
def State.authOpen (r : Req) (s : State) : State × Reply :=
  if r.session = 0 then (s, .error Abort.range)
  else if s.lockedOut (b2n r.portB) then (s, .error Abort.busy)
  else if !s.sec.rngOk then (s.logEvt .internal 0xFF 0 [], .error Abort.internal)
  else
    let x := (s.closeSession r.session).random 16
    let c : Challenge := { id := r.session, level := leAt r.payload 1 1, keySlot := leAt r.payload 2 1,
                           masterNonce := slice r.payload 4 16, nonce := x.2, at_ := s.time.mono }
    ({ x.1 with chain := { x.1.chain with challenges := c :: x.1.chain.challenges.filter (fun y => y.id != r.session) } },
      .ok (authReply 2 0 0 x.2))

/-- AUTH_OPEN (10 R363, 18 R565): `healthy` is false when the random bit generator fails its health tests. -/
def execAuthOpen (r : Req) (healthy : Bool) (s : State) : Ans :=
  .next (s.onTelegram r .unicast 36 (fun s =>
    if leAt r.payload 0 1 = 1 then s.once r 0x50 (fun s => State.authOpen r (s.healthIs healthy)) else s))

/-- A session opens: the most recently used; of five the least recently used ends (10 R362). -/
def State.openSession (s : State) (id level slot : Nat) : State :=
  let n : Session := { id := id, level := level, keySlot := slot, lastUse := s.time.mono }
  let old := s.liveSessions.filter (fun x => x.id != id)
  let s := ((old.drop 3).map (·.id)).foldl State.closeSession s
  { s with chain := { s.chain with sessions := n :: s.liveSessions.filter (fun x => x.id != id) } }

/-- 18 R566, PROVE: the challenge is used up; a proof in time opens the session, anything else opens nothing. -/
def State.authProve (r : Req) (s : State) : State × Reply :=
  let path := b2n r.portB
  let c := s.chain.challenges.find? (fun y => y.id == r.session)
  let s : State := { s with chain := { s.chain with challenges := s.chain.challenges.filter (fun y => y.id != r.session) } }
  match c with
  | none => (s.proveFailed path, .ok (authReply 4 0 1 []))
  | some c =>
    if s.time.mono ≤ c.at_ + 1000000000 ∧ s.proveOk c.id c.level c.keySlot c.masterNonce c.nonce (slice r.payload 4 32) = true then
      ((s.setAuth path 0 (s.authLock path)).openSession c.id c.level c.keySlot,
        .ok (authReply 4 c.level 0 (s.moduleMac c.id c.level c.keySlot c.masterNonce c.nonce)))
    else (s.proveFailed path, .ok (authReply 4 0 1 []))

/-- AUTH_PROVE (10 R363, 18 R566). -/
def execAuthProve (r : Req) (s : State) : Ans :=
  .next (s.onTelegram r .unicast 36 (fun s => if leAt r.payload 0 1 = 3 then s.once r 0x50 (State.authProve r) else s))

/-- AUTH_CLOSE (10 R363): the session ends; the reply is RESULT 0. -/
def execAuthClose (r : Req) (s : State) : Ans :=
  .next (s.onTelegram r .unicast 36 (fun s =>
    if leAt r.payload 0 1 = 5 then s.once r 0x50 (fun s => (s.closeSession r.session, .ok (authReply 4 0 0 []))) else s))

/-- A chain session of the ID has been without activity for ten minutes. -/
def State.chainIdle (s : State) (id : Nat) : Bool := s.chain.sessions.any (fun x => x.id == id && !s.unexpired x.lastUse)

/-- The host-port session, whose ID is 0xFFFF_FFFF, has been without activity for ten minutes. -/
def State.hostIdle (s : State) (id : Nat) : Bool :=
  id == 0xFFFFFFFF && s.host.session.any (fun x => !s.unexpired x.2.2)

/-- SESSION_IDLE_EXPIRY (18 R566): a session of the ID that has been idle closes; the ID of the host-port session may be a chain
session's too. -/
def execSessionIdleExpiry (id t : Nat) (s : State) : Ans :=
  let s := s.advance t
  let s := if s.hostIdle id then s.closeHostSession else s
  .next (if s.chainIdle id then s.closeSession id else s)

/-- AUTH_LOCKOUT_EXPIRY (18 R566): the lock-out of a path ends after 60 s. -/
def execAuthLockoutExpiry (path t : Nat) (s : State) : Ans :=
  let s := s.advance t
  if (s.authLock path).isSome ∧ s.lockedOut path = false then .next (s.setAuth path (s.authFails path) none) else .next s

/-! ### The host-port session (18 R568) -/

/-- The objects serve BAR0 only. -/
def hostOnly (via : Via) (_ : State) : Nat := stateIf (via != .host)

/-- 18 R568, OPEN: the open session ends, and a nonce is issued. -/
def State.hpAuthOpen (v : List Byte) (s : State) : Res :=
  if s.lockedOut 2 then .error Abort.busy
  else if !s.sec.rngOk then .error Abort.internal
  else
    let x := s.closeHostSession.random 16
    let c := (leAt v 0 1, leAt v 1 1, slice v 4 16, x.2, s.time.mono)
    .ok (({ x.1 with host := { x.1.host with challenge := some c } } : State).setDom Obj.HP_AUTH_CHAL x.2)

/-- HP_AUTH_REQ as an object; its write is logged, as those of the chapter are (18, Objects). -/
def State.cmdHpAuthReq (via : Via) (v : List Byte) (s : State) : Res :=
  s.cmdDom via Obj.HP_AUTH_REQ 0 (v.length == 20) (hostOnly via) true (fun s =>
    (State.hpAuthOpen v s).map (fun s => s.logWrite via Obj.HP_AUTH_REQ))

/-- HP_AUTH_REQ (18 R568): `healthy` is false when the random bit generator fails its health tests (R565). -/
def execHpAuthReq (v : List Byte) (healthy : Bool) (t : Nat) (s : State) : Ans :=
  .next ((s.healthIs healthy).runCommand .host Obj.HP_AUTH_REQ t (State.cmdHpAuthReq .host v))

/-- The bytes of HP_AUTH_RESULT. -/
def hpResult (result level : Nat) (mac : List Byte) : List Byte := [byteOf result, byteOf level, 0#8, 0#8] ++ slice mac 0 32

/-- 18 R568, PROVE. -/
def State.hpAuthProve (v : List Byte) (s : State) : State :=
  let c := s.host.challenge
  let s : State := { s with host := { s.host with challenge := none } }
  match c with
  | none => (s.proveFailed 2).setDom Obj.HP_AUTH_RESULT (hpResult 1 0 [])
  | some (level, slot, nm, nd, at_) =>
    if s.time.mono ≤ at_ + 1000000000 ∧ s.proveOk 0xFFFFFFFF level slot nm nd v = true then
      let mac := s.moduleMac 0xFFFFFFFF level slot nm nd
      let s := s.setAuth 2 0 (s.authLock 2)
      ({ s with host := { s.host with session := some (level, slot, s.time.mono) } } : State).setDom Obj.HP_AUTH_RESULT (hpResult 0 level mac)
    else (s.proveFailed 2).setDom Obj.HP_AUTH_RESULT (hpResult 1 0 [])

/-- HP_AUTH_PROVE as an object. -/
def State.cmdHpAuthProve (via : Via) (v : List Byte) (s : State) : Res :=
  s.cmdDom via Obj.HP_AUTH_PROVE 0 (v.length == 32) (hostOnly via) true
    (done (fun s => (State.hpAuthProve v s).logWrite via Obj.HP_AUTH_PROVE))

/-- HP_AUTH_PROVE (18 R566, R568). -/
def execHpAuthProve (v : List Byte) (t : Nat) (s : State) : Ans :=
  .next (s.runCommand .host Obj.HP_AUTH_PROVE t (State.cmdHpAuthProve .host v))

/-- HP_AUTH_CLOSE as an object. -/
def State.cmdHpAuthClose (via : Via) (v : Nat) (s : State) : Res :=
  s.cmd via Obj.HP_AUTH_CLOSE 0 (anyOf 1 v) (hostOnly via)
    (done (fun s => s.closeHostSession.logWrite via Obj.HP_AUTH_CLOSE))

/-- HP_AUTH_CLOSE (18 R568). -/
def execHpAuthClose (v t : Nat) (s : State) : Ans :=
  .next (s.runCommand .host Obj.HP_AUTH_CLOSE t (State.cmdHpAuthClose .host v))

end Sys2Proof.Machine
end

