-- ==== Sys2Proof/Machine/Debug.lean ====
section
/-!
DEFINITION. Debug: unlock tokens, the debug grade, the test access port and the halted steward (18 R570 to R576).
-/
namespace Sys2Proof.Machine

/-! ### Grade (18 R575) -/

/-- 18 Table 18-13: `DBG_STATUS`. -/
def State.dbgStatus (s : State) : Nat :=
  s.grade + 4 * b2n (decide (s.grade < s.unlockedGrade)) + 8 * b2n s.dbg.vendor + 16 * b2n s.dbg.verifying.isSome +
    32 * b2n (!s.dbg.held.isEmpty) + 64 * b2n s.dbg.halted + 128 * b2n s.extest

/-- 18 R575: the unlocked grade is set, in OPEN only. -/
def State.cmdDbgSetGrade (via : Via) (v : Nat) (s : State) : Res :=
  s.cmd via Obj.DBG_SET_GRADE 2 (decide (v ≤ 2)) (fun s => stateIf (s.lifecycle != 1)) (done (fun s =>
    (({ s with dbg := { s.dbg with setGrade := v } } : State).logWrite via Obj.DBG_SET_GRADE).gradeChanged))

/-- DBG_SET_GRADE (18 R575). -/
def execDbgSetGrade (via : Via) (v t : Nat) (s : State) : Ans :=
  .next (s.runCommand via Obj.DBG_SET_GRADE t (State.cmdDbgSetGrade via v))

/-- 18 R572: the unlock ends; the grade is that without token. -/
def State.lockDebug (s : State) : State :=
  ({ s with dbg := { s.dbg with token := 0, vendor := false, setGrade := 0, force := false, verifying := none } } : State).gradeChanged

/-- DBG_LOCK as an object. -/
def State.cmdDbgLock (via : Via) (v : Nat) (s : State) : Res :=
  s.cmd via Obj.DBG_LOCK 1 (anyOf 1 v) noPre (done (fun s => (s.logWrite via Obj.DBG_LOCK).lockDebug))

/-- DBG_LOCK (18 R572). -/
def execDbgLock (via : Via) (v t : Nat) (s : State) : Ans := .next (s.runCommand via Obj.DBG_LOCK t (State.cmdDbgLock via v))

/-! ### Unlock tokens (18 R572, R573) -/

/-- A token's checks begin. -/
def State.submitToken (s : State) (v : List Byte) : State := { s with dbg := { s.dbg with verifying := some v } }

/-- 18 R572: a token through its object, at L2; while one is being verified the object is occupied. -/
def State.cmdDbgToken (via : Via) (v : List Byte) (s : State) : Res :=
  s.cmdDom via Obj.DBG_TOKEN 2 (v.length == 232) (fun s => if s.dbg.verifying.isSome then Abort.busy else 0) true
    (done (fun s => (s.logWrite via Obj.DBG_TOKEN).submitToken v))

/-- DBG_TOKEN (18 R572). -/
def execDbgToken (via : Via) (v : List Byte) (t : Nat) (s : State) : Ans :=
  .next (s.runCommand via Obj.DBG_TOKEN t (State.cmdDbgToken via v))

/-- The hash the PUBKEY of a token must have; none for a kind that is not accepted in this lifecycle (Table 18-7). -/
def State.tokenHash (s : State) (kind : Nat) : Option (List Byte) :=
  if kind = 2 then some s.sec.vendorHash
  else if kind = 1 ∧ (s.lifecycle = 1 ∨ s.lifecycle = 2) then (s.secSet Keep.tokenKey 64).map (fun b => slice b 4 48)
  else none

/-- The first check of R572 that fails, in the order the rule lists them from 1; 0 when all hold. -/
def State.tokenCheck (s : State) (v : List Byte) : Nat :=
  let pub := slice v 32 97
  if !(v.take 4 == asciiBytes "KTUT" && leAt v 4 1 == 1 && beAt v 8 8 == Config.deviceId) then 1
  else if slice v 16 16 != s.bootNonce then 2
  else if s.tokenHash (leAt v 5 1) != some (sha384 pub) then 3
  else if !ecdsaOk pub (slice v 136 96) (sha384 (slice v 0 136)) then 4
  else 0

/-- 18 R573: a token is accepted.  An integrator token unlocks OBSERVE; a vendor token zeroises the customer keys, ends every
session, unlocks FULL and forces SERVICE. -/
def State.acceptToken (s : State) (kind : Nat) : State :=
  let s := s.log 0x00A1 0xFF [(1, kind)]
  if kind = 1 then ({ s with dbg := { s.dbg with token := max 1 s.dbg.token } } : State).gradeChanged
  else
    let s := (s.zeroiseKeys).closeAll
    let s : State := { s with dbg := { s.dbg with token := 2, vendor := true, force := true } }
    (s.gradeChanged.cancelArmed 1).vendorNext

/-- DBG_TOKEN_ACCEPT (18 R572, R573): the verification ends.  While storage is closed, keys cannot be zeroised, and a vendor
token waits. -/
def execDbgTokenAccept (t : Nat) (s : State) : Ans :=
  let s := s.advance t
  match s.dbg.verifying with
  | none => .next s
  | some v =>
    let kind := leAt v 5 1
    let e := s.tokenCheck v
    if !s.fwUp || (e == 0 && kind == 2 && s.nv.closed) then .next s
    else
      let s : State := { s with dbg := { s.dbg with verifying := none } }
      if e ≠ 0 then .next (s.log 0x00A2 0xFF [(1, e)]) else .next (s.acceptToken kind)

/-! ### The test access port (18 R570, R571, R574, Table 18-5) -/

/-- The test access port is out of reset. -/
def State.tapUp (s : State) : Bool := s.boot.phase != .off && s.boot.phase != .reset

/-- An instruction is loaded. -/
def State.loadIr (s : State) (code : Nat) : State := { s with dbg := { s.dbg with ir := code } }

/-- BYPASS, also for an instruction that is not permitted. -/
def State.bypass (s : State) : State := (s.loadIr 0xFF).emit (.tdo [0#8])

/-- TAP_EXTEST (18 R574): the levels at the balls are captured and shifted out, and the balls follow the boundary register.
Accepted in STANDBY and SAFE where boundary scan is permitted. -/
def execTapExtest (pins bits : List Byte) (t : Nat) (s : State) : Ans :=
  let s := s.advance t
  if !s.tapUp then .next s
  else if s.scanPermitted && (s.mode == Mode.standby || s.mode == Mode.safe) then
    .next (({ s with dbg := { s.dbg with ir := 0, boundary := bits } } : State).emit (.tdo pins))
  else .next s.bypass

/-- TAP_SAMPLE_PRELOAD (18 R570): the levels at the balls are shifted out and the boundary register is loaded. -/
def execTapSamplePreload (pins bits : List Byte) (t : Nat) (s : State) : Ans :=
  let s := s.advance t
  if !s.tapUp then .next s
  else if s.scanPermitted then .next (({ s with dbg := { s.dbg with ir := 1, boundary := bits } } : State).emit (.tdo pins))
  else .next s.bypass

/-- TAP_IDCODE (18 R570): the identifier is shifted out, least significant bit first. -/
def execTapIdcode (t : Nat) (s : State) : Ans :=
  let s := s.advance t
  if s.tapUp then .next ((s.loadIr 2).emit (.tdo (leBytes 4 Config.idcode))) else .next s

/-- TAP_DBG_STATUS (18 R570): `DBG_STATUS` is shifted out. -/
def execTapDbgStatus (t : Nat) (s : State) : Ans :=
  let s := s.advance t
  if s.tapUp then .next ((s.loadIr 3).emit (.tdo (leBytes 2 s.dbgStatus))) else .next s

/-- TAP_DBG_TOKEN (18 R572): a token of 232 bytes, without a session; not accepted in boot recovery, nor while another is
being verified. -/
def execTapDbgToken (v : List Byte) (t : Nat) (s : State) : Ans :=
  let s := s.advance t
  if !s.tapUp then .next s
  else
    let s := s.loadIr 4
    if s.fwUp && v.length == 232 && s.dbg.verifying.isNone then .next (s.submitToken v) else .next s

/-- 18 R576: a domain may be held: it is on, or its mode powers it. -/
def State.holdable (s : State) (d : Nat) : Bool :=
  decide (d < 80) && (s.domOn d || (s.imaging && s.imagingDomain d && s.dom80 d != 3) || (s.quietDomain d && s.dom80 d != 3))

/-- 18 R571: a debug access under a grade: `k` 0 reads and 1 writes a word of the unit in domain `d` (80 for what is always
on), 2 holds the domain, 3 ends the hold.  The spec gives no map of the words: what a read gives is a free value, and what a
write changes is left out (log 11). -/
def State.debugAccess (s : State) (k d addr : Nat) : State :=
  let on := decide (80 ≤ d) || s.domOn d
  match k with
  | 0 =>
    if on then ({ s with free := s.free + 1 } : State).emit (.value (Config.debugWord s.free addr % 2 ^ 32)) else s.emit (.value 0)
  | 1 => s
  | 2 =>
    if s.grade = 2 ∧ s.holdable d = true ∧ s.dbg.held.contains d = false then
      (({ s with dbg := { s.dbg with held := d :: s.dbg.held } } : State).wantOn d)
    else s
  | _ =>
    if s.dbg.held.contains d then
      let s : State := { s with dbg := { s.dbg with held := s.dbg.held.filter (· != d) } }
      if s.keepsDomain d || (s.imaging && s.imagingDomain d) then s else s.wantOff d
    else s

/-- TAP_DBG_ACCESS (18 R571, R576): permitted under OBSERVE and FULL. -/
def execTapDbgAccess (k d addr _v t : Nat) (s : State) : Ans :=
  let s := s.advance t
  if !s.tapUp then .next s
  else if s.grade = 0 then .next s.bypass
  else .next ((s.loadIr 5).debugAccess k d addr)

/-- TAP_BYPASS (18 R570): BYPASS, or a code that selects nothing else. -/
def execTapBypass (_code t : Nat) (s : State) : Ans :=
  let s := s.advance t
  if s.tapUp then .next s.bypass else .next s

/-- TAP_RESET (18 R570): TRST_N selects IDCODE. -/
def execTapReset (t : Nat) (s : State) : Ans := .next ((s.advance t).loadIr 2)

/-- STEWARD_HALT (18 R571): `k` 1 halts the steward under FULL, in SERVICE and with no transaction armed; 0 lets it run on;
2 steps it while it is halted, and it stays halted. -/
def execStewardHalt (k t : Nat) (s : State) : Ans :=
  let s := s.advance t
  if k = 1 then
    if s.fwUp ∧ s.grade = 2 ∧ s.mode = Mode.service ∧ s.modes.armed.isNone = true then
      .next { s with dbg := { s.dbg with halted := true } }
    else .next s
  else if k = 0 then .next { s with dbg := { s.dbg with halted := false } }
  else .next s

end Sys2Proof.Machine
end

