-- ==== Sys2Proof/Machine/Modes.lean ====
section
/-!
DEFINITION. Mode requests, transitions and long operations (02 R52 to R70, 10 R371).
-/
namespace Sys2Proof.Machine

/-- MODE_REQUEST (02 R60, 10 R371): the request is answered by the first row of 02 Table 02-6 that applies, with a
MODE_REPORT to its sender (02 R64). -/
def execModeRequest (r : Req) (s : State) : Ans :=
  .next (s.onTelegram r .anyDst 12 (fun s =>
    let q : ModeReq := { txn := beAt r.payload 0 2, target := beAt r.payload 2 1, act := beAt r.payload 4 8, source := 1,
                         level := s.reqLevel r, multi := !(reqUni r) }
    let x := s.answerMode q
    (x.1.reply r 0x11 (x.1.reportBytes x.2)).raise 1))

/-- 02 R60: the request held in MODE_REQ is submitted. -/
def State.cmdModeReqGo (via : Via) (v : Nat) (s : State) : Res :=
  s.cmd via Obj.MODE_REQ_GO 1 (anyOf 1 v) noPre (done (fun s =>
    let q : ModeReq := { txn := s.o Obj.MODE_REQ_TXN, target := s.o Obj.MODE_REQ_TARGET, act := s.o Obj.MODE_REQ_TIME, source := 2,
                         level := s.level via, multi := false }
    let x := s.answerMode q
    (x.1.setO Obj.MODE_REQ_ANSWER ((x.2.outcome : Nat) : Int)).report x.2))

/-- MODE_REQ_GO (02 R60, R61). -/
def execModeReqGo (via : Via) (v : Nat) (t : Nat) (s : State) : Ans :=
  .next (s.runCommand via Obj.MODE_REQ_GO t (State.cmdModeReqGo via v))

/-- A transaction may begin: one that leads to SAFE from the start of firmware on, any other once STANDBY has been entered, where the
modes begin (Table 02-1; log 69). -/
def State.mayBegin (s : State) (a : Armed) : Bool := s.fwUp && (s.boot.phase == .running || a.target == 5)

/-- TRANSITION_ACTIVATION (02 R62): the armed transaction begins at its activation time. -/
def execTransitionActivation (t : Nat) (s : State) : Ans :=
  let s := s.advance t
  match s.modes.armed with
  | some a => if s.mayBegin a = true ∧ a.act ≤ s.time.now then .next (s.activateTxn a) else .next s
  | none => .next s

/-- TRANSITION_COMPLETE (02 R64): the running transition completes once each of its steps is done; `refresh` is false when the
DRAM fails to enter self-refresh (Table 02-5). -/
def execTransitionComplete (refresh : Bool) (t : Nat) (s : State) : Ans :=
  let s := s.advance t
  if s.fwUp then .next (s.completeTransition refresh) else .next s

/-- 02 R54: a transition past its bound fails; one into SAFE never does. -/
def State.timeoutTransition (s : State) : State :=
  match s.modes.running with
  | some r => if r.deadline < s.time.now then s.failTransition 0x25 else s
  | none => s

/-- TRANSITION_TIMEOUT (02 R54). -/
def execTransitionTimeout (t : Nat) (s : State) : Ans :=
  let s := s.advance t
  if s.fwUp then .next s.timeoutTransition else .next s

/-- 02 R70: a running long operation is aborted. -/
def State.cmdOpAbort (via : Via) (k v : Nat) (s : State) : Res :=
  s.cmd via (Obj.OP_ABORT k) 1 (anyOf 1 v) noPre (done (fun s => s.abortOp k))

/-- OP_ABORT (02 R70). -/
def execOpAbort (via : Via) (k v : Nat) (t : Nat) (s : State) : Ans :=
  if k < 6 then .next (s.runCommand via (Obj.OP_ABORT k) t (State.cmdOpAbort via k v)) else .next (s.advance t)

/-- OP_PROGRESS_UPDATE (02 R69): the record of a running operation shows how far it has come. -/
def execOpProgressUpdate (k position : Nat) (t : Nat) (s : State) : Ans :=
  let s := s.advance t
  if k < 6 ∧ s.opRunning k = true then .next (s.opAt k (min position (s.o (Obj.OP_TOTAL k)))) else .next s

end Sys2Proof.Machine
end

