-- ==== Sys2Proof/Machine/Time.lean ====
section
/-!
DEFINITION. Chain time: the slave clock, PPS, TIME_SET (08 R284 to R293).
-/
namespace Sys2Proof.Machine

/-- Logic is out of reset. -/
def State.alive (s : State) : Bool := s.boot.phase != .off && s.boot.phase != .reset

/-! ### Steps and measurements (08 R286 to R289) -/

/-- 08 R289: an armed transaction whose activation time a step passes over begins at the step. -/
def State.passedOver (s : State) (was : Nat) : State :=
  match s.modes.armed with
  | some a => if s.fwUp ∧ was < a.act ∧ a.act ≤ s.time.now then s.activateTxn a else s
  | none => s

/-- 08 R289: a step with all it brings. -/
def State.stepTo (s : State) (to_ : Nat) : State :=
  let was := s.time.now
  let s := s.stepTime to_
  let s : State := { s with time := { s.time with lastMeas := s.time.lastMeas.map (fun _ => to_), stepBlocked := false } }
  s.passedOver was

/-- Units of 2^-16 ns, as a correctionField counts (08 R291), in a ns. -/
abbrev fineNs : Nat := 65536

/-- 08 R288: chain time may be stepped for an offset in 2^-16 ns. -/
def State.mayStep (s : State) (off : Int) : Bool :=
  s.o Obj.TIME_STATE == 1 && decide (1000 * fineNs < off ∨ off < -(1000 * fineNs)) && (s.mode == 0 || s.mode == 5)

/-- 08 R288: frequency alone, with a slew of at most 50 ppm beyond what SYSCLK itself needs. -/
def State.servo (s : State) (off : Int) : State :=
  let adj := s.oi Obj.TIME_FREQ_ADJ
  let want := Config.servoSlew off adj
  let s := s.setO Obj.TIME_FREQ_ADJ (satS 32 (Config.servoBase off adj + clampI (-50000) 50000 want))
  { s with time := { s.time with slewing := decide (want ≤ -50000 ∨ 50000 ≤ want) } }

/-- 08 R288, 00 R4: an offset of 1 µs or more that cannot be stepped: STEP_BLOCKED, with one NOTIFY. -/
def State.blockedStep (s : State) (off : Int) : State :=
  if -(1000 * fineNs) < off ∧ off < 1000 * fineNs then { s with time := { s.time with stepBlocked := false } }
  else if s.time.stepBlocked then s
  else ({ s with time := { s.time with stepBlocked := true } } : State).notify 0x0031 0xFF [(8, toCode 64 (roundDiv off fineNs))]

/-- The correction an offset asks for: a step where it is permitted, else the servo. -/
def State.correctTime (s : State) (off : Int) : State :=
  if s.mayStep off then s.stepTo (s.time.now - roundDiv off fineNs).toNat else (s.servo off).blockedStep off

/-- Measurements in a row that lock the clock (08 Table 08-1). -/
def State.lockCount (s : State) : Nat := if s.o Obj.TIME_SOURCE = 1 then 4 else 8

/-- TIME_HOLDOVER_ERR as it has grown since the entry to HOLDOVER (08 R287), rounded (00 R9). -/
def State.holdoverErr (s : State) : Nat :=
  if s.o Obj.TIME_STATE = 3 then
    min 0xFFFFFFFF (roundDiv (((s.time.mono - s.time.holdoverAt) * s.o Obj.TIME_HOLDOVER_RATE : Nat) : Int) 1000000000).toNat
  else s.o Obj.TIME_HOLDOVER_ERR

/-- A change of the state of the slave clock: TIME_HOLDOVER_ERR stays at what it reached, and PPS_OUT falls where it is
not driven (08 R292). -/
def State.clockState (s : State) (n : Nat) : State :=
  let s := (s.setO Obj.TIME_HOLDOVER_ERR s.holdoverErr).timeState n
  if n = 2 ∨ (n = 3 ∧ bitAt (s.o Obj.PPS_OUT_CFG) 1) then s else { s with time := { s.time with ppsOut := false } }

/-- 08 Table 08-1, R286: what an offset does to the state of the slave clock. -/
def State.judgeOffset (s : State) (off : Int) : State :=
  let lim : Int := s.o Obj.TIME_LOCK_LIMIT * fineNs
  let good := decide (-lim ≤ off ∧ off ≤ lim)
  let far := decide (5 * lim < off ∨ off < -(5 * lim))
  match s.o Obj.TIME_STATE with
  | 1 =>
    if !good then { s with time := { s.time with good := 0 } }
    else if s.lockCount ≤ s.time.good + 1 then s.clockState 2
    else { s with time := { s.time with good := s.time.good + 1 } }
  | 2 =>
    if !far then { s with time := { s.time with bad := 0 } }
    else if 4 ≤ s.time.bad + 1 then s.clockState 1
    else { s with time := { s.time with bad := s.time.bad + 1 } }
  | _ =>
    let s := s.clockState 1
    { s with time := { s.time with good := if good then 1 else 0 } }

/-- 08 R286 to R288: an offset has been measured, in 2^-16 ns. -/
def State.measured (s : State) (off : Int) : State :=
  let s := s.setO Obj.TIME_OFFSET (satS 32 (roundDiv off fineNs))
  let s : State := { s with time := { s.time with lastMeas := some s.time.now } }
  (s.judgeOffset off).correctTime off

/-! ### PTP (08 R285, R291) -/

/-- Lists of numbers in lexicographic order. -/
def lexLt : List Nat → List Nat → Bool
  | [], [] => false
  | [], _ :: _ => true
  | _ :: _, [] => false
  | a :: r, b :: q => decide (a < b) || (a == b && lexLt r q)

/-- The grandmaster identity among the data compared (log 49). -/
def gmOf (m : List Nat) : Nat := m.getD 5 0

/-- 08 R291: a correctionField with the asymmetry of the port added, in 2^-16 ns. -/
def State.corrFine (s : State) (port : Nat) (correction : Int) : Int :=
  correction + roundDiv (s.oi (Obj.TIME_PORT_ASYM port) * 65536) 1000

/-- A stamp of the PCS, in units of 0.125 ns (08 R285), in 2^-16 ns. -/
def stampFine (n : Nat) : Int := ((n * 8192 : Nat) : Int)

/-- 08 R285: the selected master has sent no Announce for three intervals of 2 s, the time-out of the default profile: PRESUMED
(log 49). -/
def State.masterSilent (s : State) : Bool := decide (s.time.masterSeen + 6000000000 < s.time.mono)

/-- A message comes from the selected master: its domain, sender and port. -/
def State.fromMaster (s : State) (portB : Bool) (domain source : Nat) : Bool :=
  domain == s.o Obj.TIME_PTP_DOMAIN && s.time.masterPort == b2n portB && !s.masterSilent &&
    (s.time.master.map (fun m => m.getD (m.length - 1) 0)) == some source

/-- 08 R285, R286: a master is selected; a change of grandmaster from a known one moves the clock to ACQUIRING. -/
def State.selectMaster (s : State) (m : List Nat) (port : Nat) : State :=
  let moved := s.time.master != some m && (s.time.masterPort != port ||
    (s.time.master.map (fun x => x.getD (x.length - 1) 0)) != some (m.getD (m.length - 1) 0))
  let gm := (s.time.master.map (fun x => gmOf x != gmOf m)).getD false
  let s : State := { s with time := { s.time with
    master := some m, masterPort := port, masterSeen := s.time.mono, path := if moved then none else s.time.path,
    sync := if moved then none else s.time.sync, twoStepSeq := if moved then none else s.time.twoStepSeq,
    delayAt := if moved then none else s.time.delayAt, gmChanged := s.time.gmChanged || gm } }
  let s := s.setO Obj.TIME_GM_ID (gmOf m)
  if gm then s.clockState 1 else s

/-- 08 R285: an Announce: its sender becomes or stays the master when it is the better one, or the master is silent. -/
def State.announced (s : State) (m : List Nat) (port : Nat) : State :=
  match s.time.master with
  | none => s.selectMaster m port
  | some x =>
    if (s.time.masterPort = port ∧ x.getD (x.length - 1) 0 = m.getD (m.length - 1) 0) ∨ lexLt m x = true ∨ s.masterSilent = true
    then s.selectMaster m port else s

/-- A Sync exchange is whole: t1 and t2 stand, and once the path is known an offset is measured. -/
def State.synced (s : State) (t1 t2 : Int) : State :=
  let s : State := { s with time := { s.time with sync := some (t1, t2), twoStepSeq := none } }
  match s.time.path with
  | some d => s.measured (t2 - t1 - d)
  | none => s

/-- The mean path delay of an exchange, from its four time stamps (08 R285). -/
def meanPath (t1 t2 t3 t4 : Int) : Int := max 0 (roundDiv ((t2 - t1) + (t4 - t3)) 2)

/-- 08 R285: the clock identity the module's Delay_Req carries, an EUI-64 from the MAC address of the port: PRESUMED (log 49). -/
def State.clockId (s : State) (port : Nat) : List Byte :=
  let m := beBytes 6 (s.o (Obj.CHAIN_MAC port))
  m.take 3 ++ [0xFF#8, 0xFE#8] ++ m.drop 3

/-- 08 R285: a Delay_Req in an Ethernet frame to the PTP address (IEEE 1588-2019, Annex F): PRESUMED (log 49). -/
def State.delayReq (s : State) (port : Nat) : List Byte :=
  beBytes 6 0x011B19000000 ++ beBytes 6 (s.o (Obj.CHAIN_MAC port)) ++ beBytes 2 0x88F7 ++
    [0x01#8, 0x12#8] ++ beBytes 2 44 ++ [byteOf (s.o Obj.TIME_PTP_DOMAIN), 0#8, 0#8, 0#8] ++ List.replicate 12 0#8 ++
    s.clockId port ++ beBytes 2 1 ++ beBytes 2 s.time.delaySeq ++ [1#8, 0x7F#8] ++ List.replicate 12 0#8

/-- 08 R285: the module's Delay_Req leaves on the port of its master, at a stamp. -/
def State.sendDelayReq (s : State) (egress : Nat) : State :=
  let f := s.delayReq s.time.masterPort
  if s.time.master.isNone then s
  else
    ({ s with time := { s.time with delayAt := some (stampFine egress), delaySeq := (s.time.delaySeq + 1) % 65536 } } :
      State).emit (.chain s.time.masterPort f true)

/-- 08 R285: a PTP message as the slave clock takes it. -/
def State.ptp (s : State) (m : PtpMsg) : State :=
  match m with
  | .announce portB domain rank source =>
    if domain = s.o Obj.TIME_PTP_DOMAIN then s.announced (rank ++ [source]) (b2n portB) else s
  | .sync portB domain source seq origin correction ingress interval =>
    if !s.fromMaster portB domain source || !(decide (62500000 ≤ interval ∧ interval ≤ 2000000000)) then s
    else
      let c := s.corrFine (b2n portB) correction
      let s : State := { s with time := { s.time with syncInterval := interval } }
      match origin with
      | some t1 => s.synced (t1 * fineNs + c) (stampFine ingress)
      | none => { s with time := { s.time with twoStepSeq := some seq, sync := some (0, stampFine ingress - c) } }
  | .followUp portB domain source seq origin correction =>
    if s.fromMaster portB domain source ∧ s.time.twoStepSeq = some seq then
      s.synced (origin * fineNs + correction) ((s.time.sync.map (·.2)).getD 0)
    else s
  | .delaySent egress => s.sendDelayReq egress
  | .delayResp portB domain source receive correction =>
    match s.time.delayAt, s.time.sync, s.time.twoStepSeq with
    | some t3, some (t1, t2), none =>
      if s.fromMaster portB domain source then
        let path := meanPath t1 t2 t3 (receive * fineNs - correction)
        let first := s.time.path.isNone
        let s := ({ s with time := { s.time with delayAt := none, path := some path } } : State).setO Obj.TIME_MEAN_PATH
          (clampI 0 0xFFFFFFFF (roundDiv path fineNs))
        if first then s.measured (t2 - t1 - path) else s
      else s
    | _, _, _ => s

/-- PTP_MESSAGE_RECEIVE (08 R285, R286). -/
def execPtpMessageReceive (m : PtpMsg) (t : Nat) (s : State) : Ans :=
  let s := s.advance t
  if s.alive ∧ s.o Obj.TIME_SOURCE = 0 then .next (s.ptp m) else .next s

/-- ns without a measurement after which LOCKED ends (08 Table 08-1). -/
def State.syncBound (s : State) : Nat := if s.o Obj.TIME_SOURCE = 1 then 1500000000 else 3 * s.time.syncInterval

/-- SYNC_TIMEOUT (08 R286, R287): without a measurement the clock goes from LOCKED to HOLDOVER. -/
def execSyncTimeout (t : Nat) (s : State) : Ans :=
  let s := s.advance t
  if s.o Obj.TIME_STATE = 2 ∧ (s.time.lastMeas.getD 0) + s.syncBound ≤ s.time.now then .next (s.clockState 3) else .next s

/-! ### PPS (08 R292, R293) -/

/-- The offset of an instant from the nearest whole second. -/
def secondOff (t : Nat) : Int :=
  if t % 1000000000 < 500000000 then (t % 1000000000 : Nat) else ((t % 1000000000 : Nat) : Int) - 1000000000

/-- 08 R285: the offset of an edge of PPS_IN, in ns: from the second that TIME_SET gave, else from the nearest one. -/
def State.ppsOff (s : State) : Int :=
  match s.time.ppsSeconds with
  | some sec => (s.time.now : Int) - sec * 1000000000
  | none => secondOff s.time.now

/-- 08 R285: the seconds of TIME_SET belong to this edge; where the step they ask for may not be made now (R288), the next edge
marks the second after: DESIGN CHOICE (log 77). -/
def State.ppsSecondsLeft (s : State) : Option Nat :=
  let off := s.ppsOff
  if -1000 ≤ off ∧ off ≤ 1000 ∨ ((s.mode = 0 ∨ s.mode = 5) ∧ s.o Obj.TIME_STATE ≠ 2) then none
  else s.time.ppsSeconds.map (· + 1)

/-- 08 R286, R288, R293: an edge of PPS_IN under source PPS_IN measures an offset; a LOCKED clock ignores one far from a whole
second. -/
def State.ppsEdge (s : State) : State :=
  if s.o Obj.TIME_STATE = 2 ∧ 10000000 < (secondOff s.time.now).natAbs then s.inc Obj.TIME_CNT_LOCK_LOSS
  else
    let off := s.ppsOff
    ({ s with time := { s.time with ppsSeconds := s.ppsSecondsLeft } } : State).measured (off * fineNs)

/-- PPS_IN_EDGE (08 R293): an edge counts when it is of the polarity that bit 1 of PPS_IN_CFG selects. -/
def execPpsInEdge (rising : Bool) (t : Nat) (s : State) : Ans :=
  let s := s.advance t
  let cfg := s.o Obj.PPS_IN_CFG
  if !s.alive || !bitAt cfg 0 || rising == bitAt cfg 1 then .next s
  else
    let s := (({ s with time := { s.time with ppsSeenAt := some s.time.mono } } : State).setO Obj.PPS_IN_LAST s.time.now)
    if s.o Obj.TIME_SOURCE = 1 then .next s.ppsEdge else .next s

/-- 08 R292: PPS_OUT is driven. -/
def State.ppsDriven (s : State) : Bool :=
  bitAt (s.o Obj.PPS_OUT_CFG) 0 &&
    (s.o Obj.TIME_STATE == 2 || (s.o Obj.TIME_STATE == 3 && bitAt (s.o Obj.PPS_OUT_CFG) 1))

/-- PPS_OUT_SECOND (08 R292, 12 Table 12-9): a whole second of chain time. -/
def execPpsOutSecond (t : Nat) (s : State) : Ans :=
  let s := s.advance t
  if !s.alive || s.time.now % 1000000000 != 0 then .next s
  else
    let s := s.requestLine 30
    if s.ppsDriven then
      .next { s with time := { s.time with ppsOut := true, ppsEnd := s.time.now + 1000 * s.o Obj.PPS_OUT_WIDTH } }
    else .next s

/-- PPS_OUT_WIDTH_EXPIRY (08 R292). -/
def execPpsOutWidthExpiry (t : Nat) (s : State) : Ans :=
  let s := s.advance t
  if s.time.ppsOut ∧ s.time.ppsEnd ≤ s.time.now then .next { s with time := { s.time with ppsOut := false } } else .next s

/-- 08 R285, Table 08-4: TIME_SET: chain time at once with source FREE, its seconds at the next edge with PPS_IN. -/
def State.cmdTimeSet (via : Via) (v : Nat) (s : State) : Res :=
  s.cmd via Obj.TIME_SET 2 (anyOf 8 v)
    (fun s => stateIf (s.o Obj.TIME_SOURCE == 0 || !(s.mode == 0 || s.mode == 5)))
    (done (fun s =>
      if s.o Obj.TIME_SOURCE = 2 then s.stepTo v
      else { s with time := { s.time with ppsSeconds := some (v / 1000000000) } }))

/-- TIME_SET (08 R285). -/
def execTimeSet (via : Via) (v : Nat) (t : Nat) (s : State) : Ans :=
  .next (s.runCommand via Obj.TIME_SET t (State.cmdTimeSet via v))

/-- 08 R286: a new source or domain: no master is selected, and the clock acquires anew (FREERUN with source FREE). -/
def State.newTimeSource (s : State) : State :=
  let s : State := { s with time := { s.time with
    master := none, path := none, sync := none, twoStepSeq := none, delayAt := none, ppsSeconds := none } }
  s.clockState (if s.o Obj.TIME_SOURCE = 2 then 0 else 1)

end Sys2Proof.Machine
end

