-- ==== Sys2Proof/Machine/Power.lean ====
section
/-!
DEFINITION. Power: the input stage, the power-fail sequence, domain ramps, monitors and faults (17 R535 to R555).
-/
namespace Sys2Proof.Machine

/-! ### The power-fail sequence (17 R537 to R544) -/

/-- 17 Table 17-1: what starts at t = 0: POWER_FAIL, the NV close, PD78 off with a pulse cut, SAFE with reason POWER; later
events change nothing in it.  Before steward firmware starts only flash programs are blocked (17 R544). -/
def State.startPowerFail (s : State) : State :=
  if s.pwr.failing then s
  else if !s.fwUp then { s with pwr := { s.pwr with blocked := true } }
  else
    let s : State := { s with pwr := { s.pwr with failing := true } }
    let s := s.debugCap.notify 0x0071 0xFF [(2, (roundDiv (s.pwr.vin : Nat) 100).toNat)]
    let s := ((s.nvClose 1).pulseCut).cutOff 78
    (s.faultSafe 2 0x32).addCause 0x32

/-- 17 R544: the supervisor asserts internal reset; every switched domain and frame memory are off until VIN rises again. -/
def State.exhausted (s : State) : State :=
  let s := s.resetLogic 4
  { s with boot := { s.boot with phase := .off } }

/-- VIN as the supervisor sees it; from 36.0 V on the POWER cause may clear, from 35.0 V on the warning is armed. -/
def State.vinSeen (s : State) (mv : Nat) : State :=
  { s with pwr := { s.pwr with
      vin := mv, armed := s.pwr.armed || decide (35000 ≤ mv),
      okSince := if mv < 36000 then none else match s.pwr.okSince with
        | some t => some t
        | none => some s.time.mono } }

/-- VIN has fallen below a threshold. -/
def State.vinBelow (s : State) (mv : Nat) : State := s.vinSeen (min s.pwr.vin (mv - 1))

/-- POWER_FAIL_WARNING (17 R538): VIN below 34.0 V for 10 µs, while the warning is armed. -/
def execPowerFailWarning (t : Nat) (s : State) : Ans :=
  let s := s.advance t
  if s.boot.phase = .off ∨ s.pwr.armed = false then .next s
  else
    let s := s.vinBelow 34000
    let s : State := { s with pwr := { s.pwr with armed := false } }
    .next ((s.inc Obj.PWR_CNT_FAIL).startPowerFail)

/-- BROWN_OUT (17 R538): VIN below 32.0 V: the bus is fed from HOLDUP; with HOLDUP_MISSING nothing feeds it (R539, 13 R468). -/
def execBrownOut (t : Nat) (s : State) : Ans :=
  let s := s.advance t
  if s.boot.phase = .off then .next s
  else
    let s := s.vinBelow 32000
    let s : State := { s with pwr := { s.pwr with swOpen := true, under := true } }
    let s := s.inc Obj.PWR_CNT_FAIL
    if s.pwr.missing then .next s.exhausted else .next s.startPowerFail

/-- OVERVOLTAGE (17 R537): VIN at 80.0 V for 5 µs. -/
def execOvervoltage (t : Nat) (s : State) : Ans :=
  let s := s.advance t
  if s.boot.phase = .off then .next s
  else
    let s := s.vinSeen (max s.pwr.vin 80000)
    let s : State := { s with pwr := { s.pwr with swOpen := true, ovp := true } }
    .next ((s.inc Obj.PWR_CNT_OVP).startPowerFail)

/-- INPUT_SWITCH_CLOSE (17 R537, Table 17-1): VIN is back in range: at or below 78.0 V, and after a brown-out at 34.0 V or above. -/
def execInputSwitchClose (mv t : Nat) (s : State) : Ans :=
  let s := s.advance t
  if s.boot.phase = .off ∨ s.pwr.swOpen = false ∨ ¬ ((if s.pwr.under then 34000 else 32000) ≤ mv ∧ mv ≤ 78000) then .next s
  else
    let s := s.vinSeen mv
    .next { s with pwr := { s.pwr with swOpen := false, ovp := false, under := false } }

/-- 17 R539: HOLDUP has reached 20 V; what comes after tR + 100 ms comes too late. -/
def State.holdupCharged (s : State) (now : Bool) : State :=
  if now && decide (s.time.mono ≤ s.boot.tR + 100000000) then { s with pwr := { s.pwr with charged := true } } else s

/-- HOLDUP_READY (17 R539). -/
def execHoldupReady (t : Nat) (s : State) : Ans :=
  let s := s.advance t
  if s.boot.phase = .off then .next s else .next (({ s with pwr := { s.pwr with ready := true } } : State).holdupCharged true)

/-- HOLDUP_MISSING (17 R539): at tR + 100 ms HOLDUP has not reached 20 V: set and logged, and the module runs on. -/
def execHoldupMissing (t : Nat) (s : State) : Ans :=
  let s := s.advance t
  if s.alive = false ∨ s.pwr.charged = true ∨ s.pwr.missing = true ∨ s.time.mono < s.boot.tR + 100000000 then .next s
  else
    let s : State := { s with pwr := { s.pwr with missing := true } }
    .next (s.logEvt .holdupMissing 0xFF 0 [])

/-- HOLDUP_EXHAUSTED (17 R544). -/
def execHoldupExhausted (t : Nat) (s : State) : Ans :=
  let s := s.advance t
  if s.boot.phase = .off ∨ s.pwr.swOpen = false ∨ 34000 ≤ s.pwr.vin then .next s
  else .next s.exhausted

/-- POWER_CAUSE_CLEAR (17 R542). -/
def execPowerCauseClear (t : Nat) (s : State) : Ans :=
  let s := s.advance t
  let long := match s.pwr.okSince with
    | some a => decide (a + 100000000 ≤ s.time.mono)
    | none => false
  if (s.pwr.failing ∨ s.pwr.blocked) ∧ long = true ∧ 36000 ≤ s.pwr.vin ∧ s.pwr.ovp = false ∧ (s.pwr.ready ∨ s.pwr.missing) then
    let s := s.dropCause 0x32
    .next { s with pwr := { s.pwr with failing := false, blocked := false } }
  else .next s

/-! ### Domain ramps (17 R546, R550) -/

/-- 17 R550: a domain that waits may ramp now: an FPA rail waits for a discharge, and VFPA_A for VFPA_D in regulation. -/
def State.mayRamp (s : State) (d : Nat) : Bool :=
  if 70 ≤ d ∧ d ≤ 73 then !s.pwr.discharging.contains d && !s.pwr.discharging.contains (d + 4) && !s.pwr.faultOn.contains d
  else if 74 ≤ d ∧ d ≤ 77 then s.domOn (d - 4) && !s.pwr.discharging.contains d && !s.pwr.faultOn.contains d
  else true

/-- The domain whose ramp the scheduler starts next. -/
def State.nextRamp (s : State) : Option Nat := (s.pwr.want.find? (fun w => w.2 && s.mayRamp w.1)).map (·.1)

/-- DOMAIN_RAMP_START (17 R546): one ramp per 5 µs, in the scheduler's order. -/
def execDomainRampStart (d t : Nat) (s : State) : Ans :=
  let s := s.advance t
  let early := match s.pwr.lastRamp with
    | some a => decide (s.time.mono < a + 5000)
    | none => false
  if s.alive = false ∨ early = true ∨ s.nextRamp ≠ some d then .next s
  else
    let s : State := { s with pwr := { s.pwr with
      want := s.pwr.want.filter (fun w => w.1 != d), ramping := s.pwr.ramping ++ [(d, s.time.mono)], lastRamp := some s.time.mono } }
    .next (s.setO (Obj.PWR_DOM_STATE d) 1)

/-- Frame memory comes online when devices, controllers and PHYs are powered and trained (12 R413). -/
def State.memOnline (s : State) : State :=
  if s.mem.trained ∧ s.mem.online = false ∧ [46, 47, 48, 49, 50, 51].all s.domOn = true then
    { s with mem := { s.mem with online := true, selfRefresh := false, refreshAt := s.time.mono } }
  else s

/-- What a domain's coming into regulation brings beside its state. -/
def State.domUp (s : State) (d : Nat) : State :=
  if 63 ≤ d ∧ d ≤ 66 then
    { s with hk := { s.hk with conv := s.hk.conv.upd (posOf (d - 63)) (fun c => { c with settled := false, refSince := s.time.mono }) } }
  else if 46 ≤ d ∧ d ≤ 51 then s.memOnline
  else s

/-- A ramp has reached regulation; a request to switch off that waited for it takes effect (17 R546). -/
def State.rampDone (s : State) (d : Nat) : State :=
  let off := s.pwr.want.contains (d, false)
  let s : State := { s with pwr := { s.pwr with
    ramping := s.pwr.ramping.filter (fun w => w.1 != d), want := s.pwr.want.filter (fun w => w != (d, false)) } }
  let s := (s.setO (Obj.PWR_DOM_STATE d) 2).domUp d
  if off then s.wantOff d else s

/-- DOMAIN_RAMP_END (17 R546, R550): a ramp reaches regulation, or an FPA rail has discharged; the next stage proceeds. -/
def execDomainRampEnd (d t : Nat) (s : State) : Ans :=
  let s := s.advance t
  if s.pwr.ramping.any (fun w => w.1 == d) then .next (((s.rampDone d).entryStep).modeProceed)
  else if s.pwr.discharging.contains d then
    let s : State := { s with pwr := { s.pwr with discharging := s.pwr.discharging.filter (· != d) } }
    .next (s.entryStep.modeProceed)
  else .next s

/-! ### Faults (17 R548, R551 to R554) -/

/-- 17 R552: the supplies of a position go off in order and are held off; it issues no marks. -/
def State.fpaFault (s : State) (p : Pos) : State :=
  let s : State := { s with
    pwr := { s.pwr with fpaOff := s.pwr.fpaOff.set p true }, vdet := s.vdet.upd p (fun v => { v with fault := true }) }
  let s := (s.discardStarts p).railsLost p
  let s := if (s.vdet.get p).target ≠ 0 then s.vdetRamp p 0 else s
  s.heldDown

/-- Frame memory without its devices: the contents are lost, and training is gone (12 R414). -/
def State.devicesOff (s : State) : State :=
  let s : State := { s with mem := { s.mem with online := false, selfRefresh := false, trained := false } }
  s.dramLost

/-- What follows a fault by the domain (17 R548, R552, R554). -/
def State.domFaulted (s : State) (d : Nat) (inRamp : Bool) : State :=
  let s := if d = 46 ∨ d = 47 then s.devicesOff else s
  let s := if 70 ≤ d ∧ d ≤ 77 then s.fpaFault (posOf ((d - 70) % 4)) else s
  let s := match decide (d = 79), s.nv.flashOp with
    | true, some op => s.flashFailed op
    | _, _ => s
  let s := match decide (d = 78), s.shut.running with
    | true, some (x, _) => (s.pulseFault x).afterEcl
    | _, _ => s
  let under := match s.modes.running with | some r => r.target != 5 | none => false
  if under && (d != 78 || inRamp) then s.failTransition 0x20
  else if d < 70 then s.faultSafe 2 0x20
  else s

/-- 17 R548: the domain is off and reads FAULT; an FPA rail reads it and goes off in the order of R550 (R552). -/
def State.domFails (s : State) (d : Nat) : State :=
  if 70 ≤ d ∧ d ≤ 77 then
    ({ s with pwr := { s.pwr with want := s.pwr.want.filter (fun w => w.1 != d), ramping := s.pwr.ramping.filter (fun w => w.1 != d),
                                  faultOn := d :: s.pwr.faultOn } } : State).setO (Obj.PWR_DOM_STATE d) 3
  else (s.domCut d).setO (Obj.PWR_DOM_STATE d) 3

/-- 17 R548: a domain is faulted: off, held off, counted and logged. -/
def State.domFault (s : State) (d : Nat) (inRamp : Bool) : State :=
  let s := s.domFails d
  let s := (s.inc (Obj.PWR_CNT_DOM_FAULT d)).logEvt .domainFault 0xFF d [(1, d)]
  let s : State := { s with pwr := { s.pwr with bad := s.pwr.bad.set d 0 }, dbg := { s.dbg with held := s.dbg.held.filter (· != d) } }
  s.domFaulted d inRamp

/-- DOMAIN_RAMP_TIMEOUT (17 R548): regulation was not reached within the ramp bound. -/
def execDomainRampTimeout (d t : Nat) (s : State) : Ans :=
  let s := s.advance t
  match s.pwr.ramping.find? (fun w => w.1 == d) with
  | some (_, a) => if a + domBound d ≤ s.time.mono then .next (s.domFault d true) else .next s
  | none => .next s

/-! ### Monitors (17 R547, R548, R551) -/

/-- One domain's sample: shown, and counted when it lies outside regulation or above its limit while the domain is on. -/
def State.monitorDom (s : State) (mv ma : List Nat) (d : Nat) : State :=
  let st := s.dom80 d
  let v := mv.getD d 0
  let i := if st = 0 ∨ (st = 3 ∧ s.pwr.faultOn.contains d = false) then 0 else ma.getD d 0
  let n := s.domNominal d
  let bad := st == 2 && decide (100 * v < 95 * n ∨ 105 * n < 100 * v ∨ domLimit d ≤ i)
  let s := s.setOs [(Obj.PWR_DOM_V d, satU 16 v), (Obj.PWR_DOM_I d, satU 16 i), (Obj.PWR_DOM_P d, satU 16 (roundDiv (v * i : Nat) 1000))]
  let k := if bad then s.pwr.bad.getD d 0 + 1 else 0
  let s : State := { s with pwr := { s.pwr with bad := s.pwr.bad.set d k } }
  if 2 ≤ k then s.domFault d false else s

/-- The supply of a position's FPA in mW: both rails and VDET (17 Table 17-5). -/
def State.monitorFpa (s : State) (vdet : List Nat) (p : Pos) : State :=
  let ua := vdet.getD p.val 0
  let bias := roundDiv (s.vdetNow p * 5000 * ua : Nat) (16383 * 1000000)
  s.setOs [(Obj.INTG_VDET_CURRENT p.val, satU 16 ua),
    (Obj.PWR_FPA_P p.val, satU 16 (s.o (Obj.PWR_DOM_P (70 + p.val)) + s.o (Obj.PWR_DOM_P (74 + p.val)) + bias))]

/-- 17 R551: the position with the highest FPA power. -/
def State.hottestFpa (s : State) : Pos :=
  allPos.foldl (fun b p => if s.o (Obj.PWR_FPA_P b.val) < s.o (Obj.PWR_FPA_P p.val) then p else b) 0

/-- 17 R551: the sum of FPA rail power averaged over 100 ms; above 10.4 W the highest position is handled as a rail fault, and
the average starts anew. -/
def State.fpaBudget (s : State) : State :=
  let sum := (allPos.map (fun p => s.o (Obj.PWR_FPA_P p.val))).foldl (· + ·) 0
  let w := (sum :: s.pwr.window).take 100
  let total := w.foldl (· + ·) 0
  let s := ({ s with pwr := { s.pwr with window := w } } : State).setO Obj.PWR_FPA_TOTAL (satU 16 (roundDiv (total : Nat) 100))
  if total ≤ 1040000 then s
  else
    let s : State := { s with pwr := { s.pwr with overload := true, window := [] } }
    let s := (s.inc Obj.PWR_CNT_FPA_OVERLOAD).fpaFault s.hottestFpa
    if s.modes.running.isSome ∧ s.mode = Mode.prepare then s.failTransition 0x20 else s

/-- The supervisor's readings: VIN (0.01 V), input current (mA), HOLDUP (0.01 V), bus (mV). -/
def State.monitorInput (s : State) (sup : List Nat) : State :=
  let vin := sup.getD 0 0
  let iin := sup.getD 1 0
  let pin := (roundDiv (vin * iin : Nat) 100).toNat
  let s := s.vinSeen (10 * vin)
  let s := ({ s with pwr := { s.pwr with ready := decide (6800 ≤ sup.getD 2 0) } } : State).holdupCharged (decide (2000 ≤ sup.getD 2 0))
  let s := if s.fwUp then s.setO Obj.PWR_VIN_MIN (min (s.oi Obj.PWR_VIN_MIN) (satU 16 vin)) else s
  s.setOs [(Obj.PWR_VIN, satU 16 vin), (Obj.PWR_IIN, satU 16 iin), (Obj.PWR_PIN, satU 32 pin),
    (Obj.PWR_PEAK_IN, max (s.oi Obj.PWR_PEAK_IN) (satU 32 pin)), (Obj.PWR_HOLDUP_V, satU 16 (sup.getD 2 0)),
    (Obj.PWR_BUS_V, satU 16 (sup.getD 3 0))]

/-- MONITOR_SNAPSHOT (17 R547, R548, R551): all 80 domains and the supervisor's readings in one millisecond; `vdet` holds the
four VDET currents in µA. -/
def execMonitorSnapshot (mv ma vdet sup : List Nat) (t : Nat) (s : State) : Ans :=
  let s := s.advance t
  if s.alive = false then .next s
  else
    let s := (List.range 80).foldl (fun s d => s.monitorDom mv ma d) (s.monitorInput sup)
    .next ((allPos.foldl (fun s p => s.monitorFpa vdet p) s).fpaBudget)

/-- POWER_ON_HOURS (13 R446): a whole hour of firmware running counts. -/
def execPowerOnHours (t : Nat) (s : State) : Ans :=
  let s := s.advance t
  if s.fwUp then .next (s.bumpCounter 1 Obj.DEV_ON_HOURS) else .next s

end Sys2Proof.Machine
end

