-- ==== Sys2Proof/Machine/Hk.lean ====
section
/-!
DEFINITION. Housekeeping converters: scans, the result register, references, background calibration and the
shutter-temperature claim (15 R499 to R514).
-/
namespace Sys2Proof.Machine

def State.hkc (s : State) (h : Pos) : HkConv := s.hk.conv.get h
def State.setHkc (s : State) (h : Pos) (c : HkConv) : State := { s with hk := { s.hk with conv := s.hk.conv.set h c } }

/-- 15 Table 15-4, ACTIVE. -/
def State.hkOn (s : State) (h : Pos) : Bool := s.domOn (63 + h.val)

/-- 15 R506: the modes in which the converter domains are on demand. -/
def State.hkDemand (s : State) : Bool := s.mode == 0 || s.mode == 5

/-- 15 R511: the slice that serves a converter. -/
def State.sliceOf (s : State) (h : Pos) : Nat := s.o Obj.HK_SLICE_MAP / 16 ^ h.val % 16

def State.setSlice (s : State) (h : Pos) (n : Nat) : State :=
  let m := s.o Obj.HK_SLICE_MAP
  s.setO Obj.HK_SLICE_MAP ((m - m / 16 ^ h.val % 16 * 16 ^ h.val + n * 16 ^ h.val : Nat) : Int)

/-- A slice in calibration still serves this converter (15 R513, before a scan). -/
def State.calHere (s : State) (h : Pos) : Bool :=
  match s.hk.calibrating with
  | some (n, c, _) => c == h.val && n == s.sliceOf h
  | none => false

/-- Calibration goes on: enabled, no slice retired, none under way (15 R511, R513). -/
def State.mayCalibrate (s : State) : Bool := s.ob Obj.HK_CAL_EN && s.hk.retired.isEmpty && s.hk.calibrating.isNone

/-! ### Scans (15 R502 to R506) -/

/-- Channels of a scan mask, ascending. -/
def scanChannels (m : Nat) : List Nat := (List.range 24).filter (fun c => bitAt m c)

/-- 15 R513: a slice not calibrated for more than 10 s is calibrated before a scan, while calibration has not stopped. -/
def State.calStale (s : State) (h : Pos) : Bool :=
  s.hk.retired.isEmpty && decide (s.hk.sliceCal.getD (s.sliceOf h) 0 + 10000000000 < s.time.mono)

/-- 15 R513: the first converter whose scan waits for a calibration gets it in place, once it has power and its reference is settled; one slice
is calibrated at a time. -/
def State.calOwed (s : State) : State :=
  if s.hk.calibrating.isSome then s
  else
    match allPos.find? (fun h => (s.hkc h).calDue && s.hkOn h && (s.hkc h).settled) with
    | some h =>
      ({ s with hk := { s.hk with calibrating := some (s.sliceOf h, h.val, s.time.mono) } } : State).setHkc h { s.hkc h with calDue := false }
    | none => s

/-- 15 R503 to R505, R508: a START: ignored while the converter is busy; else the scan begins under the settings it finds, VALID of the
register clears, and the domain is switched on. -/
def State.hkStart (s : State) (h : Pos) : State :=
  let c := s.hkc h
  if c.busy then (s.setHkc h { c with ignored := true }).inc (Obj.HK_CNT_IGNORED h.val)
  else
    let s := s.setHkc h { c with
      busy := true, todo := scanChannels (s.o (Obj.HK_SCAN_MASK h.val)), avg := s.o (Obj.HK_AVG h.val), ref := s.o (Obj.HK_REF h.val),
      calDue := s.calStale h, first := true, idleSince := none }
    let r := s.o (Obj.HK_RESULT h.val)
    ((s.setO (Obj.HK_RESULT h.val) ((r % 2 ^ 31 : Nat) : Int)).demand (63 + h.val)).calOwed

/-- The converter is idle from now on; on demand power its domain follows after 1 ms (15 R506). -/
def State.hkIdle (s : State) (h : Pos) : State :=
  s.setHkc h { s.hkc h with busy := false, todo := [], calDue := false, idleSince := if s.hkDemand then some s.time.mono else none }

/-- 15 R502 to R504: HK_CTRL: bit 0 START, bit 1 ABORT; both, and a START with an empty mask, refused with PARAM_CONFLICT. -/
def State.cmdHkCtrl (via : Via) (h : Pos) (v : Nat) (s : State) : Res :=
  s.cmd via (Obj.HK_CTRL h.val) 1 (anyOf 1 v) noPre (fun s =>
    match v % 4 with
    | 0 => .ok s
    | 1 => if scanChannels (s.o (Obj.HK_SCAN_MASK h.val)) = [] then .error Abort.param else .ok (s.hkStart h)
    | 2 => .ok (if (s.hkc h).busy then s.hkIdle h else s)
    | _ => .error Abort.param)

/-- HK_CTRL_START (15 R503). -/
def execHkCtrlStart (via : Via) (h : Fin 4) (t : Nat) (s : State) : Ans :=
  .next (s.runCommand via (Obj.HK_CTRL h.val) t (State.cmdHkCtrl via h 1))

/-- HK_CTRL_ABORT (15 R504). -/
def execHkCtrlAbort (via : Via) (h : Fin 4) (t : Nat) (s : State) : Ans :=
  .next (s.runCommand via (Obj.HK_CTRL h.val) t (State.cmdHkCtrl via h 2))

/-- 15 Table 15-1: the divider of a channel. -/
def hkDivider (ch : Nat) : Nat :=
  match ch with
  | 17 => 8
  | 18 => 40
  | 20 => 2
  | 21 => 2
  | _ => 1

/-- 15 R500: V_ref in µV: INTERNAL, the voltage on the REFIN ball, or the 1.8 V analogue supply at its nominal value (log 65). -/
def hkVref (ref refin : Nat) : Nat := if ref = 0 then 2500000 else if ref = 1 then refin else 1800000

/-- 15 R499: the code of a voltage in µV at the ball, through the divider of its channel; against no reference it saturates
(log 65). -/
def hkCode (vref ch v : Nat) : Nat :=
  if vref = 0 then 4095 else min 4095 (roundDiv ((4096 * v : Nat) : Int) (hkDivider ch * vref)).toNat

/-- The codes of successive voltages at a channel, under a reference. -/
def hkCodes (ref ch refin : Nat) (volts : List Nat) : List Nat := volts.map (hkCode (hkVref ref refin) ch)

/-- 15 R502: the result of a channel from its 2^A codes. -/
def hkResult (avg : Nat) (codes : List Nat) : Nat :=
  let sum := ((codes.take (2 ^ (avg % 16))).map (min 4095)).foldl (· + ·) 0
  (roundDiv (sum : Nat) (2 ^ (avg / 16 % 16))).toNat

/-- 15 R507 to R510: a result is written; one that was never read within the scan is an overrun. -/
def State.hkWrite (s : State) (h : Pos) (ch value : Nat) : State :=
  let c := s.hkc h
  let lost := !c.first && bitAt (s.o (Obj.HK_RESULT h.val)) 30
  let s := s.setO (Obj.HK_RESULT h.val) ((3 * 2 ^ 30 + b2n lost * 2 ^ 29 + ch % 32 * 2 ^ 24 + value % 2 ^ 20 : Nat) : Int)
  let s := s.setHkc h { c with first := false, overrun := c.overrun || lost }
  if lost then s.inc (Obj.HK_CNT_OVERRUN h.val) else s

/-- HK_CONVERSION_RESULT (15 R499, R502): the next channel of the scan has been converted 2^A times, at `volts` in µV at its
input and `refin` in µV on the REFIN ball, under the settings of its START (R505). -/
def execHkConversionResult (h : Fin 4) (volts : List Nat) (refin t : Nat) (s : State) : Ans :=
  let s := s.advance t
  let c := s.hkc h
  match c.todo with
  | [] => .next s
  | ch :: rest =>
    if c.busy = false ∨ s.hkOn h = false ∨ c.settled = false ∨ c.calDue = true ∨ s.calHere h = true ∨ volts.length < 2 ^ (c.avg % 16) then .next s
    else
      let s := s.hkWrite h ch (hkResult c.avg (hkCodes c.ref ch refin volts))
      let s := s.setHkc h { s.hkc h with todo := rest }
      if rest = [] then .next ((s.incWrap (Obj.HK_SCAN_COUNT h.val)).hkIdle h) else .next s

/-! ### Reads (15 R509, R510) -/

/-- 15 R514: the shutter-temperature claim of a converter: the position that eclipses in ACCUMULATE with this source. -/
def State.claimant (s : State) (h : Pos) : Option Pos :=
  allPos.find? (fun p => s.o (Obj.ECL_PHASE p.val) == 4 &&
    ((s.ecl.get p).params.map (fun q => q.targetMode == 1 && q.tsrc != 0xFF && q.tsrc / 16 == h.val)).getD false)

/-- 15 Table 15-4. -/
def State.hkStatus (s : State) (h : Pos) : Nat :=
  let c := s.hkc h
  b2n (s.hkOn h) + 2 * b2n c.busy + 4 * b2n c.settled + 8 * b2n c.ignored + 16 * b2n c.overrun + 32 * b2n (s.claimant h).isSome +
    64 * b2n c.calFault + 128 * b2n (s.expertOn (Obj.HK_STATUS h.val))

/-- A read of HK_RESULT: FRESH is seen once. -/
def State.readHkResult (s : State) (h : Pos) : State × Nat :=
  let r := s.o (Obj.HK_RESULT h.val)
  (s.setO (Obj.HK_RESULT h.val) ((withBit r 30 false : Nat) : Int), r)

/-- A read of HK_STATUS clears START_IGNORED and OVERRUN. -/
def State.readHkStatus (s : State) (h : Pos) : State × Nat :=
  (s.setHkc h { s.hkc h with ignored := false, overrun := false }, s.hkStatus h)

/-- HK_RESULT_READ (15 R509). -/
def execHkResultRead (via : Via) (h : Fin 4) (t : Nat) (s : State) : Ans :=
  .next ((s.advance t).onPath via (fun s => (((s.touch via).readHkResult h).1).emit (.value ((s.touch via).readHkResult h).2)))

/-- HK_STATUS_READ (15 R510). -/
def execHkStatusRead (via : Via) (h : Fin 4) (t : Nat) (s : State) : Ans :=
  .next ((s.advance t).onPath via (fun s => (((s.touch via).readHkStatus h).1).emit (.value ((s.touch via).readHkStatus h).2)))

/-! ### Reference and power (15 R500, R506) -/

/-- ns until a reference has settled. -/
def refSettle (ref : Nat) : Nat := if ref = 0 then 200000 else if ref = 1 then 100000 else 10000

/-- HK_REF_SETTLED (15 R500). -/
def execHkRefSettled (h : Fin 4) (t : Nat) (s : State) : Ans :=
  let s := s.advance t
  let c := s.hkc h
  if s.hkOn h ∧ c.settled = false ∧ c.refSince + refSettle (s.o (Obj.HK_REF h.val)) ≤ s.time.mono then
    .next (s.setHkc h { c with settled := true }).calOwed
  else .next s

/-- HK_DOMAIN_OFF (15 R506): 1 ms after BUSY cleared on demand power. -/
def execHkDomainOff (h : Fin 4) (t : Nat) (s : State) : Ans :=
  let s := s.advance t
  let c := s.hkc h
  match c.idleSince with
  | some a =>
    if s.hkDemand ∧ c.busy = false ∧ a + 1000000 ≤ s.time.mono then
      .next ((s.setHkc h { c with idleSince := none }).wantOff (63 + h.val))
    else .next s
  | none => .next s

/-! ### Background calibration (15 R511 to R513) -/

/-- 15 R512: a hand-over needs the converter idle and REF_SETTLED. -/
def State.calMay (s : State) (h : Pos) : Bool := !(s.hkc h).busy && s.hkOn h && (s.hkc h).settled

/-- 15 R511: the spare takes the converter over and the released slice calibrates. -/
def State.handSlice (s : State) (h : Pos) : State :=
  ({ s with hk := { s.hk with calibrating := some (s.sliceOf h, h.val, s.time.mono) } } : State).setSlice h s.hk.spare

/-- The turn goes to the converter behind, in a period that began so. -/
def State.turnOn (s : State) (at_ : Nat) : State := { s with hk := { s.hk with turn := (s.hk.turn + 1) % 4, lastTurn := at_ } }

/-- 15 R511, R512: the turn of a period: its converter is handed over as soon as it may be; one that stays busy for the whole period is passed
over, and the turn of the next period is the next converter's. -/
def State.calTurn (s : State) : State :=
  let period := 1000000 * s.o Obj.HK_CAL_PERIOD
  let k := (s.time.mono - s.hk.lastTurn) / period
  let start := s.hk.lastTurn + k * period
  let h := posOf s.hk.turn
  if s.calMay h then (s.handSlice h).turnOn start
  else if k < 2 then s
  else
    let s := s.turnOn (start - period)
    let h := posOf s.hk.turn
    if s.calMay h then (s.handSlice h).turnOn start else s

/-- HK_CALIBRATION_TURN (15 R511). -/
def execHkCalibrationTurn (t : Nat) (s : State) : Ans :=
  let s := s.advance t
  if s.alive ∧ s.mayCalibrate = true ∧ s.hk.lastTurn + 1000000 * s.o Obj.HK_CAL_PERIOD ≤ s.time.mono then .next s.calTurn
  else .next s

/-- 15 R513: a calibration ends: the slice is the spare, or serves on when it was calibrated in place; beyond ±16 LSB or ±1 %
it is retired and the spare serves. -/
def State.calEnd (s : State) (n c : Nat) (good : Bool) : State :=
  let h := posOf c
  let place := s.sliceOf h == n
  let s : State := { s with hk := { s.hk with calibrating := none, sliceCal := s.hk.sliceCal.set n s.time.mono } }
  let s := s.inc Obj.HK_CNT_CAL
  if good then (if place then s else { s with hk := { s.hk with spare := n } })
  else
    let s := if place then s.setSlice h s.hk.spare else s
    let s : State := { s with hk := { s.hk with retired := s.hk.retired ++ [n] } }
    let s : State := { s with hk := { s.hk with conv := s.hk.conv.map (fun x => { x with calDue := false }) } }
    (s.setHkc h { s.hkc h with calFault := true }).logEvt .calFault 0xFF n [(1, n), (1, c)]

/-- 15 R513: the slice being calibrated has power: with its converter's domain when in place, else as the spare, which in STANDBY and SAFE
has it only while some converter's domain is on. -/
def State.slicePowered (s : State) (n c : Nat) : Bool :=
  if s.sliceOf (posOf c) = n then s.hkOn (posOf c) else !s.hkDemand || allPos.any s.hkOn

/-- HK_CALIBRATION_COMPLETE (15 R511, R513): after 2.0 ms, while the slice has power (log 65); `offset` in LSB, `gain` in 0.01 %.  A
calibration that a scan waits for begins then. -/
def execHkCalibrationComplete (offset gain : Int) (t : Nat) (s : State) : Ans :=
  let s := s.advance t
  match s.hk.calibrating with
  | some (n, c, a) =>
    if a + 2000000 ≤ s.time.mono ∧ s.slicePowered n c = true then
      .next (s.calEnd n c (decide (-16 ≤ offset ∧ offset ≤ 16 ∧ -100 ≤ gain ∧ gain ≤ 100))).calOwed
    else .next s
  | none => .next s

/-! ### The shutter-temperature claim (15 R514) -/

/-- 15 R514: the engineering value of a code of an input, in 0.01 °C. -/
def State.engValue (s : State) (h input code : Nat) : Int :=
  satS 32 (roundDiv (code * s.oi (Obj.HK_ENG_GAIN h input)) 65536 + s.oi (Obj.HK_ENG_OFFSET h input))

/-- The input that ECL_SHUT_TSRC names on its converter. -/
def State.shutterInput (s : State) (p : Pos) : Nat := (((s.ecl.get p).params.map (·.tsrc)).getD 0) % 16

/-- A sample joins the mean of the eclipsing position. -/
def State.shutterSample (s : State) (p : Pos) (code : Nat) : State :=
  let e := s.ecl.get p
  let q := (e.params.map (·.tsrc)).getD 0
  s.setEcl p { e with tshSum := e.tshSum + s.engValue (q / 16) (q % 16) (min code 4095), tshN := e.tshN + 1 }

/-- 15 R514: a claimed converter that is idle takes its next sample, 1 ms after the last. -/
def State.samples (s : State) (h : Pos) : Bool :=
  (s.claimant h).isSome && !(s.hkc h).busy && s.hkOn h && (s.hkc h).settled &&
    (match (s.hkc h).sampled with | some a => decide (a + 1000000 ≤ s.time.mono) | none => true)

/-- SHUTTER_TEMP_CONVERSION (15 R514): one sample of the claimed converter, every 1 ms while it is idle: 16 conversions, shifted by 4, of
`volts` in µV at the named input. -/
def execShutterTempConversion (volts : List Nat) (refin t : Nat) (s : State) : Ans :=
  let s := s.advance t
  match if volts.length < 16 then none else allPos.find? s.samples with
  | some h =>
    match s.claimant h with
    | some p =>
      .next ((s.setHkc h { s.hkc h with sampled := some s.time.mono }).shutterSample p
        (hkResult 0x44 (hkCodes (s.o (Obj.HK_REF h.val)) (s.shutterInput p) refin volts)))
    | none => .next s
  | none => .next s

end Sys2Proof.Machine
end

