-- ==== Sys2Proof/Machine/HostPort.lean ====
section
/-!
DEFINITION. The PCI Express endpoint and frame memory as the host reaches it (12 R408, R415 to R424, R437, 02 R45).
-/
namespace Sys2Proof.Machine

/-! ### The endpoint (12 R421, R437) -/

/-- 12 Table 12-13, ACTIVE: the PCIe domains are powered. -/
def State.hostActive (s : State) : Bool := s.domOn 58 && s.domOn 59

/-- The link may train: the port is enabled, powered, and out of reset. -/
def State.linkMay (s : State) : Bool := s.host.enabled && s.host.perstN && s.hostActive

/-- Rates 1 to 4 and widths x1, x2, x4. -/
def linkShape (rate lanes : Nat) : Bool := decide (1 ≤ rate ∧ rate ≤ 4) && (lanes == 1 || lanes == 2 || lanes == 4)

/-- 12 R421: the link trains at a rate and width. -/
def State.linkTrain (s : State) (rate lanes : Nat) : State :=
  if s.linkMay && linkShape rate lanes then
    ({ s with host := { s.host with link := true } } : State).setO Obj.HP_LINK ((rate * 16 + lanes : Nat) : Int)
  else s

/-- What a reset of the function clears: latches, the host-port session, MSI-X state, the power state, and what the host has programmed
in the configuration space. -/
def State.functionReset (s : State) : State :=
  { s with
    bar0 := { s.bar0 with latch := none, held := none },
    host := { s.host with d3hot := false, busMaster := false, msixEn := false, fnMask := false, vecMask := 0xFFFFFFFF,
                          vecPend := 0, msixTable := List.replicate 96 0, bars := [0, 0, 0, 0], devCtl := 0x2810, latch := none,
                          session := none, challenge := none } }

/-- PCIE_PERST_RELEASE (02 R45, 12 R421): the endpoint leaves reset and its link trains, unless the host port is disabled. -/
def execPciePerstRelease (rate lanes t : Nat) (s : State) : Ans :=
  let s := s.advance t
  .next (({ s with host := { s.host with perstN := true } } : State).linkTrain rate lanes)

/-- PCIE_PERST_ASSERT (12 R421, R437): the host port is held in reset; channels stop at once. -/
def execPciePerstAssert (t : Nat) (s : State) : Ans :=
  let s := s.advance t
  if !s.host.perstN then .next s
  else
    let s := ((s.dmaDrop).functionReset).setO Obj.HP_LINK 0
    .next { s with host := { s.host with perstN := false, link := false } }

/-- PCIE_LINK_DOWN (12 R437). -/
def execPcieLinkDown (t : Nat) (s : State) : Ans :=
  let s := s.advance t
  if !s.host.link then .next s
  else .next ((({ s with host := { s.host with link := false } } : State).dmaDrop).setO Obj.HP_LINK 0)

/-- PCIE_LINK_UP (12 R421). -/
def execPcieLinkUp (rate lanes t : Nat) (s : State) : Ans := .next ((s.advance t).linkTrain rate lanes)

/-- FLR (12 R437): channels stop, and latches, host-port session and MSI-X state are reset. -/
def execFlr (t : Nat) (s : State) : Ans :=
  let s := s.advance t
  if s.host.link then .next s.dmaDrop.functionReset else .next s

/-- 12 R423, R437: the function enters D3hot. -/
def State.enterD3hot (s : State) : State := ({ s with host := { s.host with d3hot := true } } : State).dmaDrop

/-- D3HOT_ENTRY (12 R423, R437). -/
def execD3hotEntry (t : Nat) (s : State) : Ans :=
  let s := s.advance t
  if !s.host.link || s.host.d3hot then .next s else .next s.enterD3hot

/-- 12 R424: the pending vectors that nothing masks are sent. -/
def State.sendPending (s : State) : State :=
  (List.range 32).foldl (fun s v =>
    if bitAt s.host.vecPend v && !bitAt s.host.vecMask v && s.host.msixEn && !s.host.fnMask && !s.host.d3hot && s.host.link then
      ({ s with host := { s.host with vecPend := withBit s.host.vecPend v false } } : State).emit (.msix v)
    else s) s

/-- 12 R423, R424: the function leaves D3hot; what is pending and not masked is sent. -/
def State.leaveD3hot (s : State) : State := ({ s with host := { s.host with d3hot := false } } : State).sendPending

/-- D3HOT_EXIT (12 R423). -/
def execD3hotExit (t : Nat) (s : State) : Ans := .next (s.advance t).leaveD3hot

/-- MSIX_VECTOR_UNMASK (12 R424): `fn` enables MSI-X with the function unmasked; otherwise one vector is unmasked.  The function mask
is set through the configuration space. -/
def execMsixVectorUnmask (fn : Bool) (v t : Nat) (s : State) : Ans :=
  let s := s.advance t
  if !s.host.link || s.host.d3hot then .next s
  else if fn then .next (({ s with host := { s.host with msixEn := true, fnMask := false } } : State).sendPending)
  else if v < 32 then
    .next (({ s with host := { s.host with vecMask := withBit s.host.vecMask v false } } : State).sendPending)
  else .next s

/-! ### Frame memory through BAR2 (12 R415 to R419) -/

/-- The bytes of a range are open to host writes now: the host region, or the base, slot and drift-sum planes of a position
whose set is OPEN (12 Table 12-1, 04 R153). -/
def State.hostWritable (s : State) (a n : Nat) : Bool :=
  decide (0xA0000000 ≤ a ∧ a + n ≤ 2 ^ 33) ||
    allPos.any (fun p => decide (posBase p ≤ a ∧ a + n ≤ posBase p + 0x9000000) && s.coefState p == 2)

/-- The positions whose region a range touches. -/
def regionsOf (a n : Nat) : List Pos := allPos.filter (fun p => decide (a < posBase p + 0x10000000 ∧ posBase p < a + n))

/-- 12 R417: a dropped write counts in the position regions it touches, or as blocked, and is logged. -/
def State.blockedWrite (s : State) (a n : Nat) : State :=
  let ps := regionsOf a n
  (if ps.isEmpty then s.inc Obj.HP_CNT_BLOCKED
   else ps.foldl (fun s p => s.inc (Obj.CORR_CNT_HOST_BLOCKED p.val)) s).logEvt .bar2Drop 0xFF 0 [(8, a), (4, n)]

/-- The host's accesses of the last 10 ms. -/
def State.recentBw (s : State) : List (Nat × Nat) := s.host.bw.filter (fun c => decide (s.time.mono < c.1 + 10000000))

/-- 12 Table 12-11: `n` more bytes of the host's traffic. -/
def State.traffic (s : State) (n : Nat) : State := { s with host := { s.host with bw := (s.time.mono, n) :: s.recentBw } }

/-- 12 Table 12-11, MEM_HOST_BW: the traffic of the last 10 ms in MB/s, rounded (00 R9). -/
def State.hostBw (s : State) : Nat := (roundDiv (((s.recentBw.map (·.2)).foldl (· + ·) 0 : Nat) : Int) 10000).toNat

/-- 12 R416: an access while the controllers are off. -/
def State.offlineHit (s : State) : State :=
  ({ s with mem := { s.mem with offlineAccess := true } } : State).inc Obj.MEM_CNT_OFFLINE

/-- BAR2_WRITE (12 R416, R417): the write is applied, or dropped whole. -/
def execBar2Write (addr : Nat) (bytes : List Byte) (t : Nat) (s : State) : Ans :=
  let s := s.advance t
  if 2 ^ 33 < addr + bytes.length then .fault .barRange
  else if !s.host.link then .next s
  else if s.host.d3hot then .next (s.emit .unsupported)
  else if !s.mem.online then .next s.offlineHit
  else if s.hostWritable addr bytes.length then .next ((s.setDram addr bytes).traffic bytes.length)
  else .next (s.blockedWrite addr bytes.length)

/-- BAR2_OFFLINE_ACCESS (12 R416, R417): with the controllers off a read of `n` bytes completes with zero data and a write is
dropped; with them running a read returns the bytes. -/
def execBar2OfflineAccess (addr n : Nat) (write : Bool) (t : Nat) (s : State) : Ans :=
  let s := s.advance t
  if !s.host.link || (s.mem.online && write) then .next s
  else if s.host.d3hot then .next (s.emit .unsupported)
  else if s.mem.online then .next ((s.emit (.bytes (s.dram addr n))).traffic n)
  else if write then .next s.offlineHit else .next (s.offlineHit.emit (.bytes (List.replicate n 0#8)))

/-- DRAM_REFRESH_MODE_READ (12 R408): the refresh-rate codes of the two devices, every 32 ms. -/
def execDramRefreshModeRead (r0 r1 t : Nat) (s : State) : Ans :=
  let s := s.advance t
  if s.mem.online ∧ s.mem.refreshAt + 32000000 ≤ s.time.mono then
    .next (({ s with mem := { s.mem with refreshAt := s.time.mono } } : State).setOs
      [(Obj.MEM_DEV_REFRESH 0, ((r0 % 256 : Nat) : Int)), (Obj.MEM_DEV_REFRESH 1, ((r1 % 256 : Nat) : Int))])
  else .next s

/-- 12 Table 12-12: `MEM_STATUS`, but the bits cleared on read are as they stand. -/
def State.memStatus (s : State) : Nat :=
  b2n s.mem.trained + 2 * b2n s.mem.online + 4 * b2n s.mem.selfRefresh + 8 * b2n s.mem.retrained + 16 * b2n s.mem.offlineAccess +
    32 * b2n (bitAt (s.o Obj.EXPERT_STATUS) 16)

/-- 12 Table 12-13: `HP_STATUS`. -/
def State.hpStatus (s : State) : Nat :=
  b2n s.hostActive + 2 * b2n s.host.link + 4 * b2n s.host.busMaster + 8 * b2n s.host.msixEn + 16 * b2n s.host.d3hot

end Sys2Proof.Machine
end

