-- ==== Sys2Proof/Machine/Integ.lean ====
section
/-!
DEFINITION. Commits of the pending settings, the VDET outputs and the statistics block (07 R256 to R268, R278 to R282, 10
R368).
-/
namespace Sys2Proof.Machine

/-! ### Commit and discard (07 R261 to R268) -/

/-- 07 R261: a COMMIT refused by its own checks counts at each of its positions. -/
def State.commitRefused (s : State) (mask code : Nat) : State :=
  if code = Abort.param ∨ code = Abort.state then s.countRefused mask else s

/-- 07 R262, R267: GEN_COMMIT to the positions of bits 3:0. -/
def State.cmdGenCommit (via : Via) (v : Nat) (s : State) : Res :=
  s.cmd via Obj.GEN_COMMIT 1 (anyOf 1 v) noPre (fun s => s.commit (v % 16))

/-- GEN_COMMIT (07 R261, R262). -/
def execGenCommit (via : Via) (v : Nat) (t : Nat) (s : State) : Ans :=
  .next ((s.advance t).onPath via (fun s =>
    let s := s.writeOf via
    match State.cmdGenCommit via v s with
    | .ok s' => s'
    | .error c => (s.commitRefused (v % 16) c).refuse via Obj.GEN_COMMIT c))

/-- 10 Table 10-5: the frames a COMMIT to a mask first governs. -/
def State.commitFrames (s : State) (mask : Nat) : List Byte :=
  [byteOf mask, 0#8, 0#8, 0#8] ++
    allPos.flatMap (fun p => beBytes 4 (if bitAt mask p.val then s.o (Obj.GEN_COMMIT_FRAME p.val) else 0))

/-- 10 R368: the chain form of GEN_COMMIT. -/
def State.chainCommit (s : State) (r : Req) : State × Reply :=
  let mask := beAt r.payload 0 1 % 16
  if s.reqLevel r < 1 then (s, .error Abort.access)
  else
    match s.commit mask with
    | .ok s' => (s', .ok (s'.commitFrames mask))
    | .error c => (s.commitRefused mask c, .error c)

/-- COMMIT (10 R368, R369, 07 R261 to R267). -/
def execCommit (r : Req) (s : State) : Ans :=
  .next (s.onTelegram r .anyDst 4 (fun s => s.once r 0x04 (fun s => s.chainCommit r)))

/-- 07 R268: GEN_DISCARD of the positions of bits 3:0. -/
def State.cmdGenDiscard (via : Via) (v : Nat) (s : State) : Res :=
  s.cmd via Obj.GEN_DISCARD 1 (anyOf 1 v) noPre (fun s => s.discardGen (v % 16))

/-- GEN_DISCARD (07 R268). -/
def execGenDiscard (via : Via) (v : Nat) (t : Nat) (s : State) : Ans :=
  .next (s.runCommand via Obj.GEN_DISCARD t (State.cmdGenDiscard via v))

/-! ### VDET (07 R256 to R259) -/

def State.setVdet (s : State) (p : Pos) (v : VdetPos) : State := { s with vdet := s.vdet.set p v }

/-- VDET_SETTLE (07 R257): the settle instant has passed. -/
def execVdetSettle (p : Pos) (t : Nat) (s : State) : Ans :=
  let s := s.advance t
  match (s.vdet.get p).settleAt with
  | some a => if a ≤ s.time.now then .next (s.setVdet p { s.vdet.get p with settleAt := none, settled := a }) else .next s
  | none => .next s

/-- A ramp has reached its target: 100 µs of settling follow (07 R257). -/
def State.rampEnded (s : State) (p : Pos) (at_ : Nat) : State :=
  (s.setO (Obj.INTG_VDET_OUT p.val) (((s.vdet.get p).target : Nat) : Int)).setVdet p
    { s.vdet.get p with rampEnd := none, settleAt := some (at_ + 100000) }

/-- VDET_RAMP_END (07 R257, R258, 17 R550): the ramp ends, and the supply sequence of a transition goes on. -/
def execVdetRampEnd (p : Pos) (t : Nat) (s : State) : Ans :=
  let s := s.advance t
  match (s.vdet.get p).rampEnd with
  | some a => if a ≤ s.time.now then .next ((s.rampEnded p a).modeProceed) else .next s
  | none => .next s

/-- 07 R259: the output is switched to 0 V and held there. -/
def State.vdetFault (s : State) (p : Pos) (ma : Nat) : State :=
  let s := (s.setVdet p { s.vdet.get p with target := 0, rampEnd := none, settleAt := none, fault := true }).railsLost p
  let s := ((s.setO (Obj.INTG_VDET_OUT p.val) 0).inc (Obj.INTG_CNT_VDET_FAULT p.val)).notify 0x0020 p.val [(2, ma)]
  if s.mode = Mode.prepare then s.failTransition 0x20 else s

/-- VDET_OVERCURRENT (07 R259): more than 50 mA for 1 ms; the current told in the NOTIFY is a free value (log 10). -/
def execVdetOvercurrent (p : Pos) (t : Nat) (s : State) : Ans :=
  let s := s.advance t
  if s.vdetNow p = 0 then .next s
  else .next (({ s with free := s.free + 1 } : State).vdetFault p (Config.measured s.free p.val))

/-! ### The statistics block (07 R278 to R282) -/

/-- The published block as read over the chain, and as held in memories; zeros before the first publication (07 R281). -/
def State.statBE (s : State) (p : Pos) : List Byte :=
  if (s.stat.get p).published then blockBE (s.stat.get p).blockBE else List.replicate 6788 0#8
def State.statLE (s : State) (p : Pos) : List Byte :=
  if (s.stat.get p).published then blockLE (s.stat.get p).blockLE else List.replicate 6788 0#8

def State.setStat (s : State) (p : Pos) (x : StatPos) : State := { s with stat := s.stat.set p x }

/-- 12 Table 12-1: the latch buffer of a position. -/
def latchAddr (p : Pos) : Nat := 0x90000000 + 0x2000 * p.val

/-- 07 R280: the published block goes into the latch buffer. -/
def State.latchStat (s : State) (p : Pos) : State :=
  (s.setDram (latchAddr p) (s.statLE p)).setStat p { s.stat.get p with latch := some (s.o (Obj.STAT_FRAME p.val)) }

/-- 07 R280: STAT_LATCH. -/
def State.cmdStatLatch (via : Via) (p : Pos) (v : Nat) (s : State) : Res :=
  s.cmd via (Obj.STAT_LATCH p.val) 0 (anyOf 1 v)
    (fun s => if !s.mem.online then Abort.state else if (s.stat.get p).latch.isSome then Abort.busy else 0)
    (done (fun s => s.latchStat p))

/-- STAT_LATCH (07 R280). -/
def execStatLatch (via : Via) (p : Pos) (v : Nat) (t : Nat) (s : State) : Ans :=
  .next (s.runCommand via (Obj.STAT_LATCH p.val) t (State.cmdStatLatch via p v))

/-- STAT_LATCH_COMPLETE (07 R280, 12 Table 12-9): STAT_LATCHED_FRAME is written last, and the request line asserted. -/
def execStatLatchComplete (p : Pos) (t : Nat) (s : State) : Ans :=
  let s := s.advance t
  match (s.stat.get p).latch with
  | some f =>
    .next (((s.setStat p { s.stat.get p with latch := none }).setO (Obj.STAT_LATCHED_FRAME p.val) ((f : Nat) : Int)).requestLine
      (4 + p.val))
  | none => .next s

/-- The session a snapshot belongs to; the paths without a session have numbers of their own. -/
def viaSession : Via → Nat
  | .chain id => id
  | .host => 2 ^ 32
  | .mailbox => 2 ^ 32 + 1
  | .module => 2 ^ 32 + 2

/-- 07 R279: the snapshot a session reads from: the one it holds, unless it reads byte 0 again or 1 s has passed. -/
def State.snapshot (s : State) (p : Pos) (session offset : Nat) (now : List Byte) : State × List Byte :=
  let x := s.stat.get p
  match x.snaps.find? (fun c => c.1 == session && offset != 0 && decide (s.time.mono < c.2.2 + 1000000000)) with
  | some c => (s, c.2.1)
  | none => (s.setStat p { x with snaps := (session, now, s.time.mono) :: x.snaps.filter (fun c => c.1 != session) }, now)

/-- 07 R279, R282: bytes of STAT_BLOCK as a path reads them: most significant byte first over the chain and the mailbox,
least over BAR0. -/
def State.statRead (s : State) (via : Via) (p : Pos) (offset len : Nat) : State × List Byte :=
  let b := if via = .host then s.statLE p else s.statBE p
  let r := s.snapshot p (viaSession via) offset b
  (r.1, (r.2.drop offset).take len)

/-- STAT_BLOCK_READ (07 R279, R281, R282). -/
def execStatBlockRead (via : Via) (p : Pos) (offset len : Nat) (t : Nat) (s : State) : Ans :=
  .next ((s.advance t).onPath via (fun s =>
    (((s.touch via).statRead via p offset len).1).emit (.bytes ((s.touch via).statRead via p offset len).2)))

/-- STAT_SNAPSHOT_RELEASE (07 R279): a snapshot is released 1 s after it was taken. -/
def execStatSnapshotRelease (p : Pos) (session : Nat) (t : Nat) (s : State) : Ans :=
  let s := s.advance t
  let x := s.stat.get p
  .next (s.setStat p { x with
    snaps := x.snaps.filter (fun c => !(c.1 == session && decide (c.2.2 + 1000000000 ≤ s.time.mono))) })

end Sys2Proof.Machine
end

