-- ==== Sys2Proof/Machine/IngotOps.lean ====
section
/-!
DEFINITION. Ingots: the rings a frame takes slots in, the datagrams of an ingot, and their completion (09 R327 to R343,
01 R25, 12 R412, R431).
-/
namespace Sys2Proof.Machine

/-! ### Slots for a frame (09 R327 to R329, R343) -/

/-- 09 R329: outside SERVICE an ingot needs a valid lease, or LOCAL_ONLY. -/
def State.leaseOrLocal (s : State) : Bool := s.leaseValid || s.inForce Obj.LOCAL_ONLY == 1

/-- 09 R329: image ingots leave in PREPARE, RUN and ECLIPSE. -/
def State.mayImage (s : State) (mode : Nat) : Bool := (mode == 1 || mode == 2 || mode == 3) && s.leaseOrLocal

/-- 09 R329: tap ingots leave in SERVICE too, then without a lease. -/
def State.mayTap (s : State) (mode : Nat) : Bool := mode == 4 || s.mayImage mode

/-- A tap takes this frame (09 R338), unless its destination is 0.0.0.0 (R327); T6 ignores decimation. -/
def FrameCtx.tapOn (x : FrameCtx) (p : Pos) (n : Nat) : Bool :=
  x.n (Obj.TAP_EN n) == 1 && x.n (Obj.TAP_DST n) != 0 && x.n (Obj.TAP_POS n) == p.val && (n == 6 || x.num % x.n (Obj.TAP_DECIM n) == 0)

/-- The image streams of a frame: ring, stream code, port, destination (09 R327). -/
def FrameCtx.images (x : FrameCtx) (p : Pos) : List (Nat × Nat × Nat × Nat) :=
  ([0, 1] : List Nat).filterMap (fun b =>
    let dst := x.n (if b = 0 then Obj.OUT_IMG_DST0 p.val else Obj.OUT_IMG_DST1 p.val)
    if bitAt (x.n (Obj.OUT_IMG_PORT p.val)) b && dst != 0 then some (b, 0, b, dst) else none)

/-- The taps of a frame: ring, stream code, port, destination. -/
def FrameCtx.tapStreams (x : FrameCtx) (p : Pos) (ns : List Nat) : List (Nat × Nat × Nat × Nat) :=
  (ns.filter (x.tapOn p)).map (fun n => (2 + n, 0x10 + n, x.n (Obj.TAP_PORT n), x.n (Obj.TAP_DST n)))

/-- A slot as it is taken for a frame. -/
def FrameCtx.slotFor (x : FrameCtx) (p : Pos) (q : Nat × Nat × Nat × Nat) : RingSlot :=
  { freeSlot with pos := p.val, frame := x.num, stream := q.2.1, port := q.2.2.1, dst := q.2.2.2, role := x.role, epoch := x.epoch }

/-- The first slot of a ring that meets a test. -/
def State.slotWhere (s : State) (r : Nat) (f : RingSlot → Bool) : Option Nat :=
  (List.range (s.ring r).slots.length).find? (fun k => f (s.slot r k))

/-- 09 R343: the oldest waiting ingot of a ring that no channel holds. -/
def State.oldestWaiting (s : State) (r : Nat) : Option Nat :=
  (List.range (s.ring r).slots.length).foldl (fun (best : Option Nat) k =>
    if (s.slot r k).st = 2 ∧ (s.slot r k).held = false then
      match best with
      | some j => if (s.slot r k).order < (s.slot r j).order then some k else best
      | none => some k
    else best) none

/-- A frame that gets no ingot in a ring counts (09 R343). -/
def State.ringFull (s : State) (r : Nat) : State :=
  if r < 2 then s.inc (Obj.OUT_CNT_RING_FULL r)
  else
    let n := r - 2
    ({ s with taps := s.taps.set n { s.taps.getD n TapSt.reset with lastDropped := true } } : State).inc (Obj.TAP_CNT_DROP n)

/-- 09 R343: a slot is taken for one stream of a frame, by the ring's policy where none is free. -/
def State.takeFor (s : State) (x : FrameCtx) (p : Pos) (q : Nat × Nat × Nat × Nat) : State :=
  let r := q.1
  match s.slotWhere r (fun y => y.st == 0) with
  | some k => s.takeSlot r k (x.slotFor p q)
  | none =>
    match s.oldestWaiting r with
    | some k =>
      if r < 2 ∧ x.n (Obj.OUT_FULL_POLICY r) = 1 then ((s.release r k).ringFull r).takeSlot r k (x.slotFor p q) else s.ringFull r
    | none => s.ringFull r

/-- 09 R343: the slots of a frame are taken at its hand-over. -/
def State.takeSlots (s : State) (x : FrameCtx) (p : Pos) : State :=
  let im := if s.mayImage x.mode then x.images p else []
  let ta := if s.mayTap x.mode then x.tapStreams p [0, 1, 2, 3, 4, 5, 7] else []
  (im ++ ta).foldl (fun s q => s.takeFor x p q) s

/-! ### Datagrams (09 R330 to R336) -/

/-- 09 Table 09-4 without its CRC. -/
def State.provenance (s : State) (x : FrameCtx) (p : Pos) : List Byte :=
  let st := b2n x.short + 2 * b2n x.long + 4 * b2n x.notReady + 8 * b2n x.eclipsed + 16 * b2n x.throttled + 32 * b2n x.clipped +
    64 * b2n x.heritage + 128 * b2n x.subt.isSome + 256 * b2n x.geom + 512 * b2n x.overflow
  fieldsBE ([(4, x.num), (1, p.val), (1, x.mode), (2, x.txn), (8, x.trigT), (8, x.start), (8, x.trigE), (1, x.trigKind),
      (1, x.ackMask), (2, st)] ++ x.times.map (fun v => (4, v)) ++
    [(4, x.settingsGen), (4, x.coefGen), (8, x.eclAge), (8, x.driftAge), (2, x.subt.getD 0), (1, x.throttle), (1, x.close),
      (1, x.role), (1, x.station), (2, x.n (Obj.INTG_VDET p.val)), (4, x.epoch), (1, x.n (Obj.CORR_TERM_MASK p.val)),
      (1, x.n (Obj.TAIL_STRENGTH p.val)), (2, x.trigSeq), (4, x.coefTag), (4, s.boot.version), (4, x.eclCount), (148, 0)])

/-- What the packet headers of one ingot have in common. -/
structure IngotId where
  stream : Nat
  pos : Nat
  slot : Nat
  role : Nat
  fmt : Nat
  frame : Nat
  epoch : Nat
deriving DecidableEq, Repr

/-- One datagram before it is numbered: KIND, ROW, COL0, COUNT, what follows the packet header. -/
abbrev Dgram := Nat × Nat × Nat × Nat × List Byte

/-- 09 Table 09-2. -/
def packetHeader (i : IngotId) (seq index : Nat) (last : Bool) (d : Dgram) : List Byte :=
  fieldsBE [(2, 0x4B49), (1, 1), (1, d.1), (1, i.stream), (1, i.slot * 16 + i.pos), (1, i.role), (1, i.fmt), (4, i.frame),
    (4, i.epoch), (4, seq), (2, d.2.1), (2, d.2.2.1), (2, d.2.2.2.1), (1, b2n last), (1, 0), (4, index)]

/-- 09 R334: the datagrams of a row of `size`-byte samples, `n` samples each. -/
def rowDgrams (row x0 size n : Nat) (samples : List Byte) : List Dgram :=
  (chunks (n * size) (samples.length + 1) samples).zipIdx.map (fun c => (2, row, x0 + c.2 * n, c.1.length / size, c.1))

/-- 09 R336: the datagrams of a trailer. -/
def trailerDgrams (limit : Nat) (b : List Byte) : List Dgram :=
  if b.isEmpty then [(3, 0xFFFF, 0, 0, [])]
  else (chunks limit (b.length + 1) b).zipIdx.map (fun c => (3, 0xFFFF, c.2 * limit, c.1.length, c.1))

/-- 09 Table 09-3: bytes 32 to 63 of the ingot header. -/
def ingotHeader (x0 y0 w h decim size n trailer station : Nat) : List Byte :=
  fieldsBE [(2, x0), (2, y0), (2, w), (2, h), (1, decim), (1, size), (2, 0), (4, n), (4, trailer), (8, Config.deviceId),
    (1, station), (3, 0)]

/-- The payloads of an ingot in sending order: header, rows, trailer (09 Table 09-1).  STREAM_SEQ is given when a datagram
is sent; until then it is a free value (log 10). -/
def ingotPayloads (free : Nat) (i : IngotId) (head : Nat → List Byte) (rows trailer : List Dgram) : List (List Byte) :=
  let n := rows.length + trailer.length + 1
  let all : List Dgram := (1, 0, 0, 320, head n) :: (rows ++ trailer)
  all.zipIdx.map (fun d => packetHeader i (Config.measured free d.2) d.2 (d.2 + 1 == n) d.1 ++ d.1.2.2.2.2)

/-- 09 Table 09-6. -/
def OutPx.word (q : OutPx) : Nat :=
  32768 * b2n q.invalid + 16384 * b2n q.sat + 8192 * b2n q.blended + 2048 * (q.range % 4) + 1024 * b2n q.clip +
    512 * b2n q.restart + 256 * b2n q.replaced + 128 * b2n q.unreplaced

/-- A sample of the image stream: T16, or T16F (09 Table 09-5). -/
def OutPx.sample (fmt : Nat) (q : OutPx) : List Byte := beBytes 2 q.t ++ if fmt = 1 then beBytes 2 q.word else []

/-- The image ingot of a frame on a port. -/
def State.imageIngot (s : State) (p : Pos) (d : DoneFrame) (y : RingSlot) : List (List Byte) :=
  let x := d.ctx
  let fmt := x.n (Obj.OUT_IMG_FMT p.val)
  let size := if fmt = 1 then 4 else 2
  let lim := s.dLimit y.port
  let i : IngotId := { stream := 0, pos := p.val, slot := 0, role := y.role, fmt := fmt, frame := x.num, epoch := y.epoch }
  let prov := s.provenance x p
  let rows := d.rows.flatMap (fun r => rowDgrams r.row 0 size (lim / size) (r.px.flatMap (·.sample fmt)))
  ingotPayloads s.free i
    (fun n => ingotHeader 0 0 x.width x.height 1 size n 6788 x.station ++ prov ++ beBytes 4 (crc32 prov))
    rows (trailerDgrams lim (blockBE d.stat))

/-- The ingot of a tap on its port. -/
def State.tapImage (s : State) (p : Pos) (d : DoneFrame) (y : RingSlot) : List (List Byte) :=
  let x := d.ctx
  let n := y.stream - 0x10
  let mine := d.taps.filter (fun r => r.1 == n)
  let fmt := tapFmt n x.heritage
  let size := fmtBytes fmt
  let lim := s.dLimit y.port
  let wx := clipSpan (x.n (Obj.TAP_WIN_X n)) x.width
  let wy := clipSpan (x.n (Obj.TAP_WIN_Y n)) x.height
  let slot := if n ≤ 3 then x.n (Obj.TAP_SLOT n) else if n = 6 then (mine.head?.map (·.2.1)).getD 0 else 0
  let decim := if n = 6 then 1 else x.n (Obj.TAP_DECIM n)
  let i : IngotId := { stream := y.stream, pos := p.val, slot := slot, role := y.role, fmt := fmt, frame := x.num, epoch := y.epoch }
  let prov := s.provenance x p
  let rows := mine.flatMap (fun r => rowDgrams r.2.2.1 wx.1 size (lim / size) (r.2.2.2.flatMap (beBytes size)))
  ingotPayloads s.free i
    (fun k => ingotHeader wx.1 wy.1 wx.2 wy.2 decim size k 0 x.station ++ prov ++ beBytes 4 (crc32 prov)) rows (trailerDgrams lim [])

/-! ### Completion (01 R25, 09 R344, R346, 12 R431, R433) -/

/-- An ingot is complete in its slot: its bytes stand in frame memory, and it waits; while its port's link is down it is
discarded (09 R346). -/
def State.completeSlot (s : State) (p : Pos) (d : DoneFrame) (r k : Nat) : State :=
  let y := s.slot r k
  if !(s.outPort (y.port == 1)).link then s.discardSlot .link r k
  else
    let ps := if r < 2 then s.imageIngot p d y else s.tapImage p d y
    let bytes := ps.flatten
    let n := (s.ring r).count + 1
    let s : State := { (s.setDram y.addr bytes) with ingots := s.ingots + 1, free := s.free + 1 }
    let s : State := { s with rings := s.rings.set r { s.ring r with count := n } }
    let s := s.setSlot r k { y with st := 2, len := bytes.length, lens := ps.map (fun b => b.length), seq := n % 2 ^ 32, order := s.ingots }
    let s := if r < 2 then s else
      { s with taps := s.taps.set (r - 2) { s.taps.getD (r - 2) TapSt.reset with lastDropped := false } }
    s.requestLine (8 + r)

/-- The slots that a frame is being written into. -/
def State.filling (s : State) (p : Pos) (num : Nat) : List (Nat × Nat) :=
  s.allSlots.filter (fun a => (s.slot a.1 a.2).st == 1 && (s.slot a.1 a.2).pos == p.val && (s.slot a.1 a.2).frame == num)

/-- The ingots of a drained frame are complete; a frame dropped under DROP_FRAME leaves its image slots (03 R98). -/
def State.completeFrame (s : State) (p : Pos) (d : DoneFrame) : State :=
  (s.filling p d.ctx.num).foldl (fun s a =>
    if a.1 < 2 ∧ d.dropped = true then s.release a.1 a.2 else s.completeSlot p d a.1 a.2) s

/-- A mean of tap T6 takes its slot when it is ready (09 R337, 06 R231).  One whose frame carries a role or an epoch that is no longer
granted is discarded as the other ingots of that role were (01 R33, 10 R375). -/
def State.completeMeans (s : State) (p : Pos) (d : DoneFrame) : State :=
  let stale := s.leaseValid && (d.ctx.role != s.o Obj.LEASE_ROLE || d.ctx.epoch != s.o Obj.LEASE_EPOCH) && d.ctx.role != 0
  if !s.mayTap d.ctx.mode then s
  else if stale then (d.ctx.tapStreams p [6]).foldl (fun s q => s.inc (Obj.OUT_CNT_LEASE_DISCARD q.2.2.1)) s
  else
    (d.ctx.tapStreams p [6]).foldl (fun s q =>
      match s.slotWhere q.1 (fun y => y.st == 0) with
      | some k => (s.takeSlot q.1 k (d.ctx.slotFor p q)).completeSlot p d q.1 k
      | none => s.ringFull q.1) s

/-- The oldest frame of a position that has drained is complete in every ring it has a slot in. -/
def State.ingotsDone (s : State) (p : Pos) : State :=
  match (s.pipe.get p).done with
  | [] => s
  | d :: rest =>
    let s := s.setPipe p { s.pipe.get p with done := rest }
    if d.rows.isEmpty ∧ d.stat.isEmpty then s.completeMeans p d else s.completeFrame p d

end Sys2Proof.Machine
end

