-- ==== Sys2Proof/Machine/Output.lean ====
section
/-!
DEFINITION. The output ports: links, PAUSE, ARP, ICMP, the egress of ingots and their datagrams (09 R320 to R347).
-/
namespace Sys2Proof.Machine

/-- The value of a Mode setting of a port in force. -/
def State.portSet (s : State) (k : Nat) : Nat := (s.inForce k).toNat

def State.outIp (s : State) (b : Bool) : Nat := s.portSet (Obj.OUT_IP (b2n b))

/-- 09 Table 09-9, ACTIVE: MAC, SerDes and egress buffer of the port are powered (17 Table 17-2). -/
def State.outPowered (s : State) (b : Bool) : Bool :=
  s.domOn (52 + b2n b) && s.domOn (54 + b2n b) && s.domOn (56 + b2n b)

/-- 09 R323: the port is held by a PAUSE. -/
def State.held (s : State) (b : Bool) : Bool :=
  match (s.outPort b).pausedUntil with
  | some e => decide (s.time.mono < e)
  | none => false

/-- The port can transmit: its link is up; its differential pairs have no boundary cells (18 R574). -/
def State.outSends (s : State) (b : Bool) : Bool := (s.outPort b).link

/-! ### Frames other than datagrams (09 R323 to R326) -/

/-- A frame leaves, or waits for the end of a PAUSE, which covers every frame the port sends. -/
def State.sendFrame (s : State) (b : Bool) (mac : Nat) (bytes : List Byte) : State :=
  if !s.outSends b then s
  else if s.held b then s.setOutPort b { s.outPort b with waiting := (s.outPort b).waiting ++ [(mac, bytes)] }
  else s.emit (.frame (b2n b) mac bytes)

/-- An Ethernet II frame from destination to payload, padded to the Ethernet minimum (09 R322). -/
def State.etherFrame (s : State) (b : Bool) (mac etherType : Nat) (payload : List Byte) : List Byte :=
  beBytes 6 mac ++ beBytes 6 (s.portSet (Obj.OUT_MAC (b2n b))) ++ beBytes 2 etherType ++ payload ++
    List.replicate (46 - payload.length) 0#8

/-- An ARP packet of the port: operation, target hardware and protocol address (09 R325). -/
def State.arpFrame (s : State) (b : Bool) (mac op tha tpa : Nat) : List Byte :=
  s.etherFrame b mac 0x0806 (fieldsBE [(2, 1), (2, 0x0800), (1, 6), (1, 4), (2, op), (6, s.portSet (Obj.OUT_MAC (b2n b))),
    (4, s.outIp b), (6, tha), (4, tpa)])

/-- An ARP request for an address leaves as a broadcast; a gratuitous one asks for the port's own address. -/
def State.askArp (s : State) (b : Bool) (ip : Nat) : State :=
  s.sendFrame b 0xFFFFFFFFFFFF (s.arpFrame b 0xFFFFFFFFFFFF 1 0 ip)

/-- The ones' complement checksum of IPv4, ICMP and UDP. -/
def inetSum (bs : List Byte) : Nat :=
  let sum := ((List.range ((bs.length + 1) / 2)).map (fun i => beAt bs (2 * i) 2)).foldl (· + ·) 0
  let f := fun x => x % 65536 + x / 65536
  65535 - f (f (f sum))

/-- 09 R324: the IPv4 header of a packet of the port. -/
def State.ipHeader (s : State) (b : Bool) (proto dst len : Nat) : List Byte :=
  let h := fun c => fieldsBE [(1, 0x45), (1, 4 * s.portSet (Obj.OUT_DSCP (b2n b))), (2, 20 + len), (2, 0), (2, 0x4000), (1, 64),
    (1, proto), (2, c), (4, s.outIp b), (4, dst)]
  h (inetSum (h 0))

/-- 09 R324: a UDP datagram as an Ethernet frame; a checksum that comes out 0 is sent as all ones (RFC 768, log 53). -/
def State.udpFrame (s : State) (b : Bool) (mac dst : Nat) (payload : List Byte) : List Byte :=
  let port := s.portSet (Obj.OUT_UDP_PORT (b2n b))
  let len := 8 + payload.length
  let udp := fun c => fieldsBE [(2, port), (2, port), (2, len), (2, c)] ++ payload
  let sum := inetSum (fieldsBE [(4, s.outIp b), (4, dst), (1, 0), (1, 17), (2, len)] ++ udp 0)
  s.etherFrame b mac 0x0800 (s.ipHeader b 17 dst len ++ udp (if sum = 0 then 65535 else sum))

/-! ### Links (09 R320, R346, 19 R590) -/

/-- The link of a port comes up: locks as configured, and a gratuitous ARP (09 R325). -/
def State.outLinkUp (s : State) (b : Bool) : State :=
  let fec := s.portSet (Obj.OUT_SPEED (b2n b)) == 0 && s.portSet (Obj.OUT_FEC (b2n b)) == 1
  let s := s.setOutPort b { s.outPort b with link := true, blockLock := true, fecLock := fec }
  if s.outIp b = 0 then s else s.askArp b (s.outIp b)

/-- The hold of a port ends (09 R323); what waited leaves. -/
def State.endPause (s : State) (b : Bool) : State :=
  let w := (s.outPort b).waiting
  let s := s.stopHold b
  w.foldl (fun s w => s.sendFrame b w.1 w.2) (s.setOutPort b { s.outPort b with waiting := [] })

/-- A hold whose time has passed ends at that time. -/
def State.pauseExpired (s : State) (b : Bool) : State :=
  if (s.outPort b).pausedUntil.isSome && !s.held b then s.endPause b else s

/-- A port at time t. -/
def State.portAt (s : State) (b : Bool) (t : Nat) : State := (s.advance t).pauseExpired b

/-- 09 R346: the link of a port goes down: what is being sent is cut, and every ingot of the port is discarded. -/
def State.outLinkDown (s : State) (b : Bool) : State :=
  let s := s.setOutPort b { s.outPort b with link := false, blockLock := false, fecLock := false, waiting := [] }
  (s.endPause b).discardIf .link (fun x => x.port == b2n b)

/-- OUT_LINK_CHANGE (09 R346, R347): a port's link comes up while its domains are powered, or goes down. -/
def execOutLinkChange (port up : Bool) (t : Nat) (s : State) : Ans :=
  let s := s.portAt port t
  if up then
    (if s.outPowered port ∧ (s.outPort port).link = false then .next (s.outLinkUp port) else .next s)
  else if (s.outPort port).link then .next (s.outLinkDown port) else .next s

/-! ### PAUSE (09 R323) -/

/-- 09 R323: ns of `q` quanta of 512 bit times at the speed in force, rounded half to even (00 R9). -/
def State.pauseNs (s : State) (b : Bool) (q : Nat) : Nat :=
  (roundDiv ((q * 512 : Nat) : Int) (if s.portSet (Obj.OUT_SPEED (b2n b)) = 0 then 25 else 10)).toNat

/-- 09 R323: a PAUSE frame counts, and holds the port where PAUSE is enabled; a new one starts the count anew. -/
def State.pauseArrives (s : State) (b : Bool) (q : Nat) : State :=
  let s := s.inc (Obj.OUT_CNT_PAUSE (b2n b))
  if !s.ob (Obj.OUT_PAUSE_EN (b2n b)) then s
  else if q = 0 then s.endPause b
  else
    let o := s.outPort b
    s.setOutPort b { o with
      pausedUntil := some (s.time.mono + s.pauseNs b q),
      pauseStart := if o.pausedUntil.isSome then o.pauseStart else s.time.mono,
      pauseNotified := o.pausedUntil.isSome && o.pauseNotified }

/-- PAUSE_FRAME (09 R323). -/
def execPauseFrame (port : Bool) (q t : Nat) (s : State) : Ans :=
  let s := s.portAt port t
  if (s.outPort port).link then .next (s.pauseArrives port (q % 65536)) else .next s

/-- PAUSE_HOLD_EXPIRY (09 R323). -/
def execPauseHoldExpiry (port : Bool) (t : Nat) (s : State) : Ans := .next (s.portAt port t)

/-- PAUSE_HOLD_NOTIFY (09 R323): a hold without a break for 100 ms sends one NOTIFY. -/
def execPauseHoldNotify (port : Bool) (t : Nat) (s : State) : Ans :=
  let s := s.advance t
  let o := s.outPort port
  if o.pauseNotified = false ∧ (o.pausedUntil.map (fun e => decide (o.pauseStart + 100000000 ≤ min e s.time.mono))).getD false = true then
    .next ((s.setOutPort port { o with pauseNotified := true }).notify 0x0040 0xFF [(1, b2n port)])
  else .next s

/-! ### ARP (09 R325) -/

def State.arpEntry (s : State) (b : Bool) (ip : Nat) : Option ArpEntry := (s.outPort b).arp.find? (fun e => e.ip == ip)

/-- An entry is stored; beyond sixteen resolved ones the one longest without a request gives way (log 53). -/
def State.putArp (s : State) (b : Bool) (e : ArpEntry) : State :=
  let l := (s.outPort b).arp.filter (fun x => x.ip != e.ip)
  let known := l.filter (·.mac.isSome)
  let old := known.foldl (fun m x => min m x.at_) s.time.mono
  let l := if e.mac.isNone ∨ known.length < 16 then l else l.eraseP (fun x => x.mac.isSome && x.at_ == old)
  s.setOutPort b { s.outPort b with arp := e :: l }

/-- ARP_REQUEST (09 R325): a request for the port's OUT_IP is answered. -/
def execArpRequest (port : Bool) (ip mac target : Nat) (t : Nat) (s : State) : Ans :=
  let s := s.portAt port t
  if (s.outPort port).link ∧ s.outIp port ≠ 0 ∧ target = s.outIp port then
    .next (s.sendFrame port mac (s.arpFrame port mac 2 mac ip))
  else .next s

/-- ARP_REPLY (09 R325): an address that was asked for is resolved, or confirmed. -/
def execArpReply (port : Bool) (ip mac : Nat) (t : Nat) (s : State) : Ans :=
  let s := s.advance t
  match s.arpEntry port ip with
  | some e =>
    if (s.outPort port).link then
      .next (s.putArp port { e with mac := some mac, unanswered := 0, at_ := if e.mac.isNone then s.time.mono else e.at_ })
    else .next s
  | none => .next s

/-- ARP_RETRY (09 R325): an unresolved address is asked for every 1 s. -/
def execArpRetry (port : Bool) (ip : Nat) (t : Nat) (s : State) : Ans :=
  let s := s.portAt port t
  match s.arpEntry port ip with
  | some e =>
    if (s.outPort port).link ∧ e.mac.isNone ∧ e.at_ + 1000000000 ≤ s.time.mono then
      .next ((s.putArp port { e with at_ := s.time.mono }).askArp port ip)
    else .next s
  | none => .next s

/-- ARP_REFRESH (09 R325): an entry is refreshed every 60 s, and discarded after three unanswered refreshes. -/
def execArpRefresh (port : Bool) (ip : Nat) (t : Nat) (s : State) : Ans :=
  let s := s.portAt port t
  match s.arpEntry port ip with
  | some e =>
    if (s.outPort port).link ∧ e.mac.isSome ∧ e.at_ + 60000000000 ≤ s.time.mono then
      (if 3 ≤ e.unanswered then
        .next (s.setOutPort port { s.outPort port with arp := (s.outPort port).arp.filter (fun x => x.ip != ip) })
      else .next ((s.putArp port { e with at_ := s.time.mono, unanswered := e.unanswered + 1 }).askArp port ip))
    else .next s
  | none => .next s

/-! ### ICMP and other received frames (09 R322, R326) -/

/-- 09 R326: an echo reply of the same data; at most 100 in a second. -/
def State.echo (s : State) (b : Bool) (ip mac : Nat) (body : List Byte) : State :=
  let o := s.outPort b
  let fresh := decide (o.icmpAt + 1000000000 ≤ s.time.mono)
  let n := if fresh then 0 else o.icmpN
  if 100 ≤ n then s.inc (Obj.OUT_CNT_RX_DROP (b2n b))
  else
    let s := s.setOutPort b { o with icmpAt := if fresh then s.time.mono else o.icmpAt, icmpN := n + 1 }
    let m := fun c => fieldsBE [(1, 0), (1, 0), (2, c)] ++ body
    let msg := m (inetSum (m 0))
    (s.sendFrame b mac (s.etherFrame b mac 0x0800 (s.ipHeader b 1 ip msg.length ++ msg))).inc (Obj.OUT_CNT_ICMP (b2n b))

/-- 09 R322: a frame of `n` bytes before its FCS is longer than the port sends or receives. -/
def State.tooLong (s : State) (b : Bool) (n : Nat) : Bool := decide (s.portSet (Obj.OUT_MTU (b2n b)) + 18 < n + 4)

/-- ICMP_ECHO_REQUEST (09 R322, R326): a request to the port's OUT_IP is answered; `body` is the message from its
identifier on, behind 38 bytes of headers. -/
def execIcmpEchoRequest (port : Bool) (ip mac dst : Nat) (body : List Byte) (t : Nat) (s : State) : Ans :=
  let s := s.portAt port t
  if (s.outPort port).link = false then .next s
  else if s.tooLong port (38 + body.length) = false ∧ s.outIp port ≠ 0 ∧ dst = s.outIp port then .next (s.echo port ip mac body)
  else .next (s.inc (Obj.OUT_CNT_RX_DROP (b2n port)))

/-- 09 R322: a received frame is dropped for its length, its 802.1Q tag, its FCS or its address. -/
def State.rxBad (s : State) (b : Bool) (f : List Byte) (fcs : Bool) : Bool :=
  s.tooLong b f.length || beAt f 12 2 == 0x8100 || !fcs ||
    (beAt f 12 2 != 0x8808 && beAt f 0 6 != s.portSet (Obj.OUT_MAC (b2n b)) && beAt f 0 6 != 0xFFFFFFFFFFFF)

/-- 09 R323, R325, R326: the frames a port takes: ARP, PAUSE, and echo requests to its OUT_IP. -/
def State.rxTaken (s : State) (b : Bool) (f : List Byte) : Bool :=
  match beAt f 12 2 with
  | 0x0806 => true
  | 0x8808 => beAt f 14 2 == 1
  | 0x0800 => beAt f 23 1 == 1 && beAt f (14 + beAt f 14 1 % 16 * 4) 1 == 8 && s.outIp b != 0 && beAt f 30 4 == s.outIp b
  | _ => false

/-- OUT_RX_DROP (09 R322, R323, R326): every received frame that no other command takes is dropped and counted. -/
def execOutRxDrop (port : Bool) (frame : List Byte) (fcs : Bool) (t : Nat) (s : State) : Ans :=
  let s := s.advance t
  if (s.outPort port).link && (s.rxBad port frame fcs || !s.rxTaken port frame) then .next (s.inc (Obj.OUT_CNT_RX_DROP (b2n port)))
  else .next s

/-! ### The egress (09 R324, R325, R329, R344, R345) -/

/-- The addresses that ARP is not needed for: multicast, limited and subnet broadcast (09 R324). -/
def State.groupAddr (s : State) (b : Bool) (dst : Nat) : Bool :=
  let m := s.portSet (Obj.OUT_NETMASK (b2n b))
  decide (0xE0000000 ≤ dst ∧ dst ≤ 0xEFFFFFFF) || dst == 0xFFFFFFFF ||
    dst == Nat.lor (Nat.land (s.outIp b) m) (0xFFFFFFFF - m)

/-- The address whose MAC carries a unicast datagram: the destination itself inside the subnet, else the gateway. -/
def State.nextHop (s : State) (b : Bool) (dst : Nat) : Nat :=
  let m := s.portSet (Obj.OUT_NETMASK (b2n b))
  if Nat.land dst m = Nat.land (s.outIp b) m then dst else s.portSet (Obj.OUT_GATEWAY (b2n b))

/-- 09 R324, R325: the MAC address a destination is sent to, where it has one now. -/
def State.dstMac (s : State) (b : Bool) (dst : Nat) : Option Nat :=
  if 0xE0000000 ≤ dst ∧ dst ≤ 0xEFFFFFFF then some (0x01005E000000 + dst % 2 ^ 23)
  else if s.groupAddr b dst then some 0xFFFFFFFFFFFF
  else if s.portSet (Obj.OUT_ARP_STATIC (b2n b)) ≠ 0 then some (s.portSet (Obj.OUT_ARP_STATIC (b2n b)))
  else (s.arpEntry b (s.nextHop b dst)).bind (·.mac)

/-- A destination can be sent to now (09 R325). -/
def State.routed (s : State) (b : Bool) (dst : Nat) : Bool := s.outIp b != 0 && (s.dstMac b dst).isSome

/-- A stream needs a destination that is not resolved: it is asked for, once until the retry (09 R325). -/
def State.resolve (s : State) (b : Bool) (dst : Nat) : State :=
  let hop := s.nextHop b dst
  if s.outIp b = 0 ∨ hop = 0 ∨ (s.arpEntry b hop).isSome then s
  else (s.putArp b { ip := hop, mac := none, at_ := s.time.mono, unanswered := 0 }).askArp b hop

/-- 09 R344: of some waiting ingots the oldest. -/
def State.oldestOf (s : State) (l : List (Nat × Nat)) : Option (Nat × Nat) :=
  l.foldl (fun (best : Option (Nat × Nat)) a =>
    match best with
    | some z => if (s.slot a.1 a.2).order < (s.slot z.1 z.2).order then some a else best
    | none => some a) none

/-- 09 R344, R329: the ingot that goes next on a port: the oldest waiting image ingot, else the oldest waiting tap ingot. -/
def State.nextIngot (s : State) (b : Bool) : Option (Nat × Nat) :=
  let w := s.allSlots.filter (fun a => (s.slot a.1 a.2).st == 2 && (s.slot a.1 a.2).port == b2n b)
  let im := if s.mayImage s.mode then s.oldestOf (w.filter (fun a => decide (a.1 < 2))) else none
  match im with
  | some a => some a
  | none => if s.mayTap s.mode then s.oldestOf (w.filter (fun a => decide (2 ≤ a.1))) else none

/-- The datagrams of some lengths from an offset on that fit a room. -/
def fetchList (rd : Nat → Nat → List Byte) : List Nat → Nat → Nat → List (List Byte)
  | [], _, _ => []
  | n :: l, at_, room => if n ≤ room then rd at_ n :: fetchList rd l (at_ + n) (room - n) else []

/-- 09 R345: the egress FIFO fetches ahead of the ingot being sent until it holds 256 KiB. -/
def State.fetchAhead (s : State) (b : Bool) : State :=
  let o := s.outPort b
  match o.sending with
  | none => s
  | some (r, k, i, off) =>
    let n := (o.fifo.map (·.length)).sum
    let x := s.slot r k
    let more := fetchList (fun a n => s.dram (x.addr + a) n) (x.lens.drop (i + o.fifo.length)) (off + n) (262144 - n)
    s.setOutPort b { o with fifo := o.fifo ++ more }

/-- 09 R325, R344: the egress takes the next ingot; without a route it is discarded whole. -/
def State.egress (s : State) (b : Bool) : State :=
  match s.nextIngot b with
  | none => s
  | some (r, k) =>
    let x := s.slot r k
    if s.routed b x.dst then
      ((s.setSlot r k { x with st := 3 }).setOutPort b { s.outPort b with
        sending := some (r, k, 0, 0), mac := (s.dstMac b x.dst).getD 0, fifo := [] }).fetchAhead b
    else ((s.release r k).inc (Obj.OUT_CNT_NO_ROUTE (b2n b))).resolve b x.dst

/-- EGRESS_INGOT_START (09 R344). -/
def execEgressIngotStart (port : Bool) (t : Nat) (s : State) : Ans :=
  let s := s.portAt port t
  if s.outSends port ∧ s.held port = false ∧ (s.outPort port).sending.isNone then .next (s.egress port) else .next s

/-- 09 R331: the key a stream's datagrams are counted under on a port: the position of an image stream, the code of a tap. -/
def streamKey (x : RingSlot) : Nat := if x.stream = 0 then x.pos else x.stream

def State.streamSeq (s : State) (b : Bool) (k : Nat) : Nat :=
  (((s.outPort b).seq.find? (fun c => c.1 == k)).map (·.2)).getD 0

/-- 09 R343: the last datagram has been sent: the ingot counts and its slot is freed. -/
def State.ingotSent (s : State) (b : Bool) (r k : Nat) : State :=
  let s := (s.release r k).setOutPort b { s.outPort b with sending := none, fifo := [] }
  let s := s.inc (Obj.OUT_CNT_INGOTS (b2n b))
  if r < 2 then s else s.inc (Obj.TAP_CNT_INGOTS (r - 2))

/-- 09 R331, R345: the datagram in front of the FIFO leaves; STREAM_SEQ counts the datagrams the stream has sent on the
port. -/
def State.datagram (s : State) (b : Bool) (r k i off : Nat) (d : List Byte) : State :=
  let x := s.slot r k
  let q := s.streamSeq b (streamKey x)
  let o := s.outPort b
  let s := s.setDram (x.addr + off + 16) (beBytes 4 q)
  let s := s.emit (.datagram (b2n b) x.dst (s.udpFrame b o.mac x.dst (d.take 16 ++ beBytes 4 q ++ d.drop 20)))
  let s := (s.setOutPort b { o with
    seq := (streamKey x, (q + 1) % 2 ^ 32) :: o.seq.filter (fun c => c.1 != streamKey x),
    sending := some (r, k, i + 1, off + d.length), fifo := o.fifo.tail }).fetchAhead b
  let s := s.setO (Obj.OUT_CNT_DATAGRAMS (b2n b)) ((s.oi (Obj.OUT_CNT_DATAGRAMS (b2n b)) + 1) % 2 ^ 64)
  if x.lens.length ≤ i + 1 then s.ingotSent b r k else s

/-- DATAGRAM_SEND (09 R330 to R336, R345). -/
def execDatagramSend (port : Bool) (t : Nat) (s : State) : Ans :=
  let s := s.portAt port t
  match (s.outPort port).sending, (s.outPort port).fifo with
  | some (r, k, i, off), d :: _ =>
    if s.outSends port ∧ s.held port = false then .next (s.datagram port r k i off d) else .next s
  | _, _ => .next s

end Sys2Proof.Machine
end

