-- ==== Sys2Proof/Machine/Status.lean ====
section
/-!
DEFINITION. The status objects: what each status word of the chapters' tables shows of the state (02 Table 02-11, 03 Table
03-10, 04 Table 04-15, 05 Tables 05-8 to 05-10, 06 Table 06-6, 07 Tables 07-5 and 07-6, 08 Table 08-6, 09 Table 09-9, 10
Table 10-9, 11 Table 11-7, 13 Table 13-10, 14 Table 14-6, 16 Table 16-3, 17 Table 17-6, 18 Table 18-12).
-/
namespace Sys2Proof.Machine

/-- A word from its flags, bit 0 first. -/
def word : List Bool → Nat
  | [] => 0
  | b :: l => b2n b + 2 * word l

/-- The function with a bit in `EXPERT_STATUS` is under expert control (11 R391). -/
def State.expertBitOn (s : State) (n : Nat) : Bool := bitAt (s.o Obj.EXPERT_STATUS) n

/-- 02 Table 02-11. -/
def State.modeStatus (s : State) : Nat :=
  word [s.modes.orphan, s.modes.running.isSome, s.modes.armed.isSome, s.prepared, s.leaseValid, s.localOnly]

/-- The heritage order is in force at a position (S0 only). -/
def State.herAt (s : State) (p : Pos) : Bool := p == 0 && s.heritage

/-- The domain of a per-position family that starts at `d`. -/
def State.posDom (s : State) (d : Nat) (p : Pos) : Bool := s.domOn (d + p.val)

/-- The heritage pixel clock is in its range of 10 to 100 MHz (03 R72). -/
def State.pclkOk (s : State) : Bool := decide (10000000 ≤ s.o Obj.HP_PCLK_FREQ ∧ s.o Obj.HP_PCLK_FREQ ≤ 100000000)

/-- 03 Table 03-10. -/
def State.intStatus (s : State) (p : Pos) : Nat :=
  let i := s.intake.get p
  let her := s.herAt p
  word [s.enabled p && (if her then s.domOn 8 else s.posDom 9 p),
    if her then s.pclkOk else s.groupAligned (s.groupOf p), i.frm.isSome, i.lastShort, i.lastLong, i.lastGeom, her,
    s.expertBitOn 0, i.lastOvf]

/-- 03 Table 03-9, MSL_LANE_STATUS. -/
def State.laneStatus (s : State) (l : Nat) : Nat :=
  let x := s.lane l
  word [x.cdr, x.block, (match s.groupOfLane l with | some g => s.groupAligned g | none => false), s.domOn l]

/-- 04 Table 04-15.  The slices and prefetchers serve every position (17 Table 17-2). -/
def State.corrStatus (s : State) (p : Pos) : Nat :=
  word [s.enabled p && (List.range 16).all (fun k => s.domOn (13 + k)), s.enabled p && (decide (2 ≤ s.coefState p) || (s.coef.get p).notReady),
    s.act p (Obj.CORR_TERM_MASK p.val) != 0x3F, s.herAt p, (s.pipe.get p).subtHeld, (s.coef.get p).idMismatch, s.expertBitOn 1]

/-- 05 Table 05-8. -/
def State.tailStatus (s : State) (p : Pos) : Nat :=
  word [s.posDom 29 p, s.herAt p, (s.pipe.get p).lastClipped, decide (s.act p (Obj.TAIL_STRENGTH p.val) < 100),
    s.act p (Obj.TAIL_TAU_OVERRIDE p.val) != 0xFF, s.expertBitOn 2]

/-- 05 Table 05-9. -/
def State.mergeStatus (s : State) (p : Pos) : Nat :=
  word [s.posDom 33 p, (s.pipe.get p).lastSat, (s.pipe.get p).lastStaged]

/-- 05 Table 05-10: the output filters of the native order; in heritage order SNR_ACTIVE and TNR_ACTIVE show H1 and H2, the filters of
that order, though the output filters run behind them too: DESIGN CHOICE (log 80). -/
def State.radStatus (s : State) (p : Pos) : Nat :=
  let her := s.herAt p
  word ([s.posDom 33 p, s.act p (if her then Obj.HER_SNR_EN else Obj.OF_SNR_EN p.val) == 1,
    s.act p (if her then Obj.HER_TNR_EN else Obj.OF_TNR_EN p.val) == 1, false] ++
    (List.range 4).map (fun r => s.o (Obj.RAD_FORM p.val r) == 1) ++ (List.range 4).map (fun r => bitAt (s.coef.get p).nonmono r))

/-- 06 Table 06-6. -/
def State.eclStatus (s : State) (p : Pos) : Nat :=
  let e := s.ecl.get p
  let f := s.phase p
  word [s.enabled p && s.posDom 42 p, e.due, f == 1, decide (2 ≤ f), e.overdue, e.shutFault, (s.shut.closedPin.get p).isSome,
    (s.shut.openPin.get p).isSome, s.ob (Obj.ECL_DRIFT_STATE p.val), s.expertBitOn 9, s.herAt p, e.targetFallback]

/-- 07 R254: the acknowledged values, from the first START of an entry on (03 R119), differ from the governing requests as converted
by R253, under the overlay that governs with them (16 R526). -/
def State.ackMismatch (s : State) (p : Pos) : Bool :=
  let f := s.fpa.get p
  (s.coef.get p).started && ((List.range 4).any (fun k => f.effTint.getD k 0 != s.tintCount p (s.gov p (Obj.INTG_TINT p.val k)).toNat) ||
    f.effMask != overlayMask (s.therm.govDrop.get p) (s.gov p (Obj.INT_SLOT_MASK p.val)).toNat)

/-- 07 Table 07-5. -/
def State.intgStatus (s : State) (p : Pos) : Nat :=
  let v := s.vdet.get p
  let ai := s.aiRuns p
  word [s.enabled p && s.posDom 70 p && s.posDom 74 p, s.ackMismatch p, v.rampEnd.isSome || v.settleAt.isSome, v.fault,
    (s.gen.get p).aiLimit, ai && s.aiHeld p, ai, s.expertBitOn 7]

/-- 07 Table 07-6. -/
def State.statStatus (s : State) (p : Pos) : Nat :=
  let x := s.stat.get p
  word [s.posDom 38 p, x.histOut, x.published, x.latch.isSome]

/-- 08 Table 08-6. -/
def State.timeStatus (s : State) : Nat :=
  word [s.o Obj.TIME_STATE == 2, s.time.gmChanged, s.time.slewing, s.time.stepBlocked,
    (match s.time.ppsSeenAt with | some a => decide (s.time.mono < a + 1500000000) | none => false)]

/-- 08 Table 08-5, ENC_STATUS. -/
def State.encStatus (s : State) (e : Nat) : Nat :=
  let x := s.enc (e == 1)
  word [x.reverse, x.err, x.zSeen, s.domOn 67 && fieldOf (s.o (Obj.ENC_CFG e)) 1 0 != 0]

/-- 08 Table 08-5, TRIG_STATE: 0 stopped, 1 waiting, 2 running, 3 a held start is pending, 4 eclipse hold. -/
def State.trigState (s : State) (p : Pos) : Nat :=
  let g := s.trig.get p
  if !s.takesStarts p then 0
  else if s.eclHold p then 4
  else if g.held.isSome then 3
  else if (s.intake.get p).frm.isSome || !g.marks.isEmpty then 2 else 1

/-- 09 Table 09-9. -/
def State.outStatus (s : State) (b : Nat) : Nat :=
  let o := s.outPort (b == 1)
  word [s.domOn (52 + b) && s.domOn (54 + b) && s.domOn (56 + b), o.link, o.blockLock, o.fecLock, s.held (b == 1),
    o.arp.any (fun a => a.mac.isNone), s.inForce (Obj.OUT_IP b) == 0, s.expertBitOn 8]

/-- 09 Table 09-8, TAP_STATUS: sending, window clipped, last ingot dropped. -/
def State.tapStatus (s : State) (n : Nat) : Nat :=
  let at_ := allPos.filter (tapOn (fun p k => (s.act p k).toNat) n)
  let beyond := fun (p : Pos) (k g : Nat) => decide ((s.act p g).toNat ≤ fieldOf (s.act p k).toNat 26 16)
  word [at_.any (fun p => s.act p (Obj.TAP_DST n) != 0) && s.mayTap s.mode,
    at_.any (fun p => beyond p (Obj.TAP_WIN_X n) (Obj.INT_WIDTH p.val) || beyond p (Obj.TAP_WIN_Y n) (Obj.INT_HEIGHT p.val)),
    (s.taps.getD n TapSt.reset).lastDropped]

/-- 09 Table 09-8: ns transmission has been held, the hold in progress included. -/
def State.pausedTime (s : State) (b : Nat) : Nat :=
  let o := s.outPort (b == 1)
  (s.oi (Obj.OUT_PAUSED_TIME b) + ((o.pausedUntil.map (fun e => min e s.time.mono - o.pauseStart)).getD 0 : Nat)).toNat

/-- 10 Table 10-9. -/
def State.chainStatus (s : State) : Nat :=
  word [s.chain.portA.link, s.chain.portB.link, s.chain.upstreamB, s.o Obj.CHAIN_STATION != 127, s.chain.dupStation,
    s.chain.mismatch, s.fwUp]

/-- 10 Table 10-7, CHAIN_PORT_STATUS. -/
def State.portStatus (s : State) (b : Nat) : Nat :=
  let c := s.port (b == 1)
  word [c.link, c.pcs, c.an, s.chain.upstreamB == (b == 1)]

/-- 10 R377: module time at which a running lease expires. -/
def State.leaseExpiry (s : State) : Nat :=
  let hb := s.o Obj.LEASE_HB_PERIOD * 1000000
  s.chain.renewedAt + s.o Obj.LEASE_MISS_LIMIT * hb + hb / 2

/-- 10 Table 10-8, LEASE_REMAIN: µs to expiry, rounded (00 R9); 0 unless CURRENT. -/
def State.leaseRemain (s : State) : Nat :=
  if s.o Obj.LEASE_STATE = 1 then (roundDiv ((s.leaseExpiry - s.time.mono : Nat) : Int) 1000).toNat else 0

/-- 11 Table 11-7. -/
def State.devStatus (s : State) : Nat :=
  word [s.fwUp, bitAt (s.o Obj.BOOT_STATUS) 15, allPos.any (fun p => (s.vdet.get p).fault),
    allPos.any (fun p => s.enabled p && s.coefState p == 4), allPos.any (fun p => (s.ecl.get p).shutFault),
    s.o Obj.EXPERT_STATUS != 0, s.modes.orphan, s.o Obj.LEASE_STATE == 1, s.o Obj.TIME_STATE == 2, s.mode == 5,
    decide (1 ≤ s.o Obj.THERM_STATE), decide (0 < s.therm.slotSteps) || s.therm.halved, s.therm.quench, s.nv.nvFault]

/-- 13 Table 13-10. -/
def State.nvStatus (s : State) : Nat :=
  word [s.nv.keepOk, decide (s.nv.size.p0 ≠ 0), s.nv.journal.isSome, !s.nv.repairs.isEmpty,
    s.nv.keepAnneal.isSome || s.nv.storeAnneal.isSome, s.opRunning 5, s.nv.storeLow || s.areaLow 0 || s.areaLow 1, s.nv.closed,
    s.nv.counterFault, s.expertBitOn 18]

/-- 14 R485, R486: SP1 answers an external master now: it is shared, and the module does not own the bus. -/
def State.sp1Serves (s : State) : Bool := s.sp1Shared && !s.serial.owned

/-- 14 R487: SP0 serves as a slave. -/
def State.sp0Serves (s : State) : Bool := s.ob Obj.SP0_SLAVE

/-- 14 Table 14-6: SP_STATUS of SP0 (0) or SP1 (1), the sticky bits as they stand. -/
def State.spStatus (s : State) (n : Nat) : Nat :=
  let x := s.serial
  let sticky := if n = 0 then x.slave.sticky0 else x.slave.sticky1
  let drives := if n = 0 then s.domOn 61 && !s.sp0Serves else s.domOn 62 && (!s.sp1Shared || x.owned)
  word [s.domOn (61 + n), if n = 0 then s.sp0Serves else s.sp1Serves, drives, n == 1 && x.busReq.isSome] +
    sticky % 128 / 16 * 16 + 128 * b2n (n == 1 && x.cont.isSome) + 256 * b2n (n == 1 && x.handoverTo) +
    512 * b2n (s.expertBitOn 19)

/-- 16 R518: the excluded sensors, counted. -/
def State.excludedN (s : State) : Nat := ((List.range 32).filter (fun i => bitAt (s.o Obj.THERM_EXCLUDED) i)).length

/-- 16 Table 16-3. -/
def State.thermStatus (s : State) : Nat :=
  let x := s.therm
  word [x.active, decide (1 ≤ s.o Obj.THERM_STATE), x.request, decide (0 < x.slotSteps) || x.halved, x.quench,
    decide (4 < s.excludedN), decide (0 < s.excludedN), s.expertBitOn 21, x.tripped]

/-- 17 Table 17-6. -/
def State.pwrStatus (s : State) : Nat :=
  let x := s.pwr
  word [x.ready, x.missing, decide (x.vin < 36000), x.failing, x.swOpen, x.ovp,
    (List.range 80).any (fun d => s.dom80 d == 3), x.overload, s.domOn 78, s.expertBitOn 22]

/-- 18 Table 18-12. -/
def State.secStatus (s : State) : Nat :=
  word [s.domOn 68, s.hostSession.isSome, (s.secSet Keep.tokenKey 64).isSome, (s.archiveKey).isSome, s.sec.arbRepaired,
    s.sec.zeroise, (List.range 3).any s.lockedOut]

/-! ### Every scalar that no store holds -/

/-- What a status object or another derived scalar reads; none for an object whose value is stored.  TAIL_NOISE_GAIN of S0 is 1000 in
heritage order in an imaging mode (05 R204); in STANDBY and SAFE it reads the last value of the native tail: DESIGN CHOICE (log 80). -/
def State.derived (s : State) (via : Via) (i sub : Nat) : Option Nat :=
  let p := posOf (sub - 1)
  match i with
  | 0x1002 => some Config.deviceId
  | 0x1003 => some Config.stepping
  | 0x1005 => some s.boot.version
  | 0x1006 => some Config.romVersion
  | 0x1007 => some 0x0100
  | 0x1010 => some s.devStatus
  | 0x1011 => some s.uptime
  | 0x1022 => some (s.level via)
  | 0x1034 => some (b2n s.bar0.busy.isSome + (if s.bar0.busy.isSome then 0 else s.o Obj.BAR0_DOM_STATUS / 2 * 2))
  | 0x1101 => some s.modeStatus
  | 0x1200 => some s.chainStatus
  | 0x1206 => some (s.portStatus (sub - 1))
  | 0x1215 => some s.leaseRemain
  | 0x1300 => some s.time.now
  | 0x1304 => some s.timeStatus
  | 0x1308 => some s.holdoverErr
  | 0x2006 => some (s.intStatus p)
  | 0x2085 => some (s.laneStatus (sub - 1))
  | 0x2100 => some (s.corrStatus p)
  | 0x2200 => some (s.tailStatus p)
  | 0x2203 => if p == 0 && s.heritage && s.imaging then some 1000 else none
  | 0x2300 => some (s.mergeStatus p)
  | 0x2434 => some (s.radStatus p)
  | 0x2600 => some (s.statStatus p)
  | 0x2608 => some (latchAddr (posOf ((sub - 1) / 2)))
  | 0x2700 => some (s.intgStatus p)
  | 0x2703 => some (s.vdetNow p)
  | 0x2800 => some (s.outStatus (sub - 1))
  | 0x280C => some (s.ringFill (sub - 1))
  | 0x2829 => some (s.tapStatus (sub - 1))
  | 0x2849 => some (s.pausedTime ((sub - 1) / 2))
  | 0x2900 => some (s.eclStatus p)
  | 0x2A05 => some (s.encStatus (sub - 1))
  | 0x2A1B => some (s.trigState p)
  | 0x3000 => some s.memStatus
  | 0x3003 => some s.hostBw
  | 0x3100 => some s.hpStatus
  | 0x3200 => some s.nvStatus
  | 0x3300 => some (s.spStatus (sub - 1))
  | 0x3400 => some (s.hkStatus p)
  | 0x3500 => some s.thermStatus
  | 0x3600 => some s.pwrStatus
  | 0x3700 => some s.secStatus
  | 0x3701 => some s.lifecycle
  | 0x3704 => some s.boot.svn
  | 0x3800 => some s.dbgStatus
  | 0x3801 => some s.grade
  | 0x3802 => some s.unlockedGrade
  | 0x3806 => some Config.idcode
  | _ => none

/-- What a read clears or marks as seen: GM_CHANGED, ERR, OFFLINE_ACCESS, the sticky bits of a serial port and of a
converter, and FRESH of a result. -/
def State.readEffect (s : State) (i sub : Nat) : State :=
  let h := posOf (sub - 1)
  match i with
  | 0x1304 => { s with time := { s.time with gmChanged := false } }
  | 0x2A05 => s.setEnc (sub == 2) { s.enc (sub == 2) with err := false }
  | 0x3000 => { s with mem := { s.mem with offlineAccess := false } }
  | 0x3300 =>
    let x := s.serial.slave
    { s with serial := { s.serial with slave := if sub = 1 then { x with sticky0 := 0 } else { x with sticky1 := 0 } } }
  | 0x3400 => (s.readHkStatus h).1
  | 0x3404 => (s.readHkResult h).1
  | _ => s

/-- The value of a scalar object as a read returns it: a status word, the pending value of an RWG object (11 R395), or the
stored value. -/
def State.value (s : State) (via : Via) (k : Nat) (acc : Acc) : Int :=
  match s.derived via (k / 256) (k % 256) with
  | some v => v
  | none =>
    if acc = .rwg then s.pendv ((rwgPos k).getD 0) k else s.oi k

end Sys2Proof.Machine
end

