-- ==== Sys2Proof/Machine/ReadObj.lean ====
section
/-!
DEFINITION. Reading an object (11 R384 to R390, R395, R400, R405): scalars, STR and DOM values in the byte order of the
chain (10 R364; 11 R404 gives BAR0 the same bytes), and the checks of a read.
-/
namespace Sys2Proof.Machine

/-! ### STR and DOM values -/

/-- Bytes in units of `n`, each unit reversed: memory order to wire order, or back (00 R8). -/
def swapUnits (n : Nat) (bs : List Byte) : List Byte := ((chunks n (bs.length + 1) bs).map List.reverse).flatten

/-- Bytes of an object's multi-byte fields: 4 for a linearisation table, 2 for a radiometric table, else 1. -/
def domUnit (i : Nat) : Nat := if i = 0x2108 then 4 else if 0x2400 ≤ i ∧ i ≤ 0x2403 then 2 else 1

/-- Bytes split into fields of the widths given, each field reversed. -/
def swapFields : List Nat → List Byte → List Byte
  | [], bs => bs
  | n :: l, bs => (bs.take n).reverse ++ swapFields l (bs.drop n)

/-- Widths of the fields in DATA of a logged event (10 Table 10-6, 13 Table 13-7, 18 Table 18-9). -/
def eventShape (code : Nat) : List Nat :=
  match code with
  | 0x0001 => [4]
  | 0x0002 => [4, 2]
  | 0x0020 => [2]
  | 0x0031 => [8]
  | 0x0032 => [8]
  | 0x0050 => [2]
  | 0x0051 => [4, 4]
  | 0x0053 => [2]
  | 0x0060 => [1, 1, 1, 1, 4]
  | 0x0061 => [1, 1, 2, 4]
  | 0x0070 => [2]
  | 0x0071 => [2]
  | 0x0090 => [4, 4]
  | 0x0091 => [4, 4, 4]
  | 0x0092 => [4]
  | 0x0093 => [4]
  | 0x0094 => [4]
  | 0x0095 => [4]
  | 0x00A4 => [4, 4]
  | _ => []

/-- A stored log entry in wire order (13 Table 13-6, 10 R364). -/
def entryBE (b : List Byte) : List Byte :=
  swapFields [4, 8, 8, 2, 1, 1, 4] (b.take 28) ++ swapFields (eventShape (leAt b 20 2)) (slice b 28 32) ++ (slice b 60 4).reverse

/-- The log segments the store holds, newest key first. -/
def State.segments (s : State) : List Nat :=
  ((keysOf (s.recordsIn 0 ++ s.recordsIn 1)).filter (fun k => decide (0x03000000 ≤ k ∧ k ≤ 0x03FFFFFF))).reverse

/-- The entry with a number, from the keep-array buffer or from a segment record (13 R466); zeros when it is missing. -/
def State.logEntry (s : State) (segs : List (List Byte)) (n : Nat) : List Byte :=
  let b := s.keep (Keep.log + 64 * (n % 256)) 64
  if leAt b 0 4 = n % 2 ^ 32 ∧ n < s.nv.logNext then entryBE b
  else
    match (segs.flatMap (fun r => chunks 64 (r.length / 64 + 1) r)).find? (fun e => e.length == 64 && leAt e 0 4 == n % 2 ^ 32) with
    | some e => entryBE e
    | none => List.replicate 64 0#8

/-- LOG_ENTRIES: 64 entries from LOG_FROM, oldest first. -/
def State.logEntries (s : State) : List Byte :=
  let n := s.o Obj.LOG_FROM
  let held := (List.range 64).all (fun j => leAt (s.keep (Keep.log + 64 * ((n + j) % 256)) 4) 0 4 == (n + j) % 2 ^ 32)
  let segs := if held then [] else s.segments.filterMap s.loadRecord
  (List.range 64).flatMap (fun j => s.logEntry segs (n + j))

/-- One record of MODE_TXN_HIST: the fields of 0x1103 in order, the rest of the 32 bytes zero. -/
def TxnRec.bytes (r : TxnRec) : List Byte :=
  slice (fieldsBE [(2, r.num), (1, r.frm), (1, r.target), (8, r.act), (1, r.outcome), (1, r.reason), (8, r.fin), (1, r.source)]) 0 32

/-- ECL_WINDOWS: four windows of 24 bytes. -/
def State.windowBytes (s : State) : List Byte :=
  slice (s.heldWindows.flatMap (fun w => fieldsBE [(8, w.start), (8, w.fin), (1, w.mask), (7, 0)])) 0 96

/-- CHAIN_SESSIONS: four sessions of 8 bytes. -/
def State.sessionBytes (s : State) : List Byte :=
  slice (s.liveSessions.flatMap (fun x => fieldsBE [(4, x.id), (1, x.level), (3, 0)])) 0 32

/-- SEC_KEY_STATUS: STATE, LEVEL, two reserved bytes and the KCV of the eight slots (18 Table 18-3). -/
def State.keyStatus (s : State) : List Byte :=
  (List.range 8).flatMap (fun k =>
    match s.secRec (Keep.key k) 64 with
    | some b => slice b 0 2 ++ [0#8, 0#8] ++ slice b 36 4
    | none => List.replicate 8 0#8)

/-- DBG_HELD: bit n of the 80 for PDn, bit 0 the least significant of byte 0. -/
def State.heldBytes (s : State) : List Byte :=
  (List.range 10).map (fun b => byteOf ((List.range 8).foldl (fun a j => if s.dbg.held.contains (8 * b + j) then a + 2 ^ j else a) 0))

/-- The whole value of a STR or DOM object as a read over the chain carries it. -/
def State.blob (s : State) (k : Nat) : List Byte :=
  let i := k / 256
  let sub := k % 256
  match i with
  | 0x1000 => asciiBytes "VUGIPOR"
  | 0x1001 => asciiBytes "KT4816-X1716"
  | 0x1004 => Config.lot
  | 0x1104 => ((s.modes.hist[sub - 1]?).map TxnRec.bytes).getD []
  | 0x1219 => s.sessionBytes
  | 0x2108 => swapUnits 4 (s.lutBytes (posOf (sub - 1)))
  | 0x291A => s.windowBytes
  | 0x2605 => s.statBE (posOf (sub - 1))
  | 0x3203 => s.keep (s.o Obj.NV_USER_ADDR / 256 * 256) 256
  | 0x3709 => s.keyStatus
  | 0x3711 => slice (s.dom k) 0 16
  | 0x3713 => slice (s.dom k) 0 36
  | 0x3804 => slice s.bootNonce 0 16
  | 0x3808 => s.heldBytes
  | 0x3306 => slice (s.dom k) 0 16
  | 0x3386 => if (s.dom k).isEmpty then List.replicate 16 0#8 else s.dom k
  | 0x5002 => s.logEntries
  | _ =>
    if 0x2400 ≤ i ∧ i ≤ 0x2403 then ((radTable (s.dom k)).map (beBytes 2)).flatten
    else s.dom k

/-! ### The checks of a read (11 Table 11-5) -/

/-- The row of an object, or the abort code of an index or subindex that is not implemented. -/
def Obj.find (k : Nat) : Except Nat ObjRow :=
  match Obj.row? k with
  | some r => .ok r
  | none => .error (if Obj.indexExists (k / 256) then Abort.noSubindex else Abort.noObject)

/-- An object that a read may name: NO_OBJECT, NO_SUBINDEX, WRITE_ONLY.  Every read level is L0. -/
def Obj.readable (k : Nat) : Except Nat ObjRow :=
  match Obj.find k with
  | .error c => .error c
  | .ok r => if r.acc = .wo ∨ r.acc = .cmd then .error Abort.writeOnly else .ok r

/-- A read of a scalar: the value at once, and what the read clears. -/
def State.readValue (s : State) (via : Via) (r : ObjRow) (k : Nat) : State × Int :=
  (s.readEffect (k / 256) (k % 256), s.value via k r.acc)

/-- Bytes of a STR or DOM from an offset: of STAT_BLOCK through the snapshot of the path (07 R279), of others as they
stand; and the total length. -/
def State.readBlob (s : State) (via : Via) (k offset len : Nat) : State × List Byte × Nat :=
  if k / 256 = 0x2605 then
    let r := s.statRead via (posOf (k % 256 - 1)) offset len
    (r.1, r.2, 6788)
  else
    let b := s.blob k
    (s, (b.drop offset).take len, b.length)

/-- A value of a scalar type as bytes on the chain. -/
def ObjTy.wire (t : ObjTy) (v : Int) : List Byte := beBytes t.size (t.encode v)

end Sys2Proof.Machine
end

