-- ==== Sys2Proof/Machine/Put.lean ====
section
/-!
DEFINITION. Writing a setting (11 R384 to R395, Table 11-5): the checks of a write in their order, the store it goes to, and
what a written value sets in motion.
-/
namespace Sys2Proof.Machine

/-- What a write brings: for a scalar the value in its type's width, with the length it came in and whether the bits beyond
the type extend it (11 R402); for a STR or DOM its bytes. -/
structure Written where
  num : Nat
  len : Nat
  ext : Bool
  bytes : List Byte
deriving DecidableEq, Repr

/-- A scalar in its own width. -/
def Written.scalar (t : ObjTy) (v : Nat) : Written :=
  { num := v % 256 ^ t.size, len := t.size, ext := decide (v < 256 ^ t.size), bytes := [] }

/-- The bytes of a write over the chain or through the staging buffer. -/
def Written.ofBytes (b : List Byte) : Written := { num := beNat b, len := b.length, ext := true, bytes := b }

/-- The code of the first check that fails. -/
def firstBad : List (Bool × Nat) → Option Nat
  | [] => none
  | (true, c) :: _ => some c
  | (false, _) :: l => firstBad l

/-- The lengths a STR or DOM object permits (its own table; a STR at most 64 bytes). -/
def blobLenOk (i n : Nat) : Bool :=
  match i with
  | 0x2108 => n == 4096
  | 0x3203 => decide (1 ≤ n ∧ n ≤ 256)
  | 0x3208 => decide (n ≤ 32)
  | 0x3386 => decide (16 ≤ n ∧ n ≤ 4112)
  | 0x3707 => n == 36
  | 0x370A => n == 32
  | 0x370C => n == 48
  | 0x3710 => n == 20
  | 0x3712 => n == 32
  | 0x3805 => n == 232
  | _ => if 0x2400 ≤ i ∧ i ≤ 0x2403 then n == 8192 else decide (n ≤ 64)

/-- The position whose coefficient set must be OPEN for a write of the object (04 R153; 05): none for other objects. -/
def openPos (k : Nat) : Option Pos :=
  let i := k / 256
  if 0x2106 ≤ i ∧ i ≤ 0x2108 then some (posOf (k % 256 - 1))
  else if i = 0x2505 ∨ i = 0x2506 then some 0
  else if 0x2304 ≤ i ∧ i ≤ 0x2307 then some (posOf (i - 0x2304))
  else if 0x2400 ≤ i ∧ i ≤ 0x240B then some (posOf ((i - 0x2400) % 4))
  else none

/-- The BAR0 access objects (11 Table 11-6). -/
def barObject (k : Nat) : Bool := decide (0x1030 ≤ k / 256 ∧ k / 256 ≤ 0x1037)

/-- A write that the state does not permit: BAR0 access objects and LOCAL_ONLY away from the local host, coefficient objects
of a set that is not OPEN, the slot mask while auto-integration owns it (07 R269), SP0_SLAVE outside SERVICE or with
positions enabled (14 R487), and a lower NV_KEEP_BP in SEALED (13 R442). -/
def State.putState (s : State) (via : Via) (k : Nat) (v : Int) : Bool :=
  (barObject k && via != .host) || (k == Obj.LOCAL_ONLY && via != .host && via != .module) ||
    (match openPos k with | some p => s.coefState p != 2 | none => false) ||
    (k / 256 == 0x2003 && s.aiRuns (posOf (k % 256 - 1))) ||
    (k == Obj.SP0_SLAVE && v == 1 && (s.mode != Mode.service || s.o Obj.POS_ENABLE != 0)) ||
    (k == Obj.NV_KEEP_BP && s.lifecycle == 2 && decide (v < s.oi Obj.NV_KEEP_BP))

/-- The positions whose pending sets an RWG object writes (01 R26). -/
def rwgTargets (k : Nat) : List Pos := match rwgPos k with | some p => [p] | none => allPos

/-- A write that finds its resource occupied: a pending set COMMITTED (07 R263), a converter that scans (15 R505), a channel
that runs (12 R435). -/
def State.putBusy (s : State) (acc : Acc) (k : Nat) : Bool :=
  let i := k / 256
  let sub := k % 256
  (acc == .rwg && (rwgTargets k).any (fun p => (s.gen.get p).committed)) ||
    ((i == 0x3402 || i == 0x3403 || i == 0x3405) && (s.hkc (posOf (sub - 1))).busy) ||
    (decide (0x3110 ≤ i ∧ i ≤ 0x3113) &&
      let st := s.chState (if i = 0x3112 then (sub - 1) / 2 else sub - 1)
      !(st == 0 || st == 4 || st == 5))

/-- A range that another object bounds: `TG_PHASE` lies below `TG_PERIOD` (08 Table 08-5). -/
def State.putRange (s : State) (k : Nat) (v : Int) : Bool :=
  if k / 256 = 0x2A0D then decide (v < s.oi (k - 256)) else true

/-- Values that do not go together: ECL_DEF_SET and ECL_DEF_CAP, ECL_MIN_INTERVAL and ECL_MAX_INTERVAL (06, Objects), the
three thermal thresholds (16 R520). -/
def State.putParam (s : State) (k : Nat) (v : Int) : Bool :=
  match k / 256 with
  | 0x299D => decide (v < s.oi (k - 256))
  | 0x299C => decide (s.oi (k + 256) < v)
  | 0x2906 => decide (s.oi (k + 256) < v)
  | 0x2907 => decide (v < s.oi (k - 256))
  | 0x3507 => !decide (v < s.oi Obj.THERM_THROTTLE)
  | 0x3508 => !decide (s.oi Obj.THERM_WARN < v ∧ v < s.oi Obj.THERM_QUENCH)
  | 0x3509 => !decide (s.oi Obj.THERM_THROTTLE < v)
  | _ => false

/-- 11 R389, 13 R441: the object is kept in the keep array, which cannot take it: storage is closed, or its page fails. -/
def State.keptBarred (s : State) (k : Nat) : Bool :=
  match keptAddr k with
  | some (a, n) => s.nv.closed || s.wornAt a n
  | none => false

/-- 11 R391, R392: a basic object of a function under expert control. -/
def State.basicBarred (s : State) (k : Nat) : Bool := s.expertOn k && !isExpertKey k

/-! ### The store and what follows -/

/-- The value goes to the pending sets, or to the object. -/
def State.putScalar (s : State) (r : ObjRow) (k : Nat) (v : Int) : State :=
  if r.acc = .rwg then (rwgTargets k).foldl (fun s p => s.setPending p k (r.stored v)) s
  else
    match keptAddr k with
    | some (a, n) => (s.setKeep a (leBytes n v.toNat)).setO k (r.stored v)
    | none => s.setO k (r.stored v)

/-- A generator after a write of its source, division, offset or direction (08 R301, R302). -/
def State.rearmAll (s : State) (g : Pos) : State :=
  (((s.setTg g { s.tg.get g with edges := 0 }).rearm g).rearmTimer g)

/-- What a written value sets in motion at once; `changed` when it differs from the one before. -/
def State.putEffect (s : State) (via : Via) (k : Nat) (changed : Bool) : State :=
  let i := k / 256
  let p := posOf (k % 256 - 1)
  if i = 0x1201 then { s with chain := { s.chain with dupStation := false } }
  else if i = 0x1302 ∨ i = 0x1309 then (if changed then s.newTimeSource else s)
  else if i = 0x1310 then (if s.ppsDriven then s else { s with time := { s.time with ppsOut := false } })
  else if i = 0x2A00 then s.setEnc (k % 256 == 2) { s.enc (k % 256 == 2) with zArmed := true }
  else if 0x2A08 ≤ i ∧ i ≤ 0x2A0B then s.rearmAll p
  else if i = 0x2A0C ∨ i = 0x2A0D then s.rearmTimer p
  else if i = 0x2A1D then { s with trigOut := s.trigOut.set p { s.trigOut.get p with high := false, pend := [] } }
  else if 0x2900 ≤ i ∧ i ≤ 0x29FF then s.setEstimates
  else if i = 0x2702 then (if (s.vdet.get p).rampEnd.isSome then s.vdetRamp p (s.vdet.get p).target else s)
  else if i = 0x3384 then
    (if s.ob Obj.SP1_XIP_EN then s else { s with serial := { s.serial with xip0 := none, xip1 := none, cont := none } })
  else if i = 0x3385 then (if s.ob Obj.SP1_CONT_READ then s else { s with serial := { s.serial with cont := none } })
  else if i = 0x3405 then s.setHkc p { s.hkc p with settled := false, refSince := s.time.mono }
  else if i = 0x3705 ∨ i = 0x370B then s.logWrite via k
  else s

/-- A STR or DOM setting as it is stored: tables in memory order (00 R8). -/
def State.putBlob (s : State) (k : Nat) (b : List Byte) : State := s.setDom k (swapUnits (domUnit (k / 256)) b)

/-- 11 R388: a write of an RW or RWG object: the checks of Table 11-5 in order, then the store. -/
def State.put (via : Via) (k : Nat) (x : Written) (s : State) : Res :=
  match Obj.find k with
  | .error c => .error c
  | .ok r =>
    let v := r.ty.decode x.num
    match firstBad [(r.acc == .ro, Abort.readOnly), (decide (s.level via < r.lvl), Abort.access),
        (!(if r.ty.scalar then x.len == r.ty.size else blobLenOk (k / 256) x.bytes.length), Abort.type),
        (s.basicBarred k, Abort.expert), (s.putState via k v, Abort.state), (s.putBusy r.acc k, Abort.busy),
        (r.ty.scalar && !(x.ext && r.inRange k v && s.putRange k v), Abort.range), (r.ty.scalar && s.putParam k v, Abort.param),
        (s.keptBarred k, Abort.nv)] with
    | some c => .error c
    | none =>
      let s := s.touch via
      .ok (((if r.ty.scalar then s.putScalar r k v else s.putBlob k x.bytes).putEffect via k (s.oi k != r.stored v)).markExpert k)

end Sys2Proof.Machine
end

