-- ==== Sys2Proof/Machine/Sets.lean ====
section
/-!
DEFINITION. Parameter sets (13 R464, R465, 02 R47): what a set holds, saving one, applying one, and the start-up set.
-/
namespace Sys2Proof.Machine

/-- An object that a parameter set holds: RW or RWG, but for those kept in the keep array, those of functions 0x37 and 0x38,
the BAR0 access objects, those writable only while a set is OPEN, and SP1_RAW_XFER, which no write at L2 can set (R465; log 34). -/
def inSet (r : ObjRow) (k : Nat) : Bool :=
  (r.acc == .rw || r.acc == .rwg) && (keptAddr k).isNone && k != Obj.NV_USER_DATA && k != Obj.SP1_RAW_XFER &&
    !decide (0x3700 ≤ k / 256 ∧ k / 256 ≤ 0x38FF) && !barObject k && (openPos k).isNone

/-- The keys of one line of an object table. -/
def rowKeys (r : ObjRow) : List Nat :=
  (List.range (r.i1 + 1 - r.i0)).flatMap (fun i =>
    (List.range ((r.s1 - r.s0) / r.step + 1)).map (fun j => (r.i0 + i) * 256 + r.s0 + j * r.step))

/-- The keys a set holds, in index order, with their rows. -/
def setKeys : List (Nat × ObjRow) :=
  ((Obj.rows.flatMap (fun r => ((rowKeys r).filter (inSet r)).map (fun k => (k, r)))).mergeSort (fun a b => decide (a.1 ≤ b.1)))

/-- The value a set saves: the active value of an RWG object, else the value. -/
def State.saved (s : State) (r : ObjRow) (k : Nat) : List Byte :=
  if r.ty.scalar then
    leBytes r.ty.size (r.ty.encode (if r.acc = .rwg then s.act ((rwgPos k).getD 0) k else s.oi k))
  else s.dom k

/-- One entry of a set (13 R464; fields as 00 R8 gives for the record store). -/
def State.setEntry (s : State) (x : Nat × ObjRow) : List Byte :=
  let v := s.saved x.2 x.1
  leBytes 2 (x.1 / 256) ++ [byteOf (x.1 % 256), byteOf x.2.ty.code] ++ leBytes 2 v.length ++ v

/-- The payload of set `n`. -/
def State.setPayload (s : State) (n : Nat) : List Byte :=
  asciiBytes "KTPS" ++ leBytes 2 1 ++ leBytes 2 setKeys.length ++ slice (s.dom (Obj.NV_SET_NAME n)) 0 32 ++ setKeys.flatMap s.setEntry

/-- The record key of a set (13 Table 13-5). -/
def recordKey (n : Nat) : Nat := 0x01000000 + n

/-- 13 R464: set `n` is written as the operation PARAM_SAVE. -/
def State.saveSet (n : Nat) (s : State) : Res :=
  if !s.storeOpen then .error Abort.nv
  else
    let b := s.setPayload n
    let s := ({ s with ops := { s.ops with save := some (1, n, recordKey n) } } : State).opStart 3 b.length
    .ok (s.nvWrite (RecJob.make (recordKey n) 0 b 1 0 0))

/-- 13 R464: NV_SET_SAVE; PARAM_SAVE runs in every mode but SAFE (02 Table 02-9), one at a time. -/
def State.cmdSetSave (via : Via) (v : Nat) (s : State) : Res :=
  s.cmd via Obj.NV_SET_SAVE 2 (decide (v ≤ 7))
    (fun s => if s.mode = Mode.safe then Abort.state else if s.opRunning 3 then Abort.busy else 0) (State.saveSet v)

/-- NV_SET_SAVE (13 R464). -/
def execNvSetSave (via : Via) (v t : Nat) (s : State) : Ans := .next (s.runCommand via Obj.NV_SET_SAVE t (State.cmdSetSave via v))

/-! ### Applying a set (13 R465) -/

/-- An entry: key, type code, value. -/
abbrev SetEntry := Nat × Nat × List Byte

/-- The entries of a payload, when exactly `n` fill it. -/
def entriesOf : Nat → List Byte → Option (List SetEntry)
  | 0, b => if b.isEmpty then some [] else none
  | n + 1, b =>
    let len := leAt b 4 2
    if b.length < 6 + len then none
    else (entriesOf n (b.drop (6 + len))).map ((leAt b 0 2 * 256 + leAt b 2 1, leAt b 3 1, slice b 6 len) :: ·)

/-- The entries of set `n`; none when it cannot be read or fails its checks (02 R47). -/
def State.readSet (s : State) (n : Nat) : Option (List SetEntry) :=
  match s.loadRecord (recordKey n) with
  | none => none
  | some b =>
    if slice b 0 4 = asciiBytes "KTPS" ∧ leAt b 4 2 = 1 ∧ 40 ≤ b.length then entriesOf (leAt b 6 2) (b.drop 40) else none

/-- An entry is written as a host would write it, at L2; its type must be the object's. -/
def State.putEntry (s : State) (e : SetEntry) : Res :=
  match Obj.row? e.1 with
  | some r =>
    if r.ty.code ≠ e.2.1 then .error Abort.type
    else s.put .module e.1 { num := leNat e.2.2, len := e.2.2.length, ext := true, bytes := e.2.2 }
  | none => .error Abort.noObject

/-- Entries in order; the first that is refused ends it: false. -/
def State.putEntries : List SetEntry → State → State × Bool
  | [], s => (s, true)
  | e :: l, s => match s.putEntry e with
    | .ok s' => putEntries l s'
    | .error _ => (s, false)

/-- A setting whose power-on default is the dictionary's: RW or RWG, and not kept in the keep array. -/
def isSetting (k : Nat) : Bool :=
  match Obj.row? k with
  | some r => (r.acc == .rw || r.acc == .rwg) && (keptAddr k).isNone
  | none => false

/-- The settings of a position are at their defaults, in the pending and the active set; no generation is counted, for none is committed
(01 R28). -/
def State.defaultGen (s : State) (p : Pos) : State :=
  (s.setGen p { s.gen.get p with pend := [], act := [], dirty := false, committed := false, aiWaiting := false }).setO
    (Obj.GEN_PENDING_STATE p.val) 0

/-- 13 R465: every object is at its power-on default again, in the pending and the active sets too; what a write of the default would set in
motion follows each that changes (15 R500), but the log of writes. -/
def State.defaultObjects (s : State) : State :=
  let gone := (s.od.filter (fun c => isSetting c.1)).map (·.1)
  let s : State := { s with od := s.od.filter (fun c => !isSetting c.1), doms := s.doms.filter (fun c => !isSetting c.1) }
  let s := allPos.foldl State.defaultGen s
  (gone.foldl (fun s k => if k / 65536 = 0x37 then s else s.putEffect .module k true) s).fixLoads

/-- STARTUP_SET_FAIL, and the event logged (02 R47). -/
def State.setFailed (s : State) (n : Nat) : State :=
  (s.setO Obj.BOOT_STATUS ((withBit (s.o Obj.BOOT_STATUS) 15 true : Nat) : Int)).logEvt .startupSet 0xFF n []

/-- 13 R465: the entries are written and committed to every position; when one is refused, or the COMMIT is, every object
returns to its default and STARTUP_SET_FAIL is set. -/
def State.applySet (s : State) (n : Nat) (l : List SetEntry) : State × Bool :=
  let x := State.putEntries l s
  match x.2, x.1.commit 15 with
  | true, .ok s' => (s', true)
  | true, .error _ => ((x.1.defaultObjects.countRefused 15).setFailed n, false)
  | false, _ => (x.1.defaultObjects.setFailed n, false)

/-- 13 R465: NV_SET_APPLY in STANDBY; a set that cannot be read is refused with NV and changes nothing. -/
def State.cmdSetApply (via : Via) (v : Nat) (s : State) : Res :=
  s.cmd via Obj.NV_SET_APPLY 2 (decide (v ≤ 7)) (fun s => stateIf (s.mode != Mode.standby)) (fun s =>
    match s.readSet v with
    | none => .error Abort.nv
    | some l => .ok ((s.xipRecord (recordKey v)).applySet v l).1)

/-- NV_SET_APPLY (13 R465). -/
def execNvSetApply (via : Via) (v t : Nat) (s : State) : Ans := .next (s.runCommand via Obj.NV_SET_APPLY t (State.cmdSetApply via v))

/-! ### The start of firmware, and the end of start-up (02 Table 02-1) -/

/-- The start-up set is applied: bits 14 and 15 of BOOT_STATUS; 0xFF applies none, and a set that cannot be read leaves the
power-on defaults (02 R47). -/
def State.startupSet (s : State) : State :=
  let n := s.o Obj.STARTUP_SET
  if 7 < n then s
  else
    match s.readSet n with
    | none => s.defaultObjects.setFailed n
    | some l =>
      let r := (s.xipRecord (recordKey n)).applySet n l
      if r.2 then r.1.setO Obj.BOOT_STATUS ((withBit (r.1.o Obj.BOOT_STATUS) 14 true : Nat) : Int) else r.1

/-- 02 R45, Table 02-3: the host port follows the HP_ENABLE of a start-up set that was applied or gave way to defaults; without a
set it stays as it is. -/
def State.hostPortStands (s : State) : State :=
  let ruled := bitAt (s.o Obj.BOOT_STATUS) 14 || bitAt (s.o Obj.BOOT_STATUS) 15
  let on := if ruled then s.ob Obj.HP_ENABLE else s.host.enabled
  let s : State := { s with host := { s.host with enabled := on } }
  if on then (s.wantOn 58).wantOn 59
  else
    let s := if s.host.link then ({ s with host := { s.host with link := false } } : State).dmaDrop else s
    (s.wantOff 59).wantOff 58

/-- STANDBY is entered with transaction 0x0000, unless a cause of SAFE has come before it (02 R56; log 69); the host port's setting stands, and the anti-rollback counter follows the
running image when SEC_ARB_AUTO asks it and the boot did not fall back (18 R563); the log is flushed (13 R466). -/
def State.firstStandby (s : State) : State :=
  let s := ({ s with boot := { s.boot with phase := .running } } : State).hostPortStands
  let s := if s.mode = Mode.safe then s else s.putMode Mode.standby 0 s.time.now
  (if s.ob Obj.SEC_ARB_AUTO && s.boot.tried == 0 then s.raiseArb s.boot.svn else s).flushLog.nvKick

/-- 02 R45: HP_ENABLE as the start-up set will leave it: the link of a port that the set disables never comes up (log 72). -/
def State.hostPortAsked (s : State) : Bool := (s.storeScan.startupSet).ob Obj.HP_ENABLE

/-- STEWARD_FIRMWARE_START (02 R46, Table 02-1): the identity objects and BOOT_STATUS are readable; kept values are
loaded, the domains of a quiet mode are asked on, SP1 is left on only where it serves (14 R485), a zeroisation cut short goes on (18 R567). -/
def execStewardFirmwareStart (t : Nat) (s : State) : Ans :=
  let s := s.advance t
  if s.boot.phase ≠ .verified then .next s
  else
    let s : State := { s with boot := { s.boot with phase := .firmware } }
    let s := ((s.loadKept.keptCounters.loadLease).setO Obj.BOOT_STATUS ((s.bootWord : Nat) : Int)).checkCounters
    let s : State := { s with host := { s.host with enabled := s.hostPortAsked } }
    let s := (if s.sec.zeroise then s.zeroiseKeys else s).repairArb
    .next (([46, 47, 67, 68, 58, 59] : List Nat).foldl (fun s d => if s.quietDomain d then s.wantOn d else s) s.flashRelax).debugDomain

/-- STARTUP_SET_APPLY (13 R465, 02 R47, Table 02-1): after training and the store scan. -/
def execStartupSetApply (t : Nat) (s : State) : Ans :=
  let s := s.advance t
  if s.boot.phase ≠ .firmware ∨ s.boot.scanned = false then .next s else .next (s.startupSet.fixLoads.firstStandby)

end Sys2Proof.Machine
end

