-- ==== Sys2Proof/Machine/Storage.lean ====
section
/-!
DEFINITION. Storage: writes and anneal of the keep array, record writes, repairs, compaction, format and deletions
(13 R440 to R469, 14 R481).
-/
namespace Sys2Proof.Machine

/-! ### The keep array (13 R441 to R443, R448) -/

/-- 13 R442: the byte lies in the range `NV_KEEP_BP` protects. -/
def State.keepProtected (s : State) (a : Nat) : Bool :=
  match s.o Obj.NV_KEEP_BP with
  | 0 => false
  | 1 => decide (0x60000 ≤ a)
  | 2 => decide (0x40000 ≤ a)
  | _ => true

/-- 13 Table 13-1: the item a byte of the keep array belongs to: its first byte, and the byte behind it; nothing where the table
lists no item. -/
def keepItem (a : Nat) : Nat × Nat :=
  if a < 0x10000 then (0, 0x10000)
  else if a < 0x14000 then (0x10000, 0x14000)
  else if a < 0x15000 then (0x14000, 0x15000)
  else if a < 0x15160 then (a / 32 * 32, a / 32 * 32 + 32)
  else if a < 0x16000 then (a, a)
  else if a < 0x16100 then (a / 64 * 64, a / 64 * 64 + 64)
  else if a < 0x17000 then (a, a)
  else if a < 0x20000 then (0x17000, 0x20000)
  else if a < 0x40000 then (0x20000, 0x40000)
  else if a < 0x60000 then (0x40000, 0x60000)
  else if a < 0x60100 then (0x60000, 0x60100)
  else if a < 0x60120 then (0x60100, 0x60120)
  else if a < 0x60140 then (a, a)
  else if a < 0x60160 then (0x60140, 0x60160)
  else if a < 0x60163 then (a, a + 1)
  else if a < 0x61000 then (a, a)
  else (0x61000, 0x80000)

/-- 13 R441: bytes loaded into the page buffer from an address on, its in-page offset wrapping, each with its address; of more
than 256 the last loaded at an offset stands (log 35). -/
def keepLoad (a : Nat) (bs : List Byte) : List (Nat × Byte) :=
  bs.zipIdx.map (fun x => (a / 256 * 256 + (a + x.2) % 256, x.1))

/-- 13 R441: the loaded bytes, of one page, are committed; a commit that fails with its retry leaves free values (log 9), sets NV_FAULT
and is logged. -/
def State.keepCommit (s : State) (l : List (Nat × Byte)) : State :=
  let s' := l.foldl (fun s x => s.putKeep x.1 [x.2]) s
  match l.find? (fun x => s.wornAt x.1 1) with
  | some x => s'.nvFailed x.1
  | none => s'

/-- 13 R442: a byte takes a write to address `a`: unprotected, or by the steward's guarded path, which opens for exactly the bytes
of one item. -/
def State.keepTakes (s : State) (item : Bool) (a b : Nat) : Bool :=
  !s.keepProtected b || (item && decide ((keepItem a).1 ≤ b ∧ b < (keepItem a).2))

/-- A write of which a byte was dropped counts and is logged (13 R442). -/
def State.keepDrop (s : State) (l : List (Nat × Byte)) : State :=
  match l with
  | [] => s
  | x :: _ => (s.inc Obj.NV_CNT_KEEP_DROP).log 0x0094 0xFF [(4, x.1)]

/-- KEEP_ARRAY_WRITE (13 R441, R442).  `item` is the steward's guarded path; any other write to a protected byte is dropped.  The
write of number `good` (0 the first, 1 the retry) is read back right; with 2 neither is.  An address beyond 0x7_FFFF reaches no
byte of the array (log 35). -/
def execKeepArrayWrite (addr : Nat) (bytes : List Byte) (item : Bool) (good t : Nat) (s : State) : Ans :=
  let s := s.advance t
  if 0x80000 ≤ addr ∨ s.boot.phase = .off ∨ s.boot.phase = .reset ∨ s.nv.closed = true then .next s
  else
    let l := keepLoad addr bytes
    let w := l.filter (fun x => s.keepTakes item addr x.1)
    let s := s.keepDrop (l.filter (fun x => !s.keepTakes item addr x.1))
    if w.isEmpty then .next s else .next ((s.pageIs addr 1 (decide (good < 2))).keepCommit w)

/-- 13 R443: a write of the user area.  A write of a basic object under expert control is refused (11 R392). -/
def State.cmdNvUserData (via : Via) (bytes : List Byte) (s : State) : Res :=
  s.cmdDom via Obj.NV_USER_DATA 1 (decide (1 ≤ bytes.length ∧ bytes.length ≤ 256))
    (fun s => if s.expertOn Obj.NV_USER_DATA then Abort.expert else if 3 ≤ s.o Obj.NV_KEEP_BP then Abort.state else 0) true
    (fun s =>
      if s.nv.closed || s.wornAt (s.o Obj.NV_USER_ADDR) 1 then .error Abort.nv
      else .ok (s.keepCommit (keepLoad (s.o Obj.NV_USER_ADDR) bytes)))

/-- NV_USER_DATA (13 R443, R441): `good` as for a keep-array write; a write that fails twice is refused with NV. -/
def execNvUserData (via : Via) (bytes : List Byte) (good t : Nat) (s : State) : Ans :=
  .next ((s.pageIs (s.o Obj.NV_USER_ADDR) 1 (decide (good < 2))).runCommand via Obj.NV_USER_DATA t (State.cmdNvUserData via bytes))

/-- 13 R448: an anneal of keep array and store begins. -/
def State.annealStart (s : State) : State :=
  { s with nv := { s.nv with keepAnneal := some 0, storeAnneal := if s.nv.journal.isSome then some 0 else none,
                             annealHours := s.o Obj.DEV_ON_HOURS } }

/-- The anneal period has passed since the last anneal began. -/
def State.annealDue (s : State) : Bool :=
  s.nv.keepAnneal.isNone && decide (s.nv.annealHours + s.o Obj.NV_ANNEAL_PERIOD ≤ s.o Obj.DEV_ON_HOURS)

/-- One page is read at both margins; the bytes that differ are rewritten with their values and counted. -/
def State.annealPage (s : State) (page : Nat) (weak : List Nat) : State :=
  let s := s.incBy Obj.NV_CNT_KEEP_WEAK (weak.filter (fun o => decide (o < 256))).eraseDups.length
  if page + 1 < 2048 then { s with nv := { s.nv with keepAnneal := some (page + 1) } }
  else ({ s with nv := { s.nv with keepAnneal := none } } : State).setO Obj.NV_LAST_ANNEAL ((s.time.now : Nat) : Int)

/-- KEEP_ANNEAL (13 R448): the next page of an anneal that runs, or the first of one that is due; `weak` are the offsets of
the bytes whose two reads differ. -/
def execKeepAnneal (page : Nat) (weak : List Nat) (t : Nat) (s : State) : Ans :=
  let s := s.advance t
  if !s.serving || s.nv.closed then .next s
  else
    let s := if s.annealDue then s.annealStart else s
    if s.nv.keepAnneal = some page then .next (s.annealPage page weak) else .next s

/-- 13 R448: an anneal starts at once. -/
def State.cmdNvAnnealNow (via : Via) (v : Nat) (s : State) : Res :=
  s.cmd via Obj.NV_ANNEAL_NOW 2 (anyOf 1 v) noPre (done State.annealStart)

/-- NV_ANNEAL_NOW (13 R448). -/
def execNvAnnealNow (via : Via) (v t : Nat) (s : State) : Ans :=
  .next (s.runCommand via Obj.NV_ANNEAL_NOW t (State.cmdNvAnnealNow via v))

/-! ### Store anneal (13 R463) -/

/-- Area and place of the n-th sector in ring order, the primary area first. -/
def Journal.nth (j : Journal) (n : Nat) : Option (Nat × Nat) :=
  if n < (j.ring 0).length then some (0, n)
  else if n < (j.ring 0).length + (j.ring 1).length then some (1, n - (j.ring 0).length) else none

/-- 13 R458, R463: the keys whose current record does not have two valid copies of equal contents are listed for repair. -/
def State.listFailing (s : State) : State :=
  match s.nv.journal with
  | none => s
  | some j =>
    let r0 := s.recordsIn 0
    let r1 := s.recordsIn 1
    let l := (keysOf (r0 ++ r1)).foldl (fun l k =>
      match s.currentIn r0 r1 k with
      | some c => if c.conflict || !c.both then addRepair (.rewrite k) l else l
      | none => l) s.nv.repairs
    if l = s.nv.repairs then s else s.setJournal j l

/-- Bytes of a sector of an area's ring that the cells of the flash no longer hold: each reads another value from now on (13 R463). -/
def State.decayed (s : State) (j : Journal) (a i : Nat) (flips : List (Nat × Byte)) : State :=
  flips.foldl (fun s x =>
    match s.logAt j a (i * 65536 + x.1 % 65536) with
    | some at_ => s.setFlash at_.1 at_.2 [x.2]
    | none => s) s

/-- STORE_ANNEAL (13 R463): the next sector in ring order is read: at margin where SFDP advertises margin reads, `weak` when a bit is; else the
CRC of each record is checked.  `flips` are bytes of the sector that have changed since they were written.  In every mode but SAFE,
and after every other access. -/
def execStoreAnneal (sector : Nat) (weak : Bool) (flips : List (Nat × Byte)) (t : Nat) (s : State) : Ans :=
  let s := s.advance t
  match s.nv.storeAnneal, s.nv.journal with
  | some n, some j =>
    if n ≠ sector ∨ s.mode = Mode.safe ∨ s.serving = false ∨ s.nv.closed = true ∨ s.nv.flashOp.isSome = true ∨ s.nv.job.isSome = true ∨
        s.dom80 79 = 3 then
      .next s
    else
      let next := if n + 1 < (j.ring 0).length + (j.ring 1).length then some (n + 1) else none
      let s : State := { s with nv := { s.nv with storeAnneal := next } }
      match j.nth n with
      | none => .next s
      | some (a, i) =>
        let s := s.decayed j a i flips
        if s.nv.marginReads then .next (if weak then s.compactSector a i else s) else .next s.listFailing
  | _, _ => .next s

/-! ### Flash operations and record writes (13 R454, R458, R469, 14 R481) -/

/-- FLASH_STATUS_POLL (14 R481): the device status of the program or erase in progress; `fail` is a fail bit, or that the
operation has taken more than twice its maximum time. -/
def execFlashStatusPoll (busy fail : Bool) (t : Nat) (s : State) : Ans :=
  let s := s.advance t
  match s.nv.flashOp with
  | none => .next s
  | some op =>
    let s := s.selectUsed op.1
    let closing := s.nv.closeLog.isSome
    if fail then .next (if closing then (s.flashFailed op).closeEnd false else s.flashFailed op)
    else if busy then .next s
    else .next (if closing then (s.flashReady op).closeEnd false else s.flashReady op)

/-- RECORD_WRITE_END (13 R454): the secondary COMMIT has been read back. -/
def execRecordWriteEnd (t : Nat) (s : State) : Ans :=
  let s := s.advance t
  if s.nv.closed then .next s else .next s.recordEnd

/-- The repair list may be worked on: from STANDBY onward, with nothing else in progress (13 R469). -/
def State.mayRepair (s : State) : Bool :=
  s.boot.phase == .running && s.serving && s.storeOpen && s.nv.flashOp.isNone && s.nv.job.isNone && s.nv.reclaim.isNone && s.mayProgram

/-- RECORD_REPAIR (13 R458, R469): the record at the head of the repair list is rewritten with the next SEQ to both areas. -/
def execRecordRepair (t : Nat) (s : State) : Ans :=
  let s := s.advance t
  if !s.mayRepair then .next s.askBus
  else
    match s.nv.repairs, s.nv.journal with
    | .rewrite key :: _, some j =>
      match s.current key, s.repairJob key with
      | some c, some x => if c.conflict || !c.both then .next (s.jobTake x s.nv.queue j) else .next s.repairDone.nvKick
      | _, _ => .next s.repairDone.nvKick
    | _, _ => .next s

/-- ERASE_REDONE (13 R469): the sector at the head of the repair list is erased; its end counts and logs it. -/
def execEraseRedone (t : Nat) (s : State) : Ans :=
  let s := s.advance t
  if !s.mayRepair then .next s.askBus
  else
    match s.nv.repairs with
    | .erase n :: _ => .next (s.eraseStart n)
    | _ => .next s

/-! ### Compaction and format (13 R451, R461) -/

/-- 13 R461: a long operation whose next sector does not fit what it must hand on fails with NV. -/
def State.compactStuck (s : State) : State :=
  if s.opRunning 5 && s.ops.compact == some 0 && s.nv.flashOp.isNone && s.nv.storeLow then
    ({ s with ops := { s.ops with compact := none } } : State).opEnd 5 3 Abort.nv
  else s

/-- STORE_COMPACTION (13 R461): the next tail sector is compacted, or the long operation has no sector left. -/
def execStoreCompaction (t : Nat) (s : State) : Ans :=
  let s := s.advance t
  if !s.mayRepair || !s.nv.repairs.isEmpty then .next s
  else
    match s.compactArea with
    | some a => .next (s.compactTail a).compactStuck
    | none =>
      if s.opRunning 5 && s.ops.compact == some 0 then
        .next (({ s with ops := { s.ops with compact := none } } : State).opEnd 5 2 0)
      else .next s

/-- The state and occupation checks of STORE_COMPACT. -/
def State.compactPre (modes : Nat → Bool) (s : State) : Nat :=
  if !modes s.mode then Abort.state else if s.opRunning 5 then Abort.busy else 0

/-- 13 R461: STORE_COMPACT over every sector that holds superseded records. -/
def State.cmdNvCompactGo (via : Via) (v : Nat) (s : State) : Res :=
  s.cmd via Obj.NV_COMPACT_GO 2 (anyOf 1 v) (State.compactPre (fun m => m == 0 || m == 4)) (fun s =>
    if !s.storeOpen then .error Abort.nv
    else
      let n := s.compactNeed 0 + s.compactNeed 1
      let s := ({ s with ops := { s.ops with compact := some 0 } } : State).opStart 5 n
      .ok (if n = 0 then ({ s with ops := { s.ops with compact := none } } : State).opEnd 5 2 0 else s))

/-- NV_COMPACT_GO (13 R461). -/
def execNvCompactGo (via : Via) (v t : Nat) (s : State) : Ans :=
  .next (s.runCommand via Obj.NV_COMPACT_GO t (State.cmdNvCompactGo via v))

/-- 13 R451: every store sector is erased, in SERVICE only; while a device operation runs it is refused with BUSY. -/
def State.cmdNvStoreFormat (via : Via) (v : Nat) (s : State) : Res :=
  s.cmd via Obj.NV_STORE_FORMAT 3 (anyOf 1 v)
    (fun s => if s.mode ≠ Mode.service then Abort.state
      else if s.opRunning 5 || s.opRunning 3 || s.nv.flashOp.isSome || s.nv.job.isSome then Abort.busy else 0)
    (fun s =>
      if s.nv.closed ∨ s.storeSectors = 0 ∨ s.dom80 79 = 3 then .error Abort.nv
      else .ok ((({ s with nv := { s.nv with bad := [] }, ops := { s.ops with compact := some 1 } } : State).opStart 5 s.storeSectors).formatStep 0))

/-- NV_STORE_FORMAT (13 R451). -/
def execNvStoreFormat (via : Via) (v t : Nat) (s : State) : Ans :=
  .next (s.runCommand via Obj.NV_STORE_FORMAT t (State.cmdNvStoreFormat via v))

/-! ### Deletions (13 R456, R465) -/

/-- A deletion of a key is written; refused with NV where the store takes no write, has no SEQ left or has no room (R451, R454, R461). -/
def State.deleteKey (key : Nat) (s : State) : Res :=
  match s.nv.journal with
  | none => .error Abort.nv
  | some j =>
    if s.storeOpen = false ∨ j.free 0 < 48 ∨ j.free 1 < 48 then .error Abort.nv
    else .ok (s.nvWrite (RecJob.make key 0 [] 4 0 0))

/-- 13 R465: a deletion for a parameter set. -/
def State.cmdNvSetDelete (via : Via) (v : Nat) (s : State) : Res :=
  s.cmd via Obj.NV_SET_DELETE 2 (decide (v ≤ 7)) noPre (State.deleteKey (0x01000000 + v))

/-- NV_SET_DELETE (13 R465). -/
def execNvSetDelete (via : Via) (v t : Nat) (s : State) : Ans :=
  .next (s.runCommand via Obj.NV_SET_DELETE t (State.cmdNvSetDelete via v))

/-- 13 R456: a deletion for a key of Table 13-5. -/
def State.cmdNvRecordDelete (via : Via) (v : Nat) (s : State) : Res :=
  s.cmd via Obj.NV_RECORD_DELETE 2 (keyOk v) noPre (State.deleteKey v)

/-- NV_RECORD_DELETE (13 R456). -/
def execNvRecordDelete (via : Via) (v t : Nat) (s : State) : Ans :=
  .next (s.runCommand via Obj.NV_RECORD_DELETE t (State.cmdNvRecordDelete via v))

/-! ### The NV close (13 R467) -/

/-- NV_CLOSE_FLASH_CUT (13 R467, Table 13-8): 2 ms into the close a program still running is cut. -/
def execNvCloseFlashCut (t : Nat) (s : State) : Ans :=
  let s := s.advance t
  if s.nv.closeLog.isSome ∧ s.nv.closeAt + 2000000 ≤ s.time.mono then .next s.nvCloseCut else .next s

end Sys2Proof.Machine
end

