-- ==== Sys2Proof/Machine/Thermal.lean ====
section
/-!
DEFINITION. Thermal management: the model and its sensors, the thermal states, throttling, quench and the hardware trip
(16 R515 to R534).
-/
namespace Sys2Proof.Machine

/-! ### The model and its sensors (16 R515 to R519) -/

/-- 16 R516: the grid neighbours of a sensor. -/
def gridNeighbours (i : Nat) : List Nat :=
  (if 8 ≤ i then [i - 8] else []) ++ (if i < 24 then [i + 8] else []) ++ (if i % 8 ≠ 0 then [i - 1] else []) ++
    (if i % 8 ≠ 7 then [i + 1] else [])

/-- The sensors that are not excluded among some. -/
def State.included (s : State) (l : List Nat) : List Nat := l.filter (fun i => !bitAt (s.o Obj.THERM_EXCLUDED) i)

def absI (v : Int) : Int := if v < 0 then -v else v

/-- 16 R518: a reading differs by more than `d` (0.01 K) from the mean of its neighbours, from its node's estimate. -/
def State.offNeighbours (s : State) (ts : List Int) (i : Nat) (d : Int) : Option Bool :=
  match s.included (gridNeighbours i) with
  | [] => none
  | l => some (decide (d * l.length < absI (ts.getD i 0 * l.length - (l.map (fun k => ts.getD k 0)).foldl (· + ·) 0)))

def offEstimate (es ts : List Int) (i : Nat) (d : Int) : Bool := decide (d < absI (ts.getD i 0 - es.getD i 0))

/-- 16 R518: both differences are above 6 K; without a neighbour the estimate alone judges. -/
def State.suspectNow (s : State) (es ts : List Int) (i : Nat) : Bool :=
  (s.offNeighbours ts i 600).getD true && offEstimate es ts i 600

/-- 16 R518: both differences are at or below 3 K. -/
def State.quietNow (s : State) (es ts : List Int) (i : Nat) : Bool :=
  !(s.offNeighbours ts i 300).getD false && !offEstimate es ts i 300

def State.setExcluded (s : State) (i : Nat) (b : Bool) : State :=
  s.setO Obj.THERM_EXCLUDED ((withBit (s.o Obj.THERM_EXCLUDED) i b : Nat) : Int)

/-- 16 R518: one sensor is judged: 100 suspect evaluations exclude it, 10 s of quiet ones readmit it. -/
def State.judgeSensor (s0 : State) (es ts : List Int) (s : State) (i : Nat) : State :=
  if bitAt (s0.o Obj.THERM_EXCLUDED) i then
    let n := if s0.quietNow es ts i then s.therm.quiet.getD i 0 + 1 else 0
    let s : State := { s with therm := { s.therm with quiet := s.therm.quiet.set i (if 10000 ≤ n then 0 else n) } }
    if 10000 ≤ n then s.setExcluded i false else s
  else
    let n := if s0.suspectNow es ts i then s.therm.suspect.getD i 0 + 1 else 0
    let s : State := { s with therm := { s.therm with suspect := s.therm.suspect.set i (if 100 ≤ n then 0 else n) } }
    if 100 ≤ n then ((s.setExcluded i true).inc Obj.THERM_CNT_EXCLUDE).logEvt .sensorExcluded 0xFF i [(1, i)] else s

/-- 16 R516: an estimate moves toward its sensor. -/
def toward (shift : Nat) (e r : Int) : Int := roundDiv (e * 2 ^ shift + (r - e)) (2 ^ shift)

/-- 16 R515, R516: the nodes after an evaluation: the model's step, the sensors' correction, node 31 its reading. -/
def State.nodesAfter (s : State) (es ts : List Int) : List Int :=
  (List.range 32).map (fun i =>
    if bitAt (s.o Obj.THERM_EXCLUDED) i then es.getD i 0
    else if i = 31 then ts.getD i 0 else toward (s.o Obj.THERM_CORR_SHIFT) (es.getD i 0) (ts.getD i 0))

/-- 16 R517: the hot-spot estimate and its node. -/
def State.hotSpot (s : State) (ns : List Int) : Int × Nat :=
  (List.range 31).foldl (fun b i =>
    let h := ns.getD i 0 + s.therm.offset.getD i 0
    if i = 0 ∨ b.1 < h then (h, i) else b) (0, 0)

/-- The excluded sensors. -/
def State.excludedCount (s : State) : Nat := ((List.range 32).filter (fun i => bitAt (s.o Obj.THERM_EXCLUDED) i)).length

/-- 16 R519: more than four sensors excluded. -/
def State.sensorFault (s : State) : State :=
  if 4 < s.excludedCount then (if s.fwUp then (s.faultSafe 1 0x31).addCause 0x31 else s) else s.dropCause 0x31

/-! ### Throttling (16 R524 to R528) -/

/-- The THROTTLE byte (09 Table 09-4). -/
def State.throttleByte (s : State) : Nat := 128 * b2n s.therm.request + 64 * b2n s.therm.halved + s.therm.slotSteps

def State.showThrottle (s : State) : State := s.setO Obj.THERM_THROTTLE_STATE ((s.throttleByte : Nat) : Int)

/-- The slots of a mask. -/
def slotCount (m : Nat) : Nat := (maskBits m).length

/-- 16 R524: the slots left at a position by the steps taken: of those acknowledged while it images, else of its governing set. -/
def State.slotsLeft (s : State) (p : Pos) : Nat :=
  overlayMask (s.therm.dropMask p) (if s.imaging then s.o (Obj.INTG_SLOT_ACK p.val) else (s.gov p (Obj.INT_SLOT_MASK p.val)).toNat)

/-- 16 R524: what a slot step drops at a position: its highest-numbered slot, when it has more than one. -/
def stepDrop (m : Nat) : Nat := if 1 < slotCount m then 2 ^ m.log2 else 0

/-- 16 R524: the next step: a slot step (1), the halving step (2), none (0). -/
def State.nextStep (s : State) : Nat :=
  if s.therm.halved then 0
  else if s.therm.slotSteps < 3 ∧ s.enabledPos.any (fun p => decide (1 < slotCount (s.slotsLeft p))) = true then 1 else 2

/-- 16 R525: the aggregate readout rate in k readouts/s the governing configuration would have under the steps taken and another slot
step, halved or not. -/
def State.rateAt (s : State) (step half : Bool) : Nat :=
  let m := fun (p : Pos) =>
    let m := overlayMask (s.therm.dropMask p) (s.gov p (Obj.INT_SLOT_MASK p.val)).toNat
    if step then m - stepDrop m else m
  let g := fun (p : Pos) k => (s.gov p k).toNat
  let r := ratSum (s.enabledPos.map (fun p =>
    (g p (Obj.INT_WIDTH p.val) * g p (Obj.INT_HEIGHT p.val) * slotCount (m p) * 1000000,
      g p (Obj.TRIG_MIN_PERIOD p.val) * (if half then 2 else 1))))
  r.1 / r.2

/-- 16 R525: a THROTTLE_REQUEST names the rate after the next step and the time until it. -/
def State.askThrottle (s : State) (ms : Nat) : State :=
  let rate : Nat := match s.nextStep with
    | 1 => s.rateAt true false
    | _ => s.rateAt false true
  let s : State := { s with therm := { s.therm with graceEnd := some (s.time.mono + 1000000 * ms), request := true, undoAt := none } }
  (s.showThrottle.setO Obj.THERM_REQ_RATE (satU 32 rate)).notify 0x0051 0xFF [(4, rate), (4, ms)]

/-- 16 R526: each step, taken or undone, is told. -/
def State.tellThrottle (s : State) : State := s.showThrottle.notify 0x0052 0xFF [(1, s.throttleByte)]

/-- 16 R524: a step is taken. -/
def State.takeStep (s : State) : State :=
  let s : State := match s.nextStep with
    | 1 => { s with therm := { s.therm with
        slotSteps := s.therm.slotSteps + 1,
        drops := ⟨stepDrop (s.slotsLeft 0), stepDrop (s.slotsLeft 1), stepDrop (s.slotsLeft 2), stepDrop (s.slotsLeft 3)⟩ :: s.therm.drops } }
    | _ => { s with therm := { s.therm with halved := true } }
  (s.inc Obj.THERM_CNT_THROTTLE).tellThrottle

/-- 16 R525: the end of the grace or step time: the step is taken when the last THERM_DWELL evaluations were all at or above
the throttle threshold; while a step is left, a fresh request precedes the next test (log 64). -/
def State.graceOver (s : State) : State :=
  if s.nextStep = 0 then { s with therm := { s.therm with graceEnd := none } }
  else
    let s := if s.therm.hot < s.o Obj.THERM_DWELL then s else s.takeStep
    if s.nextStep = 0 then { s with therm := { s.therm with graceEnd := none } } else s.askThrottle (s.o Obj.THERM_STEP_TIME)

/-- THROTTLE_GRACE_EXPIRY (16 R525). -/
def execThrottleGraceExpiry (t : Nat) (s : State) : Ans :=
  let s := s.advance t
  match s.therm.graceEnd with
  | some e => if e ≤ s.time.mono ∧ s.o Obj.THERM_STATE = 2 then .next s.graceOver else .next s
  | none => .next s

/-- 16 R528: one step is undone, the halving step first; the next one after THERM_STEP_TIME. -/
def State.undoStep (s : State) : State :=
  if !s.therm.halved && s.therm.slotSteps == 0 then { s with therm := { s.therm with undoAt := none } }
  else
    let s : State := if s.therm.halved then { s with therm := { s.therm with halved := false } }
      else { s with therm := { s.therm with slotSteps := s.therm.slotSteps - 1, drops := s.therm.drops.tail } }
    let left := s.therm.halved || decide (0 < s.therm.slotSteps)
    let s : State := { s with therm := { s.therm with
      undoAt := if left then some (s.time.mono + 1000000 * s.o Obj.THERM_STEP_TIME) else none } }
    s.tellThrottle

/-- THROTTLE_UNDO (16 R528). -/
def execThrottleUndo (t : Nat) (s : State) : Ans :=
  let s := s.advance t
  match s.therm.undoAt with
  | some a => if a ≤ s.time.mono ∧ s.o Obj.THERM_STATE < 2 then .next s.undoStep else .next s
  | none => .next s

/-- 16 R525, R528: the request no longer stands, and the steps in force begin to be undone. -/
def State.endRequest (s : State) : State :=
  let s : State := { s with therm := { s.therm with request := false, graceEnd := none } }
  s.showThrottle.undoStep

/-! ### Quench (16 R529 to R531) -/

/-- 16 R529: a quench, in its order, the last step of which switches off what SAFE turns off but the FPA rails and the shutter supply;
in boot recovery it closes storage and switches off PD62 and PD79 (R531). -/
def State.quenchNow (s : State) : State :=
  let s : State := { s with therm := { s.therm with quench := true, request := false, graceEnd := none } }
  let s := s.showThrottle.debugCap
  let s := s.bumpCounter 2 Obj.THERM_QUENCH_COUNT
  let s := (s.notify 0x0053 0xFF [(2, toCode 16 (s.oi Obj.THERM_HOTSPOT))]).nvClose 0
  if s.boot.phase = .recovery then (s.domCut 62).domCut 79
  else if s.fwUp then ((s.faultSafe 1 0x30).addCause 0x30).domainsOff [78]
  else s

/-! ### The thermal states (16 R520 to R523) -/

/-- The evaluation counts start anew at a change of state (16 R521, R522). -/
def State.thermState (s : State) (n : Nat) : State :=
  ({ s with therm := { s.therm with nWarn := 0, nThrottle := 0, nQuench := 0, nFall := 0 } } : State).setO Obj.THERM_STATE n

/-- 16 R523: the entry to WARNING or above from NORMAL. -/
def State.warned (s : State) : State :=
  (s.inc Obj.THERM_CNT_WARN).notify 0x0050 0xFF [(2, toCode 16 (s.oi Obj.THERM_HOTSPOT))]

/-- The state rises. -/
def State.thermRise (s : State) (was n : Nat) : State :=
  let s := s.thermState n
  let s := if was = 0 then s.warned else s
  if n = 3 then s.quenchNow else if n = 2 then s.askThrottle (s.o Obj.THERM_GRACE) else s

/-- The state falls one level. -/
def State.thermFall (s : State) (was : Nat) : State :=
  let s := s.thermState (was - 1)
  if was = 2 then s.endRequest else s

/-- 16 R521, R522: the counts of one evaluation. -/
def State.thermCount (s : State) (h : Int) : State :=
  let up := fun n k => if s.oi k ≤ h then n + 1 else 0
  let st := s.o Obj.THERM_STATE
  let lim := (if st = 2 then s.oi Obj.THERM_THROTTLE else s.oi Obj.THERM_WARN) - s.oi Obj.THERM_HYST
  { s with therm := { s.therm with
      nWarn := up s.therm.nWarn Obj.THERM_WARN, nThrottle := up s.therm.nThrottle Obj.THERM_THROTTLE,
      nQuench := up s.therm.nQuench Obj.THERM_QUENCH, hot := up s.therm.hot Obj.THERM_THROTTLE,
      nFall := if (st = 1 ∨ st = 2) ∧ h < lim then s.therm.nFall + 1 else 0 } }

/-- The highest threshold that is confirmed. -/
def State.confirmed (s : State) : Nat :=
  let d := s.o Obj.THERM_DWELL
  if d ≤ s.therm.nQuench then 3 else if d ≤ s.therm.nThrottle then 2 else if d ≤ s.therm.nWarn then 1 else 0

/-- The state after an evaluation. -/
def State.thermJudge (s : State) (h : Int) : State :=
  let s := s.thermCount h
  let st := s.o Obj.THERM_STATE
  if st < s.confirmed then s.thermRise st s.confirmed
  else if (st = 1 ∨ st = 2) ∧ s.o Obj.THERM_DWELL ≤ s.therm.nFall then s.thermFall st
  else s

/-- Sensors and nodes of an evaluation as they are shown. -/
def State.showNodes (s : State) (ts ns : List Int) : State :=
  s.setOs ((List.range 32).flatMap (fun i =>
    [(Obj.THERM_SENSOR_T i, satS 16 (ts.getD i 0)), (Obj.THERM_NODE_T i, satS 16 (ns.getD i 0))]))

/-- 16 R533: the node of a compensated circuit. -/
def trimNode (c : Nat) : Nat := if c = 0 ∨ c = 2 then 23 else if c = 1 ∨ c = 3 then 30 else 29

/-- 16 R533: the trim of a circuit at an estimate in 0.01 °C: linear between fused points every 5 K, rounded (00 R9). -/
def trimAt (c : Nat) (v : Int) : Int :=
  let i := v / 500
  let y0 := Config.trimPoint c i
  roundDiv (y0 * 500 + (Config.trimPoint c (i + 1) - y0) * (v % 500)) 500

/-- 16 R533: every compensated circuit is passed the estimate of its node. -/
def State.passTrims (s : State) (ns : List Int) : State :=
  { s with therm := { s.therm with trims := (List.range 8).map (fun c => trimAt c (ns.getD (trimNode c) 0)) } }

/-- 16 R515, 17 R547: the heat of a domain in µW: its monitor's current by its voltage, 0 while it is off. -/
def State.domHeat (s : State) (d : Nat) : Int :=
  if s.dom80 d = 0 ∨ (s.dom80 d = 3 ∧ s.pwr.faultOn.contains d = false) then 0 else s.oi (Obj.PWR_DOM_V d) * s.oi (Obj.PWR_DOM_I d)

/-- 16 R515 to R523: one evaluation. -/
def State.thermEval (s : State) (sensors : List Int) : State :=
  let old := (List.range 32).map (fun i => s.oi (Obj.THERM_NODE_T i))
  let ps := (List.range 80).map s.domHeat
  let es := (List.range 32).map (fun i => if i = 31 then old.getD 31 0 else Config.rcStep i old ps)
  let s := (List.range 32).foldl (fun r i => State.judgeSensor s es sensors r i) s
  let ns := s.nodesAfter es sensors
  let s := (s.showNodes sensors ns).passTrims ns
  let h := s.hotSpot ns
  let v := satS 16 h.1
  let s := s.setOs [(Obj.THERM_HOTSPOT, v), (Obj.THERM_HOTSPOT_NODE, h.2), (Obj.THERM_PEAK, max (s.oi Obj.THERM_PEAK) v)]
  (s.sensorFault).thermJudge v

/-- THERMAL_EVALUATION (16 R515): every 1 ms; `sensors` in 0.01 °C; the heat inputs are the last snapshot of the domain monitors. -/
def execThermalEvaluation (sensors : List Int) (t : Nat) (s : State) : Ans :=
  let s := s.advance t
  if s.alive ∧ s.therm.active then .next (s.thermEval sensors) else .next s

/-- 16 R530: the quench latch is cleared; the state is the one the current estimate gives. -/
def State.cmdQuenchClear (via : Via) (v : Nat) (s : State) : Res :=
  s.cmd via Obj.THERM_QUENCH_CLEAR 2 (anyOf 1 v) (fun s => stateIf (decide (10000 ≤ s.oi Obj.THERM_HOTSPOT)))
    (done (fun s =>
      if !s.therm.quench then s
      else
        let s : State := { s with therm := { s.therm with quench := false } }
        let s := (s.dropCause 0x30).thermState (if s.oi Obj.THERM_WARN ≤ s.oi Obj.THERM_HOTSPOT then 1 else 0)
        s.endRequest))

/-- THERM_QUENCH_CLEAR (16 R530). -/
def execThermQuenchClear (via : Via) (v : Nat) (t : Nat) (s : State) : Ans :=
  .next (s.runCommand via Obj.THERM_QUENCH_CLEAR t (State.cmdQuenchClear via v))

/-! ### The hardware trip (16 R532) -/

/-- HARDWARE_TRIP (16 R532): internal reset, with every switched domain and the DRAM devices off; a reset already held is a hardware
trip's from now on. -/
def execHardwareTrip (t : Nat) (s : State) : Ans :=
  let s := s.advance t
  if s.boot.phase = .off then .next s
  else
    let s := s.resetLogic 3
    .next { s with boot := { s.boot with trip := true } }

/-- HARDWARE_TRIP_RELEASE (16 R532). -/
def execHardwareTripRelease (t : Nat) (s : State) : Ans :=
  let s := s.advance t
  .next { s with boot := { s.boot with trip := false } }

end Sys2Proof.Machine
end

