-- ==== Sys2Proof/Machine/Trigger.lean ====
section
/-!
DEFINITION. Encoders, trigger inputs and generators, TRIGGER_EVENT, the start of frames and the trigger outputs (08 R294 to
R319; 03 R88, R115, R116).
-/
namespace Sys2Proof.Machine

/-! ### Encoders (08 R294 to R298) -/

def encNum (e : Bool) : Nat := b2n e

/-- The count of an encoder moves by one step, at chain time `t`: thresholds it reaches fire. -/
def State.encStep (s : State) (e up : Bool) (t : Nat) : State :=
  let n := encNum e
  let c := s.o (Obj.ENC_COUNT n)
  let c' : Nat := if up then (c + 1) % 2 ^ 64 else (c + 2 ^ 64 - 1) % 2 ^ 64
  let s := (s.setEnc e { s.enc e with reverse := !up }).setO (Obj.ENC_COUNT n) c'
  s.countReached n up t

/-- 08 R295: both levels changed in one sample: the count stays, with at most one NOTIFY of the module per second. -/
def State.encIllegal (s : State) (e : Bool) : State :=
  let x := s.enc e
  let s := s.inc (Obj.ENC_CNT_ERR (encNum e))
  let quiet := [s.enc0, s.enc1].any (fun y =>
    match y.errNotifyAt with
    | some l => decide (s.time.mono < l + 1000000000)
    | none => false)
  if quiet then s.setEnc e { x with err := true }
  else (s.setEnc e { x with err := true, errNotifyAt := some s.time.mono }).notify 0x0030 0xFF [(1, encNum e)]

/-- 08 R294: the accepted levels of A and B are now `a` and `b`.  An edge of A counts in every mode that counts (in X1 only a
rising one), an edge of B in X4; up when A leads B. -/
def State.encLevels (s : State) (e a b : Bool) (t : Nat) : State :=
  let x := s.enc e
  let cfg := s.o (Obj.ENC_CFG (encNum e))
  let mode := fieldOf cfg 1 0
  let s := s.setEnc e { x with a := a, b := b }
  let inv := bitAt cfg 2
  if mode = 0 then s
  else
    match x.a == a, x.b == b with
    | true, true => s
    | false, false => s.encIllegal e
    | false, true => if mode = 3 ∧ a = false then s else s.encStep e ((a != b) != inv) t
    | true, false => if mode = 1 then s.encStep e ((a == b) != inv) t else s

/-- 08 R294: a filter time, rounded down to 4 ns. -/
def filterNs (f : Nat) : Nat := f / 4 * 4

/-- 08 R296: the chain time of an edge whose new level is accepted now: the filter time and two synchroniser cycles earlier. -/
def State.edgeTime (s : State) (f : Nat) : Nat := s.time.now - filterNs f - 8

/-- ENCODER_COUNT_CHANGE (08 R294 to R296): the levels of A and B are now `a` and `b`, and have been stable for `held` ns. -/
def execEncoderCountChange (e a b : Bool) (held t : Nat) (s : State) : Ans :=
  let s := s.advance t
  let f := s.o (Obj.ENC_FILTER (encNum e))
  if !s.alive then .next (s.setEnc e { s.enc e with a := a, b := b })
  else if held < filterNs f then .next s
  else .next (s.encLevels e a b (s.edgeTime f))

/-- 08 R297: a rising edge of Z. -/
def State.zEdge (s : State) (e : Bool) : State :=
  let n := encNum e
  let mode := fieldOf (s.o (Obj.ENC_CFG n)) 4 3
  let s := s.setEnc e { s.enc e with zSeen := true }
  let latched := s.setO (Obj.ENC_Z_LATCH n) (s.oi (Obj.ENC_COUNT n))
  match mode with
  | 1 => latched
  | 2 => (latched.setO (Obj.ENC_COUNT n) 0).rearmEnc n
  | 3 =>
    if (s.enc e).zArmed then
      ((latched.setEnc e { s.enc e with zArmed := false }).setO (Obj.ENC_COUNT n) 0).rearmEnc n
    else s
  | _ => s

/-- ENCODER_Z_EDGE (08 R294, R297): Z has risen and been stable for `held` ns. -/
def execEncoderZEdge (e : Bool) (held t : Nat) (s : State) : Ans :=
  let s := s.advance t
  if s.alive && decide (filterNs (s.o (Obj.ENC_FILTER (encNum e))) ≤ held) then .next (s.zEdge e) else .next s

/-- 08 R297: ENC_PRESET. -/
def State.cmdEncPreset (via : Via) (e : Bool) (v : Nat) (s : State) : Res :=
  s.cmd via (Obj.ENC_PRESET (encNum e)) 1 (anyOf 8 v) noPre
    (done (fun s => (s.setO (Obj.ENC_COUNT (encNum e)) v).rearmEnc (encNum e)))

/-- ENC_PRESET (08 R297). -/
def execEncPreset (via : Via) (e : Bool) (v : Nat) (t : Nat) (s : State) : Ans :=
  .next (s.runCommand via (Obj.ENC_PRESET (encNum e)) t (State.cmdEncPreset via e v))

/-- ENC_SPEED_UPDATE (08 R298): the signed change over the last 10 ms, times 100. -/
def execEncSpeedUpdate (e : Bool) (t : Nat) (s : State) : Ans :=
  let s := s.advance t
  let c := s.o (Obj.ENC_COUNT (encNum e))
  let d := fromCode 64 ((c + 2 ^ 64 - (s.enc e).lastCount) % 2 ^ 64)
  if s.alive then
    .next ((s.setEnc e { s.enc e with lastCount := c }).setO (Obj.ENC_SPEED (encNum e)) (satS 32 (d * 100)))
  else .next s

/-! ### Trigger inputs and generators (08 R299 to R306) -/

/-- 08 R299: the edge is one that TI_CFG counts. -/
def tiCounts (cfg : Nat) (rising : Bool) : Bool := cfg == 3 || cfg == (if rising then 1 else 2)

/-- 08 R301: a counted edge of an input at the generators that use it. -/
def State.inputEdge (s : State) (i : Nat) (t : Nat) : State :=
  allPos.foldl (fun s g =>
    if s.o (Obj.TG_SOURCE g.val) = 3 + i then
      let n := (s.tg.get g).edges + 1
      if s.tgN g ≤ n then (s.setTg g { s.tg.get g with edges := 0 }).genEvent g t
      else s.setTg g { s.tg.get g with edges := n }
    else s) s

/-- TRIG_IN_EDGE (08 R299, R301): the input has changed and been stable for `held` ns. -/
def execTrigInEdge (i : Fin 4) (rising : Bool) (held t : Nat) (s : State) : Ans :=
  let s := s.advance t
  let f := s.o (Obj.TI_FILTER i.val)
  if s.alive && tiCounts (s.o (Obj.TI_CFG i.val)) rising && decide (filterNs f ≤ held) then .next (s.inputEdge i.val (s.edgeTime f))
  else .next s

/-- TIMER_GENERATOR_TICK (08 R301): the next instant of a TIMER generator. -/
def execTimerGeneratorTick (g : Fin 4) (t : Nat) (s : State) : Ans :=
  let s := s.advance t
  let x := s.tg.get g
  if s.alive ∧ s.o (Obj.TG_SOURCE g.val) = 7 ∧ x.nextTimer ≤ s.time.now then
    .next ((s.setTg g { x with nextTimer := x.nextTimer + s.o (Obj.TG_PERIOD g.val) }).genEvent g x.nextTimer)
  else .next s

/-- 08 R301: TG_FIRE. -/
def State.cmdTgFire (via : Via) (g : Pos) (v : Nat) (s : State) : Res :=
  s.cmd via (Obj.TG_FIRE g.val) 1 (anyOf 1 v) (fun s => stateIf (s.o (Obj.TG_SOURCE g.val) != 8))
    (done (fun s => s.genEvent g s.time.now))

/-- TG_FIRE (08 R301). -/
def execTgFire (via : Via) (g : Fin 4) (v : Nat) (t : Nat) (s : State) : Ans :=
  .next (s.runCommand via (Obj.TG_FIRE g.val) t (State.cmdTgFire via g v))

/-- 08 R306: an accepted event of a channel goes to the positions bound to it. -/
def State.channelEvent (s : State) (c : Nat) (seq t st e : Nat) : State :=
  let x := s.chan.getD c Channel.reset
  let gap := match x.lastSeq with
    | some q => (seq + 65536 - q + 65535) % 65536
    | none => 0
  let s := (s.incBy (Obj.TRIG_CNT_SEQ_GAP c) gap)
  let s : State := { s with chan := s.chan.set c { lastS := some st, lastSeq := some seq } }
  s.deliver (0x80 + c) { s := st, t := t, e := e, kind := 0, seq := seq }

/-- 08 R306: a TRIGGER_EVENT as the trigger unit takes it. -/
def State.takeEvent (s : State) (b : List Byte) : State :=
  let c := beAt b 0 1
  let st := beAt b 12 8
  if 8 ≤ c then s
  else if allPos.any (fun g => s.o (Obj.TG_PUBLISH g.val) == c) then s.inc Obj.TRIG_CNT_FOREIGN
  else
    match (s.chan.getD c Channel.reset).lastS with
    | some l => if st ≤ l then s.inc (Obj.TRIG_CNT_DUP c) else s.channelEvent c (beAt b 2 2) (beAt b 4 8) st (beAt b 20 8)
    | none => s.channelEvent c (beAt b 2 2) (beAt b 4 8) st (beAt b 20 8)

/-- TRIGGER_EVENT (08 R306, 10 R372): the trigger unit takes every event that passes through, without the steward, once steward
firmware has started (R350); not one with HOP 255 (R353) or with another DST than 0xFF (R358). -/
def execTriggerEvent (r : Req) (s : State) : Ans :=
  let s := s.advance r.t
  if s.fwUp ∧ r.hop < 255 ∧ DstKind.broadcast.permits r.posaddr r.dst = true ∧ 28 ≤ r.payload.length then .next (s.takeEvent r.payload)
  else .next s

/-! ### Starts (08 R307 to R316, 03 R88, R115) -/

/-- DECISION_POINT (08 R309 to R313); words that a start held back from a select go on when it is not made (03 R118). -/
def execDecisionPoint (p : Pos) (t : Nat) (s : State) : Ans :=
  let s := (s.advance t).decide_ p
  .next (s.sp0Next (s.fpaSel p))

/-- 08 R312: the mark of a held start is due; its provenance says that it was held. -/
def State.heldMade (s : State) (p : Pos) : State :=
  let g := s.trig.get p
  match g.held, g.heldAt with
  | some st, some h =>
    if h ≤ s.time.now + s.ttx (s.fpaSel p) then
      (s.setTrig p { g with held := none, heldAt := none }).commitStart p h { st with s := h, kind := st.kind + 8 }
    else s
  | _, _ => s

/-- HELD_START (08 R312, R315); words that the held start kept back go on when it is dropped (03 R118). -/
def execHeldStart (p : Pos) (t : Nat) (s : State) : Ans :=
  let s := (s.advance t).heldMade p
  .next (s.sp0Next (s.fpaSel p))

/-- The marks of the positions on a select that release in one time-clock cycle. -/
def State.marksAt (s : State) (sel : Pos) (rel : Nat) : List Pos :=
  (s.onSel sel).filter (fun p => (s.trig.get p).marks.any (fun m => m.1 / 4 == rel / 4))

/-- The earliest committed release on a select. -/
def State.firstMark (s : State) (sel : Pos) : Option Nat :=
  ((s.onSel sel).flatMap (fun p => (s.trig.get p).marks.map (·.1))).foldl
    (fun a r => match a with
      | some m => some (min m r)
      | none => some r) none

/-- The word of a position in a mark transaction: START with the frame tag (heritage: SYNC), else one that only moves
replies (03 R115, R122). -/
def State.markWord (s : State) (p : Pos) (starts : Bool) : Sp0Word :=
  if !starts then s.fpaIdle p
  else if s.fpaHer p then ⟨6, 0, 0, 0⟩
  else s.fpaWord p 2 0 ((s.intake.get p).nextNum % 65536)

/-- 03 R115, 08 R310: the mark transaction of a select begins t_tx before its release. -/
def State.markBegin (s : State) (sel : Pos) : State :=
  match s.firstMark sel with
  | none => s
  | some rel =>
    if s.time.now + s.ttx sel < rel ∨ (s.sp0.get sel).busy.isSome then s
    else
      let started := s.marksAt sel rel
      let ws := (s.onSel sel).map (fun p => (p, s.markWord p (started.contains p)))
      s.sp0Begin sel 0 ws rel

/-- MARK_TRANSACTION_START (03 R115, R116; 08 R310). -/
def execMarkTransactionStart (p : Pos) (t : Nat) (s : State) : Ans :=
  let s := s.advance t
  if s.imaging then .next (s.markBegin (s.fpaSel p)) else .next s

/-- 03 R88, 08 R317: the release of a mark starts a frame of one position; the vertical blank ends with it (03 R118).  In SAFE the
frame is discarded (08 R316); in ORPHAN it is not waited for (02 R66). -/
def State.frameStarts (s : State) (rel : Nat) (p : Pos) : State :=
  match (s.trig.get p).marks.find? (fun m => m.1 / 4 == rel / 4) with
  | none => s
  | some (r, st) =>
    let g := s.trig.get p
    let s := s.setTrig p { g with marks := g.marks.filter (fun m => m.1 != r), lastStart := some st.s }
    let s := s.setO (Obj.TRIG_LAST_START p.val) st.s
    let (s, kind) := (s.endBlank p (s.intake.get p).nextNum).eclMark p st.s
    let s := (s.openFrame p (s.provAtStart st) kind).applyShadow p
    let s : State := { s with coef := s.coef.upd p (fun c => { c with started := true, busyFrame := true }) }
    let s := s.outsStart p st.s
    if s.mode = 5 then s.intakeDiscard p
    else if (s.modes.running.map (fun r => r.orphan && r.target == 0)) = some true then s.frameClosed p 3
    else s

/-- 03 R115: the mark transaction of a select is released. -/
def State.markEnd (s : State) (sel : Pos) (words : List Nat) : State :=
  match (s.sp0.get sel).busy with
  | some x =>
    if x.kind = 0 ∧ x.endAt ≤ s.time.now then
      let started := (x.words.filter (fun w => w.2.op == 2 || w.2.op == 6)).map (·.1)
      (started.foldl (fun s p => s.frameStarts x.endAt p) (s.sp0Release sel words)).sp0Next sel
    else s
  | none => s

/-- MARK_RELEASE (03 R88, R115): the release is the start of the frame; `words` came back from the FPAs. -/
def execMarkRelease (p : Pos) (words : List Nat) (t : Nat) (s : State) : Ans :=
  let s := s.advance t
  .next (s.markEnd (s.fpaSel p) words)

/-- SP0_TRANSACTION_END (03 R111, R114, R118, R121): another transaction of a select is released. -/
def execSp0TransactionEnd (sel : Fin 4) (words : List Nat) (t : Nat) (s : State) : Ans :=
  let s := s.advance t
  match (s.sp0.get sel).busy with
  | some x =>
    if x.kind ≠ 0 ∧ x.endAt ≤ s.time.now then .next (((s.sp0Release sel words).entryIds).sp0Next sel) else .next s
  | none => .next s

/-! ### Trigger outputs (08 R318, R319) -/

/-- 08 R318, R319: a pulse whose instant has come begins, or extends one that is under way. -/
def State.pulseBegins (s : State) (i : Pos) : State :=
  let o := s.trigOut.get i
  match o.pend.find? (fun q => decide (q.1 ≤ s.time.now)) with
  | none => s
  | some (a, w) =>
    let o := { o with pend := o.pend.erase (a, w) }
    if !s.trigOutDrives then { s with trigOut := s.trigOut.set i o }
    else if o.high then
      ({ s with trigOut := s.trigOut.set i { o with endAt := max o.endAt (a + w) } } : State).inc (Obj.TO_CNT_OVERLAP i.val)
    else { s with trigOut := s.trigOut.set i { o with high := true, endAt := a + w } }

/-- TRIG_OUT_PULSE_START (08 R318). -/
def execTrigOutPulseStart (i : Fin 4) (t : Nat) (s : State) : Ans := .next ((s.advance t).pulseBegins i)

/-- TRIG_OUT_PULSE_END (08 R318): a pulse ends after its width; LEVEL outputs fall with the close of the frame. -/
def execTrigOutPulseEnd (i : Fin 4) (t : Nat) (s : State) : Ans :=
  let s := s.advance t
  let o := s.trigOut.get i
  if o.high ∧ s.o (Obj.TO_CFG i.val) / 64 ≠ 2 ∧ o.endAt ≤ s.time.now then
    .next { s with trigOut := s.trigOut.set i { o with high := false } }
  else .next s

end Sys2Proof.Machine
end

