-- ==== Sys2Proof/Machine/ObjWrite.lean ====
section
/-!
DEFINITION. The one way every object is written (11 R386 to R399): settings, commands, blocks of bytes, and the staging
buffer of BAR0 (11 R404) with its command.
-/
namespace Sys2Proof.Machine

/-! ### Commands of the dictionary itself -/

/-- The functions that have expert objects (11 R393, Table 11-1; 18, Objects). -/
def expertFunctions : List Nat := [0x20, 0x21, 0x22, 0x27, 0x28, 0x29, 0x2A, 0x30, 0x32, 0x33, 0x34, 0x35, 0x36]

/-- 11 R393: the function is under basic control again. -/
def State.releaseExpert (f : Nat) (s : State) : State :=
  match expertBit f with
  | some b => s.setO Obj.EXPERT_STATUS ((withBit (s.o Obj.EXPERT_STATUS) b false : Nat) : Int)
  | none => s

/-- 11 R393: EXPERT_RELEASE. -/
def State.cmdExpertRelease (via : Via) (v : Nat) (s : State) : Res :=
  s.cmd via Obj.EXPERT_RELEASE 2 (expertFunctions.contains v) noPre (done (State.releaseExpert v))

/-- EXPERT_RELEASE (11 R393, R394). -/
def execExpertRelease (via : Via) (v t : Nat) (s : State) : Ans :=
  .next (s.runCommand via Obj.EXPERT_RELEASE t (State.cmdExpertRelease via v))

/-- 10 Table 10-8: role and epoch are 0, in the keep array too, which may fail the write (13 R441).  ORPHAN stays until the next grant
(02 R67; log 28). -/
def State.clearEpoch (s : State) : Res :=
  if s.nv.closed || s.wornAt Keep.lease 32 then .error Abort.nv
  else .ok ((s.setOs [(Obj.LEASE_ROLE, 0), (Obj.LEASE_EPOCH, 0),
    (Obj.LEASE_STATE, if s.modes.orphan then 3 else 0)]).writeLease)

/-- LEASE_EPOCH_CLEAR as an object: STANDBY only, and not while the lease is CURRENT. -/
def State.cmdEpochClear (via : Via) (v : Nat) (s : State) : Res :=
  s.cmd via Obj.LEASE_EPOCH_CLEAR 2 (anyOf 1 v)
    (fun s => stateIf (s.mode != Mode.standby || s.o Obj.LEASE_STATE == 1)) State.clearEpoch

/-- LEASE_EPOCH_CLEAR (10 R379, Table 10-8): `ok` is false when the keep array fails the write (13 R441). -/
def execLeaseEpochClear (via : Via) (v : Nat) (ok : Bool) (t : Nat) (s : State) : Ans :=
  .next ((s.pageIs Keep.lease 32 ok).runCommand via Obj.LEASE_EPOCH_CLEAR t (State.cmdEpochClear via v))

/-! ### Blocks of bytes -/

/-- A write of a whole STR or DOM object: those with an effect of their own, else the setting. -/
def State.writeBlob (via : Via) (k : Nat) (b : List Byte) (s : State) : Res :=
  match k / 256 with
  | 0x3203 => State.cmdNvUserData via b s
  | 0x3386 => State.cmdRawXfer via b s
  | 0x3707 => State.cmdSecKeyWrite via b s
  | 0x370A => State.cmdSecArchiveKey via b s
  | 0x370C => State.cmdSecTokenKey via b s
  | 0x3710 => State.cmdHpAuthReq via b s
  | 0x3712 => State.cmdHpAuthProve via b s
  | 0x3805 => State.cmdDbgToken via b s
  | _ => State.put via k (Written.ofBytes b) s

/-! ### The staging buffer of BAR0 (11 R404) -/

/-- The first `n` bytes of the staging buffer. -/
def State.staged (s : State) (n : Nat) : List Byte := Store.read (fun _ => 0#8) s.bar0.buf 0 n

/-- READ: the object's whole value goes into the buffer; STAT_BLOCK least significant byte first (07 R282). -/
def State.domRead (s : State) : Res :=
  let k := s.o Obj.BAR0_DOM_SEL
  match Obj.readable k with
  | .error c => .error c
  | .ok r =>
    if r.ty.scalar then .error Abort.type
    else
      let x := s.readBlob .host k 0 8192
      if 8192 < x.2.2 then .error Abort.type
      else
        .ok ((({ x.1 with bar0 := { x.1.bar0 with buf := Store.write (fun _ => 0#8) x.1.bar0.buf 0 x.2.1 } } : State)).setO
          Obj.BAR0_DOM_LEN ((x.2.1.length : Nat) : Int))

/-- WRITE: the first BAR0_DOM_LEN bytes of the buffer go to the object as one whole write. -/
def State.domWrite (s : State) : Res :=
  let k := s.o Obj.BAR0_DOM_SEL
  match Obj.find k with
  | .error c => .error c
  | .ok r => if r.ty.scalar then .error Abort.type else State.writeBlob .host k (s.staged (s.o Obj.BAR0_DOM_LEN)) s

/-- A staging command starts: it is done at once, and shown as BUSY until it ends within 2 ms; a refusal of the object's is
shown as REFUSED then. -/
def State.domStart (v : Nat) (s : State) : State :=
  match if v = 1 then s.domRead else s.domWrite with
  | .ok s' => { s' with bar0 := { s'.bar0 with busy := some (v, false) } }
  | .error c =>
    let s := s.failNoted (s.o Obj.BAR0_DOM_SEL) c
    let s := (s.setO Obj.OD_LAST_ABORT c).setO Obj.OD_LAST_ABORT_ADDR (s.oi Obj.BAR0_DOM_SEL)
    { s with bar0 := { s.bar0 with busy := some (v, true) } }

/-- BAR0_DOM_CMD: 1 READ, 2 WRITE; BUSY while one runs; for the local host only. -/
def State.cmdDomCmd (via : Via) (v : Nat) (s : State) : Res :=
  s.cmd via Obj.BAR0_DOM_CMD 0 (v == 1 || v == 2)
    (fun s => if via ≠ .host then Abort.state else if s.bar0.busy.isSome then Abort.busy else 0) (done (State.domStart v))

/-! ### Every command that is an object -/

/-- A CMD object by its key; none for an object that is no command. -/
def State.commandOf (via : Via) (k v : Nat) : Option (State → Res) :=
  let sub := k % 256
  let p := posOf (sub - 1)
  match k / 256 with
  | 0x1021 => some (State.cmdExpertRelease via v)
  | 0x1033 => some (State.cmdDomCmd via v)
  | 0x1102 => if sub = 5 then some (State.cmdModeReqGo via v) else none
  | 0x110E => some (State.cmdSoftReset via v)
  | 0x1218 => some (State.cmdEpochClear via v)
  | 0x130D => some (State.cmdTimeSet via v)
  | 0x2103 => some (State.cmdCoefOpen via p v)
  | 0x2104 => some (State.cmdCoefClose via p v)
  | 0x210F => some (State.cmdLoadGo via p v)
  | 0x2111 => some (State.cmdSaveGo via p v)
  | 0x2206 => some (State.cmdTailHistReset via p v)
  | 0x2606 => some (State.cmdStatLatch via p v)
  | 0x2714 => some (State.cmdGenCommit via v)
  | 0x2715 => some (State.cmdGenDiscard via v)
  | 0x2903 => some (State.cmdEclRequest via p v)
  | 0x2904 => some (State.cmdEclAbort via p v)
  | 0x291F => some (State.cmdEclFaultClear via p v)
  | 0x29A0 => some (State.cmdEclShut via p v)
  | 0x2A02 => some (State.cmdEncPreset via (sub == 3) v)
  | 0x2A12 => some (State.cmdTgFire via p v)
  | 0x3209 => some (State.cmdSetSave via v)
  | 0x320A => some (State.cmdNvSetDelete via v)
  | 0x320B => some (State.cmdSetApply via v)
  | 0x320C => some (State.cmdNvRecordDelete via v)
  | 0x320D => some (State.cmdNvAnnealNow via v)
  | 0x320F => some (State.cmdNvCompactGo via v)
  | 0x3280 => some (State.cmdNvStoreFormat via v)
  | 0x3401 => some (State.cmdHkCtrl via p v)
  | 0x3510 => some (State.cmdQuenchClear via v)
  | 0x3702 => some (State.cmdSecLifecycleSet via v)
  | 0x3706 => some (State.cmdSecArbCommit via v)
  | 0x3708 => some (State.cmdSecKeyErase via v)
  | 0x3714 => some (State.cmdHpAuthClose via v)
  | 0x3803 => some (State.cmdDbgSetGrade via v)
  | 0x3807 => some (State.cmdDbgLock via v)
  | i =>
    if 0x1150 ≤ i ∧ i ≤ 0x1155 ∧ sub = 6 then some (State.cmdOpAbort via (i - 0x1150) v)
    else (clearTable.find? (fun c => c.1 == k)).map (fun c => State.cmdClear k c.2 via v)

/-- A command with its argument: ACCESS, then TYPE for a length not its type's, then the command's own checks; bits beyond
the type are refused with RANGE after the checks of state and occupation (11 R402, Table 11-5). -/
def State.writeCommand (via : Via) (r : ObjRow) (x : Written) (op : State → Res) (s : State) : Res :=
  if s.level via < r.lvl then .error Abort.access
  else if x.len ≠ r.ty.size then .error Abort.type
  else if x.ext then op s
  else
    match op s with
    | .error c => .error (min c Abort.range)
    | .ok _ => .error Abort.range

/-- 11 R386, R388: any object is written. -/
def State.objWrite (via : Via) (k : Nat) (x : Written) (s : State) : Res :=
  match Obj.find k with
  | .error c => .error c
  | .ok r =>
    if !r.ty.scalar then
      if r.acc = .ro then .error Abort.readOnly else State.writeBlob via k x.bytes s
    else
      match State.commandOf via k x.num with
      | some op => State.writeCommand via r x op s
      | none => State.put via k x s

/-- What a refused write brings: a COMMIT refused by its own checks counts on whichever path GEN_COMMIT was written (07 R261); a
failure of the keep array or of the module itself is noted (11 Table 11-5, 13 R441). -/
def State.writeRefused (s : State) (k v code : Nat) : State :=
  (if k = Obj.GEN_COMMIT then s.commitRefused (v % 16) code else s).failNoted k code

/-! ### The rows -/

/-- 13 R441: how the keep array takes the write of an object that is kept there. -/
def State.keptIs (s : State) (key : Nat) (good : Bool) : State :=
  match keptAddr key with
  | some (a, n) => s.pageIs a n good
  | none => s

/-- OBJECT_WRITE (11 R388 to R392): a scalar is written on a path, its value given in its type's width; `ok` is false when the
keep array fails the write of an object kept there. -/
def execObjectWrite (via : Via) (key v : Nat) (ok : Bool) (t : Nat) (s : State) : Ans :=
  let ty := match Obj.row? key with | some r => r.ty | none => .u32
  .next (((s.keptIs key ok).advance t).onPath via (fun s =>
    let s := s.writeOf via
    match State.objWrite via key (Written.scalar ty v) s with
    | .ok s' => s'
    | .error c => (s.writeRefused key v c).refuse via key c))

/-- CHAIN_STATION_WRITE (10 R360, R361, 11 R389): CHAIN_STATION is written to the keep array and takes effect at once; `ok` is false
when the array fails the write. -/
def execChainStationWrite (via : Via) (v : Nat) (ok : Bool) (t : Nat) (s : State) : Ans :=
  .next ((s.keptIs Obj.CHAIN_STATION ok).runCommand via Obj.CHAIN_STATION t
    (State.put via Obj.CHAIN_STATION (Written.scalar .u8 v)))

/-- SP0_SLAVE (14 R487). -/
def execSp0Slave (via : Via) (v t : Nat) (s : State) : Ans :=
  .next (s.runCommand via Obj.SP0_SLAVE t (State.put via Obj.SP0_SLAVE (Written.scalar .bool v)))

end Sys2Proof.Machine
end

