-- ==== Sys2Proof/Machine/Access.lean ====
section
/-!
DEFINITION. Object access over the chain (10 R365 to R367, 11 R400): READ, WRITE with its staging, RANGE_READ.
-/
namespace Sys2Proof.Machine

/-- Key of the object a telegram names: INDEX and SUB (10 Table 10-5). -/
def reqKey (r : Req) : Nat := beAt r.payload 0 3

/-- The head of a READ reply (10 Table 10-5). -/
def readHead (k : Nat) (t : ObjTy) (total offset count : Nat) : List Byte :=
  fieldsBE [(3, k), (1, t.code), (4, total), (4, offset), (2, count), (2, 0)]

/-- 10 R365: READ of a scalar gives its whole value; of a STR or DOM the bytes from OFFSET. -/
def State.readRequest (r : Req) (s : State) : State × Reply :=
  let k := reqKey r
  let offset := beAt r.payload 4 4
  match Obj.readable k with
  | .error c => (s, .error c)
  | .ok o =>
    if o.ty.scalar then
      if offset ≠ 0 then (s, .error Abort.offset)
      else
        let x := s.readValue (.chain r.session) o k
        (x.1, .ok (readHead k o.ty o.ty.size 0 o.ty.size ++ ObjTy.wire o.ty x.2))
    else
      let x := s.readBlob (.chain r.session) k offset (min (beAt r.payload 8 2) 1468)
      if x.2.2 ≤ offset then (s, .error Abort.offset)
      else (x.1, .ok (readHead k o.ty x.2.2 offset x.2.1.length ++ x.2.1))

/-- 11 R406: the objects the ROM serves in boot recovery. -/
def romObjects : List Nat := [Obj.ID_DEVICE, Obj.ID_STEPPING, Obj.ID_ROM_VERSION, Obj.BOOT_STATUS]

/-- 10 R350, 02 R46: in boot recovery the ROM answers READ of these objects only. -/
def State.romRead (r : Req) (s : State) : State :=
  if s.boot.phase != .recovery || r.src != 0 || 255 ≤ r.hop || r.payload.length < 12 || !DstKind.unicast.permits r.posaddr r.dst ||
      !s.addressed r.posaddr r.dst r.hop || !romObjects.contains (reqKey r) then s
  else
    let x := (s.place r).readRequest r
    x.1.answer r 0x01 x.2

/-- READ (10 R365, 11 R386, R387). -/
def execRead (r : Req) (s : State) : Ans :=
  if s.boot.phase = .recovery then .next ((s.advance r.t).romRead r)
  else
    .next (s.onTelegram r .unicast 12 (fun s =>
      let x := s.readRequest r
      x.1.answer r 0x01 x.2))

/-! ### WRITE (10 R366) -/

/-- The greatest length a STR or DOM object permits. -/
def blobMax (i : Nat) : Nat := ((List.range 8193).reverse.find? (blobLenOk i)).getD 0

/-- Staging is abandoned. -/
def State.dropStaging (s : State) : State := { s with chain := { s.chain with staging := none } }

/-- 1 s without a segment abandons the staging. -/
def State.staleStaging (s : State) : State :=
  match s.chain.staging with
  | some g => if g.lastAt + 1000000000 ≤ s.time.mono then s.dropStaging else s
  | none => s

/-- What is staged once a segment fits on: none when it is out of order, or of another session or object. -/
def State.stagedWith (s : State) (session k offset : Nat) (data : List Byte) : Option (List Byte) :=
  match s.chain.staging with
  | some g => if g.session = session ∧ g.key = k ∧ offset = g.bytes.length then some (g.bytes ++ data) else none
  | none => if offset = 0 then some data else none

/-- The head of a WRITE reply, with the bytes accepted so far. -/
def writeReply (k staged : Nat) : List Byte := fieldsBE [(3, k), (1, 0), (4, staged)]

/-- A segment of a STR or DOM: staged, and applied as a whole with LAST. -/
def State.writeSegment (session k offset : Nat) (last : Bool) (data : List Byte) (s : State) : State × Reply :=
  let s := s.staleStaging
  match s.stagedWith session k offset data with
  | none =>
    (s.dropStaging, .error (if blobMax (k / 256) ≤ offset ∧ offset ≠ 0 then Abort.offset else Abort.segment))
  | some b =>
    if last then
      match State.writeBlob (.chain session) k b s.dropStaging with
      | .ok s' => (s', .ok (writeReply k b.length))
      | .error c => (s.dropStaging.failNoted k c, .error c)
    else
      ({ s with chain := { s.chain with staging := some { session := session, key := k, bytes := b, lastAt := s.time.mono } } },
        .ok (writeReply k b.length))

/-- 10 R366: a segment under another session or of another object abandons the staging, whatever it is refused for. -/
def State.foreignSegment (s : State) (r : Req) (o : ObjRow) (k : Nat) : State :=
  match s.chain.staging with
  | some g => if !o.ty.scalar && (g.session != r.session || g.key != k) then s.dropStaging else s
  | none => s

/-- 10 R366: a WRITE: of a scalar whole, of a STR or DOM in segments; its checks in the order of 11 Table 11-5. -/
def State.writeRequest (r : Req) (s : State) : State × Reply :=
  let k := reqKey r
  let last := beAt r.payload 3 1 % 2 == 1
  let offset := beAt r.payload 4 4
  let count := beAt r.payload 8 2
  let data := slice r.payload 12 count
  match Obj.find k with
  | .error c => (s, .error c)
  | .ok o =>
    if o.acc = .ro then (s.foreignSegment r o k, .error Abort.readOnly)
    else if s.reqLevel r < o.lvl then (s.foreignSegment r o k, .error Abort.access)
    else if o.ty.scalar then
      if !last || count != o.ty.size then (s, .error Abort.type)
      else if offset ≠ 0 then (s, .error Abort.offset)
      else
        match State.objWrite (.chain r.session) k (Written.ofBytes data) s with
        | .ok s' => (s', .ok (writeReply k count))
        | .error c => (s.writeRefused k (beNat data) c, .error c)
    else State.writeSegment r.session k offset last data s

/-- WRITE (10 R366, R369, 11 R388). -/
def execWrite (r : Req) (s : State) : Ans :=
  .next (s.onTelegram r .anyDst (12 + beAt r.payload 8 2) (fun s => s.once r 0x02 (State.writeRequest r)))

/-- WRITE_STAGING_TIMEOUT (10 R366). -/
def execWriteStagingTimeout (t : Nat) (s : State) : Ans := .next (s.advance t).staleStaging

/-! ### RANGE_READ (10 R367, 11 R400) -/

/-- The implemented subindices of an index from one upward. -/
def subsFrom (i first : Nat) : List Nat := (List.range 256).filter (fun n => first ≤ n && (Obj.row? (i * 256 + n)).isSome)

/-- One record: SUB, DTYPE, LEN, value; a DOM gives no value. -/
def State.rangeRecord (s : State) (via : Via) (k : Nat) : List Byte :=
  match Obj.row? k with
  | none => []
  | some o =>
    let v := if o.ty.scalar then ObjTy.wire o.ty (s.value via k o.acc) else if o.ty = .str then s.blob k else []
    fieldsBE [(1, k % 256), (1, o.ty.code), (2, v.length)] ++ v

/-- Records of the subindices in turn, at most `n`, in `room` bytes: those returned with their keys, and STATUS. -/
def State.rangeRecords (s : State) (via : Via) (i : Nat) : List Nat → Nat → Nat → List (Nat × List Byte) × Nat
  | [], _, _ => ([], 1)
  | _ :: _, 0, _ => ([], 0)
  | sub :: rest, n + 1, room =>
    let b := s.rangeRecord via (i * 256 + sub)
    if room < b.length then ([], 2)
    else
      let x := s.rangeRecords via i rest n (room - b.length)
      ((sub, b) :: x.1, x.2)

/-- 10 R367, 11 R400: RANGE_READ of one index. -/
def State.rangeRequest (r : Req) (s : State) : State × Reply :=
  let i := beAt r.payload 0 2
  let first := beAt r.payload 2 1
  let n := beAt r.payload 3 1
  let subs := subsFrom i first
  if !Obj.indexExists i then (s, .error Abort.noObject)
  else if (subs.take n).any (fun sub => match Obj.readable (i * 256 + sub) with | .ok _ => false | .error _ => true) then
    (s, .error Abort.writeOnly)
  else if n = 0 then (s, .error Abort.range)
  else
    let x := s.rangeRecords (.chain r.session) i subs n 1476
    (x.1.foldl (fun s c => s.readEffect i c.1) s,
      .ok (fieldsBE [(2, i), (1, first), (1, x.2), (1, x.1.length), (3, 0)] ++ (x.1.map (·.2)).flatten))

/-- RANGE_READ (10 R367, 11 R400). -/
def execRangeRead (r : Req) (s : State) : Ans :=
  .next (s.onTelegram r .unicast 4 (fun s =>
    let x := s.rangeRequest r
    x.1.answer r 0x03 x.2))

end Sys2Proof.Machine
end

