-- ==== Sys2Proof/Machine/Dma.lean ====
section
/-!
DEFINITION. The DMA engine: doorbells, channel control, descriptors, bursts and their ends (12 R425 to R437).
-/
namespace Sys2Proof.Machine

/-! ### Channel registers in BAR4 (12 R426, R435, Table 12-10) -/

/-- A request to BAR4 arrives over the link; in D3hot it is an Unsupported Request (12 R423). -/
def State.bar4Access (s : State) (f : State → State) : State :=
  if !s.host.link then s else if s.host.d3hot then s.emit .unsupported else f s

/-- 12 R422: a write to an unimplemented offset of BAR4, such as the registers of a channel above 15, is dropped and counts. -/
def State.bar4 (s : State) (c : Nat) (f : State → State) : State :=
  s.bar4Access (fun s => if c < 16 then f s else s.inc Obj.HP_CNT_BLOCKED)

/-- 12 R426: TAIL is written. -/
def State.chTail (s : State) (c v : Nat) : State := s.setCh c { s.ch c with tail := v % 4096 % s.o (Obj.DMA_RING_SIZE c) }

/-- DMA_TAIL_DOORBELL (12 R425, R426). -/
def execDmaTailDoorbell (c v t : Nat) (s : State) : Ans :=
  .next ((s.advance t).bar4 c (fun s => s.chTail c v))

/-- 12 R437: channels run in the imaging modes, with frame memory on. -/
def State.dmaRuns (s : State) : Bool := s.imaging && s.mem.online && s.host.enabled

/-- 12 R435: RUN. -/
def State.chRun (s : State) (c : Nat) : State :=
  let x := s.ch c
  let st := s.chState c
  if !s.dmaRuns || !(st == 0 || st == 4 || st == 5) then s
  else
    let x := if st = 4 then x else { x with head := 0, tail := 0, pending := 0 }
    (s.setCh c { x with bytes := 0, stopReq := 0, cur := none }).setO (Obj.DMA_STATE c) 1

/-- DMA_CTRL_RUN (12 R435). -/
def execDmaCtrlRun (c t : Nat) (s : State) : Ans := .next ((s.advance t).bar4 c (fun s => s.chRun c))

/-- 12 R435: STOP or ABORT: at once without a descriptor in progress, else STOPPING until it has ended. -/
def State.chStop (s : State) (c : Nat) (abort : Bool) : State :=
  let st := s.chState c
  if !(st == 1 || st == 2 || st == 3) then s
  else
    match (s.ch c).cur with
    | none => (s.setO (Obj.DMA_STATE c) 4).raise (16 + c)
    | some x =>
      let x := if abort then { x with result := if x.ending then x.result else 3, ending := true } else x
      (s.setCh c { s.ch c with cur := some x, stopReq := if abort then 2 else max 1 (s.ch c).stopReq }).setO (Obj.DMA_STATE c) 3

/-- DMA_CTRL_STOP (12 R435). -/
def execDmaCtrlStop (c t : Nat) (s : State) : Ans := .next ((s.advance t).bar4 c (fun s => s.chStop c false))

/-- DMA_CTRL_ABORT (12 R435). -/
def execDmaCtrlAbort (c t : Nat) (s : State) : Ans := .next ((s.advance t).bar4 c (fun s => s.chStop c true))

/-- DMA_CTRL_SOFT_REQ (12 R433, Table 12-9): line 31 of the channel. -/
def execDmaCtrlSoftReq (c t : Nat) (s : State) : Ans :=
  .next ((s.advance t).bar4 c (fun s => if fieldOf (s.o (Obj.DMA_CFG c)) 4 0 = 31 then s.requestOf c else s))

/-! ### Descriptors (12 R427, R428, R431) -/

/-- 12 Table 12-6. -/
def descOf (b : List Byte) : Desc :=
  { host := leAt b 0 8, dev := leAt b 8 8, len := leAt b 16 4, flags := leAt b 20 2, reserved := leAt b 22 2 }

/-- 12 Table 12-7, BAD_DESC. -/
def badDesc (d : Desc) : Bool :=
  d.host % 4 != 0 || !(decide (4 ≤ d.len ∧ d.len ≤ 67108864)) || d.len % 4 != 0 || d.reserved != 0 || d.flags / 64 != 0 ||
    (if bitAt d.flags 4 then decide (9 < d.dev) else (d.dev % 4 != 0 || decide (2 ^ 33 < d.dev + d.len)))

/-- 12 R431: the oldest entry of a table that is WAITING or SENDING and that no channel has taken. -/
def State.entryFor (s : State) (r : Nat) : Option Nat :=
  let ks := (List.range (s.ring r).slots.length).filter (fun k =>
    let x := s.slot r k
    (x.st == 2 || x.st == 3) && !x.taken)
  ks.foldl (fun b k =>
    match b with
    | none => some k
    | some j => if (s.slot r k).order < (s.slot r j).order then some k else some j) none

/-- A descriptor at its start: what it moves, and the result that is decided already. -/
def State.startRun (s : State) (d : Desc) : DescRun × Option (Nat × Nat) :=
  let z : DescRun := { desc := d, dev := d.dev, len := d.len, moved := 0, bursts := 0, t0 := s.time.now, entry := none, result := 0,
                       ending := false }
  if badDesc d then ({ z with len := 0, result := 4, ending := true }, none)
  else
    let toMem := !bitAt d.flags 0
    if bitAt d.flags 4 then
      match s.entryFor d.dev with
      | none => ({ z with len := 0, result := 1, ending := true }, none)
      | some k =>
        let x := s.slot d.dev k
        let n := min d.len x.len
        if toMem && !s.hostWritable x.addr n then ({ z with dev := x.addr, len := 0, result := 5, ending := true }, none)
        else ({ z with dev := x.addr, len := n, entry := some (d.dev, k, x.seq), ending := n == 0 }, some (d.dev, k))
    else if toMem && !s.hostWritable d.dev d.len then ({ z with len := 0, result := 5, ending := true }, none)
    else (z, none)

/-- 04 R153: a descriptor that may not write into a position region: its writes are dropped, counted and logged. -/
def State.dmaBlocked (s : State) (x : DescRun) : State :=
  let n := x.desc.len
  if x.result = 5 ∧ regionsOf x.dev n ≠ [] then s.blockedWrite x.dev n else s

/-- 12 R427, R433: the descriptor at HEAD starts; a WAIT descriptor takes one pending request, or waits for one. -/
def State.chStart (s : State) (c : Nat) (b : List Byte) : State :=
  let x := s.ch c
  let d := descOf b
  if bitAt d.flags 3 && x.pending == 0 then s.setO (Obj.DMA_STATE c) 2
  else
    let x := if bitAt d.flags 3 then { x with pending := x.pending - 1 } else x
    let r := s.startRun d
    let s := s.dmaBlocked r.1
    let s := match r.2 with
      | some (t, k) => s.setSlot t k { s.slot t k with held := true, taken := true }
      | none => s
    (s.setCh c { x with cur := some r.1 }).setO (Obj.DMA_STATE c) 1

/-- DMA_DESCRIPTOR_START (12 R427): the 32 bytes the channel fetched at HEAD. -/
def execDmaDescriptorStart (c : Nat) (words : List Byte) (t : Nat) (s : State) : Ans :=
  let s := s.advance t
  let x := s.ch c
  if c < 16 ∧ (s.chState c = 1 ∨ s.chState c = 2) ∧ x.cur.isNone = true ∧ x.head ≠ x.tail ∧ s.host.link = true then
    .next (s.chStart c words)
  else .next s

/-! ### Bursts (12 R434) -/

/-- 12 Table 12-11, BURST. -/
def State.burstSize (s : State) (c : Nat) : Nat := 256 * 2 ^ fieldOf (s.o (Obj.DMA_CFG c)) 10 8

/-- The channel has a burst to start, and its pace lets it. -/
def State.burstReady (s : State) (c : Nat) : Bool :=
  match (s.ch c).cur with
  | none => false
  | some x =>
    let r := s.o (Obj.DMA_RATE c)
    !x.ending && s.mem.online &&
      (r == 0 || x.bursts == 0 || decide (x.t0 * r + x.bursts * s.burstSize c * 1000 ≤ s.time.now * r))

/-- A channel's class. -/
def State.chPrio (s : State) (c : Nat) : Bool := bitAt (s.o (Obj.DMA_CFG c)) 5

/-- 12 R434: the next channel of a class after the one served last, round robin. -/
def State.nextOf (s : State) (prio : Bool) : Option Nat :=
  let last := if prio then s.host.rrHi else s.host.rrLo
  ((List.range 16).map (fun i => (last + 1 + i) % 16)).find? (fun c => s.chPrio c == prio && s.burstReady c)

/-- The channel whose burst is served next. -/
def State.nextBurst (s : State) : Option Nat :=
  match s.nextOf true with
  | some c => some c
  | none => s.nextOf false

/-- A burst of a channel moves its bytes: from the host (`data`) into frame memory, or to the host. -/
def State.burst (s : State) (c : Nat) (x : DescRun) (data : List Byte) : State :=
  let n := min (s.burstSize c) (x.len - x.moved)
  let ns := bitAt x.desc.flags 1
  let s := if bitAt x.desc.flags 0 then s.emit (.dma c (x.desc.host + x.moved) (s.dram (x.dev + x.moved) n) ns)
    else (s.emit (.dmaRead c (x.desc.host + x.moved) n ns)).setDram (x.dev + x.moved) (slice data 0 n)
  let x := { x with t0 := if x.bursts = 0 then s.time.now else x.t0, moved := x.moved + n, bursts := x.bursts + 1,
                    ending := decide (x.len ≤ x.moved + n) }
  let s := s.setCh c { s.ch c with cur := some x, bytes := ((s.ch c).bytes + n) % 2 ^ 64 }
  let s : State := { s with host := if s.chPrio c then { s.host with rrHi := c } else { s.host with rrLo := c } }
  s.traffic n

/-- 12 Table 12-7: a host request of the channel got no data: Unsupported Request, Completer Abort or poisoned data.  Its descriptor
ends with result PCIE, unless its end is decided already. -/
def State.hostFailed (s : State) (c : Nat) (x : DescRun) : State :=
  s.setCh c { s.ch c with cur := some { x with result := if x.result = 0 then 6 else x.result, ending := true } }

/-- DMA_BURST_START (12 R434): the burst of the channel whose turn it is; `good` is false when the host answers its read with no
data (Table 12-7). -/
def execDmaBurstStart (c : Nat) (data : List Byte) (good : Bool) (t : Nat) (s : State) : Ans :=
  let s := s.advance t
  match (s.ch c).cur with
  | some x =>
    if s.nextBurst ≠ some c ∨ s.host.link = false then .next s
    else if good || bitAt x.desc.flags 0 then .next (s.burst c x data)
    else
      let n := min (s.burstSize c) (x.len - x.moved)
      .next ((s.emit (.dmaRead c (x.desc.host + x.moved) n (bitAt x.desc.flags 1))).hostFailed c x)
  | none => .next s

/-- DMA_DESCRIPTOR_END (12 R429): all is moved or the end is decided; `good` is false when the host answers the read-back with no data
(Table 12-7). -/
def execDmaDescriptorEnd (c : Nat) (good : Bool) (t : Nat) (s : State) : Ans :=
  let s := s.advance t
  match (s.ch c).cur with
  | some x =>
    if !x.ending then .next s
    else .next ((if !good && bitAt x.desc.flags 0 && decide (4 ≤ x.moved) then s.hostFailed c x else s).endDesc c)
  | none => .next s

/-- COMPLETION_TIMEOUT (12 Table 12-4, Table 12-7): a request to the host is not answered: result PCIE. -/
def execCompletionTimeout (c t : Nat) (s : State) : Ans :=
  let s := s.advance t
  match (s.ch c).cur with
  | some x => .next ((s.setCh c { s.ch c with cur := some { x with result := 6, ending := true } }).endDesc c)
  | none => .next s

/-- DMA_STANDBY_CUT (12 R437): 10 ms after a transition to STANDBY began, a descriptor still in progress is cut. -/
def execDmaStandbyCut (c t : Nat) (s : State) : Ans :=
  let s := s.advance t
  match (s.ch c).cur with
  | some x =>
    if s.mode = Mode.standby ∧ s.modes.since + 10000000 ≤ s.time.now then
      .next ((s.setCh c { s.ch c with cur := some { x with result := 7, ending := true } }).endDesc c)
    else .next s
  | none => .next s

/-! ### Words of BAR4 and of the configuration space (12 Table 12-4, R422, Table 12-10) -/

/-- 12 Table 12-10: the STATUS register of a channel; the read clears OVERRUN. -/
def State.chStatus (s : State) (c : Nat) : Nat :=
  let x := s.ch c
  s.chState c + 8 * x.lastResult + 256 * x.pending + 65536 * b2n x.overrun

/-- The aligned offsets of BAR4 that are implemented: MSI-X table, pending bits, channel registers. -/
def bar4Has (a : Nat) : Bool :=
  decide (a < 0x200) || a == 0x800 || a == 0x804 || (decide (0x1000 ≤ a ∧ a < 0x1400) && decide (a % 0x40 < 0x18))

/-- 12 R424: the vector control word of a table entry masks the vector (bit 0); the other words stand as written. -/
def State.tableWrite (s : State) (a v : Nat) : State :=
  let n := a / 16
  if a % 16 / 4 = 3 then ({ s with host := { s.host with vecMask := withBit s.host.vecMask n (v % 2 == 1) } } : State).sendPending
  else { s with host := { s.host with msixTable := s.host.msixTable.set (3 * n + a % 16 / 4) (v % 2 ^ 32) } }

/-- A word of the MSI-X table. -/
def State.tableWord (s : State) (a : Nat) : Nat :=
  let n := a / 16
  if a % 16 / 4 = 3 then b2n (bitAt s.host.vecMask n) else s.host.msixTable.getD (3 * n + a % 16 / 4) 0

/-- 12 Table 12-10: a read of the register at offset `r` of a channel; BYTES latches its upper half as 11 R397 says. -/
def State.chRead (s : State) (c r : Nat) : State × Nat :=
  let x := s.ch c
  match r with
  | 0x00 => (s, x.tail)
  | 0x04 => (s, x.head)
  | 0x0C => (s.setCh c { x with overrun := false }, s.chStatus c)
  | 0x10 => ({ s with host := { s.host with latch := some (c, x.bytes / 2 ^ 32) } }, x.bytes % 2 ^ 32)
  | 0x14 =>
    match s.host.latch with
    | some (c', v) => if c' = c then ({ s with host := { s.host with latch := none } }, v) else (s, x.bytes / 2 ^ 32)
    | none => (s, x.bytes / 2 ^ 32)
  | _ => (s, 0)

/-- 12 R422: a read of a word of BAR4; an unimplemented offset reads zero. -/
def State.bar4Word (s : State) (a : Nat) : State × Nat :=
  if a < 0x200 then (s, s.tableWord a)
  else if a = 0x800 then (s, s.host.vecPend)
  else if 0x1000 ≤ a ∧ a < 0x1400 then s.chRead ((a - 0x1000) / 0x40) (a % 0x40)
  else (s, 0)

/-- 12 R435: what the bits of a word written to CTRL ask for, in the order of the bits (log 79). -/
def State.chCtrl (s : State) (c v : Nat) : State :=
  let s := if bitAt v 0 then s.chRun c else s
  let s := if bitAt v 1 then s.chStop c false else s
  let s := if bitAt v 2 then s.chStop c true else s
  if bitAt v 3 && fieldOf (s.o (Obj.DMA_CFG c)) 4 0 == 31 then s.requestOf c else s

/-- 12 R422: a write of a word of BAR4; a register that is read only stays as it is. -/
def State.bar4Write (a v : Nat) (s : State) : State :=
  if !bar4Has a then s.inc Obj.HP_CNT_BLOCKED
  else if a < 0x200 then s.tableWrite a v
  else if 0x1000 ≤ a ∧ a % 0x40 = 0 then s.chTail ((a - 0x1000) / 0x40) v
  else if 0x1000 ≤ a ∧ a % 0x40 = 8 then s.chCtrl ((a - 0x1000) / 0x40) v
  else s

/-- 12 Table 12-4, Revision ID: the stepping's letter from 'A' and its digit. -/
def revisionId : Nat := (Config.stepping / 256 - 0x41) * 16 + (Config.stepping % 256 - 0x30)

/-- 12 Table 12-4: the words of the configuration space.  Identity, sizes and kinds of the BARs, payload, tags, capabilities and link
are the table's; the standard's layout of each word, and where a capability stands, are the model's (log 79). -/
def State.configWord (s : State) (a : Nat) : Nat :=
  match a with
  | 0x00 => 0x4816 * 65536 + 0x1D9B
  | 0x04 => 0x00100000 + 4 * b2n s.host.busMaster
  | 0x08 => 0x118000 * 256 + revisionId
  | 0x10 => s.host.bars.getD 0 0 / 2 ^ 20 * 2 ^ 20
  | 0x18 => 0xC
  | 0x1C => s.host.bars.getD 2 0 / 2 * 2
  | 0x20 => s.host.bars.getD 3 0 / 2 ^ 14 * 2 ^ 14
  | 0x2C => s.host.subsys % 65536 * 65536 + s.host.subsys / 65536
  | 0x34 => 0x40
  | 0x40 => 0x00035001
  | 0x44 => 8 + 3 * b2n s.host.d3hot
  | 0x50 => 0x001F6011 + 2 ^ 30 * b2n s.host.fnMask + 2 ^ 31 * b2n s.host.msixEn
  | 0x54 => 0x0000 + 4
  | 0x58 => 0x0800 + 4
  | 0x60 => 0x00020010
  | 0x64 => 0x10008022
  | 0x68 => s.host.devCtl
  | 0x6C => 4 + 16 * 4 + 1024 * 2
  | 0x70 => 65536 * (s.o Obj.HP_LINK / 16 + 16 * (s.o Obj.HP_LINK % 16))
  | 0x84 => 0x00030000
  | 0x100 => 0x15020001
  | 0x150 => 0x00010003
  | 0x154 => Config.deviceId % 2 ^ 32
  | 0x158 => Config.deviceId / 2 ^ 32 % 2 ^ 32
  | _ => 0

/-- 12 R424: the host writes the function mask and the enable of MSI-X; what is pending and no longer masked is sent. -/
def State.msixCtl (s : State) (v : Nat) : State :=
  ({ s with host := { s.host with fnMask := bitAt v 30, msixEn := bitAt v 31 } } : State).sendPending

/-- 12 R423: the host writes the power state: D3hot, or D0. -/
def State.powerCtl (s : State) (v : Nat) : State :=
  if v % 4 = 3 ∧ s.host.d3hot = false then s.enterD3hot
  else if v % 4 = 0 then s.leaveD3hot
  else s

/-- A write of the configuration space: bus master enable, the BARs, the power state, the control of MSI-X, Device Control with FLR
(12 Table 12-4, R423, R424, R437; log 79). -/
def State.configWrite (a v : Nat) (s : State) : State :=
  match a with
  | 0x04 => { s with host := { s.host with busMaster := bitAt v 2 } }
  | 0x10 => { s with host := { s.host with bars := s.host.bars.set 0 (v % 2 ^ 32) } }
  | 0x18 => { s with host := { s.host with bars := s.host.bars.set 1 (v % 2 ^ 32) } }
  | 0x1C => { s with host := { s.host with bars := s.host.bars.set 2 (v % 2 ^ 32) } }
  | 0x20 => { s with host := { s.host with bars := s.host.bars.set 3 (v % 2 ^ 32) } }
  | 0x44 => s.powerCtl v
  | 0x50 => s.msixCtl v
  | 0x68 => if bitAt v 15 then s.dmaDrop.functionReset else { s with host := { s.host with devCtl := v % 2 ^ 15 } }
  | _ => s

/-- The configuration space answers over the link, in D3hot too. -/
def State.configAccess (s : State) (f : State → State) : State := if s.host.link then f s else s

/-- A read of a word returns the addressed bytes of it (11 R403). -/
def State.answerWord (addr size : Nat) (x : State × Nat) : State := x.1.emit (.value (x.2 / 256 ^ (addr % 4) % 256 ^ size))

end Sys2Proof.Machine
end

