-- ==== Sys2Proof/Machine/Bar0.lean ====
section
/-!
DEFINITION. BAR0 (11 R397 to R404, Table 11-4): slots of objects, the window, the staging buffer, the high-word latch and the
held low word; and the words of BAR4 and the configuration space (12 R422).
-/
namespace Sys2Proof.Machine

/-! ### What an offset is -/

/-- What an aligned offset of BAR0 names (11 Table 11-4, R401). -/
inductive Slot where
  /-- The subindex of an object, by the key of the slot. -/
  | key (k : Nat)
  /-- The upper half of the U64 object with this key. -/
  | upper (k : Nat)
  /-- A word of the staging buffer. -/
  | buffer (o : Nat)
  /-- An unimplemented offset. -/
  | nothing
deriving DecidableEq, Repr

/-- The slot of a subindex: an object's own, or the one after a U64 object. -/
def Slot.of (k : Nat) : Slot :=
  if (Obj.row? k).isSome || k % 256 == 0 then .key k
  else
    match Obj.row? (k - 1) with
    | some r => if r.ty = .u64 then .upper (k - 1) else .key k
    | none => .key k

/-- 11 Table 11-4, R401: the slot at an offset. -/
def State.slotAt (s : State) (a : Nat) : Slot :=
  if 0x10000 ≤ a ∧ a < 0x60000 then Slot.of (a / 16 * 256 + a % 16 / 4)
  else if 0xFC000 ≤ a ∧ a < 0xFE000 then .buffer (a / 4 * 4 - 0xFC000)
  else if 0xFF000 ≤ a ∧ a < 0xFF400 then Slot.of (s.o Obj.BAR0_WIN_INDEX * 256 + (a - 0xFF000) / 4)
  else .nothing

/-! ### Reads (11 R397, R402, R403) -/

/-- A value of 32 bits or less in its slot: zero-extended, sign-extended, or its pattern (R402). -/
def slotWord (t : ObjTy) (v : Int) : Nat := if t.signed then toCode 32 v else t.encode v

/-- The low slot of an object: its value; a 64-bit one fills the latch with its upper half. -/
def State.lowRead (s : State) (k : Nat) : State × Nat :=
  match Obj.readable k with
  | .error _ => (s, 0)
  | .ok r =>
    if !r.ty.scalar then (s, 0)
    else
      let x := s.readValue .host r k
      if r.ty = .u64 then
        let v := r.ty.encode x.2
        ({ x.1 with bar0 := { x.1.bar0 with latch := some (k, v / 2 ^ 32) } }, v % 2 ^ 32)
      else (x.1, slotWord r.ty x.2)

/-- The upper slot of an object: the latch when it was filled from the object and not yet returned, else the current upper
half. -/
def State.upperRead (s : State) (k : Nat) : State × Nat :=
  match Obj.readable k with
  | .error _ => (s, 0)
  | .ok r =>
    match s.bar0.latch with
    | some (k', v) =>
      if k' = k then ({ s with bar0 := { s.bar0 with latch := none } }, v) else (s, ObjTy.u64.encode (s.value .host k r.acc) / 2 ^ 32)
    | none => (s, ObjTy.u64.encode (s.value .host k r.acc) / 2 ^ 32)

/-- A read of the aligned word at an offset. -/
def State.bar0Word (s : State) (a : Nat) : State × Nat :=
  match s.slotAt a with
  | .key k => s.lowRead k
  | .upper k => s.upperRead k
  | .buffer o => (s, leNat (Store.read (fun _ => 0#8) s.bar0.buf o 4))
  | .nothing => (s, 0)

/-- A BAR0 request that reaches the steward: the link is up, the function is not in D3hot (12 R423), the steward serves. -/
def State.bar0Access (s : State) (f : State → State) : State := s.onPath .host (fun s => f (s.touch .host))

/-- A read of `size` bytes returns the addressed bytes of the slot (R403). -/
def State.bar0Read (addr size : Nat) (s : State) : State := State.answerWord addr size (s.bar0Word addr)

/-- A read of `size` bytes within one word of the function. -/
def State.wordRead (s : State) (bar : Bar) (addr size : Nat) : State :=
  match bar with
  | .bar0 => s.bar0Access (State.bar0Read addr size)
  | .bar4 => s.bar4Access (fun s => State.answerWord addr size (s.bar4Word (addr / 4 * 4)))
  | .config => s.configAccess (fun s => State.answerWord addr size (s, s.configWord (addr / 4 * 4)))

/-- BAR0_LOW_READ (11 R397, R399, R402, R403; in BAR4 12 R422). -/
def execBar0LowRead (bar : Bar) (addr size t : Nat) (s : State) : Ans := .next ((s.advance t).wordRead bar addr size)

/-- BAR0_UPPER_READ (11 R397, R403; in BAR4 12 R422). -/
def execBar0UpperRead (bar : Bar) (addr size t : Nat) (s : State) : Ans := .next ((s.advance t).wordRead bar addr size)

/-! ### Writes (11 R398, R402, R403) -/

/-- A dropped write counts and is logged (R403). -/
def State.bar0Drop (s : State) (addr : Nat) : State :=
  (s.inc Obj.OD_CNT_BAR0_DROP).logEvt .barDrop 0xFF 0 [(4, addr)]

/-- The bits of a word beyond a type are its zero or sign extension (R402). -/
def extends32 (t : ObjTy) (v : Nat) : Bool :=
  if t.signed then v % 2 ^ 32 == toCode 32 (t.decode v) else decide (v < 256 ^ t.size)

/-- What a write of a slot brings to an object of a type. -/
def Written.slot (t : ObjTy) (v : Nat) : Written :=
  { num := v % 256 ^ t.size, len := t.size, ext := extends32 t v, bytes := [] }

/-- A slot of a STR or DOM takes no write of a word: READ_ONLY, ACCESS, else TYPE. -/
def State.blobSlot (s : State) (r : ObjRow) : Nat :=
  if r.acc = .ro then Abort.readOnly else if s.level .host < r.lvl then Abort.access else Abort.type

/-- A written value as one write, or the refusal it meets. -/
def State.bar0Put (s : State) (k : Nat) (x : Written) : State :=
  match State.objWrite .host k x s with
  | .ok s' => s'
  | .error c => (s.writeRefused k x.num c).refuse .host k c

/-- A write of a low slot: the low word of a 64-bit object is held, any other object is written. -/
def State.lowWrite (s : State) (k v : Nat) : State :=
  match Obj.find k with
  | .error c => s.dropHeld.refuse .host k c
  | .ok r =>
    let s := s.dropHeld
    if r.ty = .u64 then { s with bar0 := { s.bar0 with held := some (k, v % 2 ^ 32) } }
    else if r.ty.scalar then s.bar0Put k (Written.slot r.ty v)
    else s.refuse .host k (s.blobSlot r)

/-- A write of an upper slot: with the held low word of its object, or its current low half, as one write. -/
def State.upperWrite (s : State) (k v : Nat) : State :=
  let acc := match Obj.row? k with | some r => r.acc | none => .ro
  match s.bar0.held with
  | some (k', low) =>
    if k' = k then
      ({ s with bar0 := { s.bar0 with held := none } } : State).bar0Put k (Written.slot .u64 (v % 2 ^ 32 * 2 ^ 32 + low))
    else
      s.dropHeld.bar0Put k (Written.slot .u64 (v % 2 ^ 32 * 2 ^ 32 + ObjTy.u64.encode (s.value .host k acc) % 2 ^ 32))
  | none => s.bar0Put k (Written.slot .u64 (v % 2 ^ 32 * 2 ^ 32 + ObjTy.u64.encode (s.value .host k acc) % 2 ^ 32))

/-- An aligned 32-bit write. -/
def State.bar0Write (addr v : Nat) (s : State) : State :=
  match s.slotAt addr with
  | .key k => s.lowWrite k v
  | .upper k => s.upperWrite k v
  | .buffer o =>
    let s := s.dropHeld
    { s with bar0 := { s.bar0 with buf := Store.write (fun _ => 0#8) s.bar0.buf o (leBytes 4 v) } }
  | .nothing => s.dropHeld.bar0Drop addr

/-- A write of one word of the function; unaligned it is dropped. -/
def State.wordWrite (s : State) (bar : Bar) (addr v : Nat) : State :=
  match bar with
  | .bar0 => s.bar0Access (fun s => if addr % 4 = 0 then s.bar0Write addr v else s.dropHeld.bar0Drop addr)
  | .bar4 => s.bar4Access (fun s => if addr % 4 = 0 then s.bar4Write addr v else s)
  | .config => s.configAccess (fun s => if addr % 4 = 0 then s.configWrite addr v else s)

/-- BAR0_LOW_WRITE (11 R398, R402; in BAR4 12 R422). -/
def execBar0LowWrite (bar : Bar) (addr v t : Nat) (s : State) : Ans := .next ((s.advance t).wordWrite bar addr v)

/-- BAR0_UPPER_WRITE (11 R398; in BAR4 12 R422). -/
def execBar0UpperWrite (bar : Bar) (addr v t : Nat) (s : State) : Ans := .next ((s.advance t).wordWrite bar addr v)

/-- BAR0_DROPPED_WRITE (11 R403): a write of `size` bytes that is narrower, unaligned or to an unimplemented offset; in BAR4 one
to an unimplemented offset (12 R422). -/
def execBar0DroppedWrite (bar : Bar) (addr size t : Nat) (s : State) : Ans :=
  let s := s.advance t
  match bar with
  | .bar0 =>
    if size = 4 ∧ addr % 4 = 0 ∧ s.slotAt addr ≠ .nothing then .next s
    else .next (s.bar0Access (fun s => s.dropHeld.bar0Drop addr))
  | .bar4 => .next (s.bar4Access (fun s => if bar4Has (addr / 4 * 4) then s else s.inc Obj.HP_CNT_BLOCKED))
  | .config => .next s

/-! ### The staging commands (11 R404) -/

/-- BAR0_DOM_CMD_READ (11 R404). -/
def execBar0DomCmdRead (via : Via) (t : Nat) (s : State) : Ans :=
  .next (s.runCommand via Obj.BAR0_DOM_CMD t (State.cmdDomCmd via 1))

/-- BAR0_DOM_CMD_WRITE (11 R404). -/
def execBar0DomCmdWrite (via : Via) (t : Nat) (s : State) : Ans :=
  .next (s.runCommand via Obj.BAR0_DOM_CMD t (State.cmdDomCmd via 2))

/-- BAR0_DOM_CMD_END (11 R404, 12 Table 12-4): BUSY clears, DONE or REFUSED shows how it went, and vector 0 is raised. -/
def execBar0DomCmdEnd (t : Nat) (s : State) : Ans :=
  let s := s.advance t
  match s.bar0.busy with
  | none => .next s
  | some (_, refused) =>
    .next ((({ s with bar0 := { s.bar0 with busy := none } } : State).setO Obj.BAR0_DOM_STATUS (if refused then 4 else 2)).raise 0)

end Sys2Proof.Machine
end

