-- ==== Sys2Proof/Machine/Forward.lean ====
section
/-!
DEFINITION. The chain ports (10 R348 to R361, R370, R380, R382): links, and every frame that arrives on one port and is
forwarded on the other.
-/
namespace Sys2Proof.Machine

/-! ### Links (10 R349, R382) -/

/-- 10 R382: the telegrams queued on a port whose link goes down: NOTIFY and MODE_REPORT move to the other port. -/
def State.moveQueue (s : State) (b : Bool) : State :=
  let q := (s.port b).queue.filter spontaneous
  let s := s.setPort b { s.port b with queue := [] }
  s.setPort (!b) { s.port (!b) with queue := (s.port (!b)).queue ++ q }

/-- 10 R349: a link is up when the PCS is synchronised and auto-negotiation is complete or disabled, and, behind SGMII, the PHY
reports 1000 Mbit/s. -/
def State.linkOf (s : State) (port pcs an gigabit : Bool) : Bool :=
  match s.chain.ifInForce.getD (b2n port) 0 with
  | 1 => pcs
  | 2 => pcs && an && gigabit
  | _ => pcs && an

/-- CHAIN_LINK_CHANGE (10 R349, R382): what a port sees of its partner changes, and its link comes up or goes down with it; NOTIFY
LINK_DOWN leaves on the other port. -/
def execChainLinkChange (port pcs an gigabit : Bool) (t : Nat) (s : State) : Ans :=
  let s := s.advance t
  if !s.alive then .next s
  else
    let was := (s.port port).link
    let up := s.linkOf port pcs an gigabit
    let s := s.setPort port { s.port port with
      link := up, pcs := pcs, an := pcs && an && s.chain.ifInForce.getD (b2n port) 0 != 1 }
    if was && !up then
      .next ((((s.moveQueue port).inc (Obj.CHAIN_CNT_LINK_DOWN (b2n port))).notify 0x0080 0xFF [(1, b2n port)]).moveQueue port)
    else .next s

/-! ### What a frame is -/

/-- EtherType of a frame that begins with its destination address. -/
def frameType (f : List Byte) : Nat := beAt f 12 2

/-- Bytes of a frame from an offset replaced. -/
def patch (f : List Byte) (o : Nat) (b : List Byte) : List Byte := f.take o ++ b ++ f.drop (o + b.length)

/-- 10 R380: the message is a Sync or a Delay_Req. -/
def ptpTimed (f : List Byte) : Bool := beAt f 14 1 % 16 ≤ 1

/-- 10 R380, 08 R291: correctionField with the residence time, in units of 2^-16 ns, and the asymmetry of the receiving port
in ps added. -/
def State.ptpForward (s : State) (port : Bool) (residence : Nat) (f : List Byte) : List Byte :=
  if ptpTimed f then
    let c := fromCode 64 (beAt f 22 8) + residence + roundDiv (s.oi (Obj.TIME_PORT_ASYM (b2n port)) * 65536) 1000
    patch f 22 (beBytes 8 (toCode 64 (satS 64 c)))
  else f

/-- The bytes of a frame as they leave the other port: HOP of a telegram one higher (10 R353), PTP corrected (R380). -/
def State.forwardBytes (s : State) (port : Bool) (residence : Nat) (f : List Byte) : List Byte :=
  if frameType f = s.chain.etherInForce then patch f 17 [byteOf (beAt f 17 1 + 1)]
  else if frameType f = 0x88F7 then s.ptpForward port residence f
  else f

/-! ### Telegrams (10 R356 to R361) -/

/-- 10 Table 10-2: the telegram types. -/
def teleTypes : List Nat := [0x01, 0x02, 0x03, 0x04, 0x10, 0x11, 0x20, 0x21, 0x30, 0x31, 0x32, 0x40, 0x50]

/-- 10 Table 10-5: the bytes up to the end of `n` records of a RANGE_READ reply from an offset on: SUB, DTYPE, LEN and LEN bytes each. -/
def recordsEnd (p : List Byte) : Nat → Nat → Nat
  | 0, o => o
  | n + 1, o => recordsEnd p n (o + 4 + beAt p (o + 2) 2)

/-- Payload bytes that 10 Table 10-5 requires of a telegram. -/
def payloadMin (type : Nat) (reply error : Bool) (p : List Byte) : Nat :=
  if reply && error then 4
  else
    match type, reply with
    | 0x01, false => 12
    | 0x01, true => 16 + beAt p 12 2
    | 0x02, false => 12 + beAt p 8 2
    | 0x02, true => 8
    | 0x03, false => 4
    | 0x03, true => recordsEnd p (beAt p 4 1) 8
    | 0x04, false => 4
    | 0x04, true => 20
    | 0x10, _ => 12
    | 0x11, _ => 24
    | 0x20, _ => 28
    | 0x21, false => 24
    | 0x21, true => 1
    | 0x30, _ => 8
    | 0x31, _ => 8
    | 0x32, _ => 8 + 8 * beAt p 4 1
    | 0x40, _ => 32
    | 0x50, _ => 36
    | _, _ => 0

/-- 10 R356: a telegram that is forwarded but not processed. -/
def malformedTele (f : List Byte) : Bool :=
  let len := beAt f 24 2
  let flags := beAt f 16 1
  beAt f 14 1 / 16 != 1 || !teleTypes.contains (beAt f 15 1) || f.length - 30 < len ||
    len < payloadMin (beAt f 15 1) (bitAt flags 7) (bitAt flags 6) (slice f 30 len)

/-- 10 Table 10-2: the DST values a type permits; none for a reserved type. -/
def typeDst (type : Nat) : Option DstKind :=
  match type with
  | 0x01 => some .unicast
  | 0x02 => some .anyDst
  | 0x03 => some .unicast
  | 0x04 => some .anyDst
  | 0x10 => some .anyDst
  | 0x11 => some .master
  | 0x20 => some .broadcast
  | 0x21 => some .stationOrGroup
  | 0x30 => some .unicast
  | 0x31 => some .broadcast
  | 0x32 => some .broadcast
  | 0x40 => some .master
  | 0x50 => some .unicast
  | _ => none

/-- 10 R361: a telegram of another module that carries this module's station. -/
def State.sameStation (s : State) (f : List Byte) : State :=
  let src := beAt f 19 1
  let pos := beAt f 20 1
  if 1 ≤ src ∧ src ≤ 127 ∧ src = s.o Obj.CHAIN_STATION ∧ src ≠ 127 ∧ pos ≠ s.o Obj.CHAIN_POSITION ∧ s.chain.dupStation = false then
    ({ s with chain := { s.chain with dupStation := true } } : State).notify 0x0062 0xFF [(1, pos)]
  else s

/-- 10 R370: a telegram joins the steward queue of its port, or is lost. -/
def State.queueTelegram (s : State) (port : Bool) : State :=
  if 32 ≤ (s.port port).rx then s.inc (Obj.CHAIN_CNT_RX_OVF (b2n port))
  else s.setPort port { s.port port with rx := (s.port port).rx + 1 }

/-- A good telegram as the module looks at it once steward firmware runs: counted when malformed or when its type does not
permit its DST, queued for the steward when it is a request of the master for this module. -/
def State.inspect (s : State) (port : Bool) (f : List Byte) : State :=
  let type := beAt f 15 1
  let flags := beAt f 16 1
  let src := beAt f 19 1
  let dst := beAt f 18 1
  if malformedTele f then s.inc Obj.CHAIN_CNT_MALFORMED
  else
    let s := s.sameStation f
    if bitAt flags 7 then s
    else
      match typeDst type with
      | none => s
      | some k =>
        if !k.permits (bitAt flags 4) dst then s.inc Obj.CHAIN_CNT_BAD_ADDR
        else if src = 0 ∧ type ≠ 0x20 ∧ s.addressed (bitAt flags 4) dst (beAt f 17 1) = true then s.queueTelegram port
        else s

/-- A frame whose FCS fails counts as stomped, or as damaged on this link (10 R353). -/
def State.badFcs (s : State) (port stomped : Bool) : State :=
  s.inc (if stomped then Obj.CHAIN_CNT_STOMPED (b2n port) else Obj.CHAIN_CNT_FCS (b2n port))

/-- 10 R351 to R353: a frame is forwarded when the other port's link is up; it ends with the inverse of its FCS when it
arrived damaged. -/
def State.forward (s : State) (port : Bool) (f : List Byte) (good : Bool) (residence : Nat) : State :=
  if (s.port (!port)).link then
    let s := s.emit (.chain (b2n (!port)) (s.forwardBytes port residence f) good)
    if frameType f = s.chain.etherInForce ∨ frameType f = 0x88F7 then s else s.inc (Obj.CHAIN_CNT_FOREIGN (b2n port))
  else s

/-- A frame that has arrived on a port whose link is up. -/
def State.arrive (s : State) (port : Bool) (f : List Byte) (fcsOk stomped : Bool) (residence : Nat) : State :=
  let tele := decide (frameType f = s.chain.etherInForce)
  if 1518 < f.length + 4 then s.inc (Obj.CHAIN_CNT_OVERSIZE (b2n port))
  else if frameType f = 0x8808 then (if fcsOk then s else s.badFcs port stomped)
  else
    let hop := tele && beAt f 17 1 == 255
    let s := if hop then s.inc Obj.CHAIN_CNT_HOP_LIMIT else s.forward port f fcsOk residence
    if !fcsOk then s.badFcs port stomped
    else if tele && !hop && s.fwUp then s.inspect port f
    else s

/-- 10 R350: the ports forward from 0.2 ms after the release of internal reset on. -/
def State.chainUp (s : State) : Bool := s.alive && decide (s.boot.tR + 200000 ≤ s.time.mono)

/-- CHAIN_FRAME_FORWARD (10 R350 to R358, R380): a frame, from its destination address to the end of its payload, arrives
on a port; `stomped` when its failing FCS is the inverse of the correct one; it leaves `residence` × 2^-16 ns later. -/
def execChainFrameForward (port : Bool) (frame : List Byte) (fcsOk stomped : Bool) (residence t : Nat) (s : State) : Ans :=
  let s := s.advance t
  if !s.chainUp || s.extest || !(s.port port).link then .next s
  else .next (s.arrive port frame fcsOk stomped residence)

end Sys2Proof.Machine
end

