-- ==== Sys2Proof/Machine/Frames.lean ====
section
/-!
DEFINITION. Drain, hand-over and the course of a frame through the pipeline (01 R21 to R33, 04 R143 to R155, 05, 06 R213 to
R221, 07 R265, 16 R526).
-/
namespace Sys2Proof.Machine

/-! ### What a hand-over does, part by part -/

/-- 07 R265: the set active until now governs the frame; a committed set becomes active. -/
def State.handGen (s : State) (p : Pos) : State :=
  let g := s.gen.get p
  let s := (s.setGen p { g with gov := g.act }).setO (Obj.GEN_GOVERNING p.val) (s.oi (Obj.GEN_ACTIVE p.val))
  if g.committed then
    let was := s.act p (Obj.INTG_VDET p.val)
    let s := s.activate p
    { s with vdet := s.vdet.upd p (fun v => { v with follow := v.follow || s.act p (Obj.INTG_VDET p.val) != was }) }
  else s

/-- 07 R257: a frame that has closed before its hand-over has its ramp begin at the hand-over: DESIGN CHOICE (log 62). -/
def State.handVdet (s : State) (p : Pos) (num : Nat) : State :=
  if ((s.intake.get p).frm.map (·.num)) = some num then s else s.vdetFollow p

/-- 03 R118, 07 R265: what the hand-over into a closed frame activates is sent in what is left of that frame's vertical blank, and
governs the next frame on the FPA too (log 62). -/
def State.handWords (s : State) (p : Pos) (num : Nat) : State :=
  if ((s.intake.get p).frm.map (·.num)) = some num then s else s.lateWords p

/-- 01 R29, 04 R152, R155, 05 R178, R181, 06 R234: what a hand-over does to the coefficient set: OPENING becomes OPEN, a
completed change counts. -/
def State.handCoef (s : State) (p : Pos) : State :=
  let c := s.coef.get p
  let st := s.coefState p
  let s := if st = 1 then (s.setCoef p { c with notReady := true }).setO (Obj.CORR_COEF_STATE p.val) 2 else s
  let s := if c.histReset then s.emptyStamps p else s
  let s := s.setCoef p { s.coef.get p with histReset := false }
  if !c.changed then s
  else
    let s := s.incWrap (Obj.CORR_COEF_GEN p.val)
    let s := s.setCoef p { s.coef.get p with
        changed := false, changedByLoad := false, notReady := if st = 0 then false else (s.coef.get p).notReady }
    let s := if c.changedByLoad then
        ((s.emptyStamps p).emptyTauHistory p).setOs [(Obj.ECL_DRIFT_STATE p.val, 0), (Obj.ECL_LAST_TIME p.val, 0)] else s
    s.tauMedian p

/-- 16 R526: the throttle overlay of the position follows the steps taken. -/
def State.handThrottle (s : State) (p : Pos) : State :=
  let new := s.therm.halved && !s.therm.inHalf.get p
  { s with
    therm := { s.therm with govDrop := s.therm.govDrop.set p (s.therm.inDrop.get p), inDrop := s.therm.inDrop.set p (s.therm.dropMask p),
                            inSlots := s.therm.inSlots.set p s.therm.slotSteps, inHalf := s.therm.inHalf.set p s.therm.halved },
    trig := s.trig.upd p (fun g => { g with dropNext := if new then false else g.dropNext }) }

/-- 16 R527: a step of enforcement reaches the position with this hand-over. -/
def State.throttleReaches (s : State) (p : Pos) : Bool :=
  decide (s.therm.inSlots.get p < s.therm.slotSteps) || (s.therm.halved && !s.therm.inHalf.get p)

/-- 07 R257, R259, 04 Table 04-8, 02 Table 02-4: the frame carries NOT_READY. -/
def State.frameNotReady (s : State) (p : Pos) (f : OpenFrame) : Bool :=
  let v := s.vdet.get p
  let st := s.coefState p
  f.mode == 1 || decide (2 ≤ st) || (s.coef.get p).notReady || v.fault || s.pwr.fpaOff.get p ||
    v.rampEnd.isSome || decide (f.start < v.settled) || (match v.settleAt with | some t => decide (f.start < t) | none => false)

/-- ns from an instant to the frame's start; all ones while there is none (09 Table 09-4). -/
def ageOf (since : Option Nat) (start : Nat) : Nat :=
  match since with
  | some a => start - a
  | none => 2 ^ 64 - 1

/-- 01 Table 01-5: the frame's record as its hand-over takes it; flags of the eclipse and the set follow. -/
def State.frameCtx (s : State) (p : Pos) (f : OpenFrame) (slots : Nat) (half : Bool) : FrameCtx :=
  let her := s.fpaHer p
  let a := s.fpa.get p
  let mask := a.effMask
  { num := f.num, start := f.start, width := f.width, height := f.height, mask := f.mask, ackMask := mask,
    times := (List.range 4).map (fun k => if bitAt mask k then s.ackTime p k else 0),
    heritage := her, dropShort := f.dropShort, gov := (s.gen.get p).gov, settingsGen := s.o (Obj.GEN_GOVERNING p.val),
    coefGen := s.o (Obj.CORR_COEF_GEN p.val), coefTag := s.o (Obj.CORR_COEF_TAG p.val), mode := f.mode, txn := f.txn,
    role := if s.leaseValid then s.o Obj.LEASE_ROLE else 0, epoch := if s.leaseValid then s.o Obj.LEASE_EPOCH else 0,
    station := s.o Obj.CHAIN_STATION, trigKind := f.trigKind, trigT := f.trigT, trigE := f.trigE, trigSeq := f.trigSeq,
    eclAge := ageOf (if s.o (Obj.ECL_LAST_TIME p.val) = 0 then none else some (s.o (Obj.ECL_LAST_TIME p.val))) f.start,
    driftAge := ageOf (if s.o (Obj.ECL_DRIFT_STATE p.val) = 0 then none else some (s.o (Obj.ECL_DRIFT_TIME p.val))) f.start,
    eclCount := s.o (Obj.ECL_COUNT p.val) % 2 ^ 32,
    throttle := s.o Obj.THERM_THROTTLE_STATE / 128 * 128 + 64 * b2n half + slots,
    throttled := decide (0 < slots) || half, notReady := s.frameNotReady p f, eclipsed := s.eclFlag p, subt := f.subt, short := false,
    long := false, clipped := false, eclKind := f.eclKind, close := 0, closedAt := 0, geom := false, overflow := false }

/-- 05 R202: the row flags of the temporal filter are cleared when it comes on. -/
def State.handFilter (s : State) (p : Pos) (was : Int) : State :=
  if was = 0 ∧ s.gov p (Obj.OF_TNR_EN p.val) ≠ 0 then s.clearRowValid p else s

/-- 04 R151, 05 R198: the coefficient objects reach imaging at a hand-over instant, as a whole. -/
def State.calibNow (s : State) (p : Pos) : Calib :=
  { lut := s.dom (Obj.CORR_LIN_LUT p.val), t0 := s.o (Obj.CORR_T0 p.val),
    rad := Quad.of (fun k => s.dom (Obj.RAD_LUT p.val k.val)), ratio := Quad.of (fun k => s.o (Obj.MERGE_RATIO p.val k.val)),
    herDrift := s.oi Obj.HER_DRIFT_D, herTref := s.o Obj.HER_TREF }

/-- 04 R130: the substrate track starts from CORR_SUBT_START; 0 marks an empty carry. -/
def State.handTrack (s : State) (p : Pos) (x : FrameCtx) : State :=
  let c := s.oi (Obj.CORR_SUBT_START p.val)
  let y := s.pipe.get p
  s.setPipe p { PipePos.reset with
      frm := some x, calib := s.calibNow p, track := c * 8, trackEmpty := c == 0, lastClipped := y.lastClipped, lastStaged := y.lastStaged,
      lastSat := y.lastSat, subtHeld := y.subtHeld, done := y.done }

/-- 12 Table 12-9: an eclipse that became effective with this hand-over asserts its request line. -/
def State.eclLine (s : State) (p : Pos) (before : Int) : State :=
  if s.oi (Obj.ECL_COUNT p.val) ≠ before then s.requestLine (18 + p.val) else s

/-- 07 R258: the governing VDET code differs from that of the last completed eclipse: the position becomes due as if by
ECL_REQUEST. -/
def State.vdetDue (s : State) (p : Pos) : State :=
  match (s.vdet.get p).eclCode with
  | some c =>
    if s.phase p ≤ 1 ∧ (s.ecl.get p).granted = false ∧ s.gov p (Obj.INTG_VDET p.val) ≠ ((c : Nat) : Int) then
      (s.becomeDue p).setEcl p { (s.becomeDue p).ecl.get p with requested := true }
    else s
  | none => s

/-- 01 R23: the hand-over into frame `f`. -/
def State.handOver (s : State) (p : Pos) (f : OpenFrame) : State :=
  let slots := s.therm.inSlots.get p
  let half := s.therm.inHalf.get p
  let tnr := s.gov p (Obj.OF_TNR_EN p.val)
  let count := s.oi (Obj.ECL_COUNT p.val)
  let s := (((s.handGen p).handVdet p f.num).handFilter p tnr).vdetDue p
  let e := s.eclHandOver p (s.frameCtx p f slots half) (s.throttleReaches p)
  let s := (((e.1.handCoef p).handThrottle p).handWords p f.num).showLoads
  let x := { s.frameCtx p f slots half with eclKind := e.2 }
  (((s.handTrack p x).takeSlots x p).eclLine p count).afterEcl

/-- 01 R22, R23: the frame whose hand-over comes: the oldest one closed or open, once the pipeline of the position is empty. -/
def State.nextFrame (s : State) (p : Pos) : Option OpenFrame :=
  if (s.pipe.get p).frm.isSome then none
  else ((s.intake.get p).ended ++ (s.intake.get p).frm.toList).head?

/-- HAND_OVER_INSTANT (01 R23, R26, R28, R29, R31): the next frame begins in the pipeline of the position. -/
def execHandOverInstant (p : Pos) (t : Nat) (s : State) : Ans :=
  let s := s.advance t
  match s.nextFrame p with
  | some f => .next (s.handOver p f)
  | none => .next s

/-- DRAIN_COMPLETE (01 R21, R22): all content of the ending frame has left the pipeline; a transition that waits for it
goes on. -/
def execDrainComplete (p : Pos) (t : Nat) (s : State) : Ans := .next (((s.advance t).endDrain p).modeProceed)

/-- INGOT_COMPLETE (01 R25): the ingots of the oldest drained frame of the position are complete and wait. -/
def execIngotComplete (p : Pos) (t : Nat) (s : State) : Ans := .next ((s.advance t).ingotsDone p)

/-- PREFETCH_COMPLETE (04 R143): the coefficient entries of a row packet arrive. -/
def execPrefetchComplete (p : Pos) (t : Nat) (s : State) : Ans := .next ((s.advance t).prefetch p)

/-- READOUT_ENTERS_SLICE (04 R133): the readouts of a packet whose entries have arrived are linearised and corrected. -/
def execReadoutEntersSlice (p : Pos) (t : Nat) (s : State) : Ans := .next ((s.advance t).enterSlice p)

/-- DEFECT_REPLACEMENT_ROW (04 R147). -/
def execDefectReplacementRow (p : Pos) (slot : Fin 4) (t : Nat) (s : State) : Ans := .next ((s.advance t).replaceRow p slot)

/-- PIXEL_MERGE (05 R188). -/
def execPixelMerge (p : Pos) (t : Nat) (s : State) : Ans := .next ((s.advance t).merge p)

/-- OUTPUT_FILTER_ROW (05 R201). -/
def execOutputFilterRow (p : Pos) (t : Nat) (s : State) : Ans := .next ((s.advance t).filterRow p)

end Sys2Proof.Machine
end

