-- ==== Sys2Proof/Machine/LaneOps.lean ====
section
/-!
DEFINITION. The blocks of the merged link and what the intake makes of them: descrambling, block types, alignment markers, packets
on the logical stream of a group (03 R75, R78 to R82); and the sampler of the heritage port (03 R105 to R108).
-/
namespace Sys2Proof.Machine

/-! ### Blocks (03 R78) -/

/-- The block types the module uses (03 R78); `invalid` is any other, which counts as a lane error and is treated as idle. -/
inductive Block where
  | data (b : List Byte)
  | idle
  | start (b : List Byte)
  /-- The data bytes that a terminate block carries: the number its type names. -/
  | terminate (b : List Byte)
  /-- The stripe index, and whether the other data bytes are 0x5A. -/
  | marker (stripe : Nat) (good : Bool)
  | invalid
deriving DecidableEq, Repr

/-- 03 R78: the self-synchronous scrambler x^58 + x^39 + 1 undone over the 64 bits after the sync header: each bit combines with those
received 39 and 58 bits before it; the answer is the bits and what the descrambler holds for the next block. -/
def descramble (held payload : Nat) : Nat × Nat :=
  let all := payload * 2 ^ 58 + held
  (Nat.xor payload (Nat.xor (all / 2 ^ 19 % 2 ^ 64) (all % 2 ^ 64)), all / 2 ^ 64)

/-- The number of data bytes of a terminate block, by its type (03 R78). -/
def terminateLen : Nat → Option Nat
  | 0x87 => some 0
  | 0x99 => some 1
  | 0xAA => some 2
  | 0xB4 => some 3
  | 0xCC => some 4
  | 0xD2 => some 5
  | 0xE1 => some 6
  | 0xFF => some 7
  | _ => none

/-- A block by its sync header and its 64 descrambled bits, the octets in the order received, each with its least significant bit
first: IEEE 802.3 Clause 49, which 03 R78 takes over (PRESUMED, log 73). -/
def blockOf (sync payload : Nat) : Block :=
  let octets := leBytes 8 payload
  let ty := payload % 256
  if sync = 2 then .data octets
  else if sync = 1 then
    if ty = 0x1E then .idle
    else if ty = 0x78 then .start (octets.drop 1)
    else if ty = 0x4B then
      .marker (payload / 2 ^ 8 % 256) (payload / 2 ^ 16 % 65536 == 0x5A5A)
    else
      match terminateLen ty with
      | some n => .terminate ((octets.drop 1).take n)
      | none => .invalid
  else .invalid

/-! ### The logical stream of a group (03 R75, R79 to R82) -/

/-- 03 R75: the lanes of a group in stripe order. -/
def State.stripes (s : State) (g : Nat) : List Nat :=
  if bitAt (s.inForce Obj.MSL_GROUP_REVERSE).toNat g then (s.lanesOf g).reverse else s.lanesOf g

/-- 03 R79, R80: a marker with its stripe index, at its place in the marker period. -/
def State.takeMarker (s : State) (lane g stripe place : Nat) : State :=
  let good := stripe == s.stripeOf g lane
  if s.groupAligned g && good && (s.lane lane).marker == some place then s
  else
    let s := if s.groupAligned g then s.loseAlignment g else s
    (s.setLane lane { s.lane lane with marker := if good then some place else none }).tryAlign g

def State.setAsm (s : State) (g : Nat) (a : Option (List Byte)) : State :=
  { s with link := { s.link with asm := s.link.asm.set (posOf g) a } }

/-- A packet as it leaves the logical stream: its bytes, and whether an idle or a start block cut it short (03 R82). -/
abbrev Packet := List Byte × Bool

/-- 03 R82: what a block other than a marker does to the packet in progress; an aligned group alone has a logical stream (R80). -/
def State.takeBlock (s : State) (g : Nat) (b : Block) : State × List Packet :=
  let open_ := s.link.asm.get (posOf g)
  let cut : List Packet := match open_ with
    | some pkt => [(pkt, true)]
    | none => []
  if !s.groupAligned g then (s, [])
  else
    match b with
    | .data d => (s.setAsm g (open_.map (· ++ d)), [])
    | .start d => (s.setAsm g (some d), cut)
    | .terminate d => (s.setAsm g none, match open_ with
        | some pkt => [(pkt ++ d, false)]
        | none => [])
    | .idle => (s.setAsm g none, cut)
    | .invalid => (s.setAsm g none, cut)
    | .marker _ _ => (s, [])

/-- A 66-bit block arrives on a lane at a stripe position: polarity (03 R75), descrambling and block type (R78), alignment
(R79 to R81), packets (R82).  Without block lock there are no blocks. -/
def State.blockIn (s : State) (g lane place raw : Nat) : State × List Packet :=
  let w := if bitAt (s.inForce Obj.MSL_LANE_INVERT).toNat lane then Nat.xor raw (2 ^ 66 - 1) else raw
  let x := descramble (s.lane lane).scr (w / 4)
  let s := s.setLane lane { s.lane lane with scr := x.2 }
  if !(s.lane lane).block then (s, [])
  else
    match blockOf (w % 4) x.1 with
    | .marker stripe good => (s.takeMarker lane g (if good then stripe else 256) place, [])
    | .invalid => (s.inc (Obj.MSL_LANE_ERR lane)).takeBlock g .invalid
    | b => s.takeBlock g b

/-- The blocks of a burst in the order of the logical stream: a row of blocks is one of each lane in stripe order (03 R79). -/
def State.inOrder (s : State) (g : Nat) (b : LaneBlocks) : List (Nat × Nat × Nat) :=
  let n := ((s.stripes g).map (fun l => (b.lanes.getD l []).length)).foldl max 0
  (List.range n).flatMap (fun i =>
    (s.stripes g).filterMap (fun l => ((b.lanes.getD l [])[i]?).map (fun w => (l, (b.place + i) % 16384, w))))

/-- The packets that a burst completes while the intake takes them (03 R101), and the state its blocks leave. -/
def State.receiveBlocks (s : State) (g : Nat) (b : LaneBlocks) : State × List Packet :=
  (s.inOrder g b).foldl (fun x e =>
    let y := x.1.blockIn g e.1 e.2.1 e.2.2
    (y.1, x.2 ++ (if x.1.linkUp g then y.2 else []))) (s, [])

/-! ### The sampler of the heritage port (03 R105 to R108) -/

/-- S0 reads the heritage port where the intake runs (03 R101). -/
def State.hpActive (s : State) : Bool := s.intakeOn && s.enabled 0 && s.fpaHer 0 && s.domOn 8

/-- A row offered to the open frame; an accepted one with a substrate sample serves the warm start (02 R58). -/
def State.takeRow (s : State) (p : Pos) (k : Pos) (row col0 : Nat) (data : List Nat) (fault : Bool) (subt : Option Nat) : State :=
  let s' := s.offerRow p k row col0 data fault subt
  match subt with
  | some v => if (s.intake.get p).fifo.length < (s'.intake.get p).fifo.length ∧ fault = false then s'.warmRow p v else s'
  | none => s'

def State.setHp (s : State) (h : HpSampler) : State := { s with link := { s.link with hp := h } }

/-- The FVAL period in progress delivers the open frame of S0 (03 R107). -/
def State.hpFrame (s : State) : Option OpenFrame :=
  match (s.intake.get 0).frm with
  | some f => if s.link.hp.num = some f.num then some f else none
  | none => none

/-- 03 R106: the LVAL period that ends is the next row of slot 0. -/
def State.hpRowEnds (s : State) : State :=
  let h := s.link.hp
  if h.cols.isEmpty then s
  else
    let s := s.setHp { h with cols := [] }
    match s.hpFrame with
    | some f => (s.setOpen 0 { f with hpRow := f.hpRow + 1 }).takeRow 0 0 f.hpRow 0 h.cols false f.subt
    | none => s

/-- 03 R108: the temperature register is read once at each falling edge of FVAL that ends a period. -/
def State.askTemp (s : State) : State := (s.setFpa 0 { s.fpa.get 0 with temp := true }).sp0Next (s.fpaSel 0)

/-- 03 R107: FVAL becomes active after a frame boundary: the period delivers the frame a SYNC mark has opened, or none. -/
def State.hpPeriodBegins (s : State) : State :=
  match (s.intake.get 0).frm with
  | some f => s.setHp { s.link.hp with num := some f.num }
  | none => (s.setHp { s.link.hp with num := none }).inc (Obj.INT_CNT_UNSOLICITED 0)

/-- 03 R106 to R108: FVAL has been inactive for eight sampling edges: its fall was a frame boundary. -/
def State.hpPeriodEnds (s : State) : State :=
  let open_ := s.hpFrame.isSome
  let s := s.setHp { s.link.hp with num := none }
  (if open_ then s.frameClosed 0 1 else s).askTemp

/-- 03 R105 to R107: one edge of HP_PCLK; the edge that HP_PCLK_EDGE chooses samples, HP_SYNC_POL gives the active levels.
DESIGN CHOICE (log 73): that a fall of FVAL is a frame boundary is known, and acted on, at the eighth inactive sampling edge. -/
def State.hpSample (s : State) (e : HpEdge) : State :=
  if !s.hpActive then s.setHp LinkSt.reset.hp
  else if e.rising == (s.inForce Obj.HP_PCLK_EDGE == 1) then s
  else
    let pol := (s.inForce Obj.HP_SYNC_POL).toNat
    let fval := e.fval != bitAt pol 0
    let lval := (e.lval != bitAt pol 1) && fval
    let h := s.link.hp
    let s := if lval then s.setHp { h with fval := true, lval := true, gap := 0, cols := h.cols ++ [e.d % 65536] }
      else (s.setHp { h with fval := fval, lval := false, gap := if fval then 0 else min 8 (h.gap + 1) }).hpRowEnds
    if fval && !h.fval && h.gap == 8 then s.hpPeriodBegins
    else if !fval && h.gap == 7 then s.hpPeriodEnds
    else s

/-- A run of edges of HP_PCLK, in order. -/
def State.hpSamples (s : State) (edges : List HpEdge) : State := edges.foldl State.hpSample s

end Sys2Proof.Machine
end

