-- ==== Sys2Proof/Machine/Intake.lean ====
section
/-!
DEFINITION. Lanes, packets of the merged link, closes of frames, and the heritage port (03 R75 to R109).
-/
namespace Sys2Proof.Machine

/-! ### Lanes (03 R78 to R81) -/

/-- LANE_BLOCK_LOCK (03 R80): a powered lane reaches block lock. -/
def execLaneBlockLock (lane : Nat) (t : Nat) (s : State) : Ans :=
  let s := s.advance t
  if lane < 8 ∧ s.laneUsed lane = true ∧ s.domOn lane = true then .next (s.setLane lane { s.lane lane with cdr := true, block := true })
  else .next s

/-- LANE_BLOCK_LOCK_LOSS (03 R80, R81): the lane loses block lock, and its group alignment. -/
def execLaneBlockLockLoss (lane : Nat) (t : Nat) (s : State) : Ans :=
  let s := s.advance t
  if lane < 8 then
    let s := s.setLane lane { s.lane lane with block := false, marker := none }
    match s.groupOfLane lane with
    | some g => .next (s.loseAlignment g)
    | none => .next s
  else .next s

/-! ### Packets (03 R83 to R98) -/

/-- The tag of the open frame (03 R88). -/
def OpenFrame.tag (f : OpenFrame) : Nat := f.num % 65536

/-- 03 R92: a FRAME_START of the open frame; a difference shows in INT_STATUS at once. -/
def State.checkStart (s : State) (p : Pos) (f : OpenFrame) (pkt : List Byte) : State :=
  let bad := beAt pkt 16 2 ≠ f.width ∨ beAt pkt 18 2 ≠ f.height ∨ beAt pkt 20 2 % 16 ≠ f.mask
  let s := s.setOpen p { f with gotStart := true, lastAt := s.time.now, geomBad := f.geomBad || decide bad }
  if bad then (s.setIntake p { s.intake.get p with lastGeom := true }).inc (Obj.INT_CNT_GEOM p.val) else s

/-- 03 R89, R90: a FRAME_START with another tag closes the open frame, and belongs to no frame; its tag is known from then on. -/
def State.unsolicitedStart (s : State) (p : Pos) (tag : Nat) : State :=
  let s := (s.frameClosed p 2).inc (Obj.INT_CNT_UNSOLICITED p.val)
  s.setIntake p { s.intake.get p with unsol := (s.intake.get p).unsol ++ [tag] }

/-- A FRAME_START of the position (03 R90 to R92); a further one of an unsolicited frame is a stray packet. -/
def State.frameStartPkt (s : State) (p : Pos) (pkt : List Byte) : State :=
  let tag := beAt pkt 2 2
  match (s.intake.get p).frm with
  | some f =>
    if tag = f.tag then s.checkStart p f pkt
    else if (s.intake.get p).unsol.contains tag then s.stray p
    else s.unsolicitedStart p tag
  | none => s.stray p

/-- A ROW packet of the position (03 R91, R94 to R96, R100, R102, R103). -/
def State.rowPkt (s : State) (p : Pos) (pkt : List Byte) : State :=
  match (s.intake.get p).frm with
  | some f =>
    let flags := beAt pkt 12 2
    if beAt pkt 2 2 = f.tag then
      s.takeRow p (posOf (fieldOf (beAt pkt 1 1) 3 2)) (beAt pkt 4 2) (beAt pkt 6 2) (pktWords pkt) (bitAt flags 1)
        (if bitAt flags 0 then some (beAt pkt 10 2) else none)
    else s.stray p
  | none => s.stray p

/-- A FRAME_END of the position (03 R89, R91). -/
def State.frameEndPkt (s : State) (p : Pos) (pkt : List Byte) : State :=
  match (s.intake.get p).frm with
  | some f => if beAt pkt 2 2 = f.tag then s.frameClosed p 1 else s.stray p
  | none => s.stray p

/-- A packet of a group, by its TYPE (03 Table 03-3), at the position it is bound to; a discarded one counts (R86, R87). -/
def State.onPacket (s : State) (grp : Nat) (pkt : Packet) : State :=
  let x := s.takePacket grp pkt.1 pkt.2
  match x.2 with
  | none => x.1
  | some p =>
    if beAt pkt.1 0 1 = 1 then x.1.frameStartPkt p pkt.1
    else if beAt pkt.1 0 1 = 2 then x.1.rowPkt p pkt.1
    else x.1.frameEndPkt p pkt.1

/-- A burst of blocks on the lanes of a group, and the packets it completes, in order. -/
def State.receive (s : State) (grp : Nat) (b : LaneBlocks) : State :=
  let x := s.receiveBlocks grp b
  x.2.foldl (fun s pkt => s.onPacket grp pkt) x.1

/-- ALIGNMENT_MARKER (03 R78 to R81): the block of a lane at a stripe position is checked for index and position. -/
def execAlignmentMarker (lane block place : Nat) (t : Nat) (s : State) : Ans :=
  let s := s.advance t
  match s.groupOfLane lane with
  | some g => .next (s.receive g { place := place, lanes := List.replicate lane [] ++ [[block]] })
  | none => .next s

/-- MSL_FRAME_START (03 R78, R82, R90 to R92): the blocks of a FRAME_START packet arrive. -/
def execMslFrameStart (grp : Nat) (b : LaneBlocks) (t : Nat) (s : State) : Ans := .next ((s.advance t).receive grp b)

/-- MSL_ROW_PACKET (03 R78, R82, R94 to R96): the blocks of a ROW packet arrive. -/
def execMslRowPacket (grp : Nat) (b : LaneBlocks) (t : Nat) (s : State) : Ans := .next ((s.advance t).receive grp b)

/-- MSL_FRAME_END (03 R78, R82, R89): the blocks of a FRAME_END packet arrive. -/
def execMslFrameEnd (grp : Nat) (b : LaneBlocks) (t : Nat) (s : State) : Ans := .next ((s.advance t).receive grp b)

/-- INT_IDLE_TIMEOUT (03 R89): no packet was accepted for the timeout in force. -/
def execIntIdleTimeout (p : Pos) (t : Nat) (s : State) : Ans :=
  let s := s.advance t
  match (s.intake.get p).frm with
  | some f => if f.lastAt + f.timeout ≤ s.time.now then .next (s.frameClosed p 3) else .next s
  | none => .next s

/-- INTAKE_FORCED_CLOSE (03 R101): a frame still open 20 ms after activation of a transition to STANDBY is closed. -/
def execIntakeForcedClose (p : Pos) (t : Nat) (s : State) : Ans :=
  let s := s.advance t
  match s.modes.running with
  | some r =>
    if r.target = 0 ∧ r.act + 20000000 ≤ s.time.now ∧ (s.intake.get p).frm.isSome = true then .next (s.frameClosed p 3) else .next s
  | none => .next s

/-! ### The heritage port (03 R105 to R109) -/

/-- HP_FVAL_RISE (03 R105, R107): the edges at which FVAL becomes active; without a frame opened by a mark the period is ignored and
counted. -/
def execHpFvalRise (edges : List HpEdge) (t : Nat) (s : State) : Ans := .next ((s.advance t).hpSamples edges)

/-- HP_FVAL_FALL (03 R105 to R108): the edges with which FVAL falls; eight of them close the frame with END, and the temperature
register is read. -/
def execHpFvalFall (edges : List HpEdge) (t : Nat) (s : State) : Ans := .next ((s.advance t).hpSamples edges)

/-- HP_ROW (03 R105, R106): the edges of an active period of LVAL within FVAL and of its end: the next row of slot 0. -/
def execHpRow (edges : List HpEdge) (t : Nat) (s : State) : Ans := .next ((s.advance t).hpSamples edges)

/-- HP_PCLK_MEASURE (03 R109), saturated to its U32 (00 R9). -/
def execHpPclkMeasure (hz : Nat) (t : Nat) (s : State) : Ans :=
  .next ((s.advance t).setO Obj.HP_PCLK_FREQ (clampI 0 0xFFFFFFFF hz))

end Sys2Proof.Machine
end

