-- ==== Sys2Proof/Machine/Lease.lean ====
section
/-!
DEFINITION. Role leases (10 R374 to R379, 02 R66, R67): grants, announcements, heartbeats, expiry, the lease record.
-/
namespace Sys2Proof.Machine

/-- 10 R375: the first failing check of a grant; 0 GRANTED.  ROLE 255 fails as PARAM (log 60). -/
def State.grantResult (s : State) (level : Nat) (role hb miss epoch : Nat) : Nat :=
  if level < 1 then 5
  else if s.o Obj.CHAIN_STATION = 127 then 2
  else if hb < 1 ∨ 100 < hb ∨ miss < 2 ∨ 16 < miss ∨ role = 255 then 4
  else if epoch ≤ s.o Obj.LEASE_EPOCH then 1
  else if s.nv.closed ∨ s.wornAt Keep.lease 32 = true then 3
  else 0

/-- 10 R377: the lease is granted or renewed, counted from now. -/
def State.renewLease (s : State) : State :=
  ({ s with chain := { s.chain with renewedAt := s.time.mono } } : State).setOs
    [(Obj.LEASE_STATE, 1), (Obj.LEASE_LAST_RENEW, ((s.time.now : Nat) : Int))]

/-- 10 R375, 02 R67: a grant takes effect: ingots of the previous role or epoch go, role and epoch are recorded, ORPHAN and
LEASE_MISMATCH end; ROLE 0 releases the lease. -/
def State.granted (s : State) (role hb miss epoch : Nat) : State :=
  let r0 := s.o Obj.LEASE_ROLE
  let e0 := s.o Obj.LEASE_EPOCH
  let s := s.discardIf .lease (fun x => (r0 != 0 && x.role == r0) || (e0 != 0 && x.epoch == e0))
  let s := ((s.setOs [(Obj.LEASE_ROLE, ((role : Nat) : Int)), (Obj.LEASE_EPOCH, ((epoch : Nat) : Int)),
    (Obj.LEASE_HB_PERIOD, ((hb : Nat) : Int)), (Obj.LEASE_MISS_LIMIT, ((miss : Nat) : Int))]).writeLease).renewLease
  let s := if role = 0 then s.setO Obj.LEASE_STATE 0 else s
  { s with chain := { s.chain with mismatch := false }, modes := { s.modes with orphan := false } }

/-- A LEASE_GRANT with its reply: RESULT, the role and the epoch now held. -/
def State.leaseGrant (good : Bool) (r : Req) (s : State) : State × Reply :=
  let s := s.pageIs Keep.lease 32 good
  let role := beAt r.payload 0 1
  let hb := beAt r.payload 1 1
  let miss := beAt r.payload 2 1
  let epoch := beAt r.payload 4 4
  let c := s.grantResult (s.reqLevel r) role hb miss epoch
  let n :=
    if c = 0 then s.granted role hb miss epoch
    else
      let s := s.inc Obj.LEASE_CNT_REFUSED
      if c = 3 ∧ s.nv.closed = false then s.nvFailed Keep.lease else s
  (n, .ok (fieldsBE [(1, c), (1, n.o Obj.LEASE_ROLE), (2, 0), (4, n.o Obj.LEASE_EPOCH)]))

/-- LEASE_GRANT (10 R375, R369): `good` is false when the keep array fails the write of role and epoch. -/
def execLeaseGrant (r : Req) (good : Bool) (s : State) : Ans :=
  .next (s.onTelegram r .unicast 8 (fun s => s.once r 0x30 (State.leaseGrant good r)))

/-- The role and epoch held is named with a higher epoch and another station: the role is lost (10 R378). -/
def State.losesRole (s : State) (role station epoch : Nat) : Bool :=
  let st := s.o Obj.LEASE_STATE
  role != 0 && role == s.o Obj.LEASE_ROLE && decide (s.o Obj.LEASE_EPOCH < epoch) && station != s.o Obj.CHAIN_STATION &&
    (st == 1 || st == 2)

/-- 10 R378: an announcement. -/
def State.leaseAnnounced (s : State) (good : Bool) (role station epoch : Nat) : State :=
  if s.losesRole role station epoch then s.toOrphan good station epoch
  else if role ≠ 0 ∧ role = s.o Obj.LEASE_ROLE ∧ epoch ≤ s.o Obj.LEASE_EPOCH ∧ station ≠ s.o Obj.CHAIN_STATION then
    s.inc Obj.LEASE_CNT_STALE
  else s

/-- LEASE_ANNOUNCE (10 R378, 02 R66): `good` is false when the keep array fails the write that follows a lost role. -/
def execLeaseAnnounce (r : Req) (good : Bool) (s : State) : Ans :=
  .next (s.onTelegram r .broadcast 8 (fun s => s.leaseAnnounced good (beAt r.payload 0 1) (beAt r.payload 1 1) (beAt r.payload 4 4)))

/-- 10 R376: a stale entry counts and sets LEASE_MISMATCH. -/
def State.staleEntry (s : State) : State :=
  ({ s with chain := { s.chain with mismatch := true } } : State).inc Obj.LEASE_CNT_STALE

/-- 10 R376, R378: one entry of a heartbeat: ROLE, STATION, EPOCH. -/
def State.leaseEntry (s : State) (good : Bool) (role station epoch : Nat) : State :=
  if station = s.o Obj.CHAIN_STATION then
    if role = s.o Obj.LEASE_ROLE ∧ epoch = s.o Obj.LEASE_EPOCH then
      if s.o Obj.LEASE_STATE = 1 then s.renewLease
      else if s.o Obj.LEASE_STATE = 2 then s.staleEntry
      else s
    else s.staleEntry
  else if s.losesRole role station epoch then s.toOrphan good station epoch
  else s

/-- 10 R377: a CURRENT lease whose time has come expires: outputs for the role stop; the mode stays. -/
def State.leaseDue (s : State) : State :=
  if s.o Obj.LEASE_STATE = 1 ∧ s.leaseExpiry ≤ s.time.mono then
    (((s.discardRole (s.o Obj.LEASE_ROLE)).setO Obj.LEASE_STATE 2).inc Obj.LEASE_CNT_EXPIRED).notify 0x0060 0xFF
      [(1, s.o Obj.LEASE_ROLE), (1, 0), (2, 0), (4, s.o Obj.LEASE_EPOCH)]
  else s

/-- 10 R354, R376: a heartbeat: its port is the upstream port, and its entries are taken in turn. -/
def State.heartbeat (good : Bool) (r : Req) (s : State) : State :=
  let s := (({ s with chain := { s.chain with upstreamB := r.portB } } : State).place r).leaseDue
  (List.range (min (beAt r.payload 4 1) ((r.payload.length - 8) / 8))).foldl (fun s n =>
    s.leaseEntry good (beAt r.payload (8 + 8 * n) 1) (beAt r.payload (9 + 8 * n) 1) (beAt r.payload (12 + 8 * n) 4)) s

/-- HEARTBEAT (10 R354, R376, R378): `good` is false when the keep array fails the write that follows a lost role. -/
def execHeartbeat (r : Req) (good : Bool) (s : State) : Ans :=
  .next (s.onTelegram r .broadcast (8 + 8 * beAt r.payload 4 1) (State.heartbeat good r))

/-- LEASE_EXPIRY (10 R377, 01 R33). -/
def execLeaseExpiry (t : Nat) (s : State) : Ans := .next (s.advance t).leaseDue

/-- LEASE_RECORD_RETRY (10 R378): the write of the lease record is repeated; `ok` is false when it fails again. -/
def execLeaseRecordRetry (ok : Bool) (t : Nat) (s : State) : Ans :=
  let s := s.advance t
  .next (if s.chain.leaseRetry && s.fwUp then s.orphanRecord ok else s)

end Sys2Proof.Machine
end

