-- ==== Sys2Proof/Machine/Serial.lean ====
section
/-!
DEFINITION. SP1 on the shared bus, its prefetch and DQS calibration (14 R479 to R486), and the slave ports with their register
window, mailbox and upload (14 R487 to R496).  `port` is false for SP0 and true for SP1.
-/
namespace Sys2Proof.Machine

/-! ### Flags of the status byte (14 R489, R490) -/

/-- What a transaction did wrong: OVR, FRAME, CMD_ERR. -/
structure SlaveErr where
  ovr : Bool
  frame : Bool
  cmd : Bool
deriving DecidableEq, Repr

/-- The flags that wait to be returned on a port. -/
def State.slaveErr (s : State) (port : Bool) : SlaveErr :=
  let x := s.serial.slave
  if port then ⟨x.ovr1, x.frame1, x.cmd1⟩ else ⟨x.ovr0, x.frame0, x.cmd0⟩

def State.setSlave (s : State) (x : SlaveSt) : State := { s with serial := { s.serial with slave := x } }

/-- The flags of a port. -/
def State.setSlaveErr (s : State) (port : Bool) (e : SlaveErr) : State :=
  let x := s.serial.slave
  s.setSlave (if port then { x with ovr1 := e.ovr, frame1 := e.frame, cmd1 := e.cmd }
    else { x with ovr0 := e.ovr, frame0 := e.frame, cmd0 := e.cmd })

/-- Sticky bits of SP_STATUS set: 6 CMD_ERR, 5 OVR, 4 FRAME_ERR. -/
def State.stick (s : State) (port : Bool) (e : SlaveErr) : State :=
  let m := fun (w : Nat) => withBit (withBit (withBit w 4 (bitAt w 4 || e.frame)) 5 (bitAt w 5 || e.ovr)) 6 (bitAt w 6 || e.cmd)
  let x := s.serial.slave
  s.setSlave (if port then { x with sticky1 := m x.sticky1 } else { x with sticky0 := m x.sticky0 })

/-- A transaction ends: its errors wait for the next status byte, stick, and count; the select has risen. -/
def State.slaveEnd (s : State) (port : Bool) (e : SlaveErr) : State :=
  let old := s.slaveErr port
  let s := (s.setSlaveErr port ⟨old.ovr || e.ovr, old.frame || e.frame, old.cmd || e.cmd⟩).stick port e
  let n := b2n port
  let s := if e.ovr then s.inc (Obj.SP_CNT_OVR n) else s
  let s := if e.frame then s.inc (Obj.SP_CNT_FRAME n) else s
  let s := if e.cmd then s.inc (Obj.SP_CNT_CMD n) else s
  if port then { s with serial := { s.serial with slvHigh := true, slvSince := s.time.mono } } else s

/-- 14 Table 14-3. -/
def State.statusByte (s : State) (port : Bool) : Byte :=
  let e := s.slaveErr port
  let x := s.serial.slave
  byteOf (word [x.mbxDone, s.fwUp && s.mode == Mode.safe, s.fwUp, s.boot.phase == .recovery, e.cmd, e.frame, e.ovr,
    x.mbxState == 1 || x.upState == 1 || s.serial.busReq.isSome])

/-- The port serves slave transactions (14 R485 to R487). -/
def State.slaveServes (s : State) (port : Bool) : Bool :=
  (s.serving || s.boot.phase == .recovery) && if port then s.sp1Serves else s.sp0Serves

/-- A status byte has been returned: the flags it carried are cleared (14 R490). -/
def State.statusSent (s : State) (port : Bool) : State := s.setSlaveErr port ⟨false, false, false⟩

/-! ### The window (14 R491, Table 14-4) -/

/-- The registers that hold more than reserved bytes: address, bytes, value; the page of UP_DATA apart. -/
def State.winRegs (s : State) : List (Nat × Nat × Nat) :=
  let x := s.serial.slave
  let rec? := s.boot.phase == .recovery
  [(0x000, 8, Config.deviceId), (0x008, 2, Config.stepping), (0x00C, 4, Config.romVersion),
   (0x010, 4, if rec? then 0 else s.boot.version), (0x014, 4, s.o Obj.BOOT_STATUS), (0x018, 1, if rec? then 0xFF else s.mode),
   (0x01A, 2, s.o Obj.SAFE_REASON), (0x01C, 4, if rec? then 0 else s.devStatus), (0x020, 2, x.mbxIndex), (0x022, 1, x.mbxSub),
   (0x024, 1, x.mbxState), (0x025, 1, x.mbxDtype), (0x028, 4, x.mbxAbort), (0x030, 8, x.mbxData),
   (0x100, 4, x.upOffset), (0x105, 1, if rec? then x.upState else 0), (0x106, 1, x.upSlot), (0x108, 4, x.upResult)]

/-- The byte at an address of the window; 0 beyond it. -/
def State.winByte (s : State) (a : Nat) : Byte :=
  if 0x200 ≤ a ∧ a < 0x300 then Store.get (fun _ => 0#8) s.serial.slave.upData (a - 0x200)
  else
    match s.winRegs.find? (fun r => r.1 ≤ a && a < r.1 + r.2.1) with
    | some r => byteOf (r.2.2 / 256 ^ (a - r.1))
    | none => 0#8

/-- The address bits 15:10 are set: the transaction executes nothing (14 R489). -/
def badAddr (addr : Nat) : Bool := decide (0x400 ≤ addr)

/-- `n` bytes of the window reach beyond it. -/
def beyond (addr n : Nat) : Bool := decide (0x400 < addr + n)

/-! ### Lanes and edges (14 R488, R494, Table 14-5 SP_SLV_CFG)

An operand `edges` counts the SCK edges of a transaction that carry a bit on each lane, from the command on: one per bit in SDR, both edges
of SCK in DDR, the dummy cycles among them. -/

/-- The lanes of a phase, 0 command, 1 address, 2 data: as SP_SLV_CFG codes them, eight in DDR; SP0 runs on one. -/
def State.slvLanes (s : State) (port : Bool) (phase : Nat) : Nat :=
  let c := s.o (Obj.SP_SLV_CFG 1)
  if !port then 1 else if bitAt c 6 then 8 else 2 ^ (c / 4 ^ phase % 4)

/-- The edges of the dummy cycles: two a cycle in DDR. -/
def State.slvDummy (s : State) (port : Bool) : Nat :=
  let c := s.o (Obj.SP_SLV_CFG (b2n port))
  c / 256 % 16 * (if port && bitAt c 6 then 2 else 1)

/-- The edges of the command, and of the address behind it. -/
def State.slvHead (s : State) (port addr : Bool) : Nat := 8 / s.slvLanes port 0 + if addr then 16 / s.slvLanes port 1 else 0

/-- The bits of data clocked behind the command, the address and the dummy cycles. -/
def State.slvBits (s : State) (port addr dummy : Bool) (edges : Nat) : Nat :=
  (edges - s.slvHead port addr - (if dummy then s.slvDummy port else 0)) * s.slvLanes port 2

/-- A transaction that ended within the command or address, or with a part of a byte (14 R494); its dummy cycles carry no bits (log 29). -/
def State.slvFrame (s : State) (port addr dummy : Bool) (edges : Nat) : Bool :=
  decide (edges < s.slvHead port addr ∨ s.slvBits port addr dummy edges % 8 ≠ 0)

/-- The edges of a transaction with `n` whole bytes behind command, address and dummy cycles. -/
def State.slvEdges (s : State) (port addr dummy : Bool) (n : Nat) : Nat :=
  s.slvHead port addr + (if dummy then s.slvDummy port else 0) + n * (8 / s.slvLanes port 2)

/-- The data bytes of a READ in which `n` whole bytes were clocked behind the dummy cycles: on SP1 the first of them is the status byte. -/
def dataBytes (port : Bool) (n : Nat) : Nat := if port then n - 1 else n

/-- What a READ returns: the status byte, on SP0 during the command and 0x00 during address and dummy cycles, then data (14 Table 14-2). -/
def State.readReturns (s : State) (port : Bool) (addr n : Nat) : List Byte :=
  let data := (List.range (dataBytes port n)).map (fun i => s.winByte (addr + i))
  if port then (if n = 0 then [] else s.statusByte port :: data)
  else s.statusByte port :: (List.replicate (2 + (s.slvDummy port + 7) / 8) 0#8 ++ data)

/-- Bytes are returned to the external master; those that hold a status byte clear the flags it carried. -/
def State.slaveReturn (s : State) (port : Bool) (bs : List Byte) : State :=
  if bs.isEmpty then s else (s.statusSent port).emit (.slave (b2n port) bs)

/-- 14 R488, R492: a READ from an address, of so many edges: the status byte and the bytes from the address on; a read of MBX_STATE clears
MBX_DONE.  Of one cut within command and address only the status byte of SP0 has been returned. -/
def State.slaveRead (s : State) (port : Bool) (addr edges : Nat) : State :=
  let n := s.slvBits port true true edges / 8
  let m := dataBytes port n
  let short := decide (edges < s.slvHead port true)
  let bad := !short && badAddr addr
  let e : SlaveErr := { ovr := !short && !bad && beyond addr m, frame := s.slvFrame port true true edges, cmd := bad }
  if short || bad then (if port || edges < 8 then s else s.slaveReturn port [s.statusByte port]).slaveEnd port e
  else
    let s := s.slaveReturn port (s.readReturns port addr n)
    let s := if addr ≤ 0x024 ∧ 0x024 < addr + m then s.setSlave { s.serial.slave with mbxDone := false } else s
    s.slaveEnd port e

/-- SP1_SLAVE_READ (14 R488 to R492, R494): a READ, from the assertion of the select to its release. -/
def execSp1SlaveRead (port : Bool) (addr edges t : Nat) (s : State) : Ans :=
  let s := s.advance t
  .next (if s.slaveServes port then s.slaveRead port addr edges else s)

/-- MBX_STATE_READ (14 R495): a read of MBX_STATE alone. -/
def execMbxStateRead (port : Bool) (t : Nat) (s : State) : Ans :=
  let s := s.advance t
  .next (if s.slaveServes port then s.slaveRead port 0x024 (s.slvEdges port true true (if port then 2 else 1)) else s)

/-- 14 R488, R489, R494: a transaction without an address: STATUS, an unknown command, or READ or WRITE released within the
command or address. -/
def State.slaveStatus (s : State) (port : Bool) (cmd edges : Nat) : State :=
  let whole := decide (s.slvHead port false ≤ edges)
  let known := cmd == 0x05 || cmd == 0x0B || cmd == 0x02
  let n := s.slvBits port false port edges / 8
  let frame := if cmd = 0x05 then s.slvFrame port false port edges
    else if known then decide (edges < s.slvHead port true) else s.slvFrame port false false edges
  let e : SlaveErr := { ovr := false, frame := frame, cmd := whole && !known }
  let ret := if cmd = 0x05 ∧ whole = true then List.replicate (if port then n else n + 1) (s.statusByte port)
    else if port || !whole then [] else [s.statusByte port]
  (s.slaveReturn port ret).slaveEnd port e

/-- SP1_SLAVE_STATUS (14 R488 to R490, R494): a transaction of the command byte alone, with what was clocked after it; SP0 returns a status
byte with the command too. -/
def execSp1SlaveStatus (port : Bool) (cmd edges t : Nat) (s : State) : Ans :=
  let s := s.advance t
  .next (if s.slaveServes port then s.slaveStatus port cmd edges else s)

/-! ### WRITE (14 R493, R494) -/

/-- One byte of a little-endian register replaced. -/
def putByte (v i : Nat) (b : Byte) : Nat := v - v / 256 ^ i % 256 * 256 ^ i + b.toNat * 256 ^ i

/-- The registers of the mailbox, and those of the upload. -/
def mbxReg (a : Nat) : Bool := decide (0x020 ≤ a ∧ a < 0x038)
def upReg (a : Nat) : Bool := decide (0x100 ≤ a ∧ a < 0x300)

/-- One byte of a WRITE is applied; outside boot recovery the upload registers ignore it (14 R496). -/
def SlaveSt.putWin (x : SlaveSt) (recovery : Bool) (a : Nat) (b : Byte) : SlaveSt :=
  if a = 0x020 ∨ a = 0x021 then { x with mbxIndex := putByte x.mbxIndex (a - 0x020) b }
  else if a = 0x022 then { x with mbxSub := b.toNat }
  else if a = 0x023 then { x with mbxCmd := b.toNat }
  else if 0x030 ≤ a ∧ a < 0x038 then { x with mbxData := putByte x.mbxData (a - 0x030) b }
  else if !recovery then x
  else if 0x100 ≤ a ∧ a < 0x104 then { x with upOffset := putByte x.upOffset (a - 0x100) b }
  else if a = 0x104 then { x with upCmd := b.toNat }
  else if a = 0x106 then { x with upSlot := b.toNat }
  else if 0x200 ≤ a ∧ a < 0x300 then { x with upData := Store.set (fun _ => 0#8) x.upData (a - 0x200) b }
  else x

/-- A byte falls on a register of a command that runs: ignored (14 R493). -/
def SlaveSt.blocks (x : SlaveSt) (a : Nat) : Bool := (x.mbxState == 1 && mbxReg a) || (x.upState == 1 && upReg a)

/-- The commands a WRITE has left: each that names a command starts, and is shown BUSY. -/
def SlaveSt.start (x : SlaveSt) : SlaveSt :=
  let x := if x.mbxState = 1 then x
    else if x.mbxCmd = 1 ∨ x.mbxCmd = 2 then { x with mbxState := 1 } else { x with mbxCmd := 0 }
  if x.upState = 1 then x
  else if x.upCmd = 1 ∨ x.upCmd = 2 then { x with upState := 1, upResult := 0 } else { x with upCmd := 0 }

/-- 14 R493, R494: the complete data bytes are applied in ascending order, then the commands start.  SP0 returns the status byte during the
command and 0x00 after it (Table 14-2). -/
def State.slaveWrite (s : State) (port : Bool) (addr : Nat) (bytes : List Byte) (edges : Nat) : State :=
  let short := decide (edges < s.slvHead port true)
  let frame := s.slvFrame port true false edges
  let n := s.slvBits port true false edges / 8
  let whole := frame && s.o (Obj.SP_FRAME_POLICY (b2n port)) == 0
  let bad := !short && badAddr addr
  let runs := !short && !whole && !bad
  let cells := (bytes.take n).zipIdx.map (fun c => (addr + c.2, c.1))
  let blocked := runs && cells.any (fun c => s.serial.slave.blocks c.1)
  let e : SlaveErr := { ovr := runs && beyond addr cells.length, frame := frame, cmd := bad || blocked }
  let s := if port || edges < 8 then s else s.slaveReturn port (s.statusByte port :: List.replicate ((edges - 8) / 8) 0#8)
  let y := if runs then
      ((cells.filter (fun c => c.1 < 0x400 && !s.serial.slave.blocks c.1)).foldl
        (fun y c => y.putWin (s.boot.phase == .recovery) c.1 c.2) s.serial.slave).start
    else s.serial.slave
  (s.setSlave y).slaveEnd port e

/-- SP1_SLAVE_WRITE (14 R488, R493, R494): a WRITE of so many edges; `bytes` are the data bytes it brought. -/
def execSp1SlaveWrite (port : Bool) (addr : Nat) (bytes : List Byte) (edges t : Nat) (s : State) : Ans :=
  let s := s.advance t
  .next (if s.slaveServes port then s.slaveWrite port addr bytes edges else s)

/-! ### The mailbox (14 R495) -/

/-- A mailbox command ends: DONE or REFUSED with its abort code, and MBX_DONE. -/
def State.mbxEnd (s : State) (code : Nat) : State :=
  s.setSlave { s.serial.slave with mbxCmd := 0, mbxState := if code = 0 then 2 else 3, mbxAbort := code, mbxDone := true }

/-- The object the mailbox names, of 64 bits or less: an STR or DOM is refused with TYPE whatever its access (14 R495, log 29). -/
def State.mbxObject (s : State) (read : Bool) : Except Nat ObjRow :=
  let k := s.serial.slave.mbxIndex * 256 + s.serial.slave.mbxSub
  match Obj.find k with
  | .error c => .error c
  | .ok r => if !r.ty.scalar then .error Abort.type else if read then Obj.readable k else .ok r

/-- The mailbox reads an object: its value extended as 11 R402 states, and its type. -/
def State.mbxRead (s : State) : State :=
  let k := s.serial.slave.mbxIndex * 256 + s.serial.slave.mbxSub
  if s.boot.phase = .recovery then s.mbxEnd Abort.state
  else
    match s.mbxObject true with
    | .error c => s.mbxEnd c
    | .ok r =>
      let v := s.readValue .mailbox r k
      let w := if r.ty = .u64 then r.ty.encode v.2 else slotWord r.ty v.2
      (v.1.setSlave { v.1.serial.slave with mbxData := w, mbxDtype := r.ty.code }).mbxEnd 0

/-- The mailbox writes an object. -/
def State.mbxWrite (s : State) : State :=
  let k := s.serial.slave.mbxIndex * 256 + s.serial.slave.mbxSub
  let v := s.serial.slave.mbxData
  if s.boot.phase = .recovery then s.mbxEnd Abort.state
  else
    match s.mbxObject false with
    | .error c => s.mbxEnd c
    | .ok r =>
      match State.objWrite .mailbox k (Written.slot r.ty (if r.ty = .u64 then v else v % 2 ^ 32)) s with
      | .ok s' => s'.mbxEnd 0
      | .error c => (s.writeRefused k v c).mbxEnd c

/-- MBX_CMD_READ (14 R495): the READ that waits executes. -/
def execMbxCmdRead (t : Nat) (s : State) : Ans :=
  let s := s.advance t
  .next (if (s.serving || s.boot.phase == .recovery) && s.serial.slave.mbxState == 1 && s.serial.slave.mbxCmd == 1 then s.mbxRead
    else s)

/-- MBX_CMD_WRITE (14 R495): the WRITE that waits executes. -/
def execMbxCmdWrite (t : Nat) (s : State) : Ans :=
  let s := s.advance t
  .next (if (s.serving || s.boot.phase == .recovery) && s.serial.slave.mbxState == 1 && s.serial.slave.mbxCmd == 2 then s.mbxWrite
    else s)

/-! ### Upload in boot recovery (14 R496) -/

/-- An upload command ends: DONE, or FAILED with its abort code. -/
def State.upEnd (s : State) (failed : Bool) (code : Nat) : State :=
  s.setSlave { s.serial.slave with
    upCmd := 0, upErased := false, upState := if failed then 3 else 2, upResult := if failed then code else 0 }

/-- The place of the page in the flash. -/
def State.upBase (s : State) : Nat := slotBase s.serial.slave.upSlot + s.serial.slave.upOffset

/-- A flash operation of the upload takes SP1_CS0_N. -/
def State.upOpen (s : State) : State := ((s.demand 62).demand 79).selectTaken 0

/-- The bus goes back after it (14 R486). -/
def State.upClose (s : State) : State := s.giveBus.flashRelax

/-- The flash operation of an upload fails: its bytes are what it left (log 9), and it counts (14 R481). -/
def State.upFails (s : State) (n : Nat) : State :=
  ((s.upOpen.cutBytes 0 s.upBase n).upClose.inc Obj.SP1_CNT_FLASH_FAIL).upEnd true Abort.nv

/-- The page's sector is erased; the page waits for the bus again. -/
def State.upErased (s : State) : State := (s.setSlave { s.serial.slave with upErased := true }).askBus

/-- PROGRAM: the sector that the page begins is erased, then the page is programmed, each once the bus is the module's (14 R486): after the
erase the command goes on waiting for it.  A confirmed power failure blocks it (17 R544). -/
def State.upProgram (s : State) (ok : Bool) : State :=
  let x := s.serial.slave
  if x.upOffset % 256 ≠ 0 ∨ 0x400000 ≤ x.upOffset ∨ 1 < x.upSlot then s.upEnd true Abort.range
  else if s.nv.closed || s.pwr.blocked then s.upEnd true Abort.nv
  else if !s.busFree then s.askBus
  else if x.upOffset % 65536 = 0 ∧ x.upErased = false then
    if ok then (s.upOpen.eraseSector 0 s.upBase).upClose.upErased else s.upFails 65536
  else if ok then
    (s.upOpen.programFlash 0 s.upBase ((List.range 256).map (fun i => Store.get (fun _ => 0#8) x.upData i))).upClose.upEnd false 0
  else s.upFails 256

/-- UP_CMD_PROGRAM (14 R496): the next flash operation of the PROGRAM that waits runs; `ok` is false when the flash fails. -/
def execUpCmdProgram (ok : Bool) (t : Nat) (s : State) : Ans :=
  let s := s.advance t
  .next (if s.boot.phase = .recovery ∧ s.serial.slave.upState = 1 ∧ s.serial.slave.upCmd = 1 then s.upProgram ok else s)

/-- FINISH: the acceptance checks of the whole slot (18 R561), and the slot is recorded as active.  The abort code of a slot
that fails them is a free value (log 61). -/
def State.upFinish (s : State) (ok : Bool) : State :=
  let x := s.serial.slave
  if 1 < x.upSlot then s.upEnd true Abort.range
  else if !s.slotOkay x.upSlot then ({ s with free := s.free + 1 } : State).upEnd true (Config.finishAbort s.free)
  else if s.nv.closed then s.upEnd true Abort.nv
  else if !ok then ((s.pageIs Keep.slot 1 false).nvFailed Keep.slot).upEnd true Abort.nv
  else ((s.pageIs Keep.slot 1 true).setKeep Keep.slot [byteOf x.upSlot]).upEnd false 0

/-- UP_CMD_FINISH (14 R496, 02 R46): the FINISH that waits runs; `ok` is false when the keep array fails the write. -/
def execUpCmdFinish (ok : Bool) (t : Nat) (s : State) : Ans :=
  let s := s.advance t
  .next (if s.boot.phase = .recovery ∧ s.serial.slave.upState = 1 ∧ s.serial.slave.upCmd = 2 then s.upFinish ok else s)

/-- 18 R561: a FW_UPDATE that has written its image ends by the acceptance checks of the target slot: one that passes makes the slot the
active one, with effect at the next reset; one that fails leaves it invalid, and its OP_RESULT is a free value (log 61). -/
def State.fwUpdateEnd (s : State) : State :=
  let target := 1 - s.activeSlot
  if s.opRunning 1 = false ∨ s.o (Obj.OP_TOTAL 1) = 0 ∨ s.o (Obj.OP_POSITION 1) < s.o (Obj.OP_TOTAL 1) then s
  else if s.slotOkay target then
    if s.nv.closed then s.slotInvalid.opEnd 1 3 Abort.nv
    else if s.wornAt Keep.slot 1 then (s.slotInvalid.nvFailed Keep.slot).opEnd 1 3 Abort.nv
    else (s.setKeep Keep.slot [byteOf target]).opEnd 1 2 0
  else ({ s.slotInvalid with free := s.free + 1 } : State).opEnd 1 3 (Config.finishAbort s.free)

/-! ### The shared bus (14 R486) -/

/-- SP1_BUS_REQUEST (14 R486): the module asks for the shared bus, takes it as soon as it may, and begins what waited for it. -/
def execSp1BusRequest (t : Nat) (s : State) : Ans :=
  let s := s.advance t
  .next (if s.alive && s.sp1Shared then s.askBus.busTurn else s)

/-- SP1_HANDOVER_TIMEOUT (14 R486): the select is still low SP1_HANDOVER_MAX after the request; the module keeps waiting. -/
def execSp1HandoverTimeout (t : Nat) (s : State) : Ans :=
  let s := s.advance t
  match s.serial.busReq with
  | some at_ =>
    if s.serial.slvHigh && !s.serial.owned && decide (at_ + s.o Obj.SP1_HANDOVER_MAX * 1000 < s.time.mono) then
      .next (({ s with serial := { s.serial with slvHigh := false, handoverTo := true } } : State).inc Obj.SP_CNT_HANDOVER_TO)
    else .next s
  | none => .next s

/-- SP1_SLV_COLLISION (14 R486): the select is asserted while the module owns the bus. -/
def execSp1SlvCollision (t : Nat) (s : State) : Ans :=
  let s := s.advance t
  .next (if s.sp1Shared && s.serial.owned then s.inc Obj.SP_CNT_COLLISION else s)

/-! ### DQS calibration (14 R479) -/

/-- The widest run of consecutive numbers in an ascending list: first and length; the first of equal ones. -/
def widestRun : List Nat → Nat × Nat
  | [] => (0, 0)
  | x :: rest =>
    let n := ((List.range (rest.length + 1)).find? (fun i => rest[i]? != some (x + i + 1))).getD 0 + 1
    let w := widestRun rest
    if n < w.2 then w else (x, n)

/-- The tap a sweep selects: the centre of the widest run of those that pass, among 0 to 31. -/
def sweepTap (taps : List Nat) : Option Nat :=
  let w := widestRun ((List.range 32).filter (fun x => taps.contains x))
  if w.2 = 0 then none else some (w.1 + (w.2 - 1) / 2)

/-- A sweep at f₁, then at half the rate; when no tap passes the device falls back to its widest other mode, logged (14 R477 step 4). -/
def State.dqsSweep (s : State) (k : Pos) (taps half : List Nat) : State :=
  match sweepTap taps, sweepTap half with
  | some x, _ => s.setO (Obj.SP1_DQS_TAP k.val) ((x : Nat) : Int)
  | none, some x => s.setO (Obj.SP1_DQS_TAP k.val) ((x : Nat) : Int)
  | none, none => (s.setO (Obj.SP1_DEV_MODE k.val) (s.serial.lanes.get k : Nat)).logEvt .dqsFallback 0xFF 0 [(4, k.val)]

/-- DQS_CALIBRATION (14 R477, R479): of an 8D-8D-8D device at start-up by a sweep, and at a later switch-on of PD62 by one
signature read, then a sweep when it fails.  `taps` and `half` are the taps that read the signature at f₁ and at half the
rate.  A signature read ends a continuous read of the select (R483). -/
def execDqsCalibration (k : Pos) (passFirst : Bool) (passTaps passHalf : List Nat) (t : Nat) (s : State) : Ans :=
  let s := s.advance t
  if !s.alive || s.o (Obj.SP1_DEV_MODE k.val) != 4 then .next s
  else if s.boot.phase = .rom then .next ((s.selectUsed k.val).dqsSweep k passTaps passHalf)
  else if !s.domOn 62 then .next s
  else if passFirst then .next (s.selectUsed k.val)
  else .next (((s.selectUsed k.val).inc Obj.SP1_CNT_RECAL).dqsSweep k passTaps passHalf)

/-! ### XIP (14 R482 to R486) -/

/-- XIP_FETCH (14 R482 to R486): `n` bytes of a select from an address: from the prefetch buffer where it holds them, else from the
device, behind the fetches that wait. -/
def execXipFetch (k : Pos) (addr n t : Nat) (s : State) : Ans :=
  let s := s.advance t
  if !s.alive || s.nv.size.get k < addr + n || n == 0 then .next s
  else if s.xipHit k.val addr n then .next (s.emit (.bytes (s.flashBytes k.val addr n)))
  else .next (({ s with serial := { s.serial with fetches := s.serial.fetches ++ [(k.val, addr, n)] } } : State).serveFetches)

/-! ### The block's own time -/

/-- The block's own time on an empty queue: one count of 4 ns, a queued telegram leaves each port, SP1 takes up what waits, and a FW_UPDATE
that has written its image ends (08 R284, 10 R352, 13 R466, 14 R484, R486, 18 R561; log 18). -/
def State.tick (s : State) : State := (((s.advance (s.time.now + 4)).sendQueued false).sendQueued true).busTurn.fwUpdateEnd

end Sys2Proof.Machine
end

