-- ==== Sys2Proof/Machine/Dispatch.lean ====
section
/-!
DEFINITION. The dispatch: one arm per command of the opcode table, one direct call of its meaning each.
-/
namespace Sys2Proof.Machine

/-- The effect of a command on everything but the queue. -/
def exec (i : Instr) (s : State) : Host.Outcome State Fault Refusal :=
  match i with
  | .vinRise held t => Sys2Proof.Machine.execVinRise held t s
  | .resetNAssert t => Sys2Proof.Machine.execResetNAssert t s
  | .resetNRise t => Sys2Proof.Machine.execResetNRise t s
  | .internalResetRelease t => Sys2Proof.Machine.execInternalResetRelease t s
  | .firmwareImageCheck t => Sys2Proof.Machine.execFirmwareImageCheck t s
  | .stewardFirmwareStart t => Sys2Proof.Machine.execStewardFirmwareStart t s
  | .dramTrainingComplete first second t => Sys2Proof.Machine.execDramTrainingComplete first second t s
  | .storeRecoveryScan t => Sys2Proof.Machine.execStoreRecoveryScan t s
  | .startupSetApply t => Sys2Proof.Machine.execStartupSetApply t s
  | .watchdogReset t => Sys2Proof.Machine.execWatchdogReset t s
  | .softReset via v t => Sys2Proof.Machine.execSoftReset via v t s
  | .sysclkLoss t => Sys2Proof.Machine.execSysclkLoss t s
  | .pciePerstRelease rate lanes t => Sys2Proof.Machine.execPciePerstRelease rate lanes t s
  | .pciePerstAssert t => Sys2Proof.Machine.execPciePerstAssert t s
  | .modeRequest r => Sys2Proof.Machine.execModeRequest r s
  | .modeReqGo via v t => Sys2Proof.Machine.execModeReqGo via v t s
  | .transitionActivation t => Sys2Proof.Machine.execTransitionActivation t s
  | .transitionComplete refresh t => Sys2Proof.Machine.execTransitionComplete refresh t s
  | .transitionTimeout t => Sys2Proof.Machine.execTransitionTimeout t s
  | .opAbort via k v t => Sys2Proof.Machine.execOpAbort via k v t s
  | .opProgressUpdate k position t => Sys2Proof.Machine.execOpProgressUpdate k position t s
  | .laneBlockLockLoss lane t => Sys2Proof.Machine.execLaneBlockLockLoss lane t s
  | .alignmentMarker lane block place t => Sys2Proof.Machine.execAlignmentMarker lane block place t s
  | .mslFrameStart grp b t => Sys2Proof.Machine.execMslFrameStart grp b t s
  | .mslRowPacket grp b t => Sys2Proof.Machine.execMslRowPacket grp b t s
  | .mslFrameEnd grp b t => Sys2Proof.Machine.execMslFrameEnd grp b t s
  | .intIdleTimeout p t => Sys2Proof.Machine.execIntIdleTimeout p t s
  | .intakeForcedClose p t => Sys2Proof.Machine.execIntakeForcedClose p t s
  | .drainComplete p t => Sys2Proof.Machine.execDrainComplete p t s
  | .handOverInstant p t => Sys2Proof.Machine.execHandOverInstant p t s
  | .ingotComplete p t => Sys2Proof.Machine.execIngotComplete p t s
  | .prefetchComplete p t => Sys2Proof.Machine.execPrefetchComplete p t s
  | .readoutEntersSlice p t => Sys2Proof.Machine.execReadoutEntersSlice p t s
  | .defectReplacementRow p slot t => Sys2Proof.Machine.execDefectReplacementRow p slot t s
  | .pixelMerge p t => Sys2Proof.Machine.execPixelMerge p t s
  | .outputFilterRow p t => Sys2Proof.Machine.execOutputFilterRow p t s
  | .corrCoefOpen via p t => Sys2Proof.Machine.execCorrCoefOpen via p t s
  | .corrCoefClose via p t => Sys2Proof.Machine.execCorrCoefClose via p t s
  | .coefCheckComplete p t => Sys2Proof.Machine.execCoefCheckComplete p t s
  | .corrLoadGo via p v t => Sys2Proof.Machine.execCorrLoadGo via p v t s
  | .coefLoadEnd t => Sys2Proof.Machine.execCoefLoadEnd t s
  | .corrSaveGo via p v t => Sys2Proof.Machine.execCorrSaveGo via p v t s
  | .tailHistReset via p v t => Sys2Proof.Machine.execTailHistReset via p v t s
  | .eclRequestFull via p t => Sys2Proof.Machine.execEclRequestFull via p t s
  | .eclRequestPartial via p t => Sys2Proof.Machine.execEclRequestPartial via p t s
  | .eclAbort via p v t => Sys2Proof.Machine.execEclAbort via p v t s
  | .eclFaultClear via p v t => Sys2Proof.Machine.execEclFaultClear via p v t s
  | .eclShutCmdClose via p t => Sys2Proof.Machine.execEclShutCmdClose via p t s
  | .eclShutCmdOpen via p t => Sys2Proof.Machine.execEclShutCmdOpen via p t s
  | .eclipseGrant t => Sys2Proof.Machine.execEclipseGrant t s
  | .shutterPulseStart written t => Sys2Proof.Machine.execShutterPulseStart written t s
  | .endSensorAsserted p closed t => Sys2Proof.Machine.execEndSensorAsserted p closed t s
  | .pulseHoldExpiry p t => Sys2Proof.Machine.execPulseHoldExpiry p t s
  | .pulseMaxExpiry p t => Sys2Proof.Machine.execPulseMaxExpiry p t s
  | .bothSensorsFault p t => Sys2Proof.Machine.execBothSensorsFault p t s
  | .eclipseHeldStart p t => Sys2Proof.Machine.execEclipseHeldStart p t s
  | .eclipseUpdateComplete p t => Sys2Proof.Machine.execEclipseUpdateComplete p t s
  | .openingEnd p t => Sys2Proof.Machine.execOpeningEnd p t s
  | .openingPulseRetry p t => Sys2Proof.Machine.execOpeningPulseRetry p t s
  | .eclipseWindowDeadline p t => Sys2Proof.Machine.execEclipseWindowDeadline p t s
  | .predictiveEvaluation t => Sys2Proof.Machine.execPredictiveEvaluation t s
  | .eclipseOverdue p t => Sys2Proof.Machine.execEclipseOverdue p t s
  | .eclipseWindow r => Sys2Proof.Machine.execEclipseWindow r s
  | .genCommit via v t => Sys2Proof.Machine.execGenCommit via v t s
  | .commit r => Sys2Proof.Machine.execCommit r s
  | .genDiscard via v t => Sys2Proof.Machine.execGenDiscard via v t s
  | .vdetSettle p t => Sys2Proof.Machine.execVdetSettle p t s
  | .vdetOvercurrent p t => Sys2Proof.Machine.execVdetOvercurrent p t s
  | .statLatch via p v t => Sys2Proof.Machine.execStatLatch via p v t s
  | .statLatchComplete p t => Sys2Proof.Machine.execStatLatchComplete p t s
  | .statBlockRead via p offset len t => Sys2Proof.Machine.execStatBlockRead via p offset len t s
  | .statSnapshotRelease p session t => Sys2Proof.Machine.execStatSnapshotRelease p session t s
  | .ptpMessageReceive m t => Sys2Proof.Machine.execPtpMessageReceive m t s
  | .syncTimeout t => Sys2Proof.Machine.execSyncTimeout t s
  | .ppsInEdge rising t => Sys2Proof.Machine.execPpsInEdge rising t s
  | .ppsOutSecond t => Sys2Proof.Machine.execPpsOutSecond t s
  | .ppsOutWidthExpiry t => Sys2Proof.Machine.execPpsOutWidthExpiry t s
  | .timeSet via v t => Sys2Proof.Machine.execTimeSet via v t s
  | .encoderCountChange e a b held t => Sys2Proof.Machine.execEncoderCountChange e a b held t s
  | .encoderZEdge e held t => Sys2Proof.Machine.execEncoderZEdge e held t s
  | .encPreset via e v t => Sys2Proof.Machine.execEncPreset via e v t s
  | .encSpeedUpdate e t => Sys2Proof.Machine.execEncSpeedUpdate e t s
  | .trigInEdge n rising held t => Sys2Proof.Machine.execTrigInEdge n rising held t s
  | .timerGeneratorTick g t => Sys2Proof.Machine.execTimerGeneratorTick g t s
  | .tgFire via g v t => Sys2Proof.Machine.execTgFire via g v t s
  | .triggerEvent r => Sys2Proof.Machine.execTriggerEvent r s
  | .decisionPoint p t => Sys2Proof.Machine.execDecisionPoint p t s
  | .heldStart p t => Sys2Proof.Machine.execHeldStart p t s
  | .markTransactionStart p t => Sys2Proof.Machine.execMarkTransactionStart p t s
  | .markRelease p words t => Sys2Proof.Machine.execMarkRelease p words t s
  | .sp0TransactionEnd sel words t => Sys2Proof.Machine.execSp0TransactionEnd sel words t s
  | .trigOutPulseEnd n t => Sys2Proof.Machine.execTrigOutPulseEnd n t s
  | .hpFvalRise edges t => Sys2Proof.Machine.execHpFvalRise edges t s
  | .hpFvalFall edges t => Sys2Proof.Machine.execHpFvalFall edges t s
  | .hpRow edges t => Sys2Proof.Machine.execHpRow edges t s
  | .hpPclkMeasure hz t => Sys2Proof.Machine.execHpPclkMeasure hz t s
  | .outLinkChange port up t => Sys2Proof.Machine.execOutLinkChange port up t s
  | .pauseFrame port q t => Sys2Proof.Machine.execPauseFrame port q t s
  | .pauseHoldExpiry port t => Sys2Proof.Machine.execPauseHoldExpiry port t s
  | .pauseHoldNotify port t => Sys2Proof.Machine.execPauseHoldNotify port t s
  | .arpRequest port ip mac target t => Sys2Proof.Machine.execArpRequest port ip mac target t s
  | .arpReply port ip mac t => Sys2Proof.Machine.execArpReply port ip mac t s
  | .arpRetry port ip t => Sys2Proof.Machine.execArpRetry port ip t s
  | .arpRefresh port ip t => Sys2Proof.Machine.execArpRefresh port ip t s
  | .icmpEchoRequest port ip mac dst body t => Sys2Proof.Machine.execIcmpEchoRequest port ip mac dst body t s
  | .outRxDrop port frame fcs t => Sys2Proof.Machine.execOutRxDrop port frame fcs t s
  | .egressIngotStart port t => Sys2Proof.Machine.execEgressIngotStart port t s
  | .datagramSend port t => Sys2Proof.Machine.execDatagramSend port t s
  | .chainLinkChange port pcs an gigabit t => Sys2Proof.Machine.execChainLinkChange port pcs an gigabit t s
  | .chainFrameForward port frame fcsOk stomped residence t => Sys2Proof.Machine.execChainFrameForward port frame fcsOk stomped residence t s
  | .read r => Sys2Proof.Machine.execRead r s
  | .write r => Sys2Proof.Machine.execWrite r s
  | .writeStagingTimeout t => Sys2Proof.Machine.execWriteStagingTimeout t s
  | .rangeRead r => Sys2Proof.Machine.execRangeRead r s
  | .leaseGrant r good => Sys2Proof.Machine.execLeaseGrant r good s
  | .leaseAnnounce r good => Sys2Proof.Machine.execLeaseAnnounce r good s
  | .heartbeat r good => Sys2Proof.Machine.execHeartbeat r good s
  | .leaseExpiry t => Sys2Proof.Machine.execLeaseExpiry t s
  | .leaseRecordRetry ok t => Sys2Proof.Machine.execLeaseRecordRetry ok t s
  | .authOpen r healthy => Sys2Proof.Machine.execAuthOpen r healthy s
  | .authProve r => Sys2Proof.Machine.execAuthProve r s
  | .authClose r => Sys2Proof.Machine.execAuthClose r s
  | .sessionIdleExpiry id t => Sys2Proof.Machine.execSessionIdleExpiry id t s
  | .authLockoutExpiry path t => Sys2Proof.Machine.execAuthLockoutExpiry path t s
  | .bar0LowRead bar addr size t => Sys2Proof.Machine.execBar0LowRead bar addr size t s
  | .bar0UpperRead bar addr size t => Sys2Proof.Machine.execBar0UpperRead bar addr size t s
  | .bar0LowWrite bar addr v t => Sys2Proof.Machine.execBar0LowWrite bar addr v t s
  | .bar0UpperWrite bar addr v t => Sys2Proof.Machine.execBar0UpperWrite bar addr v t s
  | .bar0DroppedWrite bar addr size t => Sys2Proof.Machine.execBar0DroppedWrite bar addr size t s
  | .bar0DomCmdRead via t => Sys2Proof.Machine.execBar0DomCmdRead via t s
  | .bar0DomCmdWrite via t => Sys2Proof.Machine.execBar0DomCmdWrite via t s
  | .bar0DomCmdEnd t => Sys2Proof.Machine.execBar0DomCmdEnd t s
  | .expertRelease via v t => Sys2Proof.Machine.execExpertRelease via v t s
  | .objectWrite via key v ok t => Sys2Proof.Machine.execObjectWrite via key v ok t s
  | .chainStationWrite via v ok t => Sys2Proof.Machine.execChainStationWrite via v ok t s
  | .leaseEpochClear via v ok t => Sys2Proof.Machine.execLeaseEpochClear via v ok t s
  | .bar2Write addr bytes t => Sys2Proof.Machine.execBar2Write addr bytes t s
  | .bar2OfflineAccess addr n write t => Sys2Proof.Machine.execBar2OfflineAccess addr n write t s
  | .dramRefreshModeRead r0 r1 t => Sys2Proof.Machine.execDramRefreshModeRead r0 r1 t s
  | .dmaTailDoorbell c v t => Sys2Proof.Machine.execDmaTailDoorbell c v t s
  | .dmaCtrlRun c t => Sys2Proof.Machine.execDmaCtrlRun c t s
  | .dmaCtrlStop c t => Sys2Proof.Machine.execDmaCtrlStop c t s
  | .dmaCtrlAbort c t => Sys2Proof.Machine.execDmaCtrlAbort c t s
  | .dmaCtrlSoftReq c t => Sys2Proof.Machine.execDmaCtrlSoftReq c t s
  | .dmaDescriptorStart c words t => Sys2Proof.Machine.execDmaDescriptorStart c words t s
  | .dmaBurstStart c data good t => Sys2Proof.Machine.execDmaBurstStart c data good t s
  | .dmaDescriptorEnd c good t => Sys2Proof.Machine.execDmaDescriptorEnd c good t s
  | .pcieLinkDown t => Sys2Proof.Machine.execPcieLinkDown t s
  | .flr t => Sys2Proof.Machine.execFlr t s
  | .d3hotEntry t => Sys2Proof.Machine.execD3hotEntry t s
  | .keepArrayWrite addr bytes item good t => Sys2Proof.Machine.execKeepArrayWrite addr bytes item good t s
  | .nvUserData via bytes good t => Sys2Proof.Machine.execNvUserData via bytes good t s
  | .keepAnneal page weak t => Sys2Proof.Machine.execKeepAnneal page weak t s
  | .nvAnnealNow via v t => Sys2Proof.Machine.execNvAnnealNow via v t s
  | .storeAnneal sector weak flips t => Sys2Proof.Machine.execStoreAnneal sector weak flips t s
  | .recordWriteEnd t => Sys2Proof.Machine.execRecordWriteEnd t s
  | .flashStatusPoll busy fail t => Sys2Proof.Machine.execFlashStatusPoll busy fail t s
  | .recordRepair t => Sys2Proof.Machine.execRecordRepair t s
  | .storeCompaction t => Sys2Proof.Machine.execStoreCompaction t s
  | .nvCompactGo via v t => Sys2Proof.Machine.execNvCompactGo via v t s
  | .nvStoreFormat via v t => Sys2Proof.Machine.execNvStoreFormat via v t s
  | .nvSetSave via v t => Sys2Proof.Machine.execNvSetSave via v t s
  | .nvSetApply via v t => Sys2Proof.Machine.execNvSetApply via v t s
  | .nvSetDelete via v t => Sys2Proof.Machine.execNvSetDelete via v t s
  | .nvRecordDelete via v t => Sys2Proof.Machine.execNvRecordDelete via v t s
  | .nvCloseFlashCut t => Sys2Proof.Machine.execNvCloseFlashCut t s
  | .sp1SlaveRead port addr edges t => Sys2Proof.Machine.execSp1SlaveRead port addr edges t s
  | .sp1SlaveWrite port addr bytes edges t => Sys2Proof.Machine.execSp1SlaveWrite port addr bytes edges t s
  | .sp1SlaveStatus port cmd edges t => Sys2Proof.Machine.execSp1SlaveStatus port cmd edges t s
  | .mbxCmdRead t => Sys2Proof.Machine.execMbxCmdRead t s
  | .mbxCmdWrite t => Sys2Proof.Machine.execMbxCmdWrite t s
  | .mbxStateRead port t => Sys2Proof.Machine.execMbxStateRead port t s
  | .upCmdProgram ok t => Sys2Proof.Machine.execUpCmdProgram ok t s
  | .upCmdFinish ok t => Sys2Proof.Machine.execUpCmdFinish ok t s
  | .sp1BusRequest t => Sys2Proof.Machine.execSp1BusRequest t s
  | .sp1HandoverTimeout t => Sys2Proof.Machine.execSp1HandoverTimeout t s
  | .sp1SlvCollision t => Sys2Proof.Machine.execSp1SlvCollision t s
  | .sp0Slave via v t => Sys2Proof.Machine.execSp0Slave via v t s
  | .dqsCalibration k passFirst passTaps passHalf t => Sys2Proof.Machine.execDqsCalibration k passFirst passTaps passHalf t s
  | .xipFetch k addr n t => Sys2Proof.Machine.execXipFetch k addr n t s
  | .sp1RawXfer via bytes t => Sys2Proof.Machine.execSp1RawXfer via bytes t s
  | .hkCtrlStart via h t => Sys2Proof.Machine.execHkCtrlStart via h t s
  | .hkCtrlAbort via h t => Sys2Proof.Machine.execHkCtrlAbort via h t s
  | .hkConversionResult h volts refin t => Sys2Proof.Machine.execHkConversionResult h volts refin t s
  | .hkResultRead via h t => Sys2Proof.Machine.execHkResultRead via h t s
  | .hkStatusRead via h t => Sys2Proof.Machine.execHkStatusRead via h t s
  | .hkRefSettled h t => Sys2Proof.Machine.execHkRefSettled h t s
  | .hkDomainOff h t => Sys2Proof.Machine.execHkDomainOff h t s
  | .hkCalibrationTurn t => Sys2Proof.Machine.execHkCalibrationTurn t s
  | .hkCalibrationComplete offset gain t => Sys2Proof.Machine.execHkCalibrationComplete offset gain t s
  | .shutterTempConversion volts refin t => Sys2Proof.Machine.execShutterTempConversion volts refin t s
  | .thermalEvaluation sensors t => Sys2Proof.Machine.execThermalEvaluation sensors t s
  | .throttleGraceExpiry t => Sys2Proof.Machine.execThrottleGraceExpiry t s
  | .throttleUndo t => Sys2Proof.Machine.execThrottleUndo t s
  | .thermQuenchClear via v t => Sys2Proof.Machine.execThermQuenchClear via v t s
  | .hardwareTrip t => Sys2Proof.Machine.execHardwareTrip t s
  | .hardwareTripRelease t => Sys2Proof.Machine.execHardwareTripRelease t s
  | .powerFailWarning t => Sys2Proof.Machine.execPowerFailWarning t s
  | .brownOut t => Sys2Proof.Machine.execBrownOut t s
  | .overvoltage t => Sys2Proof.Machine.execOvervoltage t s
  | .inputSwitchClose mv t => Sys2Proof.Machine.execInputSwitchClose mv t s
  | .holdupReady t => Sys2Proof.Machine.execHoldupReady t s
  | .holdupMissing t => Sys2Proof.Machine.execHoldupMissing t s
  | .holdupExhausted t => Sys2Proof.Machine.execHoldupExhausted t s
  | .powerCauseClear t => Sys2Proof.Machine.execPowerCauseClear t s
  | .domainRampStart d t => Sys2Proof.Machine.execDomainRampStart d t s
  | .domainRampTimeout d t => Sys2Proof.Machine.execDomainRampTimeout d t s
  | .monitorSnapshot mv ma vdet sup t => Sys2Proof.Machine.execMonitorSnapshot mv ma vdet sup t s
  | .secLifecycleSet via v t => Sys2Proof.Machine.execSecLifecycleSet via v t s
  | .secKeyWrite via v t => Sys2Proof.Machine.execSecKeyWrite via v t s
  | .secKeyErase via v t => Sys2Proof.Machine.execSecKeyErase via v t s
  | .secArchiveKey via v t => Sys2Proof.Machine.execSecArchiveKey via v t s
  | .secTokenKey via v t => Sys2Proof.Machine.execSecTokenKey via v t s
  | .secArbCommit via v t => Sys2Proof.Machine.execSecArbCommit via v t s
  | .hpAuthReq v healthy t => Sys2Proof.Machine.execHpAuthReq v healthy t s
  | .hpAuthProve v t => Sys2Proof.Machine.execHpAuthProve v t s
  | .hpAuthClose v t => Sys2Proof.Machine.execHpAuthClose v t s
  | .dbgToken via v t => Sys2Proof.Machine.execDbgToken via v t s
  | .dbgTokenAccept t => Sys2Proof.Machine.execDbgTokenAccept t s
  | .dbgSetGrade via v t => Sys2Proof.Machine.execDbgSetGrade via v t s
  | .dbgLock via v t => Sys2Proof.Machine.execDbgLock via v t s
  | .tapExtest pins bits t => Sys2Proof.Machine.execTapExtest pins bits t s
  | .tapSamplePreload pins bits t => Sys2Proof.Machine.execTapSamplePreload pins bits t s
  | .tapIdcode t => Sys2Proof.Machine.execTapIdcode t s
  | .tapDbgStatus t => Sys2Proof.Machine.execTapDbgStatus t s
  | .tapDbgToken v t => Sys2Proof.Machine.execTapDbgToken v t s
  | .tapDbgAccess k d addr v t => Sys2Proof.Machine.execTapDbgAccess k d addr v t s
  | .tapBypass code t => Sys2Proof.Machine.execTapBypass code t s
  | .tapReset t => Sys2Proof.Machine.execTapReset t s
  | .stewardHalt k t => Sys2Proof.Machine.execStewardHalt k t s
  | .intCntClear via v t => Sys2Proof.Machine.execIntCntClear via v t s
  | .corrCntClear via v t => Sys2Proof.Machine.execCorrCntClear via v t s
  | .tailCntClear via v t => Sys2Proof.Machine.execTailCntClear via v t s
  | .mergeCntClear via v t => Sys2Proof.Machine.execMergeCntClear via v t s
  | .radCntClear via v t => Sys2Proof.Machine.execRadCntClear via v t s
  | .eclCntClear via v t => Sys2Proof.Machine.execEclCntClear via v t s
  | .intgCntClear via v t => Sys2Proof.Machine.execIntgCntClear via v t s
  | .timeCntClear via v t => Sys2Proof.Machine.execTimeCntClear via v t s
  | .trigCntClear via v t => Sys2Proof.Machine.execTrigCntClear via v t s
  | .outCntClear via v t => Sys2Proof.Machine.execOutCntClear via v t s
  | .chainCntClear via v t => Sys2Proof.Machine.execChainCntClear via v t s
  | .memCntClear via v t => Sys2Proof.Machine.execMemCntClear via v t s
  | .hpCntClear via v t => Sys2Proof.Machine.execHpCntClear via v t s
  | .nvCntClear via v t => Sys2Proof.Machine.execNvCntClear via v t s
  | .spCntClear via v t => Sys2Proof.Machine.execSpCntClear via v t s
  | .hkCntClear via v t => Sys2Proof.Machine.execHkCntClear via v t s
  | .thermCntClear via v t => Sys2Proof.Machine.execThermCntClear via v t s
  | .pwrCntClear via v t => Sys2Proof.Machine.execPwrCntClear via v t s
  | .laneBlockLock lane t => Sys2Proof.Machine.execLaneBlockLock lane t s
  | .pcieLinkUp rate lanes t => Sys2Proof.Machine.execPcieLinkUp rate lanes t s
  | .d3hotExit t => Sys2Proof.Machine.execD3hotExit t s
  | .msixVectorUnmask fn v t => Sys2Proof.Machine.execMsixVectorUnmask fn v t s
  | .completionTimeout c t => Sys2Proof.Machine.execCompletionTimeout c t s
  | .dmaStandbyCut c t => Sys2Proof.Machine.execDmaStandbyCut c t s
  | .trigOutPulseStart n t => Sys2Proof.Machine.execTrigOutPulseStart n t s
  | .domainRampEnd d t => Sys2Proof.Machine.execDomainRampEnd d t s
  | .vdetRampEnd p t => Sys2Proof.Machine.execVdetRampEnd p t s
  | .powerOnHours t => Sys2Proof.Machine.execPowerOnHours t s
  | .eraseRedone t => Sys2Proof.Machine.execEraseRedone t s

end Sys2Proof.Machine
end

