-- ==== Sys2Proof/WellFormed.lean ====
section
/-!
DEFINITION. Which terms of `Instr` are commands that can occur: each operand within what its wire, its port or its field of
the spec can carry.  A meaning is total beyond it; the one aperture that no access can leave ends in a named fault.
-/
namespace Sys2Proof

/-! ### The checks, one per kind of operand -/

/-- A count of ns of the 64-bit chain time (00 R12). -/
def Wf.time (t : Nat) : Bool := decide (t < 2 ^ 64)
/-- The value of a scalar of at most eight bytes (11 R385). -/
def Wf.value (v : Nat) : Bool := decide (v < 2 ^ 64)
/-- One 32-bit slot word of BAR0 or BAR4 (11 R397, 12 R422). -/
def Wf.word (v : Nat) : Bool := decide (v < 2 ^ 32)
/-- The path of an access: a session ID has 32 bits (10 Table 10-1). -/
def Wf.via : Via → Bool
  | .host => true
  | .chain id => decide (id < 2 ^ 32)
  | .mailbox => true
  | .module => true
/-- A telegram whose header fields fit 10 Table 10-1. -/
def Wf.req (r : Req) : Bool :=
  decide (r.hop < 256) && decide (r.dst < 256) && decide (r.src < 256) && decide (r.originPos < 256) &&
  decide (r.seq < 65536) && decide (r.session < 2 ^ 32) && decide (r.payload.length ≤ 1484) && Wf.time r.t
/-- A stamp of the PCS, in units of 0.125 ns (08 R285). -/
def Wf.stamp (n : Nat) : Bool := decide (n < 2 ^ 67)
/-- A PTP message: an 8-bit domain, a 16-bit sequence, 64-bit time stamps (08 R285). -/
def Wf.ptp : PtpMsg → Bool
  | .announce _ domain _ _ => decide (domain < 256)
  | .sync _ domain _ seq origin _ ingress interval =>
    decide (domain < 256) && decide (seq < 65536) && Wf.time (origin.getD 0) && Wf.stamp ingress && Wf.time interval
  | .followUp _ domain _ seq origin _ => decide (domain < 256) && decide (seq < 65536) && Wf.time origin
  | .delaySent egress => Wf.stamp egress
  | .delayResp _ domain _ receive _ => decide (domain < 256) && Wf.time receive
/-- One of the eight MSL lanes (03 R75). -/
def Wf.lane (n : Nat) : Bool := decide (n < 8)
/-- One of the four lane groups (03 R75). -/
def Wf.group (n : Nat) : Bool := decide (n < 4)
/-- A PCIe generation and a link width (12 R421). -/
def Wf.rate (n : Nat) : Bool := decide (1 ≤ n ∧ n ≤ 4)
/-- The widths the link trains to (12 R421). -/
def Wf.lanes (n : Nat) : Bool := decide (n = 1 ∨ n = 2 ∨ n = 4)
/-- One of the six long operations (02 Table 02-9). -/
def Wf.op (k : Nat) : Bool := decide (k < 6)
/-- A 16-bit field: a stripe place, a PAUSE quantum, a converter code, a sector number. -/
def Wf.half (n : Nat) : Bool := decide (n < 65536)
/-- One byte. -/
def Wf.byte (n : Nat) : Bool := decide (n < 256)
/-- Words returned on SP0, of 40 bits (03 R112). -/
def Wf.words (l : List Nat) : Bool := l.all (fun w => decide (w < 2 ^ 40))
/-- A read of 8, 16 or 32 bits within one slot (11 R403). -/
def Wf.span (addr size : Nat) : Bool := (size == 1 || size == 2 || size == 4) && decide (addr % 4 + size ≤ 4)
/-- A 66-bit block (03 R78), and a stripe position within the marker period of 16,384 blocks (03 R79). -/
def Wf.block (b : Nat) : Bool := decide (b < 2 ^ 66)
def Wf.place (n : Nat) : Bool := decide (n < 16384)
/-- A burst on the eight lanes (03 R78). -/
def Wf.laneBlocks (b : LaneBlocks) : Bool := Wf.place b.place && decide (b.lanes.length = 8) && b.lanes.all (fun l => l.all Wf.block)
/-- Edges of HP_PCLK with sixteen data pins (03 R105). -/
def Wf.edges (l : List HpEdge) : Bool := l.all (fun e => decide (e.d < 65536))
/-- A 48-bit MAC address, a 32-bit IPv4 address. -/
def Wf.mac (n : Nat) : Bool := decide (n < 2 ^ 48)
def Wf.ip (n : Nat) : Bool := decide (n < 2 ^ 32)
/-- An Ethernet frame as it arrives, without its FCS, too long ones among them (09 R322, 10 R349). -/
def Wf.frame (l : List Byte) : Bool := decide (l.length ≤ 65535)
/-- A byte address of BAR0, 1 MiB (11 Table 11-4). -/
def Wf.bar0 (a : Nat) : Bool := decide (a < 2 ^ 20)
/-- An offset in the 1 MiB of BAR0, the 16 KiB of BAR4 or the configuration space (12 Table 12-4). -/
def Wf.bar (b : Bar) (a : Nat) : Bool :=
  match b with
  | .bar0 => Wf.bar0 a
  | .bar4 => decide (a < 2 ^ 14)
  | .config => decide (a < 4096)
/-- An address of the BAR2 aperture of 8 GiB (12 R416). -/
def Wf.bar2 (a : Nat) : Bool := decide (a < 2 ^ 33)
/-- An access that stays within the BAR2 aperture (12 R416). -/
def Wf.bar2Span (a : Nat) (l : List Byte) : Bool := decide (a + l.length ≤ 2 ^ 33)
/-- The key of an object: a 16-bit index and an 8-bit subindex (11 R384). -/
def Wf.key (k : Nat) : Bool := decide (k < 2 ^ 24)
/-- One of the sixteen DMA channels (12 R425). -/
def Wf.channel (c : Nat) : Bool := decide (c < 16)
/-- A DMA descriptor of 32 bytes (12 R427). -/
def Wf.descriptor (l : List Byte) : Bool := decide (l.length = 32)
/-- A keep-array access: an address of the 512 KiB and at most one page of 256 bytes (13 R440, R441). -/
def Wf.keepAddr (a : Nat) : Bool := decide (a < 0x80000)
def Wf.page (l : List Byte) : Bool := decide (l.length ≤ 256)
/-- Which attempt of a keep-array write reads back good: 0 the first, 1 the second, 2 none (13 R441). -/
def Wf.attempt (n : Nat) : Bool := decide (n ≤ 2)
/-- One of the 2048 pages of the keep array (13 R440). -/
def Wf.keepPage (n : Nat) : Bool := decide (n < 2048)
/-- A 16-bit address of an SP slave transaction (14 R488). -/
def Wf.slaveAddr (a : Nat) : Bool := decide (a < 65536)
/-- A read of the XIP window of a device (14 R482). -/
def Wf.xip (a : Nat) : Bool := decide (a < 2 ^ 32)
/-- One of the 80 power domains (17 R545). -/
def Wf.domain (d : Nat) : Bool := decide (d < 80)
/-- The values of the 80 domain monitors (17 R547). -/
def Wf.monitors (l : List Nat) : Bool := decide (l.length = 80)
/-- The 32 junction sensors (16 R515, R516). -/
def Wf.sensors (l : List Int) : Bool := decide (l.length = 32)
/-- One path with a lock-out: the two chain ports and the host port (18 R566). -/
def Wf.path (n : Nat) : Bool := decide (n < 3)
/-- A vector of MSI-X (12 R424). -/
def Wf.vector (n : Nat) : Bool := decide (n < 32)
/-- The actions of debug access and of a halt (18 R571). -/
def Wf.action (n : Nat) : Bool := decide (n < 4)
/-- The instruction register of the TAP has eight bits (18 R570). -/
def Wf.tapCode (n : Nat) : Bool := decide (n < 256)

/-- Every operand of the command passes the check of its kind. -/
def Instr.wellFormed : Instr → Bool
  | .vinRise _ t => Wf.time t
  | .resetNAssert t => Wf.time t
  | .resetNRise t => Wf.time t
  | .internalResetRelease t => Wf.time t
  | .firmwareImageCheck t => Wf.time t
  | .stewardFirmwareStart t => Wf.time t
  | .dramTrainingComplete _ _ t => Wf.time t
  | .storeRecoveryScan t => Wf.time t
  | .startupSetApply t => Wf.time t
  | .watchdogReset t => Wf.time t
  | .softReset via v t => Wf.via via && Wf.value v && Wf.time t
  | .sysclkLoss t => Wf.time t
  | .pciePerstRelease rate lanes t => Wf.rate rate && Wf.lanes lanes && Wf.time t
  | .pciePerstAssert t => Wf.time t
  | .modeRequest r => Wf.req r
  | .modeReqGo via v t => Wf.via via && Wf.value v && Wf.time t
  | .transitionActivation t => Wf.time t
  | .transitionComplete _ t => Wf.time t
  | .transitionTimeout t => Wf.time t
  | .opAbort via k v t => Wf.via via && Wf.op k && Wf.value v && Wf.time t
  | .opProgressUpdate k position t => Wf.op k && Wf.word position && Wf.time t
  | .laneBlockLockLoss lane t => Wf.lane lane && Wf.time t
  | .alignmentMarker lane block place t => Wf.lane lane && Wf.block block && Wf.place place && Wf.time t
  | .mslFrameStart grp b t => Wf.group grp && Wf.laneBlocks b && Wf.time t
  | .mslRowPacket grp b t => Wf.group grp && Wf.laneBlocks b && Wf.time t
  | .mslFrameEnd grp b t => Wf.group grp && Wf.laneBlocks b && Wf.time t
  | .intIdleTimeout _ t => Wf.time t
  | .intakeForcedClose _ t => Wf.time t
  | .drainComplete _ t => Wf.time t
  | .handOverInstant _ t => Wf.time t
  | .ingotComplete _ t => Wf.time t
  | .prefetchComplete _ t => Wf.time t
  | .readoutEntersSlice _ t => Wf.time t
  | .defectReplacementRow _ _ t => Wf.time t
  | .pixelMerge _ t => Wf.time t
  | .outputFilterRow _ t => Wf.time t
  | .corrCoefOpen via _ t => Wf.via via && Wf.time t
  | .corrCoefClose via _ t => Wf.via via && Wf.time t
  | .coefCheckComplete _ t => Wf.time t
  | .corrLoadGo via _ v t => Wf.via via && Wf.value v && Wf.time t
  | .coefLoadEnd t => Wf.time t
  | .corrSaveGo via _ v t => Wf.via via && Wf.value v && Wf.time t
  | .tailHistReset via _ v t => Wf.via via && Wf.value v && Wf.time t
  | .eclRequestFull via _ t => Wf.via via && Wf.time t
  | .eclRequestPartial via _ t => Wf.via via && Wf.time t
  | .eclAbort via _ v t => Wf.via via && Wf.value v && Wf.time t
  | .eclFaultClear via _ v t => Wf.via via && Wf.value v && Wf.time t
  | .eclShutCmdClose via _ t => Wf.via via && Wf.time t
  | .eclShutCmdOpen via _ t => Wf.via via && Wf.time t
  | .eclipseGrant t => Wf.time t
  | .shutterPulseStart _ t => Wf.time t
  | .endSensorAsserted _ _ t => Wf.time t
  | .pulseHoldExpiry _ t => Wf.time t
  | .pulseMaxExpiry _ t => Wf.time t
  | .bothSensorsFault _ t => Wf.time t
  | .eclipseHeldStart _ t => Wf.time t
  | .eclipseUpdateComplete _ t => Wf.time t
  | .openingEnd _ t => Wf.time t
  | .openingPulseRetry _ t => Wf.time t
  | .eclipseWindowDeadline _ t => Wf.time t
  | .predictiveEvaluation t => Wf.time t
  | .eclipseOverdue _ t => Wf.time t
  | .eclipseWindow r => Wf.req r
  | .genCommit via v t => Wf.via via && Wf.value v && Wf.time t
  | .commit r => Wf.req r
  | .genDiscard via v t => Wf.via via && Wf.value v && Wf.time t
  | .vdetSettle _ t => Wf.time t
  | .vdetOvercurrent _ t => Wf.time t
  | .statLatch via _ v t => Wf.via via && Wf.value v && Wf.time t
  | .statLatchComplete _ t => Wf.time t
  | .statBlockRead via _ offset len t => Wf.via via && Wf.word offset && Wf.word len && Wf.time t
  | .statSnapshotRelease _ session t => Wf.word session && Wf.time t
  | .ptpMessageReceive m t => Wf.ptp m && Wf.time t
  | .syncTimeout t => Wf.time t
  | .ppsInEdge _ t => Wf.time t
  | .ppsOutSecond t => Wf.time t
  | .ppsOutWidthExpiry t => Wf.time t
  | .timeSet via v t => Wf.via via && Wf.value v && Wf.time t
  | .encoderCountChange _ _ _ _ t => Wf.time t
  | .encoderZEdge _ _ t => Wf.time t
  | .encPreset via _ v t => Wf.via via && Wf.value v && Wf.time t
  | .encSpeedUpdate _ t => Wf.time t
  | .trigInEdge _ _ _ t => Wf.time t
  | .timerGeneratorTick _ t => Wf.time t
  | .tgFire via _ v t => Wf.via via && Wf.value v && Wf.time t
  | .triggerEvent r => Wf.req r
  | .decisionPoint _ t => Wf.time t
  | .heldStart _ t => Wf.time t
  | .markTransactionStart _ t => Wf.time t
  | .markRelease _ words t => Wf.words words && Wf.time t
  | .sp0TransactionEnd _ words t => Wf.words words && Wf.time t
  | .trigOutPulseEnd _ t => Wf.time t
  | .hpFvalRise edges t => Wf.edges edges && Wf.time t
  | .hpFvalFall edges t => Wf.edges edges && Wf.time t
  | .hpRow edges t => Wf.edges edges && Wf.time t
  | .hpPclkMeasure hz t => Wf.word hz && Wf.time t
  | .outLinkChange _ _ t => Wf.time t
  | .pauseFrame _ q t => Wf.half q && Wf.time t
  | .pauseHoldExpiry _ t => Wf.time t
  | .pauseHoldNotify _ t => Wf.time t
  | .arpRequest _ ip mac target t => Wf.ip ip && Wf.mac mac && Wf.ip target && Wf.time t
  | .arpReply _ ip mac t => Wf.ip ip && Wf.mac mac && Wf.time t
  | .arpRetry _ ip t => Wf.ip ip && Wf.time t
  | .arpRefresh _ ip t => Wf.ip ip && Wf.time t
  | .icmpEchoRequest _ ip mac dst body t => Wf.ip ip && Wf.mac mac && Wf.ip dst && Wf.frame body && Wf.time t
  | .outRxDrop _ frame _ t => Wf.frame frame && Wf.time t
  | .egressIngotStart _ t => Wf.time t
  | .datagramSend _ t => Wf.time t
  | .chainLinkChange _ _ _ _ t => Wf.time t
  | .chainFrameForward _ frame _ _ residence t => Wf.frame frame && Wf.value residence && Wf.time t
  | .read r => Wf.req r
  | .write r => Wf.req r
  | .writeStagingTimeout t => Wf.time t
  | .rangeRead r => Wf.req r
  | .leaseGrant r _ => Wf.req r
  | .leaseAnnounce r _ => Wf.req r
  | .heartbeat r _ => Wf.req r
  | .leaseExpiry t => Wf.time t
  | .leaseRecordRetry _ t => Wf.time t
  | .authOpen r _ => Wf.req r
  | .authProve r => Wf.req r
  | .authClose r => Wf.req r
  | .sessionIdleExpiry id t => Wf.word id && Wf.time t
  | .authLockoutExpiry path t => Wf.path path && Wf.time t
  | .bar0LowRead bar addr size t => Wf.bar bar addr && Wf.span addr size && Wf.time t
  | .bar0UpperRead bar addr size t => Wf.bar bar addr && Wf.span addr size && Wf.time t
  | .bar0LowWrite bar addr v t => Wf.bar bar addr && Wf.word v && Wf.time t
  | .bar0UpperWrite bar addr v t => Wf.bar bar addr && Wf.word v && Wf.time t
  | .bar0DroppedWrite bar addr size t => Wf.bar bar addr && Wf.byte size && Wf.time t
  | .bar0DomCmdRead via t => Wf.via via && Wf.time t
  | .bar0DomCmdWrite via t => Wf.via via && Wf.time t
  | .bar0DomCmdEnd t => Wf.time t
  | .expertRelease via v t => Wf.via via && Wf.value v && Wf.time t
  | .objectWrite via key v _ t => Wf.via via && Wf.key key && Wf.value v && Wf.time t
  | .chainStationWrite via v _ t => Wf.via via && Wf.value v && Wf.time t
  | .leaseEpochClear via v _ t => Wf.via via && Wf.value v && Wf.time t
  | .bar2Write addr bytes t => Wf.bar2 addr && Wf.bar2Span addr bytes && Wf.time t
  | .bar2OfflineAccess addr n _ t => Wf.bar2 addr && Wf.bar2 n && Wf.time t
  | .dramRefreshModeRead r0 r1 t => Wf.byte r0 && Wf.byte r1 && Wf.time t
  | .dmaTailDoorbell c v t => Wf.channel c && Wf.word v && Wf.time t
  | .dmaCtrlRun c t => Wf.channel c && Wf.time t
  | .dmaCtrlStop c t => Wf.channel c && Wf.time t
  | .dmaCtrlAbort c t => Wf.channel c && Wf.time t
  | .dmaCtrlSoftReq c t => Wf.channel c && Wf.time t
  | .dmaDescriptorStart c words t => Wf.channel c && Wf.descriptor words && Wf.time t
  | .dmaBurstStart c _ _ t => Wf.channel c && Wf.time t
  | .dmaDescriptorEnd c _ t => Wf.channel c && Wf.time t
  | .pcieLinkDown t => Wf.time t
  | .flr t => Wf.time t
  | .d3hotEntry t => Wf.time t
  | .keepArrayWrite addr bytes _ good t => Wf.keepAddr addr && Wf.page bytes && Wf.attempt good && Wf.time t
  | .nvUserData via bytes good t => Wf.via via && Wf.page bytes && Wf.attempt good && Wf.time t
  | .keepAnneal page _ t => Wf.keepPage page && Wf.time t
  | .nvAnnealNow via v t => Wf.via via && Wf.value v && Wf.time t
  | .storeAnneal sector _ flips t => Wf.half sector && flips.all (fun x => decide (x.1 < 65536)) && Wf.time t
  | .recordWriteEnd t => Wf.time t
  | .flashStatusPoll _ _ t => Wf.time t
  | .recordRepair t => Wf.time t
  | .storeCompaction t => Wf.time t
  | .nvCompactGo via v t => Wf.via via && Wf.value v && Wf.time t
  | .nvStoreFormat via v t => Wf.via via && Wf.value v && Wf.time t
  | .nvSetSave via v t => Wf.via via && Wf.value v && Wf.time t
  | .nvSetApply via v t => Wf.via via && Wf.value v && Wf.time t
  | .nvSetDelete via v t => Wf.via via && Wf.value v && Wf.time t
  | .nvRecordDelete via v t => Wf.via via && Wf.value v && Wf.time t
  | .nvCloseFlashCut t => Wf.time t
  | .sp1SlaveRead _ addr edges t => Wf.slaveAddr addr && Wf.word edges && Wf.time t
  | .sp1SlaveWrite _ addr _ edges t => Wf.slaveAddr addr && Wf.word edges && Wf.time t
  | .sp1SlaveStatus _ cmd edges t => Wf.byte cmd && Wf.word edges && Wf.time t
  | .mbxCmdRead t => Wf.time t
  | .mbxCmdWrite t => Wf.time t
  | .mbxStateRead _ t => Wf.time t
  | .upCmdProgram _ t => Wf.time t
  | .upCmdFinish _ t => Wf.time t
  | .sp1BusRequest t => Wf.time t
  | .sp1HandoverTimeout t => Wf.time t
  | .sp1SlvCollision t => Wf.time t
  | .sp0Slave via v t => Wf.via via && Wf.value v && Wf.time t
  | .dqsCalibration _ _ _ _ t => Wf.time t
  | .xipFetch _ addr n t => Wf.xip addr && Wf.word n && Wf.time t
  | .sp1RawXfer via _ t => Wf.via via && Wf.time t
  | .hkCtrlStart via _ t => Wf.via via && Wf.time t
  | .hkCtrlAbort via _ t => Wf.via via && Wf.time t
  | .hkConversionResult _ volts refin t => volts.all Wf.value && Wf.value refin && Wf.time t
  | .hkResultRead via _ t => Wf.via via && Wf.time t
  | .hkStatusRead via _ t => Wf.via via && Wf.time t
  | .hkRefSettled _ t => Wf.time t
  | .hkDomainOff _ t => Wf.time t
  | .hkCalibrationTurn t => Wf.time t
  | .hkCalibrationComplete _ _ t => Wf.time t
  | .shutterTempConversion volts refin t => volts.all Wf.value && Wf.value refin && Wf.time t
  | .thermalEvaluation sensors t => Wf.sensors sensors && Wf.time t
  | .throttleGraceExpiry t => Wf.time t
  | .throttleUndo t => Wf.time t
  | .thermQuenchClear via v t => Wf.via via && Wf.value v && Wf.time t
  | .hardwareTrip t => Wf.time t
  | .hardwareTripRelease t => Wf.time t
  | .powerFailWarning t => Wf.time t
  | .brownOut t => Wf.time t
  | .overvoltage t => Wf.time t
  | .inputSwitchClose mv t => Wf.word mv && Wf.time t
  | .holdupReady t => Wf.time t
  | .holdupMissing t => Wf.time t
  | .holdupExhausted t => Wf.time t
  | .powerCauseClear t => Wf.time t
  | .domainRampStart d t => Wf.domain d && Wf.time t
  | .domainRampTimeout d t => Wf.domain d && Wf.time t
  | .monitorSnapshot mv ma _ _ t => Wf.monitors mv && Wf.monitors ma && Wf.time t
  | .secLifecycleSet via v t => Wf.via via && Wf.value v && Wf.time t
  | .secKeyWrite via _ t => Wf.via via && Wf.time t
  | .secKeyErase via v t => Wf.via via && Wf.value v && Wf.time t
  | .secArchiveKey via _ t => Wf.via via && Wf.time t
  | .secTokenKey via _ t => Wf.via via && Wf.time t
  | .secArbCommit via v t => Wf.via via && Wf.value v && Wf.time t
  | .hpAuthReq _ _ t => Wf.time t
  | .hpAuthProve _ t => Wf.time t
  | .hpAuthClose v t => Wf.value v && Wf.time t
  | .dbgToken via _ t => Wf.via via && Wf.time t
  | .dbgTokenAccept t => Wf.time t
  | .dbgSetGrade via v t => Wf.via via && Wf.value v && Wf.time t
  | .dbgLock via v t => Wf.via via && Wf.value v && Wf.time t
  | .tapExtest _ _ t => Wf.time t
  | .tapSamplePreload _ _ t => Wf.time t
  | .tapIdcode t => Wf.time t
  | .tapDbgStatus t => Wf.time t
  | .tapDbgToken _ t => Wf.time t
  | .tapDbgAccess k d addr v t => Wf.action k && Wf.domain d && Wf.value addr && Wf.value v && Wf.time t
  | .tapBypass code t => Wf.tapCode code && Wf.time t
  | .tapReset t => Wf.time t
  | .stewardHalt k t => Wf.action k && Wf.time t
  | .intCntClear via v t => Wf.via via && Wf.value v && Wf.time t
  | .corrCntClear via v t => Wf.via via && Wf.value v && Wf.time t
  | .tailCntClear via v t => Wf.via via && Wf.value v && Wf.time t
  | .mergeCntClear via v t => Wf.via via && Wf.value v && Wf.time t
  | .radCntClear via v t => Wf.via via && Wf.value v && Wf.time t
  | .eclCntClear via v t => Wf.via via && Wf.value v && Wf.time t
  | .intgCntClear via v t => Wf.via via && Wf.value v && Wf.time t
  | .timeCntClear via v t => Wf.via via && Wf.value v && Wf.time t
  | .trigCntClear via v t => Wf.via via && Wf.value v && Wf.time t
  | .outCntClear via v t => Wf.via via && Wf.value v && Wf.time t
  | .chainCntClear via v t => Wf.via via && Wf.value v && Wf.time t
  | .memCntClear via v t => Wf.via via && Wf.value v && Wf.time t
  | .hpCntClear via v t => Wf.via via && Wf.value v && Wf.time t
  | .nvCntClear via v t => Wf.via via && Wf.value v && Wf.time t
  | .spCntClear via v t => Wf.via via && Wf.value v && Wf.time t
  | .hkCntClear via v t => Wf.via via && Wf.value v && Wf.time t
  | .thermCntClear via v t => Wf.via via && Wf.value v && Wf.time t
  | .pwrCntClear via v t => Wf.via via && Wf.value v && Wf.time t
  | .laneBlockLock lane t => Wf.lane lane && Wf.time t
  | .pcieLinkUp rate lanes t => Wf.rate rate && Wf.lanes lanes && Wf.time t
  | .d3hotExit t => Wf.time t
  | .msixVectorUnmask _ v t => Wf.vector v && Wf.time t
  | .completionTimeout c t => Wf.channel c && Wf.time t
  | .dmaStandbyCut c t => Wf.channel c && Wf.time t
  | .trigOutPulseStart _ t => Wf.time t
  | .domainRampEnd d t => Wf.domain d && Wf.time t
  | .vdetRampEnd _ t => Wf.time t
  | .powerOnHours t => Wf.time t
  | .eraseRedone t => Wf.time t

end Sys2Proof
end

