-- ==== Sys2Proof/Safety.lean ====
section
/-!
DEFINITION. What counts as a safe run, and the properties of a state and of a step that claims speak of.
-/
namespace Sys2Proof.Machine

/-- The command waits at the front of the queue. -/
def State.front (s : State) (c : Instr) : State := { s with pending := c :: s.pending }

/-- The outcome is a next state, and the property holds of it. -/
def Runs (o : Ans) (P : State → Prop) : Prop := ∃ u, o = .next u ∧ P u

/-- A command that answers a next state. -/
def safeCommand (c : Instr) (s : State) : Prop := Runs (exec c s) (fun _ => True)

/-- Every command that waits can occur. -/
abbrev State.queueOk (s : State) : Prop := ∀ c ∈ s.pending, c.wellFormed = true

/-- The object dictionary, and the values in force and of the generations, are in their canonical form. -/
abbrev State.objectsOk (s : State) : Prop :=
  Store.wf Obj.dflt s.od = true ∧ Store.wf Obj.dflt s.modes.inForce = true ∧
    ∀ p : Pos, Store.wf Obj.dflt (s.gen.get p).pend = true ∧ Store.wf Obj.dflt (s.gen.get p).act = true ∧
      Store.wf Obj.dflt (s.gen.get p).gov = true

/-- DRAM, keep array and flash are in their canonical form. -/
abbrev State.memoriesOk (s : State) : Prop :=
  Store.wf dramDflt s.mem.dram = true ∧ Store.wf keepDflt s.nv.keep = true ∧
    ∀ p : Pos, Store.wf flashDflt (s.nv.flash.get p) = true

/-- As many lanes, channels, taps, DMA channels and rings as the spec gives (03 R75, 08 R306, 09 R328, 12 R427, R431). -/
abbrev State.shapesOk (s : State) : Prop :=
  s.lanes.length = 8 ∧ s.chan.length = 8 ∧ s.taps.length = 8 ∧ s.dma.length = 16 ∧ s.rings.length = 10

/-- What every reachable state keeps. -/
abbrev State.sound (s : State) : Prop := s.objectsOk ∧ s.memoriesOk ∧ s.shapesOk

/-- The path reaches the steward, which serves: that of the host while its link is up and the function is not in D3hot (02 R46, 12
R423, 18 R571). -/
abbrev State.reaches (s : State) (via : Via) : Prop :=
  s.serving = true ∧ (via = .host → s.host.link = true ∧ s.host.d3hot = false)

/-- The path reaches the steward, and an access on it at chain time `t` executes at the level or above, its session not expired by then
(10 R362, 11 R387, 18 R566). -/
abbrev State.admits (s : State) (via : Via) (lvl t : Nat) : Prop := s.reaches via ∧ lvl ≤ (s.advance t).level via

/-- The state a command finds: at its time, a low word that the host left waiting lost to it (11 R398), its session active (10 R362). -/
def State.found (s : State) (via : Via) (t : Nat) : State := ((s.advance t).writeOf via).touch via

/-- A telegram is one the module processes: from the master, with HOP below 255, long enough, to this module (10 R350, R353, R356 to
R358). -/
abbrev State.hears (s : State) (r : Req) (k : DstKind) (min : Nat) : Prop :=
  s.serving = true ∧ r.src = 0 ∧ r.hop < 255 ∧ min ≤ r.payload.length ∧ k.permits r.posaddr r.dst = true ∧
    s.addressed r.posaddr r.dst r.hop = true

/-- The state a processed telegram finds: at its arrival, out of its port's queue, with its place and its session taken. -/
def State.heard (s : State) (r : Req) : State :=
  (((s.advance r.t).takeTelegram r.portB).place r).touch (.chain r.session)

/-- A request that no kept request equals is executed (10 R369). -/
abbrev State.fresh (s : State) (r : Req) (type : Nat) : Prop := reqUni r = false ∨ (s.heard r).keptReply r type = none

/-- Every object but those of the list reads as before. -/
def State.sameBut (ks : List Nat) (s u : State) : Prop := ∀ k, k ∉ ks → u.oi k = s.oi k

/-- Nothing waits for SP1: no fetch, raw transaction, record write or erase, and no bus that was asked for (14 R484, R486). -/
abbrev State.sp1Idle (s : State) : Prop :=
  s.serial.busReq = none ∧ s.serial.fetches = [] ∧ s.serial.rawWait = none ∧ s.ops.compact ≠ some 1 ∧ s.nv.job = none ∧
    s.nv.queue = [] ∧ ∀ j, s.nv.journal = some j → j.erasing = 0xFFFFFFFF

/-- The module is in reset by a cause: every object that no reset but power-on leaves alone is at its default, and modes,
operations and the sessions of chain and host are as at power-on, the fuses as before (02 R42, R48). -/
def State.resetBy (cause : Nat) (s u : State) : Prop :=
  u.boot.phase = .reset ∧ u.boot.cause = cause ∧ (∀ k, keptOverReset k = false → u.oi k = Obj.dflt k) ∧
    u.modes = ModeSt.reset ∧ u.ops = OpsSt.reset ∧ u.chain = ChainSt.reset ∧ u.host.session = none ∧ u.host.link = false ∧
    u.sec.fuseOpen = s.sec.fuseOpen ∧ u.sec.fuseSealed = s.sec.fuseSealed ∧ u.sec.fuseReturn = s.sec.fuseReturn

/-- What a request for SAFE finds armed after it: itself, for the requested time or, with a time that is not to come, for 1 ms
after `now`; a repeat of the armed request leaves that as it was (02 R56, R61). -/
def State.safeFor (s : State) (num time source now : Nat) (a : Armed) : Prop :=
  a.txn = num ∧ a.target = 5 ∧
    (∀ b, s.modes.armed = some b → b.txn = num → b.target = 5 → b.reqTime = time → a = b) ∧
    ((∀ b, s.modes.armed = some b → b.txn = num → b.target = 5 → b.reqTime ≠ time) →
      a.source = source ∧ a.act = (if time ≤ now then now + 1000000 else time))

/-- The block of a lane that 66 received bits spell (03 R75, R78). -/
def State.blockAt (s : State) (lane raw : Nat) : Block :=
  let w := if bitAt (s.inForce Obj.MSL_LANE_INVERT).toNat lane then Nat.xor raw (2 ^ 66 - 1) else raw
  blockOf (w % 4) (descramble (s.lane lane).scr (w / 4)).1

/-- The blocks complete exactly these packets and leave the state `r` (03 R78 to R82). -/
def State.delivers (s : State) (grp : Nat) (b : LaneBlocks) (t : Nat) (pkts : List Packet) (r : State) : Prop :=
  (s.advance t).receiveBlocks grp b = (r, pkts)

/-- An edge of HP_PCLK on which the module samples, FVAL and LVAL active or not, with a readout (03 R105). -/
def State.hpEdge (s : State) (fval lval : Bool) (d : Nat) : HpEdge :=
  { rising := !(s.inForce Obj.HP_PCLK_EDGE == 1), fval := fval != bitAt (s.inForce Obj.HP_SYNC_POL).toNat 0,
    lval := lval != bitAt (s.inForce Obj.HP_SYNC_POL).toNat 1, d := d }

/-- The bits of the lifecycle fuses stay burned (18 R556). -/
def State.fusesKeep (s u : State) : Prop :=
  (s.sec.fuseOpen.1 = true → u.sec.fuseOpen.1 = true) ∧ (s.sec.fuseOpen.2 = true → u.sec.fuseOpen.2 = true) ∧
    (s.sec.fuseSealed.1 = true → u.sec.fuseSealed.1 = true) ∧ (s.sec.fuseSealed.2 = true → u.sec.fuseSealed.2 = true) ∧
    (s.sec.fuseReturn.1 = true → u.sec.fuseReturn.1 = true) ∧ (s.sec.fuseReturn.2 = true → u.sec.fuseReturn.2 = true)


/-- The parts a state has beside its queue, one per field. -/
inductive Part where
  | emitted | od | doms | time | boot | modes | ops | chain | bar0 | nv | lanes | aligned | intake | link | fpa | sp0 | pipe
  | coef | gen | vdet | stat | ecl | shut | windows | enc0 | enc1 | tg | chan | trig | trigOut | out0 | out1 | taps |
  mem | host | dma | rings | ingots | serial | hk | therm | pwr | sec | dbg | free
deriving DecidableEq, Repr

/-- Every part but the listed ones is as before, and so is the queue. -/
def State.keeps (l : List Part) (s u : State) : Prop :=
  u.pending = s.pending ∧ (Part.emitted ∈ l ∨ u.out = s.out) ∧ (Part.od ∈ l ∨ u.od = s.od) ∧
  (Part.doms ∈ l ∨ u.doms = s.doms) ∧ (Part.time ∈ l ∨ u.time = s.time) ∧ (Part.boot ∈ l ∨ u.boot = s.boot) ∧
  (Part.modes ∈ l ∨ u.modes = s.modes) ∧ (Part.ops ∈ l ∨ u.ops = s.ops) ∧ (Part.chain ∈ l ∨ u.chain = s.chain) ∧
  (Part.bar0 ∈ l ∨ u.bar0 = s.bar0) ∧ (Part.nv ∈ l ∨ u.nv = s.nv) ∧ (Part.lanes ∈ l ∨ u.lanes = s.lanes) ∧
  (Part.aligned ∈ l ∨ u.aligned = s.aligned) ∧ (Part.intake ∈ l ∨ u.intake = s.intake) ∧
  (Part.link ∈ l ∨ u.link = s.link) ∧ (Part.fpa ∈ l ∨ u.fpa = s.fpa) ∧ (Part.sp0 ∈ l ∨ u.sp0 = s.sp0) ∧ (Part.pipe ∈ l ∨ u.pipe = s.pipe) ∧
  (Part.coef ∈ l ∨ u.coef = s.coef) ∧ (Part.gen ∈ l ∨ u.gen = s.gen) ∧ (Part.vdet ∈ l ∨ u.vdet = s.vdet) ∧
  (Part.stat ∈ l ∨ u.stat = s.stat) ∧ (Part.ecl ∈ l ∨ u.ecl = s.ecl) ∧ (Part.shut ∈ l ∨ u.shut = s.shut) ∧
  (Part.windows ∈ l ∨ u.windows = s.windows) ∧ (Part.enc0 ∈ l ∨ u.enc0 = s.enc0) ∧ (Part.enc1 ∈ l ∨ u.enc1 = s.enc1) ∧
  (Part.tg ∈ l ∨ u.tg = s.tg) ∧ (Part.chan ∈ l ∨ u.chan = s.chan) ∧ (Part.trig ∈ l ∨ u.trig = s.trig) ∧
  (Part.trigOut ∈ l ∨ u.trigOut = s.trigOut) ∧ (Part.out0 ∈ l ∨ u.out0 = s.out0) ∧ (Part.out1 ∈ l ∨ u.out1 = s.out1) ∧
  (Part.taps ∈ l ∨ u.taps = s.taps) ∧ (Part.mem ∈ l ∨ u.mem = s.mem) ∧ (Part.host ∈ l ∨ u.host = s.host) ∧
  (Part.dma ∈ l ∨ u.dma = s.dma) ∧ (Part.rings ∈ l ∨ u.rings = s.rings) ∧ (Part.ingots ∈ l ∨ u.ingots = s.ingots) ∧
  (Part.serial ∈ l ∨ u.serial = s.serial) ∧ (Part.hk ∈ l ∨ u.hk = s.hk) ∧ (Part.therm ∈ l ∨ u.therm = s.therm) ∧
  (Part.pwr ∈ l ∨ u.pwr = s.pwr) ∧ (Part.sec ∈ l ∨ u.sec = s.sec) ∧ (Part.dbg ∈ l ∨ u.dbg = s.dbg) ∧
  (Part.free ∈ l ∨ u.free = s.free)

/-- The parts a command may change beside its own time. -/
def partsOf : Instr → List Part
  | .vinRise _ _ | .resetNAssert _ | .watchdogReset _ | .sysclkLoss _ | .hardwareTrip _ | .holdupExhausted _ =>
    [.od, .doms, .time, .boot, .modes, .ops, .chain, .bar0, .nv, .lanes, .aligned, .intake, .link, .fpa, .sp0, .pipe,
    .coef, .gen, .vdet, .stat, .ecl, .shut, .windows, .enc0, .enc1, .tg, .chan, .trig, .trigOut, .out0, .out1, .taps,
    .mem, .host, .dma, .rings, .ingots, .serial, .hk, .therm, .pwr, .sec, .dbg, .free]
  | .resetNRise _ | .hardwareTripRelease _ =>
    [.time, .boot]
  | .internalResetRelease _ =>
    [.od, .doms, .time, .boot, .chain, .nv, .tg, .host, .serial, .therm, .pwr, .sec, .free]
  | .firmwareImageCheck _ =>
    [.od, .time, .boot, .hk, .pwr]
  | .stewardFirmwareStart _ =>
    [.od, .doms, .time, .boot, .chain, .nv, .gen, .vdet, .enc0, .enc1, .tg, .trigOut, .mem, .host, .rings, .serial,
    .hk, .pwr, .sec, .free]
  | .dramTrainingComplete _ _ _ | .transitionTimeout _ | .eclipseGrant _ | .shutterPulseStart _ _ |
    .pulseHoldExpiry _ _ | .pulseMaxExpiry _ _ | .bothSensorsFault _ _ | .eclipseUpdateComplete _ _ |
    .eclipseWindowDeadline _ _ | .vdetOvercurrent _ _ | .powerFailWarning _ | .overvoltage _ =>
    [.emitted, .od, .time, .modes, .ops, .chain, .nv, .lanes, .aligned, .intake, .link, .pipe, .coef, .vdet, .ecl,
    .shut, .windows, .trig, .trigOut, .out0, .out1, .taps, .mem, .host, .dma, .rings, .serial, .hk, .pwr, .dbg, .free]
  | .storeRecoveryScan _ =>
    [.od, .time, .boot, .nv, .serial, .free]
  | .startupSetApply _ =>
    [.emitted, .od, .doms, .time, .boot, .modes, .ops, .chain, .nv, .gen, .vdet, .enc0, .enc1, .tg, .trigOut, .mem,
    .host, .dma, .rings, .serial, .hk, .pwr, .sec, .free]
  | .softReset _ _ _ | .write _ | .bar0LowWrite _ _ _ _ | .bar0UpperWrite _ _ _ _ | .objectWrite _ _ _ _ _ |
    .mbxCmdWrite _ | .brownOut _ =>
    [.emitted, .od, .doms, .time, .boot, .modes, .ops, .chain, .bar0, .nv, .lanes, .aligned, .intake, .link, .fpa,
    .sp0, .pipe, .coef, .gen, .vdet, .stat, .ecl, .shut, .windows, .enc0, .enc1, .tg, .chan, .trig, .trigOut, .out0,
    .out1, .taps, .mem, .host, .dma, .rings, .ingots, .serial, .hk, .therm, .pwr, .sec, .dbg, .free]
  | .pciePerstRelease _ _ _ | .pcieLinkUp _ _ _ =>
    [.od, .time, .host]
  | .pciePerstAssert _ | .flr _ =>
    [.od, .time, .bar0, .mem, .host, .dma, .rings]
  | .modeRequest _ =>
    [.emitted, .od, .time, .modes, .chain, .host]
  | .modeReqGo _ _ _ =>
    [.emitted, .od, .time, .modes, .chain, .bar0, .nv, .host, .free]
  | .transitionActivation _ | .transitionComplete _ _ | .dbgTokenAccept _ =>
    [.emitted, .od, .time, .modes, .ops, .chain, .nv, .lanes, .aligned, .intake, .link, .fpa, .sp0, .pipe, .coef,
    .vdet, .ecl, .shut, .windows, .trig, .trigOut, .out0, .out1, .taps, .mem, .host, .dma, .rings, .serial, .hk, .pwr,
    .sec, .dbg, .free]
  | .opAbort _ _ _ _ =>
    [.emitted, .od, .time, .ops, .chain, .bar0, .nv, .coef, .host, .serial, .free]
  | .opProgressUpdate _ _ _ | .syncTimeout _ | .hpPclkMeasure _ _ | .outRxDrop _ _ _ _ | .sp1SlvCollision _ =>
    [.od, .time]
  | .laneBlockLockLoss _ _ =>
    [.od, .time, .lanes, .aligned, .link]
  | .alignmentMarker _ _ _ _ | .mslFrameStart _ _ _ | .mslRowPacket _ _ _ | .mslFrameEnd _ _ _ =>
    [.emitted, .od, .time, .chain, .nv, .lanes, .aligned, .intake, .link, .fpa, .sp0, .vdet, .ecl, .shut, .trig,
    .trigOut, .host, .free]
  | .intIdleTimeout _ _ | .intakeForcedClose _ _ =>
    [.emitted, .od, .time, .intake, .fpa, .sp0, .vdet, .ecl, .shut, .trig, .trigOut]
  | .drainComplete _ _ =>
    [.emitted, .od, .time, .nv, .lanes, .aligned, .intake, .link, .pipe, .coef, .gen, .vdet, .stat, .ecl, .out0,
    .out1, .taps, .mem, .host, .dma, .rings, .hk, .pwr, .free]
  | .handOverInstant _ _ =>
    [.emitted, .od, .time, .modes, .ops, .chain, .nv, .lanes, .aligned, .intake, .link, .fpa, .sp0, .pipe, .coef,
    .gen, .vdet, .ecl, .shut, .windows, .trig, .trigOut, .out0, .out1, .taps, .mem, .host, .dma, .rings, .serial, .hk,
    .therm, .pwr, .dbg, .free]
  | .ingotComplete _ _ =>
    [.od, .time, .pipe, .out0, .out1, .taps, .mem, .dma, .rings, .ingots, .free]
  | .prefetchComplete _ _ =>
    [.time, .intake, .pipe]
  | .readoutEntersSlice _ _ =>
    [.od, .time, .intake, .link, .pipe, .ecl, .mem]
  | .defectReplacementRow _ _ _ =>
    [.od, .time, .pipe, .taps, .mem]
  | .pixelMerge _ _ =>
    [.od, .time, .pipe, .taps]
  | .outputFilterRow _ _ =>
    [.time, .pipe, .taps, .mem]
  | .corrCoefOpen _ _ _ | .tailHistReset _ _ _ _ =>
    [.emitted, .od, .time, .chain, .bar0, .nv, .coef, .host, .free]
  | .corrCoefClose _ _ _ | .bar0DroppedWrite _ _ _ _ | .expertRelease _ _ _ | .leaseEpochClear _ _ _ _ |
    .nvUserData _ _ _ _ | .nvAnnealNow _ _ _ | .secKeyWrite _ _ _ | .secKeyErase _ _ _ | .secArchiveKey _ _ _ |
    .secTokenKey _ _ _ | .secArbCommit _ _ _ | .hpAuthClose _ _ | .intCntClear _ _ _ | .corrCntClear _ _ _ |
    .tailCntClear _ _ _ | .mergeCntClear _ _ _ | .radCntClear _ _ _ | .eclCntClear _ _ _ | .intgCntClear _ _ _ |
    .timeCntClear _ _ _ | .trigCntClear _ _ _ | .outCntClear _ _ _ | .chainCntClear _ _ _ | .memCntClear _ _ _ |
    .hpCntClear _ _ _ | .nvCntClear _ _ _ | .spCntClear _ _ _ | .hkCntClear _ _ _ | .thermCntClear _ _ _ |
    .pwrCntClear _ _ _ =>
    [.emitted, .od, .time, .chain, .bar0, .nv, .host, .free]
  | .coefCheckComplete _ _ =>
    [.od, .doms, .time, .coef, .mem]
  | .corrLoadGo _ _ _ _ =>
    [.emitted, .od, .time, .ops, .chain, .bar0, .nv, .coef, .host, .free]
  | .coefLoadEnd _ =>
    [.emitted, .od, .doms, .time, .modes, .ops, .chain, .nv, .lanes, .aligned, .intake, .link, .pipe, .coef, .gen,
    .vdet, .ecl, .shut, .windows, .trig, .trigOut, .out0, .out1, .taps, .mem, .host, .dma, .rings, .serial, .hk, .pwr,
    .dbg, .free]
  | .corrSaveGo _ _ _ _ | .nvSetSave _ _ _ | .nvSetDelete _ _ _ | .nvRecordDelete _ _ _ =>
    [.emitted, .od, .time, .ops, .chain, .bar0, .nv, .host, .serial, .pwr, .sec, .free]
  | .eclRequestFull _ _ _ | .eclRequestPartial _ _ _ =>
    [.emitted, .od, .time, .chain, .bar0, .nv, .ecl, .host, .free]
  | .eclAbort _ _ _ _ =>
    [.emitted, .od, .time, .modes, .ops, .chain, .bar0, .nv, .lanes, .aligned, .intake, .link, .pipe, .coef, .vdet,
    .ecl, .shut, .windows, .trig, .trigOut, .out0, .out1, .taps, .mem, .host, .dma, .rings, .serial, .hk, .pwr, .dbg,
    .free]
  | .eclFaultClear _ _ _ _ =>
    [.emitted, .od, .time, .chain, .bar0, .nv, .ecl, .shut, .host, .free]
  | .eclShutCmdClose _ _ _ | .eclShutCmdOpen _ _ _ =>
    [.emitted, .od, .time, .chain, .bar0, .nv, .shut, .host, .free]
  | .endSensorAsserted _ _ _ | .openingPulseRetry _ _ =>
    [.time, .ecl, .shut]
  | .eclipseHeldStart _ _ =>
    [.emitted, .od, .time, .fpa, .sp0, .ecl, .trig]
  | .openingEnd _ _ | .predictiveEvaluation _ =>
    [.od, .time, .ecl]
  | .eclipseOverdue _ _ =>
    [.emitted, .od, .time, .chain, .nv, .ecl, .host, .free]
  | .eclipseWindow _ =>
    [.od, .time, .chain, .ecl, .windows, .host]
  | .genCommit _ _ _ =>
    [.emitted, .od, .time, .chain, .bar0, .nv, .gen, .mem, .host, .rings, .free]
  | .commit _ =>
    [.od, .time, .chain, .nv, .gen, .mem, .host, .rings, .free]
  | .genDiscard _ _ _ =>
    [.emitted, .od, .time, .chain, .bar0, .nv, .gen, .host, .free]
  | .vdetSettle _ _ =>
    [.time, .vdet]
  | .statLatch _ _ _ _ =>
    [.emitted, .od, .time, .chain, .bar0, .nv, .stat, .mem, .host, .free]
  | .statLatchComplete _ _ =>
    [.od, .time, .stat, .dma]
  | .statBlockRead _ _ _ _ _ =>
    [.emitted, .time, .chain, .stat, .host]
  | .statSnapshotRelease _ _ _ =>
    [.time, .stat]
  | .ptpMessageReceive _ _ | .ppsInEdge _ _ =>
    [.emitted, .od, .time, .modes, .ops, .chain, .nv, .lanes, .aligned, .intake, .link, .fpa, .sp0, .pipe, .coef,
    .vdet, .ecl, .shut, .windows, .tg, .trig, .trigOut, .out0, .out1, .taps, .mem, .host, .dma, .rings, .serial, .hk,
    .pwr, .sec, .dbg, .free]
  | .ppsOutSecond _ =>
    [.od, .time, .dma]
  | .ppsOutWidthExpiry _ =>
    [.time]
  | .timeSet _ _ _ =>
    [.emitted, .od, .time, .modes, .ops, .chain, .bar0, .nv, .lanes, .aligned, .intake, .link, .fpa, .sp0, .pipe,
    .coef, .vdet, .ecl, .shut, .windows, .tg, .trig, .trigOut, .out0, .out1, .taps, .mem, .host, .dma, .rings,
    .serial, .hk, .pwr, .sec, .dbg, .free]
  | .encoderCountChange _ _ _ _ _ =>
    [.emitted, .od, .time, .chain, .nv, .enc0, .enc1, .tg, .trig, .trigOut, .host, .free]
  | .encoderZEdge _ _ _ =>
    [.od, .time, .enc0, .enc1, .tg]
  | .encPreset _ _ _ _ =>
    [.emitted, .od, .time, .chain, .bar0, .nv, .tg, .host, .free]
  | .encSpeedUpdate _ _ =>
    [.od, .time, .enc0, .enc1]
  | .trigInEdge _ _ _ _ | .timerGeneratorTick _ _ =>
    [.emitted, .od, .time, .tg, .trig, .trigOut]
  | .tgFire _ _ _ _ =>
    [.emitted, .od, .time, .chain, .bar0, .nv, .tg, .trig, .trigOut, .host, .free]
  | .triggerEvent _ =>
    [.od, .time, .chan, .trig]
  | .decisionPoint _ _ | .heldStart _ _ =>
    [.emitted, .od, .time, .fpa, .sp0, .trig]
  | .markTransactionStart _ _ =>
    [.emitted, .time, .fpa, .sp0]
  | .markRelease _ _ _ =>
    [.emitted, .od, .time, .chain, .nv, .intake, .fpa, .sp0, .pipe, .coef, .vdet, .ecl, .shut, .trig, .trigOut, .host,
    .free]
  | .sp0TransactionEnd _ _ _ =>
    [.emitted, .od, .time, .modes, .ops, .chain, .nv, .lanes, .aligned, .intake, .link, .fpa, .sp0, .pipe, .coef,
    .gen, .vdet, .ecl, .shut, .windows, .trig, .trigOut, .out0, .out1, .taps, .mem, .host, .dma, .rings, .serial, .hk,
    .pwr, .dbg, .free]
  | .trigOutPulseEnd _ _ =>
    [.time, .trigOut]
  | .hpFvalRise _ _ | .hpFvalFall _ _ | .hpRow _ _ =>
    [.emitted, .od, .time, .chain, .nv, .intake, .link, .fpa, .sp0, .vdet, .ecl, .shut, .trig, .trigOut, .host, .free]
  | .outLinkChange _ _ _ =>
    [.emitted, .od, .time, .out0, .out1, .mem, .dma, .rings]
  | .pauseFrame _ _ _ | .pauseHoldExpiry _ _ | .arpRequest _ _ _ _ _ | .arpRetry _ _ _ | .arpRefresh _ _ _ |
    .icmpEchoRequest _ _ _ _ _ _ =>
    [.emitted, .od, .time, .out0, .out1]
  | .pauseHoldNotify _ _ =>
    [.emitted, .od, .time, .chain, .nv, .out0, .out1, .host, .free]
  | .arpReply _ _ _ _ =>
    [.time, .out0, .out1]
  | .egressIngotStart _ _ | .datagramSend _ _ =>
    [.emitted, .od, .time, .out0, .out1, .mem, .rings]
  | .chainLinkChange _ _ _ _ _ | .chainFrameForward _ _ _ _ _ _ =>
    [.emitted, .od, .time, .chain, .nv, .host, .free]
  | .read _ =>
    [.od, .time, .chain, .stat, .enc0, .enc1, .mem, .host, .serial, .hk]
  | .writeStagingTimeout _ =>
    [.time, .chain]
  | .rangeRead _ =>
    [.od, .time, .chain, .enc0, .enc1, .mem, .host, .serial, .hk]
  | .leaseGrant _ _ =>
    [.od, .time, .modes, .chain, .nv, .out0, .out1, .mem, .host, .dma, .rings, .free]
  | .leaseAnnounce _ _ | .heartbeat _ _ =>
    [.emitted, .od, .time, .modes, .ops, .chain, .nv, .lanes, .aligned, .intake, .link, .fpa, .sp0, .coef, .vdet,
    .ecl, .shut, .windows, .trig, .trigOut, .out0, .out1, .mem, .host, .dma, .rings, .serial, .hk, .pwr, .free]
  | .leaseExpiry _ =>
    [.emitted, .od, .time, .chain, .nv, .out0, .out1, .mem, .host, .dma, .rings, .free]
  | .leaseRecordRetry _ _ =>
    [.od, .time, .chain, .nv, .free]
  | .authOpen _ _ | .authProve _ =>
    [.od, .time, .chain, .nv, .host, .sec, .free]
  | .authClose _ =>
    [.od, .time, .chain, .host]
  | .sessionIdleExpiry _ _ =>
    [.time, .chain, .host]
  | .authLockoutExpiry _ _ =>
    [.time, .sec]
  | .bar0LowRead _ _ _ _ | .bar0UpperRead _ _ _ _ =>
    [.emitted, .od, .time, .chain, .bar0, .enc0, .enc1, .mem, .host, .dma, .serial, .hk]
  | .bar0DomCmdRead _ _ | .bar0DomCmdWrite _ _ =>
    [.emitted, .od, .doms, .time, .chain, .bar0, .nv, .gen, .vdet, .stat, .enc0, .enc1, .tg, .trigOut, .host, .serial,
    .hk, .pwr, .sec, .dbg, .free]
  | .bar0DomCmdEnd _ =>
    [.emitted, .od, .time, .bar0, .host]
  | .chainStationWrite _ _ _ _ | .sp0Slave _ _ _ =>
    [.emitted, .od, .doms, .time, .chain, .bar0, .nv, .gen, .vdet, .enc0, .enc1, .tg, .trigOut, .host, .serial, .hk,
    .free]
  | .bar2Write _ _ _ =>
    [.emitted, .od, .time, .nv, .mem, .host, .free]
  | .bar2OfflineAccess _ _ _ _ =>
    [.emitted, .od, .time, .mem, .host]
  | .dramRefreshModeRead _ _ _ =>
    [.od, .time, .mem]
  | .dmaTailDoorbell _ _ _ | .dmaCtrlRun _ _ | .dmaCtrlSoftReq _ _ =>
    [.emitted, .od, .time, .dma]
  | .dmaCtrlStop _ _ | .dmaCtrlAbort _ _ =>
    [.emitted, .od, .time, .host, .dma]
  | .dmaDescriptorStart _ _ _ =>
    [.od, .time, .nv, .mem, .dma, .rings, .free]
  | .dmaBurstStart _ _ _ _ =>
    [.emitted, .time, .mem, .host, .dma]
  | .dmaDescriptorEnd _ _ _ | .completionTimeout _ _ | .dmaStandbyCut _ _ =>
    [.emitted, .od, .time, .mem, .host, .dma, .rings]
  | .pcieLinkDown _ | .d3hotEntry _ =>
    [.od, .time, .mem, .host, .dma, .rings]
  | .keepArrayWrite _ _ _ _ _ | .powerOnHours _ =>
    [.od, .time, .nv, .free]
  | .keepAnneal _ _ _ =>
    [.od, .time, .nv]
  | .storeAnneal _ _ _ _ | .eraseRedone _ =>
    [.od, .time, .nv, .serial, .pwr, .free]
  | .recordWriteEnd _ =>
    [.emitted, .od, .time, .ops, .nv, .host, .serial, .hk, .pwr, .sec, .free]
  | .flashStatusPoll _ _ _ | .sp1BusRequest _ =>
    [.emitted, .od, .doms, .time, .ops, .nv, .host, .serial, .hk, .pwr, .sec, .free]
  | .recordRepair _ =>
    [.emitted, .od, .time, .ops, .nv, .host, .serial, .pwr, .sec, .free]
  | .storeCompaction _ =>
    [.emitted, .od, .time, .ops, .nv, .host, .serial, .pwr, .free]
  | .nvCompactGo _ _ _ =>
    [.emitted, .od, .time, .ops, .chain, .bar0, .nv, .host, .free]
  | .nvStoreFormat _ _ _ =>
    [.emitted, .od, .time, .ops, .chain, .bar0, .nv, .host, .serial, .pwr, .free]
  | .nvSetApply _ _ _ =>
    [.emitted, .od, .doms, .time, .chain, .bar0, .nv, .gen, .vdet, .enc0, .enc1, .tg, .trigOut, .mem, .host, .rings,
    .serial, .hk, .free]
  | .nvCloseFlashCut _ =>
    [.emitted, .od, .time, .nv, .serial, .hk, .pwr, .free]
  | .sp1SlaveRead _ _ _ _ | .sp1SlaveWrite _ _ _ _ _ | .sp1SlaveStatus _ _ _ _ | .mbxStateRead _ _ =>
    [.emitted, .od, .time, .serial]
  | .mbxCmdRead _ =>
    [.od, .time, .enc0, .enc1, .mem, .serial, .hk]
  | .upCmdProgram _ _ =>
    [.od, .time, .nv, .serial, .hk, .pwr, .free]
  | .upCmdFinish _ _ | .dqsCalibration _ _ _ _ _ =>
    [.od, .time, .nv, .serial, .free]
  | .sp1HandoverTimeout _ =>
    [.od, .time, .serial]
  | .xipFetch _ _ _ _ =>
    [.emitted, .od, .time, .serial, .hk, .pwr]
  | .sp1RawXfer _ _ _ =>
    [.emitted, .od, .doms, .time, .chain, .bar0, .nv, .host, .serial, .pwr, .free]
  | .hkCtrlStart _ _ _ | .hkCtrlAbort _ _ _ =>
    [.emitted, .od, .time, .chain, .bar0, .nv, .host, .hk, .pwr, .free]
  | .hkConversionResult _ _ _ _ | .hkCalibrationTurn _ =>
    [.od, .time, .hk]
  | .hkResultRead _ _ _ =>
    [.emitted, .od, .time, .chain, .host]
  | .hkStatusRead _ _ _ =>
    [.emitted, .time, .chain, .host, .hk]
  | .hkRefSettled _ _ =>
    [.time, .hk]
  | .hkDomainOff _ _ =>
    [.od, .time, .hk, .pwr]
  | .hkCalibrationComplete _ _ _ =>
    [.od, .time, .nv, .hk, .free]
  | .shutterTempConversion _ _ _ =>
    [.time, .ecl, .hk]
  | .thermalEvaluation _ _ =>
    [.emitted, .od, .time, .modes, .ops, .chain, .nv, .lanes, .aligned, .intake, .link, .pipe, .coef, .vdet, .ecl,
    .shut, .windows, .trig, .trigOut, .out0, .out1, .taps, .mem, .host, .dma, .rings, .serial, .hk, .therm, .pwr,
    .dbg, .free]
  | .throttleGraceExpiry _ | .throttleUndo _ =>
    [.emitted, .od, .time, .chain, .nv, .host, .therm, .free]
  | .thermQuenchClear _ _ _ =>
    [.emitted, .od, .time, .modes, .chain, .bar0, .nv, .host, .therm, .free]
  | .inputSwitchClose _ _ | .holdupReady _ =>
    [.time, .pwr]
  | .holdupMissing _ =>
    [.od, .time, .nv, .pwr, .free]
  | .powerCauseClear _ =>
    [.time, .modes, .pwr]
  | .domainRampStart _ _ =>
    [.od, .time, .pwr]
  | .domainRampTimeout _ _ | .monitorSnapshot _ _ _ _ _ =>
    [.emitted, .od, .doms, .time, .modes, .ops, .chain, .nv, .lanes, .aligned, .intake, .link, .pipe, .coef, .vdet,
    .ecl, .shut, .windows, .trig, .trigOut, .out0, .out1, .taps, .mem, .host, .dma, .rings, .serial, .hk, .pwr, .sec,
    .dbg, .free]
  | .secLifecycleSet _ _ _ =>
    [.emitted, .od, .time, .chain, .bar0, .nv, .host, .hk, .pwr, .sec, .dbg, .free]
  | .hpAuthReq _ _ _ | .hpAuthProve _ _ =>
    [.emitted, .od, .doms, .time, .chain, .bar0, .nv, .host, .sec, .free]
  | .dbgToken _ _ _ =>
    [.emitted, .od, .time, .chain, .bar0, .nv, .host, .dbg, .free]
  | .dbgSetGrade _ _ _ | .dbgLock _ _ _ =>
    [.emitted, .od, .time, .chain, .bar0, .nv, .host, .hk, .pwr, .dbg, .free]
  | .tapExtest _ _ _ | .tapSamplePreload _ _ _ | .tapIdcode _ | .tapDbgStatus _ | .tapBypass _ _ =>
    [.emitted, .time, .dbg]
  | .tapDbgToken _ _ | .tapReset _ | .stewardHalt _ _ =>
    [.time, .dbg]
  | .tapDbgAccess _ _ _ _ _ =>
    [.emitted, .od, .time, .hk, .pwr, .dbg, .free]
  | .laneBlockLock _ _ =>
    [.time, .lanes]
  | .d3hotExit _ | .msixVectorUnmask _ _ _ =>
    [.emitted, .time, .host]
  | .trigOutPulseStart _ _ =>
    [.od, .time, .trigOut]
  | .domainRampEnd _ _ =>
    [.emitted, .od, .time, .lanes, .aligned, .link, .fpa, .sp0, .vdet, .out0, .out1, .mem, .dma, .rings, .hk, .pwr]
  | .vdetRampEnd _ _ =>
    [.od, .time, .lanes, .aligned, .link, .vdet, .out0, .out1, .mem, .dma, .rings, .hk, .pwr]

end Sys2Proof.Machine
end

