-- ==== Sys2Proof/Certificates/Slice0/Obligations.lean ====
section
/-!
DEFINITION. The statements about the block, one `def Obligations.<Name> : Prop` each.
-/
open Sys2Proof Sys2Proof.Machine

/-- For every command c and state s, a step of s with c at the front of its queue is exec of c on s with the queue's
rest. -/
def Obligations.StepTakesTheFront : Prop :=
  ∀ (c : Instr) (rest : List Instr) (s : State),
    step { s with pending := c :: rest } = exec c { s with pending := rest } ∧
      step (s.front c) = exec c s

/-- On an empty queue a step answers a next state in which chain time and module time are 4 ns later. Outside boundary scan the
oldest waiting telegram leaves each chain port whose link is up, and from a port whose link is down the oldest NOTIFY or
MODE_REPORT leaves on the other port while that one's link is up; the chain ports are otherwise as before. While nothing waits
for SP1 and no firmware update runs, everything else is as before. That a step on an empty queue is one count of 4 ns is the
model's choice (log 18). -/
def Obligations.StepOfAnEmptyQueue : Prop :=
  ∀ s : State, s.pending = [] → Runs (step s) (fun u =>
    u.time = { s.time with now := s.time.now + 4, mono := s.time.mono + 4 } ∧
      u.chain = { s.chain with portA := u.chain.portA, portB := u.chain.portB } ∧
      (∀ b : Bool, u.port b = { s.port b with queue := (u.port b).queue } ∧
        (u.port b).queue =
          if s.extest = true then (s.port b).queue
          else if (s.port b).link = true then (s.port b).queue.drop 1
          else if (s.port (!b)).link = true then (s.port b).queue.eraseP spontaneous else (s.port b).queue) ∧
      (s.sp1Idle → s.opRunning 1 = false → s.keeps [.emitted, .time, .chain] u ∧
        (s.chain.portA.queue = [] → s.chain.portB.queue = [] → u.out = s.out)))

/-- In the state at power-on reset every scalar object reads its default of the object tables, every STR and DOM
object is empty, the module is off with no command waiting, no session and no transaction, and the state is sound. The
values where the spec gives none are the model's choices (logs 2, 4, 13 and 17). -/
def Obligations.PowerOnState : Prop :=
  (∀ k, State.reset.oi k = Obj.dflt k) ∧ (∀ k, State.reset.dom k = []) ∧ State.reset.boot.phase = .off ∧
    State.reset.pending = [] ∧ State.reset.chain.sessions = [] ∧ State.reset.host.session = none ∧
    State.reset.modes.running = none ∧ State.reset.modes.armed = none ∧ State.reset.serving = false ∧ State.reset.sound

/-- For every state whose stores and list shapes are sound, a step that answers a next state leaves the object
dictionary, the settings in force and the pending, active and governing set of every position in their canonical form,
so that equal dictionaries are equal data. -/
def Obligations.ObjectsStayCanonical : Prop :=
  ∀ s u : State, s.sound → step s = .next u → u.objectsOk

/-- For every sound state, a step that answers a next state leaves DRAM, the keep array and the four flash devices in
their canonical form: addresses strictly rising, no entry equal to what an unlisted address reads as. -/
def Obligations.MemoriesStayCanonical : Prop :=
  ∀ s u : State, s.sound → step s = .next u → u.memoriesOk

/-- A step that answers a next state keeps the number of MSL lanes, trigger channels, taps, DMA channels and rings the
spec gives. -/
def Obligations.ShapesStay : Prop :=
  ∀ s u : State, s.shapesOk → step s = .next u → u.shapesOk

/-- When exec answers a next state, the waiting commands are as before, and every part of the state outside partsOf of
the command is as it was: a command whose parts do not name frame memory leaves every byte of it, one that does not
name the object dictionary leaves every object, and so for storage, sessions, generations, pipelines, links, power and
security. partsOf lists the parts of every row of the table. -/
def Obligations.EveryCommandKeepsItsFrame : Prop :=
  ∀ (c : Instr) (s u : State), exec c s = .next u → s.keeps (partsOf c) u

/-- No command is refused by the model. BAR2_WRITE faults exactly when its bytes reach beyond the 8 GiB aperture; no other
command faults: in every state each of them answers a next state. -/
def Obligations.OnlyTheApertureFaults : Prop :=
  ∀ (c : Instr) (s : State),
    ((∃ a bs t, c = .bar2Write a bs t ∧ 2 ^ 33 < a + bs.length) → exec c s = .fault .barRange) ∧
    ((∀ a bs t, c = .bar2Write a bs t → a + bs.length ≤ 2 ^ 33) → ∃ u, exec c s = .next u)

/-- For every state, a step that answers a next state leaves every burned bit of the lifecycle fuses burned and the
lifecycle state no lower than before, whatever the command, resets included. -/
def Obligations.LifecycleNeverGoesBack : Prop :=
  ∀ s u : State, step s = .next u → s.fusesKeep u ∧ s.lifecycle ≤ u.lifecycle

/-- For every state, a step that answers a next state leaves the module's own time no earlier than before, whatever
happens to chain time; that module time is apart from chain time is the model's reading (log 4). -/
def Obligations.UptimeNeverRunsBack : Prop :=
  ∀ s u : State, step s = .next u → s.time.mono ≤ u.time.mono

/-- VIN_RISE of a module that is off puts it into reset at that instant, VIN at its threshold and the input switch
closed, cause power-on or, with the rails held, brown-out. RESET_N falling puts a started module into reset with cause
RESET_N, frame memory kept; RESET_N rising changes nothing else. With RESET_N high, no trip and 2.0 ms after VIN the release
starts the ROM, tR and the thermal model, and arms every generator's TIMER for an instant k × TG_PERIOD + TG_PHASE, with a
period the first after the present chain time, nothing else of a generator changing. The ROM accepts the slot whose turn it is
when it passes its checks, and after two failures holds in boot recovery. Firmware then starts: the keep array is read, and
where no start-up set is named the host port is enabled as HP_ENABLE says. The release of a hardware trip ends its hold of the
reset in every state, and changes nothing else. -/
def Obligations.PowerOnToFirmware : Prop :=
  ∀ (s : State) (t : Nat),
    (∀ held, s.boot.phase = .off → Runs (exec (.vinRise held t) s) (fun u =>
      u.boot.phase = .reset ∧ u.boot.cause = (if held then 4 else 0) ∧ u.boot.vinAt = (s.advance t).time.mono ∧
        u.boot.resetN = s.boot.resetN ∧ u.pwr.vin = 34000 ∧ u.pwr.swOpen = false ∧ u.mem.dram = [])) ∧
    Runs (exec (.resetNAssert t) s) (fun u =>
      u.boot.resetN = false ∧
        (s.boot.phase ≠ .off → s.boot.phase ≠ .reset → u.boot.phase = .reset ∧ u.boot.cause = 1 ∧ u.mem.dram = s.mem.dram)) ∧
    Runs (exec (.resetNRise t) s) (fun u =>
      u.boot = { s.boot with resetN := true } ∧ s.keeps [.time, .boot] u) ∧
    (s.boot.phase = .reset → s.boot.resetN = true → s.boot.trip = false →
      s.boot.vinAt + 2000000 ≤ (s.advance t).time.mono →
      Runs (exec (.internalResetRelease t) s) (fun u =>
        u.boot.phase = .rom ∧ u.boot.tR = (s.advance t).time.mono ∧ u.time.bootMono = (s.advance t).time.mono ∧
          u.boot.tried = 0 ∧ u.therm.active = true ∧ s.keeps (partsOf (.internalResetRelease t)) u ∧
          (∀ g : Fin 4, u.tg.get g = { s.tg.get g with nextTimer := (u.tg.get g).nextTimer } ∧
            (∃ k, (u.tg.get g).nextTimer = k * u.o (Obj.TG_PERIOD g.val) + u.o (Obj.TG_PHASE g.val)) ∧
            (0 < u.o (Obj.TG_PERIOD g.val) → u.time.now < (u.tg.get g).nextTimer ∧
              (u.tg.get g).nextTimer ≤ max (u.o (Obj.TG_PHASE g.val)) (u.time.now + u.o (Obj.TG_PERIOD g.val)))))) ∧
    (s.boot.phase = .rom → Runs (exec (.firmwareImageCheck t) s) (fun u =>
      (s.slotOkay s.slotToTry = true → u.boot.phase = .verified ∧ u.boot.slot = s.slotToTry ∧ s.keeps [.time, .boot] u) ∧
        (s.slotOkay s.slotToTry = false → u.boot.tried = s.boot.tried + 1 ∧
          u.boot.phase = (if s.boot.tried = 0 then .rom else .recovery) ∧ (s.boot.tried = 0 → s.keeps [.time, .boot] u)))) ∧
    Runs (exec (.hardwareTripRelease t) s) (fun u => u.boot = { s.boot with trip := false } ∧ s.keeps [.time, .boot] u) ∧
    (s.boot.phase = .verified → Runs (exec (.stewardFirmwareStart t) s) (fun u =>
      u.boot.phase = .firmware ∧ (7 < s.o Obj.STARTUP_SET → u.host.enabled = s.ob Obj.HP_ENABLE) ∧ u.nv.keepOk = true ∧
        s.keeps (partsOf (.stewardFirmwareStart t)) u))

/-- While firmware starts, the end of training leaves frame memory trained and in self-refresh exactly when one of the
two tries passed, with DRAM_OK of BOOT_STATUS saying so; the scan of the record store is then done, with RECORD_REPAIR
of BOOT_STATUS saying whether repairs are listed. Once the store is scanned, the start-up set's row ends start-up: the
module runs, in STANDBY under transaction 0, or in SAFE where a cause has led there before. -/
def Obligations.StartUpToStandby : Prop :=
  ∀ (s : State) (t : Nat), s.sound → s.boot.phase = .firmware →
    (∀ first second, Runs (exec (.dramTrainingComplete first second t) s) (fun u =>
      u.mem.trained = (first || second) ∧ u.mem.selfRefresh = (first || second) ∧
        bitAt (u.o Obj.BOOT_STATUS) 12 = (first || second) ∧ u.boot = s.boot ∧
        s.sameBut [Obj.BOOT_STATUS, Obj.MEM_CNT_TRAIN_FAIL] u)) ∧
    Runs (exec (.storeRecoveryScan t) s) (fun u =>
      u.boot.scanned = true ∧ bitAt (u.o Obj.BOOT_STATUS) 13 = !u.nv.repairs.isEmpty ∧
        s.keeps (partsOf (.storeRecoveryScan t)) u) ∧
    (s.boot.scanned = true → Runs (exec (.startupSetApply t) s) (fun u =>
      u.boot.phase = .running ∧ (s.mode ≠ Mode.safe → u.mode = Mode.standby ∧ u.modes.txn = 0) ∧
        (s.mode = Mode.safe → u.mode = Mode.safe ∧ u.modes.txn = s.modes.txn)))

/-- In a module past the release of internal reset, a watchdog reset (unless the steward is halted), an accepted
SOFT_RESET, a loss of SYSCLK and a hardware trip take effect at once: internal reset with causes 2, 5, 2 and 3, every
object that is not kept over a reset at its default, no mode transaction, operation or session left, the fuses as they
were; frame memory keeps its bytes but for the trip, which empties it and holds the reset. HOLDUP exhausted with VIN below
34 V and the switch open puts the module off, cause 4, frame memory empty. A trip that finds the module in reset makes it the
trip's: cause 3, frame memory empty. Which objects are kept is the model's reading (log 42). -/
def Obligations.ResetsOfARunningModule : Prop :=
  ∀ (s : State) (t : Nat), s.sound →
    (s.boot.phase = .reset → Runs (exec (.hardwareTrip t) s) (fun u =>
      s.resetBy 3 u ∧ u.boot.trip = true ∧ u.therm.tripped = true ∧ u.mem.dram = [])) ∧
    (s.boot.phase ≠ .off → s.boot.phase ≠ .reset →
    (s.dbg.halted = false → Runs (exec (.watchdogReset t) s) (fun u => s.resetBy 2 u ∧ u.mem.dram = s.mem.dram)) ∧
    (∀ via v, v < 256 → s.admits via 2 t → Runs (exec (.softReset via v t) s) (fun u =>
      s.resetBy 5 u ∧ u.mem.dram = s.mem.dram)) ∧
    Runs (exec (.sysclkLoss t) s) (fun u => s.resetBy 2 u ∧ u.boot.sysclk = false ∧ u.mem.dram = s.mem.dram) ∧
    Runs (exec (.hardwareTrip t) s) (fun u =>
      s.resetBy 3 u ∧ u.boot.trip = true ∧ u.therm.tripped = true ∧ u.mem.dram = []) ∧
    (s.pwr.swOpen = true → s.pwr.vin < 34000 → Runs (exec (.holdupExhausted t) s) (fun u =>
      u.boot.phase = .off ∧ u.boot.cause = 4 ∧ u.mem.dram = [] ∧ u.host.session = none ∧ s.fusesKeep u)))

/-- From level L1 a MODE_REQUEST that the module hears is answered on the port it came from with a MODE_REPORT that names
its transaction, and the mode does not change. A request for SAFE is armed for the requested time, or, with activation time
0 or past, for 1 ms after its arrival, in place of one armed before; a repeat of the armed request leaves it as it is;
MODE_REQ_GO does the same with the request in MODE_REQ and sets MODE_REQ_ANSWER to ARMED. With none armed, a unicast request
of activation time 0 for another target is armed for 1 ms after its arrival where nothing speaks against the transition,
and refused NOT_ALLOWED, arming nothing, where Table 02-5 does not have it and ORPHAN does not hold. -/
def Obligations.ModeRequestsAreAnswered : Prop :=
  ∀ (s : State), s.sound →
    (∀ r, s.hears r .anyDst 12 → 1 ≤ (s.heard r).reqLevel r → Runs (exec (.modeRequest r) s) (fun u =>
      ∃ x : TxnRec, (u.port r.portB).queue.getLast? =
          some (0x11, u.telegram 0x11 0x80 0 r.seq r.session (u.reportBytes x)) ∧
        x.num = beAt r.payload 0 2 ∧ u.mode = s.mode ∧
        (beAt r.payload 2 1 = 5 → x.outcome = 1 ∧ x.target = 5 ∧ ∃ a, u.modes.armed = some a ∧
          s.safeFor (beAt r.payload 0 2) (beAt r.payload 4 8) 1 (s.advance r.t).time.now a) ∧
        (beAt r.payload 0 2 ≠ 0 → beAt r.payload 2 1 ≠ 5 → s.modes.armed = none → beAt r.payload 4 8 = 0 → reqUni r = true →
          ((s.heard r).modeRefusal ⟨beAt r.payload 0 2, beAt r.payload 2 1, 0, 1, (s.heard r).reqLevel r, false⟩ = 0 →
            x.outcome = 1 ∧ x.target = beAt r.payload 2 1 ∧ ∃ a, u.modes.armed = some a ∧ a.txn = beAt r.payload 0 2 ∧
              a.target = beAt r.payload 2 1 ∧ a.act = (s.advance r.t).time.now + 1000000) ∧
          (modeAllowed s.mode (beAt r.payload 2 1) = false → s.modes.orphan = false →
            x.outcome = 2 ∧ x.reason = 1 ∧ u.modes.armed = none)))) ∧
    (∀ via v t, v < 256 → s.admits via 1 t → s.o Obj.MODE_REQ_TARGET = 5 → Runs (exec (.modeReqGo via v t) s) (fun u =>
      u.o Obj.MODE_REQ_ANSWER = 1 ∧ u.mode = s.mode ∧ ∃ a, u.modes.armed = some a ∧
        s.safeFor (s.o Obj.MODE_REQ_TXN) (s.o Obj.MODE_REQ_TIME) 2 (s.advance t).time.now a))

/-- With firmware up, at its activation time an armed transaction for SAFE leads into SAFE from any mode. Once start-up has ended
one for RUN leads a module in PREPARE with no operation and no entry running
straight into RUN, under that transaction, with nothing left to run; one for
STANDBY leads into STANDBY from the modes that image; one for PREPARE or SERVICE leads a module in STANDBY, frame memory
trained and its FPA settings usable, into that mode, and its transition runs. Before its time nothing happens. A running
transition into RUN completes when no shutter pulse runs. A transition past its bound, other than one into SAFE, ends in
SAFE, with reason 0x25 in SAFE_REASON, and the entry to SAFE runs. -/
def Obligations.TransitionsRunAndEnd : Prop :=
  ∀ (s : State) (t : Nat), s.sound → s.fwUp = true →
    (∀ a, s.modes.armed = some a → a.act ≤ (s.advance t).time.now →
      (s.boot.phase = .running → a.target = 2 → s.mode = 1 → (∀ k, k < 6 → s.opRunning k = false) → s.modes.running = none →
        Runs (exec (.transitionActivation t) s) (fun u =>
          u.mode = 2 ∧ u.modes.txn = a.txn ∧ u.modes.running = none ∧ u.modes.armed = none ∧ u.modes.prevMode = 1)) ∧
      (a.target = 5 → Runs (exec (.transitionActivation t) s) (fun u =>
        u.mode = 5 ∧ u.modes.txn = a.txn ∧ u.modes.armed = none)) ∧
      (s.boot.phase = .running → a.target = 0 → (s.mode = 1 ∨ s.mode = 2 ∨ s.mode = 3 ∨ s.mode = 4) → Runs (exec (.transitionActivation t) s) (fun u =>
        u.mode = 0 ∧ u.modes.txn = a.txn ∧ u.modes.armed = none ∧ u.modes.prevMode = s.mode)) ∧
      (s.boot.phase = .running → (a.target = 1 ∨ a.target = 4) → s.mode = 0 → s.fpaConfigBad = false → s.mem.trained = true →
        Runs (exec (.transitionActivation t) s) (fun u =>
          u.mode = a.target ∧ u.modes.txn = a.txn ∧ u.modes.armed = none ∧
            ∃ x, u.modes.running = some x ∧ x.target = a.target ∧ x.txn = a.txn))) ∧
    (∀ a, s.modes.armed = some a → (s.advance t).time.now < a.act →
      Runs (exec (.transitionActivation t) s) (fun u => s.keeps [.time] u)) ∧
    (∀ x refresh, s.modes.running = some x → x.target = 2 → s.shut.running = none → s.dbg.force = false →
      Runs (exec (.transitionComplete refresh t) s) (fun u => u.modes.running = none ∧ u.mode = s.mode)) ∧
    (∀ x, s.modes.running = some x → x.target ≠ 5 → x.deadline < (s.advance t).time.now →
      Runs (exec (.transitionTimeout t) s) (fun u =>
        u.mode = 5 ∧ (s.mode ≠ 5 → u.o Obj.SAFE_REASON = 0x0025) ∧ ∃ y, u.modes.running = some y ∧ y.target = 5))

/-- OP_ABORT of a running operation, from L1, ends it ABORTED with the state abort code, an aborted coefficient load
leaving its set INVALID; behind an aborted load the next one that waits is taken up. While an operation runs its record shows how far it has come, never beyond its total, and no
other object changes. -/
def Obligations.LongOperationsShowAndAbort : Prop :=
  ∀ (s : State) (k t : Nat), s.sound → k < 6 → s.opRunning k = true →
    (∀ via v, v < 256 → s.admits via 1 t → Runs (exec (.opAbort via k v t) s) (fun u =>
      u.mode = s.mode ∧
        (k ≠ 0 ∨ s.ops.loadQueue = [] → u.o (Obj.OP_STATE k) = 4 ∧ u.o (Obj.OP_RESULT k) = Abort.state) ∧
        (∀ p key, k = 0 → s.ops.load = some (p, key) →
          (s.ops.loadQueue = [] → u.ops.load = none ∧ u.coefState (posOf p) = 4) ∧
          (∀ n rest, s.ops.loadQueue = n :: rest → u.ops.loadQueue = rest ∧
            u.ops.load = some ((posOf n).val, s.o (Obj.CORR_LOAD_KEY n)) ∧ (posOf n ≠ posOf p → u.coefState (posOf p) = 4))))) ∧
    (∀ position, Runs (exec (.opProgressUpdate k position t) s) (fun u =>
      u.o (Obj.OP_POSITION k) = min position (s.o (Obj.OP_TOTAL k)) ∧
        s.sameBut [Obj.OP_POSITION k, Obj.OP_PERCENT k] u ∧ s.keeps [.od, .time] u))

/-- A powered lane in use gets block lock. A lane that loses it has neither lock nor marker, and its group is no
longer aligned; the loss of an alignment that stood counts once in MSL_GROUP_REALIGN of that group and in no other
object. On a lane with lock a marker of the wrong stripe, or with other data, takes the alignment of the group away; a correct
one in a group that is not aligned is remembered at its place, and a correct one where the group's marker is expected changes
nothing but what the descrambler holds; a block of an invalid type in a group that is not aligned counts once in MSL_LANE_ERR
of the lane. Blocks that complete no packet change lanes, alignment, the packets in progress and those two counters only. -/
def Obligations.LanesAndGroupAlignment : Prop :=
  ∀ (s : State) (lane t : Nat), s.sound → lane < 8 →
    (s.laneUsed lane = true → s.domOn lane = true → Runs (exec (.laneBlockLock lane t) s) (fun u =>
      (u.lane lane).block = true ∧ (u.lane lane).cdr = true ∧ (u.lane lane).marker = (s.lane lane).marker ∧
        (∀ j, j ≠ lane → u.lane j = s.lane j) ∧ s.keeps [.time, .lanes] u)) ∧
    Runs (exec (.laneBlockLockLoss lane t) s) (fun u =>
      (u.lane lane).block = false ∧ (u.lane lane).marker = none ∧ s.keeps [.od, .time, .lanes, .aligned, .link] u ∧
        (∀ g, s.groupOfLane lane = some g → u.groupAligned g = false ∧ s.sameBut [Obj.MSL_GROUP_REALIGN g] u ∧
          (s.groupAligned g = true →
            u.oi (Obj.MSL_GROUP_REALIGN g) = clampI 0 0xFFFFFFFF (s.oi (Obj.MSL_GROUP_REALIGN g) + 1)))) ∧
    (∀ g raw place, s.groupOfLane lane = some g → (s.lane lane).block = true → place < 16384 →
      (∀ stripe good, s.blockAt lane raw = .marker stripe good →
        ((good = false ∨ stripe ≠ s.stripeOf g lane) → Runs (exec (.alignmentMarker lane raw place t) s) (fun u =>
          u.groupAligned g = false ∧ (u.lane lane).marker = none)) ∧
        (good = true → stripe = s.stripeOf g lane → s.groupAligned g = false →
          Runs (exec (.alignmentMarker lane raw place t) s) (fun u =>
            (u.lane lane).marker = some place ∧ s.keeps [.time, .lanes, .aligned] u)) ∧
        (good = true → stripe = s.stripeOf g lane → s.groupAligned g = true → (s.lane lane).marker = some place →
          Runs (exec (.alignmentMarker lane raw place t) s) (fun u =>
            u.lane lane = { s.lane lane with scr := (u.lane lane).scr } ∧ (∀ j, j ≠ lane → u.lane j = s.lane j) ∧
              s.keeps [.time, .lanes] u))) ∧
      (s.blockAt lane raw = .invalid → s.groupAligned g = false → Runs (exec (.alignmentMarker lane raw place t) s) (fun u =>
        u.oi (Obj.MSL_LANE_ERR lane) = clampI 0 0xFFFFFFFF (s.oi (Obj.MSL_LANE_ERR lane) + 1) ∧
          s.sameBut [Obj.MSL_LANE_ERR lane] u ∧ s.keeps [.od, .time, .lanes] u))) ∧
    (∀ grp b, grp < 4 → ((s.advance t).receiveBlocks grp b).2 = [] →
      ∀ c ∈ [Instr.mslFrameStart grp b t, .mslRowPacket grp b t, .mslFrameEnd grp b t], Runs (exec c s) (fun u =>
      u = ((s.advance t).receiveBlocks grp b).1 ∧ s.keeps [.od, .time, .lanes, .aligned, .link] u ∧
        s.sameBut ((List.range 8).map Obj.MSL_LANE_ERR ++ [Obj.MSL_GROUP_REALIGN grp]) u))

/-- Blocks that complete a packet with a good HCRC whose SRC is bound to no enabled position of its group: the packet counts
once, saturating, in MSL_UNBOUND of that group; no other object and nothing else of the state the blocks leave changes,
whatever the packet's type and its other fields, and whether or not it ended as it should. -/
def Obligations.UnboundPacketsAreDiscarded : Prop :=
  ∀ (s r : State) (grp t : Nat) (b : LaneBlocks) (pkt : List Byte) (malformed : Bool), s.sound →
    s.delivers grp b t [(pkt, malformed)] r → hcrcOk pkt = true → r.boundTo grp (fieldOf (beAt pkt 1 1) 7 4) = none →
    ∀ c ∈ [Instr.mslFrameStart grp b t, .mslRowPacket grp b t, .mslFrameEnd grp b t], Runs (exec c s) (fun u =>
      u.oi (Obj.MSL_UNBOUND grp) = clampI 0 0xFFFFFFFF (r.oi (Obj.MSL_UNBOUND grp) + 1) ∧
        r.sameBut [Obj.MSL_UNBOUND grp] u ∧ r.keeps [.od] u)

/-- Blocks that complete a good packet of a bound position: while no frame is open there, or when it is a ROW or FRAME_END
whose FSEQ is not the open frame's, or a FRAME_START of an unsolicited frame already known, the packet counts once in
INT_CNT_STRAY of the position, and no other object and nothing else of the state the blocks leave changes. A FRAME_START of
another FSEQ closes the open frame with NEXT_START, counts in INT_CNT_UNSOLICITED, and its FSEQ is then known. -/
def Obligations.StrayPacketsAreDiscarded : Prop :=
  ∀ (s r : State) (grp t : Nat) (b : LaneBlocks) (pkt : List Byte) (p : Pos), s.sound →
    s.delivers grp b t [(pkt, false)] r → hcrcOk pkt = true → pktGood pkt = true →
    r.boundTo grp (fieldOf (beAt pkt 1 1) 7 4) = some p →
    ∀ c ∈ [Instr.mslFrameStart grp b t, .mslRowPacket grp b t, .mslFrameEnd grp b t],
    (((r.intake.get p).frm = none ∨ (∃ f, (r.intake.get p).frm = some f ∧ beAt pkt 2 2 ≠ f.tag ∧
        (beAt pkt 0 1 ≠ 1 ∨ beAt pkt 2 2 ∈ (r.intake.get p).unsol))) →
      Runs (exec c s) (fun u =>
        u.oi (Obj.INT_CNT_STRAY p.val) = clampI 0 0xFFFFFFFF (r.oi (Obj.INT_CNT_STRAY p.val) + 1) ∧
          r.sameBut [Obj.INT_CNT_STRAY p.val] u ∧ r.keeps [.od] u)) ∧
    (beAt pkt 0 1 = 1 → ∀ f, (r.intake.get p).frm = some f → beAt pkt 2 2 ≠ f.tag → beAt pkt 2 2 ∉ (r.intake.get p).unsol →
      Runs (exec c s) (fun u =>
        (u.intake.get p).frm = none ∧ u.o (Obj.INT_LAST_CLOSE p.val) = 2 ∧ beAt pkt 2 2 ∈ (u.intake.get p).unsol ∧
          u.oi (Obj.INT_CNT_UNSOLICITED p.val) = clampI 0 0xFFFFFFFF (r.oi (Obj.INT_CNT_UNSOLICITED p.val) + 1)))

/-- Blocks that complete a good packet with the FSEQ of the open frame of its bound position: a FRAME_START is remembered, and
a geometry other than the configured one sets GEOM_MISMATCH of the position and counts once; a ROW of an enabled slot, within
the height, in order and admitted, joins the buffer as that row of that slot, flagged invalid with a fault; one that cannot be
admitted counts in INT_CNT_OVERFLOW and leaves the buffer; a FRAME_END closes the frame with cause END. No other position's
intake changes. -/
def Obligations.PacketsOfTheOpenFrame : Prop :=
  ∀ (s r : State) (grp t : Nat) (b : LaneBlocks) (pkt : List Byte) (p : Pos) (f : OpenFrame), s.sound →
    s.delivers grp b t [(pkt, false)] r → hcrcOk pkt = true → pktGood pkt = true →
    r.boundTo grp (fieldOf (beAt pkt 1 1) 7 4) = some p → (r.intake.get p).frm = some f → beAt pkt 2 2 = f.tag →
    ∀ c ∈ [Instr.mslFrameStart grp b t, .mslRowPacket grp b t, .mslFrameEnd grp b t],
    (beAt pkt 0 1 = 1 → Runs (exec c s) (fun u =>
      ∃ bad : Bool, (bad = true ↔ beAt pkt 16 2 ≠ f.width ∨ beAt pkt 18 2 ≠ f.height ∨ beAt pkt 20 2 % 16 ≠ f.mask) ∧
        (∃ g, (u.intake.get p).frm = some g ∧ g.gotStart = true ∧ g.num = f.num ∧ g.geomBad = (f.geomBad || bad)) ∧
        (bad = true → (u.intake.get p).lastGeom = true ∧
          u.oi (Obj.INT_CNT_GEOM p.val) = clampI 0 0xFFFFFFFF (r.oi (Obj.INT_CNT_GEOM p.val) + 1)) ∧
        (bad = false → u.oi (Obj.INT_CNT_GEOM p.val) = r.oi (Obj.INT_CNT_GEOM p.val)) ∧
        r.sameBut [Obj.INT_CNT_GEOM p.val] u ∧ (∀ q, q ≠ p → u.intake.get q = r.intake.get q) ∧
        r.keeps [.od, .intake] u)) ∧
    (beAt pkt 0 1 = 2 → ∀ k : Pos, k = posOf (fieldOf (beAt pkt 1 1) 3 2) → bitAt f.mask k.val = true →
      beAt pkt 4 2 < f.height → f.outOfOrder k (beAt pkt 4 2) = false →
      ((∃ sh, r.bufferRoom p (2 * (pktWords pkt).length + 16) = some sh) →
        Runs (exec c s) (fun u =>
          (∃ x, (u.intake.get p).fifo.getLast? = some x ∧ x.num = f.num ∧ x.slot = k.val ∧ x.row = beAt pkt 4 2 ∧
            x.synth = false ∧ x.invalid = bitAt (beAt pkt 12 2) 1) ∧
            (∀ q, q ≠ p → u.intake.get q = r.intake.get q))) ∧
      (r.bufferRoom p (2 * (pktWords pkt).length + 16) = none →
        Runs (exec c s) (fun u =>
          (u.intake.get p).fifo = (r.intake.get p).fifo ∧
            (∃ g, (u.intake.get p).frm = some g ∧ g.ovf = true) ∧ (∀ q, q ≠ p → u.intake.get q = r.intake.get q) ∧
            u.oi (Obj.INT_CNT_OVERFLOW p.val) = clampI 0 0xFFFFFFFF (r.oi (Obj.INT_CNT_OVERFLOW p.val) + 1)))) ∧
    (beAt pkt 0 1 = 3 → Runs (exec c s) (fun u =>
      (u.intake.get p).frm = none ∧ u.o (Obj.INT_LAST_CLOSE p.val) = 1 ∧
        (∃ g, (u.intake.get p).ended = (r.intake.get p).ended ++ [g] ∧ g.num = f.num ∧ g.close = 1 ∧
          g.closedAt = (s.advance t).time.now) ∧ (∀ q, q ≠ p → u.intake.get q = r.intake.get q)))

/-- An open frame without an accepted packet for the time-out in force closes with cause TIMEOUT; before that time
nothing happens. A frame that is still open 20 ms after the activation of a running transition to STANDBY closes with
cause TIMEOUT. The closed frame is the last of those that wait for their drain. -/
def Obligations.FramesCloseOnTheirOwn : Prop :=
  ∀ (s : State) (t : Nat) (p : Pos) (f : OpenFrame), s.sound → (s.intake.get p).frm = some f →
    (f.lastAt + f.timeout ≤ (s.advance t).time.now → Runs (exec (.intIdleTimeout p t) s) (fun u =>
      (u.intake.get p).frm = none ∧ u.o (Obj.INT_LAST_CLOSE p.val) = 3 ∧
        ∃ g, (u.intake.get p).ended = (s.intake.get p).ended ++ [g] ∧ g.num = f.num ∧ g.close = 3)) ∧
    ((s.advance t).time.now < f.lastAt + f.timeout → Runs (exec (.intIdleTimeout p t) s) (fun u => s.keeps [.time] u)) ∧
    (∀ r, s.modes.running = some r → r.target = 0 → r.act + 20000000 ≤ (s.advance t).time.now →
      Runs (exec (.intakeForcedClose p t) s) (fun u =>
        (u.intake.get p).frm = none ∧ u.o (Obj.INT_LAST_CLOSE p.val) = 3 ∧
          ∃ g, (u.intake.get p).ended = (s.intake.get p).ended ++ [g] ∧ g.num = f.num ∧ g.close = 3))

/-- While S0 reads the heritage port, on the edges that HP_PCLK_EDGE chooses and with the levels HP_SYNC_POL gives: after eight
edges without FVAL its rise delivers the frame that is open, or, with none open, the period is ignored and counts in
INT_CNT_UNSOLICITED. In the period of the open frame each run of edges with LVAL active, when LVAL ends, is the frame's next
row of slot 0; up to seven edges without FVAL close nothing, eight close the frame with END. On the other edges nothing
happens. The measured pixel clock is shown in HP_PCLK_FREQ and nothing else changes. That the frame closes on the eighth edge
is the model's choice (log 73). -/
def Obligations.HeritagePort : Prop :=
  ∀ (s : State) (t : Nat), s.sound →
    (s.hpActive = true → s.link.hp.fval = false → s.link.hp.gap = 8 → s.link.hp.cols = [] → ∀ d : Nat,
      Runs (exec (.hpFvalRise [s.hpEdge true false d] t) s) (fun u =>
        u.link.hp.fval = true ∧ u.intake = s.intake ∧ s.keeps [.od, .time, .link] u ∧
          (∀ f, (s.intake.get 0).frm = some f → u.link.hp.num = some f.num ∧ u.od = s.od) ∧
          ((s.intake.get 0).frm = none → u.link.hp.num = none ∧
            u.oi (Obj.INT_CNT_UNSOLICITED 0) = clampI 0 0xFFFFFFFF (s.oi (Obj.INT_CNT_UNSOLICITED 0) + 1) ∧
            s.sameBut [Obj.INT_CNT_UNSOLICITED 0] u))) ∧
    (∀ f, s.hpActive = true → s.link.hp.fval = true → s.link.hp.gap = 0 → s.link.hp.cols = [] → s.link.hp.num = some f.num →
      (s.intake.get 0).frm = some f → ∀ d : Nat,
      Runs (exec (.hpFvalFall (List.replicate 8 (s.hpEdge false false d)) t) s) (fun u =>
        (u.intake.get 0).frm = none ∧ u.o (Obj.INT_LAST_CLOSE 0) = 1 ∧
          ∃ g, (u.intake.get 0).ended = (s.intake.get 0).ended ++ [g] ∧ g.num = f.num ∧ g.close = 1) ∧
      (∀ n, n < 8 → Runs (exec (.hpFvalFall (List.replicate n (s.hpEdge false false d)) t) s) (fun u =>
        s.keeps [.time, .link] u)) ∧
      (∀ data, data ≠ [] → Runs (exec (.hpRow (data.map (s.hpEdge true true) ++ [s.hpEdge true false d]) t) s) (fun u =>
        (∃ g, (u.intake.get 0).frm = some g ∧ g.num = f.num ∧ g.hpRow = f.hpRow + 1) ∧ u.link.hp.cols = [] ∧
          (bitAt f.mask 0 = true → f.hpRow < f.height → f.outOfOrder 0 f.hpRow = false →
            (s.bufferRoom 0 (2 * data.length + 16)).isSome = true →
            ∃ x, (u.intake.get 0).fifo.getLast? = some x ∧ x.num = f.num ∧ x.slot = 0 ∧ x.row = f.hpRow ∧
              x.synth = false)))) ∧
    (∀ edges : List HpEdge, s.hpActive = true → (∀ e ∈ edges, e.rising = (s.inForce Obj.HP_PCLK_EDGE == 1)) →
      Runs (exec (.hpRow edges t) s) (fun u => s.keeps [.time] u)) ∧
    (∀ hz, Runs (exec (.hpPclkMeasure hz t) s) (fun u =>
      u.o Obj.HP_PCLK_FREQ = min hz 0xFFFFFFFF ∧ s.sameBut [Obj.HP_PCLK_FREQ] u ∧ s.keeps [.od, .time] u))

/-- With the pipeline of a position empty, a hand-over brings its next frame into it, with its number and start,
unless it takes the module to SAFE; with a frame in the pipeline, or none to come, it changes nothing. Once the frame's content has
left, the drain empties the pipeline and puts the frame, with its filtered rows, behind those that wait for their
ingots. The ingots of the frame drained first complete first. The pipelines of the other positions stay. -/
def Obligations.FramesThroughThePipeline : Prop :=
  ∀ (s : State) (p : Pos) (t : Nat), s.sound →
    (∀ f, s.nextFrame p = some f → Runs (exec (.handOverInstant p t) s) (fun u =>
      u.mode = 5 ∨ ∃ x, (u.pipe.get p).frm = some x ∧ x.num = f.num ∧ x.start = f.start ∧
        ∀ q, q ≠ p → u.pipe.get q = s.pipe.get q)) ∧
    (s.nextFrame p = none → Runs (exec (.handOverInstant p t) s) (fun u => s.keeps [.time] u)) ∧
    (∀ x, s.drained p = true → (s.pipe.get p).frm = some x → Runs (exec (.drainComplete p t) s) (fun u =>
      (u.pipe.get p).frm = none ∧ (u.pipe.get p).rows = [] ∧ (u.intake.get p).ended = (s.intake.get p).ended.drop 1 ∧
        (∃ d, (u.pipe.get p).done = (s.pipe.get p).done ++ [d] ∧ d.ctx.num = x.num ∧ d.rows = (s.pipe.get p).rows) ∧
        ∀ q, q ≠ p → u.pipe.get q = s.pipe.get q)) ∧
    (∀ d rest, (s.pipe.get p).done = d :: rest → Runs (exec (.ingotComplete p t) s) (fun u =>
      u.pipe.get p = { s.pipe.get p with done := rest } ∧ u.intake = s.intake ∧ ∀ q, q ≠ p → u.pipe.get q = s.pipe.get q))

/-- GEN_ACTIVE of every position reads 0 at power-on. A hand-over into a next frame while the position's set is
committed adds one to it, modulo 2^32, and leaves no set committed; a hand-over while none is committed leaves it. The
generations of the other positions stay. -/
def Obligations.SettingsGenerationCounts : Prop :=
  (∀ p : Pos, State.reset.oi (Obj.GEN_ACTIVE p.val) = 0) ∧
    ∀ (s : State) (p : Pos) (t : Nat) (f : OpenFrame), s.sound → s.nextFrame p = some f →
      Runs (exec (.handOverInstant p t) s) (fun u =>
        ((s.gen.get p).committed = true →
          u.oi (Obj.GEN_ACTIVE p.val) = (s.oi (Obj.GEN_ACTIVE p.val) + 1) % 2 ^ 32 ∧ (u.gen.get p).committed = false) ∧
        ((s.gen.get p).committed = false → u.oi (Obj.GEN_ACTIVE p.val) = s.oi (Obj.GEN_ACTIVE p.val)) ∧
        ∀ q : Pos, q ≠ p → u.oi (Obj.GEN_ACTIVE q.val) = s.oi (Obj.GEN_ACTIVE q.val))

/-- For the frame in the pipeline: the first packet of it without entries gets those of its own columns and slot out of the
blocks fetched for its row; a packet with entries leaves the intake buffer when it is the position's turn, and stays when it is
not; the next row of an enabled slot leaves replacement for the tail stage
once the row two below it is corrected; the next row is merged once every enabled slot of it waits; the next merged
row is filtered once the row below it is merged or it is the last. No stage touches another position's pipeline. -/
def Obligations.PixelsThroughTheStages : Prop :=
  ∀ (s : State) (p : Pos) (t : Nat) (x : FrameCtx), s.sound → (s.pipe.get p).frm = some x →
    (∀ j r, (s.intake.get p).fifo.findIdx? (fun r => r.entries.isNone && r.num == x.num) = some j →
      (s.intake.get p).fifo[j]? = some r → Runs (exec (.prefetchComplete p t) s) (fun u =>
        (∃ es, es = blockEntries (s.fetchBlocks p r.row r.col0 r.data.length) r.col0 r.data.length r.slot ∧
          (u.intake.get p).fifo = (s.intake.get p).fifo.set j { r with entries := some es }) ∧
          (∀ q, q ≠ p → u.intake.get q = s.intake.get q ∧ u.pipe.get q = s.pipe.get q) ∧
          (u.pipe.get p).frm = some x ∧ s.keeps [.time, .intake, .pipe] u)) ∧
    (∀ r rest es, (s.intake.get p).fifo = r :: rest → r.entries = some es →
      (s.bufferTurn = some p → Runs (exec (.readoutEntersSlice p t) s) (fun u =>
        (u.intake.get p).fifo = rest ∧ u.link.turn = p ∧ (u.pipe.get p).frm = some x ∧
          ∀ q, q ≠ p → u.intake.get q = s.intake.get q ∧ u.pipe.get q = s.pipe.get q)) ∧
      (s.bufferTurn ≠ some p → Runs (exec (.readoutEntersSlice p t) s) (fun u => s.keeps [.time] u))) ∧
    (∀ (k : Pos) c, bitAt x.mask k.val = true →
      (s.pipe.get p).corr.find? (fun c => c.slot == k.val && c.row == (s.pipe.get p).outOf.get k && c.px.length == x.width) =
        some c →
      ((s.pipe.get p).corr.find? (fun c => c.slot == k.val && c.row == (s.pipe.get p).outOf.get k + 2 &&
        c.px.length == x.width)).isSome = true →
      Runs (exec (.defectReplacementRow p k t) s) (fun u =>
        (u.pipe.get p).outOf = (s.pipe.get p).outOf.set k ((s.pipe.get p).outOf.get k + 1) ∧
          (∃ z, (u.pipe.get p).tailRows = (s.pipe.get p).tailRows ++ [z] ∧ z.slot = k.val ∧
            z.row = (s.pipe.get p).outOf.get k) ∧ (∀ q, q ≠ p → u.pipe.get q = s.pipe.get q))) ∧
    ((∀ k ∈ maskBits x.mask, ((s.pipe.get p).tailRows.find? (fun z => z.slot == k && z.row == (s.pipe.get p).merged.length)).isSome
        = true) → (s.pipe.get p).merged.length < x.height → Runs (exec (.pixelMerge p t) s) (fun u =>
      (∃ m, (u.pipe.get p).merged = (s.pipe.get p).merged ++ [m] ∧ m.row = (s.pipe.get p).merged.length ∧ m.px.length = x.width) ∧
        (∀ q, q ≠ p → u.pipe.get q = s.pipe.get q))) ∧
    (∀ m, (s.pipe.get p).merged.find? (fun m => m.row == (s.pipe.get p).rows.length) = some m →
      (x.height ≤ (s.pipe.get p).rows.length + 1 ∨
        ((s.pipe.get p).merged.find? (fun m => m.row == (s.pipe.get p).rows.length + 1)).isSome = true) →
      Runs (exec (.outputFilterRow p t) s) (fun u =>
        (∃ o, (u.pipe.get p).rows = (s.pipe.get p).rows ++ [o] ∧ o.row = (s.pipe.get p).rows.length) ∧
          (∀ q, q ≠ p → u.pipe.get q = s.pipe.get q)))

/-- From level L2 in PREPARE, RUN or SERVICE, a set that is CLOSED or INVALID, at a position that neither loads, saves
nor eclipses, nor has an eclipse request of the same cycle waiting, opens: at once where the position is idle, else OPENING; an
OPEN set that nothing writes goes to CHECKING. A check ends CLOSED when no more entries than CORR_CHK_LIMIT fail, else INVALID.
CORR_LOAD_GO with a key in PREPARE or SERVICE starts COEF_LOAD; the load of an open set that DMA does not write, with no other
load waiting, ends DONE and CLOSED or FAILED and INVALID.
TAIL_HIST_RESET from L1 marks the position for its next hand-over. -/
def Obligations.CoefficientSets : Prop :=
  ∀ (s : State) (p : Pos) (t : Nat), s.sound →
    (∀ via, s.admits via 2 t → (s.mode = 1 ∨ s.mode = 2 ∨ s.mode = 4) → s.o (Obj.ECL_PHASE p.val) = 0 → s.loading p = false →
      s.saving p = false → (s.advance t).eclAsked p = false → (s.coefState p = 0 ∨ s.coefState p = 4) →
      Runs (exec (.corrCoefOpen via p t) s) (fun u =>
        u.coefState p = (if s.posIdle p then 2 else 1) ∧ u.mode = s.mode)) ∧
    (∀ via, s.admits via 2 t → s.coefState p = 2 → s.loading p = false → s.dmaIntoRegion p = false →
      Runs (exec (.corrCoefClose via p t) s) (fun u => u.coefState p = 3 ∧ u.mem = s.mem)) ∧
    (s.coefState p = 3 → Runs (exec (.coefCheckComplete p t) s) (fun u =>
      u.coefState p = if (s.advance t).badEntries p ≤ s.o (Obj.CORR_CHK_LIMIT p.val) then 0 else 4)) ∧
    (∀ via v, v < 256 → s.admits via 2 t → (s.mode = 1 ∨ s.mode = 4) → s.opRunning 0 = false → s.coefBusy p = false →
      s.o (Obj.CORR_LOAD_KEY p.val) ≠ 0 → Runs (exec (.corrLoadGo via p v t) s) (fun u =>
        u.opRunning 0 = true ∧ u.ops.load = some (p.val, s.o (Obj.CORR_LOAD_KEY p.val)) ∧
          u.coefState p = (if s.posIdle p then 2 else 1))) ∧
    (∀ key, s.ops.load = some (p.val, key) → s.ops.loadQueue = [] → s.opRunning 0 = true → s.coefState p = 2 →
      s.dmaIntoRegion p = false → Runs (exec (.coefLoadEnd t) s) (fun u =>
        u.ops.load = none ∧ ((u.coefState p = 0 ∧ u.o (Obj.OP_STATE 0) = 2) ∨ (u.coefState p = 4 ∧ u.o (Obj.OP_STATE 0) = 3)))) ∧
    (∀ via v, v < 256 → s.admits via 1 t → Runs (exec (.tailHistReset via p v t) s) (fun u =>
      (u.coef.get p).histReset = true ∧ (∀ q, q ≠ p → u.coef.get q = s.coef.get q) ∧ u.mem = s.mem))

/-- From L1 outside STANDBY and SAFE, an enabled, idle position with a CLOSED set and no shutter fault is QUEUED by
ECL_REQUEST, full or partial as asked. ECL_ABORT in RUN or SERVICE ends phases 1 to 4 with result ABORTED, counted;
once the closing pulse has begun the engine asks for the opening pulse. ECL_FAULT_CLEAR (L2) clears the fault and, in
an imaging mode with the shutter not known to be open, asks for an opening pulse; ECL_SHUT_CMD (L2, SERVICE) asks for
its pulse. Where a grant may be made, outside ECLIPSE mode, the position next in turn is granted, with its window and
its values. -/
def Obligations.EclipseCommands : Prop :=
  ∀ (s : State) (p : Pos) (t : Nat), s.sound →
    (∀ via k c, (k, c) ∈ [(1, Instr.eclRequestFull via p t), (2, Instr.eclRequestPartial via p t)] → s.admits via 1 t →
      s.mode ≠ 0 → s.mode ≠ 5 → s.enabled p = true → (s.ecl.get p).shutFault = false → s.phase p = 0 → s.coefState p = 0 →
      s.saving p = false → Runs (exec c s) (fun u =>
        u.phase p = 1 ∧ (u.ecl.get p).requested = true ∧ (u.ecl.get p).due = true ∧ (u.ecl.get p).kind = k ∧ u.mode = s.mode ∧
          (∀ q, q ≠ p → u.ecl.get q = s.ecl.get q))) ∧
    (∀ via v, v < 256 → s.admits via 1 t → (s.mode = 2 ∨ s.mode = 4) → 1 ≤ s.phase p → s.phase p ≤ 4 →
      Runs (exec (.eclAbort via p v t) s) (fun u =>
        u.o (Obj.ECL_LAST_RESULT p.val) = 6 ∧
          u.oi (Obj.ECL_CNT_ABORT p.val) = clampI 0 0xFFFFFFFF (s.oi (Obj.ECL_CNT_ABORT p.val) + 1) ∧
          (2 ≤ s.phase p → (s.ecl.get p).closeStart.isSome = true →
            u.phase p = 5 ∧ u.shut.queue = s.shut.queue ++ [⟨p, false, 5⟩]) ∧
          (s.phase p = 1 → u.phase p = (if (s.ecl.get p).wanted then 1 else 0) ∧ (u.ecl.get p).granted = false))) ∧
    (∀ via v, v < 256 → s.admits via 2 t → Runs (exec (.eclFaultClear via p v t) s) (fun u =>
      (u.ecl.get p).shutFault = false ∧ (u.ecl.get p).overdue = false ∧
        (s.imaging = true → (s.shut.openPin.get p) = none → u.shut.queue = s.shut.queue ++ [⟨p, false, 3⟩]))) ∧
    (∀ via closing c, (closing, c) ∈ [(true, Instr.eclShutCmdClose via p t), (false, Instr.eclShutCmdOpen via p t)] →
      s.admits via 2 t → s.mode = 4 → s.phase p = 0 → Runs (exec c s) (fun u =>
        u.shut = { s.shut with queue := s.shut.queue ++ [⟨p, closing, 2⟩] } ∧ u.ecl = s.ecl)) ∧
    (∀ w, s.serving = true → s.imaging = true → s.mode ≠ 3 → (s.advance t).mayGrant = true →
      (s.advance t).nextGrant = some (p, w) → Runs (exec (.eclipseGrant t) s) (fun u =>
        (u.ecl.get p).granted = true ∧ (u.ecl.get p).windowEnd = w ∧ u.phase p = 1 ∧
          (u.ecl.get p).params = some (s.eclParams p (if (s.ecl.get p).kind = 0 ∨ (s.ecl.get p).mandatory = true then 1
            else (s.ecl.get p).kind)) ∧ (∀ q, q ≠ p → u.ecl.get q = s.ecl.get q)))

/-- An asserted end sensor is remembered with its instant. In RUN or SERVICE: with none running, 10 ms after the last
and with the supply on, the pulse that has waited longest starts, one bridge output high by its direction and the swap
bit; a closing pulse whose cycle counter cannot be written does not, and its eclipse ends with result 9. A pulse whose
sensor asserted ECL_PULSE_HOLD ago ends, as does one at ECL_PULSE_MAX without end sensing; with end sensing and no
sensor at ECL_PULSE_MAX it ends in SHUT_FAULT. Both sensors together, with end sensing, set SHUT_FAULT and end a
running pulse. A pulse that ends leaves both outputs of its position low. -/
def Obligations.ShutterPulses : Prop :=
  ∀ (s : State) (p : Pos) (t : Nat), s.sound →
    (∀ closed, Runs (exec (.endSensorAsserted p closed t) s) (fun u =>
      (if closed then u.shut.closedPin else u.shut.openPin).get p = some (s.advance t).time.now ∧
        u.shut.queue = s.shut.queue ∧ u.shut.running = s.shut.running ∧ s.keeps [.time, .ecl, .shut] u)) ∧
    ((s.mode = 2 ∨ s.mode = 4) →
      (∀ x rest, s.shut.queue = x :: rest → s.shut.running = none →
        (∀ e, s.shut.lastEnd = some e → e + 10000000 ≤ (s.advance t).time.now) → s.dom80 78 ≠ 3 → s.domOn 78 = true →
        ∀ written,
          ((x.closing = true → s.nv.closed = false ∧ written = true) → Runs (exec (.shutterPulseStart written t) s) (fun u =>
            u.shut.running = some (x, (s.advance t).time.now) ∧ u.shut.queue = rest ∧
              u.shut.outA.get x.pos = (x.closing != bitAt (s.pulseCfg x) 0) ∧
              u.shut.outB.get x.pos = !(x.closing != bitAt (s.pulseCfg x) 0))) ∧
          (x.closing = true → s.nv.closed = true ∨ written = false → Runs (exec (.shutterPulseStart written t) s) (fun u =>
            u.shut.running = none ∧ u.shut.outA = s.shut.outA ∧ u.shut.outB = s.shut.outB ∧
              (x.purpose = 0 → u.o (Obj.ECL_LAST_RESULT x.pos.val) = 9)))) ∧
      (∀ x since, s.shut.running = some (x, since) → x.pos = p →
        (∀ a, s.endPin x = some a → s.sensing x = true → a + s.pulseHoldNs x ≤ (s.advance t).time.now →
          Runs (exec (.pulseHoldExpiry p t) s) (fun u => u.shut.running = none ∧ u.shut.outA.get p = false ∧
            u.shut.outB.get p = false ∧ u.shut.lastEnd = some (s.advance t).time.now)) ∧
        (since + s.pulseMaxNs x ≤ (s.advance t).time.now →
          (s.sensing x = false → Runs (exec (.pulseMaxExpiry p t) s) (fun u => u.shut.running = none ∧
            u.shut.outA.get p = false ∧ u.shut.outB.get p = false ∧ (u.ecl.get p).shutFault = (s.ecl.get p).shutFault)) ∧
          (s.sensing x = true → s.endPin x = none → Runs (exec (.pulseMaxExpiry p t) s) (fun u => u.shut.running = none ∧
            u.shut.outA.get p = false ∧ u.shut.outB.get p = false ∧ (u.ecl.get p).shutFault = true))) ∧
        (s.sensing x = true → Runs (exec (.bothSensorsFault p t) s) (fun u => u.shut.running = none ∧
          u.shut.outA.get p = false ∧ u.shut.outB.get p = false ∧ (u.ecl.get p).shutFault = true))) ∧
      (s.pulseOf p = none → bitAt (s.o (Obj.ECL_SHUT_CFG p.val)) 1 = true → Runs (exec (.bothSensorsFault p t) s) (fun u =>
        u.shut.running = s.shut.running ∧ (u.ecl.get p).shutFault = true)))

/-- At its decision point the next held start of an eclipse joins the marks or leaves a gap, and the grid moves on by
one. UPDATE ends once every good accumulation frame is in. OPENING ends with the open sensor time known and the
recovery frames clean. A faulted opening pulse is asked for once more at its time. An opening pulse that would be too
late for the window ends the eclipse as ABORTED_WINDOW. A predictive evaluation in RUN shows each enabled position's
prediction. A position that waits too long shows OVERDUE. A chain window from L1 in PREPARE or RUN joins the windows
held in start order; with four held the latest of them goes, and ECL_CNT_WINDOW_LOST counts. -/
def Obligations.EclipseCourse : Prop :=
  ∀ (s : State) (p : Pos) (t : Nat), s.sound →
    (∀ st, s.imaging = true → s.heldNext p = some st → s.decision p st ≤ (s.advance t).time.now →
      Runs (exec (.eclipseHeldStart p t) s) (fun u =>
        (u.ecl.get p).heldK = (s.ecl.get p).heldK + 1 ∧
          ((u.trig.get p).marks = (s.trig.get p).marks ++ [(st, s.heldProv p st)] ∨
            ((u.trig.get p).marks = (s.trig.get p).marks ∧ (u.ecl.get p).gap = true ∧
              u.oi (Obj.TRIG_SKIPPED p.val) = clampI 0 0xFFFFFFFF (s.oi (Obj.TRIG_SKIPPED p.val) + 1))) ∧
          s.keeps [.emitted, .od, .time, .fpa, .sp0, .ecl, .trig] u)) ∧
    (∀ q x, (s.mode = 2 ∨ s.mode = 4) → (s.ecl.get p).params = some q → (s.ecl.get p).lastCtx = some x →
      (s.ecl.get p).updating = true → (s.ecl.get p).accIn = q.n → Runs (exec (.eclipseUpdateComplete p t) s) (fun u =>
        (u.ecl.get p).updating = false ∧ (2 ≤ s.phase p → (u.ecl.get p).updateDone = true ∧ u.phase p = s.phase p) ∧
          (∀ q, q ≠ p → u.ecl.get q = s.ecl.get q))) ∧
    (s.phase p = 5 → (s.ecl.get p).openAt.isSome = true →
      ((s.ecl.get p).params.map (·.recover)).getD 0 ≤ (s.ecl.get p).cleanFrames → Runs (exec (.openingEnd p t) s) (fun u =>
        (u.ecl.get p).openingDone = true ∧ u.phase p = 6 ∧ s.sameBut [Obj.ECL_PHASE p.val] u ∧ s.keeps [.od, .time, .ecl] u)) ∧
    (∀ a, (s.ecl.get p).retryAt = some a → a ≤ (s.advance t).time.now → Runs (exec (.openingPulseRetry p t) s) (fun u =>
      (u.ecl.get p).retryAt = none ∧ u.shut = { s.shut with queue := s.shut.queue ++ [⟨p, false, 4⟩] } ∧
        s.keeps [.time, .ecl, .shut] u)) ∧
    (∀ w, (s.mode = 2 ∨ s.mode = 4) → (s.ecl.get p).windowEnd = some w → (s.advance t).windowLate p w = true →
      Runs (exec (.eclipseWindowDeadline p t) s) (fun u => u.o (Obj.ECL_LAST_RESULT p.val) = 2 ∧
        u.oi (Obj.ECL_CNT_ABORT p.val) = clampI 0 0xFFFFFFFF (s.oi (Obj.ECL_CNT_ABORT p.val) + 1))) ∧
    (s.serving = true → s.mode = 2 → s.enabled p = true → Runs (exec (.predictiveEvaluation t) s) (fun u =>
      u.o (Obj.ECL_PRED_ERR p.val) = (s.advance t).predNow p ∧
        ((s.ecl.get p).due = true → (u.ecl.get p).due = true))) ∧
    ((s.advance t).waitsTooLong p = true → Runs (exec (.eclipseOverdue p t) s) (fun u =>
      (u.ecl.get p).overdue = true ∧ (u.ecl.get p).overdueSent = true ∧
        ((s.ecl.get p).overdueSent = true → s.keeps [.time, .ecl] u))) ∧
    (∀ r, s.hears r .stationOrGroup 24 → s.fresh r 0x21 → 1 ≤ (s.heard r).reqLevel r → (s.mode = 1 ∨ s.mode = 2) →
      beAt r.payload 0 8 < beAt r.payload 8 8 → (s.heard r).time.now < beAt r.payload 8 8 →
      ∀ w : Window, w = { start := beAt r.payload 0 8, fin := beAt r.payload 8 8, mask := beAt r.payload 16 1 % 16 } →
      ((s.heard r).heldWindows.length < 4 → Runs (exec (.eclipseWindow r) s) (fun u =>
        u.windows = insWindow w (s.heard r).heldWindows ∧
          u.oi Obj.ECL_CNT_WINDOW_LOST = s.oi Obj.ECL_CNT_WINDOW_LOST)) ∧
      (4 ≤ (s.heard r).heldWindows.length → Runs (exec (.eclipseWindow r) s) (fun u =>
        u.windows = insWindow w (s.heard r).heldWindows.dropLast ∧ u.oi Obj.ECL_CNT_WINDOW_LOST =
          clampI 0 0xFFFFFFFF (s.oi Obj.ECL_CNT_WINDOW_LOST + 1))))

/-- A COMMIT from L1, by GEN_COMMIT or by the chain telegram, whose checks pass, makes at each position of its mask
that is not yet committed the pending set active, with GEN_ACTIVE counted, where the position is stopped, and
committed elsewhere; a position already committed and positions outside the mask keep their sets. One whose checks
fail leaves every active and governing set and every committed mark, and with PARAM_CONFLICT or STATE_CONFLICT counts
at each position of the mask. -/
def Obligations.GenerationsCommit : Prop :=
  ∀ (s : State) (m : Nat) (c : Instr) (w : Res), s.sound →
    ((∃ via v t, c = .genCommit via v t ∧ v < 256 ∧ s.admits via 1 t ∧ m = v % 16 ∧ w = (s.found via t).commit m) ∨
      (∃ r, c = .commit r ∧ s.hears r .anyDst 4 ∧ s.fresh r 0x04 ∧ 1 ≤ (s.heard r).reqLevel r ∧
        m = beAt r.payload 0 1 % 16 ∧ w = (s.heard r).commit m)) →
    (∀ x, w = .ok x → Runs (exec c s) (fun u => ∀ p : Pos,
      (bitAt m p.val = false ∨ (s.gen.get p).committed = true → u.gen.get p = s.gen.get p ∧
        u.oi (Obj.GEN_ACTIVE p.val) = s.oi (Obj.GEN_ACTIVE p.val)) ∧
      (bitAt m p.val = true → (s.gen.get p).committed = false →
        (s.stopped p = true → (u.gen.get p).act = (s.gen.get p).pend ∧ (u.gen.get p).committed = false ∧
          (u.gen.get p).dirty = false ∧ u.oi (Obj.GEN_ACTIVE p.val) = (s.oi (Obj.GEN_ACTIVE p.val) + 1) % 2 ^ 32) ∧
        (s.stopped p = false → (u.gen.get p).committed = true ∧ (u.gen.get p).act = (s.gen.get p).act ∧
          (u.gen.get p).pend = (s.gen.get p).pend ∧ u.o (Obj.GEN_PENDING_STATE p.val) = 2 ∧
          u.oi (Obj.GEN_ACTIVE p.val) = s.oi (Obj.GEN_ACTIVE p.val))))) ∧
    (∀ e, w = .error e → Runs (exec c s) (fun u => ∀ p : Pos,
      (u.gen.get p).act = (s.gen.get p).act ∧ (u.gen.get p).gov = (s.gen.get p).gov ∧
        (u.gen.get p).committed = (s.gen.get p).committed ∧
        u.oi (Obj.GEN_ACTIVE p.val) = s.oi (Obj.GEN_ACTIVE p.val) ∧
        (bitAt m p.val = true → e = Abort.param ∨ e = Abort.state → u.oi (Obj.INTG_CNT_COMMIT_REFUSED p.val) =
          clampI 0 0xFFFFFFFF (s.oi (Obj.INTG_CNT_COMMIT_REFUSED p.val) + 1))))

/-- From L1, GEN_DISCARD of positions of which none is COMMITTED makes the pending set of each a copy of its active
set, no longer DIRTY, and leaves the other positions. While a position of the mask is COMMITTED it changes no set, and
the path shows BUSY. -/
def Obligations.DiscardRestoresTheActiveSet : Prop :=
  ∀ (s : State) (via : Via) (v t : Nat), s.sound → s.admits via 1 t → v < 256 →
    ((∀ p : Pos, bitAt v p.val = true → (s.gen.get p).committed = false) → Runs (exec (.genDiscard via v t) s) (fun u =>
      ∀ p : Pos, (bitAt v p.val = true → (u.gen.get p).pend = (s.gen.get p).act ∧ (u.gen.get p).dirty = false ∧
          (u.gen.get p).act = (s.gen.get p).act ∧ (u.gen.get p).gov = (s.gen.get p).gov ∧ u.o (Obj.GEN_PENDING_STATE p.val) = 0) ∧
        (bitAt v p.val = false → u.gen.get p = s.gen.get p))) ∧
    ((∃ p : Pos, bitAt v p.val = true ∧ (s.gen.get p).committed = true) → Runs (exec (.genDiscard via v t) s) (fun u =>
      u.gen = s.gen ∧ (via = .host → u.o Obj.OD_LAST_ABORT = Abort.busy ∧ u.o Obj.OD_LAST_ABORT_ADDR = Obj.GEN_DISCARD) ∧
        ((∃ i, via = .chain i) ∨ via = .mailbox → u.out = .abort Obj.GEN_DISCARD Abort.busy :: s.out)))

/-- Once a running ramp of VDET has reached its end INTG_VDET_OUT shows its target and the settle instant is the
ramp's end plus 100 µs; once that has passed nothing is settling. An output that is not at 0 V and is overloaded goes
to 0 V, with VDET_FAULT set and counted; outside PREPARE the mode stays. The other positions' outputs stay. -/
def Obligations.VdetOutputs : Prop :=
  ∀ (s : State) (p : Pos) (t a : Nat), s.sound →
    ((s.vdet.get p).settleAt = some a → a ≤ (s.advance t).time.now → Runs (exec (.vdetSettle p t) s) (fun u =>
      u.vdet = s.vdet.set p { s.vdet.get p with settleAt := none, settled := a } ∧ s.keeps [.time, .vdet] u)) ∧
    ((s.vdet.get p).rampEnd = some a → a ≤ (s.advance t).time.now → s.modes.running = none →
      Runs (exec (.vdetRampEnd p t) s) (fun u =>
        u.o (Obj.INTG_VDET_OUT p.val) = (s.vdet.get p).target ∧ (∀ q : Pos, q ≠ p →
          u.oi (Obj.INTG_VDET_OUT q.val) = s.oi (Obj.INTG_VDET_OUT q.val)) ∧
          u.vdet = s.vdet.set p { s.vdet.get p with rampEnd := none, settleAt := some (a + 100000) })) ∧
    ((s.advance t).vdetNow p ≠ 0 → s.mode ≠ 1 → Runs (exec (.vdetOvercurrent p t) s) (fun u =>
      u.vdet = s.vdet.set p { s.vdet.get p with target := 0, rampEnd := none, settleAt := none, fault := true } ∧
        u.mode = s.mode ∧ u.o (Obj.INTG_VDET_OUT p.val) = 0 ∧
        u.oi (Obj.INTG_CNT_VDET_FAULT p.val) = clampI 0 0xFFFFFFFF (s.oi (Obj.INTG_CNT_VDET_FAULT p.val) + 1)))

/-- With frame memory online and no copy running, STAT_LATCH copies the published block, in memory's byte order, into
the position's latch buffer and nowhere else; once complete STAT_LATCHED_FRAME names its frame. A read of STAT_BLOCK
that starts at byte 0, or holds no snapshot, takes one and returns the bytes asked of it; a later read of the session
within 1 s returns bytes of that same snapshot. A snapshot older than 1 s is released, and no other. -/
def Obligations.StatisticsBlocks : Prop :=
  ∀ (s : State) (p : Pos) (t : Nat), s.sound →
    (∀ via v, v < 256 → s.admits via 0 t → s.mem.online = true → (s.stat.get p).latch = none →
      Runs (exec (.statLatch via p v t) s) (fun u =>
        (u.stat.get p).latch = some (s.o (Obj.STAT_FRAME p.val)) ∧ u.dram (latchAddr p) (s.statLE p).length = s.statLE p ∧
          (∀ a, a < latchAddr p ∨ latchAddr p + (s.statLE p).length ≤ a →
            Store.get dramDflt u.mem.dram a = Store.get dramDflt s.mem.dram a))) ∧
    (∀ f, (s.stat.get p).latch = some f → Runs (exec (.statLatchComplete p t) s) (fun u =>
      (u.stat.get p).latch = none ∧ u.o (Obj.STAT_LATCHED_FRAME p.val) = f ∧ u.mem = s.mem)) ∧
    (∀ via offset len, s.reaches via →
      (offset = 0 ∨ (s.stat.get p).snaps.find? (fun c => c.1 == viaSession via) = none →
        Runs (exec (.statBlockRead via p offset len t) s) (fun u =>
          u.out = .bytes (((if via = .host then s.statLE p else s.statBE p).drop offset).take len) :: s.out ∧
            (u.stat.get p).snaps.head? =
              some (viaSession via, (if via = .host then s.statLE p else s.statBE p), (s.advance t).time.mono) ∧
            s.keeps [.emitted, .time, .chain, .stat, .host] u)) ∧
      (∀ c, offset ≠ 0 → (s.stat.get p).snaps.find? (fun c => c.1 == viaSession via && offset != 0 &&
          decide ((s.advance t).time.mono < c.2.2 + 1000000000)) = some c →
        Runs (exec (.statBlockRead via p offset len t) s) (fun u =>
          u.out = .bytes ((c.2.1.drop offset).take len) :: s.out ∧ s.keeps [.emitted, .time, .chain, .host] u))) ∧
    (∀ session, Runs (exec (.statSnapshotRelease p session t) s) (fun u =>
      (∀ c, c ∈ (u.stat.get p).snaps ↔ c ∈ (s.stat.get p).snaps ∧
        ¬ (c.1 = session ∧ c.2.2 + 1000000000 ≤ (s.advance t).time.mono)) ∧
        (∀ q, q ≠ p → u.stat.get q = s.stat.get q) ∧ s.keeps [.time, .stat] u))

/-- From L1, with any value, each of the eighteen counter-clear commands makes the objects of its index ranges read as
at power-on and leaves every other object, and everything of the state but the time, the session that sent it and a
low word that one over BAR0 finds waiting; OUT_CNT_CLEAR does so while no hold of a port runs. -/
def Obligations.CountersClear : Prop :=
  ∀ (s : State) (via : Via) (v t : Nat), s.sound → s.admits via 1 t → v < 256 →
    ∀ c l, (c, l) ∈ [(Instr.intCntClear via v t, cntInt), (.corrCntClear via v t, [(0x2120, 0x2127)]),
        (.tailCntClear via v t, [(0x2220, 0x2222)]), (.mergeCntClear via v t, [(0x2320, 0x2323)]),
        (.radCntClear via v t, [(0x2435, 0x2435)]), (.eclCntClear via v t, [(0x2920, 0x2927)]),
        (.intgCntClear via v t, [(0x2720, 0x2723)]), (.timeCntClear via v t, [(0x1320, 0x1321)]),
        (.trigCntClear via v t, [(0x2A20, 0x2A2D)]), (.outCntClear via v t, [(0x2840, 0x2851)]),
        (.chainCntClear via v t, [(0x1220, 0x122E)]), (.memCntClear via v t, [(0x3010, 0x3011)]),
        (.hpCntClear via v t, [(0x3104, 0x3105), (0x3115, 0x3116)]), (.nvCntClear via v t, [(0x3210, 0x3218)]),
        (.spCntClear via v t, [(0x3310, 0x3316)]), (.hkCntClear via v t, [(0x3420, 0x3422)]),
        (.thermCntClear via v t, [(0x3520, 0x3522)]), (.pwrCntClear via v t, [(0x3620, 0x3623)])] →
      (c = .outCntClear via v t → ∀ b, (s.outPort b).pausedUntil = none) →
      Runs (exec c s) (fun u =>
        (∀ k, (∃ r ∈ l, r.1 ≤ k / 256 ∧ k / 256 ≤ r.2) → u.oi k = State.reset.oi k) ∧
          (∀ k, (∀ r ∈ l, k / 256 < r.1 ∨ r.2 < k / 256) → u.oi k = (s.found via t).oi k) ∧ (s.found via t).keeps [.od] u)

/-- With source PTP: an Announce of the domain selects the first master; a Sync of the master with the path known
measures an offset; a Delay_Req leaves on the master's port and its time is kept; a delay response measures the path.
An enabled PPS_IN edge of the selected polarity is stamped into PPS_IN_LAST whatever the source, and with source PPS_IN
its offset is measured unless LOCKED and 10 ms away from a whole second; one of the other polarity does nothing. From
LOCKED, without a measurement for the bound, the clock is in HOLDOVER. At a whole second PPS_OUT rises where it is
driven, and it falls after its width. TIME_SET (L2, STANDBY or SAFE) sets chain time with source FREE, or gives the
seconds of the next edge with source PPS_IN. -/
def Obligations.ChainTimeSources : Prop :=
  ∀ (s : State) (t : Nat), s.sound →
    (s.alive = true → s.o Obj.TIME_SOURCE = 0 →
      (∀ portB rank source, s.time.master = none → Runs (exec (.ptpMessageReceive
          (.announce portB (s.o Obj.TIME_PTP_DOMAIN) rank source) t) s) (fun u =>
        u.time.master = some (rank ++ [source]) ∧ u.time.masterPort = b2n portB ∧
          u.oi Obj.TIME_GM_ID = ((gmOf (rank ++ [source]) : Nat) : Int) ∧ s.sameBut [Obj.TIME_GM_ID] u)) ∧
      (∀ portB domain source seq t1 correction ingress interval d, (s.advance t).fromMaster portB domain source = true →
        62500000 ≤ interval → interval ≤ 2000000000 → s.time.path = some d → Runs (exec (.ptpMessageReceive
          (.sync portB domain source seq (some t1) correction ingress interval) t) s) (fun u => u.oi Obj.TIME_OFFSET =
            satS 32 (roundDiv (stampFine ingress - (t1 * 65536 + s.corrFine (b2n portB) correction) - d) 65536))) ∧
      (∀ egress, s.time.master.isSome = true → Runs (exec (.ptpMessageReceive (.delaySent egress) t) s) (fun u =>
        u.out = .chain s.time.masterPort (s.delayReq s.time.masterPort) true :: s.out ∧
          u.time.delayAt = some (stampFine egress) ∧ s.keeps [.emitted, .time] u)) ∧
      (∀ portB domain source receive correction t1 t2 t3, (s.advance t).fromMaster portB domain source = true →
        s.time.delayAt = some t3 → s.time.sync = some (t1, t2) → s.time.twoStepSeq = none → Runs (exec (.ptpMessageReceive
          (.delayResp portB domain source receive correction) t) s) (fun u =>
        u.time.path = some (meanPath t1 t2 t3 (receive * 65536 - correction)) ∧ u.oi Obj.TIME_MEAN_PATH =
          clampI 0 0xFFFFFFFF (roundDiv (meanPath t1 t2 t3 (receive * 65536 - correction)) 65536)))) ∧
    (s.o Obj.TIME_STATE = 2 → (s.time.lastMeas.getD 0) + s.syncBound ≤ (s.advance t).time.now →
      Runs (exec (.syncTimeout t) s) (fun u => u.o Obj.TIME_STATE = 3 ∧ u.o Obj.TIME_HOLDOVER_ERR = 0 ∧
        u.oi Obj.TIME_CNT_LOCK_LOSS = clampI 0 0xFFFFFFFF (s.oi Obj.TIME_CNT_LOCK_LOSS + 1) ∧ s.keeps [.od, .time] u)) ∧
    (∀ rising, s.alive = true → bitAt (s.o Obj.PPS_IN_CFG) 0 = true →
      (rising = bitAt (s.o Obj.PPS_IN_CFG) 1 → Runs (exec (.ppsInEdge rising t) s) (fun u => s.keeps [.time] u)) ∧
      (rising = !bitAt (s.o Obj.PPS_IN_CFG) 1 → s.o Obj.TIME_SOURCE ≠ 1 → Runs (exec (.ppsInEdge rising t) s) (fun u =>
        u.o Obj.PPS_IN_LAST = (s.advance t).time.now ∧ s.sameBut [Obj.PPS_IN_LAST] u ∧ s.keeps [.od, .time] u)) ∧
      (rising = !bitAt (s.o Obj.PPS_IN_CFG) 1 → s.o Obj.TIME_SOURCE = 1 →
        ¬ (s.o Obj.TIME_STATE = 2 ∧ 10000000 < (secondOff (s.advance t).time.now).natAbs) →
        Runs (exec (.ppsInEdge rising t) s) (fun u =>
          u.o Obj.PPS_IN_LAST = (s.advance t).time.now ∧ u.oi Obj.TIME_OFFSET = satS 32 (s.advance t).ppsOff))) ∧
    (s.alive = true → (s.advance t).time.now % 1000000000 = 0 → s.ppsDriven = true → Runs (exec (.ppsOutSecond t) s) (fun u =>
      u.time.ppsOut = true ∧ u.time.ppsEnd = (s.advance t).time.now + 1000 * s.o Obj.PPS_OUT_WIDTH)) ∧
    (s.time.ppsOut = true → s.time.ppsEnd ≤ (s.advance t).time.now → Runs (exec (.ppsOutWidthExpiry t) s) (fun u =>
      u.time.ppsOut = false ∧ s.keeps [.time] u)) ∧
    (∀ via v, v < 2 ^ 64 → s.admits via 2 t → (s.mode = 0 ∨ s.mode = 5) →
      (s.o Obj.TIME_SOURCE = 2 → Runs (exec (.timeSet via v t) s) (fun u => u.time.now = v)) ∧
      (s.o Obj.TIME_SOURCE = 1 → Runs (exec (.timeSet via v t) s) (fun u =>
        u.time.ppsSeconds = some (v / 1000000000) ∧ u.time.now = (s.advance t).time.now ∧ u.mode = s.mode)))

/-- Where the encoder counts, a change of A alone that has been stable for the filter time moves the count by one in X4
and X2, and a rising one in X1; one of B alone does in X4; up when A leads B, swapped by INVERT, modulo 2^64. Both at
once leave the count, count in ENC_CNT_ERR and set ERR. ZMODE 0 ignores Z, 1 latches the count, 2 latches it and sets
it to 0, 3 does so once while armed. A change that was not stable for the filter time changes nothing. ENC_PRESET (L1)
sets the count. ENC_SPEED is the signed change since the last update times 100. The other encoder stays. -/
def Obligations.EncodersCount : Prop :=
  ∀ (s : State) (e : Bool) (t : Nat), s.sound →
    (∀ a b held, s.alive = true → held < filterNs (s.o (Obj.ENC_FILTER (encNum e))) →
      Runs (exec (.encoderCountChange e a b held t) s) (fun u => s.keeps [.time] u) ∧
        Runs (exec (.encoderZEdge e held t) s) (fun u => s.keeps [.time] u)) ∧
    (s.alive = true → fieldOf (s.o (Obj.ENC_CFG (encNum e))) 1 0 ≠ 0 →
      ∀ a b held, filterNs (s.o (Obj.ENC_FILTER (encNum e))) ≤ held →
      (a ≠ (s.enc e).a → b = (s.enc e).b → ¬ (fieldOf (s.o (Obj.ENC_CFG (encNum e))) 1 0 = 3 ∧ a = false) →
        Runs (exec (.encoderCountChange e a b held t) s) (fun u =>
          u.o (Obj.ENC_COUNT (encNum e)) = (if ((a != b) != bitAt (s.o (Obj.ENC_CFG (encNum e))) 2)
            then (s.o (Obj.ENC_COUNT (encNum e)) + 1) % 2 ^ 64 else (s.o (Obj.ENC_COUNT (encNum e)) + 2 ^ 64 - 1) % 2 ^ 64) ∧
          u.oi (Obj.ENC_COUNT (encNum !e)) = s.oi (Obj.ENC_COUNT (encNum !e)) ∧ u.enc (!e) = s.enc (!e))) ∧
      (a = (s.enc e).a → b ≠ (s.enc e).b → fieldOf (s.o (Obj.ENC_CFG (encNum e))) 1 0 = 1 →
        Runs (exec (.encoderCountChange e a b held t) s) (fun u =>
          u.o (Obj.ENC_COUNT (encNum e)) = (if ((a == b) != bitAt (s.o (Obj.ENC_CFG (encNum e))) 2)
            then (s.o (Obj.ENC_COUNT (encNum e)) + 1) % 2 ^ 64 else (s.o (Obj.ENC_COUNT (encNum e)) + 2 ^ 64 - 1) % 2 ^ 64) ∧
          u.oi (Obj.ENC_COUNT (encNum !e)) = s.oi (Obj.ENC_COUNT (encNum !e)) ∧ u.enc (!e) = s.enc (!e))) ∧
      (a ≠ (s.enc e).a → b ≠ (s.enc e).b → Runs (exec (.encoderCountChange e a b held t) s) (fun u =>
        u.oi (Obj.ENC_COUNT (encNum e)) = s.oi (Obj.ENC_COUNT (encNum e)) ∧ (u.enc e).err = true ∧
          u.oi (Obj.ENC_COUNT (encNum !e)) = s.oi (Obj.ENC_COUNT (encNum !e)) ∧ u.enc (!e) = s.enc (!e) ∧
          u.oi (Obj.ENC_CNT_ERR (encNum e)) = clampI 0 0xFFFFFFFF (s.oi (Obj.ENC_CNT_ERR (encNum e)) + 1)))) ∧
    (s.alive = true →
      (∀ held, filterNs (s.o (Obj.ENC_FILTER (encNum e))) ≤ held → Runs (exec (.encoderZEdge e held t) s) (fun u =>
        u.enc (!e) = s.enc (!e) ∧
        (fieldOf (s.o (Obj.ENC_CFG (encNum e))) 4 3 = 0 → u.od = s.od ∧ u.tg = s.tg) ∧
        (fieldOf (s.o (Obj.ENC_CFG (encNum e))) 4 3 = 1 → u.oi (Obj.ENC_Z_LATCH (encNum e)) = s.oi (Obj.ENC_COUNT (encNum e)) ∧
          s.sameBut [Obj.ENC_Z_LATCH (encNum e)] u ∧ u.tg = s.tg) ∧
        (fieldOf (s.o (Obj.ENC_CFG (encNum e))) 4 3 = 2 ∨
            fieldOf (s.o (Obj.ENC_CFG (encNum e))) 4 3 = 3 ∧ (s.enc e).zArmed = true →
          u.oi (Obj.ENC_Z_LATCH (encNum e)) = s.oi (Obj.ENC_COUNT (encNum e)) ∧ u.o (Obj.ENC_COUNT (encNum e)) = 0 ∧
            s.sameBut [Obj.ENC_Z_LATCH (encNum e), Obj.ENC_COUNT (encNum e)] u) ∧
        (fieldOf (s.o (Obj.ENC_CFG (encNum e))) 4 3 = 3 → (u.enc e).zArmed = false ∧
          ((s.enc e).zArmed = false → u.od = s.od ∧ u.tg = s.tg)))) ∧
      Runs (exec (.encSpeedUpdate e t) s) (fun u => u.enc (!e) = s.enc (!e) ∧
        u.oi (Obj.ENC_SPEED (encNum e)) = satS 32 (fromCode 64
            ((s.o (Obj.ENC_COUNT (encNum e)) + 2 ^ 64 - (s.enc e).lastCount) % 2 ^ 64) * 100) ∧
          (u.enc e).lastCount = s.o (Obj.ENC_COUNT (encNum e)) ∧ s.sameBut [Obj.ENC_SPEED (encNum e)] u)) ∧
    (∀ via v, v < 2 ^ 64 → s.admits via 1 t → Runs (exec (.encPreset via e v t) s) (fun u =>
      u.o (Obj.ENC_COUNT (encNum e)) = v ∧ (s.found via t).sameBut [Obj.ENC_COUNT (encNum e)] u ∧ ∀ f, u.enc f = s.enc f))

/-- A counted edge of an input, stable for its filter time, adds one to the generators that use it, which start over at
every N-th. A TIMER generator moves on by its period at its instant. TG_FIRE (L1, SOFTWARE source) makes an event now,
counted and stamped, or within the hold-off of the last is suppressed and counted. A chain event to DST 0xFF later than the last
accepted one of its channel, not published here, is accepted once steward firmware has started; an earlier or equal one counts as
duplicate and leaves the channel; before, or with another DST or HOP 255, it does nothing. A pulse
of an output begins at its instant while the outputs drive, and ends after its width. -/
def Obligations.TriggerEvents : Prop :=
  ∀ (s : State) (t : Nat), s.sound →
    (∀ (i g : Fin 4) rising held, s.alive = true → tiCounts (s.o (Obj.TI_CFG i.val)) rising = true →
      filterNs (s.o (Obj.TI_FILTER i.val)) ≤ held → Runs (exec (.trigInEdge i rising held t) s) (fun u =>
        (s.o (Obj.TG_SOURCE g.val) = 3 + i.val → (u.tg.get g).edges =
          if s.tgN g ≤ (s.tg.get g).edges + 1 then 0 else (s.tg.get g).edges + 1) ∧
        (s.o (Obj.TG_SOURCE g.val) ≠ 3 + i.val → u.tg.get g = s.tg.get g))) ∧
    (∀ g : Fin 4, s.alive = true → s.o (Obj.TG_SOURCE g.val) = 7 → (s.tg.get g).nextTimer ≤ (s.advance t).time.now →
      Runs (exec (.timerGeneratorTick g t) s) (fun u =>
        (u.tg.get g).nextTimer = (s.tg.get g).nextTimer + s.o (Obj.TG_PERIOD g.val) ∧ ∀ h, h ≠ g → u.tg.get h = s.tg.get h)) ∧
    (∀ (g : Fin 4) via v, v < 256 → s.admits via 1 t → s.o (Obj.TG_SOURCE g.val) = 8 →
      ((∀ l, (s.tg.get g).lastT = some l → l + s.o (Obj.TG_HOLDOFF g.val) ≤ (s.advance t).time.now ∨
          (s.advance t).time.now + s.o (Obj.TG_HOLDOFF g.val) ≤ l) →
        Runs (exec (.tgFire via g v t) s) (fun u =>
          (u.tg.get g).lastT = some (s.advance t).time.now ∧ u.o (Obj.TG_LAST_TIME g.val) = (s.advance t).time.now ∧
            u.oi (Obj.TG_CNT_EVENTS g.val) = clampI 0 0xFFFFFFFF (s.oi (Obj.TG_CNT_EVENTS g.val) + 1))) ∧
      (∀ l, (s.tg.get g).lastT = some l → (s.advance t).time.now < l + s.o (Obj.TG_HOLDOFF g.val) →
          l < (s.advance t).time.now + s.o (Obj.TG_HOLDOFF g.val) →
        Runs (exec (.tgFire via g v t) s) (fun u => u.tg = s.tg ∧ u.trig = s.trig ∧
          u.oi (Obj.TG_CNT_SUPPRESSED g.val) = clampI 0 0xFFFFFFFF (s.oi (Obj.TG_CNT_SUPPRESSED g.val) + 1)))) ∧
    (∀ r, s.fwUp = false ∨ r.hop = 255 ∨ r.posaddr = true ∨ r.dst ≠ 0xFF → Runs (exec (.triggerEvent r) s) (fun u => s.keeps [.time] u)) ∧
    (∀ r, s.fwUp = true → r.hop < 255 → r.posaddr = false → r.dst = 0xFF → 28 ≤ r.payload.length → beAt r.payload 0 1 < 8 →
      (∀ g : Fin 4, s.o (Obj.TG_PUBLISH g.val) ≠ beAt r.payload 0 1) →
      ((∀ l, (s.chan.getD (beAt r.payload 0 1) Channel.reset).lastS = some l → l < beAt r.payload 12 8) →
        Runs (exec (.triggerEvent r) s) (fun u => u.chan = s.chan.set (beAt r.payload 0 1)
          { lastS := some (beAt r.payload 12 8), lastSeq := some (beAt r.payload 2 2) })) ∧
      (∀ l, (s.chan.getD (beAt r.payload 0 1) Channel.reset).lastS = some l → beAt r.payload 12 8 ≤ l →
        Runs (exec (.triggerEvent r) s) (fun u => u.chan = s.chan ∧ u.trig = s.trig ∧
          s.sameBut [Obj.TRIG_CNT_DUP (beAt r.payload 0 1)] u ∧ u.oi (Obj.TRIG_CNT_DUP (beAt r.payload 0 1)) =
            clampI 0 0xFFFFFFFF (s.oi (Obj.TRIG_CNT_DUP (beAt r.payload 0 1)) + 1)))) ∧
    (∀ (i : Fin 4) a w, (s.trigOut.get i).pend.find? (fun q => decide (q.1 ≤ (s.advance t).time.now)) = some (a, w) →
      s.trigOutDrives = true → Runs (exec (.trigOutPulseStart i t) s) (fun u =>
        (u.trigOut.get i).high = true ∧ (u.trigOut.get i).pend = (s.trigOut.get i).pend.erase (a, w) ∧
          (u.trigOut.get i).endAt = (if (s.trigOut.get i).high then max (s.trigOut.get i).endAt (a + w) else a + w) ∧
          s.keeps [.od, .time, .trigOut] u)) ∧
    (∀ i : Fin 4, (s.trigOut.get i).high = true → s.o (Obj.TO_CFG i.val) / 64 ≠ 2 →
      (s.trigOut.get i).endAt ≤ (s.advance t).time.now → Runs (exec (.trigOutPulseEnd i t) s) (fun u =>
        u.trigOut = s.trigOut.set i { s.trigOut.get i with high := false } ∧ s.keeps [.time, .trigOut] u))

/-- At its decision point the first start waiting joins the marks when it is allowed and does not clash; under SKIP
one that is not allowed or clashes is dropped and counts in TRIG_SKIPPED, a clash in TRIG_CNT_CLASH too. A held start
whose instant has come joins the marks at that instant. Neither joins where the throttle drops that start. The mark
transaction of a select begins t_tx before its release. Its release opens a frame of a position it starts, with the
next frame number and the start's time. The release of another transaction leaves the select with its release time. -/
def Obligations.StartsBecomeMarks : Prop :=
  ∀ (s : State) (p : Pos) (t : Nat), s.sound →
    (∀ st rest, (s.trig.get p).queue = st :: rest → s.decision p st.s ≤ (s.advance t).time.now →
      (s.startAllowed p st = true → s.clashes (s.fpaSel p) st.s = false →
        (s.therm.inHalf.get p = true → (s.trig.get p).dropNext = false) → Runs (exec (.decisionPoint p t) s) (fun u =>
          (u.trig.get p).queue = rest ∧ (u.trig.get p).marks = (s.trig.get p).marks ++ [(st.s, st)] ∧
            (∀ q, q ≠ p → u.trig.get q = s.trig.get q) ∧ s.keeps [.emitted, .time, .fpa, .sp0, .trig] u)) ∧
      (s.startAllowed p st = false ∨ s.clashes (s.fpaSel p) st.s = true → s.gov p (Obj.TRIG_POLICY p.val) ≠ 1 →
        Runs (exec (.decisionPoint p t) s) (fun u =>
          (u.trig.get p).queue = rest ∧ (u.trig.get p).marks = (s.trig.get p).marks ∧
            s.sameBut [Obj.TRIG_SKIPPED p.val, Obj.TRIG_CNT_CLASH p.val] u ∧
            u.oi (Obj.TRIG_SKIPPED p.val) = clampI 0 0xFFFFFFFF (s.oi (Obj.TRIG_SKIPPED p.val) + 1) ∧
            (s.clashes (s.fpaSel p) st.s = true →
              u.oi (Obj.TRIG_CNT_CLASH p.val) = clampI 0 0xFFFFFFFF (s.oi (Obj.TRIG_CNT_CLASH p.val) + 1)) ∧
            (s.clashes (s.fpaSel p) st.s = false → u.oi (Obj.TRIG_CNT_CLASH p.val) = s.oi (Obj.TRIG_CNT_CLASH p.val))))) ∧
    (∀ st h, (s.trig.get p).held = some st → (s.trig.get p).heldAt = some h →
      h ≤ (s.advance t).time.now + s.ttx (s.fpaSel p) → (s.therm.inHalf.get p = true → (s.trig.get p).dropNext = false) →
      Runs (exec (.heldStart p t) s) (fun u =>
        (u.trig.get p).held = none ∧
          (u.trig.get p).marks = (s.trig.get p).marks ++ [(h, { st with s := h, kind := st.kind + 8 })] ∧
          (∀ q, q ≠ p → u.trig.get q = s.trig.get q) ∧ s.keeps [.emitted, .time, .fpa, .sp0, .trig] u)) ∧
    (∀ rel, s.imaging = true → s.firstMark (s.fpaSel p) = some rel →
      rel ≤ (s.advance t).time.now + s.ttx (s.fpaSel p) → (s.sp0.get (s.fpaSel p)).busy = none →
      Runs (exec (.markTransactionStart p t) s) (fun u =>
        (∃ x, (u.sp0.get (s.fpaSel p)).busy = some x ∧ x.kind = 0 ∧ x.endAt = rel) ∧
          (∃ ws, Emit.sp0 (s.fpaSel p).val ws ∈ u.out) ∧ u.trig = s.trig)) ∧
    (∀ words x w r st, s.mode ≠ 5 → (∀ y, s.modes.running = some y → y.orphan = false) →
      (s.sp0.get (s.fpaSel p)).busy = some x → x.kind = 0 → x.endAt ≤ (s.advance t).time.now →
      (p, w) ∈ x.words → (w.op = 2 ∨ w.op = 6) → (s.trig.get p).marks = [(r, st)] → r / 4 = x.endAt / 4 →
      Runs (exec (.markRelease p words t) s) (fun u =>
        (∃ f, (u.intake.get p).frm = some f ∧ f.num = (s.intake.get p).nextNum ∧ f.start = st.s) ∧
          (u.intake.get p).nextNum = ((s.intake.get p).nextNum + 1) % 2 ^ 32 ∧ (u.trig.get p).marks = [] ∧
          (u.trig.get p).lastStart = some st.s ∧ (u.coef.get p).started = true)) ∧
    (∀ (sel : Fin 4) words x, (s.sp0.get sel).busy = some x → x.kind ≠ 0 → x.endAt ≤ (s.advance t).time.now →
      s.modes.running = none → Runs (exec (.sp0TransactionEnd sel words t) s) (fun u =>
        (u.sp0.get sel).lastRelease = max x.endAt (s.advance t).time.now ∧ (∀ q, q ≠ sel → u.sp0.get q = s.sp0.get q) ∧
          s.keeps [.emitted, .od, .time, .intake, .fpa, .sp0, .pipe] u))

/-- A powered port's link comes up and, with an address, sends a gratuitous ARP. When the link goes down nothing of
the port is left waiting or being sent in any ring. With PAUSE enabled a PAUSE frame holds the port for its quanta
from now and counts; with it disabled it only counts. When the hold's time has passed it ends, its time added to
OUT_PAUSED_TIME, and nothing waits any more. A hold of 100 ms is told once. The other port stays as it is. -/
def Obligations.OutputLinksAndPause : Prop :=
  ∀ (s : State) (port : Bool) (t : Nat), s.sound →
    (s.outPowered port = true → (s.outPort port).link = false → s.held port = false →
      Runs (exec (.outLinkChange port true t) s) (fun u =>
        (u.outPort port).link = true ∧ u.outPort (!port) = s.outPort (!port) ∧
          (s.outIp port = 0 → u.out = s.out) ∧
          (s.outIp port ≠ 0 → u.out =
            .frame (b2n port) 0xFFFFFFFFFFFF (s.arpFrame port 0xFFFFFFFFFFFF 1 0 (s.outIp port)) :: s.out))) ∧
    ((s.outPort port).link = true → Runs (exec (.outLinkChange port false t) s) (fun u =>
      (u.outPort port).link = false ∧ (u.outPort port).pausedUntil = none ∧
        ∀ r k, r < 10 → k < (s.ring r).slots.length → (s.slot r k).port = b2n port →
          (u.slot r k).st = 0 ∨ (u.slot r k).st = 4)) ∧
    (∀ q, (s.outPort port).link = true → (s.outPort port).pausedUntil = none →
      (s.ob (Obj.OUT_PAUSE_EN (b2n port)) = true → q % 65536 ≠ 0 → Runs (exec (.pauseFrame port q t) s) (fun u =>
        (u.outPort port).pausedUntil = some ((s.advance t).time.mono + s.pauseNs port (q % 65536)) ∧
          (u.outPort port).pauseStart = (s.advance t).time.mono ∧ s.sameBut [Obj.OUT_CNT_PAUSE (b2n port)] u ∧
          u.oi (Obj.OUT_CNT_PAUSE (b2n port)) = clampI 0 0xFFFFFFFF (s.oi (Obj.OUT_CNT_PAUSE (b2n port)) + 1))) ∧
      (s.ob (Obj.OUT_PAUSE_EN (b2n port)) = false → Runs (exec (.pauseFrame port q t) s) (fun u =>
        s.sameBut [Obj.OUT_CNT_PAUSE (b2n port)] u ∧ s.keeps [.od, .time] u ∧
          u.oi (Obj.OUT_CNT_PAUSE (b2n port)) = clampI 0 0xFFFFFFFF (s.oi (Obj.OUT_CNT_PAUSE (b2n port)) + 1)))) ∧
    (∀ e, (s.outPort port).pausedUntil = some e → e ≤ (s.advance t).time.mono →
      Runs (exec (.pauseHoldExpiry port t) s) (fun u =>
        (u.outPort port).pausedUntil = none ∧ (u.outPort port).waiting = [] ∧ s.sameBut [Obj.OUT_PAUSED_TIME (b2n port)] u ∧
          u.oi (Obj.OUT_PAUSED_TIME (b2n port)) = clampI 0 (2 ^ 64 - 1)
            (s.oi (Obj.OUT_PAUSED_TIME (b2n port)) + (e - (s.outPort port).pauseStart : Nat)))) ∧
    (∀ e, (s.outPort port).pausedUntil = some e → (s.outPort port).pauseNotified = false →
      (s.outPort port).pauseStart + 100000000 ≤ e → (s.outPort port).pauseStart + 100000000 ≤ (s.advance t).time.mono → Runs (exec (.pauseHoldNotify port t) s) (fun u =>
        u.outPort port = { s.outPort port with pauseNotified := true } ∧ u.outPort (!port) = s.outPort (!port) ∧
          (s.fwUp = true → u.oi Obj.NOTIFY_SEQ = (s.oi Obj.NOTIFY_SEQ + 1) % 65536)))

/-- While the link is up and no hold runs: an ARP request for OUT_IP is answered to its sender; a reply to an address
asked for resolves it; an unresolved address is asked for again after 1 s; a resolved one is refreshed after 60 s, and
forgotten after three unanswered refreshes. An echo request to OUT_IP that is not too long, under the limit of 100 a
second, is answered to its sender with the same data and counted; to another address, too long or beyond the limit it
counts as dropped, as does a frame that is damaged, tagged, too long or for another MAC address, or of no kind the port
takes. -/
def Obligations.ArpAndIcmp : Prop :=
  ∀ (s : State) (port : Bool) (t : Nat), s.sound → (s.outPort port).link = true →
    (s.outPort port).pausedUntil = none →
    (∀ ip mac, s.outIp port ≠ 0 → Runs (exec (.arpRequest port ip mac (s.outIp port) t) s) (fun u =>
      u.out = .frame (b2n port) mac (s.arpFrame port mac 2 mac ip) :: s.out ∧ s.keeps [.emitted, .time] u)) ∧
    (∀ ip mac e, s.arpEntry port ip = some e → Runs (exec (.arpReply port ip mac t) s) (fun u =>
      (∃ x, u.arpEntry port ip = some x ∧ x.mac = some mac ∧ x.unanswered = 0) ∧
        u.outPort (!port) = s.outPort (!port) ∧ s.keeps [.time, .out0, .out1] u)) ∧
    (∀ ip e, s.arpEntry port ip = some e → e.mac = none → e.at_ + 1000000000 ≤ (s.advance t).time.mono →
      Runs (exec (.arpRetry port ip t) s) (fun u =>
        u.out = .frame (b2n port) 0xFFFFFFFFFFFF (s.arpFrame port 0xFFFFFFFFFFFF 1 0 ip) :: s.out ∧
          ∃ x, u.arpEntry port ip = some x ∧ x.mac = none ∧ x.at_ = (s.advance t).time.mono)) ∧
    (∀ ip e, s.arpEntry port ip = some e → e.mac.isSome = true → e.at_ + 60000000000 ≤ (s.advance t).time.mono →
      (e.unanswered < 3 → Runs (exec (.arpRefresh port ip t) s) (fun u =>
        u.out = .frame (b2n port) 0xFFFFFFFFFFFF (s.arpFrame port 0xFFFFFFFFFFFF 1 0 ip) :: s.out ∧
          ∃ x, u.arpEntry port ip = some x ∧ x.mac = e.mac ∧ x.unanswered = e.unanswered + 1)) ∧
      (3 ≤ e.unanswered → Runs (exec (.arpRefresh port ip t) s) (fun u =>
        u.arpEntry port ip = none ∧ u.out = s.out ∧ s.keeps [.time, .out0, .out1] u))) ∧
    (∀ ip mac body, s.outIp port ≠ 0 → s.tooLong port (38 + body.length) = false →
      ((s.outPort port).icmpAt + 1000000000 ≤ (s.advance t).time.mono ∨ (s.outPort port).icmpN < 100) →
      Runs (exec (.icmpEchoRequest port ip mac (s.outIp port) body t) s) (fun u =>
        u.out = .frame (b2n port) mac (s.etherFrame port mac 0x0800 (s.ipHeader port 1 ip (4 + body.length) ++
            fieldsBE [(1, 0), (1, 0), (2, inetSum (fieldsBE [(1, 0), (1, 0), (2, 0)] ++ body))] ++ body)) :: s.out ∧ s.sameBut [Obj.OUT_CNT_ICMP (b2n port)] u ∧
          u.oi (Obj.OUT_CNT_ICMP (b2n port)) = clampI 0 0xFFFFFFFF (s.oi (Obj.OUT_CNT_ICMP (b2n port)) + 1))) ∧
    (∀ c, (∃ ip mac dst body, c = .icmpEchoRequest port ip mac dst body t ∧ (s.outIp port = 0 ∨ dst ≠ s.outIp port ∨
          s.tooLong port (38 + body.length) = true ∨
          ((s.advance t).time.mono < (s.outPort port).icmpAt + 1000000000 ∧ 100 ≤ (s.outPort port).icmpN))) ∨
        (∃ f fcs, c = .outRxDrop port f fcs t ∧ (s.rxBad port f fcs = true ∨ s.rxTaken port f = false)) →
      Runs (exec c s) (fun u => s.sameBut [Obj.OUT_CNT_RX_DROP (b2n port)] u ∧ s.keeps [.od, .time] u ∧
        u.oi (Obj.OUT_CNT_RX_DROP (b2n port)) = clampI 0 0xFFFFFFFF (s.oi (Obj.OUT_CNT_RX_DROP (b2n port)) + 1)))

/-- On a port that can send, with no hold and nothing being sent, the ingot next in turn begins to be sent where its
destination is resolved, to the MAC address it has then; else it leaves its slot and counts in OUT_CNT_NO_ROUTE. While
an ingot is sent each fetched datagram leaves in a UDP frame to the slot's destination with the stream's next sequence
number at bytes 16 to 19 of its payload, counted; after the last one nothing is being sent and the ingot counts in OUT_CNT_INGOTS. -/
def Obligations.EgressSendsIngots : Prop :=
  ∀ (s : State) (port : Bool) (t : Nat), s.sound → s.outSends port = true → (s.outPort port).pausedUntil = none →
    (∀ r k, (s.outPort port).sending = none → s.nextIngot port = some (r, k) →
      (s.routed port (s.slot r k).dst = true → Runs (exec (.egressIngotStart port t) s) (fun u =>
        (u.outPort port).sending = some (r, k, 0, 0) ∧ (u.outPort port).mac = (s.dstMac port (s.slot r k).dst).getD 0 ∧
          (u.slot r k).st = 3 ∧ u.out = s.out ∧
          u.outPort (!port) = s.outPort (!port))) ∧
      (s.routed port (s.slot r k).dst = false → Runs (exec (.egressIngotStart port t) s) (fun u =>
        (u.outPort port).sending = none ∧ (u.slot r k).st ≠ 2 ∧
          u.oi (Obj.OUT_CNT_NO_ROUTE (b2n port)) = clampI 0 0xFFFFFFFF (s.oi (Obj.OUT_CNT_NO_ROUTE (b2n port)) + 1)))) ∧
    (∀ r k i off d rest, (s.outPort port).sending = some (r, k, i, off) → (s.outPort port).fifo = d :: rest →
      Runs (exec (.datagramSend port t) s) (fun u =>
        u.out = .datagram (b2n port) (s.slot r k).dst (s.udpFrame port (s.outPort port).mac (s.slot r k).dst
          (d.take 16 ++ beBytes 4 (s.streamSeq port (streamKey (s.slot r k))) ++ d.drop 20)) :: s.out ∧
        u.streamSeq port (streamKey (s.slot r k)) = (s.streamSeq port (streamKey (s.slot r k)) + 1) % 2 ^ 32 ∧
        u.oi (Obj.OUT_CNT_DATAGRAMS (b2n port)) = (s.oi (Obj.OUT_CNT_DATAGRAMS (b2n port)) + 1) % 2 ^ 64 ∧
        (i + 1 < (s.slot r k).lens.length → (u.outPort port).sending = some (r, k, i + 1, off + d.length)) ∧
        ((s.slot r k).lens.length ≤ i + 1 → (u.outPort port).sending = none ∧
          u.oi (Obj.OUT_CNT_INGOTS (b2n port)) = clampI 0 0xFFFFFFFF (s.oi (Obj.OUT_CNT_INGOTS (b2n port)) + 1))))

/-- What a chain port sees of its partner decides its link, by the speed in force, and the loss of the link counts in
CHAIN_CNT_LINK_DOWN. From 0.2 ms after the release of reset on, with both links up, a frame of at
most 1,514 bytes that arrives good leaves the other port good, a telegram of the EtherType in force with HOP one
higher and every other byte as it was, a foreign frame unchanged and counted; a telegram with HOP 255 does not leave
and counts in CHAIN_CNT_HOP_LIMIT; a frame that arrives damaged leaves marked as damaged and counts. With the other
link down nothing leaves. -/
def Obligations.ChainPortsForward : Prop :=
  ∀ (s : State) (port : Bool) (t : Nat), s.sound → s.alive = true →
    (∀ pcs an gigabit, Runs (exec (.chainLinkChange port pcs an gigabit t) s) (fun u =>
      (u.port port).link = s.linkOf port pcs an gigabit ∧ (u.port (!port)).link = (s.port (!port)).link ∧
        (s.linkOf port pcs an gigabit = false → (s.port port).link = true → u.oi (Obj.CHAIN_CNT_LINK_DOWN (b2n port)) =
          clampI 0 0xFFFFFFFF (s.oi (Obj.CHAIN_CNT_LINK_DOWN (b2n port)) + 1)))) ∧
    (∀ f residence, (s.advance t).chainUp = true → s.extest = false → (s.port port).link = true → f.length ≤ 1514 →
      frameType f ≠ 0x8808 →
      ((s.port (!port)).link = true → frameType f = s.chain.etherInForce → beAt f 17 1 ≠ 255 →
        Runs (exec (.chainFrameForward port f true false residence t) s) (fun u =>
          Emit.chain (b2n (!port)) (patch f 17 [byteOf (beAt f 17 1 + 1)]) true ∈ u.out)) ∧
      (frameType f = s.chain.etherInForce → beAt f 17 1 = 255 →
        Runs (exec (.chainFrameForward port f true false residence t) s) (fun u =>
          u.out = s.out ∧ s.sameBut [Obj.CHAIN_CNT_HOP_LIMIT] u ∧
            u.oi Obj.CHAIN_CNT_HOP_LIMIT = clampI 0 0xFFFFFFFF (s.oi Obj.CHAIN_CNT_HOP_LIMIT + 1))) ∧
      ((s.port (!port)).link = true → frameType f ≠ s.chain.etherInForce → frameType f ≠ 0x88F7 →
        Runs (exec (.chainFrameForward port f true false residence t) s) (fun u =>
          u.out = .chain (b2n (!port)) f true :: s.out ∧ s.sameBut [Obj.CHAIN_CNT_FOREIGN (b2n port)] u ∧
            u.oi (Obj.CHAIN_CNT_FOREIGN (b2n port)) = clampI 0 0xFFFFFFFF (s.oi (Obj.CHAIN_CNT_FOREIGN (b2n port)) + 1))) ∧
      (∀ stomped k, k = (if stomped then Obj.CHAIN_CNT_STOMPED (b2n port) else Obj.CHAIN_CNT_FCS (b2n port)) →
        (s.port (!port)).link = true → ¬ (frameType f = s.chain.etherInForce ∧ beAt f 17 1 = 255) →
        Runs (exec (.chainFrameForward port f false stomped residence t) s) (fun u =>
          u.out = .chain (b2n (!port)) (s.forwardBytes port residence f) false :: s.out ∧
            s.sameBut [k, Obj.CHAIN_CNT_FOREIGN (b2n port)] u ∧ u.oi k = clampI 0 0xFFFFFFFF (s.oi k + 1))) ∧
      ((s.port (!port)).link = false → frameType f ≠ s.chain.etherInForce →
        Runs (exec (.chainFrameForward port f true false residence t) s) (fun u => u.out = s.out ∧ s.keeps [.time] u)))

/-- A READ the module hears of a scalar object at offset 0 is answered on the port it came from, with the request's
number and session, its head and its whole value; of an object that cannot be read, with the abort code alone. A
RANGE_READ of an index whose first MAXCOUNT subindices can all be read is answered with the index and as many of their
records as fit; of an index that does not exist, with NO_OBJECT. The mode, the generations and frame memory stay. -/
def Obligations.ChainReadsAreAnswered : Prop :=
  ∀ (s : State) (r : Req), s.sound →
    (s.hears r .unicast 12 →
      (∀ o, Obj.readable (reqKey r) = .ok o → o.ty.scalar = true → beAt r.payload 4 4 = 0 → Runs (exec (.read r) s) (fun u =>
        (u.port r.portB).queue.getLast? = some (0x01, u.telegram 0x01 0x80 0 r.seq r.session
          (readHead (reqKey r) o.ty o.ty.size 0 o.ty.size ++
            ObjTy.wire o.ty ((s.heard r).value (.chain r.session) (reqKey r) o.acc))) ∧
          u.mode = s.mode ∧ u.gen = s.gen ∧ u.mem.dram = s.mem.dram)) ∧
      (∀ e, Obj.readable (reqKey r) = .error e → Runs (exec (.read r) s) (fun u =>
        (u.port r.portB).queue.getLast? = some (0x01, u.telegram 0x01 0xC0 0 r.seq r.session (beBytes 4 e)) ∧
          s.sameBut [Obj.CHAIN_POSITION] u))) ∧
    (s.hears r .unicast 4 →
      (Obj.indexExists (beAt r.payload 0 2) = true → beAt r.payload 3 1 ≠ 0 →
        (∀ k ∈ (subsFrom (beAt r.payload 0 2) (beAt r.payload 2 1)).take (beAt r.payload 3 1),
          ∃ o, Obj.readable (beAt r.payload 0 2 * 256 + k) = .ok o) → Runs (exec (.rangeRead r) s) (fun u =>
        (∀ x, x = (s.heard r).rangeRecords (.chain r.session) (beAt r.payload 0 2)
            (subsFrom (beAt r.payload 0 2) (beAt r.payload 2 1)) (beAt r.payload 3 1) 1476 →
          (u.port r.portB).queue.getLast? = some (0x03, u.telegram 0x03 0x80 0 r.seq r.session
            (fieldsBE [(2, beAt r.payload 0 2), (1, beAt r.payload 2 1), (1, x.2), (1, x.1.length), (3, 0)] ++
              (x.1.map (·.2)).flatten))) ∧
          u.mode = s.mode ∧ u.gen = s.gen ∧ u.mem.dram = s.mem.dram)) ∧
      (Obj.indexExists (beAt r.payload 0 2) = false → Runs (exec (.rangeRead r) s) (fun u =>
        (u.port r.portB).queue.getLast? =
          some (0x03, u.telegram 0x03 0xC0 0 r.seq r.session (beBytes 4 Abort.noObject)))))

/-- A scalar setting written on a path with a value that passes every check reads as that value; a refused write
leaves every object but the record of the refusal. A write of a kept object that the keep array fails leaves it as it
was, is refused with NV and sets NV_FAULT. A WRITE the module hears of a whole scalar has the effect of that
write. Staging 1 s old is abandoned. CHAIN_STATION is kept in the keep array and in force at once. EXPERT_RELEASE (L2)
clears the bit of its function. LEASE_EPOCH_CLEAR (L2, STANDBY, no current lease) clears role and epoch. SP0_SLAVE
(L2) takes its value in SERVICE with no position enabled. -/
def Obligations.WritesReachTheirObjects : Prop :=
  ∀ (s : State) (t : Nat), s.sound →
    (∀ via key v r, Obj.find key = .ok r → r.ty.scalar = true → r.acc = .rw → State.commandOf via key v = none →
      s.admits via r.lvl t → v < 256 ^ r.ty.size →
      ∀ ok x, x = ((s.keptIs key ok).advance t).writeOf via →
      (∀ w, State.put via key (Written.scalar r.ty v) x = .ok w → Runs (exec (.objectWrite via key v ok t) s) (fun u =>
        u.oi key = r.stored (r.ty.decode v) ∧ u.mode = s.mode ∧ u.gen = s.gen)) ∧
      (∀ e, State.put via key (Written.scalar r.ty v) x = .error e → Runs (exec (.objectWrite via key v ok t) s) (fun u =>
        u.oi key = s.oi key ∧ (via = .host → u.o Obj.OD_LAST_ABORT = e ∧ u.o Obj.OD_LAST_ABORT_ADDR = key) ∧
          (e ≠ Abort.nv → x.sameBut [Obj.OD_LAST_ABORT, Obj.OD_LAST_ABORT_ADDR] u ∧ x.keeps [.emitted, .od, .host] u))) ∧
      (∀ w, ok = true → keptAddr key ≠ none → State.put via key (Written.scalar r.ty v) x = .ok w →
        Runs (exec (.objectWrite via key v false t) s) (fun u =>
          u.oi key = s.oi key ∧ (via = .host → u.o Obj.OD_LAST_ABORT = Abort.nv) ∧ u.nv.nvFault = true))) ∧
    (∀ r o w, s.hears r .anyDst (12 + o.ty.size) → s.fresh r 0x02 → Obj.find (reqKey r) = .ok o → o.acc ≠ .ro →
      o.lvl ≤ (s.heard r).reqLevel r → o.ty.scalar = true → beAt r.payload 3 1 % 2 = 1 → beAt r.payload 8 2 = o.ty.size →
      beAt r.payload 4 4 = 0 →
      State.objWrite (.chain r.session) (reqKey r) (Written.ofBytes (slice r.payload 12 o.ty.size)) (s.heard r) = .ok w →
      Runs (exec (.write r) s) (fun u => u.od = w.od ∧ u.gen = w.gen ∧ u.modes = w.modes ∧ u.ecl = w.ecl)) ∧
    (∀ g, s.chain.staging = some g → g.lastAt + 1000000000 ≤ (s.advance t).time.mono →
      Runs (exec (.writeStagingTimeout t) s) (fun u =>
        u.chain = { s.chain with staging := none } ∧ s.keeps [.time, .chain] u)) ∧
    (∀ via v, 1 ≤ v → v ≤ 127 → s.admits via 2 t → s.nv.closed = false →
      (∀ w, State.put via Obj.CHAIN_STATION (Written.scalar .u8 v)
          (((s.keptIs Obj.CHAIN_STATION true).advance t).writeOf via) = .ok w →
        Runs (exec (.chainStationWrite via v true t) s) (fun u =>
          u.o Obj.CHAIN_STATION = v ∧ u.keep Keep.station 1 = [byteOf v] ∧ u.mode = s.mode))) ∧
    (∀ via v b, s.admits via 2 t → expertFunctions.contains v = true → expertBit v = some b →
      Runs (exec (.expertRelease via v t) s) (fun u =>
        u.o Obj.EXPERT_STATUS = withBit (s.o Obj.EXPERT_STATUS) b false ∧ (s.found via t).sameBut [Obj.EXPERT_STATUS] u)) ∧
    (∀ via v, v < 256 → s.admits via 2 t → s.mode = 0 → s.o Obj.LEASE_STATE ≠ 1 → s.nv.closed = false →
      Runs (exec (.leaseEpochClear via v true t) s) (fun u =>
        u.o Obj.LEASE_ROLE = 0 ∧ u.o Obj.LEASE_EPOCH = 0 ∧ u.o Obj.LEASE_STATE = (if s.modes.orphan = true then 3 else 0) ∧
          u.twoSlot Keep.lease = 0)) ∧
    (∀ via v, v < 2 → s.admits via 2 t → s.mode = 4 → s.o Obj.POS_ENABLE = 0 →
      (∀ w, State.put via Obj.SP0_SLAVE (Written.scalar .bool v) ((s.advance t).writeOf via) = .ok w → Runs (exec (.sp0Slave via v t) s) (fun u =>
        u.o Obj.SP0_SLAVE = v ∧ u.mode = s.mode ∧ (s.found via t).sameBut [Obj.SP0_SLAVE, Obj.EXPERT_STATUS] u)))

/-- A LEASE_GRANT from L1 that passes its checks, with an epoch above the one held, records role, epoch and times,
makes the lease CURRENT (NONE for role 0) and ends ORPHAN; one that fails a check leaves role and epoch and counts. A
heartbeat that names this station's role and epoch renews a CURRENT lease from now. At its expiry it is EXPIRED,
counted, and nothing of the role is left waiting or being sent; the mode stays. An announcement of the role at another
station with a higher epoch, in STANDBY or SAFE, takes the role away. A lease record not yet written is written on a
retry. -/
def Obligations.RoleLeases : Prop :=
  ∀ (s : State), s.sound →
    (∀ r good, s.hears r .unicast 8 → s.fresh r 0x30 →
      (1 ≤ (s.heard r).reqLevel r ∧ s.o Obj.CHAIN_STATION ≠ 127 ∧ 1 ≤ beAt r.payload 1 1 ∧ beAt r.payload 1 1 ≤ 100 ∧
          2 ≤ beAt r.payload 2 1 ∧ beAt r.payload 2 1 ≤ 16 ∧ beAt r.payload 0 1 ≠ 255 ∧
          s.o Obj.LEASE_EPOCH < beAt r.payload 4 4 ∧ s.nv.closed = false ∧ good = true →
        Runs (exec (.leaseGrant r good) s) (fun u =>
          u.o Obj.LEASE_ROLE = beAt r.payload 0 1 ∧ u.o Obj.LEASE_EPOCH = beAt r.payload 4 4 ∧
            u.o Obj.LEASE_HB_PERIOD = beAt r.payload 1 1 ∧ u.o Obj.LEASE_MISS_LIMIT = beAt r.payload 2 1 ∧
            u.o Obj.LEASE_STATE = (if beAt r.payload 0 1 = 0 then 0 else 1) ∧ u.modes.orphan = false ∧ u.mode = s.mode ∧
            u.chain.renewedAt = (s.advance r.t).time.mono)) ∧
      (((s.heard r).pageIs Keep.lease 32 good).grantResult ((s.heard r).reqLevel r) (beAt r.payload 0 1) (beAt r.payload 1 1)
          (beAt r.payload 2 1) (beAt r.payload 4 4) ≠ 0 → Runs (exec (.leaseGrant r good) s) (fun u =>
        u.oi Obj.LEASE_ROLE = s.oi Obj.LEASE_ROLE ∧ u.oi Obj.LEASE_EPOCH = s.oi Obj.LEASE_EPOCH ∧
          u.oi Obj.LEASE_STATE = s.oi Obj.LEASE_STATE ∧
          u.oi Obj.LEASE_CNT_REFUSED = clampI 0 0xFFFFFFFF (s.oi Obj.LEASE_CNT_REFUSED + 1)))) ∧
    (∀ r good, s.hears r .broadcast 8 → r.payload.length = 16 → beAt r.payload 4 1 = 1 →
      beAt r.payload 9 1 = s.o Obj.CHAIN_STATION → beAt r.payload 8 1 = s.o Obj.LEASE_ROLE →
      beAt r.payload 12 4 = s.o Obj.LEASE_EPOCH → s.o Obj.LEASE_STATE = 1 → (s.advance r.t).time.mono < s.leaseExpiry →
      Runs (exec (.heartbeat r good) s) (fun u =>
        u.o Obj.LEASE_STATE = 1 ∧ u.chain.renewedAt = (s.advance r.t).time.mono ∧
          u.o Obj.LEASE_LAST_RENEW = (s.advance r.t).time.now ∧ u.chain.upstreamB = r.portB ∧ u.mode = s.mode)) ∧
    (∀ t, s.o Obj.LEASE_STATE = 1 → s.leaseExpiry ≤ (s.advance t).time.mono → Runs (exec (.leaseExpiry t) s) (fun u =>
      u.o Obj.LEASE_STATE = 2 ∧ u.oi Obj.LEASE_CNT_EXPIRED = clampI 0 0xFFFFFFFF (s.oi Obj.LEASE_CNT_EXPIRED + 1) ∧
        u.mode = s.mode ∧ (s.o Obj.LEASE_ROLE ≠ 0 → ∀ r k, r < 10 → k < (s.ring r).slots.length →
          (s.slot r k).role = s.o Obj.LEASE_ROLE → (u.slot r k).st = 0 ∨ (u.slot r k).st = 4))) ∧
    (∀ r good, s.hears r .broadcast 8 → beAt r.payload 0 1 ≠ 0 → beAt r.payload 0 1 = s.o Obj.LEASE_ROLE →
      s.o Obj.LEASE_EPOCH < beAt r.payload 4 4 → beAt r.payload 1 1 ≠ s.o Obj.CHAIN_STATION →
      (s.o Obj.LEASE_STATE = 1 ∨ s.o Obj.LEASE_STATE = 2) → (s.mode = 0 ∧ s.modes.running = none ∨ s.mode = 5) →
      Runs (exec (.leaseAnnounce r good) s) (fun u =>
        u.o Obj.LEASE_STATE = 3 ∧ u.o Obj.LEASE_ROLE = 0 ∧ u.o Obj.LEASE_EPOCH = beAt r.payload 4 4 ∧ u.modes.orphan = true ∧
          u.mode = s.mode)) ∧
    (∀ t, s.chain.leaseRetry = true → s.fwUp = true → s.nv.closed = false → s.o Obj.LEASE_ROLE < 256 →
      s.o Obj.LEASE_EPOCH < 2 ^ 32 → Runs (exec (.leaseRecordRetry true t) s) (fun u =>
        u.chain.leaseRetry = false ∧ u.twoSlot Keep.lease = s.o Obj.LEASE_ROLE * 2 ^ 32 + s.o Obj.LEASE_EPOCH))

/-- With the link up, outside D3hot and the steward serving: an aligned read of the low slot of a 64-bit object
returns its low half and latches its upper half, which the next read of its upper slot returns and takes out of the
latch; a low-slot read of a narrower object returns its value extended. An aligned write of the low slot of a 64-bit
object is held and changes no object; one of its upper slot writes both words as one. A narrower, unaligned or
unimplemented write is dropped and counts; a narrower read returns the bytes it addresses. BAR0_DOM_CMD READ puts the whole
value of the selected STR or DOM object into the buffer, with its length; WRITE writes the object from the buffer as one whole
write; each shows BUSY until it ends DONE, or REFUSED with its abort code. In BAR4 a read of a
channel's BYTES latches its upper half, which the next read of the upper word returns; a write of TAIL sets it; a
write to an unimplemented offset is dropped and counts in HP_CNT_BLOCKED. Word 0 of the configuration space reads the
device and the vendor identity. -/
def Obligations.Bar0Words : Prop :=
  ∀ (s : State) (t : Nat), s.sound → s.host.link = true → s.host.d3hot = false → s.serving = true →
    (∀ addr size k r x, s.slotAt addr = .key k → Obj.readable k = .ok r → r.ty.scalar = true →
      x = ((s.advance t).touch .host).value .host k r.acc → Runs (exec (.bar0LowRead .bar0 addr size t) s) (fun u =>
        (r.ty = .u64 → u.out = .value (ObjTy.u64.encode x % 2 ^ 32 / 256 ^ (addr % 4) % 256 ^ size) :: s.out ∧
          u.bar0.latch = some (k, ObjTy.u64.encode x / 2 ^ 32)) ∧
        (r.ty ≠ .u64 → u.out = .value (slotWord r.ty x / 256 ^ (addr % 4) % 256 ^ size) :: s.out ∧
          u.bar0.latch = s.bar0.latch))) ∧
    (∀ addr size k r v, s.slotAt addr = .upper k → Obj.readable k = .ok r → s.bar0.latch = some (k, v) →
      Runs (exec (.bar0UpperRead .bar0 addr size t) s) (fun u =>
        u.out = .value (v / 256 ^ (addr % 4) % 256 ^ size) :: s.out ∧ u.bar0 = { s.bar0 with latch := none } ∧ u.od = s.od)) ∧
    (∀ addr k r v, addr % 4 = 0 → s.slotAt addr = .key k → Obj.find k = .ok r → r.ty = .u64 → s.bar0.held = none →
      Runs (exec (.bar0LowWrite .bar0 addr v t) s) (fun u =>
        u.bar0 = { s.bar0 with held := some (k, v % 2 ^ 32) } ∧ u.od = s.od ∧ u.gen = s.gen)) ∧
    (∀ addr k v low w, addr % 4 = 0 → s.slotAt addr = .upper k → s.bar0.held = some (k, low) →
      State.objWrite .host k (Written.slot .u64 (v % 2 ^ 32 * 2 ^ 32 + low))
        ({ (s.advance t).touch .host with bar0 := { s.bar0 with held := none } } : State) = .ok w →
      Runs (exec (.bar0UpperWrite .bar0 addr v t) s) (fun u => u = w)) ∧
    (∀ addr size, (size ≠ 4 ∨ addr % 4 ≠ 0 ∨ s.slotAt addr = .nothing) → s.bar0.held = none →
      Runs (exec (.bar0DroppedWrite .bar0 addr size t) s) (fun u =>
        u.oi Obj.OD_CNT_BAR0_DROP = clampI 0 0xFFFFFFFF (s.oi Obj.OD_CNT_BAR0_DROP + 1) ∧ u.gen = s.gen ∧ u.bar0 = s.bar0)) ∧
    (∀ k r, k = s.o Obj.BAR0_DOM_SEL → s.bar0.busy = none → Obj.readable k = .ok r → r.ty.scalar = false →
      ((s.found .host t).readBlob .host k 0 8192).2.2 ≤ 8192 → Runs (exec (.bar0DomCmdRead .host t) s) (fun u =>
        u.bar0.busy = some (1, false) ∧
          u.bar0.buf = Store.write (fun _ => 0#8) s.bar0.buf 0 ((s.found .host t).readBlob .host k 0 8192).2.1 ∧
          u.o Obj.BAR0_DOM_LEN = ((s.found .host t).readBlob .host k 0 8192).2.1.length ∧ u.mode = s.mode ∧ u.gen = s.gen)) ∧
    (∀ k r w, k = s.o Obj.BAR0_DOM_SEL → s.bar0.busy = none → Obj.find k = .ok r → r.ty.scalar = false →
      State.writeBlob .host k ((s.found .host t).staged (s.o Obj.BAR0_DOM_LEN)) (s.found .host t) = .ok w →
      Runs (exec (.bar0DomCmdWrite .host t) s) (fun u => u = { w with bar0 := { w.bar0 with busy := some (2, false) } })) ∧
    (∀ k c e, (k, c) ∈ [(1, Instr.bar0DomCmdRead .host t), (2, Instr.bar0DomCmdWrite .host t)] → s.bar0.busy = none →
      (if k = 1 then (s.found .host t).domRead else (s.found .host t).domWrite) = .error e → Runs (exec c s) (fun u =>
        u.bar0.busy = some (k, true) ∧ u.bar0.buf = s.bar0.buf ∧ u.o Obj.OD_LAST_ABORT = e ∧
          u.o Obj.OD_LAST_ABORT_ADDR = s.o Obj.BAR0_DOM_SEL)) ∧
    (∀ k refused, s.bar0.busy = some (k, refused) → Runs (exec (.bar0DomCmdEnd t) s) (fun u =>
      u.bar0 = { s.bar0 with busy := none } ∧ u.o Obj.BAR0_DOM_STATUS = (if refused then 4 else 2) ∧
        s.sameBut [Obj.BAR0_DOM_STATUS] u)) ∧
    (∀ c size, c < 16 →
      Runs (exec (.bar0LowRead .bar4 (0x1010 + 64 * c) size t) s) (fun u =>
        u.out = .value ((s.ch c).bytes % 2 ^ 32 % 256 ^ size) :: s.out ∧
          u.host = { s.host with latch := some (c, (s.ch c).bytes / 2 ^ 32) } ∧ s.keeps [.emitted, .time, .host] u) ∧
      (∀ v, s.host.latch = some (c, v) → Runs (exec (.bar0UpperRead .bar4 (0x1014 + 64 * c) size t) s) (fun u =>
        u.out = .value (v % 256 ^ size) :: s.out ∧ u.host = { s.host with latch := none } ∧ s.keeps [.emitted, .time, .host] u)) ∧
      (∀ v, Runs (exec (.bar0LowWrite .bar4 (0x1000 + 64 * c) v t) s) (fun u =>
        u.ch c = { s.ch c with tail := v % 4096 % s.o (Obj.DMA_RING_SIZE c) } ∧ (∀ j, j ≠ c → u.ch j = s.ch j) ∧
          s.keeps [.time, .dma] u))) ∧
    (∀ addr size v c, addr % 4 = 0 → bar4Has addr = false →
      c ∈ [Instr.bar0DroppedWrite .bar4 addr size t, .bar0UpperWrite .bar4 addr v t, .bar0LowWrite .bar4 addr v t] →
      Runs (exec c s) (fun u => s.sameBut [Obj.HP_CNT_BLOCKED] u ∧ s.keeps [.od, .time] u ∧
        u.oi Obj.HP_CNT_BLOCKED = clampI 0 0xFFFFFFFF (s.oi Obj.HP_CNT_BLOCKED + 1))) ∧
    (∀ size, Runs (exec (.bar0LowRead .config 0 size t) s) (fun u =>
      u.out = .value (0x48161D9B % 256 ^ size) :: s.out ∧ s.keeps [.emitted, .time] u))

/-- Where the host port is enabled and its domains are powered, releasing PERST, or training with PERST released,
brings the link up at a rate 1 to 4 and a width x1, x2 or x4, shown in HP_LINK, and changes no other object. Asserting
PERST takes the link down, clears HP_LINK, the latches, the host-port session and the MSI-X state, and leaves no
channel RUNNING, WAITING or STOPPING; a lost link does the same but keeps session and MSI-X state. With the port
disabled no training brings the link up. -/
def Obligations.HostLinkComesAndGoes : Prop :=
  ∀ (s : State) (rate lanes t : Nat), s.sound →
    (s.host.enabled = true → s.hostActive = true → linkShape rate lanes = true →
      Runs (exec (.pciePerstRelease rate lanes t) s) (fun u =>
        u.host = { s.host with perstN := true, link := true } ∧ u.o Obj.HP_LINK = rate * 16 + lanes ∧
          s.sameBut [Obj.HP_LINK] u ∧ s.keeps [.od, .time, .host] u)) ∧
    (s.host.enabled = true → s.host.perstN = true → s.hostActive = true → linkShape rate lanes = true →
      Runs (exec (.pcieLinkUp rate lanes t) s) (fun u =>
        u.host = { s.host with link := true } ∧ u.o Obj.HP_LINK = rate * 16 + lanes ∧
          s.sameBut [Obj.HP_LINK] u ∧ s.keeps [.od, .time, .host] u)) ∧
    (s.host.enabled = false → Runs (exec (.pcieLinkUp rate lanes t) s) (fun u => s.keeps [.time] u)) ∧
    (s.host.perstN = true → Runs (exec (.pciePerstAssert t) s) (fun u =>
      u.host.perstN = false ∧ u.host.link = false ∧ u.host.session = none ∧ u.host.latch = none ∧ u.bar0.latch = none ∧
        u.bar0.held = none ∧ u.host.msixEn = false ∧ u.host.vecPend = 0 ∧ u.o Obj.HP_LINK = 0 ∧
        (∀ c, c < 16 → (u.ch c).cur = none ∨ (u.ch c).cur = (s.ch c).cur) ∧
        (∀ c, c < 16 → ¬ (1 ≤ u.chState c ∧ u.chState c ≤ 3)))) ∧
    (s.host.link = true → Runs (exec (.pcieLinkDown t) s) (fun u =>
      u.host = { s.host with link := false } ∧ u.o Obj.HP_LINK = 0 ∧
        (∀ c, c < 16 → ¬ (1 ≤ u.chState c ∧ u.chState c ≤ 3))))

/-- With the link up, FLR clears latches, host-port session, challenge and MSI-X state, keeps the link, and leaves no
channel running; D3hot is entered and leaves no channel running; D3hot is left. Enabling MSI-X unmasks the function,
and unmasking one vector clears its mask bit; a pending vector that nothing masks any more is sent and no longer
pending. -/
def Obligations.FunctionResetAndPowerStates : Prop :=
  ∀ (s : State) (t : Nat), s.sound →
    (s.host.link = true → Runs (exec (.flr t) s) (fun u =>
      u.host.link = true ∧ u.host.session = none ∧ u.host.challenge = none ∧ u.host.latch = none ∧ u.bar0.latch = none ∧
        u.host.msixEn = false ∧ u.host.vecPend = 0 ∧ u.host.d3hot = false ∧
        (∀ c, c < 16 → ¬ (1 ≤ u.chState c ∧ u.chState c ≤ 3)))) ∧
    (s.host.link = true → s.host.d3hot = false → Runs (exec (.d3hotEntry t) s) (fun u =>
      u.host = { s.host with d3hot := true } ∧ (∀ c, c < 16 → ¬ (1 ≤ u.chState c ∧ u.chState c ≤ 3)))) ∧
    Runs (exec (.d3hotExit t) s) (fun u =>
      u.host.d3hot = false ∧ s.keeps [.emitted, .time, .host] u ∧
        (s.host.msixEn = true → s.host.fnMask = false → s.host.link = true →
          ∀ v, v < 32 → bitAt s.host.vecMask v = false → bitAt u.host.vecPend v = false)) ∧
    (s.host.link = true → s.host.d3hot = false → ∀ v, v < 32 → Runs (exec (.msixVectorUnmask false v t) s) (fun u =>
      bitAt u.host.vecMask v = false ∧ s.keeps [.emitted, .time, .host] u ∧
        (bitAt s.host.vecPend v = true → s.host.msixEn = true → s.host.fnMask = false →
          bitAt u.host.vecPend v = false ∧ Emit.msix v ∈ u.out))) ∧
    (s.host.link = true → s.host.d3hot = false → ∀ v, Runs (exec (.msixVectorUnmask true v t) s) (fun u =>
      u.host.msixEn = true ∧ u.host.fnMask = false ∧ u.host.vecMask = s.host.vecMask ∧ s.keeps [.emitted, .time, .host] u))

/-- With the link up, outside D3hot and with the controllers on, a BAR2 write to bytes that are open to the host (the
host region, or the base, slot and drift-sum planes of a position whose set is OPEN) puts exactly its bytes there and
leaves every other byte of frame memory; a write to any other bytes leaves all of frame memory and counts. A read
returns the bytes of frame memory. With the controllers off a read returns zeros, a write is dropped, each counted in
MEM_CNT_OFFLINE. Every 32 ms the refresh-rate
codes of the two devices are shown. -/
def Obligations.HostWritesFrameMemory : Prop :=
  ∀ (s : State) (t : Nat), s.sound → s.host.link = true → s.host.d3hot = false →
    (∀ a bs, a + bs.length ≤ 2 ^ 33 → s.mem.online = true →
      (s.hostWritable a bs.length = true → Runs (exec (.bar2Write a bs t) s) (fun u =>
        u.dram a bs.length = bs ∧
          (∀ j, j < a ∨ a + bs.length ≤ j → Store.get dramDflt u.mem.dram j = Store.get dramDflt s.mem.dram j) ∧
          s.keeps [.time, .mem, .host] u)) ∧
      (s.hostWritable a bs.length = false → Runs (exec (.bar2Write a bs t) s) (fun u =>
        u.mem = s.mem ∧ (regionsOf a bs.length = [] → u.oi Obj.HP_CNT_BLOCKED = clampI 0 0xFFFFFFFF (s.oi Obj.HP_CNT_BLOCKED + 1)) ∧
          (∀ p ∈ regionsOf a bs.length, u.oi (Obj.CORR_CNT_HOST_BLOCKED p.val) =
            clampI 0 0xFFFFFFFF (s.oi (Obj.CORR_CNT_HOST_BLOCKED p.val) + 1))))) ∧
    (∀ a n, s.mem.online = true → Runs (exec (.bar2OfflineAccess a n false t) s) (fun u =>
      u.out = .bytes (s.dram a n) :: s.out ∧ s.keeps [.emitted, .time, .host] u)) ∧
    (∀ a n, s.mem.online = false →
      Runs (exec (.bar2OfflineAccess a n false t) s) (fun u =>
        u.out = .bytes (List.replicate n 0#8) :: s.out ∧ u.mem.dram = s.mem.dram ∧
          u.oi Obj.MEM_CNT_OFFLINE = clampI 0 0xFFFFFFFF (s.oi Obj.MEM_CNT_OFFLINE + 1) ∧
          s.sameBut [Obj.MEM_CNT_OFFLINE] u ∧ s.keeps [.emitted, .od, .time, .mem] u) ∧
      Runs (exec (.bar2OfflineAccess a n true t) s) (fun u =>
        u.mem.dram = s.mem.dram ∧ u.mem.offlineAccess = true ∧
          u.oi Obj.MEM_CNT_OFFLINE = clampI 0 0xFFFFFFFF (s.oi Obj.MEM_CNT_OFFLINE + 1) ∧
          s.sameBut [Obj.MEM_CNT_OFFLINE] u ∧ s.keeps [.od, .time, .mem] u)) ∧
    (∀ r0 r1, s.mem.online = true → s.mem.refreshAt + 32000000 ≤ (s.advance t).time.mono →
      Runs (exec (.dramRefreshModeRead r0 r1 t) s) (fun u =>
        u.o (Obj.MEM_DEV_REFRESH 0) = r0 % 256 ∧ u.o (Obj.MEM_DEV_REFRESH 1) = r1 % 256 ∧
          s.sameBut [Obj.MEM_DEV_REFRESH 0, Obj.MEM_DEV_REFRESH 1] u ∧ s.keeps [.od, .time, .mem] u))

/-- With the link up, outside D3hot, on a channel 0 to 15: the doorbell sets TAIL modulo the ring size. RUN of an
IDLE, STOPPED or ERROR channel, where channels run, makes it RUNNING with no bytes counted, the ring indices kept from
STOPPED and zero otherwise. STOP and ABORT of a RUNNING, WAITING or STOPPING channel stop it at once without a
descriptor in progress, and make it STOPPING with one, which ABORT ends with result ABORTED. SOFT_REQ of a channel
bound to line 31 adds one pending request. No other channel and no memory changes. The same writes for a channel above
15 are dropped and count in HP_CNT_BLOCKED. -/
def Obligations.DmaChannelControl : Prop :=
  ∀ (s : State) (c t : Nat), s.sound → s.host.link = true → s.host.d3hot = false →
    (∀ v i, 16 ≤ c →
      i ∈ [Instr.dmaTailDoorbell c v t, .dmaCtrlRun c t, .dmaCtrlStop c t, .dmaCtrlAbort c t, .dmaCtrlSoftReq c t] →
      Runs (exec i s) (fun u => s.sameBut [Obj.HP_CNT_BLOCKED] u ∧ s.keeps [.od, .time] u ∧
        u.oi Obj.HP_CNT_BLOCKED = clampI 0 0xFFFFFFFF (s.oi Obj.HP_CNT_BLOCKED + 1))) ∧
    (c < 16 →
    (∀ v, Runs (exec (.dmaTailDoorbell c v t) s) (fun u =>
      u.ch c = { s.ch c with tail := v % 4096 % s.o (Obj.DMA_RING_SIZE c) } ∧ (∀ j, j ≠ c → u.ch j = s.ch j) ∧
        s.keeps [.time, .dma] u)) ∧
    (s.dmaRuns = true → s.chState c = 0 ∨ s.chState c = 4 ∨ s.chState c = 5 → Runs (exec (.dmaCtrlRun c t) s) (fun u =>
      u.chState c = 1 ∧ (u.ch c).bytes = 0 ∧ (u.ch c).cur = none ∧
        (u.ch c).head = (if s.chState c = 4 then (s.ch c).head else 0) ∧
        (u.ch c).tail = (if s.chState c = 4 then (s.ch c).tail else 0) ∧ (∀ j, j ≠ c → u.ch j = s.ch j) ∧
        s.sameBut [Obj.DMA_STATE c] u ∧ s.keeps [.od, .time, .dma] u)) ∧
    (1 ≤ s.chState c → s.chState c ≤ 3 →
      ((s.ch c).cur = none →
        Runs (exec (.dmaCtrlStop c t) s) (fun u => u.chState c = 4 ∧ u.dma = s.dma ∧ s.sameBut [Obj.DMA_STATE c] u) ∧
        Runs (exec (.dmaCtrlAbort c t) s) (fun u => u.chState c = 4 ∧ u.dma = s.dma ∧ s.sameBut [Obj.DMA_STATE c] u)) ∧
      (∀ x, (s.ch c).cur = some x →
        Runs (exec (.dmaCtrlStop c t) s) (fun u =>
          u.chState c = 3 ∧ (u.ch c).cur = some x ∧ (u.ch c).stopReq = max 1 (s.ch c).stopReq ∧
            (∀ j, j ≠ c → u.ch j = s.ch j) ∧ s.sameBut [Obj.DMA_STATE c] u) ∧
        Runs (exec (.dmaCtrlAbort c t) s) (fun u =>
          u.chState c = 3 ∧ (u.ch c).stopReq = 2 ∧
            (u.ch c).cur = some { x with result := if x.ending then x.result else 3, ending := true } ∧
            (∀ j, j ≠ c → u.ch j = s.ch j) ∧ s.sameBut [Obj.DMA_STATE c] u))) ∧
    (fieldOf (s.o (Obj.DMA_CFG c)) 4 0 = 31 → Runs (exec (.dmaCtrlSoftReq c t) s) (fun u =>
      (u.ch c).pending = (if (s.ch c).pending < 255 then (s.ch c).pending + 1 else (s.ch c).pending) ∧
        ((s.ch c).pending = 255 → (u.ch c).overrun = true) ∧ (∀ j, j ≠ c → u.ch j = s.ch j) ∧
        s.sameBut [Obj.DMA_STATE c] u ∧ s.keeps [.od, .time, .dma] u)))

/-- A RUNNING or WAITING channel with work and the link up takes the descriptor at HEAD, unless it waits for a request
and has none, when it is WAITING. The burst whose turn it is moves the smaller of the burst size and what is left, unless the
host answers its read with no data, which decides the end with PCIE. A
descriptor whose end is decided ends: the channel has none in progress, HEAD is one further modulo the ring size, its
result is shown, PCIE where the read-back got no data, one more descriptor counts, and bytes 24 to 31 are written back to the
host. A completion timeout
ends it with PCIE and ERROR, a cut in STANDBY after 10 ms with OFFLINE and STOPPED. -/
def Obligations.DmaDescriptorsRun : Prop :=
  ∀ (s : State) (c t : Nat), s.sound → c < 16 →
    (∀ b, (s.chState c = 1 ∨ s.chState c = 2) → (s.ch c).cur = none → (s.ch c).head ≠ (s.ch c).tail → s.host.link = true →
      Runs (exec (.dmaDescriptorStart c b t) s) (fun u =>
        (bitAt (descOf b).flags 3 = true ∧ (s.ch c).pending = 0 → u.chState c = 2 ∧ (u.ch c).cur = none) ∧
        (¬ (bitAt (descOf b).flags 3 = true ∧ (s.ch c).pending = 0) → u.chState c = 1 ∧
          ∃ x, (u.ch c).cur = some x ∧ x.desc = descOf b ∧ x.moved = 0 ∧
            (badDesc (descOf b) = true → x.result = 4 ∧ x.ending = true)) ∧
        (∀ j, j ≠ c → u.ch j = s.ch j))) ∧
    (∀ x data good, (s.ch c).cur = some x → (s.advance t).nextBurst = some c → s.host.link = true →
      (good = true ∨ bitAt x.desc.flags 0 = true → Runs (exec (.dmaBurstStart c data good t) s) (fun u =>
        ∃ y, (u.ch c).cur = some y ∧ y.moved = x.moved + min (s.burstSize c) (x.len - x.moved) ∧ y.bursts = x.bursts + 1 ∧
          y.desc = x.desc ∧ (y.ending = true ↔ x.len ≤ y.moved) ∧ (∀ j, j ≠ c → u.ch j = s.ch j))) ∧
      (good = false → bitAt x.desc.flags 0 = false → Runs (exec (.dmaBurstStart c data good t) s) (fun u =>
        u.mem = s.mem ∧ (u.ch c).cur = some { x with result := if x.result = 0 then 6 else x.result, ending := true } ∧
          (∀ j, j ≠ c → u.ch j = s.ch j)))) ∧
    (∀ x, (s.ch c).cur = some x →
      (x.ending = true → ∀ good res, res = (if good = false ∧ bitAt x.desc.flags 0 = true ∧ 4 ≤ x.moved ∧ x.result = 0 then 6 else x.result) →
        Runs (exec (.dmaDescriptorEnd c good t) s) (fun u =>
        (u.ch c).cur = none ∧ (u.ch c).head = ((s.ch c).head + 1) % s.o (Obj.DMA_RING_SIZE c) ∧ (u.ch c).lastResult = res ∧
          u.oi (Obj.DMA_CNT_DESC c) = clampI 0 0xFFFFFFFF (s.oi (Obj.DMA_CNT_DESC c) + 1) ∧
          (res = 3 ∨ res = 7 → u.chState c = 4) ∧ (4 ≤ res → res ≠ 7 → u.chState c = 5) ∧
          (∃ wb, Emit.dma c (s.o (Obj.DMA_RING_BASE c) + 32 * (s.ch c).head + 24) wb false ∈ u.out ∧ wb.length = 8))) ∧
      Runs (exec (.completionTimeout c t) s) (fun u =>
        (u.ch c).cur = none ∧ (u.ch c).lastResult = 6 ∧ u.chState c = 5) ∧
      (s.mode = Mode.standby → s.modes.since + 10000000 ≤ (s.advance t).time.now →
        Runs (exec (.dmaStandbyCut c t) s) (fun u =>
          (u.ch c).cur = none ∧ (u.ch c).lastResult = 7 ∧ u.chState c = 4)))

/-- SEC_LIFECYCLE_SET in STANDBY with VIN at 36 V or more: to OPEN from BLANK and to SEALED from OPEN (L2, an L2 key
provisioned), and to RETURN from BLANK or OPEN (L3), changes the lifecycle, ends every session and leaves fuses burned
before burned; into RETURN with storage open the customer slots are emptied. With storage open and the record's page in
order, SEC_KEY_WRITE (L2) sets level and key of a customer slot, leaves the other slots and ends the sessions opened
with it; SEC_KEY_ERASE empties the slot; SEC_ARCHIVE_KEY and SEC_TOKEN_KEY set their records; SEC_ARB_COMMIT raises the
anti-rollback counter to the running image's SVN and never lowers it. A key write that the keep array fails is refused
with NV, sets NV_FAULT and leaves every key. -/
def Obligations.KeysAndLifecycle : Prop :=
  ∀ (s : State) (via : Via) (t : Nat), s.sound →
    (∀ v, s.mode = 0 → 36000 ≤ s.pwr.vin →
      (v = 1 ∧ s.lifecycle = 0 ∧ s.hasL2 = true ∧ s.admits via 2 t) ∨ (v = 2 ∧ s.lifecycle = 1 ∧ s.hasL2 = true ∧ s.admits via 2 t) ∨
        (v = 3 ∧ (s.lifecycle = 0 ∨ s.lifecycle = 1) ∧ s.admits via 3 t) →
      Runs (exec (.secLifecycleSet via v t) s) (fun u =>
        u.lifecycle = v ∧ s.fusesKeep u ∧ u.chain.sessions = [] ∧ u.host.session = none ∧
          (v = 3 → s.nv.closed = false → ∀ k, k ≤ 5 → s.wornAt (Keep.key k) 64 = false → u.keyOf k = none))) ∧
    (s.admits via 2 t → s.nv.closed = false →
      (∀ v, v.length = 36 → leAt v 0 1 ≤ 5 → 1 ≤ leAt v 1 1 → leAt v 1 1 ≤ 2 → s.wornAt (Keep.key (leAt v 0 1)) 64 = false →
        Runs (exec (.secKeyWrite via v t) s) (fun u =>
          u.keyOf (leAt v 0 1) = some (leAt v 1 1, slice v 4 32) ∧ (∀ k, k ≠ leAt v 0 1 → u.keyOf k = s.keyOf k) ∧
            u.archiveKey = s.archiveKey ∧ (∀ x ∈ u.chain.sessions, x.keySlot ≠ leAt v 0 1) ∧ s.fusesKeep u)) ∧
      (∀ v, v ≤ 5 → s.wornAt (Keep.key v) 64 = false → Runs (exec (.secKeyErase via v t) s) (fun u =>
        u.keyOf v = none ∧ (∀ k, k ≠ v → u.keyOf k = s.keyOf k) ∧ (∀ x ∈ u.chain.sessions, x.keySlot ≠ v))) ∧
      (∀ v c, (v ≤ 5 ∧ c = Instr.secKeyErase via v t) ∨ (∃ b, c = .secKeyWrite via b t ∧ b.length = 36 ∧ v = leAt b 0 1 ∧ v ≤ 5 ∧
          1 ≤ leAt b 1 1 ∧ leAt b 1 1 ≤ 2) →
        s.wornAt (Keep.key v) 64 = true → Runs (exec c s) (fun u => u.nv.nvFault = true ∧ (∀ k, u.keyOf k = s.keyOf k) ∧
          (via = .host → u.o Obj.OD_LAST_ABORT = Abort.nv))) ∧
      (∀ v, v.length = 32 → s.wornAt Keep.archiveKey 64 = false → Runs (exec (.secArchiveKey via v t) s) (fun u =>
        u.archiveKey = some v ∧ ∀ k, u.keyOf k = s.keyOf k)) ∧
      (∀ v, v.length = 48 → s.wornAt Keep.tokenKey 64 = false → Runs (exec (.secTokenKey via v t) s) (fun u =>
        (u.secSet Keep.tokenKey 64).map (fun b => slice b 4 48) = some v ∧ ∀ k, u.keyOf k = s.keyOf k)) ∧
      (∀ v, v < 256 → s.boot.svn < 2 ^ 32 → s.wornAt Keep.arb 32 = false → Runs (exec (.secArbCommit via v t) s) (fun u =>
        (s.twoSlot Keep.arb < s.boot.svn → u.o Obj.SEC_ARB = s.boot.svn ∧ u.twoSlot Keep.arb = s.boot.svn) ∧
          (s.boot.svn ≤ s.twoSlot Keep.arb → u.twoSlot Keep.arb = s.twoSlot Keep.arb))))

/-- An AUTH OPEN heard with a session other than 0, no lock-out and a working random source issues a challenge with
the nonce of its reply, and no session of that number is open; a generator that fails its health tests refuses it with
INTERNAL, and no challenge is issued. A PROVE right for a challenge younger than 1 s opens
the session at its level, of at most four; any other opens none, counts in AUTH_CNT_FAIL, and after seven failures in
a row locks its path out for 60 s. CLOSE ends the session; so do ten idle minutes. A lock-out ends with its time and
leaves the failures. The host port's HP_AUTH commands do the same for its one session. -/
def Obligations.SessionsAreProven : Prop :=
  ∀ (s : State) (r : Req) (t : Nat), s.sound →
    (s.hears r .unicast 36 → s.fresh r 0x50 →
      (leAt r.payload 0 1 = 1 → r.session ≠ 0 → (s.heard r).lockedOut (b2n r.portB) = false →
        Runs (exec (.authOpen r false) s) (fun u => u.chain.challenges = s.chain.challenges ∧
          (u.port r.portB).queue.getLast? =
            some (0x50, u.telegram 0x50 0xC0 0 r.seq r.session (beBytes 4 Abort.internal))) ∧
        Runs (exec (.authOpen r true) s) (fun u => ∃ c, u.chain.challenges.head? = some c ∧ c.id = r.session ∧
          c.level = leAt r.payload 1 1 ∧ c.keySlot = leAt r.payload 2 1 ∧ c.masterNonce = slice r.payload 4 16 ∧
          c.at_ = u.time.mono ∧ (∀ x ∈ u.chain.sessions, x.id ≠ r.session) ∧
          (u.port r.portB).queue.getLast? =
            some (0x50, u.telegram 0x50 0x80 0 r.seq r.session (authReply 2 0 0 c.nonce)))) ∧
      (leAt r.payload 0 1 = 3 →
        (∀ c, (s.heard r).chain.challenges.find? (fun y => y.id == r.session) = some c →
          (s.heard r).time.mono ≤ c.at_ + 1000000000 →
          (s.heard r).proveOk c.id c.level c.keySlot c.masterNonce c.nonce (slice r.payload 4 32) = true →
          Runs (exec (.authProve r) s) (fun u => u.chain.sessions.length ≤ 4 ∧
            u.chain.sessions.head? = some { id := c.id, level := c.level, keySlot := c.keySlot, lastUse := u.time.mono } ∧
            (∀ y ∈ u.chain.challenges, y.id ≠ r.session))) ∧
        ((∀ c, (s.heard r).chain.challenges.find? (fun y => y.id == r.session) = some c →
            c.at_ + 1000000000 < (s.heard r).time.mono ∨
              (s.heard r).proveOk c.id c.level c.keySlot c.masterNonce c.nonce (slice r.payload 4 32) = false) →
          Runs (exec (.authProve r) s) (fun u => u.chain.sessions = (s.heard r).chain.sessions ∧
            u.oi Obj.AUTH_CNT_FAIL = clampI 0 0xFFFFFFFF (s.oi Obj.AUTH_CNT_FAIL + 1) ∧
            (s.authFails (b2n r.portB) = 7 → u.authLock (b2n r.portB) = some (u.time.mono + 60000000000))))) ∧
      (leAt r.payload 0 1 = 5 → Runs (exec (.authClose r) s) (fun u => ∀ x ∈ u.chain.sessions, x.id ≠ r.session))) ∧
    (∀ id, ((s.advance t).hostIdle id = true → Runs (exec (.sessionIdleExpiry id t) s) (fun u => u.host.session = none)) ∧
      ((s.advance t).chainIdle id = true → Runs (exec (.sessionIdleExpiry id t) s) (fun u =>
        ∀ x ∈ u.chain.sessions, x.id ≠ id))) ∧
    (∀ id, (s.advance t).hostIdle id = false → (s.advance t).chainIdle id = false → Runs (exec (.sessionIdleExpiry id t) s) (s.keeps [.time])) ∧
    (∀ path e, s.authLock path = some e → e ≤ (s.advance t).time.mono → Runs (exec (.authLockoutExpiry path t) s) (fun u =>
      u.authLock path = none ∧ u.authFails path = s.authFails path)) ∧
    (s.admits .host 0 t →
      (∀ v, v.length = 20 → (s.advance t).lockedOut 2 = false → Runs (exec (.hpAuthReq v false t) s) (fun u =>
        u.host.challenge = s.host.challenge ∧ u.o Obj.OD_LAST_ABORT = Abort.internal)) ∧
      (∀ v, v.length = 20 → (s.advance t).lockedOut 2 = false → Runs (exec (.hpAuthReq v true t) s) (fun u =>
        u.host.session = none ∧ u.host.challenge =
          some (leAt v 0 1, leAt v 1 1, slice v 4 16, u.dom Obj.HP_AUTH_CHAL, u.time.mono))) ∧
      (∀ v level slot nm nd at_, v.length = 32 → s.host.challenge = some (level, slot, nm, nd, at_) →
        ((s.advance t).time.mono ≤ at_ + 1000000000 → s.proveOk 0xFFFFFFFF level slot nm nd v = true →
          Runs (exec (.hpAuthProve v t) s) (fun u =>
            u.host.session = some (level, slot, u.time.mono) ∧ u.host.challenge = none)) ∧
        (at_ + 1000000000 < (s.advance t).time.mono ∨ s.proveOk 0xFFFFFFFF level slot nm nd v = false →
          Runs (exec (.hpAuthProve v t) s) (fun u => u.host.challenge = none ∧ u.host.session = (s.found .host t).host.session ∧
            u.oi Obj.AUTH_CNT_FAIL = clampI 0 0xFFFFFFFF (s.oi Obj.AUTH_CNT_FAIL + 1)))) ∧
      (∀ v, v < 256 → Runs (exec (.hpAuthClose v t) s) (fun u => u.host.session = none)))

/-- A token of 232 bytes by DBG_TOKEN (L2) or over the TAP is verified; one that fails a check changes neither token
nor vendor state, a good one of kind 1 unlocks OBSERVE, and with storage open one of kind 2 unlocks FULL, ends every
session and empties the customer slots whose pages are in order. DBG_SET_GRADE sets the grade in OPEN, DBG_LOCK ends every unlock. TAP
instructions load their code: IDCODE and DBG_STATUS are shifted out, EXTEST (STANDBY, SAFE) and SAMPLE shift out the
balls where scan is permitted and BYPASS else; DBG_ACCESS reads a word, which the spec leaves open, and holds a domain
under FULL; under NONE it is BYPASS. The steward halts under FULL in SERVICE and runs on. -/
def Obligations.DebugUnderItsGrade : Prop :=
  ∀ (s : State) (t : Nat), s.sound →
    (∀ via v, s.admits via 2 t → v.length = 232 → s.dbg.verifying = none → Runs (exec (.dbgToken via v t) s) (fun u =>
      u.dbg = { s.dbg with verifying := some v } ∧ u.mode = s.mode)) ∧
    (∀ v, s.dbg.verifying = some v → s.fwUp = true →
      ((s.advance t).tokenCheck v ≠ 0 → Runs (exec (.dbgTokenAccept t) s) (fun u =>
        u.dbg = { s.dbg with verifying := none } ∧ u.chain.sessions = s.chain.sessions ∧ ∀ k, u.keyOf k = s.keyOf k)) ∧
      ((s.advance t).tokenCheck v = 0 → leAt v 5 1 = 1 → Runs (exec (.dbgTokenAccept t) s) (fun u =>
        u.dbg.token = max 1 s.dbg.token ∧ u.dbg.vendor = s.dbg.vendor ∧ u.dbg.verifying = none)) ∧
      ((s.advance t).tokenCheck v = 0 → leAt v 5 1 = 2 → s.nv.closed = false → Runs (exec (.dbgTokenAccept t) s) (fun u =>
        u.dbg.token = 2 ∧ u.dbg.vendor = true ∧ u.chain.sessions = [] ∧
          ∀ k, k ≤ 5 → s.wornAt (Keep.key k) 64 = false → u.keyOf k = none))) ∧
    (∀ via v, s.admits via 2 t → s.lifecycle = 1 → v ≤ 2 → Runs (exec (.dbgSetGrade via v t) s) (fun u => u.dbg.setGrade = v)) ∧
    (∀ via v, s.admits via 1 t → v < 256 → Runs (exec (.dbgLock via v t) s) (fun u =>
      u.dbg.token = 0 ∧ u.dbg.vendor = false ∧ u.dbg.setGrade = 0 ∧ u.dbg.verifying = none)) ∧
    (s.tapUp = true →
      (∀ pins bits, s.scanPermitted = true → s.mode = 0 ∨ s.mode = 5 → Runs (exec (.tapExtest pins bits t) s) (fun u =>
        u.dbg = { s.dbg with ir := 0, boundary := bits } ∧ u.out = .tdo pins :: s.out)) ∧
      (∀ pins bits, s.scanPermitted = true → Runs (exec (.tapSamplePreload pins bits t) s) (fun u =>
        u.dbg = { s.dbg with ir := 1, boundary := bits } ∧ u.out = .tdo pins :: s.out)) ∧
      (∀ pins bits c, (c = Instr.tapSamplePreload pins bits t ∧ s.scanPermitted = false ∨ c = .tapBypass bits.length t ∨
          c = .tapExtest pins bits t ∧ (s.scanPermitted = false ∨ s.mode ≠ 0 ∧ s.mode ≠ 5)) →
        Runs (exec c s) (fun u => u.dbg = { s.dbg with ir := 0xFF } ∧ u.out = .tdo [0#8] :: s.out)) ∧
      Runs (exec (.tapIdcode t) s) (fun u => u.dbg.ir = 2 ∧ u.out = .tdo (leBytes 4 Config.idcode) :: s.out) ∧
      Runs (exec (.tapDbgStatus t) s) (fun u => u.dbg.ir = 3 ∧ u.out = .tdo (leBytes 2 s.dbgStatus) :: s.out) ∧
      Runs (exec (.tapReset t) s) (fun u => u.dbg.ir = 2 ∧ u.out = s.out) ∧
      (∀ v, s.fwUp = true → v.length = 232 → s.dbg.verifying = none → Runs (exec (.tapDbgToken v t) s) (fun u =>
        u.dbg = { s.dbg with ir := 4, verifying := some v })) ∧
      (∀ d addr v, s.grade ≠ 0 →
        Runs (exec (.tapDbgAccess 0 d addr v t) s) (fun u => u.dbg.ir = 5 ∧ ∃ w, w < 2 ^ 32 ∧ u.out = .value w :: s.out) ∧
        Runs (exec (.tapDbgAccess 1 d addr v t) s) (fun u => u.dbg.ir = 5 ∧ u.out = s.out) ∧
        (s.grade = 2 → s.holdable d = true → Runs (exec (.tapDbgAccess 2 d addr v t) s) (fun u => d ∈ u.dbg.held)) ∧
        Runs (exec (.tapDbgAccess 3 d addr v t) s) (fun u => d ∉ u.dbg.held)) ∧
      (∀ k d addr v, s.grade = 0 → Runs (exec (.tapDbgAccess k d addr v t) s) (fun u =>
        u.dbg = { s.dbg with ir := 0xFF } ∧ u.out = .tdo [0#8] :: s.out))) ∧
    (s.fwUp = true → s.grade = 2 → s.mode = 4 → s.modes.armed = none → Runs (exec (.stewardHalt 1 t) s) (fun u =>
      u.dbg = { s.dbg with halted := true } ∧ s.keeps [.time, .dbg] u)) ∧
    Runs (exec (.stewardHalt 0 t) s) (fun u => u.dbg = { s.dbg with halted := false } ∧ s.keeps [.time, .dbg] u)

/-- With storage open, a write of which every byte may be written and that is read back right leaves its bytes at their
addresses, wrapping within the page, the last one at each, and every other byte as it was; a byte that is protected
and not of the item the steward writes is dropped and the write counted; one read back wrong twice sets NV_FAULT and
leaves other pages outside the log. An address beyond the array changes nothing. NV_USER_DATA (L1) writes
its bytes at NV_USER_ADDR, or is refused with NV. An anneal that runs takes the next page and at the last records its
time; it begins when its period has passed, or at NV_ANNEAL_NOW (L2), with the store's where it is formatted. A whole
hour of firmware adds one to the hours kept, where the page of their record is in order. -/
def Obligations.KeepArrayWrites : Prop :=
  ∀ (s : State) (via : Via) (t : Nat), s.sound →
    (∀ addr bytes item good, 0x80000 ≤ addr → Runs (exec (.keepArrayWrite addr bytes item good t) s) (s.keeps [.time])) ∧
    (∀ addr bytes item good, addr < 0x80000 → s.boot.phase ≠ .off → s.boot.phase ≠ .reset → s.nv.closed = false →
      ((∀ i, i < bytes.length → s.keepTakes item addr (addr / 256 * 256 + (addr + i) % 256) = true) → good < 2 →
        Runs (exec (.keepArrayWrite addr bytes item good t) s) (fun u => s.keeps [.time, .nv] u ∧
          (∀ i, i < bytes.length → (∀ j, i < j → j < bytes.length → (addr + j) % 256 ≠ (addr + i) % 256) →
            u.keep (addr / 256 * 256 + (addr + i) % 256) 1 = [bytes.getD i 0#8]) ∧
          ∀ a, (∀ i, i < bytes.length → a ≠ addr / 256 * 256 + (addr + i) % 256) → u.keep a 1 = s.keep a 1)) ∧
      (∀ i, i < bytes.length → s.keepTakes item addr (addr / 256 * 256 + (addr + i) % 256) = false →
        Runs (exec (.keepArrayWrite addr bytes item good t) s) (fun u =>
          u.oi Obj.NV_CNT_KEEP_DROP = clampI 0 0xFFFFFFFF (s.oi Obj.NV_CNT_KEEP_DROP + 1) ∧
            ∀ a, a < 0x10000 ∨ 0x14000 ≤ a → a / 256 ≠ addr / 256 ∨ s.keepTakes item addr a = false →
              u.keep a 1 = s.keep a 1)) ∧
      (∀ i, i < bytes.length → s.keepTakes item addr (addr / 256 * 256 + (addr + i) % 256) = true → 2 ≤ good →
        Runs (exec (.keepArrayWrite addr bytes item good t) s) (fun u =>
          u.nv.nvFault = true ∧ ∀ a, a < 0x10000 ∨ 0x14000 ≤ a → a / 256 ≠ addr / 256 → u.keep a 1 = s.keep a 1))) ∧
    (∀ bytes good, s.admits via 1 t → 1 ≤ bytes.length → bytes.length ≤ 256 → s.expertOn Obj.NV_USER_DATA = false →
      s.o Obj.NV_KEEP_BP < 3 → s.nv.closed = false →
      (good < 2 → Runs (exec (.nvUserData via bytes good t) s) (fun u => u.mode = s.mode ∧ (s.found via t).sameBut [] u ∧
        (∀ i, i < bytes.length →
          u.keep (s.o Obj.NV_USER_ADDR / 256 * 256 + (s.o Obj.NV_USER_ADDR + i) % 256) 1 = [bytes.getD i 0#8]) ∧
        ∀ a, a / 256 ≠ s.o Obj.NV_USER_ADDR / 256 → u.keep a 1 = s.keep a 1)) ∧
      (2 ≤ good → via = .host → Runs (exec (.nvUserData via bytes good t) s) (fun u =>
        u.nv.nvFault = true ∧ u.o Obj.OD_LAST_ABORT = Abort.nv ∧ u.o Obj.OD_LAST_ABORT_ADDR = Obj.NV_USER_DATA))) ∧
    (∀ page weak, s.serving = true → s.nv.closed = false →
      (s.nv.keepAnneal = some page → page + 1 < 2048 → Runs (exec (.keepAnneal page weak t) s) (fun u =>
        u.nv.keepAnneal = some (page + 1) ∧ s.sameBut [Obj.NV_CNT_KEEP_WEAK] u)) ∧
      (s.nv.keepAnneal = some page → 2047 ≤ page → Runs (exec (.keepAnneal page weak t) s) (fun u =>
        u.nv.keepAnneal = none ∧ u.oi Obj.NV_LAST_ANNEAL = u.time.now ∧
          s.sameBut [Obj.NV_CNT_KEEP_WEAK, Obj.NV_LAST_ANNEAL] u)) ∧
      (s.nv.keepAnneal = none → s.nv.annealHours + s.o Obj.NV_ANNEAL_PERIOD ≤ s.o Obj.DEV_ON_HOURS →
        Runs (exec (.keepAnneal 0 weak t) s) (fun u =>
          u.nv.keepAnneal = some 1 ∧ u.nv.annealHours = s.o Obj.DEV_ON_HOURS))) ∧
    (∀ v, s.admits via 2 t → v < 256 → Runs (exec (.nvAnnealNow via v t) s) (fun u => u.nv.keepAnneal = some 0 ∧
      u.nv.storeAnneal = (if s.nv.journal.isSome then some 0 else none) ∧ (s.found via t).sameBut [] u)) ∧
    (s.fwUp = true → s.nv.closed = false → s.twoSlot (Keep.counter 1) + 1 < 2 ^ 64 → s.wornAt (Keep.counter 1) 32 = false →
      Runs (exec (.powerOnHours t) s) (fun u => u.twoSlot (Keep.counter 1) = s.twoSlot (Keep.counter 1) + 1 ∧
        u.oi Obj.DEV_ON_HOURS = s.twoSlot (Keep.counter 1) + 1 ∧
        ((twoSlotPick (s.keep (Keep.counter 1) 32)).isSome = true → s.sameBut [Obj.DEV_ON_HOURS] u)))

/-- NV_SET_SAVE (not in SAFE) and CORR_SAVE_GO (set CLOSED, not eclipsing, a key named, without archive encryption)
start PARAM_SAVE, and while the device is busy their record waits behind those before it. NV_SET_DELETE and
NV_RECORD_DELETE queue a deletion, or are refused with NV where the store takes no write; with nothing else in progress
it starts at both heads with the next SEQ. A record
write whose secondary COMMIT has been read back moves both heads beyond its copies, makes its SEQ the highest and ends
the save it served. NV_SET_APPLY in STANDBY writes and commits a readable set; a refused entry or COMMIT sets
STARTUP_SET_FAIL, and an unreadable set is refused with NV. -/
def Obligations.RecordsAreWritten : Prop :=
  ∀ (s : State) (via : Via) (t : Nat), s.sound →
    (s.admits via 2 t → s.mode ≠ 5 → s.opRunning 3 = false → s.storeOpen = true →
      (∀ v, v ≤ 7 → Runs (exec (.nvSetSave via v t) s) (fun u =>
        (u.o (Obj.OP_STATE 3) = 1 ∧ u.ops.save = some (1, v, recordKey v) ∨ u.o (Obj.OP_STATE 3) = 3) ∧
          (s.nv.flashOp.isSome = true → u.o (Obj.OP_STATE 3) = 1 ∧
            u.nv.queue = s.nv.queue ++ [RecJob.make (recordKey v) 0 ((s.found via t).setPayload v) 1 0 0]))) ∧
      (∀ p v, v < 256 → s.coefState p = 0 → s.o (Obj.ECL_PHASE p.val) = 0 → s.ob Obj.SEC_ARCHIVE_ENC = false →
        s.o (Obj.CORR_SAVE_KEY p.val) ≠ 0 → Runs (exec (.corrSaveGo via p v t) s) (fun u =>
        (u.o (Obj.OP_STATE 3) = 1 ∧ u.ops.save = some (0, p.val, s.o (Obj.CORR_SAVE_KEY p.val)) ∨ u.o (Obj.OP_STATE 3) = 3) ∧
          (s.nv.flashOp.isSome = true → u.o (Obj.OP_STATE 3) = 1 ∧ u.nv.queue =
            s.nv.queue ++ [RecJob.make (s.o (Obj.CORR_SAVE_KEY p.val)) 0 ((s.found via t).archiveBytes p) 0 0 0])))) ∧
    (∀ c key, s.admits via 2 t →
      (∃ v, v ≤ 7 ∧ c = Instr.nvSetDelete via v t ∧ key = recordKey v) ∨ (c = .nvRecordDelete via key t ∧ keyOk key = true) →
      s.storeOpen = false → Runs (exec c s) (fun u => u.nv.queue = s.nv.queue ∧ (via = .host → u.o Obj.OD_LAST_ABORT = Abort.nv))) ∧
    (∀ c key j, s.admits via 2 t → s.storeOpen = true → s.nv.journal = some j → 48 ≤ j.free 0 → 48 ≤ j.free 1 →
      (∃ v, v ≤ 7 ∧ c = Instr.nvSetDelete via v t ∧ key = recordKey v) ∨ (c = .nvRecordDelete via key t ∧ keyOk key = true) →
      (s.nv.flashOp.isSome = true → Runs (exec c s) (fun u => u.nv.queue = s.nv.queue ++ [RecJob.make key 0 [] 4 0 0])) ∧
      (s.nv.flashOp = none → s.nv.job = none → s.nv.queue = [] → s.nv.repairs = [] → s.pwr.blocked = false →
        Runs (exec c s) (fun u => ∃ x, u.nv.job = some x ∧ x.key = key ∧
          x.payload = [] ∧ x.seq = s.o Obj.NV_STORE_SEQ + 1 ∧ x.priAt = j.head 0 ∧ x.secAt = j.head 1 ∧ u.nv.queue = []))) ∧
    (∀ x j, s.nv.closed = false → s.nv.job = some x → 4 ≤ x.phase → s.nv.journal = some j →
      Runs (exec (.recordWriteEnd t) s) (fun u => u.o Obj.NV_STORE_SEQ = x.seq ∧
        (∃ k, u.nv.journal = some k ∧ k.head 0 = x.priAt + recTotal x.payload.length ∧
          k.head 1 = x.secAt + recTotal x.payload.length) ∧
        (x.purpose ≤ 1 → s.opRunning 3 = true → u.o (Obj.OP_STATE 3) = 2))) ∧
    (∀ v r, s.admits via 2 t → v ≤ 7 → s.mode = 0 → r = (s.found via t).xipRecord (recordKey v) →
      (∀ l x w, (s.found via t).readSet v = some l → State.putEntries l r = (x, true) → x.commit 15 = .ok w →
        Runs (exec (.nvSetApply via v t) s) (fun u => u.od = w.od ∧ u.gen = w.gen ∧ u.doms = w.doms)) ∧
      (∀ l, (s.found via t).readSet v = some l →
        (State.putEntries l r).2 = false ∨ (∃ e, (State.putEntries l r).1.commit 15 = .error e) →
        Runs (exec (.nvSetApply via v t) s) (fun u => bitAt (u.o Obj.BOOT_STATUS) 15 = true)) ∧
      ((s.found via t).readSet v = none → via = .host → Runs (exec (.nvSetApply via v t) s) (fun u =>
        u.o Obj.OD_LAST_ABORT = Abort.nv ∧ u.gen = s.gen ∧ (s.found via t).sameBut [Obj.OD_LAST_ABORT, Obj.OD_LAST_ABORT_ADDR] u)))

/-- A device that reports busy changes no storage; a failure counts in SP1_CNT_FLASH_FAIL; with no reclaim an erase that
is ready leaves its sector erased, and a program has cleared bits only. When nothing else is in progress, the record at
the head of the repair list is rewritten with the next SEQ and the sector there erased. STORE_COMPACT ends DONE at once
with nothing superseded, else takes the tail sector of an area and erases it when its current records fit at the head,
fails with NV when they do not, and ends DONE when no area needs it.
NV_STORE_FORMAT (L3, SERVICE) begins with the first sector. The store's anneal moves on by one sector. 2 ms into an NV
close a program still running is cut, counted, and nothing waits any more. -/
def Obligations.StoreUpkeep : Prop :=
  ∀ (s : State) (via : Via) (t : Nat), s.sound →
    (∀ op, s.nv.flashOp = some op →
      Runs (exec (.flashStatusPoll true false t) s) (s.keeps [.time, .serial]) ∧
      (∀ busy, Runs (exec (.flashStatusPoll busy true t) s) (fun u =>
        u.oi Obj.SP1_CNT_FLASH_FAIL = clampI 0 0xFFFFFFFF (s.oi Obj.SP1_CNT_FLASH_FAIL + 1) ∧
          (op.2.2.1 ≠ 0 ∨ s.nv.reclaim = none → u.nv.flash = s.nv.flash))) ∧
      (op.2.2.1 = 0 → s.nv.reclaim = none → Runs (exec (.flashStatusPoll false false t) s) (fun u =>
        ∀ i, i < 65536 → u.flashBytes op.1 (op.2.1 + i) 1 = [0xFF#8])) ∧
      (∀ x y, op.2.2.1 ≠ 0 → s.nv.job = some x → y = x.piece (s.jobPage x) → Runs (exec (.flashStatusPoll false false t) s) (fun u =>
        u.flashBytes op.1 op.2.1 y.2 = ((s.flashBytes op.1 op.2.1 y.2).zip (slice x.bytes y.1 y.2)).map (fun b => b.1 &&& b.2)))) ∧
    (∀ key rest j c x, s.mayRepair = true → s.nv.repairs = .rewrite key :: rest → s.nv.journal = some j →
      s.current key = some c → c.conflict = true ∨ c.both = false → s.repairJob key = some x → s.dom80 79 ≠ 3 →
      s.o Obj.NV_STORE_SEQ + 1 < 0xFFFFFFFF → recTotal x.payload.length ≤ j.free 0 → recTotal x.payload.length ≤ j.free 1 →
      Runs (exec (.recordRepair t) s) (fun u => ∃ y, u.nv.job = some y ∧ y.key = key ∧ y.payload = x.payload ∧
        y.seq = s.o Obj.NV_STORE_SEQ + 1 ∧ u.nv.repairs = s.nv.repairs)) ∧
    (∀ n rest, s.mayRepair = true → s.nv.repairs = .erase n :: rest → Runs (exec (.eraseRedone t) s) (fun u =>
      u.nv.flashOp = some ((s.sectorAt n).1, (s.sectorAt n).2, 0, u.time.mono) ∧ u.nv.flash = s.nv.flash)) ∧
    (s.mayRepair = true → s.nv.repairs = [] →
      (s.compactArea = none → s.opRunning 5 = true → s.ops.compact = some 0 → Runs (exec (.storeCompaction t) s) (fun u =>
        u.o (Obj.OP_STATE 5) = 2 ∧ u.ops.compact = none ∧ s.keeps [.time, .od, .ops, .emitted, .host] u)) ∧
      (∀ a j sector rest need, s.compactArea = some a → s.nv.journal = some j → j.ring a = sector :: rest → 65536 ≤ j.head a →
        need = ((s.toCopy a (s.recordsIn 0) (s.recordsIn 1)).map (·.total)).foldl (· + ·) 0 →
        (need ≤ j.free a → Runs (exec (.storeCompaction t) s) (fun u =>
          u.nv.flashOp = some ((s.sectorAt sector).1, (s.sectorAt sector).2, 0, u.time.mono) ∧
            (∃ k, u.nv.journal = some k ∧ k.erasing = sector) ∧ u.nv.repairs = [])) ∧
        (j.free a < need → Runs (exec (.storeCompaction t) s) (fun u =>
          u.nv.flash = s.nv.flash ∧ u.nv.journal = s.nv.journal ∧ u.nv.storeLow = true ∧
            (s.opRunning 5 = true → s.ops.compact = some 0 →
              u.o (Obj.OP_STATE 5) = 3 ∧ u.o (Obj.OP_RESULT 5) = Abort.nv ∧ u.ops.compact = none))))) ∧
    (∀ v, v < 256 → s.admits via 2 t → s.mode = 0 ∨ s.mode = 4 → s.opRunning 5 = false → s.storeOpen = true →
      Runs (exec (.nvCompactGo via v t) s) (fun u =>
        if s.compactNeed 0 + s.compactNeed 1 = 0 then u.o (Obj.OP_STATE 5) = 2 ∧ u.ops.compact = none
        else u.o (Obj.OP_STATE 5) = 1 ∧ u.ops.compact = some 0)) ∧
    (∀ v, v < 256 → s.admits via 3 t → s.mode = 4 → s.opRunning 5 = false → s.opRunning 3 = false → s.nv.flashOp = none →
      s.nv.job = none → s.nv.closed = false → s.storeSectors ≠ 0 → s.dom80 79 ≠ 3 → Runs (exec (.nvStoreFormat via v t) s) (fun u =>
        u.o (Obj.OP_STATE 5) = 1 ∧ u.ops.compact = some 1 ∧
          (s.mayProgram = true → u.nv.flashOp = some ((s.sectorAt 0).1, (s.sectorAt 0).2, 0, u.time.mono)))) ∧
    (∀ n j weak flips, s.nv.storeAnneal = some n → s.nv.journal = some j → s.mode ≠ 5 → s.serving = true →
      s.nv.closed = false → s.nv.flashOp = none → s.nv.job = none → s.dom80 79 ≠ 3 →
      Runs (exec (.storeAnneal n weak flips t) s) (fun u =>
        u.nv.storeAnneal = (if n + 1 < (j.ring 0).length + (j.ring 1).length then some (n + 1) else none) ∧
          (weak = false → flips = [] → u.nv.flash = s.nv.flash ∧ (s.nv.marginReads = true → s.keeps [.time, .nv] u)))) ∧
    (∀ cause op, s.nv.closeLog = some cause → s.nv.closeAt + 2000000 ≤ (s.advance t).time.mono → s.nv.flashOp = some op →
      Runs (exec (.nvCloseFlashCut t) s) (fun u => u.nv.flashOp = none ∧ u.nv.closed = true ∧ u.nv.closeLog = none ∧
        u.nv.job = none ∧ u.nv.queue = [] ∧
        u.oi Obj.NV_CNT_QUENCH_CUT = clampI 0 0xFFFFFFFF (s.oi Obj.NV_CNT_QUENCH_CUT + 1)))

/-- On a port that serves, a READ within the window returns the status byte and the bytes there, STATUS the status
byte, and both clear the port's flags; an address beyond the window or an unknown command counts CMD_ERR, a READ past
the end OVR, one cut within a byte FRAME_ERR, and a read of MBX_STATE clears MBX_DONE. A WRITE of MBX_INDEX, MBX_SUB and
a command makes the mailbox BUSY, and while BUSY its registers take nothing. The mailbox's READ and WRITE end DONE with
what the object gives, or REFUSED with the abort code. In boot recovery PROGRAM erases the sector its page begins and
then programs the page, each when it owns the bus, and FINISH makes a good slot the active one. With nothing waiting the
module takes the shared bus once it may; a late release and a collision count. DQS calibration selects the centre of the
widest run. XIP returns the bytes of the flash, at once from the prefetch buffer, and waits for the bus else. A raw
transfer drives what its descriptor names once SP1 is free, and waits till then. -/
def Obligations.SerialPorts : Prop :=
  ∀ (s : State) (port : Bool) (via : Via) (t : Nat), s.sound →
    (s.slaveServes port = true →
      (∀ addr n gap edges, gap = (if port then [] else List.replicate (2 + (s.slvDummy port + 7) / 8) 0#8) →
        edges = s.slvEdges port true true (n + b2n port) →
        (addr + n ≤ 0x400 → addr < 0x400 → Runs (exec (.sp1SlaveRead port addr edges t) s) (fun u => s.sameBut [] u ∧
          u.slaveErr port = ⟨false, false, false⟩ ∧ (addr ≤ 0x24 → 0x24 < addr + n → u.serial.slave.mbxDone = false) ∧
          u.out = .slave (b2n port) (s.statusByte port ::
            (gap ++ (List.range n).map (fun i => s.winByte (addr + i)))) :: s.out)) ∧
        (addr < 0x400 → 0x400 < addr + n → Runs (exec (.sp1SlaveRead port addr edges t) s) (fun u =>
          (u.slaveErr port).ovr = true ∧
            u.oi (Obj.SP_CNT_OVR (b2n port)) = clampI 0 0xFFFFFFFF (s.oi (Obj.SP_CNT_OVR (b2n port)) + 1))) ∧
        Runs (exec (.mbxStateRead port t) s) (fun u => u.serial.slave.mbxDone = false ∧ u.out = .slave (b2n port)
          (s.statusByte port :: (gap ++ [byteOf s.serial.slave.mbxState])) :: s.out)) ∧
      (∀ addr edges, 0x400 ≤ addr → s.slvHead port true ≤ edges → Runs (exec (.sp1SlaveRead port addr edges t) s) (fun u =>
        (u.slaveErr port).cmd = true ∧
          u.oi (Obj.SP_CNT_CMD (b2n port)) = clampI 0 0xFFFFFFFF (s.oi (Obj.SP_CNT_CMD (b2n port)) + 1))) ∧
      (∀ addr edges, s.slvFrame port true true edges = true → Runs (exec (.sp1SlaveRead port addr edges t) s) (fun u =>
        (u.slaveErr port).frame = true ∧
          u.oi (Obj.SP_CNT_FRAME (b2n port)) = clampI 0 0xFFFFFFFF (s.oi (Obj.SP_CNT_FRAME (b2n port)) + 1))) ∧
      (∀ n, port = false ∨ n ≠ 0 → Runs (exec (.sp1SlaveStatus port 0x05 (s.slvEdges port false port n) t) s) (fun u => s.sameBut [] u ∧
        u.slaveErr port = ⟨false, false, false⟩ ∧
          u.out = .slave (b2n port) (List.replicate (if port then n else n + 1) (s.statusByte port)) :: s.out)) ∧
      (∀ cmd edges, cmd ≠ 0x02 → cmd ≠ 0x05 → cmd ≠ 0x0B → s.slvHead port false ≤ edges →
        Runs (exec (.sp1SlaveStatus port cmd edges t) s) (fun u => (u.slaveErr port).cmd = true ∧
          u.oi (Obj.SP_CNT_CMD (b2n port)) = clampI 0 0xFFFFFFFF (s.oi (Obj.SP_CNT_CMD (b2n port)) + 1))) ∧
      (∀ index sub cmd, s.serial.slave.mbxState ≠ 1 → s.serial.slave.mbxIndex < 65536 → index < 65536 → sub < 256 →
        cmd = 1 ∨ cmd = 2 →
        Runs (exec (.sp1SlaveWrite port 0x20 (leBytes 2 index ++ [byteOf sub, byteOf cmd]) (s.slvEdges port true false 4) t) s) (fun u =>
          u.serial.slave.mbxState = 1 ∧ u.serial.slave.mbxIndex = index ∧ u.serial.slave.mbxSub = sub ∧
            u.serial.slave.mbxCmd = cmd ∧ s.keeps [.emitted, .time, .serial] u)) ∧
      (∀ a b, s.serial.slave.mbxState = 1 → 0x20 ≤ a → a < 0x38 →
        Runs (exec (.sp1SlaveWrite port a [b] (s.slvEdges port true false 1) t) s) (fun u =>
        u.serial.slave.mbxState = 1 ∧ u.serial.slave.mbxIndex = s.serial.slave.mbxIndex ∧
          u.serial.slave.mbxSub = s.serial.slave.mbxSub ∧ u.serial.slave.mbxCmd = s.serial.slave.mbxCmd ∧
          u.serial.slave.mbxData = s.serial.slave.mbxData ∧
          u.oi (Obj.SP_CNT_CMD (b2n port)) = clampI 0 0xFFFFFFFF (s.oi (Obj.SP_CNT_CMD (b2n port)) + 1)))) ∧
    (∀ k, s.serving = true → s.serial.slave.mbxState = 1 → k = s.serial.slave.mbxIndex * 256 + s.serial.slave.mbxSub →
      (∀ r, s.serial.slave.mbxCmd = 1 → s.mbxObject true = .ok r → Runs (exec (.mbxCmdRead t) s) (fun u =>
        u.serial.slave.mbxState = 2 ∧ u.serial.slave.mbxDone = true ∧ u.serial.slave.mbxDtype = r.ty.code ∧
          u.serial.slave.mbxData = (if r.ty = .u64 then r.ty.encode ((s.advance t).value .mailbox k r.acc)
            else slotWord r.ty ((s.advance t).value .mailbox k r.acc)))) ∧
      (∀ e, s.serial.slave.mbxCmd = 1 → s.mbxObject true = .error e → e ≠ 0 → Runs (exec (.mbxCmdRead t) s) (fun u =>
        u.serial.slave.mbxState = 3 ∧ u.serial.slave.mbxAbort = e ∧ s.sameBut [] u)) ∧
      (∀ r w, s.serial.slave.mbxCmd = 2 → s.mbxObject false = .ok r →
        State.objWrite .mailbox k (Written.slot r.ty (if r.ty = .u64 then s.serial.slave.mbxData
          else s.serial.slave.mbxData % 2 ^ 32)) (s.advance t) = .ok w → Runs (exec (.mbxCmdWrite t) s) (fun u =>
        u.serial.slave.mbxState = 2 ∧ u.serial.slave.mbxDone = true ∧ u.od = w.od ∧ u.gen = w.gen ∧ u.modes = w.modes)) ∧
      (∀ e, s.serial.slave.mbxCmd = 2 → s.mbxObject false = .error e → e ≠ 0 → Runs (exec (.mbxCmdWrite t) s) (fun u =>
        u.serial.slave.mbxState = 3 ∧ u.serial.slave.mbxAbort = e ∧ s.sameBut [] u))) ∧
    (s.boot.phase = .recovery → s.serial.slave.upState = 1 →
      (s.serial.slave.upCmd = 1 →
        (s.serial.slave.upOffset % 256 = 0 → s.serial.slave.upOffset < 0x400000 → s.serial.slave.upSlot ≤ 1 →
          s.nv.closed = false → s.pwr.blocked = false → s.busFree = true →
          (s.serial.slave.upOffset % 65536 = 0 → s.serial.slave.upErased = false → Runs (exec (.upCmdProgram true t) s) (fun u =>
            u.serial.slave.upState = 1 ∧ u.serial.slave.upErased = true ∧
              ∀ i, i < 65536 → u.flashBytes 0 (s.upBase + i) 1 = [0xFF#8])) ∧
          (s.serial.slave.upOffset % 65536 ≠ 0 ∨ s.serial.slave.upErased = true → Runs (exec (.upCmdProgram true t) s) (fun u =>
            u.serial.slave.upState = 2 ∧ u.serial.slave.upErased = false ∧
              u.flashBytes 0 s.upBase 256 = ((s.flashBytes 0 s.upBase 256).zip
                ((List.range 256).map (fun i => Store.get (fun _ => 0#8) s.serial.slave.upData i))).map (fun b => b.1 &&& b.2)))) ∧
        (∀ ok, s.serial.slave.upOffset % 256 ≠ 0 ∨ 0x400000 ≤ s.serial.slave.upOffset →
          Runs (exec (.upCmdProgram ok t) s) (fun u =>
            u.serial.slave.upState = 3 ∧ u.serial.slave.upResult = Abort.range ∧ u.nv = s.nv))) ∧
      (s.serial.slave.upCmd = 2 → s.serial.slave.upSlot ≤ 1 →
        (s.slotOkay s.serial.slave.upSlot = true → s.nv.closed = false → Runs (exec (.upCmdFinish true t) s) (fun u =>
          u.serial.slave.upState = 2 ∧ u.keep Keep.slot 1 = [byteOf s.serial.slave.upSlot] ∧ u.boot = s.boot)) ∧
        (s.slotOkay s.serial.slave.upSlot = true → s.nv.closed = false → Runs (exec (.upCmdFinish false t) s) (fun u =>
          u.serial.slave.upState = 3 ∧ u.serial.slave.upResult = Abort.nv ∧ u.nv.nvFault = true ∧ u.keep Keep.slot 1 = s.keep Keep.slot 1)) ∧
        (∀ ok, s.slotOkay s.serial.slave.upSlot = false → Runs (exec (.upCmdFinish ok t) s) (fun u =>
          u.serial.slave.upState = 3 ∧ u.nv = s.nv)))) ∧
    (s.alive = true → s.sp1Shared = true → s.serial.owned = false → s.sp1Idle →
      (s.serial.slvHigh = true → s.serial.slvSince + 1000 ≤ (s.advance t).time.mono →
        Runs (exec (.sp1BusRequest t) s) (fun u => u.serial.owned = true ∧ u.serial.busReq = some u.time.mono)) ∧
      (s.serial.slvHigh = false → Runs (exec (.sp1BusRequest t) s) (fun u =>
        u.serial.owned = false ∧ u.serial.busReq = some u.time.mono))) ∧
    (∀ at_, s.serial.busReq = some at_ → s.serial.slvHigh = true → s.serial.owned = false →
      at_ + s.o Obj.SP1_HANDOVER_MAX * 1000 < (s.advance t).time.mono → Runs (exec (.sp1HandoverTimeout t) s) (fun u =>
        u.serial.handoverTo = true ∧ u.serial.owned = false ∧ u.serial.busReq = some at_ ∧
          u.oi Obj.SP_CNT_HANDOVER_TO = clampI 0 0xFFFFFFFF (s.oi Obj.SP_CNT_HANDOVER_TO + 1))) ∧
    (s.sp1Shared = true → s.serial.owned = true → Runs (exec (.sp1SlvCollision t) s) (fun u =>
      u.oi Obj.SP_CNT_COLLISION = clampI 0 0xFFFFFFFF (s.oi Obj.SP_CNT_COLLISION + 1) ∧ s.keeps [.od, .time] u)) ∧
    (∀ (k : Fin 4) taps half x, s.alive = true → s.o (Obj.SP1_DEV_MODE k.val) = 4 → sweepTap taps = some x →
      (∀ first, s.boot.phase = .rom → Runs (exec (.dqsCalibration k first taps half t) s) (fun u =>
        u.o (Obj.SP1_DQS_TAP k.val) = x ∧ s.sameBut [Obj.SP1_DQS_TAP k.val] u)) ∧
      (s.boot.phase ≠ .rom → s.domOn 62 = true → Runs (exec (.dqsCalibration k false taps half t) s) (fun u =>
        u.o (Obj.SP1_DQS_TAP k.val) = x ∧ u.oi Obj.SP1_CNT_RECAL = clampI 0 0xFFFFFFFF (s.oi Obj.SP1_CNT_RECAL + 1))) ∧
      (s.boot.phase ≠ .rom → Runs (exec (.dqsCalibration k true taps half t) s) (s.keeps [.time, .serial]))) ∧
    (∀ (k : Fin 4) addr n, s.alive = true → 0 < n → addr + n ≤ s.nv.size.get k →
      (s.xipHit k.val addr n = true → Runs (exec (.xipFetch k addr n t) s) (fun u =>
        u.out = .bytes (s.flashBytes k.val addr n) :: s.out ∧ s.keeps [.emitted, .time] u)) ∧
      (s.xipHit k.val addr n = false → s.busFree = true → s.serial.fetches = [] → s.nv.closeLog = none →
        (s.advance t).xipFree k = true → Runs (exec (.xipFetch k addr n t) s) (fun u =>
          u.out = .bytes (s.flashBytes k.val addr n) :: s.out ∧ u.nv = s.nv)) ∧
      (s.xipHit k.val addr n = false → s.busFree = false → Runs (exec (.xipFetch k addr n t) s) (fun u =>
        u.serial.fetches = s.serial.fetches ++ [(k.val, addr, n)] ∧ s.keeps [.time, .serial] u))) ∧
    (∀ b, s.admits via 3 t → s.mode = 4 → 16 ≤ b.length → b.length ≤ 4112 → (rawDesc b).ok = true →
      (rawDesc b).dir = 1 ∨ (rawDesc b).len ≤ b.length - 16 → s.serial.rawWait = none →
      (s.busFree = true → s.nv.flashOp = none → s.serial.fetches = [] → Runs (exec (.sp1RawXfer via b t) s) (fun u =>
        u.out = .sp1 (rawDesc b).sel (rawDesc b).lanes (rawDesc b).dummy ((rawDesc b).drives b) :: s.out ∧
          (u.dom Obj.SP1_RAW_XFER).length = 16 + (if (rawDesc b).dir = 1 then (rawDesc b).len else 0) ∧
          (u.dom Obj.SP1_RAW_XFER).take 16 = b.take 16)) ∧
      (s.busFree = false ∨ s.nv.flashOp.isSome = true ∨ s.serial.fetches ≠ [] → Runs (exec (.sp1RawXfer via b t) s) (fun u =>
        u.serial.rawWait = some b ∧ u.out = s.out)))

/-- HK_CTRL (L1) starts a scan of an idle converter, counts a START while busy, and ABORT ends it. Each conversion
result shows the channel's mean with its flags, OVERRUN where the one before it was not read; the last ends the scan.
A read shows HK_RESULT fresh once, and one of HK_STATUS clears its sticky bits. A reference settles in its time; a
demand domain goes off 1 ms after BUSY. A calibration turn puts the spare in the converter's place once it is idle and
settled, and passes on to the next one when it stays busy for the period; a calibration in bounds frees its slice as the
spare, one beyond retires it. A shutter-temperature sample joins its mean. An evaluation shows its sensors and node 31,
and WARNING once confirmed. At the end of the grace time a confirmed threshold takes a step, which THROTTLE_UNDO undoes,
halving first, and an unconfirmed one asks for the step anew; THERM_QUENCH_CLEAR ends a quench below 100 °C. -/
def Obligations.HousekeepingAndHeat : Prop :=
  ∀ (s : State) (via : Via) (h : Pos) (t : Nat), s.sound →
    (s.admits via 1 t →
      (scanChannels (s.o (Obj.HK_SCAN_MASK h.val)) ≠ [] → (s.hkc h).busy = false → Runs (exec (.hkCtrlStart via h t) s) (fun u =>
        (u.hkc h).busy = true ∧ (u.hkc h).todo = scanChannels (s.o (Obj.HK_SCAN_MASK h.val)) ∧
          (u.hkc h).avg = s.o (Obj.HK_AVG h.val) ∧ (u.hkc h).ref = s.o (Obj.HK_REF h.val) ∧
          u.o (Obj.HK_RESULT h.val) = s.o (Obj.HK_RESULT h.val) % 2 ^ 31)) ∧
      (scanChannels (s.o (Obj.HK_SCAN_MASK h.val)) ≠ [] → (s.hkc h).busy = true → Runs (exec (.hkCtrlStart via h t) s) (fun u => u.hkc h = { s.hkc h with ignored := true } ∧
        u.oi (Obj.HK_CNT_IGNORED h.val) = clampI 0 0xFFFFFFFF (s.oi (Obj.HK_CNT_IGNORED h.val) + 1))) ∧
      Runs (exec (.hkCtrlAbort via h t) s) (fun u => (u.hkc h).busy = false ∧ (s.found via t).sameBut [] u ∧
        ((s.hkc h).busy = true → (u.hkc h).todo = []))) ∧
    (∀ volts refin ch rest, (s.hkc h).todo = ch :: rest → (s.hkc h).busy = true → s.hkOn h = true → (s.hkc h).settled = true →
      (s.hkc h).calDue = false → s.calHere h = false → 2 ^ ((s.hkc h).avg % 16) ≤ volts.length → Runs (exec (.hkConversionResult h volts refin t) s) (fun u =>
        u.o (Obj.HK_RESULT h.val) = 3 * 2 ^ 30 + b2n (!(s.hkc h).first && bitAt (s.o (Obj.HK_RESULT h.val)) 30) * 2 ^ 29 +
          ch % 32 * 2 ^ 24 + hkResult (s.hkc h).avg (hkCodes (s.hkc h).ref ch refin volts) % 2 ^ 20 ∧
        (u.hkc h).todo = rest ∧ (u.hkc h).busy = !rest.isEmpty ∧
        (rest = [] → u.oi (Obj.HK_SCAN_COUNT h.val) = (s.oi (Obj.HK_SCAN_COUNT h.val) + 1) % 2 ^ 32) ∧
        ((s.hkc h).first = false → bitAt (s.o (Obj.HK_RESULT h.val)) 30 = true → u.oi (Obj.HK_CNT_OVERRUN h.val) =
          clampI 0 0xFFFFFFFF (s.oi (Obj.HK_CNT_OVERRUN h.val) + 1)))) ∧
    (s.reaches via →
      Runs (exec (.hkResultRead via h t) s) (fun u => u.out = .value (s.o (Obj.HK_RESULT h.val)) :: s.out ∧
        u.o (Obj.HK_RESULT h.val) = withBit (s.o (Obj.HK_RESULT h.val)) 30 false ∧ s.sameBut [Obj.HK_RESULT h.val] u) ∧
      Runs (exec (.hkStatusRead via h t) s) (fun u => u.out = .value (s.hkStatus h) :: s.out ∧
        u.hkc h = { s.hkc h with ignored := false, overrun := false } ∧ s.sameBut [] u)) ∧
    (s.hkOn h = true → (s.hkc h).settled = false → (s.hkc h).refSince + refSettle (s.o (Obj.HK_REF h.val)) ≤ (s.advance t).time.mono →
      Runs (exec (.hkRefSettled h t) s) (fun u => (u.hkc h).settled = true ∧ s.keeps [.time, .hk] u ∧
        ((s.hkc h).calDue = false → u.hkc h = { s.hkc h with settled := true }))) ∧
    (∀ a, (s.hkc h).idleSince = some a → s.hkDemand = true → (s.hkc h).busy = false → a + 1000000 ≤ (s.advance t).time.mono →
      s.dbg.held.contains (63 + h.val) = false → s.hkOn h = true → Runs (exec (.hkDomainOff h t) s) (fun u =>
        u.dom80 (63 + h.val) = 0 ∧ (u.hkc h).settled = false ∧ s.sameBut [Obj.PWR_DOM_STATE (63 + h.val)] u)) ∧
    (∀ g period, s.alive = true → s.mayCalibrate = true → period = 1000000 * s.o Obj.HK_CAL_PERIOD → 0 < period →
      s.hk.lastTurn + period ≤ (s.advance t).time.mono → h = posOf s.hk.turn → g = posOf ((s.hk.turn + 1) % 4) → s.hk.spare < 16 →
      ((s.hkc h).busy = false → s.hkOn h = true → (s.hkc h).settled = true → Runs (exec (.hkCalibrationTurn t) s) (fun u =>
        u.hk.calibrating = some (s.sliceOf h, h.val, u.time.mono) ∧ u.sliceOf h = s.hk.spare ∧
          u.hk.turn = (s.hk.turn + 1) % 4)) ∧
      ((s.hkc h).busy = true ∨ s.hkOn h = false ∨ (s.hkc h).settled = false →
        ((s.advance t).time.mono < s.hk.lastTurn + 2 * period → Runs (exec (.hkCalibrationTurn t) s) (s.keeps [.time])) ∧
        (s.hk.lastTurn + 2 * period ≤ (s.advance t).time.mono → s.calMay g = true → Runs (exec (.hkCalibrationTurn t) s) (fun u =>
          u.hk.calibrating = some (s.sliceOf g, g.val, u.time.mono) ∧ u.sliceOf g = s.hk.spare ∧
            u.hk.turn = (s.hk.turn + 2) % 4)) ∧
        (s.hk.lastTurn + 2 * period ≤ (s.advance t).time.mono → s.calMay g = false → Runs (exec (.hkCalibrationTurn t) s) (fun u =>
          u.hk.calibrating = none ∧ u.hk.turn = (s.hk.turn + 1) % 4 ∧ s.sameBut [] u)))) ∧
    (∀ n a offset gain, s.hk.calibrating = some (n, h.val, a) → a + 2000000 ≤ (s.advance t).time.mono → s.sliceOf h ≠ n →
      s.slicePowered n h.val = true → Runs (exec (.hkCalibrationComplete offset gain t) s) (fun u =>
        ((∀ k, (s.hkc k).calDue = false) → u.hk.calibrating = none) ∧
        u.oi Obj.HK_CNT_CAL = clampI 0 0xFFFFFFFF (s.oi Obj.HK_CNT_CAL + 1) ∧
        (-16 ≤ offset ∧ offset ≤ 16 ∧ -100 ≤ gain ∧ gain ≤ 100 → u.hk.spare = n ∧ u.hk.retired = s.hk.retired) ∧
        (¬ (-16 ≤ offset ∧ offset ≤ 16 ∧ -100 ≤ gain ∧ gain ≤ 100) → n ∈ u.hk.retired ∧ (u.hkc h).calFault = true ∧
          u.hk.spare = s.hk.spare))) ∧
    (∀ p volts refin, 16 ≤ volts.length → allPos.find? (s.advance t).samples = some h → s.claimant h = some p → Runs (exec (.shutterTempConversion volts refin t) s) (fun u =>
        (u.ecl.get p).tshN = (s.ecl.get p).tshN + 1 ∧ (u.ecl.get p).tshSum = (s.ecl.get p).tshSum +
            s.engValue h.val (s.shutterInput p)
              (min (hkResult 0x44 (hkCodes (s.o (Obj.HK_REF h.val)) (s.shutterInput p) refin volts)) 4095) ∧
          s.keeps [.time, .ecl, .hk] u)) ∧
    (∀ sensors, s.alive = true → s.therm.active = true → s.o Obj.THERM_STATE = 0 → s.o Obj.THERM_EXCLUDED = 0 →
      (∀ i, s.therm.suspect.getD i 0 < 99) → s.therm.nThrottle + 1 < s.o Obj.THERM_DWELL →
      s.therm.nQuench + 1 < s.o Obj.THERM_DWELL → Runs (exec (.thermalEvaluation sensors t) s) (fun u =>
        (∀ i, i < 32 → u.oi (Obj.THERM_SENSOR_T i) = satS 16 (sensors.getD i 0)) ∧
        u.oi (Obj.THERM_NODE_T 31) = satS 16 (sensors.getD 31 0) ∧
        u.oi Obj.THERM_PEAK = max (s.oi Obj.THERM_PEAK) (u.oi Obj.THERM_HOTSPOT) ∧
        u.o Obj.THERM_STATE =
          (if s.oi Obj.THERM_WARN ≤ u.oi Obj.THERM_HOTSPOT ∧ s.o Obj.THERM_DWELL ≤ s.therm.nWarn + 1 then 1 else 0))) ∧
    (∀ e, s.therm.graceEnd = some e → e ≤ (s.advance t).time.mono → s.o Obj.THERM_STATE = 2 →
      (s.nextStep = 1 → s.o Obj.THERM_DWELL ≤ s.therm.hot → Runs (exec (.throttleGraceExpiry t) s) (fun u =>
        u.therm.slotSteps = s.therm.slotSteps + 1 ∧ u.therm.halved = s.therm.halved ∧
          u.oi Obj.THERM_CNT_THROTTLE = clampI 0 0xFFFFFFFF (s.oi Obj.THERM_CNT_THROTTLE + 1))) ∧
      (s.nextStep = 2 → s.o Obj.THERM_DWELL ≤ s.therm.hot → Runs (exec (.throttleGraceExpiry t) s) (fun u =>
        u.therm.halved = true ∧ u.therm.slotSteps = s.therm.slotSteps ∧ u.therm.graceEnd = none)) ∧
      (s.nextStep ≠ 0 → s.therm.hot < s.o Obj.THERM_DWELL → Runs (exec (.throttleGraceExpiry t) s) (fun u =>
        u.therm.slotSteps = s.therm.slotSteps ∧ u.therm.halved = s.therm.halved ∧ u.therm.request = true ∧
          u.oi Obj.THERM_REQ_RATE = satU 32 (if s.nextStep = 1 then s.rateAt true false else s.rateAt false true : Nat) ∧
          u.therm.graceEnd = some (u.time.mono + 1000000 * s.o Obj.THERM_STEP_TIME)))) ∧
    (∀ a, s.therm.undoAt = some a → a ≤ (s.advance t).time.mono → s.o Obj.THERM_STATE < 2 →
      (s.therm.halved = true → Runs (exec (.throttleUndo t) s) (fun u =>
        u.therm.halved = false ∧ u.therm.slotSteps = s.therm.slotSteps)) ∧
      (s.therm.halved = false → 0 < s.therm.slotSteps → Runs (exec (.throttleUndo t) s) (fun u =>
        u.therm.slotSteps = s.therm.slotSteps - 1 ∧ u.therm.halved = false))) ∧
    (∀ v, s.admits via 2 t → v < 256 →
      (s.oi Obj.THERM_HOTSPOT < 10000 → s.therm.quench = true → Runs (exec (.thermQuenchClear via v t) s) (fun u =>
        u.therm.quench = false ∧ u.therm.request = false ∧
          u.o Obj.THERM_STATE = (if s.oi Obj.THERM_WARN ≤ s.oi Obj.THERM_HOTSPOT then 1 else 0))) ∧
      (10000 ≤ s.oi Obj.THERM_HOTSPOT → via = .host → Runs (exec (.thermQuenchClear via v t) s) (fun u =>
        u.therm = s.therm ∧ u.o Obj.OD_LAST_ABORT = Abort.state)))

/-- A power-fail warning while armed, a brown-out and an overvoltage each start the power-fail sequence once: with
firmware running storage closes and POWER is a cause of SAFE; before it flash programs are blocked, and then as in a
sequence that runs they count and change no mode; a brown-out with HOLDUP missing switches the module off. The input
switch closes in range, after a brown-out from 34 V on. HOLDUP's readiness, or at 100 ms its absence, is noted, and the
module runs on. The POWER cause clears with VIN at 36 V for 100 ms. The scheduler starts the ramp of the next domain
in order, 5 µs after the last; a ramp that ends is ON, or OFF where that was asked meanwhile, one past its bound is FAULT
and counted. A snapshot shows every domain and VIN. -/
def Obligations.PowerEvents : Prop :=
  ∀ (s : State) (t : Nat), s.sound →
    (∀ c k, s.boot.phase ≠ .off → (c = Instr.powerFailWarning t ∧ s.pwr.armed = true ∧ k = Obj.PWR_CNT_FAIL) ∨
        (c = .brownOut t ∧ k = Obj.PWR_CNT_FAIL) ∨ (c = .overvoltage t ∧ k = Obj.PWR_CNT_OVP) →
      (s.pwr.missing = false ∨ c ≠ .brownOut t →
        (s.fwUp = false ∨ s.pwr.failing = true → Runs (exec c s) (fun u => u.pwr.failing = s.pwr.failing ∧
          (s.pwr.failing = false → u.pwr.blocked = true) ∧
          u.oi k = clampI 0 0xFFFFFFFF (s.oi k + 1) ∧ s.sameBut [k] u ∧ s.keeps [.od, .time, .pwr] u)) ∧
        (s.fwUp = true → s.pwr.failing = false → Runs (exec c s) (fun u =>
          u.pwr.failing = true ∧ u.nv.closed = true ∧ 0x32 ∈ u.modes.causes ∧ u.mode = 5))) ∧
      (s.pwr.missing = true → Runs (exec (.brownOut t) s) (fun u => u.boot.phase = .off ∧ u.boot.cause = 4))) ∧
    (s.boot.phase ≠ .off →
      (∀ v, (if s.pwr.under then 34000 else 32000) ≤ v → v ≤ 78000 → s.pwr.swOpen = true → Runs (exec (.inputSwitchClose v t) s) (fun u =>
        u.pwr.swOpen = false ∧ u.pwr.ovp = false ∧ u.pwr.under = false ∧ u.pwr.vin = v ∧ s.keeps [.time, .pwr] u)) ∧
      Runs (exec (.holdupReady t) s) (fun u => s.keeps [.time, .pwr] u ∧ u.pwr = { s.pwr with
        ready := true, charged := s.pwr.charged || decide (u.time.mono ≤ s.boot.tR + 100000000) })) ∧
    (s.alive = true → s.pwr.charged = false → s.pwr.missing = false → s.boot.tR + 100000000 ≤ (s.advance t).time.mono →
      Runs (exec (.holdupMissing t) s) (fun u => u.pwr = { s.pwr with missing := true } ∧ u.modes = s.modes)) ∧
    (∀ a, s.pwr.failing = true ∨ s.pwr.blocked = true → s.pwr.okSince = some a → a + 100000000 ≤ (s.advance t).time.mono → 36000 ≤ s.pwr.vin →
      s.pwr.ovp = false → s.pwr.ready = true ∨ s.pwr.missing = true → Runs (exec (.powerCauseClear t) s) (fun u =>
        u.pwr = { s.pwr with failing := false, blocked := false } ∧ u.modes.causes = s.modes.causes.filter (· != 0x32) ∧
          s.keeps [.time, .modes, .pwr] u)) ∧
    (∀ d, d < 80 → s.alive = true → s.nextRamp = some d → (∀ a, s.pwr.lastRamp = some a → a + 5000 ≤ (s.advance t).time.mono) →
      Runs (exec (.domainRampStart d t) s) (fun u => u.dom80 d = 1 ∧ u.pwr.lastRamp = some u.time.mono ∧
        u.pwr.ramping = s.pwr.ramping ++ [(d, u.time.mono)] ∧ s.sameBut [Obj.PWR_DOM_STATE d] u)) ∧
    (∀ d, d < 80 → s.modes.running = none → (∀ p, s.pwr.fpaOff.get p = false) →
      (s.pwr.ramping.any (fun w => w.1 == d) = true → s.pwr.want.contains (d, false) = false →
        Runs (exec (.domainRampEnd d t) s) (fun u => u.dom80 d = 2 ∧ s.sameBut [Obj.PWR_DOM_STATE d] u)) ∧
      (s.pwr.ramping.any (fun w => w.1 == d) = true → s.pwr.want.contains (d, false) = true → s.dbg.held.contains d = false →
        Runs (exec (.domainRampEnd d t) s) (fun u => u.dom80 d = 0 ∧ s.sameBut [Obj.PWR_DOM_STATE d] u)) ∧
      (s.pwr.ramping.any (fun w => w.1 == d) = false → s.pwr.discharging.contains d = true →
        Runs (exec (.domainRampEnd d t) s) (fun u => u.pwr.discharging = s.pwr.discharging.filter (· != d)))) ∧
    (∀ d a, d < 46 → s.mode = 5 → s.modes.running = none → s.pwr.ramping.find? (fun w => w.1 == d) = some (d, a) →
      a + domBound d ≤ (s.advance t).time.mono → Runs (exec (.domainRampTimeout d t) s) (fun u =>
        u.dom80 d = 3 ∧ u.mode = 5 ∧ u.oi (Obj.PWR_CNT_DOM_FAULT d) = clampI 0 0xFFFFFFFF (s.oi (Obj.PWR_CNT_DOM_FAULT d) + 1))) ∧
    (∀ mv ma vdet sup, s.alive = true → s.modes.running = none → (∀ d, s.pwr.bad.getD d 0 = 0) →
      Runs (exec (.monitorSnapshot mv ma vdet sup t) s) (fun u => u.pwr.vin = 10 * sup.getD 0 0 ∧
        (u.oi Obj.PWR_FPA_TOTAL ≤ 10400 → u.mode = s.mode ∧ u.oi Obj.PWR_VIN = satU 16 (sup.getD 0 0) ∧
          ∀ d, d < 80 → u.oi (Obj.PWR_DOM_V d) = satU 16 (mv.getD d 0))))
end

