-- ==== Sys2Proof/Laws/Store.lean ====
section
/-!
SUPPORT. The laws of the sparse stores: a read after a write, and the canonical form every operation keeps.
-/
namespace Sys2Proof

variable {α : Type} [DecidableEq α] {d : Nat → α}

/-- A key below every listed one reads as its default. -/
theorem Store.get_below : ∀ {m : List (Nat × α)} {lo k : Nat}, Store.wfFrom d lo m = true → k < lo → Store.get d m k = d k
  | [], _, _, _, _ => rfl
  | (k', v) :: r, lo, k, h, hk => by
    simp only [Store.wfFrom, Bool.and_eq_true, decide_eq_true_eq] at h
    have hne : k' ≠ k := by omega
    simp only [Store.get, hne, if_false]
    exact Store.get_below (lo := k' + 1) h.2 (by omega)

/-- The canonical form from a greater bound is one from a smaller bound. -/
theorem Store.wfFrom_mono {m : List (Nat × α)} {lo lo' : Nat} (h : Store.wfFrom d lo m = true) (hl : lo' ≤ lo) :
    Store.wfFrom d lo' m = true := by
  cases m with
  | nil => rfl
  | cons c r =>
    simp only [Store.wfFrom, Bool.and_eq_true, decide_eq_true_eq] at h ⊢
    exact ⟨⟨by omega, h.1.2⟩, h.2⟩

/-- A write keeps the canonical form. -/
theorem Store.wfFrom_set : ∀ {m : List (Nat × α)} {lo k : Nat} {v : α},
    Store.wfFrom d lo m = true → lo ≤ k → Store.wfFrom d lo (Store.set d m k v) = true
  | [], lo, k, v, _, hk => by
    by_cases hv : v = d k <;> simp [Store.set, Store.wfFrom, hv, hk]
  | (k', v') :: r, lo, k, v, h, hk => by
    have h' := h
    simp only [Store.wfFrom, Bool.and_eq_true, decide_eq_true_eq] at h'
    obtain ⟨⟨h1, h2⟩, h3⟩ := h'
    by_cases hlt : k < k'
    · by_cases hv : v = d k
      · simp only [Store.set, hlt, hv, if_true]; exact h
      · simp only [Store.set, hlt, hv, if_true, if_false, Store.wfFrom, Bool.and_eq_true, decide_eq_true_eq]
        exact ⟨⟨hk, hv⟩, ⟨by omega, h2⟩, h3⟩
    · by_cases heq : k = k'
      · subst heq
        by_cases hv : v = d k
        · simp only [Store.set, hv, if_true, Nat.lt_irrefl, if_false]
          exact Store.wfFrom_mono h3 (by omega)
        · simp only [Store.set, hv, if_true, Nat.lt_irrefl, if_false, Store.wfFrom, Bool.and_eq_true, decide_eq_true_eq]
          exact ⟨⟨hk, hv⟩, h3⟩
      · simp only [Store.set, hlt, heq, if_false, Store.wfFrom, Bool.and_eq_true, decide_eq_true_eq]
        exact ⟨⟨h1, h2⟩, Store.wfFrom_set h3 (by omega)⟩

theorem Store.wf_set {m : List (Nat × α)} (h : Store.wf d m = true) (k : Nat) (v : α) : Store.wf d (Store.set d m k v) = true :=
  Store.wfFrom_set h (Nat.zero_le _)

/-- A read after a write of a canonical store. -/
theorem Store.get_set_from : ∀ {m : List (Nat × α)} {lo : Nat} (k : Nat) (v : α) (j : Nat),
    Store.wfFrom d lo m = true → Store.get d (Store.set d m k v) j = if j = k then v else Store.get d m j
  | [], _, k, v, j, _ => by
    by_cases hv : v = d k
    · by_cases hj : j = k <;> simp [Store.set, Store.get, hv, hj]
    · by_cases hj : j = k
      · subst hj; simp [Store.set, Store.get, hv]
      · have : k ≠ j := fun h => hj h.symm
        simp [Store.set, Store.get, hv, hj, this]
  | (k', v') :: r, lo, k, v, j, h => by
    simp only [Store.wfFrom, Bool.and_eq_true, decide_eq_true_eq] at h
    obtain ⟨⟨h1, h2⟩, h3⟩ := h
    by_cases hlt : k < k'
    · have below : Store.get d ((k', v') :: r) k = d k :=
        Store.get_below (lo := k') (by simp [Store.wfFrom, h2, h3]) hlt
      by_cases hv : v = d k
      · simp only [Store.set, hlt, hv, if_true]
        by_cases hj : j = k
        · subst hj; simp [below]
        · simp [hj]
      · simp only [Store.set, hlt, hv, if_true, if_false]
        by_cases hj : j = k
        · subst hj; simp [Store.get]
        · have : k ≠ j := fun e => hj e.symm
          simp [Store.get, hj, this]
    · by_cases heq : k = k'
      · subst heq
        by_cases hv : v = d k
        · simp only [Store.set, hv, if_true, Nat.lt_irrefl, if_false]
          by_cases hj : j = k
          · subst hj; simp [Store.get_below h3 (Nat.lt_succ_self j)]
          · have : k ≠ j := fun e => hj e.symm
            simp [Store.get, hj, this]
        · simp only [Store.set, hv, if_true, Nat.lt_irrefl, if_false]
          by_cases hj : j = k
          · subst hj; simp [Store.get]
          · have : k ≠ j := fun e => hj e.symm
            simp [Store.get, hj, this]
      · simp only [Store.set, hlt, heq, if_false, Store.get]
        rw [Store.get_set_from k v j h3]
        by_cases hj : k' = j
        · have : j ≠ k := by omega
          simp [hj, this]
        · simp [hj]

theorem Store.get_set {m : List (Nat × α)} (h : Store.wf d m = true) (k : Nat) (v : α) (j : Nat) :
    Store.get d (Store.set d m k v) j = if j = k then v else Store.get d m j := Store.get_set_from k v j h

theorem Store.wf_write {m : List (Nat × α)} (h : Store.wf d m = true) (a : Nat) (l : List α) :
    Store.wf d (Store.write d m a l) = true := by
  induction l generalizing m a with
  | nil => exact h
  | cons v r ih => exact ih (Store.wf_set h a v) (a + 1)

/-- An address outside the bytes written reads as before. -/
theorem Store.get_write_out {m : List (Nat × α)} (h : Store.wf d m = true) (a : Nat) (l : List α) (j : Nat)
    (hj : j < a ∨ a + l.length ≤ j) : Store.get d (Store.write d m a l) j = Store.get d m j := by
  induction l generalizing m a with
  | nil => rfl
  | cons v r ih =>
    simp only [List.length_cons] at hj
    rw [Store.write, ih (Store.wf_set h a v) (a + 1) (by omega), Store.get_set h]
    simp [show j ≠ a by omega]

/-- An address within the bytes written reads as its byte. -/
theorem Store.get_write_in {m : List (Nat × α)} (h : Store.wf d m = true) (a : Nat) (l : List α) (i : Nat) (hi : i < l.length) :
    Store.get d (Store.write d m a l) (a + i) = l[i] := by
  induction l generalizing m a i with
  | nil => simp at hi
  | cons v r ih =>
    cases i with
    | zero =>
      rw [Store.write, Store.get_write_out (Store.wf_set h a v) (a + 1) r _ (by omega), Store.get_set h]; simp
    | succ n =>
      have := ih (Store.wf_set h a v) (a + 1) n (by simpa using hi)
      rw [Store.write, show a + (n + 1) = a + 1 + n by omega, this]; simp

/-- What was written is read back. -/
theorem Store.read_write {m : List (Nat × α)} (h : Store.wf d m = true) (a : Nat) (l : List α) :
    Store.read d (Store.write d m a l) a l.length = l := by
  induction l generalizing m a with
  | nil => rfl
  | cons v r ih =>
    have := ih (Store.wf_set h a v) (a + 1)
    simp only [Store.write, List.length_cons, Store.read, this]
    rw [Store.get_write_out (Store.wf_set h a v) (a + 1) r a (by omega), Store.get_set h]; simp

omit [DecidableEq α] in
/-- A filtered list keeps the canonical form. -/
theorem Store.wfFrom_filter [DecidableEq α] (p : Nat × α → Bool) : ∀ {m : List (Nat × α)} {lo : Nat},
    Store.wfFrom d lo m = true → Store.wfFrom d lo (m.filter p) = true
  | [], _, _ => rfl
  | (k, v) :: r, lo, h => by
    simp only [Store.wfFrom, Bool.and_eq_true, decide_eq_true_eq] at h
    have ih := Store.wfFrom_filter p h.2
    by_cases hp : p (k, v) = true
    · simp only [List.filter_cons, hp, if_true, Store.wfFrom, Bool.and_eq_true, decide_eq_true_eq]
      exact ⟨h.1, ih⟩
    · simp only [List.filter_cons, hp]
      exact Store.wfFrom_mono ih (by omega)

theorem Store.wf_dropRange {m : List (Nat × α)} (h : Store.wf d m = true) (lo hi : Nat) :
    Store.wf d (Store.dropRange m lo hi) = true := Store.wfFrom_filter _ h

/-- After a drop a key of the range reads as its default, every other key as before. -/
theorem Store.get_dropRange : ∀ {m : List (Nat × α)} {from_ : Nat} (lo hi j : Nat), Store.wfFrom d from_ m = true →
    Store.get d (Store.dropRange m lo hi) j = if lo ≤ j ∧ j < hi then d j else Store.get d m j
  | [], _, lo, hi, j, _ => by simp [Store.dropRange, Store.get]
  | (k, v) :: r, from_, lo, hi, j, h => by
    simp only [Store.wfFrom, Bool.and_eq_true, decide_eq_true_eq] at h
    have ih := Store.get_dropRange lo hi j h.2
    simp only [Store.dropRange] at ih ⊢
    by_cases hk : k < lo ∨ hi ≤ k
    · simp only [List.filter_cons, hk, decide_true, if_true, Store.get, ih]
      by_cases hj : k = j
      · simp [hj]; omega
      · simp [hj]
    · simp only [List.filter_cons, hk, decide_false, Store.get]
      by_cases hj : k = j
      · subst hj
        simp only [Bool.false_eq_true, if_false, ih]
        rw [if_pos (by omega), if_pos (by omega)]
      · simp only [Bool.false_eq_true, if_false, hj]
        exact ih

/-- Two canonical stores that read alike are the same list. -/
theorem Store.ext_from : ∀ {m n : List (Nat × α)} {lo : Nat}, Store.wfFrom d lo m = true → Store.wfFrom d lo n = true →
    (∀ k, Store.get d m k = Store.get d n k) → m = n
  | [], [], _, _, _, _ => rfl
  | [], (k, v) :: r, lo, _, hn, h => by
    simp only [Store.wfFrom, Bool.and_eq_true, decide_eq_true_eq] at hn
    have := h k
    simp only [Store.get, if_true] at this
    exact absurd this.symm hn.1.2
  | (k, v) :: r, [], lo, hm, _, h => by
    simp only [Store.wfFrom, Bool.and_eq_true, decide_eq_true_eq] at hm
    have := h k
    simp only [Store.get, if_true] at this
    exact absurd this hm.1.2
  | (k, v) :: r, (k', v') :: r', lo, hm, hn, h => by
    have hm' := hm
    have hn' := hn
    simp only [Store.wfFrom, Bool.and_eq_true, decide_eq_true_eq] at hm' hn'
    have key : k = k' := by
      rcases Nat.lt_trichotomy k k' with hl | he | hg
      · have := h k
        rw [Store.get_below (m := (k', v') :: r') (lo := k') (by simp [Store.wfFrom, hn'.1.2, hn'.2]) hl] at this
        simp only [Store.get, if_true] at this
        exact absurd this hm'.1.2
      · exact he
      · have := h k'
        rw [Store.get_below (m := (k, v) :: r) (lo := k) (by simp [Store.wfFrom, hm'.1.2, hm'.2]) hg] at this
        simp only [Store.get, if_true] at this
        exact absurd this.symm hn'.1.2
    subst key
    have val : v = v' := by simpa [Store.get] using h k
    subst val
    have tail : r = r' := by
      refine Store.ext_from hm'.2 hn'.2 fun j => ?_
      by_cases hj : k = j
      · subst hj
        rw [Store.get_below hm'.2 (Nat.lt_succ_self _), Store.get_below hn'.2 (Nat.lt_succ_self _)]
      · simpa [Store.get, hj] using h j
    rw [tail]

@[simp] theorem Quad.get_set_self {β : Type} (q : Quad β) (p : Pos) (a : β) : (q.set p a).get p = a := by
  match p with
  | 0 => rfl
  | 1 => rfl
  | 2 => rfl
  | 3 => rfl

theorem Quad.get_set {β : Type} (q : Quad β) (p r : Pos) (a : β) : (q.set p a).get r = if r = p then a else q.get r := by
  match p, r with
  | 0, 0 => rfl
  | 0, 1 => rfl
  | 0, 2 => rfl
  | 0, 3 => rfl
  | 1, 0 => rfl
  | 1, 1 => rfl
  | 1, 2 => rfl
  | 1, 3 => rfl
  | 2, 0 => rfl
  | 2, 1 => rfl
  | 2, 2 => rfl
  | 2, 3 => rfl
  | 3, 0 => rfl
  | 3, 1 => rfl
  | 3, 2 => rfl
  | 3, 3 => rfl

@[simp] theorem Quad.get_upd_self {β : Type} (q : Quad β) (p : Pos) (f : β → β) : (q.upd p f).get p = f (q.get p) :=
  Quad.get_set_self q p _

@[simp] theorem Quad.get_all {β : Type} (p : Pos) (a : β) : (Quad.all a).get p = a := by
  match p with
  | 0 => rfl
  | 1 => rfl
  | 2 => rfl
  | 3 => rfl

end Sys2Proof
end

