-- ==== Sys2Proof/Laws/State.lean ====
section
/-!
SUPPORT. What the named operations of Machine/Ops.lean leave as it was, one lemma per operation, and what they do to the
objects.  The frame lemmas are simp lemmas: a projection of the state after an operation that does not change it is the
projection before.
-/
set_option linter.all false
namespace Sys2Proof.Machine

/-! ### Folds and choices, field by field -/

theorem foldl_pending {α : Type} {f : State → α → State} {l : List α} {s : State} (h : ∀ s a, (f s a).pending = s.pending) : (l.foldl f s).pending = s.pending := by
  induction l generalizing s with
  | nil => rfl
  | cons a l ih => rw [List.foldl_cons, ih, h]
theorem ite_pending (c : Prop) [Decidable c] (x y : State) : (if c then x else y).pending = if c then x.pending else y.pending := apply_ite State.pending c x y
theorem foldl_out {α : Type} {f : State → α → State} {l : List α} {s : State} (h : ∀ s a, (f s a).out = s.out) : (l.foldl f s).out = s.out := by
  induction l generalizing s with
  | nil => rfl
  | cons a l ih => rw [List.foldl_cons, ih, h]
theorem ite_out (c : Prop) [Decidable c] (x y : State) : (if c then x else y).out = if c then x.out else y.out := apply_ite State.out c x y
theorem foldl_od {α : Type} {f : State → α → State} {l : List α} {s : State} (h : ∀ s a, (f s a).od = s.od) : (l.foldl f s).od = s.od := by
  induction l generalizing s with
  | nil => rfl
  | cons a l ih => rw [List.foldl_cons, ih, h]
theorem ite_od (c : Prop) [Decidable c] (x y : State) : (if c then x else y).od = if c then x.od else y.od := apply_ite State.od c x y
theorem foldl_doms {α : Type} {f : State → α → State} {l : List α} {s : State} (h : ∀ s a, (f s a).doms = s.doms) : (l.foldl f s).doms = s.doms := by
  induction l generalizing s with
  | nil => rfl
  | cons a l ih => rw [List.foldl_cons, ih, h]
theorem ite_doms (c : Prop) [Decidable c] (x y : State) : (if c then x else y).doms = if c then x.doms else y.doms := apply_ite State.doms c x y
theorem foldl_time {α : Type} {f : State → α → State} {l : List α} {s : State} (h : ∀ s a, (f s a).time = s.time) : (l.foldl f s).time = s.time := by
  induction l generalizing s with
  | nil => rfl
  | cons a l ih => rw [List.foldl_cons, ih, h]
theorem ite_time (c : Prop) [Decidable c] (x y : State) : (if c then x else y).time = if c then x.time else y.time := apply_ite State.time c x y
theorem foldl_boot {α : Type} {f : State → α → State} {l : List α} {s : State} (h : ∀ s a, (f s a).boot = s.boot) : (l.foldl f s).boot = s.boot := by
  induction l generalizing s with
  | nil => rfl
  | cons a l ih => rw [List.foldl_cons, ih, h]
theorem ite_boot (c : Prop) [Decidable c] (x y : State) : (if c then x else y).boot = if c then x.boot else y.boot := apply_ite State.boot c x y
theorem foldl_modes {α : Type} {f : State → α → State} {l : List α} {s : State} (h : ∀ s a, (f s a).modes = s.modes) : (l.foldl f s).modes = s.modes := by
  induction l generalizing s with
  | nil => rfl
  | cons a l ih => rw [List.foldl_cons, ih, h]
theorem ite_modes (c : Prop) [Decidable c] (x y : State) : (if c then x else y).modes = if c then x.modes else y.modes := apply_ite State.modes c x y
theorem foldl_ops {α : Type} {f : State → α → State} {l : List α} {s : State} (h : ∀ s a, (f s a).ops = s.ops) : (l.foldl f s).ops = s.ops := by
  induction l generalizing s with
  | nil => rfl
  | cons a l ih => rw [List.foldl_cons, ih, h]
theorem ite_ops (c : Prop) [Decidable c] (x y : State) : (if c then x else y).ops = if c then x.ops else y.ops := apply_ite State.ops c x y
theorem foldl_chain {α : Type} {f : State → α → State} {l : List α} {s : State} (h : ∀ s a, (f s a).chain = s.chain) : (l.foldl f s).chain = s.chain := by
  induction l generalizing s with
  | nil => rfl
  | cons a l ih => rw [List.foldl_cons, ih, h]
theorem ite_chain (c : Prop) [Decidable c] (x y : State) : (if c then x else y).chain = if c then x.chain else y.chain := apply_ite State.chain c x y
theorem foldl_bar0 {α : Type} {f : State → α → State} {l : List α} {s : State} (h : ∀ s a, (f s a).bar0 = s.bar0) : (l.foldl f s).bar0 = s.bar0 := by
  induction l generalizing s with
  | nil => rfl
  | cons a l ih => rw [List.foldl_cons, ih, h]
theorem ite_bar0 (c : Prop) [Decidable c] (x y : State) : (if c then x else y).bar0 = if c then x.bar0 else y.bar0 := apply_ite State.bar0 c x y
theorem foldl_nv {α : Type} {f : State → α → State} {l : List α} {s : State} (h : ∀ s a, (f s a).nv = s.nv) : (l.foldl f s).nv = s.nv := by
  induction l generalizing s with
  | nil => rfl
  | cons a l ih => rw [List.foldl_cons, ih, h]
theorem ite_nv (c : Prop) [Decidable c] (x y : State) : (if c then x else y).nv = if c then x.nv else y.nv := apply_ite State.nv c x y
theorem foldl_lanes {α : Type} {f : State → α → State} {l : List α} {s : State} (h : ∀ s a, (f s a).lanes = s.lanes) : (l.foldl f s).lanes = s.lanes := by
  induction l generalizing s with
  | nil => rfl
  | cons a l ih => rw [List.foldl_cons, ih, h]
theorem ite_lanes (c : Prop) [Decidable c] (x y : State) : (if c then x else y).lanes = if c then x.lanes else y.lanes := apply_ite State.lanes c x y
theorem foldl_aligned {α : Type} {f : State → α → State} {l : List α} {s : State} (h : ∀ s a, (f s a).aligned = s.aligned) : (l.foldl f s).aligned = s.aligned := by
  induction l generalizing s with
  | nil => rfl
  | cons a l ih => rw [List.foldl_cons, ih, h]
theorem ite_aligned (c : Prop) [Decidable c] (x y : State) : (if c then x else y).aligned = if c then x.aligned else y.aligned := apply_ite State.aligned c x y
theorem foldl_intake {α : Type} {f : State → α → State} {l : List α} {s : State} (h : ∀ s a, (f s a).intake = s.intake) : (l.foldl f s).intake = s.intake := by
  induction l generalizing s with
  | nil => rfl
  | cons a l ih => rw [List.foldl_cons, ih, h]
theorem ite_intake (c : Prop) [Decidable c] (x y : State) : (if c then x else y).intake = if c then x.intake else y.intake := apply_ite State.intake c x y
theorem foldl_link {α : Type} {f : State → α → State} {l : List α} {s : State} (h : ∀ s a, (f s a).link = s.link) : (l.foldl f s).link = s.link := by
  induction l generalizing s with
  | nil => rfl
  | cons a l ih => rw [List.foldl_cons, ih, h]
theorem ite_link (c : Prop) [Decidable c] (x y : State) : (if c then x else y).link = if c then x.link else y.link := apply_ite State.link c x y
theorem foldl_fpa {α : Type} {f : State → α → State} {l : List α} {s : State} (h : ∀ s a, (f s a).fpa = s.fpa) : (l.foldl f s).fpa = s.fpa := by
  induction l generalizing s with
  | nil => rfl
  | cons a l ih => rw [List.foldl_cons, ih, h]
theorem ite_fpa (c : Prop) [Decidable c] (x y : State) : (if c then x else y).fpa = if c then x.fpa else y.fpa := apply_ite State.fpa c x y
theorem foldl_sp0 {α : Type} {f : State → α → State} {l : List α} {s : State} (h : ∀ s a, (f s a).sp0 = s.sp0) : (l.foldl f s).sp0 = s.sp0 := by
  induction l generalizing s with
  | nil => rfl
  | cons a l ih => rw [List.foldl_cons, ih, h]
theorem ite_sp0 (c : Prop) [Decidable c] (x y : State) : (if c then x else y).sp0 = if c then x.sp0 else y.sp0 := apply_ite State.sp0 c x y
theorem foldl_pipe {α : Type} {f : State → α → State} {l : List α} {s : State} (h : ∀ s a, (f s a).pipe = s.pipe) : (l.foldl f s).pipe = s.pipe := by
  induction l generalizing s with
  | nil => rfl
  | cons a l ih => rw [List.foldl_cons, ih, h]
theorem ite_pipe (c : Prop) [Decidable c] (x y : State) : (if c then x else y).pipe = if c then x.pipe else y.pipe := apply_ite State.pipe c x y
theorem foldl_coef {α : Type} {f : State → α → State} {l : List α} {s : State} (h : ∀ s a, (f s a).coef = s.coef) : (l.foldl f s).coef = s.coef := by
  induction l generalizing s with
  | nil => rfl
  | cons a l ih => rw [List.foldl_cons, ih, h]
theorem ite_coef (c : Prop) [Decidable c] (x y : State) : (if c then x else y).coef = if c then x.coef else y.coef := apply_ite State.coef c x y
theorem foldl_gen {α : Type} {f : State → α → State} {l : List α} {s : State} (h : ∀ s a, (f s a).gen = s.gen) : (l.foldl f s).gen = s.gen := by
  induction l generalizing s with
  | nil => rfl
  | cons a l ih => rw [List.foldl_cons, ih, h]
theorem ite_gen (c : Prop) [Decidable c] (x y : State) : (if c then x else y).gen = if c then x.gen else y.gen := apply_ite State.gen c x y
theorem foldl_vdet {α : Type} {f : State → α → State} {l : List α} {s : State} (h : ∀ s a, (f s a).vdet = s.vdet) : (l.foldl f s).vdet = s.vdet := by
  induction l generalizing s with
  | nil => rfl
  | cons a l ih => rw [List.foldl_cons, ih, h]
theorem ite_vdet (c : Prop) [Decidable c] (x y : State) : (if c then x else y).vdet = if c then x.vdet else y.vdet := apply_ite State.vdet c x y
theorem foldl_stat {α : Type} {f : State → α → State} {l : List α} {s : State} (h : ∀ s a, (f s a).stat = s.stat) : (l.foldl f s).stat = s.stat := by
  induction l generalizing s with
  | nil => rfl
  | cons a l ih => rw [List.foldl_cons, ih, h]
theorem ite_stat (c : Prop) [Decidable c] (x y : State) : (if c then x else y).stat = if c then x.stat else y.stat := apply_ite State.stat c x y
theorem foldl_ecl {α : Type} {f : State → α → State} {l : List α} {s : State} (h : ∀ s a, (f s a).ecl = s.ecl) : (l.foldl f s).ecl = s.ecl := by
  induction l generalizing s with
  | nil => rfl
  | cons a l ih => rw [List.foldl_cons, ih, h]
theorem ite_ecl (c : Prop) [Decidable c] (x y : State) : (if c then x else y).ecl = if c then x.ecl else y.ecl := apply_ite State.ecl c x y
theorem foldl_shut {α : Type} {f : State → α → State} {l : List α} {s : State} (h : ∀ s a, (f s a).shut = s.shut) : (l.foldl f s).shut = s.shut := by
  induction l generalizing s with
  | nil => rfl
  | cons a l ih => rw [List.foldl_cons, ih, h]
theorem ite_shut (c : Prop) [Decidable c] (x y : State) : (if c then x else y).shut = if c then x.shut else y.shut := apply_ite State.shut c x y
theorem foldl_windows {α : Type} {f : State → α → State} {l : List α} {s : State} (h : ∀ s a, (f s a).windows = s.windows) : (l.foldl f s).windows = s.windows := by
  induction l generalizing s with
  | nil => rfl
  | cons a l ih => rw [List.foldl_cons, ih, h]
theorem ite_windows (c : Prop) [Decidable c] (x y : State) : (if c then x else y).windows = if c then x.windows else y.windows := apply_ite State.windows c x y
theorem foldl_enc0 {α : Type} {f : State → α → State} {l : List α} {s : State} (h : ∀ s a, (f s a).enc0 = s.enc0) : (l.foldl f s).enc0 = s.enc0 := by
  induction l generalizing s with
  | nil => rfl
  | cons a l ih => rw [List.foldl_cons, ih, h]
theorem ite_enc0 (c : Prop) [Decidable c] (x y : State) : (if c then x else y).enc0 = if c then x.enc0 else y.enc0 := apply_ite State.enc0 c x y
theorem foldl_enc1 {α : Type} {f : State → α → State} {l : List α} {s : State} (h : ∀ s a, (f s a).enc1 = s.enc1) : (l.foldl f s).enc1 = s.enc1 := by
  induction l generalizing s with
  | nil => rfl
  | cons a l ih => rw [List.foldl_cons, ih, h]
theorem ite_enc1 (c : Prop) [Decidable c] (x y : State) : (if c then x else y).enc1 = if c then x.enc1 else y.enc1 := apply_ite State.enc1 c x y
theorem foldl_tg {α : Type} {f : State → α → State} {l : List α} {s : State} (h : ∀ s a, (f s a).tg = s.tg) : (l.foldl f s).tg = s.tg := by
  induction l generalizing s with
  | nil => rfl
  | cons a l ih => rw [List.foldl_cons, ih, h]
theorem ite_tg (c : Prop) [Decidable c] (x y : State) : (if c then x else y).tg = if c then x.tg else y.tg := apply_ite State.tg c x y
theorem foldl_chan {α : Type} {f : State → α → State} {l : List α} {s : State} (h : ∀ s a, (f s a).chan = s.chan) : (l.foldl f s).chan = s.chan := by
  induction l generalizing s with
  | nil => rfl
  | cons a l ih => rw [List.foldl_cons, ih, h]
theorem ite_chan (c : Prop) [Decidable c] (x y : State) : (if c then x else y).chan = if c then x.chan else y.chan := apply_ite State.chan c x y
theorem foldl_trig {α : Type} {f : State → α → State} {l : List α} {s : State} (h : ∀ s a, (f s a).trig = s.trig) : (l.foldl f s).trig = s.trig := by
  induction l generalizing s with
  | nil => rfl
  | cons a l ih => rw [List.foldl_cons, ih, h]
theorem ite_trig (c : Prop) [Decidable c] (x y : State) : (if c then x else y).trig = if c then x.trig else y.trig := apply_ite State.trig c x y
theorem foldl_trigOut {α : Type} {f : State → α → State} {l : List α} {s : State} (h : ∀ s a, (f s a).trigOut = s.trigOut) : (l.foldl f s).trigOut = s.trigOut := by
  induction l generalizing s with
  | nil => rfl
  | cons a l ih => rw [List.foldl_cons, ih, h]
theorem ite_trigOut (c : Prop) [Decidable c] (x y : State) : (if c then x else y).trigOut = if c then x.trigOut else y.trigOut := apply_ite State.trigOut c x y
theorem foldl_out0 {α : Type} {f : State → α → State} {l : List α} {s : State} (h : ∀ s a, (f s a).out0 = s.out0) : (l.foldl f s).out0 = s.out0 := by
  induction l generalizing s with
  | nil => rfl
  | cons a l ih => rw [List.foldl_cons, ih, h]
theorem ite_out0 (c : Prop) [Decidable c] (x y : State) : (if c then x else y).out0 = if c then x.out0 else y.out0 := apply_ite State.out0 c x y
theorem foldl_out1 {α : Type} {f : State → α → State} {l : List α} {s : State} (h : ∀ s a, (f s a).out1 = s.out1) : (l.foldl f s).out1 = s.out1 := by
  induction l generalizing s with
  | nil => rfl
  | cons a l ih => rw [List.foldl_cons, ih, h]
theorem ite_out1 (c : Prop) [Decidable c] (x y : State) : (if c then x else y).out1 = if c then x.out1 else y.out1 := apply_ite State.out1 c x y
theorem foldl_taps {α : Type} {f : State → α → State} {l : List α} {s : State} (h : ∀ s a, (f s a).taps = s.taps) : (l.foldl f s).taps = s.taps := by
  induction l generalizing s with
  | nil => rfl
  | cons a l ih => rw [List.foldl_cons, ih, h]
theorem ite_taps (c : Prop) [Decidable c] (x y : State) : (if c then x else y).taps = if c then x.taps else y.taps := apply_ite State.taps c x y
theorem foldl_mem {α : Type} {f : State → α → State} {l : List α} {s : State} (h : ∀ s a, (f s a).mem = s.mem) : (l.foldl f s).mem = s.mem := by
  induction l generalizing s with
  | nil => rfl
  | cons a l ih => rw [List.foldl_cons, ih, h]
theorem ite_mem (c : Prop) [Decidable c] (x y : State) : (if c then x else y).mem = if c then x.mem else y.mem := apply_ite State.mem c x y
theorem foldl_host {α : Type} {f : State → α → State} {l : List α} {s : State} (h : ∀ s a, (f s a).host = s.host) : (l.foldl f s).host = s.host := by
  induction l generalizing s with
  | nil => rfl
  | cons a l ih => rw [List.foldl_cons, ih, h]
theorem ite_host (c : Prop) [Decidable c] (x y : State) : (if c then x else y).host = if c then x.host else y.host := apply_ite State.host c x y
theorem foldl_dma {α : Type} {f : State → α → State} {l : List α} {s : State} (h : ∀ s a, (f s a).dma = s.dma) : (l.foldl f s).dma = s.dma := by
  induction l generalizing s with
  | nil => rfl
  | cons a l ih => rw [List.foldl_cons, ih, h]
theorem ite_dma (c : Prop) [Decidable c] (x y : State) : (if c then x else y).dma = if c then x.dma else y.dma := apply_ite State.dma c x y
theorem foldl_rings {α : Type} {f : State → α → State} {l : List α} {s : State} (h : ∀ s a, (f s a).rings = s.rings) : (l.foldl f s).rings = s.rings := by
  induction l generalizing s with
  | nil => rfl
  | cons a l ih => rw [List.foldl_cons, ih, h]
theorem ite_rings (c : Prop) [Decidable c] (x y : State) : (if c then x else y).rings = if c then x.rings else y.rings := apply_ite State.rings c x y
theorem foldl_ingots {α : Type} {f : State → α → State} {l : List α} {s : State} (h : ∀ s a, (f s a).ingots = s.ingots) : (l.foldl f s).ingots = s.ingots := by
  induction l generalizing s with
  | nil => rfl
  | cons a l ih => rw [List.foldl_cons, ih, h]
theorem ite_ingots (c : Prop) [Decidable c] (x y : State) : (if c then x else y).ingots = if c then x.ingots else y.ingots := apply_ite State.ingots c x y
theorem foldl_serial {α : Type} {f : State → α → State} {l : List α} {s : State} (h : ∀ s a, (f s a).serial = s.serial) : (l.foldl f s).serial = s.serial := by
  induction l generalizing s with
  | nil => rfl
  | cons a l ih => rw [List.foldl_cons, ih, h]
theorem ite_serial (c : Prop) [Decidable c] (x y : State) : (if c then x else y).serial = if c then x.serial else y.serial := apply_ite State.serial c x y
theorem foldl_hk {α : Type} {f : State → α → State} {l : List α} {s : State} (h : ∀ s a, (f s a).hk = s.hk) : (l.foldl f s).hk = s.hk := by
  induction l generalizing s with
  | nil => rfl
  | cons a l ih => rw [List.foldl_cons, ih, h]
theorem ite_hk (c : Prop) [Decidable c] (x y : State) : (if c then x else y).hk = if c then x.hk else y.hk := apply_ite State.hk c x y
theorem foldl_therm {α : Type} {f : State → α → State} {l : List α} {s : State} (h : ∀ s a, (f s a).therm = s.therm) : (l.foldl f s).therm = s.therm := by
  induction l generalizing s with
  | nil => rfl
  | cons a l ih => rw [List.foldl_cons, ih, h]
theorem ite_therm (c : Prop) [Decidable c] (x y : State) : (if c then x else y).therm = if c then x.therm else y.therm := apply_ite State.therm c x y
theorem foldl_pwr {α : Type} {f : State → α → State} {l : List α} {s : State} (h : ∀ s a, (f s a).pwr = s.pwr) : (l.foldl f s).pwr = s.pwr := by
  induction l generalizing s with
  | nil => rfl
  | cons a l ih => rw [List.foldl_cons, ih, h]
theorem ite_pwr (c : Prop) [Decidable c] (x y : State) : (if c then x else y).pwr = if c then x.pwr else y.pwr := apply_ite State.pwr c x y
theorem foldl_sec {α : Type} {f : State → α → State} {l : List α} {s : State} (h : ∀ s a, (f s a).sec = s.sec) : (l.foldl f s).sec = s.sec := by
  induction l generalizing s with
  | nil => rfl
  | cons a l ih => rw [List.foldl_cons, ih, h]
theorem ite_sec (c : Prop) [Decidable c] (x y : State) : (if c then x else y).sec = if c then x.sec else y.sec := apply_ite State.sec c x y
theorem foldl_dbg {α : Type} {f : State → α → State} {l : List α} {s : State} (h : ∀ s a, (f s a).dbg = s.dbg) : (l.foldl f s).dbg = s.dbg := by
  induction l generalizing s with
  | nil => rfl
  | cons a l ih => rw [List.foldl_cons, ih, h]
theorem ite_dbg (c : Prop) [Decidable c] (x y : State) : (if c then x else y).dbg = if c then x.dbg else y.dbg := apply_ite State.dbg c x y
theorem foldl_free {α : Type} {f : State → α → State} {l : List α} {s : State} (h : ∀ s a, (f s a).free = s.free) : (l.foldl f s).free = s.free := by
  induction l generalizing s with
  | nil => rfl
  | cons a l ih => rw [List.foldl_cons, ih, h]
theorem ite_free (c : Prop) [Decidable c] (x y : State) : (if c then x else y).free = if c then x.free else y.free := apply_ite State.free c x y

/-! ### The operations of Machine/Ops.lean -/

@[simp] theorem State.advance_frame (s : State) (t : ℕ) :
    (State.advance s t).pending = s.pending ∧ (State.advance s t).out = s.out ∧ (State.advance s t).od = s.od ∧
    (State.advance s t).doms = s.doms ∧ (State.advance s t).boot = s.boot ∧ (State.advance s t).modes = s.modes ∧
    (State.advance s t).ops = s.ops ∧ (State.advance s t).chain = s.chain ∧ (State.advance s t).bar0 = s.bar0 ∧
    (State.advance s t).nv = s.nv ∧ (State.advance s t).lanes = s.lanes ∧ (State.advance s t).aligned = s.aligned ∧
    (State.advance s t).intake = s.intake ∧ (State.advance s t).link = s.link ∧ (State.advance s t).fpa = s.fpa ∧
    (State.advance s t).sp0 = s.sp0 ∧ (State.advance s t).pipe = s.pipe ∧ (State.advance s t).coef = s.coef ∧
    (State.advance s t).gen = s.gen ∧ (State.advance s t).vdet = s.vdet ∧ (State.advance s t).stat = s.stat ∧
    (State.advance s t).ecl = s.ecl ∧ (State.advance s t).shut = s.shut ∧ (State.advance s t).windows = s.windows ∧
    (State.advance s t).enc0 = s.enc0 ∧ (State.advance s t).enc1 = s.enc1 ∧ (State.advance s t).tg = s.tg ∧
    (State.advance s t).chan = s.chan ∧ (State.advance s t).trig = s.trig ∧ (State.advance s t).trigOut = s.trigOut ∧
    (State.advance s t).out0 = s.out0 ∧ (State.advance s t).out1 = s.out1 ∧ (State.advance s t).taps = s.taps ∧
    (State.advance s t).mem = s.mem ∧ (State.advance s t).host = s.host ∧ (State.advance s t).dma = s.dma ∧
    (State.advance s t).rings = s.rings ∧ (State.advance s t).ingots = s.ingots ∧ (State.advance s t).serial =
    s.serial ∧ (State.advance s t).hk = s.hk ∧ (State.advance s t).therm = s.therm ∧ (State.advance s t).pwr = s.pwr ∧
    (State.advance s t).sec = s.sec ∧ (State.advance s t).dbg = s.dbg ∧ (State.advance s t).free = s.free := by
  unfold State.advance; (try dsimp only); (repeat' split) <;> simp only [and_self]

@[simp] theorem State.setO_frame (s : State) (k : ℕ) (v : ℤ) :
    (State.setO s k v).pending = s.pending ∧ (State.setO s k v).out = s.out ∧ (State.setO s k v).doms = s.doms ∧
    (State.setO s k v).time = s.time ∧ (State.setO s k v).boot = s.boot ∧ (State.setO s k v).modes = s.modes ∧
    (State.setO s k v).ops = s.ops ∧ (State.setO s k v).chain = s.chain ∧ (State.setO s k v).bar0 = s.bar0 ∧
    (State.setO s k v).nv = s.nv ∧ (State.setO s k v).lanes = s.lanes ∧ (State.setO s k v).aligned = s.aligned ∧
    (State.setO s k v).intake = s.intake ∧ (State.setO s k v).link = s.link ∧ (State.setO s k v).fpa = s.fpa ∧
    (State.setO s k v).sp0 = s.sp0 ∧ (State.setO s k v).pipe = s.pipe ∧ (State.setO s k v).coef = s.coef ∧ (State.setO
    s k v).gen = s.gen ∧ (State.setO s k v).vdet = s.vdet ∧ (State.setO s k v).stat = s.stat ∧ (State.setO s k v).ecl
    = s.ecl ∧ (State.setO s k v).shut = s.shut ∧ (State.setO s k v).windows = s.windows ∧ (State.setO s k v).enc0 =
    s.enc0 ∧ (State.setO s k v).enc1 = s.enc1 ∧ (State.setO s k v).tg = s.tg ∧ (State.setO s k v).chan = s.chan ∧
    (State.setO s k v).trig = s.trig ∧ (State.setO s k v).trigOut = s.trigOut ∧ (State.setO s k v).out0 = s.out0 ∧
    (State.setO s k v).out1 = s.out1 ∧ (State.setO s k v).taps = s.taps ∧ (State.setO s k v).mem = s.mem ∧ (State.setO
    s k v).host = s.host ∧ (State.setO s k v).dma = s.dma ∧ (State.setO s k v).rings = s.rings ∧ (State.setO s k
    v).ingots = s.ingots ∧ (State.setO s k v).serial = s.serial ∧ (State.setO s k v).hk = s.hk ∧ (State.setO s k
    v).therm = s.therm ∧ (State.setO s k v).pwr = s.pwr ∧ (State.setO s k v).sec = s.sec ∧ (State.setO s k v).dbg =
    s.dbg ∧ (State.setO s k v).free = s.free := by
  unfold State.setO; (try dsimp only); (repeat' split) <;> simp only [and_self]

@[simp] theorem State.setOs_frame (s : State) (l : List (ℕ × ℤ)) :
    (State.setOs s l).pending = s.pending ∧ (State.setOs s l).out = s.out ∧ (State.setOs s l).doms = s.doms ∧ (State.setOs
    s l).time = s.time ∧ (State.setOs s l).boot = s.boot ∧ (State.setOs s l).modes = s.modes ∧ (State.setOs s l).ops =
    s.ops ∧ (State.setOs s l).chain = s.chain ∧ (State.setOs s l).bar0 = s.bar0 ∧ (State.setOs s l).nv = s.nv ∧
    (State.setOs s l).lanes = s.lanes ∧ (State.setOs s l).aligned = s.aligned ∧ (State.setOs s l).intake = s.intake ∧
    (State.setOs s l).link = s.link ∧ (State.setOs s l).fpa = s.fpa ∧ (State.setOs s l).sp0 = s.sp0 ∧ (State.setOs s
    l).pipe = s.pipe ∧ (State.setOs s l).coef = s.coef ∧ (State.setOs s l).gen = s.gen ∧ (State.setOs s l).vdet =
    s.vdet ∧ (State.setOs s l).stat = s.stat ∧ (State.setOs s l).ecl = s.ecl ∧ (State.setOs s l).shut = s.shut ∧
    (State.setOs s l).windows = s.windows ∧ (State.setOs s l).enc0 = s.enc0 ∧ (State.setOs s l).enc1 = s.enc1 ∧
    (State.setOs s l).tg = s.tg ∧ (State.setOs s l).chan = s.chan ∧ (State.setOs s l).trig = s.trig ∧ (State.setOs s
    l).trigOut = s.trigOut ∧ (State.setOs s l).out0 = s.out0 ∧ (State.setOs s l).out1 = s.out1 ∧ (State.setOs s
    l).taps = s.taps ∧ (State.setOs s l).mem = s.mem ∧ (State.setOs s l).host = s.host ∧ (State.setOs s l).dma = s.dma
    ∧ (State.setOs s l).rings = s.rings ∧ (State.setOs s l).ingots = s.ingots ∧ (State.setOs s l).serial = s.serial ∧
    (State.setOs s l).hk = s.hk ∧ (State.setOs s l).therm = s.therm ∧ (State.setOs s l).pwr = s.pwr ∧ (State.setOs s
    l).sec = s.sec ∧ (State.setOs s l).dbg = s.dbg ∧ (State.setOs s l).free = s.free := by
  induction l generalizing s with
  | nil => simp [State.setOs]
  | cons c l ih => simp only [State.setOs, List.foldl_cons] at ih ⊢; simp [ih]

@[simp] theorem State.inc_frame (s : State) (k : ℕ) :
    (State.inc s k).pending = s.pending ∧ (State.inc s k).out = s.out ∧ (State.inc s k).doms = s.doms ∧ (State.inc s
    k).time = s.time ∧ (State.inc s k).boot = s.boot ∧ (State.inc s k).modes = s.modes ∧ (State.inc s k).ops = s.ops ∧
    (State.inc s k).chain = s.chain ∧ (State.inc s k).bar0 = s.bar0 ∧ (State.inc s k).nv = s.nv ∧ (State.inc s
    k).lanes = s.lanes ∧ (State.inc s k).aligned = s.aligned ∧ (State.inc s k).intake = s.intake ∧ (State.inc s
    k).link = s.link ∧ (State.inc s k).fpa = s.fpa ∧ (State.inc s k).sp0 = s.sp0 ∧ (State.inc s k).pipe = s.pipe ∧
    (State.inc s k).coef = s.coef ∧ (State.inc s k).gen = s.gen ∧ (State.inc s k).vdet = s.vdet ∧ (State.inc s k).stat
    = s.stat ∧ (State.inc s k).ecl = s.ecl ∧ (State.inc s k).shut = s.shut ∧ (State.inc s k).windows = s.windows ∧
    (State.inc s k).enc0 = s.enc0 ∧ (State.inc s k).enc1 = s.enc1 ∧ (State.inc s k).tg = s.tg ∧ (State.inc s k).chan =
    s.chan ∧ (State.inc s k).trig = s.trig ∧ (State.inc s k).trigOut = s.trigOut ∧ (State.inc s k).out0 = s.out0 ∧
    (State.inc s k).out1 = s.out1 ∧ (State.inc s k).taps = s.taps ∧ (State.inc s k).mem = s.mem ∧ (State.inc s k).host
    = s.host ∧ (State.inc s k).dma = s.dma ∧ (State.inc s k).rings = s.rings ∧ (State.inc s k).ingots = s.ingots ∧
    (State.inc s k).serial = s.serial ∧ (State.inc s k).hk = s.hk ∧ (State.inc s k).therm = s.therm ∧ (State.inc s
    k).pwr = s.pwr ∧ (State.inc s k).sec = s.sec ∧ (State.inc s k).dbg = s.dbg ∧ (State.inc s k).free = s.free := by
  unfold State.inc; (try dsimp only); (repeat' split) <;> simp only [State.setO_frame, and_self]

@[simp] theorem State.incBy_frame (s : State) (k : ℕ) (n : ℕ) :
    (State.incBy s k n).pending = s.pending ∧ (State.incBy s k n).out = s.out ∧ (State.incBy s k n).doms = s.doms ∧
    (State.incBy s k n).time = s.time ∧ (State.incBy s k n).boot = s.boot ∧ (State.incBy s k n).modes = s.modes ∧
    (State.incBy s k n).ops = s.ops ∧ (State.incBy s k n).chain = s.chain ∧ (State.incBy s k n).bar0 = s.bar0 ∧
    (State.incBy s k n).nv = s.nv ∧ (State.incBy s k n).lanes = s.lanes ∧ (State.incBy s k n).aligned = s.aligned ∧
    (State.incBy s k n).intake = s.intake ∧ (State.incBy s k n).link = s.link ∧ (State.incBy s k n).fpa = s.fpa ∧
    (State.incBy s k n).sp0 = s.sp0 ∧ (State.incBy s k n).pipe = s.pipe ∧ (State.incBy s k n).coef = s.coef ∧
    (State.incBy s k n).gen = s.gen ∧ (State.incBy s k n).vdet = s.vdet ∧ (State.incBy s k n).stat = s.stat ∧
    (State.incBy s k n).ecl = s.ecl ∧ (State.incBy s k n).shut = s.shut ∧ (State.incBy s k n).windows = s.windows ∧
    (State.incBy s k n).enc0 = s.enc0 ∧ (State.incBy s k n).enc1 = s.enc1 ∧ (State.incBy s k n).tg = s.tg ∧
    (State.incBy s k n).chan = s.chan ∧ (State.incBy s k n).trig = s.trig ∧ (State.incBy s k n).trigOut = s.trigOut ∧
    (State.incBy s k n).out0 = s.out0 ∧ (State.incBy s k n).out1 = s.out1 ∧ (State.incBy s k n).taps = s.taps ∧
    (State.incBy s k n).mem = s.mem ∧ (State.incBy s k n).host = s.host ∧ (State.incBy s k n).dma = s.dma ∧
    (State.incBy s k n).rings = s.rings ∧ (State.incBy s k n).ingots = s.ingots ∧ (State.incBy s k n).serial =
    s.serial ∧ (State.incBy s k n).hk = s.hk ∧ (State.incBy s k n).therm = s.therm ∧ (State.incBy s k n).pwr = s.pwr ∧
    (State.incBy s k n).sec = s.sec ∧ (State.incBy s k n).dbg = s.dbg ∧ (State.incBy s k n).free = s.free := by
  unfold State.incBy; (try dsimp only); (repeat' split) <;> simp only [State.setO_frame, and_self]

@[simp] theorem State.incWrap_frame (s : State) (k : ℕ) :
    (State.incWrap s k).pending = s.pending ∧ (State.incWrap s k).out = s.out ∧ (State.incWrap s k).doms = s.doms ∧
    (State.incWrap s k).time = s.time ∧ (State.incWrap s k).boot = s.boot ∧ (State.incWrap s k).modes = s.modes ∧
    (State.incWrap s k).ops = s.ops ∧ (State.incWrap s k).chain = s.chain ∧ (State.incWrap s k).bar0 = s.bar0 ∧
    (State.incWrap s k).nv = s.nv ∧ (State.incWrap s k).lanes = s.lanes ∧ (State.incWrap s k).aligned = s.aligned ∧
    (State.incWrap s k).intake = s.intake ∧ (State.incWrap s k).link = s.link ∧ (State.incWrap s k).fpa = s.fpa ∧
    (State.incWrap s k).sp0 = s.sp0 ∧ (State.incWrap s k).pipe = s.pipe ∧ (State.incWrap s k).coef = s.coef ∧
    (State.incWrap s k).gen = s.gen ∧ (State.incWrap s k).vdet = s.vdet ∧ (State.incWrap s k).stat = s.stat ∧
    (State.incWrap s k).ecl = s.ecl ∧ (State.incWrap s k).shut = s.shut ∧ (State.incWrap s k).windows = s.windows ∧
    (State.incWrap s k).enc0 = s.enc0 ∧ (State.incWrap s k).enc1 = s.enc1 ∧ (State.incWrap s k).tg = s.tg ∧
    (State.incWrap s k).chan = s.chan ∧ (State.incWrap s k).trig = s.trig ∧ (State.incWrap s k).trigOut = s.trigOut ∧
    (State.incWrap s k).out0 = s.out0 ∧ (State.incWrap s k).out1 = s.out1 ∧ (State.incWrap s k).taps = s.taps ∧
    (State.incWrap s k).mem = s.mem ∧ (State.incWrap s k).host = s.host ∧ (State.incWrap s k).dma = s.dma ∧
    (State.incWrap s k).rings = s.rings ∧ (State.incWrap s k).ingots = s.ingots ∧ (State.incWrap s k).serial =
    s.serial ∧ (State.incWrap s k).hk = s.hk ∧ (State.incWrap s k).therm = s.therm ∧ (State.incWrap s k).pwr = s.pwr ∧
    (State.incWrap s k).sec = s.sec ∧ (State.incWrap s k).dbg = s.dbg ∧ (State.incWrap s k).free = s.free := by
  unfold State.incWrap; (try dsimp only); (repeat' split) <;> simp only [State.setO_frame, and_self]

@[simp] theorem State.setDom_frame (s : State) (k : ℕ) (v : List Sys2Proof.Byte) :
    (State.setDom s k v).pending = s.pending ∧ (State.setDom s k v).out = s.out ∧ (State.setDom s k v).od = s.od ∧
    (State.setDom s k v).time = s.time ∧ (State.setDom s k v).boot = s.boot ∧ (State.setDom s k v).modes = s.modes ∧
    (State.setDom s k v).ops = s.ops ∧ (State.setDom s k v).chain = s.chain ∧ (State.setDom s k v).bar0 = s.bar0 ∧
    (State.setDom s k v).nv = s.nv ∧ (State.setDom s k v).lanes = s.lanes ∧ (State.setDom s k v).aligned = s.aligned ∧
    (State.setDom s k v).intake = s.intake ∧ (State.setDom s k v).link = s.link ∧ (State.setDom s k v).fpa = s.fpa ∧
    (State.setDom s k v).sp0 = s.sp0 ∧ (State.setDom s k v).pipe = s.pipe ∧ (State.setDom s k v).coef = s.coef ∧
    (State.setDom s k v).gen = s.gen ∧ (State.setDom s k v).vdet = s.vdet ∧ (State.setDom s k v).stat = s.stat ∧
    (State.setDom s k v).ecl = s.ecl ∧ (State.setDom s k v).shut = s.shut ∧ (State.setDom s k v).windows = s.windows ∧
    (State.setDom s k v).enc0 = s.enc0 ∧ (State.setDom s k v).enc1 = s.enc1 ∧ (State.setDom s k v).tg = s.tg ∧
    (State.setDom s k v).chan = s.chan ∧ (State.setDom s k v).trig = s.trig ∧ (State.setDom s k v).trigOut = s.trigOut
    ∧ (State.setDom s k v).out0 = s.out0 ∧ (State.setDom s k v).out1 = s.out1 ∧ (State.setDom s k v).taps = s.taps ∧
    (State.setDom s k v).mem = s.mem ∧ (State.setDom s k v).host = s.host ∧ (State.setDom s k v).dma = s.dma ∧
    (State.setDom s k v).rings = s.rings ∧ (State.setDom s k v).ingots = s.ingots ∧ (State.setDom s k v).serial =
    s.serial ∧ (State.setDom s k v).hk = s.hk ∧ (State.setDom s k v).therm = s.therm ∧ (State.setDom s k v).pwr =
    s.pwr ∧ (State.setDom s k v).sec = s.sec ∧ (State.setDom s k v).dbg = s.dbg ∧ (State.setDom s k v).free = s.free := by
  unfold State.setDom; (try dsimp only); (repeat' split) <;> simp only [and_self]

@[simp] theorem State.clearIdx_frame (s : State) (i0 : ℕ) (i1 : ℕ) :
    (State.clearIdx s i0 i1).pending = s.pending ∧ (State.clearIdx s i0 i1).out = s.out ∧ (State.clearIdx s i0 i1).doms =
    s.doms ∧ (State.clearIdx s i0 i1).time = s.time ∧ (State.clearIdx s i0 i1).boot = s.boot ∧ (State.clearIdx s i0
    i1).modes = s.modes ∧ (State.clearIdx s i0 i1).ops = s.ops ∧ (State.clearIdx s i0 i1).chain = s.chain ∧
    (State.clearIdx s i0 i1).bar0 = s.bar0 ∧ (State.clearIdx s i0 i1).nv = s.nv ∧ (State.clearIdx s i0 i1).lanes =
    s.lanes ∧ (State.clearIdx s i0 i1).aligned = s.aligned ∧ (State.clearIdx s i0 i1).intake = s.intake ∧
    (State.clearIdx s i0 i1).link = s.link ∧ (State.clearIdx s i0 i1).fpa = s.fpa ∧ (State.clearIdx s i0 i1).sp0 =
    s.sp0 ∧ (State.clearIdx s i0 i1).pipe = s.pipe ∧ (State.clearIdx s i0 i1).coef = s.coef ∧ (State.clearIdx s i0
    i1).gen = s.gen ∧ (State.clearIdx s i0 i1).vdet = s.vdet ∧ (State.clearIdx s i0 i1).stat = s.stat ∧
    (State.clearIdx s i0 i1).ecl = s.ecl ∧ (State.clearIdx s i0 i1).shut = s.shut ∧ (State.clearIdx s i0 i1).windows =
    s.windows ∧ (State.clearIdx s i0 i1).enc0 = s.enc0 ∧ (State.clearIdx s i0 i1).enc1 = s.enc1 ∧ (State.clearIdx s i0
    i1).tg = s.tg ∧ (State.clearIdx s i0 i1).chan = s.chan ∧ (State.clearIdx s i0 i1).trig = s.trig ∧ (State.clearIdx
    s i0 i1).trigOut = s.trigOut ∧ (State.clearIdx s i0 i1).out0 = s.out0 ∧ (State.clearIdx s i0 i1).out1 = s.out1 ∧
    (State.clearIdx s i0 i1).taps = s.taps ∧ (State.clearIdx s i0 i1).mem = s.mem ∧ (State.clearIdx s i0 i1).host =
    s.host ∧ (State.clearIdx s i0 i1).dma = s.dma ∧ (State.clearIdx s i0 i1).rings = s.rings ∧ (State.clearIdx s i0
    i1).ingots = s.ingots ∧ (State.clearIdx s i0 i1).serial = s.serial ∧ (State.clearIdx s i0 i1).hk = s.hk ∧
    (State.clearIdx s i0 i1).therm = s.therm ∧ (State.clearIdx s i0 i1).pwr = s.pwr ∧ (State.clearIdx s i0 i1).sec =
    s.sec ∧ (State.clearIdx s i0 i1).dbg = s.dbg ∧ (State.clearIdx s i0 i1).free = s.free := by
  unfold State.clearIdx; (try dsimp only); (repeat' split) <;> simp only [and_self]

@[simp] theorem State.emit_frame (s : State) (e : Sys2Proof.Machine.Emit) :
    (State.emit s e).pending = s.pending ∧ (State.emit s e).od = s.od ∧ (State.emit s e).doms = s.doms ∧ (State.emit s
    e).time = s.time ∧ (State.emit s e).boot = s.boot ∧ (State.emit s e).modes = s.modes ∧ (State.emit s e).ops =
    s.ops ∧ (State.emit s e).chain = s.chain ∧ (State.emit s e).bar0 = s.bar0 ∧ (State.emit s e).nv = s.nv ∧
    (State.emit s e).lanes = s.lanes ∧ (State.emit s e).aligned = s.aligned ∧ (State.emit s e).intake = s.intake ∧
    (State.emit s e).link = s.link ∧ (State.emit s e).fpa = s.fpa ∧ (State.emit s e).sp0 = s.sp0 ∧ (State.emit s
    e).pipe = s.pipe ∧ (State.emit s e).coef = s.coef ∧ (State.emit s e).gen = s.gen ∧ (State.emit s e).vdet = s.vdet
    ∧ (State.emit s e).stat = s.stat ∧ (State.emit s e).ecl = s.ecl ∧ (State.emit s e).shut = s.shut ∧ (State.emit s
    e).windows = s.windows ∧ (State.emit s e).enc0 = s.enc0 ∧ (State.emit s e).enc1 = s.enc1 ∧ (State.emit s e).tg =
    s.tg ∧ (State.emit s e).chan = s.chan ∧ (State.emit s e).trig = s.trig ∧ (State.emit s e).trigOut = s.trigOut ∧
    (State.emit s e).out0 = s.out0 ∧ (State.emit s e).out1 = s.out1 ∧ (State.emit s e).taps = s.taps ∧ (State.emit s
    e).mem = s.mem ∧ (State.emit s e).host = s.host ∧ (State.emit s e).dma = s.dma ∧ (State.emit s e).rings = s.rings
    ∧ (State.emit s e).ingots = s.ingots ∧ (State.emit s e).serial = s.serial ∧ (State.emit s e).hk = s.hk ∧
    (State.emit s e).therm = s.therm ∧ (State.emit s e).pwr = s.pwr ∧ (State.emit s e).sec = s.sec ∧ (State.emit s
    e).dbg = s.dbg ∧ (State.emit s e).free = s.free := by
  unfold State.emit; (try dsimp only); (repeat' split) <;> simp only [and_self]

@[simp] theorem State.putKeep_frame (s : State) (a : ℕ) (bs : List Sys2Proof.Byte) :
    (State.putKeep s a bs).pending = s.pending ∧ (State.putKeep s a bs).out = s.out ∧ (State.putKeep s a bs).od = s.od ∧
    (State.putKeep s a bs).doms = s.doms ∧ (State.putKeep s a bs).time = s.time ∧ (State.putKeep s a bs).boot = s.boot
    ∧ (State.putKeep s a bs).modes = s.modes ∧ (State.putKeep s a bs).ops = s.ops ∧ (State.putKeep s a bs).chain =
    s.chain ∧ (State.putKeep s a bs).bar0 = s.bar0 ∧ (State.putKeep s a bs).lanes = s.lanes ∧ (State.putKeep s a
    bs).aligned = s.aligned ∧ (State.putKeep s a bs).intake = s.intake ∧ (State.putKeep s a bs).link = s.link ∧
    (State.putKeep s a bs).fpa = s.fpa ∧ (State.putKeep s a bs).sp0 = s.sp0 ∧ (State.putKeep s a bs).pipe = s.pipe ∧
    (State.putKeep s a bs).coef = s.coef ∧ (State.putKeep s a bs).gen = s.gen ∧ (State.putKeep s a bs).vdet = s.vdet ∧
    (State.putKeep s a bs).stat = s.stat ∧ (State.putKeep s a bs).ecl = s.ecl ∧ (State.putKeep s a bs).shut = s.shut ∧
    (State.putKeep s a bs).windows = s.windows ∧ (State.putKeep s a bs).enc0 = s.enc0 ∧ (State.putKeep s a bs).enc1 =
    s.enc1 ∧ (State.putKeep s a bs).tg = s.tg ∧ (State.putKeep s a bs).chan = s.chan ∧ (State.putKeep s a bs).trig =
    s.trig ∧ (State.putKeep s a bs).trigOut = s.trigOut ∧ (State.putKeep s a bs).out0 = s.out0 ∧ (State.putKeep s a
    bs).out1 = s.out1 ∧ (State.putKeep s a bs).taps = s.taps ∧ (State.putKeep s a bs).mem = s.mem ∧ (State.putKeep s a
    bs).host = s.host ∧ (State.putKeep s a bs).dma = s.dma ∧ (State.putKeep s a bs).rings = s.rings ∧ (State.putKeep s
    a bs).ingots = s.ingots ∧ (State.putKeep s a bs).serial = s.serial ∧ (State.putKeep s a bs).hk = s.hk ∧
    (State.putKeep s a bs).therm = s.therm ∧ (State.putKeep s a bs).pwr = s.pwr ∧ (State.putKeep s a bs).sec = s.sec ∧
    (State.putKeep s a bs).dbg = s.dbg := by
  unfold State.putKeep; (try dsimp only); (repeat' split) <;> simp only [and_self]

@[simp] theorem State.logRoom_frame (s : State) :
    (State.logRoom s).pending = s.pending ∧ (State.logRoom s).out = s.out ∧ (State.logRoom s).doms = s.doms ∧
    (State.logRoom s).time = s.time ∧ (State.logRoom s).boot = s.boot ∧ (State.logRoom s).modes = s.modes ∧
    (State.logRoom s).ops = s.ops ∧ (State.logRoom s).chain = s.chain ∧ (State.logRoom s).bar0 = s.bar0 ∧
    (State.logRoom s).lanes = s.lanes ∧ (State.logRoom s).aligned = s.aligned ∧ (State.logRoom s).intake = s.intake ∧
    (State.logRoom s).link = s.link ∧ (State.logRoom s).fpa = s.fpa ∧ (State.logRoom s).sp0 = s.sp0 ∧ (State.logRoom
    s).pipe = s.pipe ∧ (State.logRoom s).coef = s.coef ∧ (State.logRoom s).gen = s.gen ∧ (State.logRoom s).vdet =
    s.vdet ∧ (State.logRoom s).stat = s.stat ∧ (State.logRoom s).ecl = s.ecl ∧ (State.logRoom s).shut = s.shut ∧
    (State.logRoom s).windows = s.windows ∧ (State.logRoom s).enc0 = s.enc0 ∧ (State.logRoom s).enc1 = s.enc1 ∧
    (State.logRoom s).tg = s.tg ∧ (State.logRoom s).chan = s.chan ∧ (State.logRoom s).trig = s.trig ∧ (State.logRoom
    s).trigOut = s.trigOut ∧ (State.logRoom s).out0 = s.out0 ∧ (State.logRoom s).out1 = s.out1 ∧ (State.logRoom
    s).taps = s.taps ∧ (State.logRoom s).mem = s.mem ∧ (State.logRoom s).host = s.host ∧ (State.logRoom s).dma = s.dma
    ∧ (State.logRoom s).rings = s.rings ∧ (State.logRoom s).ingots = s.ingots ∧ (State.logRoom s).serial = s.serial ∧
    (State.logRoom s).hk = s.hk ∧ (State.logRoom s).therm = s.therm ∧ (State.logRoom s).pwr = s.pwr ∧ (State.logRoom
    s).sec = s.sec ∧ (State.logRoom s).dbg = s.dbg ∧ (State.logRoom s).free = s.free := by
  unfold State.logRoom; (try dsimp only); (repeat' split) <;> simp only [State.inc_frame, and_self]

@[simp] theorem State.logStore_frame (s : State) (b : List Sys2Proof.Byte) :
    (State.logStore s b).pending = s.pending ∧ (State.logStore s b).out = s.out ∧ (State.logStore s b).doms = s.doms ∧
    (State.logStore s b).time = s.time ∧ (State.logStore s b).boot = s.boot ∧ (State.logStore s b).modes = s.modes ∧
    (State.logStore s b).ops = s.ops ∧ (State.logStore s b).chain = s.chain ∧ (State.logStore s b).bar0 = s.bar0 ∧
    (State.logStore s b).lanes = s.lanes ∧ (State.logStore s b).aligned = s.aligned ∧ (State.logStore s b).intake =
    s.intake ∧ (State.logStore s b).link = s.link ∧ (State.logStore s b).fpa = s.fpa ∧ (State.logStore s b).sp0 =
    s.sp0 ∧ (State.logStore s b).pipe = s.pipe ∧ (State.logStore s b).coef = s.coef ∧ (State.logStore s b).gen = s.gen
    ∧ (State.logStore s b).vdet = s.vdet ∧ (State.logStore s b).stat = s.stat ∧ (State.logStore s b).ecl = s.ecl ∧
    (State.logStore s b).shut = s.shut ∧ (State.logStore s b).windows = s.windows ∧ (State.logStore s b).enc0 = s.enc0
    ∧ (State.logStore s b).enc1 = s.enc1 ∧ (State.logStore s b).tg = s.tg ∧ (State.logStore s b).chan = s.chan ∧
    (State.logStore s b).trig = s.trig ∧ (State.logStore s b).trigOut = s.trigOut ∧ (State.logStore s b).out0 = s.out0
    ∧ (State.logStore s b).out1 = s.out1 ∧ (State.logStore s b).taps = s.taps ∧ (State.logStore s b).mem = s.mem ∧
    (State.logStore s b).host = s.host ∧ (State.logStore s b).dma = s.dma ∧ (State.logStore s b).rings = s.rings ∧
    (State.logStore s b).ingots = s.ingots ∧ (State.logStore s b).serial = s.serial ∧ (State.logStore s b).hk = s.hk ∧
    (State.logStore s b).therm = s.therm ∧ (State.logStore s b).pwr = s.pwr ∧ (State.logStore s b).sec = s.sec ∧
    (State.logStore s b).dbg = s.dbg := by
  unfold State.logStore; (try dsimp only); (repeat' split) <;> simp only [State.putKeep_frame, State.setO_frame, and_self]

@[simp] theorem State.flushLog_frame (s : State) :
    (State.flushLog s).pending = s.pending ∧ (State.flushLog s).out = s.out ∧ (State.flushLog s).od = s.od ∧
    (State.flushLog s).doms = s.doms ∧ (State.flushLog s).time = s.time ∧ (State.flushLog s).boot = s.boot ∧
    (State.flushLog s).modes = s.modes ∧ (State.flushLog s).ops = s.ops ∧ (State.flushLog s).chain = s.chain ∧
    (State.flushLog s).bar0 = s.bar0 ∧ (State.flushLog s).lanes = s.lanes ∧ (State.flushLog s).aligned = s.aligned ∧
    (State.flushLog s).intake = s.intake ∧ (State.flushLog s).link = s.link ∧ (State.flushLog s).fpa = s.fpa ∧
    (State.flushLog s).sp0 = s.sp0 ∧ (State.flushLog s).pipe = s.pipe ∧ (State.flushLog s).coef = s.coef ∧
    (State.flushLog s).gen = s.gen ∧ (State.flushLog s).vdet = s.vdet ∧ (State.flushLog s).stat = s.stat ∧
    (State.flushLog s).ecl = s.ecl ∧ (State.flushLog s).shut = s.shut ∧ (State.flushLog s).windows = s.windows ∧
    (State.flushLog s).enc0 = s.enc0 ∧ (State.flushLog s).enc1 = s.enc1 ∧ (State.flushLog s).tg = s.tg ∧
    (State.flushLog s).chan = s.chan ∧ (State.flushLog s).trig = s.trig ∧ (State.flushLog s).trigOut = s.trigOut ∧
    (State.flushLog s).out0 = s.out0 ∧ (State.flushLog s).out1 = s.out1 ∧ (State.flushLog s).taps = s.taps ∧
    (State.flushLog s).mem = s.mem ∧ (State.flushLog s).host = s.host ∧ (State.flushLog s).dma = s.dma ∧
    (State.flushLog s).rings = s.rings ∧ (State.flushLog s).ingots = s.ingots ∧ (State.flushLog s).serial = s.serial ∧
    (State.flushLog s).hk = s.hk ∧ (State.flushLog s).therm = s.therm ∧ (State.flushLog s).pwr = s.pwr ∧
    (State.flushLog s).sec = s.sec ∧ (State.flushLog s).dbg = s.dbg ∧ (State.flushLog s).free = s.free := by
  unfold State.flushLog; (try dsimp only); (repeat' split) <;> simp only [and_self]

@[simp] theorem State.logLimit_frame (s : State) :
    (State.logLimit s).pending = s.pending ∧ (State.logLimit s).out = s.out ∧ (State.logLimit s).od = s.od ∧
    (State.logLimit s).doms = s.doms ∧ (State.logLimit s).time = s.time ∧ (State.logLimit s).boot = s.boot ∧
    (State.logLimit s).modes = s.modes ∧ (State.logLimit s).ops = s.ops ∧ (State.logLimit s).chain = s.chain ∧
    (State.logLimit s).bar0 = s.bar0 ∧ (State.logLimit s).lanes = s.lanes ∧ (State.logLimit s).aligned = s.aligned ∧
    (State.logLimit s).intake = s.intake ∧ (State.logLimit s).link = s.link ∧ (State.logLimit s).fpa = s.fpa ∧
    (State.logLimit s).sp0 = s.sp0 ∧ (State.logLimit s).pipe = s.pipe ∧ (State.logLimit s).coef = s.coef ∧
    (State.logLimit s).gen = s.gen ∧ (State.logLimit s).vdet = s.vdet ∧ (State.logLimit s).stat = s.stat ∧
    (State.logLimit s).ecl = s.ecl ∧ (State.logLimit s).shut = s.shut ∧ (State.logLimit s).windows = s.windows ∧
    (State.logLimit s).enc0 = s.enc0 ∧ (State.logLimit s).enc1 = s.enc1 ∧ (State.logLimit s).tg = s.tg ∧
    (State.logLimit s).chan = s.chan ∧ (State.logLimit s).trig = s.trig ∧ (State.logLimit s).trigOut = s.trigOut ∧
    (State.logLimit s).out0 = s.out0 ∧ (State.logLimit s).out1 = s.out1 ∧ (State.logLimit s).taps = s.taps ∧
    (State.logLimit s).mem = s.mem ∧ (State.logLimit s).host = s.host ∧ (State.logLimit s).dma = s.dma ∧
    (State.logLimit s).rings = s.rings ∧ (State.logLimit s).ingots = s.ingots ∧ (State.logLimit s).serial = s.serial ∧
    (State.logLimit s).hk = s.hk ∧ (State.logLimit s).therm = s.therm ∧ (State.logLimit s).pwr = s.pwr ∧
    (State.logLimit s).sec = s.sec ∧ (State.logLimit s).dbg = s.dbg ∧ (State.logLimit s).free = s.free := by
  unfold State.logLimit; (try dsimp only); (repeat' split) <;> simp only [State.flushLog_frame, and_self]

@[simp] theorem State.logAdd_frame (s : State) (code : ℕ) (pos : ℕ) (source : ℕ) (detail : ℕ) (data : List Sys2Proof.Byte) :
    (State.logAdd s code pos source detail data).pending = s.pending ∧ (State.logAdd s code pos source detail data).out =
    s.out ∧ (State.logAdd s code pos source detail data).doms = s.doms ∧ (State.logAdd s code pos source detail
    data).time = s.time ∧ (State.logAdd s code pos source detail data).boot = s.boot ∧ (State.logAdd s code pos source
    detail data).modes = s.modes ∧ (State.logAdd s code pos source detail data).ops = s.ops ∧ (State.logAdd s code pos
    source detail data).chain = s.chain ∧ (State.logAdd s code pos source detail data).bar0 = s.bar0 ∧ (State.logAdd s
    code pos source detail data).lanes = s.lanes ∧ (State.logAdd s code pos source detail data).aligned = s.aligned ∧
    (State.logAdd s code pos source detail data).intake = s.intake ∧ (State.logAdd s code pos source detail data).link
    = s.link ∧ (State.logAdd s code pos source detail data).fpa = s.fpa ∧ (State.logAdd s code pos source detail
    data).sp0 = s.sp0 ∧ (State.logAdd s code pos source detail data).pipe = s.pipe ∧ (State.logAdd s code pos source
    detail data).coef = s.coef ∧ (State.logAdd s code pos source detail data).gen = s.gen ∧ (State.logAdd s code pos
    source detail data).vdet = s.vdet ∧ (State.logAdd s code pos source detail data).stat = s.stat ∧ (State.logAdd s
    code pos source detail data).ecl = s.ecl ∧ (State.logAdd s code pos source detail data).shut = s.shut ∧
    (State.logAdd s code pos source detail data).windows = s.windows ∧ (State.logAdd s code pos source detail
    data).enc0 = s.enc0 ∧ (State.logAdd s code pos source detail data).enc1 = s.enc1 ∧ (State.logAdd s code pos source
    detail data).tg = s.tg ∧ (State.logAdd s code pos source detail data).chan = s.chan ∧ (State.logAdd s code pos
    source detail data).trig = s.trig ∧ (State.logAdd s code pos source detail data).trigOut = s.trigOut ∧
    (State.logAdd s code pos source detail data).out0 = s.out0 ∧ (State.logAdd s code pos source detail data).out1 =
    s.out1 ∧ (State.logAdd s code pos source detail data).taps = s.taps ∧ (State.logAdd s code pos source detail
    data).mem = s.mem ∧ (State.logAdd s code pos source detail data).host = s.host ∧ (State.logAdd s code pos source
    detail data).dma = s.dma ∧ (State.logAdd s code pos source detail data).rings = s.rings ∧ (State.logAdd s code pos
    source detail data).ingots = s.ingots ∧ (State.logAdd s code pos source detail data).serial = s.serial ∧
    (State.logAdd s code pos source detail data).hk = s.hk ∧ (State.logAdd s code pos source detail data).therm =
    s.therm ∧ (State.logAdd s code pos source detail data).pwr = s.pwr ∧ (State.logAdd s code pos source detail
    data).sec = s.sec ∧ (State.logAdd s code pos source detail data).dbg = s.dbg := by
  unfold State.logAdd; (try dsimp only); (repeat' split) <;> simp only [State.logRoom_frame, State.logStore_frame, State.logLimit_frame, and_self]

@[simp] theorem State.logRaw_frame (s : State) (code : ℕ) (pos : ℕ) (source : ℕ) (detail : ℕ) (data : List Sys2Proof.Byte) :
    (State.logRaw s code pos source detail data).pending = s.pending ∧ (State.logRaw s code pos source detail data).out =
    s.out ∧ (State.logRaw s code pos source detail data).doms = s.doms ∧ (State.logRaw s code pos source detail
    data).time = s.time ∧ (State.logRaw s code pos source detail data).boot = s.boot ∧ (State.logRaw s code pos source
    detail data).modes = s.modes ∧ (State.logRaw s code pos source detail data).ops = s.ops ∧ (State.logRaw s code pos
    source detail data).chain = s.chain ∧ (State.logRaw s code pos source detail data).bar0 = s.bar0 ∧ (State.logRaw s
    code pos source detail data).lanes = s.lanes ∧ (State.logRaw s code pos source detail data).aligned = s.aligned ∧
    (State.logRaw s code pos source detail data).intake = s.intake ∧ (State.logRaw s code pos source detail data).link
    = s.link ∧ (State.logRaw s code pos source detail data).fpa = s.fpa ∧ (State.logRaw s code pos source detail
    data).sp0 = s.sp0 ∧ (State.logRaw s code pos source detail data).pipe = s.pipe ∧ (State.logRaw s code pos source
    detail data).coef = s.coef ∧ (State.logRaw s code pos source detail data).gen = s.gen ∧ (State.logRaw s code pos
    source detail data).vdet = s.vdet ∧ (State.logRaw s code pos source detail data).stat = s.stat ∧ (State.logRaw s
    code pos source detail data).ecl = s.ecl ∧ (State.logRaw s code pos source detail data).shut = s.shut ∧
    (State.logRaw s code pos source detail data).windows = s.windows ∧ (State.logRaw s code pos source detail
    data).enc0 = s.enc0 ∧ (State.logRaw s code pos source detail data).enc1 = s.enc1 ∧ (State.logRaw s code pos source
    detail data).tg = s.tg ∧ (State.logRaw s code pos source detail data).chan = s.chan ∧ (State.logRaw s code pos
    source detail data).trig = s.trig ∧ (State.logRaw s code pos source detail data).trigOut = s.trigOut ∧
    (State.logRaw s code pos source detail data).out0 = s.out0 ∧ (State.logRaw s code pos source detail data).out1 =
    s.out1 ∧ (State.logRaw s code pos source detail data).taps = s.taps ∧ (State.logRaw s code pos source detail
    data).mem = s.mem ∧ (State.logRaw s code pos source detail data).host = s.host ∧ (State.logRaw s code pos source
    detail data).dma = s.dma ∧ (State.logRaw s code pos source detail data).rings = s.rings ∧ (State.logRaw s code pos
    source detail data).ingots = s.ingots ∧ (State.logRaw s code pos source detail data).serial = s.serial ∧
    (State.logRaw s code pos source detail data).hk = s.hk ∧ (State.logRaw s code pos source detail data).therm =
    s.therm ∧ (State.logRaw s code pos source detail data).pwr = s.pwr ∧ (State.logRaw s code pos source detail
    data).sec = s.sec ∧ (State.logRaw s code pos source detail data).dbg = s.dbg := by
  unfold State.logRaw; (try dsimp only); (repeat' split) <;> simp only [State.logAdd_frame, and_self]

@[simp] theorem State.logEvt_frame (s : State) (e : Sys2Proof.Machine.Evt) (pos : ℕ) (detail : ℕ) (fs : List (ℕ × ℕ)) :
    (State.logEvt s e pos detail fs).pending = s.pending ∧ (State.logEvt s e pos detail fs).out = s.out ∧ (State.logEvt s
    e pos detail fs).doms = s.doms ∧ (State.logEvt s e pos detail fs).time = s.time ∧ (State.logEvt s e pos detail
    fs).boot = s.boot ∧ (State.logEvt s e pos detail fs).modes = s.modes ∧ (State.logEvt s e pos detail fs).ops =
    s.ops ∧ (State.logEvt s e pos detail fs).chain = s.chain ∧ (State.logEvt s e pos detail fs).bar0 = s.bar0 ∧
    (State.logEvt s e pos detail fs).lanes = s.lanes ∧ (State.logEvt s e pos detail fs).aligned = s.aligned ∧
    (State.logEvt s e pos detail fs).intake = s.intake ∧ (State.logEvt s e pos detail fs).link = s.link ∧
    (State.logEvt s e pos detail fs).fpa = s.fpa ∧ (State.logEvt s e pos detail fs).sp0 = s.sp0 ∧ (State.logEvt s e
    pos detail fs).pipe = s.pipe ∧ (State.logEvt s e pos detail fs).coef = s.coef ∧ (State.logEvt s e pos detail
    fs).gen = s.gen ∧ (State.logEvt s e pos detail fs).vdet = s.vdet ∧ (State.logEvt s e pos detail fs).stat = s.stat
    ∧ (State.logEvt s e pos detail fs).ecl = s.ecl ∧ (State.logEvt s e pos detail fs).shut = s.shut ∧ (State.logEvt s
    e pos detail fs).windows = s.windows ∧ (State.logEvt s e pos detail fs).enc0 = s.enc0 ∧ (State.logEvt s e pos
    detail fs).enc1 = s.enc1 ∧ (State.logEvt s e pos detail fs).tg = s.tg ∧ (State.logEvt s e pos detail fs).chan =
    s.chan ∧ (State.logEvt s e pos detail fs).trig = s.trig ∧ (State.logEvt s e pos detail fs).trigOut = s.trigOut ∧
    (State.logEvt s e pos detail fs).out0 = s.out0 ∧ (State.logEvt s e pos detail fs).out1 = s.out1 ∧ (State.logEvt s
    e pos detail fs).taps = s.taps ∧ (State.logEvt s e pos detail fs).mem = s.mem ∧ (State.logEvt s e pos detail
    fs).host = s.host ∧ (State.logEvt s e pos detail fs).dma = s.dma ∧ (State.logEvt s e pos detail fs).rings =
    s.rings ∧ (State.logEvt s e pos detail fs).ingots = s.ingots ∧ (State.logEvt s e pos detail fs).serial = s.serial
    ∧ (State.logEvt s e pos detail fs).hk = s.hk ∧ (State.logEvt s e pos detail fs).therm = s.therm ∧ (State.logEvt s
    e pos detail fs).pwr = s.pwr ∧ (State.logEvt s e pos detail fs).sec = s.sec ∧ (State.logEvt s e pos detail fs).dbg
    = s.dbg := by
  unfold State.logEvt; (try dsimp only); (repeat' split) <;> simp only [State.logRaw_frame, and_self]

@[simp] theorem State.nvFailed_frame (s : State) (a : ℕ) :
    (State.nvFailed s a).pending = s.pending ∧ (State.nvFailed s a).out = s.out ∧ (State.nvFailed s a).doms = s.doms ∧
    (State.nvFailed s a).time = s.time ∧ (State.nvFailed s a).boot = s.boot ∧ (State.nvFailed s a).modes = s.modes ∧
    (State.nvFailed s a).ops = s.ops ∧ (State.nvFailed s a).chain = s.chain ∧ (State.nvFailed s a).bar0 = s.bar0 ∧
    (State.nvFailed s a).lanes = s.lanes ∧ (State.nvFailed s a).aligned = s.aligned ∧ (State.nvFailed s a).intake =
    s.intake ∧ (State.nvFailed s a).link = s.link ∧ (State.nvFailed s a).fpa = s.fpa ∧ (State.nvFailed s a).sp0 =
    s.sp0 ∧ (State.nvFailed s a).pipe = s.pipe ∧ (State.nvFailed s a).coef = s.coef ∧ (State.nvFailed s a).gen = s.gen
    ∧ (State.nvFailed s a).vdet = s.vdet ∧ (State.nvFailed s a).stat = s.stat ∧ (State.nvFailed s a).ecl = s.ecl ∧
    (State.nvFailed s a).shut = s.shut ∧ (State.nvFailed s a).windows = s.windows ∧ (State.nvFailed s a).enc0 = s.enc0
    ∧ (State.nvFailed s a).enc1 = s.enc1 ∧ (State.nvFailed s a).tg = s.tg ∧ (State.nvFailed s a).chan = s.chan ∧
    (State.nvFailed s a).trig = s.trig ∧ (State.nvFailed s a).trigOut = s.trigOut ∧ (State.nvFailed s a).out0 = s.out0
    ∧ (State.nvFailed s a).out1 = s.out1 ∧ (State.nvFailed s a).taps = s.taps ∧ (State.nvFailed s a).mem = s.mem ∧
    (State.nvFailed s a).host = s.host ∧ (State.nvFailed s a).dma = s.dma ∧ (State.nvFailed s a).rings = s.rings ∧
    (State.nvFailed s a).ingots = s.ingots ∧ (State.nvFailed s a).serial = s.serial ∧ (State.nvFailed s a).hk = s.hk ∧
    (State.nvFailed s a).therm = s.therm ∧ (State.nvFailed s a).pwr = s.pwr ∧ (State.nvFailed s a).sec = s.sec ∧
    (State.nvFailed s a).dbg = s.dbg := by
  unfold State.nvFailed; (try dsimp only); (repeat' split) <;> simp only [State.logEvt_frame, and_self]

@[simp] theorem State.setKeep_frame (s : State) (a : ℕ) (bs : List Sys2Proof.Byte) :
    (State.setKeep s a bs).pending = s.pending ∧ (State.setKeep s a bs).out = s.out ∧ (State.setKeep s a bs).doms = s.doms
    ∧ (State.setKeep s a bs).time = s.time ∧ (State.setKeep s a bs).boot = s.boot ∧ (State.setKeep s a bs).modes =
    s.modes ∧ (State.setKeep s a bs).ops = s.ops ∧ (State.setKeep s a bs).chain = s.chain ∧ (State.setKeep s a
    bs).bar0 = s.bar0 ∧ (State.setKeep s a bs).lanes = s.lanes ∧ (State.setKeep s a bs).aligned = s.aligned ∧
    (State.setKeep s a bs).intake = s.intake ∧ (State.setKeep s a bs).link = s.link ∧ (State.setKeep s a bs).fpa =
    s.fpa ∧ (State.setKeep s a bs).sp0 = s.sp0 ∧ (State.setKeep s a bs).pipe = s.pipe ∧ (State.setKeep s a bs).coef =
    s.coef ∧ (State.setKeep s a bs).gen = s.gen ∧ (State.setKeep s a bs).vdet = s.vdet ∧ (State.setKeep s a bs).stat =
    s.stat ∧ (State.setKeep s a bs).ecl = s.ecl ∧ (State.setKeep s a bs).shut = s.shut ∧ (State.setKeep s a
    bs).windows = s.windows ∧ (State.setKeep s a bs).enc0 = s.enc0 ∧ (State.setKeep s a bs).enc1 = s.enc1 ∧
    (State.setKeep s a bs).tg = s.tg ∧ (State.setKeep s a bs).chan = s.chan ∧ (State.setKeep s a bs).trig = s.trig ∧
    (State.setKeep s a bs).trigOut = s.trigOut ∧ (State.setKeep s a bs).out0 = s.out0 ∧ (State.setKeep s a bs).out1 =
    s.out1 ∧ (State.setKeep s a bs).taps = s.taps ∧ (State.setKeep s a bs).mem = s.mem ∧ (State.setKeep s a bs).host =
    s.host ∧ (State.setKeep s a bs).dma = s.dma ∧ (State.setKeep s a bs).rings = s.rings ∧ (State.setKeep s a
    bs).ingots = s.ingots ∧ (State.setKeep s a bs).serial = s.serial ∧ (State.setKeep s a bs).hk = s.hk ∧
    (State.setKeep s a bs).therm = s.therm ∧ (State.setKeep s a bs).pwr = s.pwr ∧ (State.setKeep s a bs).sec = s.sec ∧
    (State.setKeep s a bs).dbg = s.dbg := by
  unfold State.setKeep; (try dsimp only); (repeat' split) <;> simp only [State.putKeep_frame, State.nvFailed_frame, and_self]

@[simp] theorem State.setTwoSlot_frame (s : State) (a : ℕ) (v : ℕ) :
    (State.setTwoSlot s a v).pending = s.pending ∧ (State.setTwoSlot s a v).out = s.out ∧ (State.setTwoSlot s a v).doms =
    s.doms ∧ (State.setTwoSlot s a v).time = s.time ∧ (State.setTwoSlot s a v).boot = s.boot ∧ (State.setTwoSlot s a
    v).modes = s.modes ∧ (State.setTwoSlot s a v).ops = s.ops ∧ (State.setTwoSlot s a v).chain = s.chain ∧
    (State.setTwoSlot s a v).bar0 = s.bar0 ∧ (State.setTwoSlot s a v).lanes = s.lanes ∧ (State.setTwoSlot s a
    v).aligned = s.aligned ∧ (State.setTwoSlot s a v).intake = s.intake ∧ (State.setTwoSlot s a v).link = s.link ∧
    (State.setTwoSlot s a v).fpa = s.fpa ∧ (State.setTwoSlot s a v).sp0 = s.sp0 ∧ (State.setTwoSlot s a v).pipe =
    s.pipe ∧ (State.setTwoSlot s a v).coef = s.coef ∧ (State.setTwoSlot s a v).gen = s.gen ∧ (State.setTwoSlot s a
    v).vdet = s.vdet ∧ (State.setTwoSlot s a v).stat = s.stat ∧ (State.setTwoSlot s a v).ecl = s.ecl ∧
    (State.setTwoSlot s a v).shut = s.shut ∧ (State.setTwoSlot s a v).windows = s.windows ∧ (State.setTwoSlot s a
    v).enc0 = s.enc0 ∧ (State.setTwoSlot s a v).enc1 = s.enc1 ∧ (State.setTwoSlot s a v).tg = s.tg ∧ (State.setTwoSlot
    s a v).chan = s.chan ∧ (State.setTwoSlot s a v).trig = s.trig ∧ (State.setTwoSlot s a v).trigOut = s.trigOut ∧
    (State.setTwoSlot s a v).out0 = s.out0 ∧ (State.setTwoSlot s a v).out1 = s.out1 ∧ (State.setTwoSlot s a v).taps =
    s.taps ∧ (State.setTwoSlot s a v).mem = s.mem ∧ (State.setTwoSlot s a v).host = s.host ∧ (State.setTwoSlot s a
    v).dma = s.dma ∧ (State.setTwoSlot s a v).rings = s.rings ∧ (State.setTwoSlot s a v).ingots = s.ingots ∧
    (State.setTwoSlot s a v).serial = s.serial ∧ (State.setTwoSlot s a v).hk = s.hk ∧ (State.setTwoSlot s a v).therm =
    s.therm ∧ (State.setTwoSlot s a v).pwr = s.pwr ∧ (State.setTwoSlot s a v).sec = s.sec ∧ (State.setTwoSlot s a
    v).dbg = s.dbg := by
  unfold State.setTwoSlot; (try dsimp only); (repeat' split) <;> simp only [State.setKeep_frame, and_self]

@[simp] theorem State.raise_frame (s : State) (v : ℕ) :
    (State.raise s v).pending = s.pending ∧ (State.raise s v).od = s.od ∧ (State.raise s v).doms = s.doms ∧ (State.raise s
    v).time = s.time ∧ (State.raise s v).boot = s.boot ∧ (State.raise s v).modes = s.modes ∧ (State.raise s v).ops =
    s.ops ∧ (State.raise s v).chain = s.chain ∧ (State.raise s v).bar0 = s.bar0 ∧ (State.raise s v).nv = s.nv ∧
    (State.raise s v).lanes = s.lanes ∧ (State.raise s v).aligned = s.aligned ∧ (State.raise s v).intake = s.intake ∧
    (State.raise s v).link = s.link ∧ (State.raise s v).fpa = s.fpa ∧ (State.raise s v).sp0 = s.sp0 ∧ (State.raise s
    v).pipe = s.pipe ∧ (State.raise s v).coef = s.coef ∧ (State.raise s v).gen = s.gen ∧ (State.raise s v).vdet =
    s.vdet ∧ (State.raise s v).stat = s.stat ∧ (State.raise s v).ecl = s.ecl ∧ (State.raise s v).shut = s.shut ∧
    (State.raise s v).windows = s.windows ∧ (State.raise s v).enc0 = s.enc0 ∧ (State.raise s v).enc1 = s.enc1 ∧
    (State.raise s v).tg = s.tg ∧ (State.raise s v).chan = s.chan ∧ (State.raise s v).trig = s.trig ∧ (State.raise s
    v).trigOut = s.trigOut ∧ (State.raise s v).out0 = s.out0 ∧ (State.raise s v).out1 = s.out1 ∧ (State.raise s
    v).taps = s.taps ∧ (State.raise s v).mem = s.mem ∧ (State.raise s v).dma = s.dma ∧ (State.raise s v).rings =
    s.rings ∧ (State.raise s v).ingots = s.ingots ∧ (State.raise s v).serial = s.serial ∧ (State.raise s v).hk = s.hk
    ∧ (State.raise s v).therm = s.therm ∧ (State.raise s v).pwr = s.pwr ∧ (State.raise s v).sec = s.sec ∧ (State.raise
    s v).dbg = s.dbg ∧ (State.raise s v).free = s.free := by
  unfold State.raise; (try dsimp only); (repeat' split) <;> simp only [State.emit_frame, and_self]

@[simp] theorem State.log_frame (s : State) (code : ℕ) (pos : ℕ) (fs : List (ℕ × ℕ)) :
    (State.log s code pos fs).pending = s.pending ∧ (State.log s code pos fs).out = s.out ∧ (State.log s code pos fs).doms
    = s.doms ∧ (State.log s code pos fs).time = s.time ∧ (State.log s code pos fs).boot = s.boot ∧ (State.log s code
    pos fs).modes = s.modes ∧ (State.log s code pos fs).ops = s.ops ∧ (State.log s code pos fs).chain = s.chain ∧
    (State.log s code pos fs).bar0 = s.bar0 ∧ (State.log s code pos fs).lanes = s.lanes ∧ (State.log s code pos
    fs).aligned = s.aligned ∧ (State.log s code pos fs).intake = s.intake ∧ (State.log s code pos fs).link = s.link ∧
    (State.log s code pos fs).fpa = s.fpa ∧ (State.log s code pos fs).sp0 = s.sp0 ∧ (State.log s code pos fs).pipe =
    s.pipe ∧ (State.log s code pos fs).coef = s.coef ∧ (State.log s code pos fs).gen = s.gen ∧ (State.log s code pos
    fs).vdet = s.vdet ∧ (State.log s code pos fs).stat = s.stat ∧ (State.log s code pos fs).ecl = s.ecl ∧ (State.log s
    code pos fs).shut = s.shut ∧ (State.log s code pos fs).windows = s.windows ∧ (State.log s code pos fs).enc0 =
    s.enc0 ∧ (State.log s code pos fs).enc1 = s.enc1 ∧ (State.log s code pos fs).tg = s.tg ∧ (State.log s code pos
    fs).chan = s.chan ∧ (State.log s code pos fs).trig = s.trig ∧ (State.log s code pos fs).trigOut = s.trigOut ∧
    (State.log s code pos fs).out0 = s.out0 ∧ (State.log s code pos fs).out1 = s.out1 ∧ (State.log s code pos fs).taps
    = s.taps ∧ (State.log s code pos fs).mem = s.mem ∧ (State.log s code pos fs).host = s.host ∧ (State.log s code pos
    fs).dma = s.dma ∧ (State.log s code pos fs).rings = s.rings ∧ (State.log s code pos fs).ingots = s.ingots ∧
    (State.log s code pos fs).serial = s.serial ∧ (State.log s code pos fs).hk = s.hk ∧ (State.log s code pos
    fs).therm = s.therm ∧ (State.log s code pos fs).pwr = s.pwr ∧ (State.log s code pos fs).sec = s.sec ∧ (State.log s
    code pos fs).dbg = s.dbg := by
  unfold State.log; (try dsimp only); (repeat' split) <;> simp only [State.logRaw_frame, and_self]

@[simp] theorem State.slotsBad_frame (s : State) (a : ℕ) :
    (State.slotsBad s a).pending = s.pending ∧ (State.slotsBad s a).out = s.out ∧ (State.slotsBad s a).doms = s.doms ∧
    (State.slotsBad s a).time = s.time ∧ (State.slotsBad s a).boot = s.boot ∧ (State.slotsBad s a).modes = s.modes ∧
    (State.slotsBad s a).ops = s.ops ∧ (State.slotsBad s a).chain = s.chain ∧ (State.slotsBad s a).bar0 = s.bar0 ∧
    (State.slotsBad s a).lanes = s.lanes ∧ (State.slotsBad s a).aligned = s.aligned ∧ (State.slotsBad s a).intake =
    s.intake ∧ (State.slotsBad s a).link = s.link ∧ (State.slotsBad s a).fpa = s.fpa ∧ (State.slotsBad s a).sp0 =
    s.sp0 ∧ (State.slotsBad s a).pipe = s.pipe ∧ (State.slotsBad s a).coef = s.coef ∧ (State.slotsBad s a).gen = s.gen
    ∧ (State.slotsBad s a).vdet = s.vdet ∧ (State.slotsBad s a).stat = s.stat ∧ (State.slotsBad s a).ecl = s.ecl ∧
    (State.slotsBad s a).shut = s.shut ∧ (State.slotsBad s a).windows = s.windows ∧ (State.slotsBad s a).enc0 = s.enc0
    ∧ (State.slotsBad s a).enc1 = s.enc1 ∧ (State.slotsBad s a).tg = s.tg ∧ (State.slotsBad s a).chan = s.chan ∧
    (State.slotsBad s a).trig = s.trig ∧ (State.slotsBad s a).trigOut = s.trigOut ∧ (State.slotsBad s a).out0 = s.out0
    ∧ (State.slotsBad s a).out1 = s.out1 ∧ (State.slotsBad s a).taps = s.taps ∧ (State.slotsBad s a).mem = s.mem ∧
    (State.slotsBad s a).host = s.host ∧ (State.slotsBad s a).dma = s.dma ∧ (State.slotsBad s a).rings = s.rings ∧
    (State.slotsBad s a).ingots = s.ingots ∧ (State.slotsBad s a).serial = s.serial ∧ (State.slotsBad s a).hk = s.hk ∧
    (State.slotsBad s a).therm = s.therm ∧ (State.slotsBad s a).pwr = s.pwr ∧ (State.slotsBad s a).sec = s.sec ∧
    (State.slotsBad s a).dbg = s.dbg := by
  unfold State.slotsBad; (try dsimp only); (repeat' split) <;> simp only [State.inc_frame, State.log_frame, and_self]

@[simp] theorem State.updTwoSlot_frame (s : State) (a : ℕ) (v : ℕ) :
    (State.updTwoSlot s a v).pending = s.pending ∧ (State.updTwoSlot s a v).out = s.out ∧ (State.updTwoSlot s a v).doms =
    s.doms ∧ (State.updTwoSlot s a v).time = s.time ∧ (State.updTwoSlot s a v).boot = s.boot ∧ (State.updTwoSlot s a
    v).modes = s.modes ∧ (State.updTwoSlot s a v).ops = s.ops ∧ (State.updTwoSlot s a v).chain = s.chain ∧
    (State.updTwoSlot s a v).bar0 = s.bar0 ∧ (State.updTwoSlot s a v).lanes = s.lanes ∧ (State.updTwoSlot s a
    v).aligned = s.aligned ∧ (State.updTwoSlot s a v).intake = s.intake ∧ (State.updTwoSlot s a v).link = s.link ∧
    (State.updTwoSlot s a v).fpa = s.fpa ∧ (State.updTwoSlot s a v).sp0 = s.sp0 ∧ (State.updTwoSlot s a v).pipe =
    s.pipe ∧ (State.updTwoSlot s a v).coef = s.coef ∧ (State.updTwoSlot s a v).gen = s.gen ∧ (State.updTwoSlot s a
    v).vdet = s.vdet ∧ (State.updTwoSlot s a v).stat = s.stat ∧ (State.updTwoSlot s a v).ecl = s.ecl ∧
    (State.updTwoSlot s a v).shut = s.shut ∧ (State.updTwoSlot s a v).windows = s.windows ∧ (State.updTwoSlot s a
    v).enc0 = s.enc0 ∧ (State.updTwoSlot s a v).enc1 = s.enc1 ∧ (State.updTwoSlot s a v).tg = s.tg ∧ (State.updTwoSlot
    s a v).chan = s.chan ∧ (State.updTwoSlot s a v).trig = s.trig ∧ (State.updTwoSlot s a v).trigOut = s.trigOut ∧
    (State.updTwoSlot s a v).out0 = s.out0 ∧ (State.updTwoSlot s a v).out1 = s.out1 ∧ (State.updTwoSlot s a v).taps =
    s.taps ∧ (State.updTwoSlot s a v).mem = s.mem ∧ (State.updTwoSlot s a v).host = s.host ∧ (State.updTwoSlot s a
    v).dma = s.dma ∧ (State.updTwoSlot s a v).rings = s.rings ∧ (State.updTwoSlot s a v).ingots = s.ingots ∧
    (State.updTwoSlot s a v).serial = s.serial ∧ (State.updTwoSlot s a v).hk = s.hk ∧ (State.updTwoSlot s a v).therm =
    s.therm ∧ (State.updTwoSlot s a v).pwr = s.pwr ∧ (State.updTwoSlot s a v).sec = s.sec ∧ (State.updTwoSlot s a
    v).dbg = s.dbg := by
  unfold State.updTwoSlot; (try dsimp only); (repeat' split) <;> simp only [State.slotsBad_frame, State.setTwoSlot_frame, and_self]

@[simp] theorem State.bumpCounter_frame (s : State) (k : ℕ) (obj : ℕ) :
    (State.bumpCounter s k obj).pending = s.pending ∧ (State.bumpCounter s k obj).out = s.out ∧ (State.bumpCounter s k
    obj).doms = s.doms ∧ (State.bumpCounter s k obj).time = s.time ∧ (State.bumpCounter s k obj).boot = s.boot ∧
    (State.bumpCounter s k obj).modes = s.modes ∧ (State.bumpCounter s k obj).ops = s.ops ∧ (State.bumpCounter s k
    obj).chain = s.chain ∧ (State.bumpCounter s k obj).bar0 = s.bar0 ∧ (State.bumpCounter s k obj).lanes = s.lanes ∧
    (State.bumpCounter s k obj).aligned = s.aligned ∧ (State.bumpCounter s k obj).intake = s.intake ∧
    (State.bumpCounter s k obj).link = s.link ∧ (State.bumpCounter s k obj).fpa = s.fpa ∧ (State.bumpCounter s k
    obj).sp0 = s.sp0 ∧ (State.bumpCounter s k obj).pipe = s.pipe ∧ (State.bumpCounter s k obj).coef = s.coef ∧
    (State.bumpCounter s k obj).gen = s.gen ∧ (State.bumpCounter s k obj).vdet = s.vdet ∧ (State.bumpCounter s k
    obj).stat = s.stat ∧ (State.bumpCounter s k obj).ecl = s.ecl ∧ (State.bumpCounter s k obj).shut = s.shut ∧
    (State.bumpCounter s k obj).windows = s.windows ∧ (State.bumpCounter s k obj).enc0 = s.enc0 ∧ (State.bumpCounter s
    k obj).enc1 = s.enc1 ∧ (State.bumpCounter s k obj).tg = s.tg ∧ (State.bumpCounter s k obj).chan = s.chan ∧
    (State.bumpCounter s k obj).trig = s.trig ∧ (State.bumpCounter s k obj).trigOut = s.trigOut ∧ (State.bumpCounter s
    k obj).out0 = s.out0 ∧ (State.bumpCounter s k obj).out1 = s.out1 ∧ (State.bumpCounter s k obj).taps = s.taps ∧
    (State.bumpCounter s k obj).mem = s.mem ∧ (State.bumpCounter s k obj).host = s.host ∧ (State.bumpCounter s k
    obj).dma = s.dma ∧ (State.bumpCounter s k obj).rings = s.rings ∧ (State.bumpCounter s k obj).ingots = s.ingots ∧
    (State.bumpCounter s k obj).serial = s.serial ∧ (State.bumpCounter s k obj).hk = s.hk ∧ (State.bumpCounter s k
    obj).therm = s.therm ∧ (State.bumpCounter s k obj).pwr = s.pwr ∧ (State.bumpCounter s k obj).sec = s.sec ∧
    (State.bumpCounter s k obj).dbg = s.dbg := by
  unfold State.bumpCounter; (try dsimp only); (repeat' split) <;> simp only [State.updTwoSlot_frame, State.setO_frame, and_self]

@[simp] theorem State.setPort_frame (s : State) (b : Bool) (c : Sys2Proof.Machine.ChainPort) :
    (State.setPort s b c).pending = s.pending ∧ (State.setPort s b c).out = s.out ∧ (State.setPort s b c).od = s.od ∧
    (State.setPort s b c).doms = s.doms ∧ (State.setPort s b c).time = s.time ∧ (State.setPort s b c).boot = s.boot ∧
    (State.setPort s b c).modes = s.modes ∧ (State.setPort s b c).ops = s.ops ∧ (State.setPort s b c).bar0 = s.bar0 ∧
    (State.setPort s b c).nv = s.nv ∧ (State.setPort s b c).lanes = s.lanes ∧ (State.setPort s b c).aligned =
    s.aligned ∧ (State.setPort s b c).intake = s.intake ∧ (State.setPort s b c).link = s.link ∧ (State.setPort s b
    c).fpa = s.fpa ∧ (State.setPort s b c).sp0 = s.sp0 ∧ (State.setPort s b c).pipe = s.pipe ∧ (State.setPort s b
    c).coef = s.coef ∧ (State.setPort s b c).gen = s.gen ∧ (State.setPort s b c).vdet = s.vdet ∧ (State.setPort s b
    c).stat = s.stat ∧ (State.setPort s b c).ecl = s.ecl ∧ (State.setPort s b c).shut = s.shut ∧ (State.setPort s b
    c).windows = s.windows ∧ (State.setPort s b c).enc0 = s.enc0 ∧ (State.setPort s b c).enc1 = s.enc1 ∧
    (State.setPort s b c).tg = s.tg ∧ (State.setPort s b c).chan = s.chan ∧ (State.setPort s b c).trig = s.trig ∧
    (State.setPort s b c).trigOut = s.trigOut ∧ (State.setPort s b c).out0 = s.out0 ∧ (State.setPort s b c).out1 =
    s.out1 ∧ (State.setPort s b c).taps = s.taps ∧ (State.setPort s b c).mem = s.mem ∧ (State.setPort s b c).host =
    s.host ∧ (State.setPort s b c).dma = s.dma ∧ (State.setPort s b c).rings = s.rings ∧ (State.setPort s b c).ingots
    = s.ingots ∧ (State.setPort s b c).serial = s.serial ∧ (State.setPort s b c).hk = s.hk ∧ (State.setPort s b
    c).therm = s.therm ∧ (State.setPort s b c).pwr = s.pwr ∧ (State.setPort s b c).sec = s.sec ∧ (State.setPort s b
    c).dbg = s.dbg ∧ (State.setPort s b c).free = s.free := by
  unfold State.setPort; (try dsimp only); (repeat' split) <;> simp only [and_self]

@[simp] theorem State.originate_frame (s : State) (b : Bool) (type : ℕ) (tele : List Sys2Proof.Byte) :
    (State.originate s b type tele).pending = s.pending ∧ (State.originate s b type tele).out = s.out ∧ (State.originate s
    b type tele).od = s.od ∧ (State.originate s b type tele).doms = s.doms ∧ (State.originate s b type tele).time =
    s.time ∧ (State.originate s b type tele).boot = s.boot ∧ (State.originate s b type tele).modes = s.modes ∧
    (State.originate s b type tele).ops = s.ops ∧ (State.originate s b type tele).bar0 = s.bar0 ∧ (State.originate s b
    type tele).nv = s.nv ∧ (State.originate s b type tele).lanes = s.lanes ∧ (State.originate s b type tele).aligned =
    s.aligned ∧ (State.originate s b type tele).intake = s.intake ∧ (State.originate s b type tele).link = s.link ∧
    (State.originate s b type tele).fpa = s.fpa ∧ (State.originate s b type tele).sp0 = s.sp0 ∧ (State.originate s b
    type tele).pipe = s.pipe ∧ (State.originate s b type tele).coef = s.coef ∧ (State.originate s b type tele).gen =
    s.gen ∧ (State.originate s b type tele).vdet = s.vdet ∧ (State.originate s b type tele).stat = s.stat ∧
    (State.originate s b type tele).ecl = s.ecl ∧ (State.originate s b type tele).shut = s.shut ∧ (State.originate s b
    type tele).windows = s.windows ∧ (State.originate s b type tele).enc0 = s.enc0 ∧ (State.originate s b type
    tele).enc1 = s.enc1 ∧ (State.originate s b type tele).tg = s.tg ∧ (State.originate s b type tele).chan = s.chan ∧
    (State.originate s b type tele).trig = s.trig ∧ (State.originate s b type tele).trigOut = s.trigOut ∧
    (State.originate s b type tele).out0 = s.out0 ∧ (State.originate s b type tele).out1 = s.out1 ∧ (State.originate s
    b type tele).taps = s.taps ∧ (State.originate s b type tele).mem = s.mem ∧ (State.originate s b type tele).host =
    s.host ∧ (State.originate s b type tele).dma = s.dma ∧ (State.originate s b type tele).rings = s.rings ∧
    (State.originate s b type tele).ingots = s.ingots ∧ (State.originate s b type tele).serial = s.serial ∧
    (State.originate s b type tele).hk = s.hk ∧ (State.originate s b type tele).therm = s.therm ∧ (State.originate s b
    type tele).pwr = s.pwr ∧ (State.originate s b type tele).sec = s.sec ∧ (State.originate s b type tele).dbg = s.dbg
    ∧ (State.originate s b type tele).free = s.free := by
  unfold State.originate; (try dsimp only); (repeat' split) <;> simp only [State.setPort_frame, and_self]

@[simp] theorem State.reply_frame (s : State) (r : Sys2Proof.Req) (type : ℕ) (payload : List Sys2Proof.Byte) :
    (State.reply s r type payload).pending = s.pending ∧ (State.reply s r type payload).out = s.out ∧ (State.reply s r
    type payload).od = s.od ∧ (State.reply s r type payload).doms = s.doms ∧ (State.reply s r type payload).time =
    s.time ∧ (State.reply s r type payload).boot = s.boot ∧ (State.reply s r type payload).modes = s.modes ∧
    (State.reply s r type payload).ops = s.ops ∧ (State.reply s r type payload).bar0 = s.bar0 ∧ (State.reply s r type
    payload).nv = s.nv ∧ (State.reply s r type payload).lanes = s.lanes ∧ (State.reply s r type payload).aligned =
    s.aligned ∧ (State.reply s r type payload).intake = s.intake ∧ (State.reply s r type payload).link = s.link ∧
    (State.reply s r type payload).fpa = s.fpa ∧ (State.reply s r type payload).sp0 = s.sp0 ∧ (State.reply s r type
    payload).pipe = s.pipe ∧ (State.reply s r type payload).coef = s.coef ∧ (State.reply s r type payload).gen = s.gen
    ∧ (State.reply s r type payload).vdet = s.vdet ∧ (State.reply s r type payload).stat = s.stat ∧ (State.reply s r
    type payload).ecl = s.ecl ∧ (State.reply s r type payload).shut = s.shut ∧ (State.reply s r type payload).windows
    = s.windows ∧ (State.reply s r type payload).enc0 = s.enc0 ∧ (State.reply s r type payload).enc1 = s.enc1 ∧
    (State.reply s r type payload).tg = s.tg ∧ (State.reply s r type payload).chan = s.chan ∧ (State.reply s r type
    payload).trig = s.trig ∧ (State.reply s r type payload).trigOut = s.trigOut ∧ (State.reply s r type payload).out0
    = s.out0 ∧ (State.reply s r type payload).out1 = s.out1 ∧ (State.reply s r type payload).taps = s.taps ∧
    (State.reply s r type payload).mem = s.mem ∧ (State.reply s r type payload).host = s.host ∧ (State.reply s r type
    payload).dma = s.dma ∧ (State.reply s r type payload).rings = s.rings ∧ (State.reply s r type payload).ingots =
    s.ingots ∧ (State.reply s r type payload).serial = s.serial ∧ (State.reply s r type payload).hk = s.hk ∧
    (State.reply s r type payload).therm = s.therm ∧ (State.reply s r type payload).pwr = s.pwr ∧ (State.reply s r
    type payload).sec = s.sec ∧ (State.reply s r type payload).dbg = s.dbg ∧ (State.reply s r type payload).free =
    s.free := by
  unfold State.reply; (try dsimp only); (repeat' split) <;> simp only [State.originate_frame, and_self]

@[simp] theorem State.replyErr_frame (s : State) (r : Sys2Proof.Req) (type : ℕ) (code : ℕ) :
    (State.replyErr s r type code).pending = s.pending ∧ (State.replyErr s r type code).out = s.out ∧ (State.replyErr s r
    type code).od = s.od ∧ (State.replyErr s r type code).doms = s.doms ∧ (State.replyErr s r type code).time = s.time
    ∧ (State.replyErr s r type code).boot = s.boot ∧ (State.replyErr s r type code).modes = s.modes ∧ (State.replyErr
    s r type code).ops = s.ops ∧ (State.replyErr s r type code).bar0 = s.bar0 ∧ (State.replyErr s r type code).nv =
    s.nv ∧ (State.replyErr s r type code).lanes = s.lanes ∧ (State.replyErr s r type code).aligned = s.aligned ∧
    (State.replyErr s r type code).intake = s.intake ∧ (State.replyErr s r type code).link = s.link ∧ (State.replyErr
    s r type code).fpa = s.fpa ∧ (State.replyErr s r type code).sp0 = s.sp0 ∧ (State.replyErr s r type code).pipe =
    s.pipe ∧ (State.replyErr s r type code).coef = s.coef ∧ (State.replyErr s r type code).gen = s.gen ∧
    (State.replyErr s r type code).vdet = s.vdet ∧ (State.replyErr s r type code).stat = s.stat ∧ (State.replyErr s r
    type code).ecl = s.ecl ∧ (State.replyErr s r type code).shut = s.shut ∧ (State.replyErr s r type code).windows =
    s.windows ∧ (State.replyErr s r type code).enc0 = s.enc0 ∧ (State.replyErr s r type code).enc1 = s.enc1 ∧
    (State.replyErr s r type code).tg = s.tg ∧ (State.replyErr s r type code).chan = s.chan ∧ (State.replyErr s r type
    code).trig = s.trig ∧ (State.replyErr s r type code).trigOut = s.trigOut ∧ (State.replyErr s r type code).out0 =
    s.out0 ∧ (State.replyErr s r type code).out1 = s.out1 ∧ (State.replyErr s r type code).taps = s.taps ∧
    (State.replyErr s r type code).mem = s.mem ∧ (State.replyErr s r type code).host = s.host ∧ (State.replyErr s r
    type code).dma = s.dma ∧ (State.replyErr s r type code).rings = s.rings ∧ (State.replyErr s r type code).ingots =
    s.ingots ∧ (State.replyErr s r type code).serial = s.serial ∧ (State.replyErr s r type code).hk = s.hk ∧
    (State.replyErr s r type code).therm = s.therm ∧ (State.replyErr s r type code).pwr = s.pwr ∧ (State.replyErr s r
    type code).sec = s.sec ∧ (State.replyErr s r type code).dbg = s.dbg ∧ (State.replyErr s r type code).free = s.free := by
  unfold State.replyErr; (try dsimp only); (repeat' split) <;> simp only [State.originate_frame, and_self]

@[simp] theorem State.notifyWindow_frame (s : State) :
    (State.notifyWindow s).pending = s.pending ∧ (State.notifyWindow s).out = s.out ∧ (State.notifyWindow s).od = s.od ∧
    (State.notifyWindow s).doms = s.doms ∧ (State.notifyWindow s).time = s.time ∧ (State.notifyWindow s).boot = s.boot
    ∧ (State.notifyWindow s).modes = s.modes ∧ (State.notifyWindow s).ops = s.ops ∧ (State.notifyWindow s).bar0 =
    s.bar0 ∧ (State.notifyWindow s).nv = s.nv ∧ (State.notifyWindow s).lanes = s.lanes ∧ (State.notifyWindow
    s).aligned = s.aligned ∧ (State.notifyWindow s).intake = s.intake ∧ (State.notifyWindow s).link = s.link ∧
    (State.notifyWindow s).fpa = s.fpa ∧ (State.notifyWindow s).sp0 = s.sp0 ∧ (State.notifyWindow s).pipe = s.pipe ∧
    (State.notifyWindow s).coef = s.coef ∧ (State.notifyWindow s).gen = s.gen ∧ (State.notifyWindow s).vdet = s.vdet ∧
    (State.notifyWindow s).stat = s.stat ∧ (State.notifyWindow s).ecl = s.ecl ∧ (State.notifyWindow s).shut = s.shut ∧
    (State.notifyWindow s).windows = s.windows ∧ (State.notifyWindow s).enc0 = s.enc0 ∧ (State.notifyWindow s).enc1 =
    s.enc1 ∧ (State.notifyWindow s).tg = s.tg ∧ (State.notifyWindow s).chan = s.chan ∧ (State.notifyWindow s).trig =
    s.trig ∧ (State.notifyWindow s).trigOut = s.trigOut ∧ (State.notifyWindow s).out0 = s.out0 ∧ (State.notifyWindow
    s).out1 = s.out1 ∧ (State.notifyWindow s).taps = s.taps ∧ (State.notifyWindow s).mem = s.mem ∧ (State.notifyWindow
    s).host = s.host ∧ (State.notifyWindow s).dma = s.dma ∧ (State.notifyWindow s).rings = s.rings ∧
    (State.notifyWindow s).ingots = s.ingots ∧ (State.notifyWindow s).serial = s.serial ∧ (State.notifyWindow s).hk =
    s.hk ∧ (State.notifyWindow s).therm = s.therm ∧ (State.notifyWindow s).pwr = s.pwr ∧ (State.notifyWindow s).sec =
    s.sec ∧ (State.notifyWindow s).dbg = s.dbg ∧ (State.notifyWindow s).free = s.free := by
  unfold State.notifyWindow; (try dsimp only); (repeat' split) <;> simp only [and_self]

@[simp] theorem State.notifySend_frame (s : State) (code : ℕ) (pos : ℕ) (fs : List (ℕ × ℕ)) :
    (State.notifySend s code pos fs).pending = s.pending ∧ (State.notifySend s code pos fs).out = s.out ∧
    (State.notifySend s code pos fs).doms = s.doms ∧ (State.notifySend s code pos fs).time = s.time ∧
    (State.notifySend s code pos fs).boot = s.boot ∧ (State.notifySend s code pos fs).modes = s.modes ∧
    (State.notifySend s code pos fs).ops = s.ops ∧ (State.notifySend s code pos fs).bar0 = s.bar0 ∧ (State.notifySend
    s code pos fs).nv = s.nv ∧ (State.notifySend s code pos fs).lanes = s.lanes ∧ (State.notifySend s code pos
    fs).aligned = s.aligned ∧ (State.notifySend s code pos fs).intake = s.intake ∧ (State.notifySend s code pos
    fs).link = s.link ∧ (State.notifySend s code pos fs).fpa = s.fpa ∧ (State.notifySend s code pos fs).sp0 = s.sp0 ∧
    (State.notifySend s code pos fs).pipe = s.pipe ∧ (State.notifySend s code pos fs).coef = s.coef ∧
    (State.notifySend s code pos fs).gen = s.gen ∧ (State.notifySend s code pos fs).vdet = s.vdet ∧ (State.notifySend
    s code pos fs).stat = s.stat ∧ (State.notifySend s code pos fs).ecl = s.ecl ∧ (State.notifySend s code pos
    fs).shut = s.shut ∧ (State.notifySend s code pos fs).windows = s.windows ∧ (State.notifySend s code pos fs).enc0 =
    s.enc0 ∧ (State.notifySend s code pos fs).enc1 = s.enc1 ∧ (State.notifySend s code pos fs).tg = s.tg ∧
    (State.notifySend s code pos fs).chan = s.chan ∧ (State.notifySend s code pos fs).trig = s.trig ∧
    (State.notifySend s code pos fs).trigOut = s.trigOut ∧ (State.notifySend s code pos fs).out0 = s.out0 ∧
    (State.notifySend s code pos fs).out1 = s.out1 ∧ (State.notifySend s code pos fs).taps = s.taps ∧
    (State.notifySend s code pos fs).mem = s.mem ∧ (State.notifySend s code pos fs).host = s.host ∧ (State.notifySend
    s code pos fs).dma = s.dma ∧ (State.notifySend s code pos fs).rings = s.rings ∧ (State.notifySend s code pos
    fs).ingots = s.ingots ∧ (State.notifySend s code pos fs).serial = s.serial ∧ (State.notifySend s code pos fs).hk =
    s.hk ∧ (State.notifySend s code pos fs).therm = s.therm ∧ (State.notifySend s code pos fs).pwr = s.pwr ∧
    (State.notifySend s code pos fs).sec = s.sec ∧ (State.notifySend s code pos fs).dbg = s.dbg ∧ (State.notifySend s
    code pos fs).free = s.free := by
  unfold State.notifySend; (try dsimp only); (repeat' split) <;> simp only [State.originate_frame, State.inc_frame, and_self]

@[simp] theorem State.notifyRest_frame (s : State) (code : ℕ) (pos : ℕ) (fs : List (ℕ × ℕ)) :
    (State.notifyRest s code pos fs).pending = s.pending ∧ (State.notifyRest s code pos fs).doms = s.doms ∧
    (State.notifyRest s code pos fs).time = s.time ∧ (State.notifyRest s code pos fs).boot = s.boot ∧
    (State.notifyRest s code pos fs).modes = s.modes ∧ (State.notifyRest s code pos fs).ops = s.ops ∧
    (State.notifyRest s code pos fs).bar0 = s.bar0 ∧ (State.notifyRest s code pos fs).nv = s.nv ∧ (State.notifyRest s
    code pos fs).lanes = s.lanes ∧ (State.notifyRest s code pos fs).aligned = s.aligned ∧ (State.notifyRest s code pos
    fs).intake = s.intake ∧ (State.notifyRest s code pos fs).link = s.link ∧ (State.notifyRest s code pos fs).fpa =
    s.fpa ∧ (State.notifyRest s code pos fs).sp0 = s.sp0 ∧ (State.notifyRest s code pos fs).pipe = s.pipe ∧
    (State.notifyRest s code pos fs).coef = s.coef ∧ (State.notifyRest s code pos fs).gen = s.gen ∧ (State.notifyRest
    s code pos fs).vdet = s.vdet ∧ (State.notifyRest s code pos fs).stat = s.stat ∧ (State.notifyRest s code pos
    fs).ecl = s.ecl ∧ (State.notifyRest s code pos fs).shut = s.shut ∧ (State.notifyRest s code pos fs).windows =
    s.windows ∧ (State.notifyRest s code pos fs).enc0 = s.enc0 ∧ (State.notifyRest s code pos fs).enc1 = s.enc1 ∧
    (State.notifyRest s code pos fs).tg = s.tg ∧ (State.notifyRest s code pos fs).chan = s.chan ∧ (State.notifyRest s
    code pos fs).trig = s.trig ∧ (State.notifyRest s code pos fs).trigOut = s.trigOut ∧ (State.notifyRest s code pos
    fs).out0 = s.out0 ∧ (State.notifyRest s code pos fs).out1 = s.out1 ∧ (State.notifyRest s code pos fs).taps =
    s.taps ∧ (State.notifyRest s code pos fs).mem = s.mem ∧ (State.notifyRest s code pos fs).dma = s.dma ∧
    (State.notifyRest s code pos fs).rings = s.rings ∧ (State.notifyRest s code pos fs).ingots = s.ingots ∧
    (State.notifyRest s code pos fs).serial = s.serial ∧ (State.notifyRest s code pos fs).hk = s.hk ∧
    (State.notifyRest s code pos fs).therm = s.therm ∧ (State.notifyRest s code pos fs).pwr = s.pwr ∧
    (State.notifyRest s code pos fs).sec = s.sec ∧ (State.notifyRest s code pos fs).dbg = s.dbg ∧ (State.notifyRest s
    code pos fs).free = s.free := by
  unfold State.notifyRest; (try dsimp only); (repeat' split) <;> simp only [State.raise_frame, State.setO_frame, State.notifyWindow_frame, State.notifySend_frame, and_self]

@[simp] theorem State.notify_frame (s : State) (code : ℕ) (pos : ℕ) (fs : List (ℕ × ℕ)) :
    (State.notify s code pos fs).pending = s.pending ∧ (State.notify s code pos fs).doms = s.doms ∧ (State.notify s code
    pos fs).time = s.time ∧ (State.notify s code pos fs).boot = s.boot ∧ (State.notify s code pos fs).modes = s.modes
    ∧ (State.notify s code pos fs).ops = s.ops ∧ (State.notify s code pos fs).bar0 = s.bar0 ∧ (State.notify s code pos
    fs).lanes = s.lanes ∧ (State.notify s code pos fs).aligned = s.aligned ∧ (State.notify s code pos fs).intake =
    s.intake ∧ (State.notify s code pos fs).link = s.link ∧ (State.notify s code pos fs).fpa = s.fpa ∧ (State.notify s
    code pos fs).sp0 = s.sp0 ∧ (State.notify s code pos fs).pipe = s.pipe ∧ (State.notify s code pos fs).coef = s.coef
    ∧ (State.notify s code pos fs).gen = s.gen ∧ (State.notify s code pos fs).vdet = s.vdet ∧ (State.notify s code pos
    fs).stat = s.stat ∧ (State.notify s code pos fs).ecl = s.ecl ∧ (State.notify s code pos fs).shut = s.shut ∧
    (State.notify s code pos fs).windows = s.windows ∧ (State.notify s code pos fs).enc0 = s.enc0 ∧ (State.notify s
    code pos fs).enc1 = s.enc1 ∧ (State.notify s code pos fs).tg = s.tg ∧ (State.notify s code pos fs).chan = s.chan ∧
    (State.notify s code pos fs).trig = s.trig ∧ (State.notify s code pos fs).trigOut = s.trigOut ∧ (State.notify s
    code pos fs).out0 = s.out0 ∧ (State.notify s code pos fs).out1 = s.out1 ∧ (State.notify s code pos fs).taps =
    s.taps ∧ (State.notify s code pos fs).mem = s.mem ∧ (State.notify s code pos fs).dma = s.dma ∧ (State.notify s
    code pos fs).rings = s.rings ∧ (State.notify s code pos fs).ingots = s.ingots ∧ (State.notify s code pos
    fs).serial = s.serial ∧ (State.notify s code pos fs).hk = s.hk ∧ (State.notify s code pos fs).therm = s.therm ∧
    (State.notify s code pos fs).pwr = s.pwr ∧ (State.notify s code pos fs).sec = s.sec ∧ (State.notify s code pos
    fs).dbg = s.dbg := by
  unfold State.notify; (try dsimp only); (repeat' split) <;> simp only [State.log_frame, State.notifyRest_frame, and_self]

@[simp] theorem State.sendFrom_frame (s : State) (b : Bool) (tele : List Sys2Proof.Byte) :
    (State.sendFrom s b tele).pending = s.pending ∧ (State.sendFrom s b tele).od = s.od ∧ (State.sendFrom s b tele).doms =
    s.doms ∧ (State.sendFrom s b tele).time = s.time ∧ (State.sendFrom s b tele).boot = s.boot ∧ (State.sendFrom s b
    tele).modes = s.modes ∧ (State.sendFrom s b tele).ops = s.ops ∧ (State.sendFrom s b tele).chain = s.chain ∧
    (State.sendFrom s b tele).bar0 = s.bar0 ∧ (State.sendFrom s b tele).nv = s.nv ∧ (State.sendFrom s b tele).lanes =
    s.lanes ∧ (State.sendFrom s b tele).aligned = s.aligned ∧ (State.sendFrom s b tele).intake = s.intake ∧
    (State.sendFrom s b tele).link = s.link ∧ (State.sendFrom s b tele).fpa = s.fpa ∧ (State.sendFrom s b tele).sp0 =
    s.sp0 ∧ (State.sendFrom s b tele).pipe = s.pipe ∧ (State.sendFrom s b tele).coef = s.coef ∧ (State.sendFrom s b
    tele).gen = s.gen ∧ (State.sendFrom s b tele).vdet = s.vdet ∧ (State.sendFrom s b tele).stat = s.stat ∧
    (State.sendFrom s b tele).ecl = s.ecl ∧ (State.sendFrom s b tele).shut = s.shut ∧ (State.sendFrom s b
    tele).windows = s.windows ∧ (State.sendFrom s b tele).enc0 = s.enc0 ∧ (State.sendFrom s b tele).enc1 = s.enc1 ∧
    (State.sendFrom s b tele).tg = s.tg ∧ (State.sendFrom s b tele).chan = s.chan ∧ (State.sendFrom s b tele).trig =
    s.trig ∧ (State.sendFrom s b tele).trigOut = s.trigOut ∧ (State.sendFrom s b tele).out0 = s.out0 ∧ (State.sendFrom
    s b tele).out1 = s.out1 ∧ (State.sendFrom s b tele).taps = s.taps ∧ (State.sendFrom s b tele).mem = s.mem ∧
    (State.sendFrom s b tele).host = s.host ∧ (State.sendFrom s b tele).dma = s.dma ∧ (State.sendFrom s b tele).rings
    = s.rings ∧ (State.sendFrom s b tele).ingots = s.ingots ∧ (State.sendFrom s b tele).serial = s.serial ∧
    (State.sendFrom s b tele).hk = s.hk ∧ (State.sendFrom s b tele).therm = s.therm ∧ (State.sendFrom s b tele).pwr =
    s.pwr ∧ (State.sendFrom s b tele).sec = s.sec ∧ (State.sendFrom s b tele).dbg = s.dbg ∧ (State.sendFrom s b
    tele).free = s.free := by
  unfold State.sendFrom; (try dsimp only); (repeat' split) <;> simp only [State.emit_frame, and_self]

@[simp] theorem State.sendQueued_frame (s : State) (b : Bool) :
    (State.sendQueued s b).pending = s.pending ∧ (State.sendQueued s b).od = s.od ∧ (State.sendQueued s b).doms = s.doms ∧
    (State.sendQueued s b).time = s.time ∧ (State.sendQueued s b).boot = s.boot ∧ (State.sendQueued s b).modes =
    s.modes ∧ (State.sendQueued s b).ops = s.ops ∧ (State.sendQueued s b).bar0 = s.bar0 ∧ (State.sendQueued s b).nv =
    s.nv ∧ (State.sendQueued s b).lanes = s.lanes ∧ (State.sendQueued s b).aligned = s.aligned ∧ (State.sendQueued s
    b).intake = s.intake ∧ (State.sendQueued s b).link = s.link ∧ (State.sendQueued s b).fpa = s.fpa ∧
    (State.sendQueued s b).sp0 = s.sp0 ∧ (State.sendQueued s b).pipe = s.pipe ∧ (State.sendQueued s b).coef = s.coef ∧
    (State.sendQueued s b).gen = s.gen ∧ (State.sendQueued s b).vdet = s.vdet ∧ (State.sendQueued s b).stat = s.stat ∧
    (State.sendQueued s b).ecl = s.ecl ∧ (State.sendQueued s b).shut = s.shut ∧ (State.sendQueued s b).windows =
    s.windows ∧ (State.sendQueued s b).enc0 = s.enc0 ∧ (State.sendQueued s b).enc1 = s.enc1 ∧ (State.sendQueued s
    b).tg = s.tg ∧ (State.sendQueued s b).chan = s.chan ∧ (State.sendQueued s b).trig = s.trig ∧ (State.sendQueued s
    b).trigOut = s.trigOut ∧ (State.sendQueued s b).out0 = s.out0 ∧ (State.sendQueued s b).out1 = s.out1 ∧
    (State.sendQueued s b).taps = s.taps ∧ (State.sendQueued s b).mem = s.mem ∧ (State.sendQueued s b).host = s.host ∧
    (State.sendQueued s b).dma = s.dma ∧ (State.sendQueued s b).rings = s.rings ∧ (State.sendQueued s b).ingots =
    s.ingots ∧ (State.sendQueued s b).serial = s.serial ∧ (State.sendQueued s b).hk = s.hk ∧ (State.sendQueued s
    b).therm = s.therm ∧ (State.sendQueued s b).pwr = s.pwr ∧ (State.sendQueued s b).sec = s.sec ∧ (State.sendQueued s
    b).dbg = s.dbg ∧ (State.sendQueued s b).free = s.free := by
  unfold State.sendQueued; (try dsimp only); (repeat' split) <;> simp only [State.setPort_frame, State.sendFrom_frame, and_self]

@[simp] theorem State.touch_frame (s : State) (x2 : Sys2Proof.Via) :
    (State.touch s x2).pending = s.pending ∧ (State.touch s x2).out = s.out ∧ (State.touch s x2).od = s.od ∧ (State.touch
    s x2).doms = s.doms ∧ (State.touch s x2).time = s.time ∧ (State.touch s x2).boot = s.boot ∧ (State.touch s
    x2).modes = s.modes ∧ (State.touch s x2).ops = s.ops ∧ (State.touch s x2).bar0 = s.bar0 ∧ (State.touch s x2).nv =
    s.nv ∧ (State.touch s x2).lanes = s.lanes ∧ (State.touch s x2).aligned = s.aligned ∧ (State.touch s x2).intake =
    s.intake ∧ (State.touch s x2).link = s.link ∧ (State.touch s x2).fpa = s.fpa ∧ (State.touch s x2).sp0 = s.sp0 ∧
    (State.touch s x2).pipe = s.pipe ∧ (State.touch s x2).coef = s.coef ∧ (State.touch s x2).gen = s.gen ∧
    (State.touch s x2).vdet = s.vdet ∧ (State.touch s x2).stat = s.stat ∧ (State.touch s x2).ecl = s.ecl ∧
    (State.touch s x2).shut = s.shut ∧ (State.touch s x2).windows = s.windows ∧ (State.touch s x2).enc0 = s.enc0 ∧
    (State.touch s x2).enc1 = s.enc1 ∧ (State.touch s x2).tg = s.tg ∧ (State.touch s x2).chan = s.chan ∧ (State.touch
    s x2).trig = s.trig ∧ (State.touch s x2).trigOut = s.trigOut ∧ (State.touch s x2).out0 = s.out0 ∧ (State.touch s
    x2).out1 = s.out1 ∧ (State.touch s x2).taps = s.taps ∧ (State.touch s x2).mem = s.mem ∧ (State.touch s x2).dma =
    s.dma ∧ (State.touch s x2).rings = s.rings ∧ (State.touch s x2).ingots = s.ingots ∧ (State.touch s x2).serial =
    s.serial ∧ (State.touch s x2).hk = s.hk ∧ (State.touch s x2).therm = s.therm ∧ (State.touch s x2).pwr = s.pwr ∧
    (State.touch s x2).sec = s.sec ∧ (State.touch s x2).dbg = s.dbg ∧ (State.touch s x2).free = s.free := by
  unfold State.touch; (try dsimp only); (repeat' split) <;> simp only [and_self]

@[simp] theorem State.markExpert_frame (s : State) (k : ℕ) :
    (State.markExpert s k).pending = s.pending ∧ (State.markExpert s k).out = s.out ∧ (State.markExpert s k).doms = s.doms
    ∧ (State.markExpert s k).time = s.time ∧ (State.markExpert s k).boot = s.boot ∧ (State.markExpert s k).modes =
    s.modes ∧ (State.markExpert s k).ops = s.ops ∧ (State.markExpert s k).chain = s.chain ∧ (State.markExpert s
    k).bar0 = s.bar0 ∧ (State.markExpert s k).nv = s.nv ∧ (State.markExpert s k).lanes = s.lanes ∧ (State.markExpert s
    k).aligned = s.aligned ∧ (State.markExpert s k).intake = s.intake ∧ (State.markExpert s k).link = s.link ∧
    (State.markExpert s k).fpa = s.fpa ∧ (State.markExpert s k).sp0 = s.sp0 ∧ (State.markExpert s k).pipe = s.pipe ∧
    (State.markExpert s k).coef = s.coef ∧ (State.markExpert s k).gen = s.gen ∧ (State.markExpert s k).vdet = s.vdet ∧
    (State.markExpert s k).stat = s.stat ∧ (State.markExpert s k).ecl = s.ecl ∧ (State.markExpert s k).shut = s.shut ∧
    (State.markExpert s k).windows = s.windows ∧ (State.markExpert s k).enc0 = s.enc0 ∧ (State.markExpert s k).enc1 =
    s.enc1 ∧ (State.markExpert s k).tg = s.tg ∧ (State.markExpert s k).chan = s.chan ∧ (State.markExpert s k).trig =
    s.trig ∧ (State.markExpert s k).trigOut = s.trigOut ∧ (State.markExpert s k).out0 = s.out0 ∧ (State.markExpert s
    k).out1 = s.out1 ∧ (State.markExpert s k).taps = s.taps ∧ (State.markExpert s k).mem = s.mem ∧ (State.markExpert s
    k).host = s.host ∧ (State.markExpert s k).dma = s.dma ∧ (State.markExpert s k).rings = s.rings ∧ (State.markExpert
    s k).ingots = s.ingots ∧ (State.markExpert s k).serial = s.serial ∧ (State.markExpert s k).hk = s.hk ∧
    (State.markExpert s k).therm = s.therm ∧ (State.markExpert s k).pwr = s.pwr ∧ (State.markExpert s k).sec = s.sec ∧
    (State.markExpert s k).dbg = s.dbg ∧ (State.markExpert s k).free = s.free := by
  unfold State.markExpert; (try dsimp only); (repeat' split) <;> simp only [State.setO_frame, and_self]

@[simp] theorem State.refuse_frame (s : State) (via : Sys2Proof.Via) (key : ℕ) (code : ℕ) :
    (State.refuse s via key code).pending = s.pending ∧ (State.refuse s via key code).doms = s.doms ∧ (State.refuse s via
    key code).time = s.time ∧ (State.refuse s via key code).boot = s.boot ∧ (State.refuse s via key code).modes =
    s.modes ∧ (State.refuse s via key code).ops = s.ops ∧ (State.refuse s via key code).chain = s.chain ∧
    (State.refuse s via key code).bar0 = s.bar0 ∧ (State.refuse s via key code).nv = s.nv ∧ (State.refuse s via key
    code).lanes = s.lanes ∧ (State.refuse s via key code).aligned = s.aligned ∧ (State.refuse s via key code).intake =
    s.intake ∧ (State.refuse s via key code).link = s.link ∧ (State.refuse s via key code).fpa = s.fpa ∧ (State.refuse
    s via key code).sp0 = s.sp0 ∧ (State.refuse s via key code).pipe = s.pipe ∧ (State.refuse s via key code).coef =
    s.coef ∧ (State.refuse s via key code).gen = s.gen ∧ (State.refuse s via key code).vdet = s.vdet ∧ (State.refuse s
    via key code).stat = s.stat ∧ (State.refuse s via key code).ecl = s.ecl ∧ (State.refuse s via key code).shut =
    s.shut ∧ (State.refuse s via key code).windows = s.windows ∧ (State.refuse s via key code).enc0 = s.enc0 ∧
    (State.refuse s via key code).enc1 = s.enc1 ∧ (State.refuse s via key code).tg = s.tg ∧ (State.refuse s via key
    code).chan = s.chan ∧ (State.refuse s via key code).trig = s.trig ∧ (State.refuse s via key code).trigOut =
    s.trigOut ∧ (State.refuse s via key code).out0 = s.out0 ∧ (State.refuse s via key code).out1 = s.out1 ∧
    (State.refuse s via key code).taps = s.taps ∧ (State.refuse s via key code).mem = s.mem ∧ (State.refuse s via key
    code).dma = s.dma ∧ (State.refuse s via key code).rings = s.rings ∧ (State.refuse s via key code).ingots =
    s.ingots ∧ (State.refuse s via key code).serial = s.serial ∧ (State.refuse s via key code).hk = s.hk ∧
    (State.refuse s via key code).therm = s.therm ∧ (State.refuse s via key code).pwr = s.pwr ∧ (State.refuse s via
    key code).sec = s.sec ∧ (State.refuse s via key code).dbg = s.dbg ∧ (State.refuse s via key code).free = s.free := by
  unfold State.refuse; (try dsimp only); (repeat' split) <;> simp only [State.emit_frame, State.setO_frame, State.raise_frame, and_self]

/-! ### Objects after a write -/

theorem State.oi_setO (s : State) (h : Store.wf Obj.dflt s.od = true) (k : Nat) (v : Int) (j : Nat) :
    (s.setO k v).oi j = if j = k then v else s.oi j := Store.get_set h k v j

theorem State.oi_eq_of_od {s u : State} (h : u.od = s.od) (k : Nat) : u.oi k = s.oi k := by
  simp only [State.oi, h]

theorem State.wf_setO (s : State) (h : Store.wf Obj.dflt s.od = true) (k : Nat) (v : Int) :
    Store.wf Obj.dflt (s.setO k v).od = true := Store.wf_set h k v

theorem State.wf_setOs (l : List (Nat × Int)) (s : State) (h : Store.wf Obj.dflt s.od = true) :
    Store.wf Obj.dflt (s.setOs l).od = true := by
  induction l generalizing s with
  | nil => exact h
  | cons c l ih => exact ih _ (State.wf_setO s h _ _)

theorem State.wf_clearIdx (s : State) (h : Store.wf Obj.dflt s.od = true) (i j : Nat) :
    Store.wf Obj.dflt (s.clearIdx i j).od = true := Store.wf_dropRange h _ _

/-- An object outside a list of writes reads as before. -/
theorem State.oi_setOs_out (l : List (Nat × Int)) (s : State) (h : Store.wf Obj.dflt s.od = true) (j : Nat)
    (hj : ∀ c ∈ l, c.1 ≠ j) : (s.setOs l).oi j = s.oi j := by
  induction l generalizing s with
  | nil => rfl
  | cons c l ih =>
    have h1 := ih (s.setO c.1 c.2) (State.wf_setO s h _ _) (fun d hd => hj d (List.mem_cons_of_mem _ hd))
    have h2 := State.oi_setO s h c.1 c.2 j
    rw [if_neg (fun e => hj c List.mem_cons_self e.symm)] at h2
    exact h1.trans h2

/-- After a clear an object of the range reads its default, every other as before. -/
theorem State.oi_clearIdx (s : State) (h : Store.wf Obj.dflt s.od = true) (i0 i1 j : Nat) :
    (s.clearIdx i0 i1).oi j = if i0 * 256 ≤ j ∧ j < (i1 + 1) * 256 then Obj.dflt j else s.oi j :=
  Store.get_dropRange _ _ j h

theorem State.oi_inc (s : State) (h : Store.wf Obj.dflt s.od = true) (k j : Nat) :
    (s.inc k).oi j = if j = k then clampI 0 0xFFFFFFFF (s.oi k + 1) else s.oi j := State.oi_setO s h k _ j

end Sys2Proof.Machine
end

