-- ==== Sys2Proof/Laws/Frames.lean ====
section
/-!
SUPPORT. What the shared operations of the families leave as it was: one lemma `State.<operation>_frame` per operation,
which says outside which parts the operation keeps a state (`State.keeps`, Safety.lean), and how such lemmas are put
together and read.
-/
set_option linter.all false
set_option Elab.async false
namespace Sys2Proof.Machine

/-! ### How frames are put together -/

theorem or_eq_trans {p : Prop} {α : Type} {a b c : α} (h : p ∨ b = a) (k : p ∨ c = b) : p ∨ c = a := by
  rcases h with h | h
  · exact .inl h
  · exact k.imp id (fun e => e.trans h)

theorem or_mem_mono {l L : List Part} {p : Part} {c : Prop} (hs : l.all (L.contains ·) = true) (h : p ∈ l ∨ c) : p ∈ L ∨ c :=
  h.imp (fun hp => List.contains_iff_mem.mp (List.all_eq_true.mp hs p hp)) id

theorem State.keeps_refl {L : List Part} {s : State} : s.keeps L s := by simp [State.keeps]

theorem State.keeps.trans {L : List Part} {s t u : State} (h : s.keeps L t) (k : t.keeps L u) : s.keeps L u := by
  obtain ⟨h0, h1, h2, h3, h4, h5, h6, h7, h8, h9, h10, h11, h12, h13, h14, h15, h16, h17, h18, h19, h20, h21, h22, h23,
    h24, h25, h26, h27, h28, h29, h30, h31, h32, h33, h34, h35, h36, h37, h38, h39, h40, h41, h42, h43, h44, h45⟩ := h
  obtain ⟨k0, k1, k2, k3, k4, k5, k6, k7, k8, k9, k10, k11, k12, k13, k14, k15, k16, k17, k18, k19, k20, k21, k22, k23,
    k24, k25, k26, k27, k28, k29, k30, k31, k32, k33, k34, k35, k36, k37, k38, k39, k40, k41, k42, k43, k44, k45⟩ := k
  exact ⟨k0.trans h0, or_eq_trans h1 k1, or_eq_trans h2 k2, or_eq_trans h3 k3, or_eq_trans h4 k4, or_eq_trans h5 k5,
    or_eq_trans h6 k6, or_eq_trans h7 k7, or_eq_trans h8 k8, or_eq_trans h9 k9, or_eq_trans h10 k10, or_eq_trans h11
    k11, or_eq_trans h12 k12, or_eq_trans h13 k13, or_eq_trans h14 k14, or_eq_trans h15 k15, or_eq_trans h16 k16,
    or_eq_trans h17 k17, or_eq_trans h18 k18, or_eq_trans h19 k19, or_eq_trans h20 k20, or_eq_trans h21 k21,
    or_eq_trans h22 k22, or_eq_trans h23 k23, or_eq_trans h24 k24, or_eq_trans h25 k25, or_eq_trans h26 k26,
    or_eq_trans h27 k27, or_eq_trans h28 k28, or_eq_trans h29 k29, or_eq_trans h30 k30, or_eq_trans h31 k31,
    or_eq_trans h32 k32, or_eq_trans h33 k33, or_eq_trans h34 k34, or_eq_trans h35 k35, or_eq_trans h36 k36,
    or_eq_trans h37 k37, or_eq_trans h38 k38, or_eq_trans h39 k39, or_eq_trans h40 k40, or_eq_trans h41 k41,
    or_eq_trans h42 k42, or_eq_trans h43 k43, or_eq_trans h44 k44, or_eq_trans h45 k45⟩

/-- A frame with fewer parts is a frame with more. -/
theorem State.keeps.mono {l L : List Part} {s u : State} (h : s.keeps l u) (hs : l.all (L.contains ·) = true) : s.keeps L u := by
  obtain ⟨h0, h1, h2, h3, h4, h5, h6, h7, h8, h9, h10, h11, h12, h13, h14, h15, h16, h17, h18, h19, h20, h21, h22, h23,
    h24, h25, h26, h27, h28, h29, h30, h31, h32, h33, h34, h35, h36, h37, h38, h39, h40, h41, h42, h43, h44, h45⟩ := h
  exact ⟨h0, or_mem_mono hs h1, or_mem_mono hs h2, or_mem_mono hs h3, or_mem_mono hs h4, or_mem_mono hs h5, or_mem_mono
    hs h6, or_mem_mono hs h7, or_mem_mono hs h8, or_mem_mono hs h9, or_mem_mono hs h10, or_mem_mono hs h11,
    or_mem_mono hs h12, or_mem_mono hs h13, or_mem_mono hs h14, or_mem_mono hs h15, or_mem_mono hs h16, or_mem_mono hs
    h17, or_mem_mono hs h18, or_mem_mono hs h19, or_mem_mono hs h20, or_mem_mono hs h21, or_mem_mono hs h22,
    or_mem_mono hs h23, or_mem_mono hs h24, or_mem_mono hs h25, or_mem_mono hs h26, or_mem_mono hs h27, or_mem_mono hs
    h28, or_mem_mono hs h29, or_mem_mono hs h30, or_mem_mono hs h31, or_mem_mono hs h32, or_mem_mono hs h33,
    or_mem_mono hs h34, or_mem_mono hs h35, or_mem_mono hs h36, or_mem_mono hs h37, or_mem_mono hs h38, or_mem_mono hs
    h39, or_mem_mono hs h40, or_mem_mono hs h41, or_mem_mono hs h42, or_mem_mono hs h43, or_mem_mono hs h44,
    or_mem_mono hs h45⟩

theorem State.keeps.symm {L : List Part} {s u : State} (h : s.keeps L u) : u.keeps L s := by
  obtain ⟨h0, h1, h2, h3, h4, h5, h6, h7, h8, h9, h10, h11, h12, h13, h14, h15, h16, h17, h18, h19, h20, h21, h22, h23,
    h24, h25, h26, h27, h28, h29, h30, h31, h32, h33, h34, h35, h36, h37, h38, h39, h40, h41, h42, h43, h44, h45⟩ := h
  exact ⟨h0.symm, h1.imp id Eq.symm, h2.imp id Eq.symm, h3.imp id Eq.symm, h4.imp id Eq.symm, h5.imp id Eq.symm, h6.imp
    id Eq.symm, h7.imp id Eq.symm, h8.imp id Eq.symm, h9.imp id Eq.symm, h10.imp id Eq.symm, h11.imp id Eq.symm,
    h12.imp id Eq.symm, h13.imp id Eq.symm, h14.imp id Eq.symm, h15.imp id Eq.symm, h16.imp id Eq.symm, h17.imp id
    Eq.symm, h18.imp id Eq.symm, h19.imp id Eq.symm, h20.imp id Eq.symm, h21.imp id Eq.symm, h22.imp id Eq.symm,
    h23.imp id Eq.symm, h24.imp id Eq.symm, h25.imp id Eq.symm, h26.imp id Eq.symm, h27.imp id Eq.symm, h28.imp id
    Eq.symm, h29.imp id Eq.symm, h30.imp id Eq.symm, h31.imp id Eq.symm, h32.imp id Eq.symm, h33.imp id Eq.symm,
    h34.imp id Eq.symm, h35.imp id Eq.symm, h36.imp id Eq.symm, h37.imp id Eq.symm, h38.imp id Eq.symm, h39.imp id
    Eq.symm, h40.imp id Eq.symm, h41.imp id Eq.symm, h42.imp id Eq.symm, h43.imp id Eq.symm, h44.imp id Eq.symm,
    h45.imp id Eq.symm⟩

/-- An operation whose own frame lies within L may be taken off the state it ends in. -/
theorem State.keeps.last {l L : List Part} {s t u : State} (h : t.keeps l u) (hs : l.all (L.contains ·) = true)
    (k : s.keeps L t) : s.keeps L u := k.trans (h.mono hs)

/-- A fold of operations that each keep a frame keeps it. -/
theorem State.keeps_foldl {L : List Part} {α : Type} {f : State → α → State} {l : List α} {s t : State}
    (hf : ∀ (t : State) (a : α), t.keeps L (f t a)) (h : s.keeps L t) : s.keeps L (l.foldl f t) := by
  induction l generalizing t with
  | nil => exact h
  | cons a l ih => exact ih (h.trans (hf t a))

theorem State.keeps_ite {L : List Part} {c : Prop} [Decidable c] {s a b : State} (ha : s.keeps L a) (hb : s.keeps L b) :
    s.keeps L (if c then a else b) := by
  split
  · exact ha
  · exact hb

/-- A record update keeps all but its changed fields. -/
theorem State.keeps_mk {L : List Part} {s t : State} (h : s.keeps L t)
    {out_ : List Emit} {od_ : List (Nat × Int)} {doms_ : List (Nat × List Byte)} {time_ : TimeSt} {boot_ : BootSt} {modes_
    : ModeSt} {ops_ : OpsSt} {chain_ : ChainSt} {bar0_ : Bar0St} {nv_ : NvSt} {lanes_ : List Lane} {aligned_ : Quad
    Bool} {intake_ : Quad IntakePos} {link_ : LinkSt} {fpa_ : Quad FpaSt} {sp0_ : Quad Sp0Sel} {pipe_ : Quad PipePos}
    {coef_ : Quad CoefPos} {gen_ : Quad GenPos} {vdet_ : Quad VdetPos} {stat_ : Quad StatPos} {ecl_ : Quad EclPos}
    {shut_ : ShutterSt} {windows_ : List Window} {enc0_ : Encoder} {enc1_ : Encoder} {tg_ : Quad Generator} {chan_ :
    List Channel} {trig_ : Quad TrigPos} {trigOut_ : Quad TrigOut} {out0_ : OutPort} {out1_ : OutPort} {taps_ : List
    TapSt} {mem_ : MemSt} {host_ : HostSt} {dma_ : List DmaCh} {rings_ : List Ring} {ingots_ : Nat} {serial_ :
    SerialSt} {hk_ : HkSt} {therm_ : ThermSt} {pwr_ : PowerSt} {sec_ : SecSt} {dbg_ : DbgSt} {free_ : Nat}
    (h1 : Part.emitted ∈ L ∨ out_ = t.out
      := by first | exact .inr (by with_reducible rfl) | exact .inl (by decide) | exact .inr rfl)
    (h2 : Part.od ∈ L ∨ od_ = t.od
      := by first | exact .inr (by with_reducible rfl) | exact .inl (by decide) | exact .inr rfl)
    (h3 : Part.doms ∈ L ∨ doms_ = t.doms
      := by first | exact .inr (by with_reducible rfl) | exact .inl (by decide) | exact .inr rfl)
    (h4 : Part.time ∈ L ∨ time_ = t.time
      := by first | exact .inr (by with_reducible rfl) | exact .inl (by decide) | exact .inr rfl)
    (h5 : Part.boot ∈ L ∨ boot_ = t.boot
      := by first | exact .inr (by with_reducible rfl) | exact .inl (by decide) | exact .inr rfl)
    (h6 : Part.modes ∈ L ∨ modes_ = t.modes
      := by first | exact .inr (by with_reducible rfl) | exact .inl (by decide) | exact .inr rfl)
    (h7 : Part.ops ∈ L ∨ ops_ = t.ops
      := by first | exact .inr (by with_reducible rfl) | exact .inl (by decide) | exact .inr rfl)
    (h8 : Part.chain ∈ L ∨ chain_ = t.chain
      := by first | exact .inr (by with_reducible rfl) | exact .inl (by decide) | exact .inr rfl)
    (h9 : Part.bar0 ∈ L ∨ bar0_ = t.bar0
      := by first | exact .inr (by with_reducible rfl) | exact .inl (by decide) | exact .inr rfl)
    (h10 : Part.nv ∈ L ∨ nv_ = t.nv
      := by first | exact .inr (by with_reducible rfl) | exact .inl (by decide) | exact .inr rfl)
    (h11 : Part.lanes ∈ L ∨ lanes_ = t.lanes
      := by first | exact .inr (by with_reducible rfl) | exact .inl (by decide) | exact .inr rfl)
    (h12 : Part.aligned ∈ L ∨ aligned_ = t.aligned
      := by first | exact .inr (by with_reducible rfl) | exact .inl (by decide) | exact .inr rfl)
    (h13 : Part.intake ∈ L ∨ intake_ = t.intake
      := by first | exact .inr (by with_reducible rfl) | exact .inl (by decide) | exact .inr rfl)
    (h14 : Part.link ∈ L ∨ link_ = t.link
      := by first | exact .inr (by with_reducible rfl) | exact .inl (by decide) | exact .inr rfl)
    (h15 : Part.fpa ∈ L ∨ fpa_ = t.fpa
      := by first | exact .inr (by with_reducible rfl) | exact .inl (by decide) | exact .inr rfl)
    (h16 : Part.sp0 ∈ L ∨ sp0_ = t.sp0
      := by first | exact .inr (by with_reducible rfl) | exact .inl (by decide) | exact .inr rfl)
    (h17 : Part.pipe ∈ L ∨ pipe_ = t.pipe
      := by first | exact .inr (by with_reducible rfl) | exact .inl (by decide) | exact .inr rfl)
    (h18 : Part.coef ∈ L ∨ coef_ = t.coef
      := by first | exact .inr (by with_reducible rfl) | exact .inl (by decide) | exact .inr rfl)
    (h19 : Part.gen ∈ L ∨ gen_ = t.gen
      := by first | exact .inr (by with_reducible rfl) | exact .inl (by decide) | exact .inr rfl)
    (h20 : Part.vdet ∈ L ∨ vdet_ = t.vdet
      := by first | exact .inr (by with_reducible rfl) | exact .inl (by decide) | exact .inr rfl)
    (h21 : Part.stat ∈ L ∨ stat_ = t.stat
      := by first | exact .inr (by with_reducible rfl) | exact .inl (by decide) | exact .inr rfl)
    (h22 : Part.ecl ∈ L ∨ ecl_ = t.ecl
      := by first | exact .inr (by with_reducible rfl) | exact .inl (by decide) | exact .inr rfl)
    (h23 : Part.shut ∈ L ∨ shut_ = t.shut
      := by first | exact .inr (by with_reducible rfl) | exact .inl (by decide) | exact .inr rfl)
    (h24 : Part.windows ∈ L ∨ windows_ = t.windows
      := by first | exact .inr (by with_reducible rfl) | exact .inl (by decide) | exact .inr rfl)
    (h25 : Part.enc0 ∈ L ∨ enc0_ = t.enc0
      := by first | exact .inr (by with_reducible rfl) | exact .inl (by decide) | exact .inr rfl)
    (h26 : Part.enc1 ∈ L ∨ enc1_ = t.enc1
      := by first | exact .inr (by with_reducible rfl) | exact .inl (by decide) | exact .inr rfl)
    (h27 : Part.tg ∈ L ∨ tg_ = t.tg
      := by first | exact .inr (by with_reducible rfl) | exact .inl (by decide) | exact .inr rfl)
    (h28 : Part.chan ∈ L ∨ chan_ = t.chan
      := by first | exact .inr (by with_reducible rfl) | exact .inl (by decide) | exact .inr rfl)
    (h29 : Part.trig ∈ L ∨ trig_ = t.trig
      := by first | exact .inr (by with_reducible rfl) | exact .inl (by decide) | exact .inr rfl)
    (h30 : Part.trigOut ∈ L ∨ trigOut_ = t.trigOut
      := by first | exact .inr (by with_reducible rfl) | exact .inl (by decide) | exact .inr rfl)
    (h31 : Part.out0 ∈ L ∨ out0_ = t.out0
      := by first | exact .inr (by with_reducible rfl) | exact .inl (by decide) | exact .inr rfl)
    (h32 : Part.out1 ∈ L ∨ out1_ = t.out1
      := by first | exact .inr (by with_reducible rfl) | exact .inl (by decide) | exact .inr rfl)
    (h33 : Part.taps ∈ L ∨ taps_ = t.taps
      := by first | exact .inr (by with_reducible rfl) | exact .inl (by decide) | exact .inr rfl)
    (h34 : Part.mem ∈ L ∨ mem_ = t.mem
      := by first | exact .inr (by with_reducible rfl) | exact .inl (by decide) | exact .inr rfl)
    (h35 : Part.host ∈ L ∨ host_ = t.host
      := by first | exact .inr (by with_reducible rfl) | exact .inl (by decide) | exact .inr rfl)
    (h36 : Part.dma ∈ L ∨ dma_ = t.dma
      := by first | exact .inr (by with_reducible rfl) | exact .inl (by decide) | exact .inr rfl)
    (h37 : Part.rings ∈ L ∨ rings_ = t.rings
      := by first | exact .inr (by with_reducible rfl) | exact .inl (by decide) | exact .inr rfl)
    (h38 : Part.ingots ∈ L ∨ ingots_ = t.ingots
      := by first | exact .inr (by with_reducible rfl) | exact .inl (by decide) | exact .inr rfl)
    (h39 : Part.serial ∈ L ∨ serial_ = t.serial
      := by first | exact .inr (by with_reducible rfl) | exact .inl (by decide) | exact .inr rfl)
    (h40 : Part.hk ∈ L ∨ hk_ = t.hk
      := by first | exact .inr (by with_reducible rfl) | exact .inl (by decide) | exact .inr rfl)
    (h41 : Part.therm ∈ L ∨ therm_ = t.therm
      := by first | exact .inr (by with_reducible rfl) | exact .inl (by decide) | exact .inr rfl)
    (h42 : Part.pwr ∈ L ∨ pwr_ = t.pwr
      := by first | exact .inr (by with_reducible rfl) | exact .inl (by decide) | exact .inr rfl)
    (h43 : Part.sec ∈ L ∨ sec_ = t.sec
      := by first | exact .inr (by with_reducible rfl) | exact .inl (by decide) | exact .inr rfl)
    (h44 : Part.dbg ∈ L ∨ dbg_ = t.dbg
      := by first | exact .inr (by with_reducible rfl) | exact .inl (by decide) | exact .inr rfl)
    (h45 : Part.free ∈ L ∨ free_ = t.free
      := by first | exact .inr (by with_reducible rfl) | exact .inl (by decide) | exact .inr rfl) :
    s.keeps L ⟨t.pending, out_, od_, doms_, time_, boot_, modes_, ops_, chain_, bar0_, nv_, lanes_, aligned_, intake_,
      link_, fpa_, sp0_, pipe_, coef_, gen_, vdet_, stat_, ecl_, shut_, windows_, enc0_, enc1_, tg_, chan_, trig_,
      trigOut_, out0_, out1_, taps_, mem_, host_, dma_, rings_, ingots_, serial_, hk_, therm_, pwr_, sec_, dbg_,
      free_⟩ :=
  h.trans ⟨rfl, h1, h2, h3, h4, h5, h6, h7, h8, h9, h10, h11, h12, h13, h14, h15, h16, h17, h18, h19, h20, h21, h22,
    h23, h24, h25, h26, h27, h28, h29, h30, h31, h32, h33, h34, h35, h36, h37, h38, h39, h40, h41, h42, h43, h44, h45⟩

/-! ### Reading a frame, one lemma per part -/

theorem State.keeps.pending {l : List Part} {s u : State} (h : s.keeps l u) : u.pending = s.pending := h.1

theorem State.keeps.out {l : List Part} {s u : State} (h : s.keeps l u) (hn : Part.emitted ∉ l) : u.out = s.out :=
  h.2.1.resolve_left hn

theorem State.keeps.od {l : List Part} {s u : State} (h : s.keeps l u) (hn : Part.od ∉ l) : u.od = s.od :=
  h.2.2.1.resolve_left hn

theorem State.keeps.doms {l : List Part} {s u : State} (h : s.keeps l u) (hn : Part.doms ∉ l) : u.doms = s.doms :=
  h.2.2.2.1.resolve_left hn

theorem State.keeps.time {l : List Part} {s u : State} (h : s.keeps l u) (hn : Part.time ∉ l) : u.time = s.time :=
  h.2.2.2.2.1.resolve_left hn

theorem State.keeps.boot {l : List Part} {s u : State} (h : s.keeps l u) (hn : Part.boot ∉ l) : u.boot = s.boot :=
  h.2.2.2.2.2.1.resolve_left hn

theorem State.keeps.modes {l : List Part} {s u : State} (h : s.keeps l u) (hn : Part.modes ∉ l) : u.modes = s.modes :=
  h.2.2.2.2.2.2.1.resolve_left hn

theorem State.keeps.ops {l : List Part} {s u : State} (h : s.keeps l u) (hn : Part.ops ∉ l) : u.ops = s.ops :=
  h.2.2.2.2.2.2.2.1.resolve_left hn

theorem State.keeps.chain {l : List Part} {s u : State} (h : s.keeps l u) (hn : Part.chain ∉ l) : u.chain = s.chain :=
  h.2.2.2.2.2.2.2.2.1.resolve_left hn

theorem State.keeps.bar0 {l : List Part} {s u : State} (h : s.keeps l u) (hn : Part.bar0 ∉ l) : u.bar0 = s.bar0 :=
  h.2.2.2.2.2.2.2.2.2.1.resolve_left hn

theorem State.keeps.nv {l : List Part} {s u : State} (h : s.keeps l u) (hn : Part.nv ∉ l) : u.nv = s.nv :=
  h.2.2.2.2.2.2.2.2.2.2.1.resolve_left hn

theorem State.keeps.lanes {l : List Part} {s u : State} (h : s.keeps l u) (hn : Part.lanes ∉ l) : u.lanes = s.lanes :=
  h.2.2.2.2.2.2.2.2.2.2.2.1.resolve_left hn

theorem State.keeps.aligned {l : List Part} {s u : State} (h : s.keeps l u) (hn : Part.aligned ∉ l) : u.aligned = s.aligned :=
  h.2.2.2.2.2.2.2.2.2.2.2.2.1.resolve_left hn

theorem State.keeps.intake {l : List Part} {s u : State} (h : s.keeps l u) (hn : Part.intake ∉ l) : u.intake = s.intake :=
  h.2.2.2.2.2.2.2.2.2.2.2.2.2.1.resolve_left hn

theorem State.keeps.link {l : List Part} {s u : State} (h : s.keeps l u) (hn : Part.link ∉ l) : u.link = s.link :=
  h.2.2.2.2.2.2.2.2.2.2.2.2.2.2.1.resolve_left hn

theorem State.keeps.fpa {l : List Part} {s u : State} (h : s.keeps l u) (hn : Part.fpa ∉ l) : u.fpa = s.fpa :=
  h.2.2.2.2.2.2.2.2.2.2.2.2.2.2.2.1.resolve_left hn

theorem State.keeps.sp0 {l : List Part} {s u : State} (h : s.keeps l u) (hn : Part.sp0 ∉ l) : u.sp0 = s.sp0 :=
  h.2.2.2.2.2.2.2.2.2.2.2.2.2.2.2.2.1.resolve_left hn

theorem State.keeps.pipe {l : List Part} {s u : State} (h : s.keeps l u) (hn : Part.pipe ∉ l) : u.pipe = s.pipe :=
  h.2.2.2.2.2.2.2.2.2.2.2.2.2.2.2.2.2.1.resolve_left hn

theorem State.keeps.coef {l : List Part} {s u : State} (h : s.keeps l u) (hn : Part.coef ∉ l) : u.coef = s.coef :=
  h.2.2.2.2.2.2.2.2.2.2.2.2.2.2.2.2.2.2.1.resolve_left hn

theorem State.keeps.gen {l : List Part} {s u : State} (h : s.keeps l u) (hn : Part.gen ∉ l) : u.gen = s.gen :=
  h.2.2.2.2.2.2.2.2.2.2.2.2.2.2.2.2.2.2.2.1.resolve_left hn

theorem State.keeps.vdet {l : List Part} {s u : State} (h : s.keeps l u) (hn : Part.vdet ∉ l) : u.vdet = s.vdet :=
  h.2.2.2.2.2.2.2.2.2.2.2.2.2.2.2.2.2.2.2.2.1.resolve_left hn

theorem State.keeps.stat {l : List Part} {s u : State} (h : s.keeps l u) (hn : Part.stat ∉ l) : u.stat = s.stat :=
  h.2.2.2.2.2.2.2.2.2.2.2.2.2.2.2.2.2.2.2.2.2.1.resolve_left hn

theorem State.keeps.ecl {l : List Part} {s u : State} (h : s.keeps l u) (hn : Part.ecl ∉ l) : u.ecl = s.ecl :=
  h.2.2.2.2.2.2.2.2.2.2.2.2.2.2.2.2.2.2.2.2.2.2.1.resolve_left hn

theorem State.keeps.shut {l : List Part} {s u : State} (h : s.keeps l u) (hn : Part.shut ∉ l) : u.shut = s.shut :=
  h.2.2.2.2.2.2.2.2.2.2.2.2.2.2.2.2.2.2.2.2.2.2.2.1.resolve_left hn

theorem State.keeps.windows {l : List Part} {s u : State} (h : s.keeps l u) (hn : Part.windows ∉ l) : u.windows = s.windows :=
  h.2.2.2.2.2.2.2.2.2.2.2.2.2.2.2.2.2.2.2.2.2.2.2.2.1.resolve_left hn

theorem State.keeps.enc0 {l : List Part} {s u : State} (h : s.keeps l u) (hn : Part.enc0 ∉ l) : u.enc0 = s.enc0 :=
  h.2.2.2.2.2.2.2.2.2.2.2.2.2.2.2.2.2.2.2.2.2.2.2.2.2.1.resolve_left hn

theorem State.keeps.enc1 {l : List Part} {s u : State} (h : s.keeps l u) (hn : Part.enc1 ∉ l) : u.enc1 = s.enc1 :=
  h.2.2.2.2.2.2.2.2.2.2.2.2.2.2.2.2.2.2.2.2.2.2.2.2.2.2.1.resolve_left hn

theorem State.keeps.tg {l : List Part} {s u : State} (h : s.keeps l u) (hn : Part.tg ∉ l) : u.tg = s.tg :=
  h.2.2.2.2.2.2.2.2.2.2.2.2.2.2.2.2.2.2.2.2.2.2.2.2.2.2.2.1.resolve_left hn

theorem State.keeps.chan {l : List Part} {s u : State} (h : s.keeps l u) (hn : Part.chan ∉ l) : u.chan = s.chan :=
  h.2.2.2.2.2.2.2.2.2.2.2.2.2.2.2.2.2.2.2.2.2.2.2.2.2.2.2.2.1.resolve_left hn

theorem State.keeps.trig {l : List Part} {s u : State} (h : s.keeps l u) (hn : Part.trig ∉ l) : u.trig = s.trig :=
  h.2.2.2.2.2.2.2.2.2.2.2.2.2.2.2.2.2.2.2.2.2.2.2.2.2.2.2.2.2.1.resolve_left hn

theorem State.keeps.trigOut {l : List Part} {s u : State} (h : s.keeps l u) (hn : Part.trigOut ∉ l) : u.trigOut = s.trigOut :=
  h.2.2.2.2.2.2.2.2.2.2.2.2.2.2.2.2.2.2.2.2.2.2.2.2.2.2.2.2.2.2.1.resolve_left hn

theorem State.keeps.out0 {l : List Part} {s u : State} (h : s.keeps l u) (hn : Part.out0 ∉ l) : u.out0 = s.out0 :=
  h.2.2.2.2.2.2.2.2.2.2.2.2.2.2.2.2.2.2.2.2.2.2.2.2.2.2.2.2.2.2.2.1.resolve_left hn

theorem State.keeps.out1 {l : List Part} {s u : State} (h : s.keeps l u) (hn : Part.out1 ∉ l) : u.out1 = s.out1 :=
  h.2.2.2.2.2.2.2.2.2.2.2.2.2.2.2.2.2.2.2.2.2.2.2.2.2.2.2.2.2.2.2.2.1.resolve_left hn

theorem State.keeps.taps {l : List Part} {s u : State} (h : s.keeps l u) (hn : Part.taps ∉ l) : u.taps = s.taps :=
  h.2.2.2.2.2.2.2.2.2.2.2.2.2.2.2.2.2.2.2.2.2.2.2.2.2.2.2.2.2.2.2.2.2.1.resolve_left hn

theorem State.keeps.mem {l : List Part} {s u : State} (h : s.keeps l u) (hn : Part.mem ∉ l) : u.mem = s.mem :=
  h.2.2.2.2.2.2.2.2.2.2.2.2.2.2.2.2.2.2.2.2.2.2.2.2.2.2.2.2.2.2.2.2.2.2.1.resolve_left hn

theorem State.keeps.host {l : List Part} {s u : State} (h : s.keeps l u) (hn : Part.host ∉ l) : u.host = s.host :=
  h.2.2.2.2.2.2.2.2.2.2.2.2.2.2.2.2.2.2.2.2.2.2.2.2.2.2.2.2.2.2.2.2.2.2.2.1.resolve_left hn

theorem State.keeps.dma {l : List Part} {s u : State} (h : s.keeps l u) (hn : Part.dma ∉ l) : u.dma = s.dma :=
  h.2.2.2.2.2.2.2.2.2.2.2.2.2.2.2.2.2.2.2.2.2.2.2.2.2.2.2.2.2.2.2.2.2.2.2.2.1.resolve_left hn

theorem State.keeps.rings {l : List Part} {s u : State} (h : s.keeps l u) (hn : Part.rings ∉ l) : u.rings = s.rings :=
  h.2.2.2.2.2.2.2.2.2.2.2.2.2.2.2.2.2.2.2.2.2.2.2.2.2.2.2.2.2.2.2.2.2.2.2.2.2.1.resolve_left hn

theorem State.keeps.ingots {l : List Part} {s u : State} (h : s.keeps l u) (hn : Part.ingots ∉ l) : u.ingots = s.ingots :=
  h.2.2.2.2.2.2.2.2.2.2.2.2.2.2.2.2.2.2.2.2.2.2.2.2.2.2.2.2.2.2.2.2.2.2.2.2.2.2.1.resolve_left hn

theorem State.keeps.serial {l : List Part} {s u : State} (h : s.keeps l u) (hn : Part.serial ∉ l) : u.serial = s.serial :=
  h.2.2.2.2.2.2.2.2.2.2.2.2.2.2.2.2.2.2.2.2.2.2.2.2.2.2.2.2.2.2.2.2.2.2.2.2.2.2.2.1.resolve_left hn

theorem State.keeps.hk {l : List Part} {s u : State} (h : s.keeps l u) (hn : Part.hk ∉ l) : u.hk = s.hk :=
  h.2.2.2.2.2.2.2.2.2.2.2.2.2.2.2.2.2.2.2.2.2.2.2.2.2.2.2.2.2.2.2.2.2.2.2.2.2.2.2.2.1.resolve_left hn

theorem State.keeps.therm {l : List Part} {s u : State} (h : s.keeps l u) (hn : Part.therm ∉ l) : u.therm = s.therm :=
  h.2.2.2.2.2.2.2.2.2.2.2.2.2.2.2.2.2.2.2.2.2.2.2.2.2.2.2.2.2.2.2.2.2.2.2.2.2.2.2.2.2.1.resolve_left hn

theorem State.keeps.pwr {l : List Part} {s u : State} (h : s.keeps l u) (hn : Part.pwr ∉ l) : u.pwr = s.pwr :=
  h.2.2.2.2.2.2.2.2.2.2.2.2.2.2.2.2.2.2.2.2.2.2.2.2.2.2.2.2.2.2.2.2.2.2.2.2.2.2.2.2.2.2.1.resolve_left hn

theorem State.keeps.sec {l : List Part} {s u : State} (h : s.keeps l u) (hn : Part.sec ∉ l) : u.sec = s.sec :=
  h.2.2.2.2.2.2.2.2.2.2.2.2.2.2.2.2.2.2.2.2.2.2.2.2.2.2.2.2.2.2.2.2.2.2.2.2.2.2.2.2.2.2.2.1.resolve_left hn

theorem State.keeps.dbg {l : List Part} {s u : State} (h : s.keeps l u) (hn : Part.dbg ∉ l) : u.dbg = s.dbg :=
  h.2.2.2.2.2.2.2.2.2.2.2.2.2.2.2.2.2.2.2.2.2.2.2.2.2.2.2.2.2.2.2.2.2.2.2.2.2.2.2.2.2.2.2.2.1.resolve_left hn

theorem State.keeps.free {l : List Part} {s u : State} (h : s.keeps l u) (hn : Part.free ∉ l) : u.free = s.free :=
  h.2.2.2.2.2.2.2.2.2.2.2.2.2.2.2.2.2.2.2.2.2.2.2.2.2.2.2.2.2.2.2.2.2.2.2.2.2.2.2.2.2.2.2.2.2.resolve_left hn

/-! ### The shared operations of Ops.lean, as frames -/

theorem State.advance_keeps {s : State} {t : ℕ} :
    s.keeps [.time] (State.advance s t) := by
  simp [State.keeps, State.advance_frame]

theorem State.setO_keeps {s : State} {k : ℕ} {v : ℤ} :
    s.keeps [.od] (State.setO s k v) := by
  simp [State.keeps, State.setO_frame]

theorem State.setOs_keeps {s : State} {l : List (ℕ × ℤ)} :
    s.keeps [.od] (State.setOs s l) := by
  simp [State.keeps, State.setOs_frame]

theorem State.inc_keeps {s : State} {k : ℕ} :
    s.keeps [.od] (State.inc s k) := by
  simp [State.keeps, State.inc_frame]

theorem State.incBy_keeps {s : State} {k : ℕ} {n : ℕ} :
    s.keeps [.od] (State.incBy s k n) := by
  simp [State.keeps, State.incBy_frame]

theorem State.incWrap_keeps {s : State} {k : ℕ} :
    s.keeps [.od] (State.incWrap s k) := by
  simp [State.keeps, State.incWrap_frame]

theorem State.setDom_keeps {s : State} {k : ℕ} {v : List Sys2Proof.Byte} :
    s.keeps [.doms] (State.setDom s k v) := by
  simp [State.keeps, State.setDom_frame]

theorem State.clearIdx_keeps {s : State} {i0 : ℕ} {i1 : ℕ} :
    s.keeps [.od] (State.clearIdx s i0 i1) := by
  simp [State.keeps, State.clearIdx_frame]

theorem State.emit_keeps {s : State} {e : Sys2Proof.Machine.Emit} :
    s.keeps [.emitted] (State.emit s e) := by
  simp [State.keeps, State.emit_frame]

theorem State.putKeep_keeps {s : State} {a : ℕ} {bs : List Sys2Proof.Byte} :
    s.keeps [.nv, .free] (State.putKeep s a bs) := by
  simp [State.keeps, State.putKeep_frame]

theorem State.logRoom_keeps {s : State} :
    s.keeps [.od, .nv] (State.logRoom s) := by
  simp [State.keeps, State.logRoom_frame]

theorem State.logStore_keeps {s : State} {b : List Sys2Proof.Byte} :
    s.keeps [.od, .nv, .free] (State.logStore s b) := by
  simp [State.keeps, State.logStore_frame]

theorem State.flushLog_keeps {s : State} :
    s.keeps [.nv] (State.flushLog s) := by
  simp [State.keeps, State.flushLog_frame]

theorem State.logLimit_keeps {s : State} :
    s.keeps [.nv] (State.logLimit s) := by
  simp [State.keeps, State.logLimit_frame]

theorem State.logAdd_keeps {s : State} {code : ℕ} {pos : ℕ} {source : ℕ} {detail : ℕ} {data : List Sys2Proof.Byte} :
    s.keeps [.od, .nv, .free] (State.logAdd s code pos source detail data) := by
  simp [State.keeps, State.logAdd_frame]

theorem State.logRaw_keeps {s : State} {code : ℕ} {pos : ℕ} {source : ℕ} {detail : ℕ} {data : List Sys2Proof.Byte} :
    s.keeps [.od, .nv, .free] (State.logRaw s code pos source detail data) := by
  simp [State.keeps, State.logRaw_frame]

theorem State.logEvt_keeps {s : State} {e : Sys2Proof.Machine.Evt} {pos : ℕ} {detail : ℕ} {fs : List (ℕ × ℕ)} :
    s.keeps [.od, .nv, .free] (State.logEvt s e pos detail fs) := by
  simp [State.keeps, State.logEvt_frame]

theorem State.nvFailed_keeps {s : State} {a : ℕ} :
    s.keeps [.od, .nv, .free] (State.nvFailed s a) := by
  simp [State.keeps, State.nvFailed_frame]

theorem State.setKeep_keeps {s : State} {a : ℕ} {bs : List Sys2Proof.Byte} :
    s.keeps [.od, .nv, .free] (State.setKeep s a bs) := by
  simp [State.keeps, State.setKeep_frame]

theorem State.setTwoSlot_keeps {s : State} {a : ℕ} {v : ℕ} :
    s.keeps [.od, .nv, .free] (State.setTwoSlot s a v) := by
  simp [State.keeps, State.setTwoSlot_frame]

theorem State.raise_keeps {s : State} {v : ℕ} :
    s.keeps [.emitted, .host] (State.raise s v) := by
  simp [State.keeps, State.raise_frame]

theorem State.log_keeps {s : State} {code : ℕ} {pos : ℕ} {fs : List (ℕ × ℕ)} :
    s.keeps [.od, .nv, .free] (State.log s code pos fs) := by
  simp [State.keeps, State.log_frame]

theorem State.slotsBad_keeps {s : State} {a : ℕ} :
    s.keeps [.od, .nv, .free] (State.slotsBad s a) := by
  simp [State.keeps, State.slotsBad_frame]

theorem State.updTwoSlot_keeps {s : State} {a : ℕ} {v : ℕ} :
    s.keeps [.od, .nv, .free] (State.updTwoSlot s a v) := by
  simp [State.keeps, State.updTwoSlot_frame]

theorem State.bumpCounter_keeps {s : State} {k : ℕ} {obj : ℕ} :
    s.keeps [.od, .nv, .free] (State.bumpCounter s k obj) := by
  simp [State.keeps, State.bumpCounter_frame]

theorem State.setPort_keeps {s : State} {b : Bool} {c : Sys2Proof.Machine.ChainPort} :
    s.keeps [.chain] (State.setPort s b c) := by
  simp [State.keeps, State.setPort_frame]

theorem State.originate_keeps {s : State} {b : Bool} {type : ℕ} {tele : List Sys2Proof.Byte} :
    s.keeps [.chain] (State.originate s b type tele) := by
  simp [State.keeps, State.originate_frame]

theorem State.reply_keeps {s : State} {r : Sys2Proof.Req} {type : ℕ} {payload : List Sys2Proof.Byte} :
    s.keeps [.chain] (State.reply s r type payload) := by
  simp [State.keeps, State.reply_frame]

theorem State.replyErr_keeps {s : State} {r : Sys2Proof.Req} {type : ℕ} {code : ℕ} :
    s.keeps [.chain] (State.replyErr s r type code) := by
  simp [State.keeps, State.replyErr_frame]

theorem State.notifyWindow_keeps {s : State} :
    s.keeps [.chain] (State.notifyWindow s) := by
  simp [State.keeps, State.notifyWindow_frame]

theorem State.notifySend_keeps {s : State} {code : ℕ} {pos : ℕ} {fs : List (ℕ × ℕ)} :
    s.keeps [.od, .chain] (State.notifySend s code pos fs) := by
  simp [State.keeps, State.notifySend_frame]

theorem State.notifyRest_keeps {s : State} {code : ℕ} {pos : ℕ} {fs : List (ℕ × ℕ)} :
    s.keeps [.emitted, .od, .chain, .host] (State.notifyRest s code pos fs) := by
  simp [State.keeps, State.notifyRest_frame]

theorem State.notify_keeps {s : State} {code : ℕ} {pos : ℕ} {fs : List (ℕ × ℕ)} :
    s.keeps [.emitted, .od, .chain, .nv, .host, .free] (State.notify s code pos fs) := by
  simp [State.keeps, State.notify_frame]

theorem State.sendFrom_keeps {s : State} {b : Bool} {tele : List Sys2Proof.Byte} :
    s.keeps [.emitted] (State.sendFrom s b tele) := by
  simp [State.keeps, State.sendFrom_frame]

theorem State.sendQueued_keeps {s : State} {b : Bool} :
    s.keeps [.emitted, .chain] (State.sendQueued s b) := by
  simp [State.keeps, State.sendQueued_frame]

theorem State.touch_keeps {s : State} {x2 : Sys2Proof.Via} :
    s.keeps [.chain, .host] (State.touch s x2) := by
  simp [State.keeps, State.touch_frame]

theorem State.markExpert_keeps {s : State} {k : ℕ} :
    s.keeps [.od] (State.markExpert s k) := by
  simp [State.keeps, State.markExpert_frame]

theorem State.refuse_keeps {s : State} {via : Sys2Proof.Via} {key : ℕ} {code : ℕ} :
    s.keeps [.emitted, .od, .host] (State.refuse s via key code) := by
  simp [State.keeps, State.refuse_frame]

/-! ### The operations of the families -/

theorem State.wantOn_frame {s : State} {d : ℕ} :
    s.keeps [.od, .pwr] (State.wantOn s d) := by
  unfold State.wantOn; (try dsimp only)
  repeat' first
    | with_reducible exact State.keeps_refl
    | with_reducible refine State.setO_keeps.last (by decide) ?_
    | with_reducible refine State.keeps_foldl (fun _ _ => ?_) ?_
    | with_reducible refine State.keeps_ite ?_ ?_
    | split
    | with_reducible refine State.keeps_mk ?_

theorem State.domCut_frame {s : State} {d : ℕ} :
    s.keeps [.od, .hk, .pwr] (State.domCut s d) := by
  unfold State.domCut; (try dsimp only)
  repeat' first
    | with_reducible exact State.keeps_refl
    | with_reducible refine State.setO_keeps.last (by decide) ?_
    | with_reducible refine State.keeps_foldl (fun _ _ => ?_) ?_
    | with_reducible refine State.keeps_ite ?_ ?_
    | split
    | with_reducible refine State.keeps_mk ?_

theorem State.wantOff_frame {s : State} {d : ℕ} :
    s.keeps [.od, .hk, .pwr] (State.wantOff s d) := by
  unfold State.wantOff; (try dsimp only)
  repeat' first
    | with_reducible exact State.keeps_refl
    | with_reducible refine State.domCut_frame.last (by decide) ?_
    | with_reducible refine State.keeps_foldl (fun _ _ => ?_) ?_
    | with_reducible refine State.keeps_ite ?_ ?_
    | split
    | with_reducible refine State.keeps_mk ?_

theorem State.debugCap_frame {s : State} :
    s.keeps [.dbg] (State.debugCap s) := by
  unfold State.debugCap; (try dsimp only)
  repeat' first
    | with_reducible exact State.keeps_refl
    | with_reducible refine State.keeps_foldl (fun _ _ => ?_) ?_
    | with_reducible refine State.keeps_ite ?_ ?_
    | split
    | with_reducible refine State.keeps_mk ?_

theorem State.demand_frame {s : State} {d : ℕ} :
    s.keeps [.od, .pwr] (State.demand s d) := by
  unfold State.demand; (try dsimp only)
  repeat' first
    | with_reducible exact State.keeps_refl
    | with_reducible refine State.wantOn_frame.last (by decide) ?_
    | with_reducible refine State.keeps_foldl (fun _ _ => ?_) ?_
    | with_reducible refine State.keeps_ite ?_ ?_
    | split
    | with_reducible refine State.keeps_mk ?_

theorem State.railCut_frame {s : State} {d : ℕ} :
    s.keeps [.od, .hk, .pwr] (State.railCut s d) := by
  unfold State.railCut; (try dsimp only)
  repeat' first
    | with_reducible exact State.keeps_refl
    | with_reducible refine State.domCut_frame.last (by decide) ?_
    | with_reducible refine State.keeps_foldl (fun _ _ => ?_) ?_
    | with_reducible refine State.keeps_ite ?_ ?_
    | split
    | with_reducible refine State.keeps_mk ?_

theorem State.railOff_frame {s : State} {p : Sys2Proof.Pos} :
    s.keeps [.od, .hk, .pwr] (State.railOff s p) := by
  unfold State.railOff; (try dsimp only)
  repeat' first
    | with_reducible exact State.keeps_refl
    | with_reducible refine State.railCut_frame.last (by decide) ?_
    | with_reducible refine State.keeps_foldl (fun _ _ => ?_) ?_
    | with_reducible refine State.keeps_ite ?_ ?_
    | split
    | with_reducible refine State.keeps_mk ?_

theorem State.vdetRamp_frame {s : State} {p : Sys2Proof.Pos} {code : ℕ} :
    s.keeps [.od, .vdet] (State.vdetRamp s p code) := by
  unfold State.vdetRamp; (try dsimp only)
  repeat' first
    | with_reducible exact State.keeps_refl
    | with_reducible refine State.setO_keeps.last (by decide) ?_
    | with_reducible refine State.keeps_foldl (fun _ _ => ?_) ?_
    | with_reducible refine State.keeps_ite ?_ ?_
    | split
    | with_reducible refine State.keeps_mk ?_

theorem State.setDram_frame {s : State} {a : ℕ} {bs : List Sys2Proof.Byte} :
    s.keeps [.mem] (State.setDram s a bs) := by
  unfold State.setDram; (try dsimp only)
  repeat' first
    | with_reducible exact State.keeps_refl
    | with_reducible refine State.keeps_foldl (fun _ _ => ?_) ?_
    | with_reducible refine State.keeps_ite ?_ ?_
    | split
    | with_reducible refine State.keeps_mk ?_

theorem State.dramLost_frame {s : State} :
    s.keeps [.od, .mem] (State.dramLost s) := by
  unfold State.dramLost; (try dsimp only)
  repeat' first
    | with_reducible exact State.keeps_refl
    | with_reducible refine State.incWrap_keeps.last (by decide) ?_
    | with_reducible refine State.setOs_keeps.last (by decide) ?_
    | with_reducible refine State.keeps_foldl (fun _ _ => ?_) ?_
    | with_reducible refine State.keeps_ite ?_ ?_
    | split
    | with_reducible refine State.keeps_mk ?_

theorem State.setSlot_frame {s : State} {r : ℕ} {k : ℕ} {x : Sys2Proof.Machine.RingSlot} :
    s.keeps [.mem, .rings] (State.setSlot s r k x) := by
  unfold State.setSlot; (try dsimp only)
  repeat' first
    | with_reducible exact State.keeps_refl
    | with_reducible refine State.setDram_frame.last (by decide) ?_
    | with_reducible refine State.keeps_foldl (fun _ _ => ?_) ?_
    | with_reducible refine State.keeps_ite ?_ ?_
    | split
    | with_reducible refine State.keeps_mk ?_

theorem State.layRing_frame {s : State} {r : ℕ} {size : ℕ} :
    s.keeps [.mem, .rings] (State.layRing s r size) := by
  unfold State.layRing; (try dsimp only)
  repeat' first
    | with_reducible exact State.keeps_refl
    | with_reducible refine State.setSlot_frame.last (by decide) ?_
    | with_reducible refine State.keeps_foldl (fun _ _ => ?_) ?_
    | with_reducible refine State.keeps_ite ?_ ?_
    | split
    | with_reducible refine State.keeps_mk ?_

theorem State.takeSlot_frame {s : State} {r : ℕ} {k : ℕ} {x : Sys2Proof.Machine.RingSlot} :
    s.keeps [.mem, .rings] (State.takeSlot s r k x) := by
  unfold State.takeSlot; (try dsimp only)
  repeat' first
    | with_reducible exact State.keeps_refl
    | with_reducible refine State.setSlot_frame.last (by decide) ?_
    | with_reducible refine State.keeps_foldl (fun _ _ => ?_) ?_
    | with_reducible refine State.keeps_ite ?_ ?_
    | split
    | with_reducible refine State.keeps_mk ?_

theorem State.release_frame {s : State} {r : ℕ} {k : ℕ} :
    s.keeps [.mem, .rings] (State.release s r k) := by
  unfold State.release; (try dsimp only)
  repeat' first
    | with_reducible exact State.keeps_refl
    | with_reducible refine State.setSlot_frame.last (by decide) ?_
    | with_reducible refine State.keeps_foldl (fun _ _ => ?_) ?_
    | with_reducible refine State.keeps_ite ?_ ?_
    | split
    | with_reducible refine State.keeps_mk ?_

theorem State.setOutPort_frame {s : State} {b : Bool} {o : Sys2Proof.Machine.OutPort} :
    s.keeps [.out0, .out1] (State.setOutPort s b o) := by
  unfold State.setOutPort; (try dsimp only)
  repeat' first
    | with_reducible exact State.keeps_refl
    | with_reducible refine State.keeps_foldl (fun _ _ => ?_) ?_
    | with_reducible refine State.keeps_ite ?_ ?_
    | split
    | with_reducible refine State.keeps_mk ?_

theorem State.cutSlot_frame {s : State} {r : ℕ} {k : ℕ} :
    s.keeps [.od, .out0, .out1] (State.cutSlot s r k) := by
  unfold State.cutSlot; (try dsimp only)
  repeat' first
    | with_reducible exact State.keeps_refl
    | with_reducible refine State.setOutPort_frame.last (by decide) ?_
    | with_reducible refine State.inc_keeps.last (by decide) ?_
    | with_reducible refine State.keeps_foldl (fun _ _ => ?_) ?_
    | with_reducible refine State.keeps_ite ?_ ?_
    | split
    | with_reducible refine State.keeps_mk ?_

theorem State.setCh_frame {s : State} {c : ℕ} {x : Sys2Proof.Machine.DmaCh} :
    s.keeps [.dma] (State.setCh s c x) := by
  unfold State.setCh; (try dsimp only)
  repeat' first
    | with_reducible exact State.keeps_refl
    | with_reducible refine State.keeps_foldl (fun _ _ => ?_) ?_
    | with_reducible refine State.keeps_ite ?_ ?_
    | split
    | with_reducible refine State.keeps_mk ?_

theorem State.dropHold_frame {s : State} {c : ℕ} :
    s.keeps [.mem, .rings] (State.dropHold s c) := by
  unfold State.dropHold; (try dsimp only)
  repeat' first
    | with_reducible exact State.keeps_refl
    | with_reducible refine State.setSlot_frame.last (by decide) ?_
    | with_reducible refine State.keeps_foldl (fun _ _ => ?_) ?_
    | with_reducible refine State.keeps_ite ?_ ?_
    | split
    | with_reducible refine State.keeps_mk ?_

theorem State.requestOf_frame {s : State} {c : ℕ} :
    s.keeps [.od, .dma] (State.requestOf s c) := by
  unfold State.requestOf; (try dsimp only)
  repeat' first
    | with_reducible exact State.keeps_refl
    | with_reducible refine State.setO_keeps.last (by decide) ?_
    | with_reducible refine State.setCh_frame.last (by decide) ?_
    | with_reducible refine State.keeps_foldl (fun _ _ => ?_) ?_
    | with_reducible refine State.keeps_ite ?_ ?_
    | split
    | with_reducible refine State.keeps_mk ?_

theorem State.requestLine_frame {s : State} {line : ℕ} :
    s.keeps [.od, .dma] (State.requestLine s line) := by
  unfold State.requestLine; (try dsimp only)
  repeat' first
    | with_reducible exact State.keeps_refl
    | with_reducible refine State.requestOf_frame.last (by decide) ?_
    | with_reducible refine State.keeps_foldl (fun _ _ => ?_) ?_
    | with_reducible refine State.keeps_ite ?_ ?_
    | split
    | with_reducible refine State.keeps_mk ?_

theorem State.readBack_frame {s : State} {c : ℕ} {x : Sys2Proof.Machine.DescRun} :
    s.keeps [.emitted] (State.readBack s c x) := by
  unfold State.readBack; (try dsimp only)
  repeat' first
    | with_reducible exact State.keeps_refl
    | with_reducible refine State.emit_keeps.last (by decide) ?_
    | with_reducible refine State.keeps_foldl (fun _ _ => ?_) ?_
    | with_reducible refine State.keeps_ite ?_ ?_
    | split
    | with_reducible refine State.keeps_mk ?_

theorem State.endDesc_frame {s : State} {c : ℕ} :
    s.keeps [.emitted, .od, .mem, .host, .dma, .rings] (State.endDesc s c) := by
  unfold State.endDesc; (try dsimp only)
  repeat' first
    | with_reducible exact State.keeps_refl
    | with_reducible refine State.raise_keeps.last (by decide) ?_
    | with_reducible refine State.inc_keeps.last (by decide) ?_
    | with_reducible refine State.setO_keeps.last (by decide) ?_
    | with_reducible refine State.setCh_frame.last (by decide) ?_
    | with_reducible refine State.readBack_frame.last (by decide) ?_
    | with_reducible refine State.dropHold_frame.last (by decide) ?_
    | with_reducible refine State.emit_keeps.last (by decide) ?_
    | with_reducible refine State.keeps_foldl (fun _ _ => ?_) ?_
    | with_reducible refine State.keeps_ite ?_ ?_
    | split
    | with_reducible refine State.keeps_mk ?_

theorem State.dmaDrop_frame {s : State} :
    s.keeps [.od, .mem, .dma, .rings] (State.dmaDrop s) := by
  unfold State.dmaDrop; (try dsimp only)
  repeat' first
    | with_reducible exact State.keeps_refl
    | with_reducible refine State.dropHold_frame.last (by decide) ?_
    | with_reducible refine State.setCh_frame.last (by decide) ?_
    | with_reducible refine State.setO_keeps.last (by decide) ?_
    | with_reducible refine State.inc_keeps.last (by decide) ?_
    | with_reducible refine State.keeps_foldl (fun _ _ => ?_) ?_
    | with_reducible refine State.keeps_ite ?_ ?_
    | split
    | with_reducible refine State.keeps_mk ?_

theorem State.dmaSafe_frame {s : State} :
    s.keeps [.emitted, .od, .mem, .host, .dma, .rings] (State.dmaSafe s) := by
  unfold State.dmaSafe; (try dsimp only)
  repeat' first
    | with_reducible exact State.keeps_refl
    | with_reducible refine State.setO_keeps.last (by decide) ?_
    | with_reducible refine State.raise_keeps.last (by decide) ?_
    | with_reducible refine State.setCh_frame.last (by decide) ?_
    | with_reducible refine State.endDesc_frame.last (by decide) ?_
    | with_reducible refine State.keeps_foldl (fun _ _ => ?_) ?_
    | with_reducible refine State.keeps_ite ?_ ?_
    | split
    | with_reducible refine State.keeps_mk ?_

theorem State.dmaStandby_frame {s : State} :
    s.keeps [.emitted, .od, .host, .dma] (State.dmaStandby s) := by
  unfold State.dmaStandby; (try dsimp only)
  repeat' first
    | with_reducible exact State.keeps_refl
    | with_reducible refine State.raise_keeps.last (by decide) ?_
    | with_reducible refine State.setCh_frame.last (by decide) ?_
    | with_reducible refine State.setO_keeps.last (by decide) ?_
    | with_reducible refine State.keeps_foldl (fun _ _ => ?_) ?_
    | with_reducible refine State.keeps_ite ?_ ?_
    | split
    | with_reducible refine State.keeps_mk ?_

theorem State.dmaDiscard_frame {s : State} {r : ℕ} {k : ℕ} :
    s.keeps [.dma] (State.dmaDiscard s r k) := by
  unfold State.dmaDiscard; (try dsimp only)
  repeat' first
    | with_reducible exact State.keeps_refl
    | with_reducible refine State.setCh_frame.last (by decide) ?_
    | with_reducible refine State.keeps_foldl (fun _ _ => ?_) ?_
    | with_reducible refine State.keeps_ite ?_ ?_
    | split
    | with_reducible refine State.keeps_mk ?_

theorem State.discardSlot_frame {s : State} {why : Sys2Proof.Machine.Discard} {r : ℕ} {k : ℕ} :
    s.keeps [.od, .out0, .out1, .mem, .dma, .rings] (State.discardSlot s why r k) := by
  unfold State.discardSlot; (try dsimp only)
  repeat' first
    | with_reducible exact State.keeps_refl
    | with_reducible refine State.release_frame.last (by decide) ?_
    | with_reducible refine State.inc_keeps.last (by decide) ?_
    | with_reducible refine State.cutSlot_frame.last (by decide) ?_
    | with_reducible refine State.dmaDiscard_frame.last (by decide) ?_
    | with_reducible refine State.keeps_foldl (fun _ _ => ?_) ?_
    | with_reducible refine State.keeps_ite ?_ ?_
    | split
    | with_reducible refine State.keeps_mk ?_

theorem State.discardIf_frame {s : State} {why : Sys2Proof.Machine.Discard} {p : Sys2Proof.Machine.RingSlot → Bool} :
    s.keeps [.od, .out0, .out1, .mem, .dma, .rings] (State.discardIf s why p) := by
  unfold State.discardIf; (try dsimp only)
  repeat' first
    | with_reducible exact State.keeps_refl
    | with_reducible refine State.discardSlot_frame.last (by decide) ?_
    | with_reducible refine State.keeps_foldl (fun _ _ => ?_) ?_
    | with_reducible refine State.keeps_ite ?_ ?_
    | split
    | with_reducible refine State.keeps_mk ?_

theorem State.discardRole_frame {s : State} {role : ℕ} :
    s.keeps [.od, .out0, .out1, .mem, .dma, .rings] (State.discardRole s role) := by
  unfold State.discardRole; (try dsimp only)
  repeat' first
    | with_reducible exact State.keeps_refl
    | with_reducible refine State.discardIf_frame.last (by decide) ?_
    | with_reducible refine State.keeps_foldl (fun _ _ => ?_) ?_
    | with_reducible refine State.keeps_ite ?_ ?_
    | split
    | with_reducible refine State.keeps_mk ?_

theorem State.discardMode_frame {s : State} :
    s.keeps [.od, .out0, .out1, .mem, .dma, .rings] (State.discardMode s) := by
  unfold State.discardMode; (try dsimp only)
  repeat' first
    | with_reducible exact State.keeps_refl
    | with_reducible refine State.discardIf_frame.last (by decide) ?_
    | with_reducible refine State.keeps_foldl (fun _ _ => ?_) ?_
    | with_reducible refine State.keeps_ite ?_ ?_
    | split
    | with_reducible refine State.keeps_mk ?_

theorem State.stopHold_frame {s : State} {b : Bool} :
    s.keeps [.od, .out0, .out1] (State.stopHold s b) := by
  unfold State.stopHold; (try dsimp only)
  repeat' first
    | with_reducible exact State.keeps_refl
    | with_reducible refine State.setO_keeps.last (by decide) ?_
    | with_reducible refine State.setOutPort_frame.last (by decide) ?_
    | with_reducible refine State.keeps_foldl (fun _ _ => ?_) ?_
    | with_reducible refine State.keeps_ite ?_ ?_
    | split
    | with_reducible refine State.keeps_mk ?_

theorem State.portOff_frame {s : State} {b : Bool} :
    s.keeps [.od, .out0, .out1] (State.portOff s b) := by
  unfold State.portOff; (try dsimp only)
  repeat' first
    | with_reducible exact State.keeps_refl
    | with_reducible refine State.setOutPort_frame.last (by decide) ?_
    | with_reducible refine State.stopHold_frame.last (by decide) ?_
    | with_reducible refine State.keeps_foldl (fun _ _ => ?_) ?_
    | with_reducible refine State.keeps_ite ?_ ?_
    | split
    | with_reducible refine State.keeps_mk ?_

theorem State.outOff_frame {s : State} :
    s.keeps [.od, .out0, .out1] (State.outOff s) := by
  unfold State.outOff; (try dsimp only)
  repeat' first
    | with_reducible exact State.keeps_refl
    | with_reducible refine State.portOff_frame.last (by decide) ?_
    | with_reducible refine State.keeps_foldl (fun _ _ => ?_) ?_
    | with_reducible refine State.keeps_ite ?_ ?_
    | split
    | with_reducible refine State.keeps_mk ?_

theorem State.setGen_frame {s : State} {p : Sys2Proof.Pos} {g : Sys2Proof.Machine.GenPos} :
    s.keeps [.gen] (State.setGen s p g) := by
  unfold State.setGen; (try dsimp only)
  repeat' first
    | with_reducible exact State.keeps_refl
    | with_reducible refine State.keeps_foldl (fun _ _ => ?_) ?_
    | with_reducible refine State.keeps_ite ?_ ?_
    | split
    | with_reducible refine State.keeps_mk ?_

theorem State.setPending_frame {s : State} {p : Sys2Proof.Pos} {k : ℕ} {v : ℤ} :
    s.keeps [.od, .gen] (State.setPending s p k v) := by
  unfold State.setPending; (try dsimp only)
  repeat' first
    | with_reducible exact State.keeps_refl
    | with_reducible refine State.setGen_frame.last (by decide) ?_
    | with_reducible refine State.setO_keeps.last (by decide) ?_
    | with_reducible refine State.keeps_foldl (fun _ _ => ?_) ?_
    | with_reducible refine State.keeps_ite ?_ ?_
    | split
    | with_reducible refine State.keeps_mk ?_

theorem State.setEstimates_frame {s : State} :
    s.keeps [.od] (State.setEstimates s) := by
  unfold State.setEstimates; (try dsimp only)
  repeat' first
    | with_reducible exact State.keeps_refl
    | with_reducible refine State.setO_keeps.last (by decide) ?_
    | with_reducible refine State.keeps_foldl (fun _ _ => ?_) ?_
    | with_reducible refine State.keeps_ite ?_ ?_
    | split
    | with_reducible refine State.keeps_mk ?_

theorem State.showLoads_frame {s : State} :
    s.keeps [.od] (State.showLoads s) := by
  unfold State.showLoads; (try dsimp only)
  repeat' first
    | with_reducible exact State.keeps_refl
    | with_reducible refine State.setEstimates_frame.last (by decide) ?_
    | with_reducible refine State.setOs_keeps.last (by decide) ?_
    | with_reducible refine State.keeps_foldl (fun _ _ => ?_) ?_
    | with_reducible refine State.keeps_ite ?_ ?_
    | split
    | with_reducible refine State.keeps_mk ?_

theorem State.fixLoads_frame {s : State} :
    s.keeps [.od, .mem, .rings] (State.fixLoads s) := by
  unfold State.fixLoads; (try dsimp only)
  repeat' first
    | with_reducible exact State.keeps_refl
    | with_reducible refine State.showLoads_frame.last (by decide) ?_
    | with_reducible refine State.layRing_frame.last (by decide) ?_
    | with_reducible refine State.keeps_foldl (fun _ _ => ?_) ?_
    | with_reducible refine State.keeps_ite ?_ ?_
    | split
    | with_reducible refine State.keeps_mk ?_

theorem State.activate_frame {s : State} {p : Sys2Proof.Pos} :
    s.keeps [.od, .gen] (State.activate s p) := by
  unfold State.activate; (try dsimp only)
  repeat' first
    | with_reducible exact State.keeps_refl
    | with_reducible refine State.setGen_frame.last (by decide) ?_
    | with_reducible refine State.incWrap_keeps.last (by decide) ?_
    | with_reducible refine State.setO_keeps.last (by decide) ?_
    | with_reducible refine State.keeps_foldl (fun _ _ => ?_) ?_
    | with_reducible refine State.keeps_ite ?_ ?_
    | split
    | with_reducible refine State.keeps_mk ?_

theorem State.acceptPos_frame {s : State} {p : Sys2Proof.Pos} :
    s.keeps [.od, .nv, .gen, .free] (State.acceptPos s p) := by
  unfold State.acceptPos; (try dsimp only)
  repeat' first
    | with_reducible exact State.keeps_refl
    | with_reducible refine State.setGen_frame.last (by decide) ?_
    | with_reducible refine State.activate_frame.last (by decide) ?_
    | with_reducible refine State.setO_keeps.last (by decide) ?_
    | with_reducible refine State.inc_keeps.last (by decide) ?_
    | with_reducible refine State.logEvt_keeps.last (by decide) ?_
    | with_reducible refine State.keeps_foldl (fun _ _ => ?_) ?_
    | with_reducible refine State.keeps_ite ?_ ?_
    | split
    | with_reducible refine State.keeps_mk ?_

theorem State.dropDecision_frame {s : State} {p : Sys2Proof.Pos} :
    s.keeps [.od, .gen] (State.dropDecision s p) := by
  unfold State.dropDecision; (try dsimp only)
  repeat' first
    | with_reducible exact State.keeps_refl
    | with_reducible refine State.setGen_frame.last (by decide) ?_
    | with_reducible refine State.inc_keeps.last (by decide) ?_
    | with_reducible refine State.keeps_foldl (fun _ _ => ?_) ?_
    | with_reducible refine State.keeps_ite ?_ ?_
    | split
    | with_reducible refine State.keeps_mk ?_

theorem State.countRefused_frame {s : State} {mask : ℕ} :
    s.keeps [.od, .gen] (State.countRefused s mask) := by
  unfold State.countRefused; (try dsimp only)
  repeat' first
    | with_reducible exact State.keeps_refl
    | with_reducible refine State.inc_keeps.last (by decide) ?_
    | with_reducible refine State.dropDecision_frame.last (by decide) ?_
    | with_reducible refine State.keeps_foldl (fun _ _ => ?_) ?_
    | with_reducible refine State.keeps_ite ?_ ?_
    | split
    | with_reducible refine State.keeps_mk ?_

theorem State.setFpa_frame {s : State} {p : Sys2Proof.Pos} {f : Sys2Proof.Machine.FpaSt} :
    s.keeps [.fpa] (State.setFpa s p f) := by
  unfold State.setFpa; (try dsimp only)
  repeat' first
    | with_reducible exact State.keeps_refl
    | with_reducible refine State.keeps_foldl (fun _ _ => ?_) ?_
    | with_reducible refine State.keeps_ite ?_ ?_
    | split
    | with_reducible refine State.keeps_mk ?_

theorem State.sp0Begin_frame {s : State} {sel : Sys2Proof.Pos} {kind : ℕ} {ws : List (Sys2Proof.Pos ×
    Sys2Proof.Machine.Sp0Word)} {fin : ℕ} :
    s.keeps [.emitted, .fpa, .sp0] (State.sp0Begin s sel kind ws fin) := by
  unfold State.sp0Begin; (try dsimp only)
  repeat' first
    | with_reducible exact State.keeps_refl
    | with_reducible refine State.emit_keeps.last (by decide) ?_
    | with_reducible refine State.setFpa_frame.last (by decide) ?_
    | with_reducible refine State.keeps_foldl (fun _ _ => ?_) ?_
    | with_reducible refine State.keeps_ite ?_ ?_
    | split
    | with_reducible refine State.keeps_mk ?_

theorem State.sp0Next_frame {s : State} {sel : Sys2Proof.Pos} :
    s.keeps [.emitted, .fpa, .sp0] (State.sp0Next s sel) := by
  unfold State.sp0Next; (try dsimp only)
  repeat' first
    | with_reducible exact State.keeps_refl
    | with_reducible refine State.sp0Begin_frame.last (by decide) ?_
    | with_reducible refine State.keeps_foldl (fun _ _ => ?_) ?_
    | with_reducible refine State.keeps_ite ?_ ?_
    | split
    | with_reducible refine State.keeps_mk ?_

theorem State.startRefused_frame {s : State} {p : Sys2Proof.Pos} {tag : ℕ} :
    s.keeps [.od, .fpa, .pipe] (State.startRefused s p tag) := by
  unfold State.startRefused; (try dsimp only)
  repeat' first
    | with_reducible exact State.keeps_refl
    | with_reducible refine State.setOs_keeps.last (by decide) ?_
    | with_reducible refine State.setFpa_frame.last (by decide) ?_
    | with_reducible refine State.setO_keeps.last (by decide) ?_
    | with_reducible refine State.keeps_foldl (fun _ _ => ?_) ?_
    | with_reducible refine State.keeps_ite ?_ ?_
    | split
    | with_reducible refine State.keeps_mk ?_

theorem State.wordRefused_frame {s : State} {p : Sys2Proof.Pos} {w : Sys2Proof.Machine.Sp0Word} {count : Bool} :
    s.keeps [.od, .fpa, .pipe] (State.wordRefused s p w count) := by
  unfold State.wordRefused; (try dsimp only)
  repeat' first
    | with_reducible exact State.keeps_refl
    | with_reducible refine State.startRefused_frame.last (by decide) ?_
    | with_reducible refine State.setFpa_frame.last (by decide) ?_
    | with_reducible refine State.inc_keeps.last (by decide) ?_
    | with_reducible refine State.keeps_foldl (fun _ _ => ?_) ?_
    | with_reducible refine State.keeps_ite ?_ ?_
    | split
    | with_reducible refine State.keeps_mk ?_

theorem State.gotId_frame {s : State} {p : Sys2Proof.Pos} {v : ℕ} :
    s.keeps [.od, .fpa] (State.gotId s p v) := by
  unfold State.gotId; (try dsimp only)
  repeat' first
    | with_reducible exact State.keeps_refl
    | with_reducible refine State.setO_keeps.last (by decide) ?_
    | with_reducible refine State.setFpa_frame.last (by decide) ?_
    | with_reducible refine State.keeps_foldl (fun _ _ => ?_) ?_
    | with_reducible refine State.keeps_ite ?_ ?_
    | split
    | with_reducible refine State.keeps_mk ?_

theorem State.fpaReply_frame {s : State} {p : Sys2Proof.Pos} {r : ℕ} {next : Sys2Proof.Machine.Sp0Word} :
    s.keeps [.od, .intake, .fpa, .pipe] (State.fpaReply s p r next) := by
  unfold State.fpaReply; (try dsimp only)
  repeat' first
    | with_reducible exact State.keeps_refl
    | with_reducible refine State.gotId_frame.last (by decide) ?_
    | with_reducible refine State.wordRefused_frame.last (by decide) ?_
    | with_reducible refine State.setFpa_frame.last (by decide) ?_
    | with_reducible refine State.keeps_foldl (fun _ _ => ?_) ?_
    | with_reducible refine State.keeps_ite ?_ ?_
    | split
    | with_reducible refine State.keeps_mk ?_

theorem State.sp0Release_frame {s : State} {sel : Sys2Proof.Pos} {words : List ℕ} :
    s.keeps [.od, .intake, .fpa, .sp0, .pipe] (State.sp0Release s sel words) := by
  unfold State.sp0Release; (try dsimp only)
  repeat' first
    | with_reducible exact State.keeps_refl
    | with_reducible refine State.setFpa_frame.last (by decide) ?_
    | with_reducible refine State.fpaReply_frame.last (by decide) ?_
    | with_reducible refine State.keeps_foldl (fun _ _ => ?_) ?_
    | with_reducible refine State.keeps_ite ?_ ?_
    | split
    | with_reducible refine State.keeps_mk ?_

theorem State.openBlank_frame {s : State} {p : Sys2Proof.Pos} :
    s.keeps [.emitted, .fpa, .sp0] (State.openBlank s p) := by
  unfold State.openBlank; (try dsimp only)
  repeat' first
    | with_reducible exact State.keeps_refl
    | with_reducible refine State.setFpa_frame.last (by decide) ?_
    | with_reducible refine State.sp0Next_frame.last (by decide) ?_
    | with_reducible refine State.keeps_foldl (fun _ _ => ?_) ?_
    | with_reducible refine State.keeps_ite ?_ ?_
    | split
    | with_reducible refine State.keeps_mk ?_

theorem State.endBlank_frame {s : State} {p : Sys2Proof.Pos} {num : ℕ} :
    s.keeps [.emitted, .od, .chain, .nv, .intake, .fpa, .host, .free] (State.endBlank s p num) := by
  unfold State.endBlank; (try dsimp only)
  repeat' first
    | with_reducible exact State.keeps_refl
    | with_reducible refine State.notify_keeps.last (by decide) ?_
    | with_reducible refine State.inc_keeps.last (by decide) ?_
    | with_reducible refine State.setFpa_frame.last (by decide) ?_
    | with_reducible refine State.keeps_foldl (fun _ _ => ?_) ?_
    | with_reducible refine State.keeps_ite ?_ ?_
    | split
    | with_reducible refine State.keeps_mk ?_

theorem State.setLane_frame {s : State} {l : ℕ} {x : Sys2Proof.Machine.Lane} :
    s.keeps [.lanes] (State.setLane s l x) := by
  unfold State.setLane; (try dsimp only)
  repeat' first
    | with_reducible exact State.keeps_refl
    | with_reducible refine State.keeps_foldl (fun _ _ => ?_) ?_
    | with_reducible refine State.keeps_ite ?_ ?_
    | split
    | with_reducible refine State.keeps_mk ?_

theorem State.loseAlignment_frame {s : State} {g : ℕ} :
    s.keeps [.od, .lanes, .aligned, .link] (State.loseAlignment s g) := by
  unfold State.loseAlignment; (try dsimp only)
  repeat' first
    | with_reducible exact State.keeps_refl
    | with_reducible refine State.setLane_frame.last (by decide) ?_
    | with_reducible refine State.inc_keeps.last (by decide) ?_
    | with_reducible refine State.keeps_foldl (fun _ _ => ?_) ?_
    | with_reducible refine State.keeps_ite ?_ ?_
    | split
    | with_reducible refine State.keeps_mk ?_

theorem State.tryAlign_frame {s : State} {g : ℕ} :
    s.keeps [.aligned] (State.tryAlign s g) := by
  unfold State.tryAlign; (try dsimp only)
  repeat' first
    | with_reducible exact State.keeps_refl
    | with_reducible refine State.keeps_foldl (fun _ _ => ?_) ?_
    | with_reducible refine State.keeps_ite ?_ ?_
    | split
    | with_reducible refine State.keeps_mk ?_

theorem State.setIntake_frame {s : State} {p : Sys2Proof.Pos} {i : Sys2Proof.Machine.IntakePos} :
    s.keeps [.intake] (State.setIntake s p i) := by
  unfold State.setIntake; (try dsimp only)
  repeat' first
    | with_reducible exact State.keeps_refl
    | with_reducible refine State.keeps_foldl (fun _ _ => ?_) ?_
    | with_reducible refine State.keeps_ite ?_ ?_
    | split
    | with_reducible refine State.keeps_mk ?_

theorem State.takePacket_frame {s : State} {g : ℕ} {b : List Sys2Proof.Byte} {malformed : Bool} :
    s.keeps [.od] ((State.takePacket s g b malformed).1) := by
  unfold State.takePacket; (try dsimp only)
  repeat' first
    | with_reducible exact State.keeps_refl
    | with_reducible refine State.inc_keeps.last (by decide) ?_
    | with_reducible refine State.keeps_foldl (fun _ _ => ?_) ?_
    | with_reducible refine State.keeps_ite ?_ ?_
    | split
    | with_reducible refine State.keeps_mk ?_

theorem State.push_frame {s : State} {p : Sys2Proof.Pos} {r : Sys2Proof.Machine.RowPkt} :
    s.keeps [.od, .intake] (State.push s p r) := by
  unfold State.push; (try dsimp only)
  repeat' first
    | with_reducible exact State.keeps_refl
    | with_reducible refine State.setO_keeps.last (by decide) ?_
    | with_reducible refine State.setIntake_frame.last (by decide) ?_
    | with_reducible refine State.keeps_foldl (fun _ _ => ?_) ?_
    | with_reducible refine State.keeps_ite ?_ ?_
    | split
    | with_reducible refine State.keeps_mk ?_

theorem State.setOpen_frame {s : State} {p : Sys2Proof.Pos} {f : Sys2Proof.Machine.OpenFrame} :
    s.keeps [.intake] (State.setOpen s p f) := by
  unfold State.setOpen; (try dsimp only)
  repeat' first
    | with_reducible exact State.keeps_refl
    | with_reducible refine State.setIntake_frame.last (by decide) ?_
    | with_reducible refine State.keeps_foldl (fun _ _ => ?_) ?_
    | with_reducible refine State.keeps_ite ?_ ?_
    | split
    | with_reducible refine State.keeps_mk ?_

theorem State.fillRow_frame {s : State} {p : Sys2Proof.Pos} {k : Sys2Proof.Pos} :
    s.keeps [.od, .intake] (State.fillRow s p k) := by
  unfold State.fillRow; (try dsimp only)
  repeat' first
    | with_reducible exact State.keeps_refl
    | with_reducible refine State.setOpen_frame.last (by decide) ?_
    | with_reducible refine State.incBy_keeps.last (by decide) ?_
    | with_reducible refine State.push_frame.last (by decide) ?_
    | with_reducible refine State.keeps_foldl (fun _ _ => ?_) ?_
    | with_reducible refine State.keeps_ite ?_ ?_
    | split
    | with_reducible refine State.keeps_mk ?_

theorem State.fillRows_frame {s : State} {p : Sys2Proof.Pos} {k : Sys2Proof.Pos} {row : ℕ} :
    s.keeps [.od, .intake] (State.fillRows s p k row) := by
  unfold State.fillRows; (try dsimp only)
  repeat' first
    | with_reducible exact State.keeps_refl
    | with_reducible refine State.push_frame.last (by decide) ?_
    | with_reducible refine State.setOpen_frame.last (by decide) ?_
    | with_reducible refine State.incBy_keeps.last (by decide) ?_
    | with_reducible refine State.keeps_foldl (fun _ _ => ?_) ?_
    | with_reducible refine State.keeps_ite ?_ ?_
    | split
    | with_reducible refine State.keeps_mk ?_

theorem State.truncate_frame {s : State} {p : Sys2Proof.Pos} {n : ℕ} :
    s.keeps [.od, .intake] (State.truncate s p n) := by
  unfold State.truncate; (try dsimp only)
  repeat' first
    | with_reducible exact State.keeps_refl
    | with_reducible refine State.setOpen_frame.last (by decide) ?_
    | with_reducible refine State.incBy_keeps.last (by decide) ?_
    | with_reducible refine State.keeps_foldl (fun _ _ => ?_) ?_
    | with_reducible refine State.keeps_ite ?_ ?_
    | split
    | with_reducible refine State.keeps_mk ?_

theorem State.overflowed_frame {s : State} {p : Sys2Proof.Pos} :
    s.keeps [.emitted, .od, .chain, .nv, .intake, .host, .free] (State.overflowed s p) := by
  unfold State.overflowed; (try dsimp only)
  repeat' first
    | with_reducible exact State.keeps_refl
    | with_reducible refine State.setOpen_frame.last (by decide) ?_
    | with_reducible refine State.notify_keeps.last (by decide) ?_
    | with_reducible refine State.inc_keeps.last (by decide) ?_
    | with_reducible refine State.keeps_foldl (fun _ _ => ?_) ?_
    | with_reducible refine State.keeps_ite ?_ ?_
    | split
    | with_reducible refine State.keeps_mk ?_

theorem State.acceptRow_frame {s : State} {p : Sys2Proof.Pos} {k : Sys2Proof.Pos} {row : ℕ} {col0 : ℕ} {data : List ℕ}
    {fault : Bool} {subt : Option ℕ} {shared : Bool} {bytes : ℕ} :
    s.keeps [.od, .intake] (State.acceptRow s p k row col0 data fault subt shared bytes) := by
  unfold State.acceptRow; (try dsimp only)
  repeat' first
    | with_reducible exact State.keeps_refl
    | with_reducible refine State.inc_keeps.last (by decide) ?_
    | with_reducible refine State.push_frame.last (by decide) ?_
    | with_reducible refine State.setOpen_frame.last (by decide) ?_
    | with_reducible refine State.incBy_keeps.last (by decide) ?_
    | with_reducible refine State.truncate_frame.last (by decide) ?_
    | with_reducible refine State.fillRow_frame.last (by decide) ?_
    | with_reducible refine State.fillRows_frame.last (by decide) ?_
    | with_reducible refine State.keeps_foldl (fun _ _ => ?_) ?_
    | with_reducible refine State.keeps_ite ?_ ?_
    | split
    | with_reducible refine State.keeps_mk ?_

theorem State.offerRow_frame {s : State} {p : Sys2Proof.Pos} {k : Sys2Proof.Pos} {row : ℕ} {col0 : ℕ} {data : List ℕ}
    {fault : Bool} {subt : Option ℕ} :
    s.keeps [.emitted, .od, .chain, .nv, .intake, .host, .free] (State.offerRow s p k row col0 data fault subt) := by
  unfold State.offerRow; (try dsimp only)
  repeat' first
    | with_reducible exact State.keeps_refl
    | with_reducible refine State.acceptRow_frame.last (by decide) ?_
    | with_reducible refine State.overflowed_frame.last (by decide) ?_
    | with_reducible refine State.truncate_frame.last (by decide) ?_
    | with_reducible refine State.setOpen_frame.last (by decide) ?_
    | with_reducible refine State.inc_keeps.last (by decide) ?_
    | with_reducible refine State.keeps_foldl (fun _ _ => ?_) ?_
    | with_reducible refine State.keeps_ite ?_ ?_
    | split
    | with_reducible refine State.keeps_mk ?_

theorem State.stray_frame {s : State} {p : Sys2Proof.Pos} :
    s.keeps [.od] (State.stray s p) := by
  unfold State.stray; (try dsimp only)
  repeat' first
    | with_reducible exact State.keeps_refl
    | with_reducible refine State.inc_keeps.last (by decide) ?_
    | with_reducible refine State.keeps_foldl (fun _ _ => ?_) ?_
    | with_reducible refine State.keeps_ite ?_ ?_
    | split
    | with_reducible refine State.keeps_mk ?_

theorem State.intakeClose_frame {s : State} {p : Sys2Proof.Pos} {cause : ℕ} {at_ : ℕ} :
    s.keeps [.od, .intake] (State.intakeClose s p cause at_) := by
  unfold State.intakeClose; (try dsimp only)
  repeat' first
    | with_reducible exact State.keeps_refl
    | with_reducible refine State.setIntake_frame.last (by decide) ?_
    | with_reducible refine State.setO_keeps.last (by decide) ?_
    | with_reducible refine State.inc_keeps.last (by decide) ?_
    | with_reducible refine State.fillRow_frame.last (by decide) ?_
    | with_reducible refine State.fillRows_frame.last (by decide) ?_
    | with_reducible refine State.keeps_foldl (fun _ _ => ?_) ?_
    | with_reducible refine State.keeps_ite ?_ ?_
    | split
    | with_reducible refine State.keeps_mk ?_

theorem State.intakeDiscard_frame {s : State} {p : Sys2Proof.Pos} :
    s.keeps [.od, .intake] (State.intakeDiscard s p) := by
  unfold State.intakeDiscard; (try dsimp only)
  repeat' first
    | with_reducible exact State.keeps_refl
    | with_reducible refine State.setIntake_frame.last (by decide) ?_
    | with_reducible refine State.setO_keeps.last (by decide) ?_
    | with_reducible refine State.keeps_foldl (fun _ _ => ?_) ?_
    | with_reducible refine State.keeps_ite ?_ ?_
    | split
    | with_reducible refine State.keeps_mk ?_

theorem State.openFrame_frame {s : State} {p : Sys2Proof.Pos} {st : Sys2Proof.Machine.Start} {kind : ℕ} :
    s.keeps [.intake] (State.openFrame s p st kind) := by
  unfold State.openFrame; (try dsimp only)
  repeat' first
    | with_reducible exact State.keeps_refl
    | with_reducible refine State.setIntake_frame.last (by decide) ?_
    | with_reducible refine State.keeps_foldl (fun _ _ => ?_) ?_
    | with_reducible refine State.keeps_ite ?_ ?_
    | split
    | with_reducible refine State.keeps_mk ?_

theorem State.applyShadow_frame {s : State} {p : Sys2Proof.Pos} :
    s.keeps [.od, .fpa] (State.applyShadow s p) := by
  unfold State.applyShadow; (try dsimp only)
  repeat' first
    | with_reducible exact State.keeps_refl
    | with_reducible refine State.setFpa_frame.last (by decide) ?_
    | with_reducible refine State.setO_keeps.last (by decide) ?_
    | with_reducible refine State.setOs_keeps.last (by decide) ?_
    | with_reducible refine State.keeps_foldl (fun _ _ => ?_) ?_
    | with_reducible refine State.keeps_ite ?_ ?_
    | split
    | with_reducible refine State.keeps_mk ?_

theorem State.setTrig_frame {s : State} {p : Sys2Proof.Pos} {g : Sys2Proof.Machine.TrigPos} :
    s.keeps [.trig] (State.setTrig s p g) := by
  unfold State.setTrig; (try dsimp only)
  repeat' first
    | with_reducible exact State.keeps_refl
    | with_reducible refine State.keeps_foldl (fun _ _ => ?_) ?_
    | with_reducible refine State.keeps_ite ?_ ?_
    | split
    | with_reducible refine State.keeps_mk ?_

theorem State.setEnc_frame {s : State} {e : Bool} {x : Sys2Proof.Machine.Encoder} :
    s.keeps [.enc0, .enc1] (State.setEnc s e x) := by
  unfold State.setEnc; (try dsimp only)
  repeat' first
    | with_reducible exact State.keeps_refl
    | with_reducible refine State.keeps_foldl (fun _ _ => ?_) ?_
    | with_reducible refine State.keeps_ite ?_ ?_
    | split
    | with_reducible refine State.keeps_mk ?_

theorem State.pulseAt_frame {s : State} {i : Sys2Proof.Pos} {at_ : ℕ} :
    s.keeps [.trigOut] (State.pulseAt s i at_) := by
  unfold State.pulseAt; (try dsimp only)
  repeat' first
    | with_reducible exact State.keeps_refl
    | with_reducible refine State.keeps_foldl (fun _ _ => ?_) ?_
    | with_reducible refine State.keeps_ite ?_ ?_
    | split
    | with_reducible refine State.keeps_mk ?_

theorem State.outsStart_frame {s : State} {p : Sys2Proof.Pos} {at_ : ℕ} :
    s.keeps [.trigOut] (State.outsStart s p at_) := by
  unfold State.outsStart; (try dsimp only)
  repeat' first
    | with_reducible exact State.keeps_refl
    | with_reducible refine State.pulseAt_frame.last (by decide) ?_
    | with_reducible refine State.keeps_foldl (fun _ _ => ?_) ?_
    | with_reducible refine State.keeps_ite ?_ ?_
    | split
    | with_reducible refine State.keeps_mk ?_

theorem State.outsClose_frame {s : State} {p : Sys2Proof.Pos} :
    s.keeps [.trigOut] (State.outsClose s p) := by
  unfold State.outsClose; (try dsimp only)
  repeat' first
    | with_reducible exact State.keeps_refl
    | with_reducible refine State.keeps_foldl (fun _ _ => ?_) ?_
    | with_reducible refine State.keeps_ite ?_ ?_
    | split
    | with_reducible refine State.keeps_mk ?_

theorem State.outsLow_frame {s : State} :
    s.keeps [.trigOut] (State.outsLow s) := by
  unfold State.outsLow; (try dsimp only)
  repeat' first
    | with_reducible exact State.keeps_refl
    | with_reducible refine State.keeps_foldl (fun _ _ => ?_) ?_
    | with_reducible refine State.keeps_ite ?_ ?_
    | split
    | with_reducible refine State.keeps_mk ?_

theorem State.trigEvent_frame {s : State} {p : Sys2Proof.Pos} {st : Sys2Proof.Machine.Start} :
    s.keeps [.od, .trig] (State.trigEvent s p st) := by
  unfold State.trigEvent; (try dsimp only)
  repeat' first
    | with_reducible exact State.keeps_refl
    | with_reducible refine State.setTrig_frame.last (by decide) ?_
    | with_reducible refine State.inc_keeps.last (by decide) ?_
    | with_reducible refine State.keeps_foldl (fun _ _ => ?_) ?_
    | with_reducible refine State.keeps_ite ?_ ?_
    | split
    | with_reducible refine State.keeps_mk ?_

theorem State.computeHeld_frame {s : State} {p : Sys2Proof.Pos} :
    s.keeps [.trig] (State.computeHeld s p) := by
  unfold State.computeHeld; (try dsimp only)
  repeat' first
    | with_reducible exact State.keeps_refl
    | with_reducible refine State.setTrig_frame.last (by decide) ?_
    | with_reducible refine State.keeps_foldl (fun _ _ => ?_) ?_
    | with_reducible refine State.keeps_ite ?_ ?_
    | split
    | with_reducible refine State.keeps_mk ?_

theorem State.commitStart_frame {s : State} {p : Sys2Proof.Pos} {at_ : ℕ} {st : Sys2Proof.Machine.Start} :
    s.keeps [.od, .trig] (State.commitStart s p at_ st) := by
  unfold State.commitStart; (try dsimp only)
  repeat' first
    | with_reducible exact State.keeps_refl
    | with_reducible refine State.setTrig_frame.last (by decide) ?_
    | with_reducible refine State.inc_keeps.last (by decide) ?_
    | with_reducible refine State.keeps_foldl (fun _ _ => ?_) ?_
    | with_reducible refine State.keeps_ite ?_ ?_
    | split
    | with_reducible refine State.keeps_mk ?_

theorem State.notAllowed_frame {s : State} {p : Sys2Proof.Pos} {st : Sys2Proof.Machine.Start} :
    s.keeps [.od, .trig] (State.notAllowed s p st) := by
  unfold State.notAllowed; (try dsimp only)
  repeat' first
    | with_reducible exact State.keeps_refl
    | with_reducible refine State.setTrig_frame.last (by decide) ?_
    | with_reducible refine State.inc_keeps.last (by decide) ?_
    | with_reducible refine State.computeHeld_frame.last (by decide) ?_
    | with_reducible refine State.keeps_foldl (fun _ _ => ?_) ?_
    | with_reducible refine State.keeps_ite ?_ ?_
    | split
    | with_reducible refine State.keeps_mk ?_

theorem State.decide__frame {s : State} {p : Sys2Proof.Pos} :
    s.keeps [.od, .trig] (State.decide_ s p) := by
  unfold State.decide_; (try dsimp only)
  repeat' first
    | with_reducible exact State.keeps_refl
    | with_reducible refine State.notAllowed_frame.last (by decide) ?_
    | with_reducible refine State.commitStart_frame.last (by decide) ?_
    | with_reducible refine State.inc_keeps.last (by decide) ?_
    | with_reducible refine State.setTrig_frame.last (by decide) ?_
    | with_reducible refine State.keeps_foldl (fun _ _ => ?_) ?_
    | with_reducible refine State.keeps_ite ?_ ?_
    | split
    | with_reducible refine State.keeps_mk ?_

theorem State.discardStarts_frame {s : State} {p : Sys2Proof.Pos} :
    s.keeps [.trig] (State.discardStarts s p) := by
  unfold State.discardStarts; (try dsimp only)
  repeat' first
    | with_reducible exact State.keeps_refl
    | with_reducible refine State.setTrig_frame.last (by decide) ?_
    | with_reducible refine State.keeps_foldl (fun _ _ => ?_) ?_
    | with_reducible refine State.keeps_ite ?_ ?_
    | split
    | with_reducible refine State.keeps_mk ?_

theorem State.discardAllStarts_frame {s : State} :
    s.keeps [.trig] (State.discardAllStarts s) := by
  unfold State.discardAllStarts; (try dsimp only)
  repeat' first
    | with_reducible exact State.keeps_refl
    | with_reducible refine State.discardStarts_frame.last (by decide) ?_
    | with_reducible refine State.keeps_foldl (fun _ _ => ?_) ?_
    | with_reducible refine State.keeps_ite ?_ ?_
    | split
    | with_reducible refine State.keeps_mk ?_

theorem State.setTg_frame {s : State} {g : Sys2Proof.Pos} {x : Sys2Proof.Machine.Generator} :
    s.keeps [.tg] (State.setTg s g x) := by
  unfold State.setTg; (try dsimp only)
  repeat' first
    | with_reducible exact State.keeps_refl
    | with_reducible refine State.keeps_foldl (fun _ _ => ?_) ?_
    | with_reducible refine State.keeps_ite ?_ ?_
    | split
    | with_reducible refine State.keeps_mk ?_

theorem State.rearm_frame {s : State} {g : Sys2Proof.Pos} :
    s.keeps [.tg] (State.rearm s g) := by
  unfold State.rearm; (try dsimp only)
  repeat' first
    | with_reducible exact State.keeps_refl
    | with_reducible refine State.setTg_frame.last (by decide) ?_
    | with_reducible refine State.keeps_foldl (fun _ _ => ?_) ?_
    | with_reducible refine State.keeps_ite ?_ ?_
    | split
    | with_reducible refine State.keeps_mk ?_

theorem State.rearmTimer_frame {s : State} {g : Sys2Proof.Pos} :
    s.keeps [.tg] (State.rearmTimer s g) := by
  unfold State.rearmTimer; (try dsimp only)
  repeat' first
    | with_reducible exact State.keeps_refl
    | with_reducible refine State.setTg_frame.last (by decide) ?_
    | with_reducible refine State.keeps_foldl (fun _ _ => ?_) ?_
    | with_reducible refine State.keeps_ite ?_ ?_
    | split
    | with_reducible refine State.keeps_mk ?_

theorem State.rearmEnc_frame {s : State} {e : ℕ} :
    s.keeps [.tg] (State.rearmEnc s e) := by
  unfold State.rearmEnc; (try dsimp only)
  repeat' first
    | with_reducible exact State.keeps_refl
    | with_reducible refine State.rearm_frame.last (by decide) ?_
    | with_reducible refine State.keeps_foldl (fun _ _ => ?_) ?_
    | with_reducible refine State.keeps_ite ?_ ?_
    | split
    | with_reducible refine State.keeps_mk ?_

theorem State.publish_frame {s : State} {c : ℕ} {seq : ℕ} {t : ℕ} {st : ℕ} {e : ℕ} :
    s.keeps [.emitted] (State.publish s c seq t st e) := by
  unfold State.publish; (try dsimp only)
  repeat' first
    | with_reducible exact State.keeps_refl
    | with_reducible refine State.emit_keeps.last (by decide) ?_
    | with_reducible refine State.keeps_foldl (fun _ _ => ?_) ?_
    | with_reducible refine State.keeps_ite ?_ ?_
    | split
    | with_reducible refine State.keeps_mk ?_

theorem State.deliver_frame {s : State} {source : ℕ} {st : Sys2Proof.Machine.Start} :
    s.keeps [.od, .trig] (State.deliver s source st) := by
  unfold State.deliver; (try dsimp only)
  repeat' first
    | with_reducible exact State.keeps_refl
    | with_reducible refine State.trigEvent_frame.last (by decide) ?_
    | with_reducible refine State.keeps_foldl (fun _ _ => ?_) ?_
    | with_reducible refine State.keeps_ite ?_ ?_
    | split
    | with_reducible refine State.keeps_mk ?_

theorem State.genEvent_frame {s : State} {g : Sys2Proof.Pos} {t : ℕ} :
    s.keeps [.emitted, .od, .tg, .trig, .trigOut] (State.genEvent s g t) := by
  unfold State.genEvent; (try dsimp only)
  repeat' first
    | with_reducible exact State.keeps_refl
    | with_reducible refine State.deliver_frame.last (by decide) ?_
    | with_reducible refine State.publish_frame.last (by decide) ?_
    | with_reducible refine State.pulseAt_frame.last (by decide) ?_
    | with_reducible refine State.setTg_frame.last (by decide) ?_
    | with_reducible refine State.setO_keeps.last (by decide) ?_
    | with_reducible refine State.inc_keeps.last (by decide) ?_
    | with_reducible refine State.keeps_foldl (fun _ _ => ?_) ?_
    | with_reducible refine State.keeps_ite ?_ ?_
    | split
    | with_reducible refine State.keeps_mk ?_

theorem State.timeState_frame {s : State} {n : ℕ} :
    s.keeps [.od, .time] (State.timeState s n) := by
  unfold State.timeState; (try dsimp only)
  repeat' first
    | with_reducible exact State.keeps_refl
    | with_reducible refine State.setO_keeps.last (by decide) ?_
    | with_reducible refine State.inc_keeps.last (by decide) ?_
    | with_reducible refine State.keeps_foldl (fun _ _ => ?_) ?_
    | with_reducible refine State.keeps_ite ?_ ?_
    | split
    | with_reducible refine State.keeps_mk ?_

theorem State.moveTimers_frame {s : State} {d : ℤ} :
    s.keeps [.time, .modes, .intake, .sp0, .vdet, .ecl, .shut, .dma] (State.moveTimers s d) := by
  unfold State.moveTimers; (try dsimp only)
  repeat' first
    | with_reducible exact State.keeps_refl
    | with_reducible refine State.keeps_foldl (fun _ _ => ?_) ?_
    | with_reducible refine State.keeps_ite ?_ ?_
    | split
    | with_reducible refine State.keeps_mk ?_

theorem State.stepTime_frame {s : State} {to_ : ℕ} :
    s.keeps [.emitted, .od, .time, .modes, .chain, .nv, .intake, .sp0, .vdet, .ecl, .shut, .tg, .trig, .host, .dma, .free]
      (State.stepTime s to_) := by
  unfold State.stepTime; (try dsimp only)
  repeat' first
    | with_reducible exact State.keeps_refl
    | with_reducible refine State.inc_keeps.last (by decide) ?_
    | with_reducible refine State.notify_keeps.last (by decide) ?_
    | with_reducible refine State.rearmTimer_frame.last (by decide) ?_
    | with_reducible refine State.moveTimers_frame.last (by decide) ?_
    | with_reducible refine State.discardAllStarts_frame.last (by decide) ?_
    | with_reducible refine State.keeps_foldl (fun _ _ => ?_) ?_
    | with_reducible refine State.keeps_ite ?_ ?_
    | split
    | with_reducible refine State.keeps_mk ?_

theorem State.setEcl_frame {s : State} {p : Sys2Proof.Pos} {e : Sys2Proof.Machine.EclPos} :
    s.keeps [.ecl] (State.setEcl s p e) := by
  unfold State.setEcl; (try dsimp only)
  repeat' first
    | with_reducible exact State.keeps_refl
    | with_reducible refine State.keeps_foldl (fun _ _ => ?_) ?_
    | with_reducible refine State.keeps_ite ?_ ?_
    | split
    | with_reducible refine State.keeps_mk ?_

theorem State.eclCapture_frame {s : State} {p : Sys2Proof.Pos} {kind : ℕ} {k : ℕ} {r : ℕ} {px : List
    Sys2Proof.Machine.CorrPx} {synth : Bool} :
    s.keeps [.ecl] (State.eclCapture s p kind k r px synth) := by
  unfold State.eclCapture; (try dsimp only)
  repeat' first
    | with_reducible exact State.keeps_refl
    | with_reducible refine State.setEcl_frame.last (by decide) ?_
    | with_reducible refine State.keeps_foldl (fun _ _ => ?_) ?_
    | with_reducible refine State.keeps_ite ?_ ?_
    | split
    | with_reducible refine State.keeps_mk ?_

theorem State.accRow_frame {s : State} {row : Sys2Proof.Machine.CorrRow} :
    s.keeps [.mem] (State.accRow s row) := by
  unfold State.accRow; (try dsimp only)
  repeat' first
    | with_reducible exact State.keeps_refl
    | with_reducible refine State.setDram_frame.last (by decide) ?_
    | with_reducible refine State.keeps_foldl (fun _ _ => ?_) ?_
    | with_reducible refine State.keeps_ite ?_ ?_
    | split
    | with_reducible refine State.keeps_mk ?_

theorem State.fitRow_frame {s : State} {i : ℕ} {bad : Bool} {row : Sys2Proof.Machine.CorrRow} :
    s.keeps [.mem] (State.fitRow s i bad row) := by
  unfold State.fitRow; (try dsimp only)
  repeat' first
    | with_reducible exact State.keeps_refl
    | with_reducible refine State.setDram_frame.last (by decide) ?_
    | with_reducible refine State.keeps_foldl (fun _ _ => ?_) ?_
    | with_reducible refine State.keeps_ite ?_ ?_
    | split
    | with_reducible refine State.keeps_mk ?_

theorem State.fitFrame_frame {s : State} {p : Sys2Proof.Pos} {x : Sys2Proof.Machine.FrameCtx} {slot : ℕ} :
    s.keeps [.ecl, .mem] (State.fitFrame s p x slot) := by
  unfold State.fitFrame; (try dsimp only)
  repeat' first
    | with_reducible exact State.keeps_refl
    | with_reducible refine State.fitRow_frame.last (by decide) ?_
    | with_reducible refine State.setEcl_frame.last (by decide) ?_
    | with_reducible refine State.keeps_foldl (fun _ _ => ?_) ?_
    | with_reducible refine State.keeps_ite ?_ ?_
    | split
    | with_reducible refine State.keeps_mk ?_

theorem State.accFrame_frame {s : State} {p : Sys2Proof.Pos} {x : Sys2Proof.Machine.FrameCtx} :
    s.keeps [.ecl, .mem] (State.accFrame s p x) := by
  unfold State.accFrame; (try dsimp only)
  repeat' first
    | with_reducible exact State.keeps_refl
    | with_reducible refine State.setEcl_frame.last (by decide) ?_
    | with_reducible refine State.accRow_frame.last (by decide) ?_
    | with_reducible refine State.keeps_foldl (fun _ _ => ?_) ?_
    | with_reducible refine State.keeps_ite ?_ ?_
    | split
    | with_reducible refine State.keeps_mk ?_

theorem State.eclDrained_frame {s : State} {p : Sys2Proof.Pos} {x : Sys2Proof.Machine.FrameCtx} :
    s.keeps [.ecl, .mem] (State.eclDrained s p x) := by
  unfold State.eclDrained; (try dsimp only)
  repeat' first
    | with_reducible exact State.keeps_refl
    | with_reducible refine State.setEcl_frame.last (by decide) ?_
    | with_reducible refine State.fitFrame_frame.last (by decide) ?_
    | with_reducible refine State.accFrame_frame.last (by decide) ?_
    | with_reducible refine State.keeps_foldl (fun _ _ => ?_) ?_
    | with_reducible refine State.keeps_ite ?_ ?_
    | split
    | with_reducible refine State.keeps_mk ?_

theorem State.setPipe_frame {s : State} {p : Sys2Proof.Pos} {x : Sys2Proof.Machine.PipePos} :
    s.keeps [.pipe] (State.setPipe s p x) := by
  unfold State.setPipe; (try dsimp only)
  repeat' first
    | with_reducible exact State.keeps_refl
    | with_reducible refine State.keeps_foldl (fun _ _ => ?_) ?_
    | with_reducible refine State.keeps_ite ?_ ?_
    | split
    | with_reducible refine State.keeps_mk ?_

theorem State.setStamp_frame {s : State} {p : Sys2Proof.Pos} {r : ℕ} {k : ℕ} {st : ℕ} {time : ℕ} :
    s.keeps [.mem] (State.setStamp s p r k st time) := by
  unfold State.setStamp; (try dsimp only)
  repeat' first
    | with_reducible exact State.keeps_refl
    | with_reducible refine State.setDram_frame.last (by decide) ?_
    | with_reducible refine State.keeps_foldl (fun _ _ => ?_) ?_
    | with_reducible refine State.keeps_ite ?_ ?_
    | split
    | with_reducible refine State.keeps_mk ?_

theorem State.emptyStamps_frame {s : State} {p : Sys2Proof.Pos} :
    s.keeps [.mem] (State.emptyStamps s p) := by
  unfold State.emptyStamps; (try dsimp only)
  repeat' first
    | with_reducible exact State.keeps_refl
    | with_reducible refine State.keeps_foldl (fun _ _ => ?_) ?_
    | with_reducible refine State.keeps_ite ?_ ?_
    | split
    | with_reducible refine State.keeps_mk ?_

theorem State.clearRowValid_frame {s : State} {p : Sys2Proof.Pos} :
    s.keeps [.mem] (State.clearRowValid s p) := by
  unfold State.clearRowValid; (try dsimp only)
  repeat' first
    | with_reducible exact State.keeps_refl
    | with_reducible refine State.keeps_foldl (fun _ _ => ?_) ?_
    | with_reducible refine State.keeps_ite ?_ ?_
    | split
    | with_reducible refine State.keeps_mk ?_

theorem State.stampRow_frame {s : State} {p : Sys2Proof.Pos} {r : ℕ} {k : ℕ} {start : ℕ} {invalid : List Bool} :
    s.keeps [.od, .mem] (State.stampRow s p r k start invalid) := by
  unfold State.stampRow; (try dsimp only)
  repeat' first
    | with_reducible exact State.keeps_refl
    | with_reducible refine State.inc_keeps.last (by decide) ?_
    | with_reducible refine State.setStamp_frame.last (by decide) ?_
    | with_reducible refine State.keeps_foldl (fun _ _ => ?_) ?_
    | with_reducible refine State.keeps_ite ?_ ?_
    | split
    | with_reducible refine State.keeps_mk ?_

theorem State.tapPut_frame {s : State} {x : Sys2Proof.Machine.FrameCtx} {p : Sys2Proof.Pos} {n : ℕ} {k : ℕ} {r : ℕ}
    {vals : List ℕ} :
    s.keeps [.taps] (State.tapPut s x p n k r vals) := by
  unfold State.tapPut; (try dsimp only)
  repeat' first
    | with_reducible exact State.keeps_refl
    | with_reducible refine State.keeps_foldl (fun _ _ => ?_) ?_
    | with_reducible refine State.keeps_ite ?_ ?_
    | split
    | with_reducible refine State.keeps_mk ?_

theorem State.prefetch_frame {s : State} {p : Sys2Proof.Pos} :
    s.keeps [.intake, .pipe] (State.prefetch s p) := by
  unfold State.prefetch; (try dsimp only)
  repeat' first
    | with_reducible exact State.keeps_refl
    | with_reducible refine State.setIntake_frame.last (by decide) ?_
    | with_reducible refine State.setPipe_frame.last (by decide) ?_
    | with_reducible refine State.keeps_foldl (fun _ _ => ?_) ?_
    | with_reducible refine State.keeps_ite ?_ ?_
    | split
    | with_reducible refine State.keeps_mk ?_

theorem State.takeSample_frame {s : State} {p : Sys2Proof.Pos} {x : Sys2Proof.Machine.FrameCtx} {r :
    Sys2Proof.Machine.RowPkt} :
    s.keeps [.pipe] (State.takeSample s p x r) := by
  unfold State.takeSample; (try dsimp only)
  repeat' first
    | with_reducible exact State.keeps_refl
    | with_reducible refine State.setPipe_frame.last (by decide) ?_
    | with_reducible refine State.keeps_foldl (fun _ _ => ?_) ?_
    | with_reducible refine State.keeps_ite ?_ ?_
    | split
    | with_reducible refine State.keeps_mk ?_

theorem State.toBuffer_frame {s : State} {p : Sys2Proof.Pos} {k : ℕ} {r : ℕ} {px : List Sys2Proof.Machine.CorrPx}
    {synth : Bool} :
    s.keeps [.od, .pipe, .ecl] (State.toBuffer s p k r px synth) := by
  unfold State.toBuffer; (try dsimp only)
  repeat' first
    | with_reducible exact State.keeps_refl
    | with_reducible refine State.setPipe_frame.last (by decide) ?_
    | with_reducible refine State.incBy_keeps.last (by decide) ?_
    | with_reducible refine State.eclCapture_frame.last (by decide) ?_
    | with_reducible refine State.keeps_foldl (fun _ _ => ?_) ?_
    | with_reducible refine State.keeps_ite ?_ ?_
    | split
    | with_reducible refine State.keeps_mk ?_

theorem State.nativeRow_frame {s : State} {p : Sys2Proof.Pos} {x : Sys2Proof.Machine.FrameCtx} {r :
    Sys2Proof.Machine.RowPkt} {es : List Sys2Proof.Machine.Entry} :
    s.keeps [.od, .pipe, .ecl] (State.nativeRow s p x r es) := by
  unfold State.nativeRow; (try dsimp only)
  repeat' first
    | with_reducible exact State.keeps_refl
    | with_reducible refine State.incBy_keeps.last (by decide) ?_
    | with_reducible refine State.toBuffer_frame.last (by decide) ?_
    | with_reducible refine State.keeps_foldl (fun _ _ => ?_) ?_
    | with_reducible refine State.keeps_ite ?_ ?_
    | split
    | with_reducible refine State.keeps_mk ?_

theorem State.herTnr_frame {s : State} {p : Sys2Proof.Pos} {x : Sys2Proof.Machine.FrameCtx} {h :
    Sys2Proof.Machine.HerRow} {v : List ℕ} :
    s.keeps [.od, .mem] ((State.herTnr s p x h v).1) := by
  unfold State.herTnr; (try dsimp only)
  repeat' first
    | with_reducible exact State.keeps_refl
    | with_reducible refine State.stampRow_frame.last (by decide) ?_
    | with_reducible refine State.setDram_frame.last (by decide) ?_
    | with_reducible refine State.keeps_foldl (fun _ _ => ?_) ?_
    | with_reducible refine State.keeps_ite ?_ ?_
    | split
    | with_reducible refine State.keeps_mk ?_

theorem State.herRow_frame {s : State} {p : Sys2Proof.Pos} {x : Sys2Proof.Machine.FrameCtx} {up :
    Sys2Proof.Machine.HerRow} {mid : Sys2Proof.Machine.HerRow} {dn : Sys2Proof.Machine.HerRow} :
    s.keeps [.od, .pipe, .ecl, .mem] (State.herRow s p x up mid dn) := by
  unfold State.herRow; (try dsimp only)
  repeat' first
    | with_reducible exact State.keeps_refl
    | with_reducible refine State.toBuffer_frame.last (by decide) ?_
    | with_reducible refine State.herTnr_frame.last (by decide) ?_
    | with_reducible refine State.keeps_foldl (fun _ _ => ?_) ?_
    | with_reducible refine State.keeps_ite ?_ ?_
    | split
    | with_reducible refine State.keeps_mk ?_

theorem State.heritageRow_frame {s : State} {p : Sys2Proof.Pos} {x : Sys2Proof.Machine.FrameCtx} {r :
    Sys2Proof.Machine.RowPkt} {es : List Sys2Proof.Machine.Entry} :
    s.keeps [.od, .pipe, .ecl, .mem] (State.heritageRow s p x r es) := by
  unfold State.heritageRow; (try dsimp only)
  repeat' first
    | with_reducible exact State.keeps_refl
    | with_reducible refine State.herRow_frame.last (by decide) ?_
    | with_reducible refine State.setPipe_frame.last (by decide) ?_
    | with_reducible refine State.keeps_foldl (fun _ _ => ?_) ?_
    | with_reducible refine State.keeps_ite ?_ ?_
    | split
    | with_reducible refine State.keeps_mk ?_

theorem State.enterSlice_frame {s : State} {p : Sys2Proof.Pos} :
    s.keeps [.od, .intake, .link, .pipe, .ecl, .mem] (State.enterSlice s p) := by
  unfold State.enterSlice; (try dsimp only)
  repeat' first
    | with_reducible exact State.keeps_refl
    | with_reducible refine State.nativeRow_frame.last (by decide) ?_
    | with_reducible refine State.heritageRow_frame.last (by decide) ?_
    | with_reducible refine State.setIntake_frame.last (by decide) ?_
    | with_reducible refine State.takeSample_frame.last (by decide) ?_
    | with_reducible refine State.keeps_foldl (fun _ _ => ?_) ?_
    | with_reducible refine State.keeps_ite ?_ ?_
    | split
    | with_reducible refine State.keeps_mk ?_

theorem State.tailWrite_frame {s : State} {p : Sys2Proof.Pos} {k : ℕ} {r : ℕ} {ts : List Sys2Proof.Machine.TailStep} :
    s.keeps [.od, .pipe, .mem] (State.tailWrite s p k r ts) := by
  unfold State.tailWrite; (try dsimp only)
  repeat' first
    | with_reducible exact State.keeps_refl
    | with_reducible refine State.setPipe_frame.last (by decide) ?_
    | with_reducible refine State.incBy_keeps.last (by decide) ?_
    | with_reducible refine State.setDram_frame.last (by decide) ?_
    | with_reducible refine State.keeps_foldl (fun _ _ => ?_) ?_
    | with_reducible refine State.keeps_ite ?_ ?_
    | split
    | with_reducible refine State.keeps_mk ?_

theorem State.toMerge_frame {s : State} {p : Sys2Proof.Pos} {x : Sys2Proof.Machine.FrameCtx} {k : ℕ} {r : ℕ} {px :
    List Sys2Proof.Machine.TailPx} {errs : List Bool} :
    s.keeps [.od, .pipe, .mem] (State.toMerge s p x k r px errs) := by
  unfold State.toMerge; (try dsimp only)
  repeat' first
    | with_reducible exact State.keeps_refl
    | with_reducible refine State.setDram_frame.last (by decide) ?_
    | with_reducible refine State.inc_keeps.last (by decide) ?_
    | with_reducible refine State.setPipe_frame.last (by decide) ?_
    | with_reducible refine State.keeps_foldl (fun _ _ => ?_) ?_
    | with_reducible refine State.keeps_ite ?_ ?_
    | split
    | with_reducible refine State.keeps_mk ?_

theorem State.countRepl_frame {s : State} {p : Sys2Proof.Pos} {row : List Sys2Proof.Machine.ReplPx} :
    s.keeps [.od] (State.countRepl s p row) := by
  unfold State.countRepl; (try dsimp only)
  repeat' first
    | with_reducible exact State.keeps_refl
    | with_reducible refine State.incBy_keeps.last (by decide) ?_
    | with_reducible refine State.keeps_foldl (fun _ _ => ?_) ?_
    | with_reducible refine State.keeps_ite ?_ ?_
    | split
    | with_reducible refine State.keeps_mk ?_

theorem State.tapRow_frame {s : State} {x : Sys2Proof.Machine.FrameCtx} {p : Sys2Proof.Pos} {k : ℕ} {r : ℕ} {row :
    List Sys2Proof.Machine.CorrPx} {rep : List Sys2Proof.Machine.ReplPx} {z : List Sys2Proof.Machine.TailPx} :
    s.keeps [.taps] (State.tapRow s x p k r row rep z) := by
  unfold State.tapRow; (try dsimp only)
  repeat' first
    | with_reducible exact State.keeps_refl
    | with_reducible refine State.tapPut_frame.last (by decide) ?_
    | with_reducible refine State.keeps_foldl (fun _ _ => ?_) ?_
    | with_reducible refine State.keeps_ite ?_ ?_
    | split
    | with_reducible refine State.keeps_mk ?_

theorem State.rowOut_frame {s : State} {p : Sys2Proof.Pos} {x : Sys2Proof.Machine.FrameCtx} {k : ℕ} {r : ℕ} {row :
    List Sys2Proof.Machine.CorrPx} :
    s.keeps [.od, .pipe, .taps, .mem] (State.rowOut s p x k r row) := by
  unfold State.rowOut; (try dsimp only)
  repeat' first
    | with_reducible exact State.keeps_refl
    | with_reducible refine State.tailWrite_frame.last (by decide) ?_
    | with_reducible refine State.stampRow_frame.last (by decide) ?_
    | with_reducible refine State.tapRow_frame.last (by decide) ?_
    | with_reducible refine State.toMerge_frame.last (by decide) ?_
    | with_reducible refine State.setPipe_frame.last (by decide) ?_
    | with_reducible refine State.countRepl_frame.last (by decide) ?_
    | with_reducible refine State.keeps_foldl (fun _ _ => ?_) ?_
    | with_reducible refine State.keeps_ite ?_ ?_
    | split
    | with_reducible refine State.keeps_mk ?_

theorem State.replaceRow_frame {s : State} {p : Sys2Proof.Pos} {k : Sys2Proof.Pos} :
    s.keeps [.od, .pipe, .taps, .mem] (State.replaceRow s p k) := by
  unfold State.replaceRow; (try dsimp only)
  repeat' first
    | with_reducible exact State.keeps_refl
    | with_reducible refine State.rowOut_frame.last (by decide) ?_
    | with_reducible refine State.keeps_foldl (fun _ _ => ?_) ?_
    | with_reducible refine State.keeps_ite ?_ ?_
    | split
    | with_reducible refine State.keeps_mk ?_

theorem State.countMerge_frame {s : State} {p : Sys2Proof.Pos} {px : List (Sys2Proof.Machine.MergedPx ×
    Sys2Proof.Machine.OutPx × Bool)} :
    s.keeps [.od] (State.countMerge s p px) := by
  unfold State.countMerge; (try dsimp only)
  repeat' first
    | with_reducible exact State.keeps_refl
    | with_reducible refine State.incBy_keeps.last (by decide) ?_
    | with_reducible refine State.keeps_foldl (fun _ _ => ?_) ?_
    | with_reducible refine State.keeps_ite ?_ ?_
    | split
    | with_reducible refine State.keeps_mk ?_

theorem State.merge_frame {s : State} {p : Sys2Proof.Pos} :
    s.keeps [.od, .pipe, .taps] (State.merge s p) := by
  unfold State.merge; (try dsimp only)
  repeat' first
    | with_reducible exact State.keeps_refl
    | with_reducible refine State.countMerge_frame.last (by decide) ?_
    | with_reducible refine State.tapPut_frame.last (by decide) ?_
    | with_reducible refine State.setPipe_frame.last (by decide) ?_
    | with_reducible refine State.keeps_foldl (fun _ _ => ?_) ?_
    | with_reducible refine State.keeps_ite ?_ ?_
    | split
    | with_reducible refine State.keeps_mk ?_

theorem State.filterRow_frame {s : State} {p : Sys2Proof.Pos} :
    s.keeps [.pipe, .taps, .mem] (State.filterRow s p) := by
  unfold State.filterRow; (try dsimp only)
  repeat' first
    | with_reducible exact State.keeps_refl
    | with_reducible refine State.setPipe_frame.last (by decide) ?_
    | with_reducible refine State.tapPut_frame.last (by decide) ?_
    | with_reducible refine State.setDram_frame.last (by decide) ?_
    | with_reducible refine State.keeps_foldl (fun _ _ => ?_) ?_
    | with_reducible refine State.keeps_ite ?_ ?_
    | split
    | with_reducible refine State.keeps_mk ?_

theorem State.publishStats_frame {s : State} {p : Sys2Proof.Pos} {x : Sys2Proof.Machine.FrameCtx} :
    s.keeps [.od, .stat] (State.publishStats s p x) := by
  unfold State.publishStats; (try dsimp only)
  repeat' first
    | with_reducible exact State.keeps_refl
    | with_reducible refine State.setO_keeps.last (by decide) ?_
    | with_reducible refine State.keeps_foldl (fun _ _ => ?_) ?_
    | with_reducible refine State.keeps_ite ?_ ?_
    | split
    | with_reducible refine State.keeps_mk ?_

theorem State.takeTaps_frame {s : State} {p : Sys2Proof.Pos} {x : Sys2Proof.Machine.FrameCtx} :
    s.keeps [.taps] ((State.takeTaps s p x).1) := by
  unfold State.takeTaps; (try dsimp only)
  repeat' first
    | with_reducible exact State.keeps_refl
    | with_reducible refine State.keeps_foldl (fun _ _ => ?_) ?_
    | with_reducible refine State.keeps_ite ?_ ?_
    | split
    | with_reducible refine State.keeps_mk ?_

theorem State.carryTrack_frame {s : State} {p : Sys2Proof.Pos} {x : Sys2Proof.Machine.FrameCtx} :
    s.keeps [.od, .pipe] (State.carryTrack s p x) := by
  unfold State.carryTrack; (try dsimp only)
  repeat' first
    | with_reducible exact State.keeps_refl
    | with_reducible refine State.inc_keeps.last (by decide) ?_
    | with_reducible refine State.setPipe_frame.last (by decide) ?_
    | with_reducible refine State.setO_keeps.last (by decide) ?_
    | with_reducible refine State.keeps_foldl (fun _ _ => ?_) ?_
    | with_reducible refine State.keeps_ite ?_ ?_
    | split
    | with_reducible refine State.keeps_mk ?_

theorem State.opStart_frame {s : State} {k : ℕ} {total : ℕ} :
    s.keeps [.emitted, .od, .host] (State.opStart s k total) := by
  unfold State.opStart; (try dsimp only)
  repeat' first
    | with_reducible exact State.keeps_refl
    | with_reducible refine State.setOs_keeps.last (by decide) ?_
    | with_reducible refine State.raise_keeps.last (by decide) ?_
    | with_reducible refine State.keeps_foldl (fun _ _ => ?_) ?_
    | with_reducible refine State.keeps_ite ?_ ?_
    | split
    | with_reducible refine State.keeps_mk ?_

theorem State.opAt_frame {s : State} {k : ℕ} {pos : ℕ} :
    s.keeps [.od] (State.opAt s k pos) := by
  unfold State.opAt; (try dsimp only)
  repeat' first
    | with_reducible exact State.keeps_refl
    | with_reducible refine State.setOs_keeps.last (by decide) ?_
    | with_reducible refine State.keeps_foldl (fun _ _ => ?_) ?_
    | with_reducible refine State.keeps_ite ?_ ?_
    | split
    | with_reducible refine State.keeps_mk ?_

theorem State.opEnd_frame {s : State} {k : ℕ} {st : ℕ} {result : ℕ} :
    s.keeps [.emitted, .od, .host] (State.opEnd s k st result) := by
  unfold State.opEnd; (try dsimp only)
  repeat' first
    | with_reducible exact State.keeps_refl
    | with_reducible refine State.setOs_keeps.last (by decide) ?_
    | with_reducible refine State.raise_keeps.last (by decide) ?_
    | with_reducible refine State.opAt_frame.last (by decide) ?_
    | with_reducible refine State.keeps_foldl (fun _ _ => ?_) ?_
    | with_reducible refine State.keeps_ite ?_ ?_
    | split
    | with_reducible refine State.keeps_mk ?_

theorem State.setCoef_frame {s : State} {p : Sys2Proof.Pos} {c : Sys2Proof.Machine.CoefPos} :
    s.keeps [.coef] (State.setCoef s p c) := by
  unfold State.setCoef; (try dsimp only)
  repeat' first
    | with_reducible exact State.keeps_refl
    | with_reducible refine State.keeps_foldl (fun _ _ => ?_) ?_
    | with_reducible refine State.keeps_ite ?_ ?_
    | split
    | with_reducible refine State.keeps_mk ?_

theorem State.coefToOpen_frame {s : State} {p : Sys2Proof.Pos} :
    s.keeps [.od, .coef] (State.coefToOpen s p) := by
  unfold State.coefToOpen; (try dsimp only)
  repeat' first
    | with_reducible exact State.keeps_refl
    | with_reducible refine State.setCoef_frame.last (by decide) ?_
    | with_reducible refine State.setO_keeps.last (by decide) ?_
    | with_reducible refine State.keeps_foldl (fun _ _ => ?_) ?_
    | with_reducible refine State.keeps_ite ?_ ?_
    | split
    | with_reducible refine State.keeps_mk ?_

theorem State.coefInvalidate_frame {s : State} {p : Sys2Proof.Pos} :
    s.keeps [.od] (State.coefInvalidate s p) := by
  unfold State.coefInvalidate; (try dsimp only)
  repeat' first
    | with_reducible exact State.keeps_refl
    | with_reducible refine State.setO_keeps.last (by decide) ?_
    | with_reducible refine State.keeps_foldl (fun _ _ => ?_) ?_
    | with_reducible refine State.keeps_ite ?_ ?_
    | split
    | with_reducible refine State.keeps_mk ?_

theorem State.relabel_frame {s : State} {p : Sys2Proof.Pos} {w : ℕ} {h : ℕ} :
    s.keeps [.mem] (State.relabel s p w h) := by
  unfold State.relabel; (try dsimp only)
  repeat' first
    | with_reducible exact State.keeps_refl
    | with_reducible refine State.setDram_frame.last (by decide) ?_
    | with_reducible refine State.keeps_foldl (fun _ _ => ?_) ?_
    | with_reducible refine State.keeps_ite ?_ ?_
    | split
    | with_reducible refine State.keeps_mk ?_

theorem State.tauMedian_frame {s : State} {p : Sys2Proof.Pos} :
    s.keeps [.od] (State.tauMedian s p) := by
  unfold State.tauMedian; (try dsimp only)
  repeat' first
    | with_reducible exact State.keeps_refl
    | with_reducible refine State.setO_keeps.last (by decide) ?_
    | with_reducible refine State.keeps_foldl (fun _ _ => ?_) ?_
    | with_reducible refine State.keeps_ite ?_ ?_
    | split
    | with_reducible refine State.keeps_mk ?_

theorem State.writePlane_frame {s : State} {at_ : ℕ → ℕ → ℕ} {w : ℕ} {h : ℕ} {size : ℕ} {b : Option (List
    Sys2Proof.Byte)} :
    s.keeps [.mem] (State.writePlane s at_ w h size b) := by
  unfold State.writePlane; (try dsimp only)
  repeat' first
    | with_reducible exact State.keeps_refl
    | with_reducible refine State.setDram_frame.last (by decide) ?_
    | with_reducible refine State.keeps_foldl (fun _ _ => ?_) ?_
    | with_reducible refine State.keeps_ite ?_ ?_
    | split
    | with_reducible refine State.keeps_mk ?_

theorem State.writeRad_frame {s : State} {p : Sys2Proof.Pos} {b : List Sys2Proof.Byte} :
    s.keeps [.od, .doms] (State.writeRad s p b) := by
  unfold State.writeRad; (try dsimp only)
  repeat' first
    | with_reducible exact State.keeps_refl
    | with_reducible refine State.setDom_keeps.last (by decide) ?_
    | with_reducible refine State.setOs_keeps.last (by decide) ?_
    | with_reducible refine State.keeps_foldl (fun _ _ => ?_) ?_
    | with_reducible refine State.keeps_ite ?_ ?_
    | split
    | with_reducible refine State.keeps_mk ?_

theorem State.loadFailed_frame {s : State} {p : Sys2Proof.Pos} {st : ℕ} {result : ℕ} :
    s.keeps [.emitted, .od, .ops, .host] (State.loadFailed s p st result) := by
  unfold State.loadFailed; (try dsimp only)
  repeat' first
    | with_reducible exact State.keeps_refl
    | with_reducible refine State.inc_keeps.last (by decide) ?_
    | with_reducible refine State.opEnd_frame.last (by decide) ?_
    | with_reducible refine State.setO_keeps.last (by decide) ?_
    | with_reducible refine State.keeps_foldl (fun _ _ => ?_) ?_
    | with_reducible refine State.keeps_ite ?_ ?_
    | split
    | with_reducible refine State.keeps_mk ?_

theorem State.setPhase_frame {s : State} {p : Sys2Proof.Pos} {n : ℕ} :
    s.keeps [.od] (State.setPhase s p n) := by
  unfold State.setPhase; (try dsimp only)
  repeat' first
    | with_reducible exact State.keeps_refl
    | with_reducible refine State.setO_keeps.last (by decide) ?_
    | with_reducible refine State.keeps_foldl (fun _ _ => ?_) ?_
    | with_reducible refine State.keeps_ite ?_ ?_
    | split
    | with_reducible refine State.keeps_mk ?_

theorem State.becomeDue_frame {s : State} {p : Sys2Proof.Pos} :
    s.keeps [.od, .ecl] (State.becomeDue s p) := by
  unfold State.becomeDue; (try dsimp only)
  repeat' first
    | with_reducible exact State.keeps_refl
    | with_reducible refine State.setPhase_frame.last (by decide) ?_
    | with_reducible refine State.setEcl_frame.last (by decide) ?_
    | with_reducible refine State.keeps_foldl (fun _ _ => ?_) ?_
    | with_reducible refine State.keeps_ite ?_ ?_
    | split
    | with_reducible refine State.keeps_mk ?_

theorem State.keepCovered_frame {s : State} :
    s.keeps [.ecl] (State.keepCovered s) := by
  unfold State.keepCovered; (try dsimp only)
  repeat' first
    | with_reducible exact State.keeps_refl
    | with_reducible refine State.setEcl_frame.last (by decide) ?_
    | with_reducible refine State.keeps_foldl (fun _ _ => ?_) ?_
    | with_reducible refine State.keeps_ite ?_ ?_
    | split
    | with_reducible refine State.keeps_mk ?_

theorem State.addWindow_frame {s : State} {w : Sys2Proof.Machine.Window} :
    s.keeps [.od, .ecl, .windows] (State.addWindow s w) := by
  unfold State.addWindow; (try dsimp only)
  repeat' first
    | with_reducible exact State.keeps_refl
    | with_reducible refine State.inc_keeps.last (by decide) ?_
    | with_reducible refine State.keepCovered_frame.last (by decide) ?_
    | with_reducible refine State.keeps_foldl (fun _ _ => ?_) ?_
    | with_reducible refine State.keeps_ite ?_ ?_
    | split
    | with_reducible refine State.keeps_mk ?_

theorem State.eclIdle_frame {s : State} {p : Sys2Proof.Pos} :
    s.keeps [.od, .ecl] (State.eclIdle s p) := by
  unfold State.eclIdle; (try dsimp only)
  repeat' first
    | with_reducible exact State.keeps_refl
    | with_reducible refine State.setEcl_frame.last (by decide) ?_
    | with_reducible refine State.setPhase_frame.last (by decide) ?_
    | with_reducible refine State.keeps_foldl (fun _ _ => ?_) ?_
    | with_reducible refine State.keeps_ite ?_ ?_
    | split
    | with_reducible refine State.keeps_mk ?_

theorem State.grant_frame {s : State} {p : Sys2Proof.Pos} {window : Option ℕ} :
    s.keeps [.od, .ecl] (State.grant s p window) := by
  unfold State.grant; (try dsimp only)
  repeat' first
    | with_reducible exact State.keeps_refl
    | with_reducible refine State.setEcl_frame.last (by decide) ?_
    | with_reducible refine State.setPhase_frame.last (by decide) ?_
    | with_reducible refine State.keeps_foldl (fun _ _ => ?_) ?_
    | with_reducible refine State.keeps_ite ?_ ?_
    | split
    | with_reducible refine State.keeps_mk ?_

theorem State.skipParts_frame {s : State} :
    s.keeps [.ecl] (State.skipParts s) := by
  unfold State.skipParts; (try dsimp only)
  repeat' first
    | with_reducible exact State.keeps_refl
    | with_reducible refine State.setEcl_frame.last (by decide) ?_
    | with_reducible refine State.keeps_foldl (fun _ _ => ?_) ?_
    | with_reducible refine State.keeps_ite ?_ ?_
    | split
    | with_reducible refine State.keeps_mk ?_

theorem State.askPulse_frame {s : State} {p : Sys2Proof.Pos} {closing : Bool} {purpose : ℕ} :
    s.keeps [.shut] (State.askPulse s p closing purpose) := by
  unfold State.askPulse; (try dsimp only)
  repeat' first
    | with_reducible exact State.keeps_refl
    | with_reducible refine State.keeps_foldl (fun _ _ => ?_) ?_
    | with_reducible refine State.keeps_ite ?_ ?_
    | split
    | with_reducible refine State.keeps_mk ?_

theorem State.dropPulses_frame {s : State} {p : Sys2Proof.Pos} {f : Sys2Proof.Machine.Pulse → Bool} :
    s.keeps [.shut] (State.dropPulses s p f) := by
  unfold State.dropPulses; (try dsimp only)
  repeat' first
    | with_reducible exact State.keeps_refl
    | with_reducible refine State.keeps_foldl (fun _ _ => ?_) ?_
    | with_reducible refine State.keeps_ite ?_ ?_
    | split
    | with_reducible refine State.keeps_mk ?_

theorem State.drive_frame {s : State} {x : Sys2Proof.Machine.Pulse} :
    s.keeps [.shut] (State.drive s x) := by
  unfold State.drive; (try dsimp only)
  repeat' first
    | with_reducible exact State.keeps_refl
    | with_reducible refine State.keeps_foldl (fun _ _ => ?_) ?_
    | with_reducible refine State.keeps_ite ?_ ?_
    | split
    | with_reducible refine State.keeps_mk ?_

theorem State.brake_frame {s : State} {p : Sys2Proof.Pos} :
    s.keeps [.shut] (State.brake s p) := by
  unfold State.brake; (try dsimp only)
  repeat' first
    | with_reducible exact State.keeps_refl
    | with_reducible refine State.keeps_foldl (fun _ _ => ?_) ?_
    | with_reducible refine State.keeps_ite ?_ ?_
    | split
    | with_reducible refine State.keeps_mk ?_

theorem State.eclEarly_frame {s : State} {p : Sys2Proof.Pos} {result : ℕ} :
    s.keeps [.od, .ecl, .shut] (State.eclEarly s p result) := by
  unfold State.eclEarly; (try dsimp only)
  repeat' first
    | with_reducible exact State.keeps_refl
    | with_reducible refine State.askPulse_frame.last (by decide) ?_
    | with_reducible refine State.dropPulses_frame.last (by decide) ?_
    | with_reducible refine State.setPhase_frame.last (by decide) ?_
    | with_reducible refine State.setEcl_frame.last (by decide) ?_
    | with_reducible refine State.eclIdle_frame.last (by decide) ?_
    | with_reducible refine State.setO_keeps.last (by decide) ?_
    | with_reducible refine State.inc_keeps.last (by decide) ?_
    | with_reducible refine State.keeps_foldl (fun _ _ => ?_) ?_
    | with_reducible refine State.keeps_ite ?_ ?_
    | split
    | with_reducible refine State.keeps_mk ?_

theorem State.openingFailed_frame {s : State} {p : Sys2Proof.Pos} :
    s.keeps [.od, .coef, .ecl] (State.openingFailed s p) := by
  unfold State.openingFailed; (try dsimp only)
  repeat' first
    | with_reducible exact State.keeps_refl
    | with_reducible refine State.setEcl_frame.last (by decide) ?_
    | with_reducible refine State.eclIdle_frame.last (by decide) ?_
    | with_reducible refine State.setCoef_frame.last (by decide) ?_
    | with_reducible refine State.setO_keeps.last (by decide) ?_
    | with_reducible refine State.keeps_foldl (fun _ _ => ?_) ?_
    | with_reducible refine State.keeps_ite ?_ ?_
    | split
    | with_reducible refine State.keeps_mk ?_

theorem State.pulseFailed_frame {s : State} {x : Sys2Proof.Machine.Pulse} :
    s.keeps [.od, .coef, .ecl, .shut] (State.pulseFailed s x) := by
  unfold State.pulseFailed; (try dsimp only)
  repeat' first
    | with_reducible exact State.keeps_refl
    | with_reducible refine State.setEcl_frame.last (by decide) ?_
    | with_reducible refine State.openingFailed_frame.last (by decide) ?_
    | with_reducible refine State.eclEarly_frame.last (by decide) ?_
    | with_reducible refine State.keeps_foldl (fun _ _ => ?_) ?_
    | with_reducible refine State.keeps_ite ?_ ?_
    | split
    | with_reducible refine State.keeps_mk ?_

theorem State.shutterFault_frame {s : State} {p : Sys2Proof.Pos} :
    s.keeps [.emitted, .od, .chain, .nv, .ecl, .host, .free] (State.shutterFault s p) := by
  unfold State.shutterFault; (try dsimp only)
  repeat' first
    | with_reducible exact State.keeps_refl
    | with_reducible refine State.setEcl_frame.last (by decide) ?_
    | with_reducible refine State.notify_keeps.last (by decide) ?_
    | with_reducible refine State.keeps_foldl (fun _ _ => ?_) ?_
    | with_reducible refine State.keeps_ite ?_ ?_
    | split
    | with_reducible refine State.keeps_mk ?_

theorem State.pulseFault_frame {s : State} {x : Sys2Proof.Machine.Pulse} :
    s.keeps [.emitted, .od, .chain, .nv, .coef, .ecl, .shut, .host, .free] (State.pulseFault s x) := by
  unfold State.pulseFault; (try dsimp only)
  repeat' first
    | with_reducible exact State.keeps_refl
    | with_reducible refine State.brake_frame.last (by decide) ?_
    | with_reducible refine State.shutterFault_frame.last (by decide) ?_
    | with_reducible refine State.pulseFailed_frame.last (by decide) ?_
    | with_reducible refine State.keeps_foldl (fun _ _ => ?_) ?_
    | with_reducible refine State.keeps_ite ?_ ?_
    | split
    | with_reducible refine State.keeps_mk ?_

theorem State.pulseDone_frame {s : State} {x : Sys2Proof.Machine.Pulse} :
    s.keeps [.od, .ecl, .shut] (State.pulseDone s x) := by
  unfold State.pulseDone; (try dsimp only)
  repeat' first
    | with_reducible exact State.keeps_refl
    | with_reducible refine State.setEcl_frame.last (by decide) ?_
    | with_reducible refine State.setPhase_frame.last (by decide) ?_
    | with_reducible refine State.brake_frame.last (by decide) ?_
    | with_reducible refine State.keeps_foldl (fun _ _ => ?_) ?_
    | with_reducible refine State.keeps_ite ?_ ?_
    | split
    | with_reducible refine State.keeps_mk ?_

theorem State.pulseBegin_frame {s : State} {x : Sys2Proof.Machine.Pulse} :
    s.keeps [.od, .nv, .ecl, .shut, .free] (State.pulseBegin s x) := by
  unfold State.pulseBegin; (try dsimp only)
  repeat' first
    | with_reducible exact State.keeps_refl
    | with_reducible refine State.setEcl_frame.last (by decide) ?_
    | with_reducible refine State.bumpCounter_keeps.last (by decide) ?_
    | with_reducible refine State.drive_frame.last (by decide) ?_
    | with_reducible refine State.keeps_foldl (fun _ _ => ?_) ?_
    | with_reducible refine State.keeps_ite ?_ ?_
    | split
    | with_reducible refine State.keeps_mk ?_

theorem State.cycleFailed_frame {s : State} {x : Sys2Proof.Machine.Pulse} :
    s.keeps [.od, .ecl, .shut] (State.cycleFailed s x) := by
  unfold State.cycleFailed; (try dsimp only)
  repeat' first
    | with_reducible exact State.keeps_refl
    | with_reducible refine State.eclEarly_frame.last (by decide) ?_
    | with_reducible refine State.keeps_foldl (fun _ _ => ?_) ?_
    | with_reducible refine State.keeps_ite ?_ ?_
    | split
    | with_reducible refine State.keeps_mk ?_

theorem State.pageIs_frame {s : State} {a : ℕ} {n : ℕ} {good : Bool} :
    s.keeps [.nv] (State.pageIs s a n good) := by
  unfold State.pageIs; (try dsimp only)
  repeat' first
    | with_reducible exact State.keeps_refl
    | with_reducible refine State.keeps_foldl (fun _ _ => ?_) ?_
    | with_reducible refine State.keeps_ite ?_ ?_
    | split
    | with_reducible refine State.keeps_mk ?_

theorem State.arbiter_frame {s : State} {written : Bool} :
    s.keeps [.od, .nv, .coef, .ecl, .shut, .free] (State.arbiter s written) := by
  unfold State.arbiter; (try dsimp only)
  repeat' first
    | with_reducible exact State.keeps_refl
    | with_reducible refine State.pulseBegin_frame.last (by decide) ?_
    | with_reducible refine State.nvFailed_keeps.last (by decide) ?_
    | with_reducible refine State.cycleFailed_frame.last (by decide) ?_
    | with_reducible refine State.pulseFailed_frame.last (by decide) ?_
    | with_reducible refine State.pageIs_frame.last (by decide) ?_
    | with_reducible refine State.keeps_foldl (fun _ _ => ?_) ?_
    | with_reducible refine State.keeps_ite ?_ ?_
    | split
    | with_reducible refine State.keeps_mk ?_

theorem State.pulseCut_frame {s : State} :
    s.keeps [.shut] (State.pulseCut s) := by
  unfold State.pulseCut; (try dsimp only)
  repeat' first
    | with_reducible exact State.keeps_refl
    | with_reducible refine State.brake_frame.last (by decide) ?_
    | with_reducible refine State.keeps_foldl (fun _ _ => ?_) ?_
    | with_reducible refine State.keeps_ite ?_ ?_
    | split
    | with_reducible refine State.keeps_mk ?_

theorem State.clearWork_frame {s : State} :
    s.keeps [.mem] (State.clearWork s) := by
  unfold State.clearWork; (try dsimp only)
  repeat' first
    | with_reducible exact State.keeps_refl
    | with_reducible refine State.keeps_foldl (fun _ _ => ?_) ?_
    | with_reducible refine State.keeps_ite ?_ ?_
    | split
    | with_reducible refine State.keeps_mk ?_

theorem State.eclBegin_frame {s : State} {p : Sys2Proof.Pos} {x : Sys2Proof.Machine.FrameCtx} :
    s.keeps [.od, .ecl, .shut, .trig, .mem] (State.eclBegin s p x) := by
  unfold State.eclBegin; (try dsimp only)
  repeat' first
    | with_reducible exact State.keeps_refl
    | with_reducible refine State.clearWork_frame.last (by decide) ?_
    | with_reducible refine State.setEcl_frame.last (by decide) ?_
    | with_reducible refine State.setPhase_frame.last (by decide) ?_
    | with_reducible refine State.askPulse_frame.last (by decide) ?_
    | with_reducible refine State.incBy_keeps.last (by decide) ?_
    | with_reducible refine State.discardStarts_frame.last (by decide) ?_
    | with_reducible refine State.keeps_foldl (fun _ _ => ?_) ?_
    | with_reducible refine State.keeps_ite ?_ ?_
    | split
    | with_reducible refine State.keeps_mk ?_

theorem State.heldDecide_frame {s : State} {p : Sys2Proof.Pos} :
    s.keeps [.od, .ecl, .trig] (State.heldDecide s p) := by
  unfold State.heldDecide; (try dsimp only)
  repeat' first
    | with_reducible exact State.keeps_refl
    | with_reducible refine State.setTrig_frame.last (by decide) ?_
    | with_reducible refine State.inc_keeps.last (by decide) ?_
    | with_reducible refine State.setEcl_frame.last (by decide) ?_
    | with_reducible refine State.keeps_foldl (fun _ _ => ?_) ?_
    | with_reducible refine State.keeps_ite ?_ ?_
    | split
    | with_reducible refine State.keeps_mk ?_

theorem State.eclMark_frame {s : State} {p : Sys2Proof.Pos} {start : ℕ} :
    s.keeps [.od, .ecl, .shut] ((State.eclMark s p start).1) := by
  unfold State.eclMark; (try dsimp only)
  repeat' first
    | with_reducible exact State.keeps_refl
    | with_reducible refine State.askPulse_frame.last (by decide) ?_
    | with_reducible refine State.setPhase_frame.last (by decide) ?_
    | with_reducible refine State.setEcl_frame.last (by decide) ?_
    | with_reducible refine State.keeps_foldl (fun _ _ => ?_) ?_
    | with_reducible refine State.keeps_ite ?_ ?_
    | split
    | with_reducible refine State.keeps_mk ?_

theorem State.eclClosed_frame {s : State} {p : Sys2Proof.Pos} {f : Sys2Proof.Machine.OpenFrame} :
    s.keeps [.od, .ecl, .shut] (State.eclClosed s p f) := by
  unfold State.eclClosed; (try dsimp only)
  repeat' first
    | with_reducible exact State.keeps_refl
    | with_reducible refine State.setPhase_frame.last (by decide) ?_
    | with_reducible refine State.eclEarly_frame.last (by decide) ?_
    | with_reducible refine State.setEcl_frame.last (by decide) ?_
    | with_reducible refine State.inc_keeps.last (by decide) ?_
    | with_reducible refine State.keeps_foldl (fun _ _ => ?_) ?_
    | with_reducible refine State.keeps_ite ?_ ?_
    | split
    | with_reducible refine State.keeps_mk ?_

theorem State.openingEnds_frame {s : State} {p : Sys2Proof.Pos} :
    s.keeps [.od, .ecl] (State.openingEnds s p) := by
  unfold State.openingEnds; (try dsimp only)
  repeat' first
    | with_reducible exact State.keeps_refl
    | with_reducible refine State.setEcl_frame.last (by decide) ?_
    | with_reducible refine State.setPhase_frame.last (by decide) ?_
    | with_reducible refine State.keeps_foldl (fun _ _ => ?_) ?_
    | with_reducible refine State.keeps_ite ?_ ?_
    | split
    | with_reducible refine State.keeps_mk ?_

theorem State.eclRecord_frame {s : State} {p : Sys2Proof.Pos} {at_ : ℕ} :
    s.keeps [.od, .nv, .free] (State.eclRecord s p at_) := by
  unfold State.eclRecord; (try dsimp only)
  repeat' first
    | with_reducible exact State.keeps_refl
    | with_reducible refine State.setKeep_keeps.last (by decide) ?_
    | with_reducible refine State.keeps_foldl (fun _ _ => ?_) ?_
    | with_reducible refine State.keeps_ite ?_ ?_
    | split
    | with_reducible refine State.keeps_mk ?_

theorem State.learnK_frame {s : State} {p : Sys2Proof.Pos} :
    s.keeps [.od] (State.learnK s p) := by
  unfold State.learnK; (try dsimp only)
  repeat' first
    | with_reducible exact State.keeps_refl
    | with_reducible refine State.setO_keeps.last (by decide) ?_
    | with_reducible refine State.keeps_foldl (fun _ _ => ?_) ?_
    | with_reducible refine State.keeps_ite ?_ ?_
    | split
    | with_reducible refine State.keeps_mk ?_

theorem State.eclEffective_frame {s : State} {p : Sys2Proof.Pos} {x : Sys2Proof.Machine.FrameCtx} :
    s.keeps [.od, .nv, .coef, .vdet, .ecl, .free] (State.eclEffective s p x) := by
  unfold State.eclEffective; (try dsimp only)
  repeat' first
    | with_reducible exact State.keeps_refl
    | with_reducible refine State.setEcl_frame.last (by decide) ?_
    | with_reducible refine State.eclIdle_frame.last (by decide) ?_
    | with_reducible refine State.eclRecord_frame.last (by decide) ?_
    | with_reducible refine State.setOs_keeps.last (by decide) ?_
    | with_reducible refine State.learnK_frame.last (by decide) ?_
    | with_reducible refine State.bumpCounter_keeps.last (by decide) ?_
    | with_reducible refine State.setCoef_frame.last (by decide) ?_
    | with_reducible refine State.keeps_foldl (fun _ _ => ?_) ?_
    | with_reducible refine State.keeps_ite ?_ ?_
    | split
    | with_reducible refine State.keeps_mk ?_

theorem State.eclFu_frame {s : State} {p : Sys2Proof.Pos} {x : Sys2Proof.Machine.FrameCtx} :
    s.keeps [.od, .nv, .coef, .vdet, .ecl, .free] (State.eclFu s p x) := by
  unfold State.eclFu; (try dsimp only)
  repeat' first
    | with_reducible exact State.keeps_refl
    | with_reducible refine State.setEcl_frame.last (by decide) ?_
    | with_reducible refine State.eclIdle_frame.last (by decide) ?_
    | with_reducible refine State.eclEffective_frame.last (by decide) ?_
    | with_reducible refine State.keeps_foldl (fun _ _ => ?_) ?_
    | with_reducible refine State.keeps_ite ?_ ?_
    | split
    | with_reducible refine State.keeps_mk ?_

theorem State.eclHandOver_frame {s : State} {p : Sys2Proof.Pos} {x : Sys2Proof.Machine.FrameCtx} {throttle : Bool} :
    s.keeps [.od, .nv, .coef, .vdet, .ecl, .shut, .trig, .mem, .free] ((State.eclHandOver s p x throttle).1) := by
  unfold State.eclHandOver; (try dsimp only)
  repeat' first
    | with_reducible exact State.keeps_refl
    | with_reducible refine State.eclFu_frame.last (by decide) ?_
    | with_reducible refine State.setEcl_frame.last (by decide) ?_
    | with_reducible refine State.eclEarly_frame.last (by decide) ?_
    | with_reducible refine State.eclBegin_frame.last (by decide) ?_
    | with_reducible refine State.keeps_foldl (fun _ _ => ?_) ?_
    | with_reducible refine State.keeps_ite ?_ ?_
    | split
    | with_reducible refine State.keeps_mk ?_

theorem State.eclModeEnd_frame {s : State} {p : Sys2Proof.Pos} {safe : Bool} :
    s.keeps [.od, .coef, .ecl, .shut] (State.eclModeEnd s p safe) := by
  unfold State.eclModeEnd; (try dsimp only)
  repeat' first
    | with_reducible exact State.keeps_refl
    | with_reducible refine State.inc_keeps.last (by decide) ?_
    | with_reducible refine State.eclIdle_frame.last (by decide) ?_
    | with_reducible refine State.setPhase_frame.last (by decide) ?_
    | with_reducible refine State.setCoef_frame.last (by decide) ?_
    | with_reducible refine State.setO_keeps.last (by decide) ?_
    | with_reducible refine State.dropPulses_frame.last (by decide) ?_
    | with_reducible refine State.setEcl_frame.last (by decide) ?_
    | with_reducible refine State.keeps_foldl (fun _ _ => ?_) ?_
    | with_reducible refine State.keeps_ite ?_ ?_
    | split
    | with_reducible refine State.keeps_mk ?_

theorem State.openAtEntry_frame {s : State} {p : Sys2Proof.Pos} :
    s.keeps [.shut] (State.openAtEntry s p) := by
  unfold State.openAtEntry; (try dsimp only)
  repeat' first
    | with_reducible exact State.keeps_refl
    | with_reducible refine State.askPulse_frame.last (by decide) ?_
    | with_reducible refine State.keeps_foldl (fun _ _ => ?_) ?_
    | with_reducible refine State.keeps_ite ?_ ?_
    | split
    | with_reducible refine State.keeps_mk ?_

theorem State.eclTau_frame {s : State} {p : Sys2Proof.Pos} {u : Sys2Proof.Machine.EclUpd} {x :
    Sys2Proof.Machine.EclPx} {fit : Sys2Proof.Machine.TauFit} :
    s.keeps [.mem] ((State.eclTau s p u x fit).1) := by
  unfold State.eclTau; (try dsimp only)
  repeat' first
    | with_reducible exact State.keeps_refl
    | with_reducible refine State.setDram_frame.last (by decide) ?_
    | with_reducible refine State.keeps_foldl (fun _ _ => ?_) ?_
    | with_reducible refine State.keeps_ite ?_ ?_
    | split
    | with_reducible refine State.keeps_mk ?_

theorem State.writeSlots_frame {s : State} {p : Sys2Proof.Pos} {x : Sys2Proof.Machine.EclPx} {l : List (ℕ × ℤ)} :
    s.keeps [.mem] (State.writeSlots s p x l) := by
  unfold State.writeSlots; (try dsimp only)
  repeat' first
    | with_reducible exact State.keeps_refl
    | with_reducible refine State.setDram_frame.last (by decide) ?_
    | with_reducible refine State.keeps_foldl (fun _ _ => ?_) ?_
    | with_reducible refine State.keeps_ite ?_ ?_
    | split
    | with_reducible refine State.keeps_mk ?_

theorem State.eclPixel_frame {s : State} {p : Sys2Proof.Pos} {u : Sys2Proof.Machine.EclUpd} {n :
    Sys2Proof.Machine.EclCnt} {x : Sys2Proof.Machine.EclPx} :
    s.keeps [.mem] ((State.eclPixel s p u n x).1) := by
  unfold State.eclPixel; (try dsimp only)
  repeat' first
    | with_reducible exact State.keeps_refl
    | with_reducible refine State.writeSlots_frame.last (by decide) ?_
    | with_reducible refine State.eclTau_frame.last (by decide) ?_
    | with_reducible refine State.setDram_frame.last (by decide) ?_
    | with_reducible refine State.keeps_foldl (fun _ _ => ?_) ?_
    | with_reducible refine State.keeps_ite ?_ ?_
    | split
    | with_reducible refine State.keeps_mk ?_

theorem State.eclHerPixel_frame {s : State} {p : Sys2Proof.Pos} {x : Sys2Proof.Machine.EclPx} :
    s.keeps [.mem] (State.eclHerPixel s p x) := by
  unfold State.eclHerPixel; (try dsimp only)
  repeat' first
    | with_reducible exact State.keeps_refl
    | with_reducible refine State.setDram_frame.last (by decide) ?_
    | with_reducible refine State.keeps_foldl (fun _ _ => ?_) ?_
    | with_reducible refine State.keeps_ite ?_ ?_
    | split
    | with_reducible refine State.keeps_mk ?_

theorem State.eclResults_frame {s : State} {p : Sys2Proof.Pos} {u : Sys2Proof.Machine.EclUpd} {px : List
    Sys2Proof.Machine.EclPx} {good : List Sys2Proof.Machine.EclPx} {n : Sys2Proof.Machine.EclCnt} :
    s.keeps [.od, .ecl] (State.eclResults s p u px good n) := by
  unfold State.eclResults; (try dsimp only)
  repeat' first
    | with_reducible exact State.keeps_refl
    | with_reducible refine State.setEcl_frame.last (by decide) ?_
    | with_reducible refine State.setO_keeps.last (by decide) ?_
    | with_reducible refine State.incBy_keeps.last (by decide) ?_
    | with_reducible refine State.setOs_keeps.last (by decide) ?_
    | with_reducible refine State.keeps_foldl (fun _ _ => ?_) ?_
    | with_reducible refine State.keeps_ite ?_ ?_
    | split
    | with_reducible refine State.keeps_mk ?_

theorem State.tapMeans_frame {s : State} {p : Sys2Proof.Pos} {x : Sys2Proof.Machine.FrameCtx} {px : List
    Sys2Proof.Machine.EclPx} :
    s.keeps [.pipe] (State.tapMeans s p x px) := by
  unfold State.tapMeans; (try dsimp only)
  repeat' first
    | with_reducible exact State.keeps_refl
    | with_reducible refine State.setPipe_frame.last (by decide) ?_
    | with_reducible refine State.keeps_foldl (fun _ _ => ?_) ?_
    | with_reducible refine State.keeps_ite ?_ ?_
    | split
    | with_reducible refine State.keeps_mk ?_

theorem State.eclNoReference_frame {s : State} {p : Sys2Proof.Pos} :
    s.keeps [.od, .ecl] (State.eclNoReference s p) := by
  unfold State.eclNoReference; (try dsimp only)
  repeat' first
    | with_reducible exact State.keeps_refl
    | with_reducible refine State.setO_keeps.last (by decide) ?_
    | with_reducible refine State.inc_keeps.last (by decide) ?_
    | with_reducible refine State.setEcl_frame.last (by decide) ?_
    | with_reducible refine State.keeps_foldl (fun _ _ => ?_) ?_
    | with_reducible refine State.keeps_ite ?_ ?_
    | split
    | with_reducible refine State.keeps_mk ?_

theorem State.eclUpdated_frame {s : State} {p : Sys2Proof.Pos} {t : ℤ} :
    s.keeps [.od, .coef, .ecl] (State.eclUpdated s p t) := by
  unfold State.eclUpdated; (try dsimp only)
  repeat' first
    | with_reducible exact State.keeps_refl
    | with_reducible refine State.setEcl_frame.last (by decide) ?_
    | with_reducible refine State.setO_keeps.last (by decide) ?_
    | with_reducible refine State.keeps_foldl (fun _ _ => ?_) ?_
    | with_reducible refine State.keeps_ite ?_ ?_
    | split
    | with_reducible refine State.keeps_mk ?_

theorem State.emptyTauHistory_frame {s : State} {p : Sys2Proof.Pos} :
    s.keeps [.od, .mem] (State.emptyTauHistory s p) := by
  unfold State.emptyTauHistory; (try dsimp only)
  repeat' first
    | with_reducible exact State.keeps_refl
    | with_reducible refine State.setO_keeps.last (by decide) ?_
    | with_reducible refine State.keeps_foldl (fun _ _ => ?_) ?_
    | with_reducible refine State.keeps_ite ?_ ?_
    | split
    | with_reducible refine State.keeps_mk ?_

theorem State.setFlash_frame {s : State} {dev : ℕ} {a : ℕ} {bs : List Sys2Proof.Byte} :
    s.keeps [.nv] (State.setFlash s dev a bs) := by
  unfold State.setFlash; (try dsimp only)
  repeat' first
    | with_reducible exact State.keeps_refl
    | with_reducible refine State.keeps_foldl (fun _ _ => ?_) ?_
    | with_reducible refine State.keeps_ite ?_ ?_
    | split
    | with_reducible refine State.keeps_mk ?_

theorem State.programFlash_frame {s : State} {dev : ℕ} {a : ℕ} {bs : List Sys2Proof.Byte} :
    s.keeps [.nv] (State.programFlash s dev a bs) := by
  unfold State.programFlash; (try dsimp only)
  repeat' first
    | with_reducible exact State.keeps_refl
    | with_reducible refine State.setFlash_frame.last (by decide) ?_
    | with_reducible refine State.keeps_foldl (fun _ _ => ?_) ?_
    | with_reducible refine State.keeps_ite ?_ ?_
    | split
    | with_reducible refine State.keeps_mk ?_

theorem State.eraseSector_frame {s : State} {dev : ℕ} {a : ℕ} :
    s.keeps [.nv] (State.eraseSector s dev a) := by
  unfold State.eraseSector; (try dsimp only)
  repeat' first
    | with_reducible exact State.keeps_refl
    | with_reducible refine State.keeps_foldl (fun _ _ => ?_) ?_
    | with_reducible refine State.keeps_ite ?_ ?_
    | split
    | with_reducible refine State.keeps_mk ?_

theorem State.showStore_frame {s : State} :
    s.keeps [.od] (State.showStore s) := by
  unfold State.showStore; (try dsimp only)
  repeat' first
    | with_reducible exact State.keeps_refl
    | with_reducible refine State.setOs_keeps.last (by decide) ?_
    | with_reducible refine State.keeps_foldl (fun _ _ => ?_) ?_
    | with_reducible refine State.keeps_ite ?_ ?_
    | split
    | with_reducible refine State.keeps_mk ?_

theorem State.setJournal_frame {s : State} {j : Sys2Proof.Machine.Journal} {rs : List Sys2Proof.Machine.Repair} :
    s.keeps [.od, .nv, .free] (State.setJournal s j rs) := by
  unfold State.setJournal; (try dsimp only)
  repeat' first
    | with_reducible exact State.keeps_refl
    | with_reducible refine State.showStore_frame.last (by decide) ?_
    | with_reducible refine State.setKeep_keeps.last (by decide) ?_
    | with_reducible refine State.keeps_foldl (fun _ _ => ?_) ?_
    | with_reducible refine State.keeps_ite ?_ ?_
    | split
    | with_reducible refine State.keeps_mk ?_

theorem State.updJournal_frame {s : State} {f : Sys2Proof.Machine.Journal → Sys2Proof.Machine.Journal} :
    s.keeps [.od, .nv, .free] (State.updJournal s f) := by
  unfold State.updJournal; (try dsimp only)
  repeat' first
    | with_reducible exact State.keeps_refl
    | with_reducible refine State.setJournal_frame.last (by decide) ?_
    | with_reducible refine State.keeps_foldl (fun _ _ => ?_) ?_
    | with_reducible refine State.keeps_ite ?_ ?_
    | split
    | with_reducible refine State.keeps_mk ?_

theorem State.selectUsed_frame {s : State} {dev : ℕ} :
    s.keeps [.serial] (State.selectUsed s dev) := by
  unfold State.selectUsed; (try dsimp only)
  repeat' first
    | with_reducible exact State.keeps_refl
    | with_reducible refine State.keeps_foldl (fun _ _ => ?_) ?_
    | with_reducible refine State.keeps_ite ?_ ?_
    | split
    | with_reducible refine State.keeps_mk ?_

theorem State.selectTaken_frame {s : State} {dev : ℕ} :
    s.keeps [.serial] (State.selectTaken s dev) := by
  unfold State.selectTaken; (try dsimp only)
  repeat' first
    | with_reducible exact State.keeps_refl
    | with_reducible refine State.selectUsed_frame.last (by decide) ?_
    | with_reducible refine State.keeps_foldl (fun _ _ => ?_) ?_
    | with_reducible refine State.keeps_ite ?_ ?_
    | split
    | with_reducible refine State.keeps_mk ?_

theorem State.flashStart_frame {s : State} {dev : ℕ} {a : ℕ} {len : ℕ} :
    s.keeps [.od, .nv, .serial, .pwr] (State.flashStart s dev a len) := by
  unfold State.flashStart; (try dsimp only)
  repeat' first
    | with_reducible exact State.keeps_refl
    | with_reducible refine State.demand_frame.last (by decide) ?_
    | with_reducible refine State.selectTaken_frame.last (by decide) ?_
    | with_reducible refine State.keeps_foldl (fun _ _ => ?_) ?_
    | with_reducible refine State.keeps_ite ?_ ?_
    | split
    | with_reducible refine State.keeps_mk ?_

theorem State.flashRelax_frame {s : State} :
    s.keeps [.od, .hk, .pwr] (State.flashRelax s) := by
  unfold State.flashRelax; (try dsimp only)
  repeat' first
    | with_reducible exact State.keeps_refl
    | with_reducible refine State.demand_frame.last (by decide) ?_
    | with_reducible refine State.wantOff_frame.last (by decide) ?_
    | with_reducible refine State.keeps_foldl (fun _ _ => ?_) ?_
    | with_reducible refine State.keeps_ite ?_ ?_
    | split
    | with_reducible refine State.keeps_mk ?_

theorem State.askBus_frame {s : State} :
    s.keeps [.serial] (State.askBus s) := by
  unfold State.askBus; (try dsimp only)
  repeat' first
    | with_reducible exact State.keeps_refl
    | with_reducible refine State.keeps_foldl (fun _ _ => ?_) ?_
    | with_reducible refine State.keeps_ite ?_ ?_
    | split
    | with_reducible refine State.keeps_mk ?_

theorem State.giveBus_frame {s : State} :
    s.keeps [.serial] (State.giveBus s) := by
  unfold State.giveBus; (try dsimp only)
  repeat' first
    | with_reducible exact State.keeps_refl
    | with_reducible refine State.keeps_foldl (fun _ _ => ?_) ?_
    | with_reducible refine State.keeps_ite ?_ ?_
    | split
    | with_reducible refine State.keeps_mk ?_

theorem State.jobProgram_frame {s : State} :
    s.keeps [.od, .nv, .serial, .pwr] (State.jobProgram s) := by
  unfold State.jobProgram; (try dsimp only)
  repeat' first
    | with_reducible exact State.keeps_refl
    | with_reducible refine State.flashStart_frame.last (by decide) ?_
    | with_reducible refine State.askBus_frame.last (by decide) ?_
    | with_reducible refine State.keeps_foldl (fun _ _ => ?_) ?_
    | with_reducible refine State.keeps_ite ?_ ?_
    | split
    | with_reducible refine State.keeps_mk ?_

theorem State.jobFailed_frame {s : State} {x : Sys2Proof.Machine.RecJob} {code : ℕ} :
    s.keeps [.emitted, .od, .ops, .nv, .host] (State.jobFailed s x code) := by
  unfold State.jobFailed; (try dsimp only)
  repeat' first
    | with_reducible exact State.keeps_refl
    | with_reducible refine State.emit_keeps.last (by decide) ?_
    | with_reducible refine State.opEnd_frame.last (by decide) ?_
    | with_reducible refine State.keeps_foldl (fun _ _ => ?_) ?_
    | with_reducible refine State.keeps_ite ?_ ?_
    | split
    | with_reducible refine State.keeps_mk ?_

theorem State.jobTake_frame {s : State} {x : Sys2Proof.Machine.RecJob} {rest : List Sys2Proof.Machine.RecJob} {j :
    Sys2Proof.Machine.Journal} :
    s.keeps [.emitted, .od, .ops, .nv, .host, .serial, .pwr, .sec] (State.jobTake s x rest j) := by
  unfold State.jobTake; (try dsimp only)
  repeat' first
    | with_reducible exact State.keeps_refl
    | with_reducible refine State.jobProgram_frame.last (by decide) ?_
    | with_reducible refine State.jobFailed_frame.last (by decide) ?_
    | with_reducible refine State.keeps_foldl (fun _ _ => ?_) ?_
    | with_reducible refine State.keeps_ite ?_ ?_
    | split
    | with_reducible refine State.keeps_mk ?_

theorem State.nvKick_frame {s : State} :
    s.keeps [.emitted, .od, .ops, .nv, .host, .serial, .pwr, .sec] (State.nvKick s) := by
  unfold State.nvKick; (try dsimp only)
  repeat' first
    | with_reducible exact State.keeps_refl
    | with_reducible refine State.jobTake_frame.last (by decide) ?_
    | with_reducible refine State.jobProgram_frame.last (by decide) ?_
    | with_reducible refine State.keeps_foldl (fun _ _ => ?_) ?_
    | with_reducible refine State.keeps_ite ?_ ?_
    | split
    | with_reducible refine State.keeps_mk ?_

theorem State.nvWrite_frame {s : State} {x : Sys2Proof.Machine.RecJob} :
    s.keeps [.emitted, .od, .ops, .nv, .host, .serial, .pwr, .sec] (State.nvWrite s x) := by
  unfold State.nvWrite; (try dsimp only)
  repeat' first
    | with_reducible exact State.keeps_refl
    | with_reducible refine State.nvKick_frame.last (by decide) ?_
    | with_reducible refine State.keeps_foldl (fun _ _ => ?_) ?_
    | with_reducible refine State.keeps_ite ?_ ?_
    | split
    | with_reducible refine State.keeps_mk ?_

theorem State.jobAdvance_frame {s : State} {x : Sys2Proof.Machine.RecJob} :
    s.keeps [.nv] (State.jobAdvance s x) := by
  unfold State.jobAdvance; (try dsimp only)
  repeat' first
    | with_reducible exact State.keeps_refl
    | with_reducible refine State.keeps_foldl (fun _ _ => ?_) ?_
    | with_reducible refine State.keeps_ite ?_ ?_
    | split
    | with_reducible refine State.keeps_mk ?_

theorem State.seqUsed_frame {s : State} {x : Sys2Proof.Machine.RecJob} :
    s.keeps [.od] (State.seqUsed s x) := by
  unfold State.seqUsed; (try dsimp only)
  repeat' first
    | with_reducible exact State.keeps_refl
    | with_reducible refine State.setO_keeps.last (by decide) ?_
    | with_reducible refine State.keeps_foldl (fun _ _ => ?_) ?_
    | with_reducible refine State.keeps_ite ?_ ?_
    | split
    | with_reducible refine State.keeps_mk ?_

theorem State.jobAbandon_frame {s : State} {x : Sys2Proof.Machine.RecJob} :
    s.keeps [.emitted, .od, .ops, .nv, .host, .free] (State.jobAbandon s x) := by
  unfold State.jobAbandon; (try dsimp only)
  repeat' first
    | with_reducible exact State.keeps_refl
    | with_reducible refine State.updJournal_frame.last (by decide) ?_
    | with_reducible refine State.seqUsed_frame.last (by decide) ?_
    | with_reducible refine State.nvFailed_keeps.last (by decide) ?_
    | with_reducible refine State.jobFailed_frame.last (by decide) ?_
    | with_reducible refine State.keeps_foldl (fun _ _ => ?_) ?_
    | with_reducible refine State.keeps_ite ?_ ?_
    | split
    | with_reducible refine State.keeps_mk ?_

theorem State.eraseStart_frame {s : State} {sector : ℕ} :
    s.keeps [.od, .nv, .serial, .pwr, .free] (State.eraseStart s sector) := by
  unfold State.eraseStart; (try dsimp only)
  repeat' first
    | with_reducible exact State.keeps_refl
    | with_reducible refine State.askBus_frame.last (by decide) ?_
    | with_reducible refine State.flashStart_frame.last (by decide) ?_
    | with_reducible refine State.updJournal_frame.last (by decide) ?_
    | with_reducible refine State.keeps_foldl (fun _ _ => ?_) ?_
    | with_reducible refine State.keeps_ite ?_ ?_
    | split
    | with_reducible refine State.keeps_mk ?_

theorem State.eraseFailed_frame {s : State} {sector : ℕ} :
    s.keeps [.od, .nv, .free] (State.eraseFailed s sector) := by
  unfold State.eraseFailed; (try dsimp only)
  repeat' first
    | with_reducible exact State.keeps_refl
    | with_reducible refine State.updJournal_frame.last (by decide) ?_
    | with_reducible refine State.log_keeps.last (by decide) ?_
    | with_reducible refine State.keeps_foldl (fun _ _ => ?_) ?_
    | with_reducible refine State.keeps_ite ?_ ?_
    | split
    | with_reducible refine State.keeps_mk ?_

theorem State.repairDone_frame {s : State} :
    s.keeps [.od, .nv, .free] (State.repairDone s) := by
  unfold State.repairDone; (try dsimp only)
  repeat' first
    | with_reducible exact State.keeps_refl
    | with_reducible refine State.setJournal_frame.last (by decide) ?_
    | with_reducible refine State.keeps_foldl (fun _ _ => ?_) ?_
    | with_reducible refine State.keeps_ite ?_ ?_
    | split
    | with_reducible refine State.keeps_mk ?_

theorem State.copyRecord_frame {s : State} {a : ℕ} {r : Sys2Proof.Machine.RecAt} :
    s.keeps [.od, .nv, .serial, .free] (State.copyRecord s a r) := by
  unfold State.copyRecord; (try dsimp only)
  repeat' first
    | with_reducible exact State.keeps_refl
    | with_reducible refine State.updJournal_frame.last (by decide) ?_
    | with_reducible refine State.programFlash_frame.last (by decide) ?_
    | with_reducible refine State.selectTaken_frame.last (by decide) ?_
    | with_reducible refine State.keeps_foldl (fun _ _ => ?_) ?_
    | with_reducible refine State.keeps_ite ?_ ?_
    | split
    | with_reducible refine State.keeps_mk ?_

theorem State.noRoom_frame {s : State} :
    s.keeps [.nv] (State.noRoom s) := by
  unfold State.noRoom; (try dsimp only)
  repeat' first
    | with_reducible exact State.keeps_refl
    | with_reducible refine State.keeps_foldl (fun _ _ => ?_) ?_
    | with_reducible refine State.keeps_ite ?_ ?_
    | split
    | with_reducible refine State.keeps_mk ?_

theorem State.compactTail_frame {s : State} {a : ℕ} :
    s.keeps [.od, .nv, .serial, .pwr, .free] (State.compactTail s a) := by
  unfold State.compactTail; (try dsimp only)
  repeat' first
    | with_reducible exact State.keeps_refl
    | with_reducible refine State.updJournal_frame.last (by decide) ?_
    | with_reducible refine State.eraseStart_frame.last (by decide) ?_
    | with_reducible refine State.copyRecord_frame.last (by decide) ?_
    | with_reducible refine State.noRoom_frame.last (by decide) ?_
    | with_reducible refine State.keeps_foldl (fun _ _ => ?_) ?_
    | with_reducible refine State.keeps_ite ?_ ?_
    | split
    | with_reducible refine State.keeps_mk ?_

theorem State.formatStep_frame {s : State} {n : ℕ} :
    s.keeps [.od, .nv, .serial, .pwr, .free] (State.formatStep s n) := by
  unfold State.formatStep; (try dsimp only)
  repeat' first
    | with_reducible exact State.keeps_refl
    | with_reducible refine State.askBus_frame.last (by decide) ?_
    | with_reducible refine State.flashStart_frame.last (by decide) ?_
    | with_reducible refine State.updJournal_frame.last (by decide) ?_
    | with_reducible refine State.keeps_foldl (fun _ _ => ?_) ?_
    | with_reducible refine State.keeps_ite ?_ ?_
    | split
    | with_reducible refine State.keeps_mk ?_

theorem State.formatEnd_frame {s : State} :
    s.keeps [.emitted, .od, .ops, .nv, .host, .free] (State.formatEnd s) := by
  unfold State.formatEnd; (try dsimp only)
  repeat' first
    | with_reducible exact State.keeps_refl
    | with_reducible refine State.setJournal_frame.last (by decide) ?_
    | with_reducible refine State.setO_keeps.last (by decide) ?_
    | with_reducible refine State.opEnd_frame.last (by decide) ?_
    | with_reducible refine State.keeps_foldl (fun _ _ => ?_) ?_
    | with_reducible refine State.keeps_ite ?_ ?_
    | split
    | with_reducible refine State.keeps_mk ?_

theorem State.formatNext_frame {s : State} :
    s.keeps [.emitted, .od, .ops, .nv, .host, .serial, .pwr, .free] (State.formatNext s) := by
  unfold State.formatNext; (try dsimp only)
  repeat' first
    | with_reducible exact State.keeps_refl
    | with_reducible refine State.formatStep_frame.last (by decide) ?_
    | with_reducible refine State.opEnd_frame.last (by decide) ?_
    | with_reducible refine State.formatEnd_frame.last (by decide) ?_
    | with_reducible refine State.opAt_frame.last (by decide) ?_
    | with_reducible refine State.keeps_foldl (fun _ _ => ?_) ?_
    | with_reducible refine State.keeps_ite ?_ ?_
    | split
    | with_reducible refine State.keeps_mk ?_

theorem State.erased_frame {s : State} {sector : ℕ} :
    s.keeps [.od, .nv, .free] (State.erased s sector) := by
  unfold State.erased; (try dsimp only)
  repeat' first
    | with_reducible exact State.keeps_refl
    | with_reducible refine State.opAt_frame.last (by decide) ?_
    | with_reducible refine State.repairDone_frame.last (by decide) ?_
    | with_reducible refine State.inc_keeps.last (by decide) ?_
    | with_reducible refine State.log_keeps.last (by decide) ?_
    | with_reducible refine State.keeps_foldl (fun _ _ => ?_) ?_
    | with_reducible refine State.keeps_ite ?_ ?_
    | split
    | with_reducible refine State.keeps_mk ?_

theorem State.reclaimNext_frame {s : State} :
    s.keeps [.od, .nv, .serial, .pwr, .free] (State.reclaimNext s) := by
  unfold State.reclaimNext; (try dsimp only)
  repeat' first
    | with_reducible exact State.keeps_refl
    | with_reducible refine State.compactTail_frame.last (by decide) ?_
    | with_reducible refine State.keeps_foldl (fun _ _ => ?_) ?_
    | with_reducible refine State.keeps_ite ?_ ?_
    | split
    | with_reducible refine State.keeps_mk ?_

theorem State.formatErased_frame {s : State} {ok : Bool} :
    s.keeps [.emitted, .od, .ops, .nv, .host, .serial, .pwr, .free] (State.formatErased s ok) := by
  unfold State.formatErased; (try dsimp only)
  repeat' first
    | with_reducible exact State.keeps_refl
    | with_reducible refine State.updJournal_frame.last (by decide) ?_
    | with_reducible refine State.formatNext_frame.last (by decide) ?_
    | with_reducible refine State.eraseFailed_frame.last (by decide) ?_
    | with_reducible refine State.keeps_foldl (fun _ _ => ?_) ?_
    | with_reducible refine State.keeps_ite ?_ ?_
    | split
    | with_reducible refine State.keeps_mk ?_

theorem State.eraseEnded_frame {s : State} {ok : Bool} :
    s.keeps [.emitted, .od, .ops, .nv, .host, .serial, .pwr, .sec, .free] (State.eraseEnded s ok) := by
  unfold State.eraseEnded; (try dsimp only)
  repeat' first
    | with_reducible exact State.keeps_refl
    | with_reducible refine State.eraseFailed_frame.last (by decide) ?_
    | with_reducible refine State.updJournal_frame.last (by decide) ?_
    | with_reducible refine State.erased_frame.last (by decide) ?_
    | with_reducible refine State.reclaimNext_frame.last (by decide) ?_
    | with_reducible refine State.nvKick_frame.last (by decide) ?_
    | with_reducible refine State.formatErased_frame.last (by decide) ?_
    | with_reducible refine State.keeps_foldl (fun _ _ => ?_) ?_
    | with_reducible refine State.keeps_ite ?_ ?_
    | split
    | with_reducible refine State.keeps_mk ?_

theorem State.noteSuspend_frame {s : State} {k : ℕ} :
    s.keeps [.serial] (State.noteSuspend s k) := by
  unfold State.noteSuspend; (try dsimp only)
  repeat' first
    | with_reducible exact State.keeps_refl
    | with_reducible refine State.keeps_foldl (fun _ _ => ?_) ?_
    | with_reducible refine State.keeps_ite ?_ ?_
    | split
    | with_reducible refine State.keeps_mk ?_

theorem State.xipDevice_frame {s : State} {k : ℕ} :
    s.keeps [.serial] (State.xipDevice s k) := by
  unfold State.xipDevice; (try dsimp only)
  repeat' first
    | with_reducible exact State.keeps_refl
    | with_reducible refine State.keeps_foldl (fun _ _ => ?_) ?_
    | with_reducible refine State.keeps_ite ?_ ?_
    | split
    | with_reducible refine State.keeps_mk ?_

theorem State.xipBlock_frame {s : State} {k : ℕ} {b : ℕ} :
    s.keeps [.serial] (State.xipBlock s k b) := by
  unfold State.xipBlock; (try dsimp only)
  repeat' first
    | with_reducible exact State.keeps_refl
    | with_reducible refine State.xipDevice_frame.last (by decide) ?_
    | with_reducible refine State.keeps_foldl (fun _ _ => ?_) ?_
    | with_reducible refine State.keeps_ite ?_ ?_
    | split
    | with_reducible refine State.keeps_mk ?_

theorem State.xipBlocks_frame {s : State} {k : ℕ} {a : ℕ} {n : ℕ} :
    s.keeps [.serial] (State.xipBlocks s k a n) := by
  unfold State.xipBlocks; (try dsimp only)
  repeat' first
    | with_reducible exact State.keeps_refl
    | with_reducible refine State.xipBlock_frame.last (by decide) ?_
    | with_reducible refine State.keeps_foldl (fun _ _ => ?_) ?_
    | with_reducible refine State.keeps_ite ?_ ?_
    | split
    | with_reducible refine State.keeps_mk ?_

theorem State.busDone_frame {s : State} :
    s.keeps [.serial] (State.busDone s) := by
  unfold State.busDone; (try dsimp only)
  repeat' first
    | with_reducible exact State.keeps_refl
    | with_reducible refine State.giveBus_frame.last (by decide) ?_
    | with_reducible refine State.keeps_foldl (fun _ _ => ?_) ?_
    | with_reducible refine State.keeps_ite ?_ ?_
    | split
    | with_reducible refine State.keeps_mk ?_

theorem State.fetchRun_frame {s : State} {k : ℕ} {a : ℕ} {n : ℕ} :
    s.keeps [.emitted, .od, .serial, .pwr] (State.fetchRun s k a n) := by
  unfold State.fetchRun; (try dsimp only)
  repeat' first
    | with_reducible exact State.keeps_refl
    | with_reducible refine State.demand_frame.last (by decide) ?_
    | with_reducible refine State.noteSuspend_frame.last (by decide) ?_
    | with_reducible refine State.xipBlocks_frame.last (by decide) ?_
    | with_reducible refine State.emit_keeps.last (by decide) ?_
    | with_reducible refine State.busDone_frame.last (by decide) ?_
    | with_reducible refine State.keeps_foldl (fun _ _ => ?_) ?_
    | with_reducible refine State.keeps_ite ?_ ?_
    | split
    | with_reducible refine State.keeps_mk ?_

theorem State.fetchNext_frame {s : State} :
    s.keeps [.emitted, .od, .serial, .hk, .pwr] (State.fetchNext s) := by
  unfold State.fetchNext; (try dsimp only)
  repeat' first
    | with_reducible exact State.keeps_refl
    | with_reducible refine State.fetchRun_frame.last (by decide) ?_
    | with_reducible refine State.flashRelax_frame.last (by decide) ?_
    | with_reducible refine State.askBus_frame.last (by decide) ?_
    | with_reducible refine State.keeps_foldl (fun _ _ => ?_) ?_
    | with_reducible refine State.keeps_ite ?_ ?_
    | split
    | with_reducible refine State.keeps_mk ?_

theorem State.serveFetches_frame {s : State} :
    s.keeps [.emitted, .od, .serial, .hk, .pwr] (State.serveFetches s) := by
  unfold State.serveFetches; (try dsimp only)
  repeat' first
    | with_reducible exact State.keeps_refl
    | with_reducible refine State.fetchNext_frame.last (by decide) ?_
    | with_reducible refine State.keeps_foldl (fun _ _ => ?_) ?_
    | with_reducible refine State.keeps_ite ?_ ?_
    | split
    | with_reducible refine State.keeps_mk ?_

theorem State.rawRun_frame {b : List Sys2Proof.Byte} {s : State} :
    s.keeps [.emitted, .od, .doms, .serial, .pwr, .free] (State.rawRun b s) := by
  unfold State.rawRun; (try dsimp only)
  repeat' first
    | with_reducible exact State.keeps_refl
    | with_reducible refine State.setDom_keeps.last (by decide) ?_
    | with_reducible refine State.emit_keeps.last (by decide) ?_
    | with_reducible refine State.giveBus_frame.last (by decide) ?_
    | with_reducible refine State.demand_frame.last (by decide) ?_
    | with_reducible refine State.selectTaken_frame.last (by decide) ?_
    | with_reducible refine State.keeps_foldl (fun _ _ => ?_) ?_
    | with_reducible refine State.keeps_ite ?_ ?_
    | split
    | with_reducible refine State.keeps_mk ?_

theorem State.rawNext_frame {s : State} :
    s.keeps [.emitted, .od, .doms, .serial, .pwr, .free] (State.rawNext s) := by
  unfold State.rawNext; (try dsimp only)
  repeat' first
    | with_reducible exact State.keeps_refl
    | with_reducible refine State.rawRun_frame.last (by decide) ?_
    | with_reducible refine State.askBus_frame.last (by decide) ?_
    | with_reducible refine State.keeps_foldl (fun _ _ => ?_) ?_
    | with_reducible refine State.keeps_ite ?_ ?_
    | split
    | with_reducible refine State.keeps_mk ?_

theorem State.flashReady_frame {s : State} {op : ℕ × ℕ × ℕ × ℕ} :
    s.keeps [.emitted, .od, .doms, .ops, .nv, .host, .serial, .hk, .pwr, .sec, .free] (State.flashReady s op) := by
  unfold State.flashReady; (try dsimp only)
  repeat' first
    | with_reducible exact State.keeps_refl
    | with_reducible refine State.programFlash_frame.last (by decide) ?_
    | with_reducible refine State.jobAdvance_frame.last (by decide) ?_
    | with_reducible refine State.nvKick_frame.last (by decide) ?_
    | with_reducible refine State.eraseSector_frame.last (by decide) ?_
    | with_reducible refine State.serveFetches_frame.last (by decide) ?_
    | with_reducible refine State.eraseEnded_frame.last (by decide) ?_
    | with_reducible refine State.rawNext_frame.last (by decide) ?_
    | with_reducible refine State.flashRelax_frame.last (by decide) ?_
    | with_reducible refine State.giveBus_frame.last (by decide) ?_
    | with_reducible refine State.keeps_foldl (fun _ _ => ?_) ?_
    | with_reducible refine State.keeps_ite ?_ ?_
    | split
    | with_reducible refine State.keeps_mk ?_

theorem State.flashFailed_frame {s : State} {op : ℕ × ℕ × ℕ × ℕ} :
    s.keeps [.emitted, .od, .doms, .ops, .nv, .host, .serial, .hk, .pwr, .sec, .free] (State.flashFailed s op) := by
  unfold State.flashFailed; (try dsimp only)
  repeat' first
    | with_reducible exact State.keeps_refl
    | with_reducible refine State.jobAbandon_frame.last (by decide) ?_
    | with_reducible refine State.nvKick_frame.last (by decide) ?_
    | with_reducible refine State.eraseEnded_frame.last (by decide) ?_
    | with_reducible refine State.rawNext_frame.last (by decide) ?_
    | with_reducible refine State.flashRelax_frame.last (by decide) ?_
    | with_reducible refine State.giveBus_frame.last (by decide) ?_
    | with_reducible refine State.inc_keeps.last (by decide) ?_
    | with_reducible refine State.serveFetches_frame.last (by decide) ?_
    | with_reducible refine State.keeps_foldl (fun _ _ => ?_) ?_
    | with_reducible refine State.keeps_ite ?_ ?_
    | split
    | with_reducible refine State.keeps_mk ?_

theorem State.jobServed_frame {s : State} {x : Sys2Proof.Machine.RecJob} :
    s.keeps [.emitted, .od, .ops, .nv, .host, .free] (State.jobServed s x) := by
  unfold State.jobServed; (try dsimp only)
  repeat' first
    | with_reducible exact State.keeps_refl
    | with_reducible refine State.repairDone_frame.last (by decide) ?_
    | with_reducible refine State.inc_keeps.last (by decide) ?_
    | with_reducible refine State.log_keeps.last (by decide) ?_
    | with_reducible refine State.opEnd_frame.last (by decide) ?_
    | with_reducible refine State.keeps_foldl (fun _ _ => ?_) ?_
    | with_reducible refine State.keeps_ite ?_ ?_
    | split
    | with_reducible refine State.keeps_mk ?_

theorem State.recordEnd_frame {s : State} :
    s.keeps [.emitted, .od, .ops, .nv, .host, .serial, .hk, .pwr, .sec, .free] (State.recordEnd s) := by
  unfold State.recordEnd; (try dsimp only)
  repeat' first
    | with_reducible exact State.keeps_refl
    | with_reducible refine State.jobServed_frame.last (by decide) ?_
    | with_reducible refine State.nvKick_frame.last (by decide) ?_
    | with_reducible refine State.flashRelax_frame.last (by decide) ?_
    | with_reducible refine State.updJournal_frame.last (by decide) ?_
    | with_reducible refine State.setO_keeps.last (by decide) ?_
    | with_reducible refine State.keeps_foldl (fun _ _ => ?_) ?_
    | with_reducible refine State.keeps_ite ?_ ?_
    | split
    | with_reducible refine State.keeps_mk ?_

theorem State.cutBytes_frame {s : State} {dev : ℕ} {a : ℕ} {n : ℕ} :
    s.keeps [.nv, .free] (State.cutBytes s dev a n) := by
  unfold State.cutBytes; (try dsimp only)
  repeat' first
    | with_reducible exact State.keeps_refl
    | with_reducible refine State.setFlash_frame.last (by decide) ?_
    | with_reducible refine State.keeps_foldl (fun _ _ => ?_) ?_
    | with_reducible refine State.keeps_ite ?_ ?_
    | split
    | with_reducible refine State.keeps_mk ?_

theorem State.flashCut_frame {s : State} :
    s.keeps [.nv, .serial, .free] (State.flashCut s) := by
  unfold State.flashCut; (try dsimp only)
  repeat' first
    | with_reducible exact State.keeps_refl
    | with_reducible refine State.cutBytes_frame.last (by decide) ?_
    | with_reducible refine State.giveBus_frame.last (by decide) ?_
    | with_reducible refine State.keeps_foldl (fun _ _ => ?_) ?_
    | with_reducible refine State.keeps_ite ?_ ?_
    | split
    | with_reducible refine State.keeps_mk ?_

theorem State.nvAbort_frame {s : State} :
    s.keeps [.emitted, .od, .ops, .host] (State.nvAbort s) := by
  unfold State.nvAbort; (try dsimp only)
  repeat' first
    | with_reducible exact State.keeps_refl
    | with_reducible refine State.loadFailed_frame.last (by decide) ?_
    | with_reducible refine State.opEnd_frame.last (by decide) ?_
    | with_reducible refine State.keeps_foldl (fun _ _ => ?_) ?_
    | with_reducible refine State.keeps_ite ?_ ?_
    | split
    | with_reducible refine State.keeps_mk ?_

theorem State.jobDrop_frame {s : State} :
    s.keeps [.od, .nv] (State.jobDrop s) := by
  unfold State.jobDrop; (try dsimp only)
  repeat' first
    | with_reducible exact State.keeps_refl
    | with_reducible refine State.seqUsed_frame.last (by decide) ?_
    | with_reducible refine State.keeps_foldl (fun _ _ => ?_) ?_
    | with_reducible refine State.keeps_ite ?_ ?_
    | split
    | with_reducible refine State.keeps_mk ?_

theorem State.dropErase_frame {s : State} :
    s.keeps [.nv, .serial, .free] (State.dropErase s) := by
  unfold State.dropErase; (try dsimp only)
  repeat' first
    | with_reducible exact State.keeps_refl
    | with_reducible refine State.flashCut_frame.last (by decide) ?_
    | with_reducible refine State.keeps_foldl (fun _ _ => ?_) ?_
    | with_reducible refine State.keeps_ite ?_ ?_
    | split
    | with_reducible refine State.keeps_mk ?_

theorem State.refuseQueued_frame {s : State} :
    s.keeps [.emitted] (State.refuseQueued s) := by
  unfold State.refuseQueued; (try dsimp only)
  repeat' first
    | with_reducible exact State.keeps_refl
    | with_reducible refine State.emit_keeps.last (by decide) ?_
    | with_reducible refine State.keeps_foldl (fun _ _ => ?_) ?_
    | with_reducible refine State.keeps_ite ?_ ?_
    | split
    | with_reducible refine State.keeps_mk ?_

theorem State.cutOff_frame {s : State} {d : ℕ} :
    s.keeps [.od, .hk, .pwr] (State.cutOff s d) := by
  unfold State.cutOff; (try dsimp only)
  repeat' first
    | with_reducible exact State.keeps_refl
    | with_reducible refine State.domCut_frame.last (by decide) ?_
    | with_reducible refine State.keeps_foldl (fun _ _ => ?_) ?_
    | with_reducible refine State.keeps_ite ?_ ?_
    | split
    | with_reducible refine State.keeps_mk ?_

theorem State.closeEnd_frame {s : State} {cut : Bool} :
    s.keeps [.emitted, .od, .nv, .hk, .pwr, .free] (State.closeEnd s cut) := by
  unfold State.closeEnd; (try dsimp only)
  repeat' first
    | with_reducible exact State.keeps_refl
    | with_reducible refine State.log_keeps.last (by decide) ?_
    | with_reducible refine State.refuseQueued_frame.last (by decide) ?_
    | with_reducible refine State.jobDrop_frame.last (by decide) ?_
    | with_reducible refine State.cutOff_frame.last (by decide) ?_
    | with_reducible refine State.keeps_foldl (fun _ _ => ?_) ?_
    | with_reducible refine State.keeps_ite ?_ ?_
    | split
    | with_reducible refine State.keeps_mk ?_

theorem State.nvClose_frame {s : State} {cause : ℕ} :
    s.keeps [.emitted, .od, .ops, .nv, .host, .serial, .hk, .pwr, .free] (State.nvClose s cause) := by
  unfold State.nvClose; (try dsimp only)
  repeat' first
    | with_reducible exact State.keeps_refl
    | with_reducible refine State.closeEnd_frame.last (by decide) ?_
    | with_reducible refine State.dropErase_frame.last (by decide) ?_
    | with_reducible refine State.nvAbort_frame.last (by decide) ?_
    | with_reducible refine State.keeps_foldl (fun _ _ => ?_) ?_
    | with_reducible refine State.keeps_ite ?_ ?_
    | split
    | with_reducible refine State.keeps_mk ?_

theorem State.nvCloseCut_frame {s : State} :
    s.keeps [.emitted, .od, .nv, .serial, .hk, .pwr, .free] (State.nvCloseCut s) := by
  unfold State.nvCloseCut; (try dsimp only)
  repeat' first
    | with_reducible exact State.keeps_refl
    | with_reducible refine State.flashCut_frame.last (by decide) ?_
    | with_reducible refine State.inc_keeps.last (by decide) ?_
    | with_reducible refine State.closeEnd_frame.last (by decide) ?_
    | with_reducible refine State.keeps_foldl (fun _ _ => ?_) ?_
    | with_reducible refine State.keeps_ite ?_ ?_
    | split
    | with_reducible refine State.keeps_mk ?_

theorem State.resumeBus_frame {s : State} :
    s.keeps [.emitted, .od, .ops, .nv, .host, .serial, .pwr, .sec, .free] (State.resumeBus s) := by
  unfold State.resumeBus; (try dsimp only)
  repeat' first
    | with_reducible exact State.keeps_refl
    | with_reducible refine State.eraseStart_frame.last (by decide) ?_
    | with_reducible refine State.nvKick_frame.last (by decide) ?_
    | with_reducible refine State.formatStep_frame.last (by decide) ?_
    | with_reducible refine State.keeps_foldl (fun _ _ => ?_) ?_
    | with_reducible refine State.keeps_ite ?_ ?_
    | split
    | with_reducible refine State.keeps_mk ?_

theorem State.nvReopen_frame {s : State} :
    s.keeps [.nv] (State.nvReopen s) := by
  unfold State.nvReopen; (try dsimp only)
  repeat' first
    | with_reducible exact State.keeps_refl
    | with_reducible refine State.keeps_foldl (fun _ _ => ?_) ?_
    | with_reducible refine State.keeps_ite ?_ ?_
    | split
    | with_reducible refine State.keeps_mk ?_

theorem State.nvReset_frame {s : State} :
    s.keeps [.od, .nv, .serial, .free] (State.nvReset s) := by
  unfold State.nvReset; (try dsimp only)
  repeat' first
    | with_reducible exact State.keeps_refl
    | with_reducible refine State.log_keeps.last (by decide) ?_
    | with_reducible refine State.flashCut_frame.last (by decide) ?_
    | with_reducible refine State.jobDrop_frame.last (by decide) ?_
    | with_reducible refine State.keeps_foldl (fun _ _ => ?_) ?_
    | with_reducible refine State.keeps_ite ?_ ?_
    | split
    | with_reducible refine State.keeps_mk ?_

theorem State.setLatest_frame {s : State} {r : Sys2Proof.Machine.TxnRec} :
    s.keeps [.od] (State.setLatest s r) := by
  unfold State.setLatest; (try dsimp only)
  repeat' first
    | with_reducible exact State.keeps_refl
    | with_reducible refine State.setOs_keeps.last (by decide) ?_
    | with_reducible refine State.keeps_foldl (fun _ _ => ?_) ?_
    | with_reducible refine State.keeps_ite ?_ ?_
    | split
    | with_reducible refine State.keeps_mk ?_

theorem State.recordTxn_frame {s : State} {r : Sys2Proof.Machine.TxnRec} :
    s.keeps [.od, .modes] (State.recordTxn s r) := by
  unfold State.recordTxn; (try dsimp only)
  repeat' first
    | with_reducible exact State.keeps_refl
    | with_reducible refine State.setLatest_frame.last (by decide) ?_
    | with_reducible refine State.keeps_foldl (fun _ _ => ?_) ?_
    | with_reducible refine State.keeps_ite ?_ ?_
    | split
    | with_reducible refine State.keeps_mk ?_

theorem State.report_frame {s : State} {r : Sys2Proof.Machine.TxnRec} :
    s.keeps [.emitted, .chain, .host] (State.report s r) := by
  unfold State.report; (try dsimp only)
  repeat' first
    | with_reducible exact State.keeps_refl
    | with_reducible refine State.originate_keeps.last (by decide) ?_
    | with_reducible refine State.raise_keeps.last (by decide) ?_
    | with_reducible refine State.keeps_foldl (fun _ _ => ?_) ?_
    | with_reducible refine State.keeps_ite ?_ ?_
    | split
    | with_reducible refine State.keeps_mk ?_

theorem State.cancelArmed_frame {s : State} {reason : ℕ} :
    s.keeps [.emitted, .od, .modes, .chain, .host] (State.cancelArmed s reason) := by
  unfold State.cancelArmed; (try dsimp only)
  repeat' first
    | with_reducible exact State.keeps_refl
    | with_reducible refine State.recordTxn_frame.last (by decide) ?_
    | with_reducible refine State.report_frame.last (by decide) ?_
    | with_reducible refine State.keeps_foldl (fun _ _ => ?_) ?_
    | with_reducible refine State.keeps_ite ?_ ?_
    | split
    | with_reducible refine State.keeps_mk ?_

theorem State.startLoad_frame {s : State} {p : Sys2Proof.Pos} {key : ℕ} :
    s.keeps [.emitted, .od, .ops, .coef, .host] (State.startLoad s p key) := by
  unfold State.startLoad; (try dsimp only)
  repeat' first
    | with_reducible exact State.keeps_refl
    | with_reducible refine State.opStart_frame.last (by decide) ?_
    | with_reducible refine State.coefToOpen_frame.last (by decide) ?_
    | with_reducible refine State.keeps_foldl (fun _ _ => ?_) ?_
    | with_reducible refine State.keeps_ite ?_ ?_
    | split
    | with_reducible refine State.keeps_mk ?_

theorem State.loadNext_frame {s : State} :
    s.keeps [.emitted, .od, .ops, .coef, .host] (State.loadNext s) := by
  unfold State.loadNext; (try dsimp only)
  repeat' first
    | with_reducible exact State.keeps_refl
    | with_reducible refine State.startLoad_frame.last (by decide) ?_
    | with_reducible refine State.keeps_foldl (fun _ _ => ?_) ?_
    | with_reducible refine State.keeps_ite ?_ ?_
    | split
    | with_reducible refine State.keeps_mk ?_

theorem State.prepUpdate_frame {s : State} {p : Sys2Proof.Pos} :
    s.keeps [.od] (State.prepUpdate s p) := by
  unfold State.prepUpdate; (try dsimp only)
  repeat' first
    | with_reducible exact State.keeps_refl
    | with_reducible refine State.setO_keeps.last (by decide) ?_
    | with_reducible refine State.keeps_foldl (fun _ _ => ?_) ?_
    | with_reducible refine State.keeps_ite ?_ ?_
    | split
    | with_reducible refine State.keeps_mk ?_

theorem State.prepAll_frame {s : State} :
    s.keeps [.od] (State.prepAll s) := by
  unfold State.prepAll; (try dsimp only)
  repeat' first
    | with_reducible exact State.keeps_refl
    | with_reducible refine State.prepUpdate_frame.last (by decide) ?_
    | with_reducible refine State.keeps_foldl (fun _ _ => ?_) ?_
    | with_reducible refine State.keeps_ite ?_ ?_
    | split
    | with_reducible refine State.keeps_mk ?_

theorem State.oweEclipse_frame {s : State} {p : Sys2Proof.Pos} :
    s.keeps [.od, .ecl] (State.oweEclipse s p) := by
  unfold State.oweEclipse; (try dsimp only)
  repeat' first
    | with_reducible exact State.keeps_refl
    | with_reducible refine State.becomeDue_frame.last (by decide) ?_
    | with_reducible refine State.setEcl_frame.last (by decide) ?_
    | with_reducible refine State.keeps_foldl (fun _ _ => ?_) ?_
    | with_reducible refine State.keeps_ite ?_ ?_
    | split
    | with_reducible refine State.keeps_mk ?_

theorem State.warmStart_frame {s : State} {p : Sys2Proof.Pos} :
    s.keeps [.od, .ecl] (State.warmStart s p) := by
  unfold State.warmStart; (try dsimp only)
  repeat' first
    | with_reducible exact State.keeps_refl
    | with_reducible refine State.setO_keeps.last (by decide) ?_
    | with_reducible refine State.oweEclipse_frame.last (by decide) ?_
    | with_reducible refine State.keeps_foldl (fun _ _ => ?_) ?_
    | with_reducible refine State.keeps_ite ?_ ?_
    | split
    | with_reducible refine State.keeps_mk ?_

theorem State.recallEclipse_frame {s : State} {p : Sys2Proof.Pos} :
    s.keeps [.od, .vdet, .ecl] (State.recallEclipse s p) := by
  unfold State.recallEclipse; (try dsimp only)
  repeat' first
    | with_reducible exact State.keeps_refl
    | with_reducible refine State.setEcl_frame.last (by decide) ?_
    | with_reducible refine State.setOs_keeps.last (by decide) ?_
    | with_reducible refine State.keeps_foldl (fun _ _ => ?_) ?_
    | with_reducible refine State.keeps_ite ?_ ?_
    | split
    | with_reducible refine State.keeps_mk ?_

theorem State.warmRow_frame {s : State} {p : Sys2Proof.Pos} {subt : ℕ} :
    s.keeps [.od, .vdet, .ecl] (State.warmRow s p subt) := by
  unfold State.warmRow; (try dsimp only)
  repeat' first
    | with_reducible exact State.keeps_refl
    | with_reducible refine State.oweEclipse_frame.last (by decide) ?_
    | with_reducible refine State.setO_keeps.last (by decide) ?_
    | with_reducible refine State.recallEclipse_frame.last (by decide) ?_
    | with_reducible refine State.prepUpdate_frame.last (by decide) ?_
    | with_reducible refine State.keeps_foldl (fun _ _ => ?_) ?_
    | with_reducible refine State.keeps_ite ?_ ?_
    | split
    | with_reducible refine State.keeps_mk ?_

theorem State.arm_frame {s : State} {q : Sys2Proof.Machine.ModeReq} {act : ℕ} :
    s.keeps [.od, .modes] ((State.arm s q act).1) := by
  unfold State.arm; (try dsimp only)
  repeat' first
    | with_reducible exact State.keeps_refl
    | with_reducible refine State.recordTxn_frame.last (by decide) ?_
    | with_reducible refine State.keeps_foldl (fun _ _ => ?_) ?_
    | with_reducible refine State.keeps_ite ?_ ?_
    | split
    | with_reducible refine State.keeps_mk ?_

theorem State.decline_frame {s : State} {q : Sys2Proof.Machine.ModeReq} {outcome : ℕ} {reason : ℕ} :
    s.keeps [.od, .modes] ((State.decline s q outcome reason).1) := by
  unfold State.decline; (try dsimp only)
  repeat' first
    | with_reducible exact State.keeps_refl
    | with_reducible refine State.recordTxn_frame.last (by decide) ?_
    | with_reducible refine State.keeps_foldl (fun _ _ => ?_) ?_
    | with_reducible refine State.keeps_ite ?_ ?_
    | split
    | with_reducible refine State.keeps_mk ?_

theorem State.answerRest_frame {s : State} {q : Sys2Proof.Machine.ModeReq} :
    s.keeps [.od, .modes] ((State.answerRest s q).1) := by
  unfold State.answerRest; (try dsimp only)
  repeat' first
    | with_reducible exact State.keeps_refl
    | with_reducible refine State.arm_frame.last (by decide) ?_
    | with_reducible refine State.decline_frame.last (by decide) ?_
    | with_reducible refine State.recordTxn_frame.last (by decide) ?_
    | with_reducible refine State.keeps_foldl (fun _ _ => ?_) ?_
    | with_reducible refine State.keeps_ite ?_ ?_
    | split
    | with_reducible refine State.keeps_mk ?_

theorem State.answerSafe_frame {s : State} {q : Sys2Proof.Machine.ModeReq} :
    s.keeps [.emitted, .od, .modes, .chain, .host] ((State.answerSafe s q).1) := by
  unfold State.answerSafe; (try dsimp only)
  repeat' first
    | with_reducible exact State.keeps_refl
    | with_reducible refine State.cancelArmed_frame.last (by decide) ?_
    | with_reducible refine State.arm_frame.last (by decide) ?_
    | with_reducible refine State.keeps_foldl (fun _ _ => ?_) ?_
    | with_reducible refine State.keeps_ite ?_ ?_
    | split
    | with_reducible refine State.keeps_mk ?_

theorem State.answerMode_frame {s : State} {q : Sys2Proof.Machine.ModeReq} :
    s.keeps [.emitted, .od, .modes, .chain, .host] ((State.answerMode s q).1) := by
  unfold State.answerMode; (try dsimp only)
  repeat' first
    | with_reducible exact State.keeps_refl
    | with_reducible refine State.answerRest_frame.last (by decide) ?_
    | with_reducible refine State.decline_frame.last (by decide) ?_
    | with_reducible refine State.answerSafe_frame.last (by decide) ?_
    | with_reducible refine State.keeps_foldl (fun _ _ => ?_) ?_
    | with_reducible refine State.keeps_ite ?_ ?_
    | split
    | with_reducible refine State.keeps_mk ?_

theorem State.slotInvalid_frame {s : State} :
    s.keeps [.nv, .serial] (State.slotInvalid s) := by
  unfold State.slotInvalid; (try dsimp only)
  repeat' first
    | with_reducible exact State.keeps_refl
    | with_reducible refine State.setFlash_frame.last (by decide) ?_
    | with_reducible refine State.selectTaken_frame.last (by decide) ?_
    | with_reducible refine State.keeps_foldl (fun _ _ => ?_) ?_
    | with_reducible refine State.keeps_ite ?_ ?_
    | split
    | with_reducible refine State.keeps_mk ?_

theorem State.abortOp_frame {s : State} {k : ℕ} :
    s.keeps [.emitted, .od, .ops, .nv, .coef, .host, .serial] (State.abortOp s k) := by
  unfold State.abortOp; (try dsimp only)
  repeat' first
    | with_reducible exact State.keeps_refl
    | with_reducible refine State.opEnd_frame.last (by decide) ?_
    | with_reducible refine State.slotInvalid_frame.last (by decide) ?_
    | with_reducible refine State.loadFailed_frame.last (by decide) ?_
    | with_reducible refine State.loadNext_frame.last (by decide) ?_
    | with_reducible refine State.keeps_foldl (fun _ _ => ?_) ?_
    | with_reducible refine State.keeps_ite ?_ ?_
    | split
    | with_reducible refine State.keeps_mk ?_

theorem State.abortOps_frame {s : State} {mode : ℕ} :
    s.keeps [.emitted, .od, .ops, .nv, .coef, .host, .serial] (State.abortOps s mode) := by
  unfold State.abortOps; (try dsimp only)
  repeat' first
    | with_reducible exact State.keeps_refl
    | with_reducible refine State.abortOp_frame.last (by decide) ?_
    | with_reducible refine State.keeps_foldl (fun _ _ => ?_) ?_
    | with_reducible refine State.keeps_ite ?_ ?_
    | split
    | with_reducible refine State.keeps_mk ?_

theorem State.dropWindows_frame {s : State} :
    s.keeps [.windows] (State.dropWindows s) := by
  unfold State.dropWindows; (try dsimp only)
  repeat' first
    | with_reducible exact State.keeps_refl
    | with_reducible refine State.keeps_foldl (fun _ _ => ?_) ?_
    | with_reducible refine State.keeps_ite ?_ ?_
    | split
    | with_reducible refine State.keeps_mk ?_

theorem State.endSlave_frame {s : State} :
    s.keeps [.od] (State.endSlave s) := by
  unfold State.endSlave; (try dsimp only)
  repeat' first
    | with_reducible exact State.keeps_refl
    | with_reducible refine State.setO_keeps.last (by decide) ?_
    | with_reducible refine State.keeps_foldl (fun _ _ => ?_) ?_
    | with_reducible refine State.keeps_ite ?_ ?_
    | split
    | with_reducible refine State.keeps_mk ?_

theorem State.putMode_frame {s : State} {target : ℕ} {txn : ℕ} {since : ℕ} :
    s.keeps [.od, .modes] (State.putMode s target txn since) := by
  unfold State.putMode; (try dsimp only)
  repeat' first
    | with_reducible exact State.keeps_refl
    | with_reducible refine State.setO_keeps.last (by decide) ?_
    | with_reducible refine State.showLoads_frame.last (by decide) ?_
    | with_reducible refine State.keeps_foldl (fun _ _ => ?_) ?_
    | with_reducible refine State.keeps_ite ?_ ?_
    | split
    | with_reducible refine State.keeps_mk ?_

theorem State.leaveImaging_frame {s : State} {target : ℕ} :
    s.keeps [.emitted, .od, .ops, .nv, .coef, .ecl, .shut, .windows, .trig, .trigOut, .host, .serial] (State.leaveImaging
      s target) := by
  unfold State.leaveImaging; (try dsimp only)
  repeat' first
    | with_reducible exact State.keeps_refl
    | with_reducible refine State.outsLow_frame.last (by decide) ?_
    | with_reducible refine State.eclModeEnd_frame.last (by decide) ?_
    | with_reducible refine State.coefInvalidate_frame.last (by decide) ?_
    | with_reducible refine State.setO_keeps.last (by decide) ?_
    | with_reducible refine State.dropWindows_frame.last (by decide) ?_
    | with_reducible refine State.endSlave_frame.last (by decide) ?_
    | with_reducible refine State.abortOps_frame.last (by decide) ?_
    | with_reducible refine State.discardAllStarts_frame.last (by decide) ?_
    | with_reducible refine State.keeps_foldl (fun _ _ => ?_) ?_
    | with_reducible refine State.keeps_ite ?_ ?_
    | split
    | with_reducible refine State.keeps_mk ?_

theorem State.dropFrames_frame {s : State} {p : Sys2Proof.Pos} :
    s.keeps [.od, .intake, .pipe] (State.dropFrames s p) := by
  unfold State.dropFrames; (try dsimp only)
  repeat' first
    | with_reducible exact State.keeps_refl
    | with_reducible refine State.setPipe_frame.last (by decide) ?_
    | with_reducible refine State.intakeDiscard_frame.last (by decide) ?_
    | with_reducible refine State.keeps_foldl (fun _ _ => ?_) ?_
    | with_reducible refine State.keeps_ite ?_ ?_
    | split
    | with_reducible refine State.keeps_mk ?_

theorem State.dropAllFrames_frame {s : State} :
    s.keeps [.od, .intake, .pipe, .taps] (State.dropAllFrames s) := by
  unfold State.dropAllFrames; (try dsimp only)
  repeat' first
    | with_reducible exact State.keeps_refl
    | with_reducible refine State.dropFrames_frame.last (by decide) ?_
    | with_reducible refine State.keeps_foldl (fun _ _ => ?_) ?_
    | with_reducible refine State.keeps_ite ?_ ?_
    | split
    | with_reducible refine State.keeps_mk ?_

theorem State.vdetDown_frame {s : State} :
    s.keeps [.od, .vdet] (State.vdetDown s) := by
  unfold State.vdetDown; (try dsimp only)
  repeat' first
    | with_reducible exact State.keeps_refl
    | with_reducible refine State.vdetRamp_frame.last (by decide) ?_
    | with_reducible refine State.keeps_foldl (fun _ _ => ?_) ?_
    | with_reducible refine State.keeps_ite ?_ ?_
    | split
    | with_reducible refine State.keeps_mk ?_

theorem State.railsDown_frame {s : State} :
    s.keeps [.od, .hk, .pwr] (State.railsDown s) := by
  unfold State.railsDown; (try dsimp only)
  repeat' first
    | with_reducible exact State.keeps_refl
    | with_reducible refine State.railOff_frame.last (by decide) ?_
    | with_reducible refine State.keeps_foldl (fun _ _ => ?_) ?_
    | with_reducible refine State.keeps_ite ?_ ?_
    | split
    | with_reducible refine State.keeps_mk ?_

theorem State.domainsOff_frame {s : State} {but : List ℕ} :
    s.keeps [.od, .lanes, .aligned, .link, .out0, .out1, .mem, .dma, .rings, .hk, .pwr] (State.domainsOff s but) := by
  unfold State.domainsOff; (try dsimp only)
  repeat' first
    | with_reducible exact State.keeps_refl
    | with_reducible refine State.flashRelax_frame.last (by decide) ?_
    | with_reducible refine State.wantOff_frame.last (by decide) ?_
    | with_reducible refine State.discardMode_frame.last (by decide) ?_
    | with_reducible refine State.outOff_frame.last (by decide) ?_
    | with_reducible refine State.keeps_foldl (fun _ _ => ?_) ?_
    | with_reducible refine State.keeps_ite ?_ ?_
    | split
    | with_reducible refine State.keeps_mk ?_

theorem State.domainsDown_frame {s : State} :
    s.keeps [.od, .lanes, .aligned, .link, .out0, .out1, .mem, .dma, .rings, .hk, .pwr] (State.domainsDown s) := by
  unfold State.domainsDown; (try dsimp only)
  repeat' first
    | with_reducible exact State.keeps_refl
    | with_reducible refine State.domainsOff_frame.last (by decide) ?_
    | with_reducible refine State.keeps_foldl (fun _ _ => ?_) ?_
    | with_reducible refine State.keeps_ite ?_ ?_
    | split
    | with_reducible refine State.keeps_mk ?_

theorem State.heldDown_frame {s : State} :
    s.keeps [.od, .hk, .pwr] (State.heldDown s) := by
  unfold State.heldDown; (try dsimp only)
  repeat' first
    | with_reducible exact State.keeps_refl
    | with_reducible refine State.railOff_frame.last (by decide) ?_
    | with_reducible refine State.keeps_foldl (fun _ _ => ?_) ?_
    | with_reducible refine State.keeps_ite ?_ ?_
    | split
    | with_reducible refine State.keeps_mk ?_

theorem State.modeProceed_frame {s : State} :
    s.keeps [.od, .lanes, .aligned, .link, .vdet, .out0, .out1, .mem, .dma, .rings, .hk, .pwr] (State.modeProceed s) := by
  unfold State.modeProceed; (try dsimp only)
  repeat' first
    | with_reducible exact State.keeps_refl
    | with_reducible refine State.domainsDown_frame.last (by decide) ?_
    | with_reducible refine State.vdetDown_frame.last (by decide) ?_
    | with_reducible refine State.railsDown_frame.last (by decide) ?_
    | with_reducible refine State.heldDown_frame.last (by decide) ?_
    | with_reducible refine State.keeps_foldl (fun _ _ => ?_) ?_
    | with_reducible refine State.keeps_ite ?_ ?_
    | split
    | with_reducible refine State.keeps_mk ?_

theorem State.run_frame {s : State} {frm : ℕ} {target : ℕ} {txn : ℕ} {act : ℕ} {source : ℕ} {bound : ℕ} {reason : ℕ}
    {orphan : Bool} :
    s.keeps [.modes] (State.run s frm target txn act source bound reason orphan) := by
  unfold State.run; (try dsimp only)
  repeat' first
    | with_reducible exact State.keeps_refl
    | with_reducible refine State.keeps_foldl (fun _ _ => ?_) ?_
    | with_reducible refine State.keeps_ite ?_ ?_
    | split
    | with_reducible refine State.keeps_mk ?_

theorem State.vdetTrim_frame {s : State} {p : Sys2Proof.Pos} :
    s.keeps [.vdet] (State.vdetTrim s p) := by
  unfold State.vdetTrim; (try dsimp only)
  repeat' first
    | with_reducible exact State.keeps_refl
    | with_reducible refine State.keeps_foldl (fun _ _ => ?_) ?_
    | with_reducible refine State.keeps_ite ?_ ?_
    | split
    | with_reducible refine State.keeps_mk ?_

theorem State.vdetFollow_frame {s : State} {p : Sys2Proof.Pos} :
    s.keeps [.od, .vdet] (State.vdetFollow s p) := by
  unfold State.vdetFollow; (try dsimp only)
  repeat' first
    | with_reducible exact State.keeps_refl
    | with_reducible refine State.vdetRamp_frame.last (by decide) ?_
    | with_reducible refine State.keeps_foldl (fun _ _ => ?_) ?_
    | with_reducible refine State.keeps_ite ?_ ?_
    | split
    | with_reducible refine State.keeps_mk ?_

theorem State.frameClosed_frame {s : State} {p : Sys2Proof.Pos} {cause : ℕ} :
    s.keeps [.emitted, .od, .intake, .fpa, .sp0, .vdet, .ecl, .shut, .trig, .trigOut] (State.frameClosed s p cause) := by
  unfold State.frameClosed; (try dsimp only)
  repeat' first
    | with_reducible exact State.keeps_refl
    | with_reducible refine State.vdetTrim_frame.last (by decide) ?_
    | with_reducible refine State.outsClose_frame.last (by decide) ?_
    | with_reducible refine State.computeHeld_frame.last (by decide) ?_
    | with_reducible refine State.vdetFollow_frame.last (by decide) ?_
    | with_reducible refine State.openBlank_frame.last (by decide) ?_
    | with_reducible refine State.eclClosed_frame.last (by decide) ?_
    | with_reducible refine State.intakeClose_frame.last (by decide) ?_
    | with_reducible refine State.keeps_foldl (fun _ _ => ?_) ?_
    | with_reducible refine State.keeps_ite ?_ ?_
    | split
    | with_reducible refine State.keeps_mk ?_

theorem State.closeAllNow_frame {s : State} :
    s.keeps [.emitted, .od, .intake, .fpa, .sp0, .vdet, .ecl, .shut, .trig, .trigOut] (State.closeAllNow s) := by
  unfold State.closeAllNow; (try dsimp only)
  repeat' first
    | with_reducible exact State.keeps_refl
    | with_reducible refine State.frameClosed_frame.last (by decide) ?_
    | with_reducible refine State.keeps_foldl (fun _ _ => ?_) ?_
    | with_reducible refine State.keeps_ite ?_ ?_
    | split
    | with_reducible refine State.keeps_mk ?_

theorem State.endedWell_frame {s : State} {r : Sys2Proof.Machine.Running} :
    s.keeps [.emitted, .od, .modes, .chain, .host] (State.endedWell s r) := by
  unfold State.endedWell; (try dsimp only)
  repeat' first
    | with_reducible exact State.keeps_refl
    | with_reducible refine State.recordTxn_frame.last (by decide) ?_
    | with_reducible refine State.report_frame.last (by decide) ?_
    | with_reducible refine State.keeps_foldl (fun _ _ => ?_) ?_
    | with_reducible refine State.keeps_ite ?_ ?_
    | split
    | with_reducible refine State.keeps_mk ?_

theorem State.supersede_frame {s : State} {reason : ℕ} :
    s.keeps [.emitted, .od, .modes, .chain, .host] (State.supersede s reason) := by
  unfold State.supersede; (try dsimp only)
  repeat' first
    | with_reducible exact State.keeps_refl
    | with_reducible refine State.recordTxn_frame.last (by decide) ?_
    | with_reducible refine State.report_frame.last (by decide) ?_
    | with_reducible refine State.endedWell_frame.last (by decide) ?_
    | with_reducible refine State.keeps_foldl (fun _ _ => ?_) ?_
    | with_reducible refine State.keeps_ite ?_ ?_
    | split
    | with_reducible refine State.keeps_mk ?_

theorem State.toStandby_frame {s : State} {txn : ℕ} {act : ℕ} {source : ℕ} {orphan : Bool} :
    s.keeps [.emitted, .od, .modes, .ops, .chain, .nv, .lanes, .aligned, .intake, .link, .fpa, .sp0, .coef, .vdet, .ecl,
      .shut, .windows, .trig, .trigOut, .out0, .out1, .mem, .host, .dma, .rings, .serial, .hk, .pwr] (State.toStandby
      s txn act source orphan) := by
  unfold State.toStandby; (try dsimp only)
  repeat' first
    | with_reducible exact State.keeps_refl
    | with_reducible refine State.closeAllNow_frame.last (by decide) ?_
    | with_reducible refine State.modeProceed_frame.last (by decide) ?_
    | with_reducible refine State.dmaStandby_frame.last (by decide) ?_
    | with_reducible refine State.flushLog_keeps.last (by decide) ?_
    | with_reducible refine State.run_frame.last (by decide) ?_
    | with_reducible refine State.supersede_frame.last (by decide) ?_
    | with_reducible refine State.leaveImaging_frame.last (by decide) ?_
    | with_reducible refine State.putMode_frame.last (by decide) ?_
    | with_reducible refine State.keeps_foldl (fun _ _ => ?_) ?_
    | with_reducible refine State.keeps_ite ?_ ?_
    | split
    | with_reducible refine State.keeps_mk ?_

theorem State.runSafe_frame {s : State} {frm : ℕ} {txn : ℕ} {act : ℕ} {source : ℕ} {lo : ℕ} :
    s.keeps [.modes] (State.runSafe s frm txn act source lo) := by
  unfold State.runSafe; (try dsimp only)
  repeat' first
    | with_reducible exact State.keeps_refl
    | with_reducible refine State.run_frame.last (by decide) ?_
    | with_reducible refine State.keeps_foldl (fun _ _ => ?_) ?_
    | with_reducible refine State.keeps_ite ?_ ?_
    | split
    | with_reducible refine State.keeps_mk ?_

theorem State.notifyCause_frame {s : State} {code : ℕ} {pos : ℕ} {fs : List (ℕ × ℕ)} :
    s.keeps [.emitted, .od, .chain, .nv, .host, .free] (State.notifyCause s code pos fs) := by
  unfold State.notifyCause; (try dsimp only)
  repeat' first
    | with_reducible exact State.keeps_refl
    | with_reducible refine State.logAdd_keeps.last (by decide) ?_
    | with_reducible refine State.notifyRest_keeps.last (by decide) ?_
    | with_reducible refine State.keeps_foldl (fun _ _ => ?_) ?_
    | with_reducible refine State.keeps_ite ?_ ?_
    | split
    | with_reducible refine State.keeps_mk ?_

theorem State.toSafe_frame {s : State} {txn : ℕ} {act : ℕ} {source : ℕ} {hi : ℕ} {lo : ℕ} :
    s.keeps [.emitted, .od, .modes, .ops, .chain, .nv, .lanes, .aligned, .intake, .link, .pipe, .coef, .vdet, .ecl, .shut,
      .windows, .trig, .trigOut, .out0, .out1, .taps, .mem, .host, .dma, .rings, .serial, .hk, .pwr, .dbg, .free]
      (State.toSafe s txn act source hi lo) := by
  unfold State.toSafe; (try dsimp only)
  repeat' first
    | with_reducible exact State.keeps_refl
    | with_reducible refine State.recordTxn_frame.last (by decide) ?_
    | with_reducible refine State.modeProceed_frame.last (by decide) ?_
    | with_reducible refine State.notifyCause_frame.last (by decide) ?_
    | with_reducible refine State.runSafe_frame.last (by decide) ?_
    | with_reducible refine State.putMode_frame.last (by decide) ?_
    | with_reducible refine State.setO_keeps.last (by decide) ?_
    | with_reducible refine State.leaveImaging_frame.last (by decide) ?_
    | with_reducible refine State.dmaSafe_frame.last (by decide) ?_
    | with_reducible refine State.dropAllFrames_frame.last (by decide) ?_
    | with_reducible refine State.discardMode_frame.last (by decide) ?_
    | with_reducible refine State.supersede_frame.last (by decide) ?_
    | with_reducible refine State.debugCap_frame.last (by decide) ?_
    | with_reducible refine State.cancelArmed_frame.last (by decide) ?_
    | with_reducible refine State.keeps_foldl (fun _ _ => ?_) ?_
    | with_reducible refine State.keeps_ite ?_ ?_
    | split
    | with_reducible refine State.keeps_mk ?_

theorem State.faultSafe_frame {s : State} {hi : ℕ} {lo : ℕ} :
    s.keeps [.emitted, .od, .modes, .ops, .chain, .nv, .lanes, .aligned, .intake, .link, .pipe, .coef, .vdet, .ecl, .shut,
      .windows, .trig, .trigOut, .out0, .out1, .taps, .mem, .host, .dma, .rings, .serial, .hk, .pwr, .dbg, .free]
      (State.faultSafe s hi lo) := by
  unfold State.faultSafe; (try dsimp only)
  repeat' first
    | with_reducible exact State.keeps_refl
    | with_reducible refine State.toSafe_frame.last (by decide) ?_
    | with_reducible refine State.keeps_foldl (fun _ _ => ?_) ?_
    | with_reducible refine State.keeps_ite ?_ ?_
    | split
    | with_reducible refine State.keeps_mk ?_

theorem State.addCause_frame {s : State} {c : ℕ} :
    s.keeps [.modes] (State.addCause s c) := by
  unfold State.addCause; (try dsimp only)
  repeat' first
    | with_reducible exact State.keeps_refl
    | with_reducible refine State.keeps_foldl (fun _ _ => ?_) ?_
    | with_reducible refine State.keeps_ite ?_ ?_
    | split
    | with_reducible refine State.keeps_mk ?_

theorem State.dropCause_frame {s : State} {c : ℕ} :
    s.keeps [.modes] (State.dropCause s c) := by
  unfold State.dropCause; (try dsimp only)
  repeat' first
    | with_reducible exact State.keeps_refl
    | with_reducible refine State.keeps_foldl (fun _ _ => ?_) ?_
    | with_reducible refine State.keeps_ite ?_ ?_
    | split
    | with_reducible refine State.keeps_mk ?_

theorem State.failTransition_frame {s : State} {reason : ℕ} :
    s.keeps [.emitted, .od, .modes, .ops, .chain, .nv, .lanes, .aligned, .intake, .link, .pipe, .coef, .vdet, .ecl, .shut,
      .windows, .trig, .trigOut, .out0, .out1, .taps, .mem, .host, .dma, .rings, .serial, .hk, .pwr, .dbg, .free]
      (State.failTransition s reason) := by
  unfold State.failTransition; (try dsimp only)
  repeat' first
    | with_reducible exact State.keeps_refl
    | with_reducible refine State.toSafe_frame.last (by decide) ?_
    | with_reducible refine State.keeps_foldl (fun _ _ => ?_) ?_
    | with_reducible refine State.keeps_ite ?_ ?_
    | split
    | with_reducible refine State.keeps_mk ?_

theorem State.takeModeSettings_frame {s : State} :
    s.keeps [.modes] (State.takeModeSettings s) := by
  unfold State.takeModeSettings; (try dsimp only)
  repeat' first
    | with_reducible exact State.keeps_refl
    | with_reducible refine State.keeps_foldl (fun _ _ => ?_) ?_
    | with_reducible refine State.keeps_ite ?_ ?_
    | split
    | with_reducible refine State.keeps_mk ?_

theorem State.entryPos_frame {s : State} {p : Sys2Proof.Pos} :
    s.keeps [.od, .intake, .fpa, .pipe, .coef, .vdet, .ecl, .trig, .mem, .pwr] (State.entryPos s p) := by
  unfold State.entryPos; (try dsimp only)
  repeat' first
    | with_reducible exact State.keeps_refl
    | with_reducible refine State.setOs_keeps.last (by decide) ?_
    | with_reducible refine State.setFpa_frame.last (by decide) ?_
    | with_reducible refine State.setCoef_frame.last (by decide) ?_
    | with_reducible refine State.setPhase_frame.last (by decide) ?_
    | with_reducible refine State.setEcl_frame.last (by decide) ?_
    | with_reducible refine State.emptyStamps_frame.last (by decide) ?_
    | with_reducible refine State.clearRowValid_frame.last (by decide) ?_
    | with_reducible refine State.keeps_foldl (fun _ _ => ?_) ?_
    | with_reducible refine State.keeps_ite ?_ ?_
    | split
    | with_reducible refine State.keeps_mk ?_

theorem State.enter_frame {s : State} {target : ℕ} {txn : ℕ} {act : ℕ} {source : ℕ} :
    s.keeps [.emitted, .od, .modes, .ops, .chain, .nv, .lanes, .aligned, .intake, .link, .fpa, .pipe, .coef, .vdet, .ecl,
      .shut, .windows, .trig, .trigOut, .out0, .out1, .taps, .mem, .host, .dma, .rings, .serial, .hk, .pwr, .dbg,
      .free] (State.enter s target txn act source) := by
  unfold State.enter; (try dsimp only)
  repeat' first
    | with_reducible exact State.keeps_refl
    | with_reducible refine State.openAtEntry_frame.last (by decide) ?_
    | with_reducible refine State.wantOn_frame.last (by decide) ?_
    | with_reducible refine State.failTransition_frame.last (by decide) ?_
    | with_reducible refine State.entryPos_frame.last (by decide) ?_
    | with_reducible refine State.showLoads_frame.last (by decide) ?_
    | with_reducible refine State.run_frame.last (by decide) ?_
    | with_reducible refine State.supersede_frame.last (by decide) ?_
    | with_reducible refine State.abortOps_frame.last (by decide) ?_
    | with_reducible refine State.putMode_frame.last (by decide) ?_
    | with_reducible refine State.takeModeSettings_frame.last (by decide) ?_
    | with_reducible refine State.keeps_foldl (fun _ _ => ?_) ?_
    | with_reducible refine State.keeps_ite ?_ ?_
    | split
    | with_reducible refine State.keeps_mk ?_

theorem State.entryStep_frame {s : State} :
    s.keeps [.emitted, .od, .fpa, .sp0, .vdet] (State.entryStep s) := by
  unfold State.entryStep; (try dsimp only)
  repeat' first
    | with_reducible exact State.keeps_refl
    | with_reducible refine State.setFpa_frame.last (by decide) ?_
    | with_reducible refine State.sp0Next_frame.last (by decide) ?_
    | with_reducible refine State.vdetRamp_frame.last (by decide) ?_
    | with_reducible refine State.keeps_foldl (fun _ _ => ?_) ?_
    | with_reducible refine State.keeps_ite ?_ ?_
    | split
    | with_reducible refine State.keeps_mk ?_

theorem State.entryIds_frame {s : State} :
    s.keeps [.emitted, .od, .modes, .ops, .chain, .nv, .lanes, .aligned, .intake, .link, .fpa, .sp0, .pipe, .coef, .gen,
      .vdet, .ecl, .shut, .windows, .trig, .trigOut, .out0, .out1, .taps, .mem, .host, .dma, .rings, .serial, .hk,
      .pwr, .dbg, .free] (State.entryIds s) := by
  unfold State.entryIds; (try dsimp only)
  repeat' first
    | with_reducible exact State.keeps_refl
    | with_reducible refine State.setGen_frame.last (by decide) ?_
    | with_reducible refine State.openBlank_frame.last (by decide) ?_
    | with_reducible refine State.failTransition_frame.last (by decide) ?_
    | with_reducible refine State.keeps_foldl (fun _ _ => ?_) ?_
    | with_reducible refine State.keeps_ite ?_ ?_
    | split
    | with_reducible refine State.keeps_mk ?_

theorem State.entryDone_frame {s : State} {target : ℕ} :
    s.keeps [.emitted, .od, .ops, .coef, .ecl, .host] (State.entryDone s target) := by
  unfold State.entryDone; (try dsimp only)
  repeat' first
    | with_reducible exact State.keeps_refl
    | with_reducible refine State.loadNext_frame.last (by decide) ?_
    | with_reducible refine State.prepAll_frame.last (by decide) ?_
    | with_reducible refine State.warmStart_frame.last (by decide) ?_
    | with_reducible refine State.keeps_foldl (fun _ _ => ?_) ?_
    | with_reducible refine State.keeps_ite ?_ ?_
    | split
    | with_reducible refine State.keeps_mk ?_

theorem State.eclipseMode_frame {s : State} {frm : ℕ} :
    s.keeps [.emitted, .od, .modes, .ecl, .host] (State.eclipseMode s frm) := by
  unfold State.eclipseMode; (try dsimp only)
  repeat' first
    | with_reducible exact State.keeps_refl
    | with_reducible refine State.opStart_frame.last (by decide) ?_
    | with_reducible refine State.skipParts_frame.last (by decide) ?_
    | with_reducible refine State.setEcl_frame.last (by decide) ?_
    | with_reducible refine State.keeps_foldl (fun _ _ => ?_) ?_
    | with_reducible refine State.keeps_ite ?_ ?_
    | split
    | with_reducible refine State.keeps_mk ?_

theorem State.completed_frame {s : State} {r : Sys2Proof.Machine.Running} :
    s.keeps [.emitted, .od, .modes, .chain, .host] (State.completed s r) := by
  unfold State.completed; (try dsimp only)
  repeat' first
    | with_reducible exact State.keeps_refl
    | with_reducible refine State.endedWell_frame.last (by decide) ?_
    | with_reducible refine State.keeps_foldl (fun _ _ => ?_) ?_
    | with_reducible refine State.keeps_ite ?_ ?_
    | split
    | with_reducible refine State.keeps_mk ?_

theorem State.switchMode_frame {s : State} {a : Sys2Proof.Machine.Armed} {frm : ℕ} :
    s.keeps [.emitted, .od, .modes, .ops, .chain, .nv, .coef, .ecl, .windows, .host, .serial] (State.switchMode s a frm)
      := by
  unfold State.switchMode; (try dsimp only)
  repeat' first
    | with_reducible exact State.keeps_refl
    | with_reducible refine State.completed_frame.last (by decide) ?_
    | with_reducible refine State.endedWell_frame.last (by decide) ?_
    | with_reducible refine State.setEcl_frame.last (by decide) ?_
    | with_reducible refine State.opEnd_frame.last (by decide) ?_
    | with_reducible refine State.eclipseMode_frame.last (by decide) ?_
    | with_reducible refine State.run_frame.last (by decide) ?_
    | with_reducible refine State.dropWindows_frame.last (by decide) ?_
    | with_reducible refine State.abortOps_frame.last (by decide) ?_
    | with_reducible refine State.putMode_frame.last (by decide) ?_
    | with_reducible refine State.keeps_foldl (fun _ _ => ?_) ?_
    | with_reducible refine State.keeps_ite ?_ ?_
    | split
    | with_reducible refine State.keeps_mk ?_

theorem State.leaveSafe_frame {s : State} {a : Sys2Proof.Machine.Armed} :
    s.keeps [.emitted, .od, .modes, .ops, .chain, .nv, .host, .serial, .pwr, .sec] (State.leaveSafe s a) := by
  unfold State.leaveSafe; (try dsimp only)
  repeat' first
    | with_reducible exact State.keeps_refl
    | with_reducible refine State.completed_frame.last (by decide) ?_
    | with_reducible refine State.run_frame.last (by decide) ?_
    | with_reducible refine State.supersede_frame.last (by decide) ?_
    | with_reducible refine State.nvReopen_frame.last (by decide) ?_
    | with_reducible refine State.setO_keeps.last (by decide) ?_
    | with_reducible refine State.putMode_frame.last (by decide) ?_
    | with_reducible refine State.flushLog_keeps.last (by decide) ?_
    | with_reducible refine State.nvKick_frame.last (by decide) ?_
    | with_reducible refine State.keeps_foldl (fun _ _ => ?_) ?_
    | with_reducible refine State.keeps_ite ?_ ?_
    | split
    | with_reducible refine State.keeps_mk ?_

theorem State.vendorNext_frame {s : State} :
    s.keeps [.emitted, .od, .modes, .ops, .chain, .nv, .lanes, .aligned, .intake, .link, .fpa, .sp0, .pipe, .coef, .vdet,
      .ecl, .shut, .windows, .trig, .trigOut, .out0, .out1, .taps, .mem, .host, .dma, .rings, .serial, .hk, .pwr,
      .dbg, .free] (State.vendorNext s) := by
  unfold State.vendorNext; (try dsimp only)
  repeat' first
    | with_reducible exact State.keeps_refl
    | with_reducible refine State.toStandby_frame.last (by decide) ?_
    | with_reducible refine State.enter_frame.last (by decide) ?_
    | with_reducible refine State.keeps_foldl (fun _ _ => ?_) ?_
    | with_reducible refine State.keeps_ite ?_ ?_
    | split
    | with_reducible refine State.keeps_mk ?_

theorem State.activateTxn_frame {s : State} {a : Sys2Proof.Machine.Armed} :
    s.keeps [.emitted, .od, .modes, .ops, .chain, .nv, .lanes, .aligned, .intake, .link, .fpa, .sp0, .pipe, .coef, .vdet,
      .ecl, .shut, .windows, .trig, .trigOut, .out0, .out1, .taps, .mem, .host, .dma, .rings, .serial, .hk, .pwr,
      .sec, .dbg, .free] (State.activateTxn s a) := by
  unfold State.activateTxn; (try dsimp only)
  repeat' first
    | with_reducible exact State.keeps_refl
    | with_reducible refine State.switchMode_frame.last (by decide) ?_
    | with_reducible refine State.enter_frame.last (by decide) ?_
    | with_reducible refine State.toStandby_frame.last (by decide) ?_
    | with_reducible refine State.leaveSafe_frame.last (by decide) ?_
    | with_reducible refine State.vendorNext_frame.last (by decide) ?_
    | with_reducible refine State.recordTxn_frame.last (by decide) ?_
    | with_reducible refine State.report_frame.last (by decide) ?_
    | with_reducible refine State.toSafe_frame.last (by decide) ?_
    | with_reducible refine State.keeps_foldl (fun _ _ => ?_) ?_
    | with_reducible refine State.keeps_ite ?_ ?_
    | split
    | with_reducible refine State.keeps_mk ?_

theorem State.completeTransition_frame {s : State} {refresh : Bool} :
    s.keeps [.emitted, .od, .modes, .ops, .chain, .nv, .lanes, .aligned, .intake, .link, .fpa, .sp0, .pipe, .coef, .vdet,
      .ecl, .shut, .windows, .trig, .trigOut, .out0, .out1, .taps, .mem, .host, .dma, .rings, .serial, .hk, .pwr,
      .sec, .dbg, .free] (State.completeTransition s refresh) := by
  unfold State.completeTransition; (try dsimp only)
  repeat' first
    | with_reducible exact State.keeps_refl
    | with_reducible refine State.entryDone_frame.last (by decide) ?_
    | with_reducible refine State.wantOff_frame.last (by decide) ?_
    | with_reducible refine State.nvKick_frame.last (by decide) ?_
    | with_reducible refine State.vendorNext_frame.last (by decide) ?_
    | with_reducible refine State.completed_frame.last (by decide) ?_
    | with_reducible refine State.failTransition_frame.last (by decide) ?_
    | with_reducible refine State.modeProceed_frame.last (by decide) ?_
    | with_reducible refine State.keeps_foldl (fun _ _ => ?_) ?_
    | with_reducible refine State.keeps_ite ?_ ?_
    | split
    | with_reducible refine State.keeps_mk ?_

theorem State.eclipseEnds_frame {s : State} :
    s.keeps [.emitted, .od, .modes, .ops, .chain, .nv, .coef, .ecl, .windows, .host, .serial] (State.eclipseEnds s) := by
  unfold State.eclipseEnds; (try dsimp only)
  repeat' first
    | with_reducible exact State.keeps_refl
    | with_reducible refine State.switchMode_frame.last (by decide) ?_
    | with_reducible refine State.opEnd_frame.last (by decide) ?_
    | with_reducible refine State.opAt_frame.last (by decide) ?_
    | with_reducible refine State.skipParts_frame.last (by decide) ?_
    | with_reducible refine State.keeps_foldl (fun _ _ => ?_) ?_
    | with_reducible refine State.keeps_ite ?_ ?_
    | split
    | with_reducible refine State.keeps_mk ?_

theorem State.mandatoryFailed_frame {s : State} :
    s.keeps [.emitted, .od, .modes, .ops, .chain, .nv, .lanes, .aligned, .intake, .link, .pipe, .coef, .vdet, .ecl, .shut,
      .windows, .trig, .trigOut, .out0, .out1, .taps, .mem, .host, .dma, .rings, .serial, .hk, .pwr, .dbg, .free]
      (State.mandatoryFailed s) := by
  unfold State.mandatoryFailed; (try dsimp only)
  repeat' first
    | with_reducible exact State.keeps_refl
    | with_reducible refine State.setO_keeps.last (by decide) ?_
    | with_reducible refine State.toSafe_frame.last (by decide) ?_
    | with_reducible refine State.keeps_foldl (fun _ _ => ?_) ?_
    | with_reducible refine State.keeps_ite ?_ ?_
    | split
    | with_reducible refine State.keeps_mk ?_

theorem State.afterEcl_frame {s : State} :
    s.keeps [.emitted, .od, .modes, .ops, .chain, .nv, .lanes, .aligned, .intake, .link, .pipe, .coef, .vdet, .ecl, .shut,
      .windows, .trig, .trigOut, .out0, .out1, .taps, .mem, .host, .dma, .rings, .serial, .hk, .pwr, .dbg, .free]
      (State.afterEcl s) := by
  unfold State.afterEcl; (try dsimp only)
  repeat' first
    | with_reducible exact State.keeps_refl
    | with_reducible refine State.mandatoryFailed_frame.last (by decide) ?_
    | with_reducible refine State.prepAll_frame.last (by decide) ?_
    | with_reducible refine State.eclipseEnds_frame.last (by decide) ?_
    | with_reducible refine State.keeps_foldl (fun _ _ => ?_) ?_
    | with_reducible refine State.keeps_ite ?_ ?_
    | split
    | with_reducible refine State.keeps_mk ?_

theorem State.writeLease_frame {s : State} :
    s.keeps [.od, .chain, .nv, .free] (State.writeLease s) := by
  unfold State.writeLease; (try dsimp only)
  repeat' first
    | with_reducible exact State.keeps_refl
    | with_reducible refine State.updTwoSlot_keeps.last (by decide) ?_
    | with_reducible refine State.keeps_foldl (fun _ _ => ?_) ?_
    | with_reducible refine State.keeps_ite ?_ ?_
    | split
    | with_reducible refine State.keeps_mk ?_

theorem State.orphanRecord_frame {s : State} {good : Bool} :
    s.keeps [.od, .chain, .nv, .free] (State.orphanRecord s good) := by
  unfold State.orphanRecord; (try dsimp only)
  repeat' first
    | with_reducible exact State.keeps_refl
    | with_reducible refine State.nvFailed_keeps.last (by decide) ?_
    | with_reducible refine State.writeLease_frame.last (by decide) ?_
    | with_reducible refine State.pageIs_frame.last (by decide) ?_
    | with_reducible refine State.keeps_foldl (fun _ _ => ?_) ?_
    | with_reducible refine State.keeps_ite ?_ ?_
    | split
    | with_reducible refine State.keeps_mk ?_

theorem State.markOrphan_frame {s : State} :
    s.keeps [.modes] (State.markOrphan s) := by
  unfold State.markOrphan; (try dsimp only)
  repeat' first
    | with_reducible exact State.keeps_refl
    | with_reducible refine State.keeps_foldl (fun _ _ => ?_) ?_
    | with_reducible refine State.keeps_ite ?_ ?_
    | split
    | with_reducible refine State.keeps_mk ?_

theorem State.toOrphan_frame {s : State} {good : Bool} {station : ℕ} {epoch : ℕ} :
    s.keeps [.emitted, .od, .modes, .ops, .chain, .nv, .lanes, .aligned, .intake, .link, .fpa, .sp0, .coef, .vdet, .ecl,
      .shut, .windows, .trig, .trigOut, .out0, .out1, .mem, .host, .dma, .rings, .serial, .hk, .pwr, .free]
      (State.toOrphan s good station epoch) := by
  unfold State.toOrphan; (try dsimp only)
  repeat' first
    | with_reducible exact State.keeps_refl
    | with_reducible refine State.supersede_frame.last (by decide) ?_
    | with_reducible refine State.toStandby_frame.last (by decide) ?_
    | with_reducible refine State.closeAllNow_frame.last (by decide) ?_
    | with_reducible refine State.modeProceed_frame.last (by decide) ?_
    | with_reducible refine State.markOrphan_frame.last (by decide) ?_
    | with_reducible refine State.notify_keeps.last (by decide) ?_
    | with_reducible refine State.setOs_keeps.last (by decide) ?_
    | with_reducible refine State.orphanRecord_frame.last (by decide) ?_
    | with_reducible refine State.cancelArmed_frame.last (by decide) ?_
    | with_reducible refine State.discardRole_frame.last (by decide) ?_
    | with_reducible refine State.keeps_foldl (fun _ _ => ?_) ?_
    | with_reducible refine State.keeps_ite ?_ ?_
    | split
    | with_reducible refine State.keeps_mk ?_

theorem State.secEmpty_frame {s : State} {a : ℕ} {n : ℕ} :
    s.keeps [.od, .nv, .free] (State.secEmpty s a n) := by
  unfold State.secEmpty; (try dsimp only)
  repeat' first
    | with_reducible exact State.keeps_refl
    | with_reducible refine State.setKeep_keeps.last (by decide) ?_
    | with_reducible refine State.keeps_foldl (fun _ _ => ?_) ?_
    | with_reducible refine State.keeps_ite ?_ ?_
    | split
    | with_reducible refine State.keeps_mk ?_

theorem State.setKey_frame {s : State} {k : ℕ} {level : ℕ} {key : List Sys2Proof.Byte} :
    s.keeps [.od, .nv, .free] (State.setKey s k level key) := by
  unfold State.setKey; (try dsimp only)
  repeat' first
    | with_reducible exact State.keeps_refl
    | with_reducible refine State.setKeep_keeps.last (by decide) ?_
    | with_reducible refine State.keeps_foldl (fun _ _ => ?_) ?_
    | with_reducible refine State.keeps_ite ?_ ?_
    | split
    | with_reducible refine State.keeps_mk ?_

theorem State.setArchiveKey_frame {s : State} {key : List Sys2Proof.Byte} :
    s.keeps [.od, .nv, .free] (State.setArchiveKey s key) := by
  unfold State.setArchiveKey; (try dsimp only)
  repeat' first
    | with_reducible exact State.keeps_refl
    | with_reducible refine State.setKeep_keeps.last (by decide) ?_
    | with_reducible refine State.keeps_foldl (fun _ _ => ?_) ?_
    | with_reducible refine State.keeps_ite ?_ ?_
    | split
    | with_reducible refine State.keeps_mk ?_

theorem State.setTokenKey_frame {s : State} {h : List Sys2Proof.Byte} :
    s.keeps [.od, .nv, .free] (State.setTokenKey s h) := by
  unfold State.setTokenKey; (try dsimp only)
  repeat' first
    | with_reducible exact State.keeps_refl
    | with_reducible refine State.setKeep_keeps.last (by decide) ?_
    | with_reducible refine State.keeps_foldl (fun _ _ => ?_) ?_
    | with_reducible refine State.keeps_ite ?_ ?_
    | split
    | with_reducible refine State.keeps_mk ?_

theorem State.random_frame {s : State} {n : ℕ} :
    s.keeps [.sec] ((State.random s n).1) := by
  unfold State.random; (try dsimp only)
  repeat' first
    | with_reducible exact State.keeps_refl
    | with_reducible refine State.keeps_foldl (fun _ _ => ?_) ?_
    | with_reducible refine State.keeps_ite ?_ ?_
    | split
    | with_reducible refine State.keeps_mk ?_

theorem State.renewNonce_frame {s : State} :
    s.keeps [.od, .nv, .sec, .free] (State.renewNonce s) := by
  unfold State.renewNonce; (try dsimp only)
  repeat' first
    | with_reducible exact State.keeps_refl
    | with_reducible refine State.setKeep_keeps.last (by decide) ?_
    | with_reducible refine State.random_frame.last (by decide) ?_
    | with_reducible refine State.keeps_foldl (fun _ _ => ?_) ?_
    | with_reducible refine State.keeps_ite ?_ ?_
    | split
    | with_reducible refine State.keeps_mk ?_

theorem State.closeSession_frame {s : State} {id : ℕ} :
    s.keeps [.chain] (State.closeSession s id) := by
  unfold State.closeSession; (try dsimp only)
  repeat' first
    | with_reducible exact State.keeps_refl
    | with_reducible refine State.keeps_foldl (fun _ _ => ?_) ?_
    | with_reducible refine State.keeps_ite ?_ ?_
    | split
    | with_reducible refine State.keeps_mk ?_

theorem State.closeHostSession_frame {s : State} :
    s.keeps [.host] (State.closeHostSession s) := by
  unfold State.closeHostSession; (try dsimp only)
  repeat' first
    | with_reducible exact State.keeps_refl
    | with_reducible refine State.keeps_foldl (fun _ _ => ?_) ?_
    | with_reducible refine State.keeps_ite ?_ ?_
    | split
    | with_reducible refine State.keeps_mk ?_

theorem State.closeAll_frame {s : State} :
    s.keeps [.chain, .host] (State.closeAll s) := by
  unfold State.closeAll; (try dsimp only)
  repeat' first
    | with_reducible exact State.keeps_refl
    | with_reducible refine State.closeSession_frame.last (by decide) ?_
    | with_reducible refine State.closeHostSession_frame.last (by decide) ?_
    | with_reducible refine State.keeps_foldl (fun _ _ => ?_) ?_
    | with_reducible refine State.keeps_ite ?_ ?_
    | split
    | with_reducible refine State.keeps_mk ?_

theorem State.closeKey_frame {s : State} {k : ℕ} :
    s.keeps [.chain, .host] (State.closeKey s k) := by
  unfold State.closeKey; (try dsimp only)
  repeat' first
    | with_reducible exact State.keeps_refl
    | with_reducible refine State.closeHostSession_frame.last (by decide) ?_
    | with_reducible refine State.closeSession_frame.last (by decide) ?_
    | with_reducible refine State.keeps_foldl (fun _ _ => ?_) ?_
    | with_reducible refine State.keeps_ite ?_ ?_
    | split
    | with_reducible refine State.keeps_mk ?_

theorem State.setAuth_frame {s : State} {path : ℕ} {fails : ℕ} {lock : Option ℕ} :
    s.keeps [.sec] (State.setAuth s path fails lock) := by
  unfold State.setAuth; (try dsimp only)
  repeat' first
    | with_reducible exact State.keeps_refl
    | with_reducible refine State.keeps_foldl (fun _ _ => ?_) ?_
    | with_reducible refine State.keeps_ite ?_ ?_
    | split
    | with_reducible refine State.keeps_mk ?_

theorem State.proveFailed_frame {s : State} {path : ℕ} :
    s.keeps [.od, .nv, .sec, .free] (State.proveFailed s path) := by
  unfold State.proveFailed; (try dsimp only)
  repeat' first
    | with_reducible exact State.keeps_refl
    | with_reducible refine State.setAuth_frame.last (by decide) ?_
    | with_reducible refine State.log_keeps.last (by decide) ?_
    | with_reducible refine State.inc_keeps.last (by decide) ?_
    | with_reducible refine State.keeps_foldl (fun _ _ => ?_) ?_
    | with_reducible refine State.keeps_ite ?_ ?_
    | split
    | with_reducible refine State.keeps_mk ?_

theorem State.zeroiseKeys_frame {s : State} :
    s.keeps [.od, .nv, .sec, .free] (State.zeroiseKeys s) := by
  unfold State.zeroiseKeys; (try dsimp only)
  repeat' first
    | with_reducible exact State.keeps_refl
    | with_reducible refine State.log_keeps.last (by decide) ?_
    | with_reducible refine State.secEmpty_frame.last (by decide) ?_
    | with_reducible refine State.keeps_foldl (fun _ _ => ?_) ?_
    | with_reducible refine State.keeps_ite ?_ ?_
    | split
    | with_reducible refine State.keeps_mk ?_

theorem State.debugDomain_frame {s : State} :
    s.keeps [.od, .hk, .pwr] (State.debugDomain s) := by
  unfold State.debugDomain; (try dsimp only)
  repeat' first
    | with_reducible exact State.keeps_refl
    | with_reducible refine State.wantOn_frame.last (by decide) ?_
    | with_reducible refine State.wantOff_frame.last (by decide) ?_
    | with_reducible refine State.keeps_foldl (fun _ _ => ?_) ?_
    | with_reducible refine State.keeps_ite ?_ ?_
    | split
    | with_reducible refine State.keeps_mk ?_

theorem State.raiseArb_frame {s : State} {svn : ℕ} :
    s.keeps [.od, .nv, .free] (State.raiseArb s svn) := by
  unfold State.raiseArb; (try dsimp only)
  repeat' first
    | with_reducible exact State.keeps_refl
    | with_reducible refine State.updTwoSlot_keeps.last (by decide) ?_
    | with_reducible refine State.setO_keeps.last (by decide) ?_
    | with_reducible refine State.log_keeps.last (by decide) ?_
    | with_reducible refine State.keeps_foldl (fun _ _ => ?_) ?_
    | with_reducible refine State.keeps_ite ?_ ?_
    | split
    | with_reducible refine State.keeps_mk ?_

theorem State.keptCounters_frame {s : State} :
    s.keeps [.od] (State.keptCounters s) := by
  unfold State.keptCounters; (try dsimp only)
  repeat' first
    | with_reducible exact State.keeps_refl
    | with_reducible refine State.setOs_keeps.last (by decide) ?_
    | with_reducible refine State.keeps_foldl (fun _ _ => ?_) ?_
    | with_reducible refine State.keeps_ite ?_ ?_
    | split
    | with_reducible refine State.keeps_mk ?_

theorem State.logWrite_frame {s : State} {via : Sys2Proof.Via} {key : ℕ} :
    s.keeps [.od, .nv, .free] (State.logWrite s via key) := by
  unfold State.logWrite; (try dsimp only)
  repeat' first
    | with_reducible exact State.keeps_refl
    | with_reducible refine State.logRaw_keeps.last (by decide) ?_
    | with_reducible refine State.keeps_foldl (fun _ _ => ?_) ?_
    | with_reducible refine State.keeps_ite ?_ ?_
    | split
    | with_reducible refine State.keeps_mk ?_

theorem State.takeTelegram_frame {s : State} {b : Bool} :
    s.keeps [.chain] (State.takeTelegram s b) := by
  unfold State.takeTelegram; (try dsimp only)
  repeat' first
    | with_reducible exact State.keeps_refl
    | with_reducible refine State.setPort_keeps.last (by decide) ?_
    | with_reducible refine State.keeps_foldl (fun _ _ => ?_) ?_
    | with_reducible refine State.keeps_ite ?_ ?_
    | split
    | with_reducible refine State.keeps_mk ?_

theorem State.place_frame {s : State} {r : Sys2Proof.Req} :
    s.keeps [.od] (State.place s r) := by
  unfold State.place; (try dsimp only)
  repeat' first
    | with_reducible exact State.keeps_refl
    | with_reducible refine State.setO_keeps.last (by decide) ?_
    | with_reducible refine State.keeps_foldl (fun _ _ => ?_) ?_
    | with_reducible refine State.keeps_ite ?_ ?_
    | split
    | with_reducible refine State.keeps_mk ?_

theorem State.answer_frame {s : State} {r : Sys2Proof.Req} {type : ℕ} {a : Sys2Proof.Machine.Reply} :
    s.keeps [.chain] (State.answer s r type a) := by
  unfold State.answer; (try dsimp only)
  repeat' first
    | with_reducible exact State.keeps_refl
    | with_reducible refine State.replyErr_keeps.last (by decide) ?_
    | with_reducible refine State.reply_keeps.last (by decide) ?_
    | with_reducible refine State.keeps_foldl (fun _ _ => ?_) ?_
    | with_reducible refine State.keeps_ite ?_ ?_
    | split
    | with_reducible refine State.keeps_mk ?_

theorem State.keepReply_frame {s : State} {r : Sys2Proof.Req} {type : ℕ} {a : Sys2Proof.Machine.Reply} :
    s.keeps [.chain] (State.keepReply s r type a) := by
  unfold State.keepReply; (try dsimp only)
  repeat' first
    | with_reducible exact State.keeps_refl
    | with_reducible refine State.keeps_foldl (fun _ _ => ?_) ?_
    | with_reducible refine State.keeps_ite ?_ ?_
    | split
    | with_reducible refine State.keeps_mk ?_

theorem State.timeoutTransition_frame {s : State} :
    s.keeps [.emitted, .od, .modes, .ops, .chain, .nv, .lanes, .aligned, .intake, .link, .pipe, .coef, .vdet, .ecl, .shut,
      .windows, .trig, .trigOut, .out0, .out1, .taps, .mem, .host, .dma, .rings, .serial, .hk, .pwr, .dbg, .free]
      (State.timeoutTransition s) := by
  unfold State.timeoutTransition; (try dsimp only)
  repeat' first
    | with_reducible exact State.keeps_refl
    | with_reducible refine State.failTransition_frame.last (by decide) ?_
    | with_reducible refine State.keeps_foldl (fun _ _ => ?_) ?_
    | with_reducible refine State.keeps_ite ?_ ?_
    | split
    | with_reducible refine State.keeps_mk ?_

theorem State.linkTrain_frame {s : State} {rate : ℕ} {lanes : ℕ} :
    s.keeps [.od, .host] (State.linkTrain s rate lanes) := by
  unfold State.linkTrain; (try dsimp only)
  repeat' first
    | with_reducible exact State.keeps_refl
    | with_reducible refine State.setO_keeps.last (by decide) ?_
    | with_reducible refine State.keeps_foldl (fun _ _ => ?_) ?_
    | with_reducible refine State.keeps_ite ?_ ?_
    | split
    | with_reducible refine State.keeps_mk ?_

theorem State.functionReset_frame {s : State} :
    s.keeps [.bar0, .host] (State.functionReset s) := by
  unfold State.functionReset; (try dsimp only)
  repeat' first
    | with_reducible exact State.keeps_refl
    | with_reducible refine State.keeps_foldl (fun _ _ => ?_) ?_
    | with_reducible refine State.keeps_ite ?_ ?_
    | split
    | with_reducible refine State.keeps_mk ?_

theorem State.sendPending_frame {s : State} :
    s.keeps [.emitted, .host] (State.sendPending s) := by
  unfold State.sendPending; (try dsimp only)
  repeat' first
    | with_reducible exact State.keeps_refl
    | with_reducible refine State.emit_keeps.last (by decide) ?_
    | with_reducible refine State.keeps_foldl (fun _ _ => ?_) ?_
    | with_reducible refine State.keeps_ite ?_ ?_
    | split
    | with_reducible refine State.keeps_mk ?_

theorem State.blockedWrite_frame {s : State} {a : ℕ} {n : ℕ} :
    s.keeps [.od, .nv, .free] (State.blockedWrite s a n) := by
  unfold State.blockedWrite; (try dsimp only)
  repeat' first
    | with_reducible exact State.keeps_refl
    | with_reducible refine State.inc_keeps.last (by decide) ?_
    | with_reducible refine State.logEvt_keeps.last (by decide) ?_
    | with_reducible refine State.keeps_foldl (fun _ _ => ?_) ?_
    | with_reducible refine State.keeps_ite ?_ ?_
    | split
    | with_reducible refine State.keeps_mk ?_

theorem State.traffic_frame {s : State} {n : ℕ} :
    s.keeps [.host] (State.traffic s n) := by
  unfold State.traffic; (try dsimp only)
  repeat' first
    | with_reducible exact State.keeps_refl
    | with_reducible refine State.keeps_foldl (fun _ _ => ?_) ?_
    | with_reducible refine State.keeps_ite ?_ ?_
    | split
    | with_reducible refine State.keeps_mk ?_

theorem State.offlineHit_frame {s : State} :
    s.keeps [.od, .mem] (State.offlineHit s) := by
  unfold State.offlineHit; (try dsimp only)
  repeat' first
    | with_reducible exact State.keeps_refl
    | with_reducible refine State.inc_keeps.last (by decide) ?_
    | with_reducible refine State.keeps_foldl (fun _ _ => ?_) ?_
    | with_reducible refine State.keeps_ite ?_ ?_
    | split
    | with_reducible refine State.keeps_mk ?_

theorem State.gradeChanged_frame {s : State} :
    s.keeps [.od, .hk, .pwr, .dbg] (State.gradeChanged s) := by
  unfold State.gradeChanged; (try dsimp only)
  repeat' first
    | with_reducible exact State.keeps_refl
    | with_reducible refine State.wantOff_frame.last (by decide) ?_
    | with_reducible refine State.debugDomain_frame.last (by decide) ?_
    | with_reducible refine State.keeps_foldl (fun _ _ => ?_) ?_
    | with_reducible refine State.keeps_ite ?_ ?_
    | split
    | with_reducible refine State.keeps_mk ?_

theorem State.lockDebug_frame {s : State} :
    s.keeps [.od, .hk, .pwr, .dbg] (State.lockDebug s) := by
  unfold State.lockDebug; (try dsimp only)
  repeat' first
    | with_reducible exact State.keeps_refl
    | with_reducible refine State.gradeChanged_frame.last (by decide) ?_
    | with_reducible refine State.keeps_foldl (fun _ _ => ?_) ?_
    | with_reducible refine State.keeps_ite ?_ ?_
    | split
    | with_reducible refine State.keeps_mk ?_

theorem State.submitToken_frame {s : State} {v : List Sys2Proof.Byte} :
    s.keeps [.dbg] (State.submitToken s v) := by
  unfold State.submitToken; (try dsimp only)
  repeat' first
    | with_reducible exact State.keeps_refl
    | with_reducible refine State.keeps_foldl (fun _ _ => ?_) ?_
    | with_reducible refine State.keeps_ite ?_ ?_
    | split
    | with_reducible refine State.keeps_mk ?_

theorem State.acceptToken_frame {s : State} {kind : ℕ} :
    s.keeps [.emitted, .od, .modes, .ops, .chain, .nv, .lanes, .aligned, .intake, .link, .fpa, .sp0, .pipe, .coef, .vdet,
      .ecl, .shut, .windows, .trig, .trigOut, .out0, .out1, .taps, .mem, .host, .dma, .rings, .serial, .hk, .pwr,
      .sec, .dbg, .free] (State.acceptToken s kind) := by
  unfold State.acceptToken; (try dsimp only)
  repeat' first
    | with_reducible exact State.keeps_refl
    | with_reducible refine State.cancelArmed_frame.last (by decide) ?_
    | with_reducible refine State.vendorNext_frame.last (by decide) ?_
    | with_reducible refine State.zeroiseKeys_frame.last (by decide) ?_
    | with_reducible refine State.closeAll_frame.last (by decide) ?_
    | with_reducible refine State.gradeChanged_frame.last (by decide) ?_
    | with_reducible refine State.log_keeps.last (by decide) ?_
    | with_reducible refine State.keeps_foldl (fun _ _ => ?_) ?_
    | with_reducible refine State.keeps_ite ?_ ?_
    | split
    | with_reducible refine State.keeps_mk ?_

theorem State.loadIr_frame {s : State} {code : ℕ} :
    s.keeps [.dbg] (State.loadIr s code) := by
  unfold State.loadIr; (try dsimp only)
  repeat' first
    | with_reducible exact State.keeps_refl
    | with_reducible refine State.keeps_foldl (fun _ _ => ?_) ?_
    | with_reducible refine State.keeps_ite ?_ ?_
    | split
    | with_reducible refine State.keeps_mk ?_

theorem State.bypass_frame {s : State} :
    s.keeps [.emitted, .dbg] (State.bypass s) := by
  unfold State.bypass; (try dsimp only)
  repeat' first
    | with_reducible exact State.keeps_refl
    | with_reducible refine State.loadIr_frame.last (by decide) ?_
    | with_reducible refine State.emit_keeps.last (by decide) ?_
    | with_reducible refine State.keeps_foldl (fun _ _ => ?_) ?_
    | with_reducible refine State.keeps_ite ?_ ?_
    | split
    | with_reducible refine State.keeps_mk ?_

theorem State.debugAccess_frame {s : State} {k : ℕ} {d : ℕ} {addr : ℕ} :
    s.keeps [.emitted, .od, .hk, .pwr, .dbg, .free] (State.debugAccess s k d addr) := by
  unfold State.debugAccess; (try dsimp only)
  repeat' first
    | with_reducible exact State.keeps_refl
    | with_reducible refine State.wantOff_frame.last (by decide) ?_
    | with_reducible refine State.wantOn_frame.last (by decide) ?_
    | with_reducible refine State.emit_keeps.last (by decide) ?_
    | with_reducible refine State.keeps_foldl (fun _ _ => ?_) ?_
    | with_reducible refine State.keeps_ite ?_ ?_
    | split
    | with_reducible refine State.keeps_mk ?_

theorem State.commitRefused_frame {s : State} {mask : ℕ} {code : ℕ} :
    s.keeps [.od, .gen] (State.commitRefused s mask code) := by
  unfold State.commitRefused; (try dsimp only)
  repeat' first
    | with_reducible exact State.keeps_refl
    | with_reducible refine State.countRefused_frame.last (by decide) ?_
    | with_reducible refine State.keeps_foldl (fun _ _ => ?_) ?_
    | with_reducible refine State.keeps_ite ?_ ?_
    | split
    | with_reducible refine State.keeps_mk ?_

theorem State.setVdet_frame {s : State} {p : Sys2Proof.Pos} {v : Sys2Proof.Machine.VdetPos} :
    s.keeps [.vdet] (State.setVdet s p v) := by
  unfold State.setVdet; (try dsimp only)
  repeat' first
    | with_reducible exact State.keeps_refl
    | with_reducible refine State.keeps_foldl (fun _ _ => ?_) ?_
    | with_reducible refine State.keeps_ite ?_ ?_
    | split
    | with_reducible refine State.keeps_mk ?_

theorem State.rampEnded_frame {s : State} {p : Sys2Proof.Pos} {at_ : ℕ} :
    s.keeps [.od, .vdet] (State.rampEnded s p at_) := by
  unfold State.rampEnded; (try dsimp only)
  repeat' first
    | with_reducible exact State.keeps_refl
    | with_reducible refine State.setO_keeps.last (by decide) ?_
    | with_reducible refine State.setVdet_frame.last (by decide) ?_
    | with_reducible refine State.keeps_foldl (fun _ _ => ?_) ?_
    | with_reducible refine State.keeps_ite ?_ ?_
    | split
    | with_reducible refine State.keeps_mk ?_

theorem State.railsLost_frame {s : State} {p : Sys2Proof.Pos} :
    s.keeps [.od] (State.railsLost s p) := by
  unfold State.railsLost; (try dsimp only)
  repeat' first
    | with_reducible exact State.keeps_refl
    | with_reducible refine State.setO_keeps.last (by decide) ?_
    | with_reducible refine State.keeps_foldl (fun _ _ => ?_) ?_
    | with_reducible refine State.keeps_ite ?_ ?_
    | split
    | with_reducible refine State.keeps_mk ?_

theorem State.vdetFault_frame {s : State} {p : Sys2Proof.Pos} {ma : ℕ} :
    s.keeps [.emitted, .od, .modes, .ops, .chain, .nv, .lanes, .aligned, .intake, .link, .pipe, .coef, .vdet, .ecl, .shut,
      .windows, .trig, .trigOut, .out0, .out1, .taps, .mem, .host, .dma, .rings, .serial, .hk, .pwr, .dbg, .free]
      (State.vdetFault s p ma) := by
  unfold State.vdetFault; (try dsimp only)
  repeat' first
    | with_reducible exact State.keeps_refl
    | with_reducible refine State.failTransition_frame.last (by decide) ?_
    | with_reducible refine State.setO_keeps.last (by decide) ?_
    | with_reducible refine State.inc_keeps.last (by decide) ?_
    | with_reducible refine State.notify_keeps.last (by decide) ?_
    | with_reducible refine State.setVdet_frame.last (by decide) ?_
    | with_reducible refine State.railsLost_frame.last (by decide) ?_
    | with_reducible refine State.keeps_foldl (fun _ _ => ?_) ?_
    | with_reducible refine State.keeps_ite ?_ ?_
    | split
    | with_reducible refine State.keeps_mk ?_

theorem State.setStat_frame {s : State} {p : Sys2Proof.Pos} {x : Sys2Proof.Machine.StatPos} :
    s.keeps [.stat] (State.setStat s p x) := by
  unfold State.setStat; (try dsimp only)
  repeat' first
    | with_reducible exact State.keeps_refl
    | with_reducible refine State.keeps_foldl (fun _ _ => ?_) ?_
    | with_reducible refine State.keeps_ite ?_ ?_
    | split
    | with_reducible refine State.keeps_mk ?_

theorem State.latchStat_frame {s : State} {p : Sys2Proof.Pos} :
    s.keeps [.stat, .mem] (State.latchStat s p) := by
  unfold State.latchStat; (try dsimp only)
  repeat' first
    | with_reducible exact State.keeps_refl
    | with_reducible refine State.setDram_frame.last (by decide) ?_
    | with_reducible refine State.setStat_frame.last (by decide) ?_
    | with_reducible refine State.keeps_foldl (fun _ _ => ?_) ?_
    | with_reducible refine State.keeps_ite ?_ ?_
    | split
    | with_reducible refine State.keeps_mk ?_

theorem State.snapshot_frame {s : State} {p : Sys2Proof.Pos} {session : ℕ} {offset : ℕ} {now : List Sys2Proof.Byte} :
    s.keeps [.stat] ((State.snapshot s p session offset now).1) := by
  unfold State.snapshot; (try dsimp only)
  repeat' first
    | with_reducible exact State.keeps_refl
    | with_reducible refine State.setStat_frame.last (by decide) ?_
    | with_reducible refine State.keeps_foldl (fun _ _ => ?_) ?_
    | with_reducible refine State.keeps_ite ?_ ?_
    | split
    | with_reducible refine State.keeps_mk ?_

theorem State.statRead_frame {s : State} {via : Sys2Proof.Via} {p : Sys2Proof.Pos} {offset : ℕ} {len : ℕ} :
    s.keeps [.stat] ((State.statRead s via p offset len).1) := by
  unfold State.statRead; (try dsimp only)
  repeat' first
    | with_reducible exact State.keeps_refl
    | with_reducible refine State.snapshot_frame.last (by decide) ?_
    | with_reducible refine State.keeps_foldl (fun _ _ => ?_) ?_
    | with_reducible refine State.keeps_ite ?_ ?_
    | split
    | with_reducible refine State.keeps_mk ?_

theorem State.faultClear_frame {s : State} {p : Sys2Proof.Pos} :
    s.keeps [.ecl, .shut] (State.faultClear s p) := by
  unfold State.faultClear; (try dsimp only)
  repeat' first
    | with_reducible exact State.keeps_refl
    | with_reducible refine State.askPulse_frame.last (by decide) ?_
    | with_reducible refine State.setEcl_frame.last (by decide) ?_
    | with_reducible refine State.keeps_foldl (fun _ _ => ?_) ?_
    | with_reducible refine State.keeps_ite ?_ ?_
    | split
    | with_reducible refine State.keeps_mk ?_

theorem State.sensorTime_frame {s : State} {p : Sys2Proof.Pos} {closed : Bool} :
    s.keeps [.ecl] (State.sensorTime s p closed) := by
  unfold State.sensorTime; (try dsimp only)
  repeat' first
    | with_reducible exact State.keeps_refl
    | with_reducible refine State.setEcl_frame.last (by decide) ?_
    | with_reducible refine State.keeps_foldl (fun _ _ => ?_) ?_
    | with_reducible refine State.keeps_ite ?_ ?_
    | split
    | with_reducible refine State.keeps_mk ?_

theorem State.pulseLongest_frame {s : State} {x : Sys2Proof.Machine.Pulse} {since : ℕ} :
    s.keeps [.emitted, .od, .chain, .nv, .coef, .ecl, .shut, .host, .free] (State.pulseLongest s x since) := by
  unfold State.pulseLongest; (try dsimp only)
  repeat' first
    | with_reducible exact State.keeps_refl
    | with_reducible refine State.pulseFault_frame.last (by decide) ?_
    | with_reducible refine State.pulseDone_frame.last (by decide) ?_
    | with_reducible refine State.keeps_foldl (fun _ _ => ?_) ?_
    | with_reducible refine State.keeps_ite ?_ ?_
    | split
    | with_reducible refine State.keeps_mk ?_

theorem State.evaluatePos_frame {s : State} {p : Sys2Proof.Pos} :
    s.keeps [.od, .ecl] (State.evaluatePos s p) := by
  unfold State.evaluatePos; (try dsimp only)
  repeat' first
    | with_reducible exact State.keeps_refl
    | with_reducible refine State.becomeDue_frame.last (by decide) ?_
    | with_reducible refine State.setO_keeps.last (by decide) ?_
    | with_reducible refine State.keeps_foldl (fun _ _ => ?_) ?_
    | with_reducible refine State.keeps_ite ?_ ?_
    | split
    | with_reducible refine State.keeps_mk ?_

theorem State.storeWindow_frame {s : State} {r : Sys2Proof.Req} :
    s.keeps [.od, .ecl, .windows] ((State.storeWindow s r).1) := by
  unfold State.storeWindow; (try dsimp only)
  repeat' first
    | with_reducible exact State.keeps_refl
    | with_reducible refine State.addWindow_frame.last (by decide) ?_
    | with_reducible refine State.keeps_foldl (fun _ _ => ?_) ?_
    | with_reducible refine State.keeps_ite ?_ ?_
    | split
    | with_reducible refine State.keeps_mk ?_

theorem State.passedOver_frame {s : State} {was : ℕ} :
    s.keeps [.emitted, .od, .modes, .ops, .chain, .nv, .lanes, .aligned, .intake, .link, .fpa, .sp0, .pipe, .coef, .vdet,
      .ecl, .shut, .windows, .trig, .trigOut, .out0, .out1, .taps, .mem, .host, .dma, .rings, .serial, .hk, .pwr,
      .sec, .dbg, .free] (State.passedOver s was) := by
  unfold State.passedOver; (try dsimp only)
  repeat' first
    | with_reducible exact State.keeps_refl
    | with_reducible refine State.activateTxn_frame.last (by decide) ?_
    | with_reducible refine State.keeps_foldl (fun _ _ => ?_) ?_
    | with_reducible refine State.keeps_ite ?_ ?_
    | split
    | with_reducible refine State.keeps_mk ?_

theorem State.stepTo_frame {s : State} {to_ : ℕ} :
    s.keeps [.emitted, .od, .time, .modes, .ops, .chain, .nv, .lanes, .aligned, .intake, .link, .fpa, .sp0, .pipe, .coef,
      .vdet, .ecl, .shut, .windows, .tg, .trig, .trigOut, .out0, .out1, .taps, .mem, .host, .dma, .rings, .serial,
      .hk, .pwr, .sec, .dbg, .free] (State.stepTo s to_) := by
  unfold State.stepTo; (try dsimp only)
  repeat' first
    | with_reducible exact State.keeps_refl
    | with_reducible refine State.passedOver_frame.last (by decide) ?_
    | with_reducible refine State.stepTime_frame.last (by decide) ?_
    | with_reducible refine State.keeps_foldl (fun _ _ => ?_) ?_
    | with_reducible refine State.keeps_ite ?_ ?_
    | split
    | with_reducible refine State.keeps_mk ?_

theorem State.servo_frame {s : State} {off : ℤ} :
    s.keeps [.od, .time] (State.servo s off) := by
  unfold State.servo; (try dsimp only)
  repeat' first
    | with_reducible exact State.keeps_refl
    | with_reducible refine State.setO_keeps.last (by decide) ?_
    | with_reducible refine State.keeps_foldl (fun _ _ => ?_) ?_
    | with_reducible refine State.keeps_ite ?_ ?_
    | split
    | with_reducible refine State.keeps_mk ?_

theorem State.blockedStep_frame {s : State} {off : ℤ} :
    s.keeps [.emitted, .od, .time, .chain, .nv, .host, .free] (State.blockedStep s off) := by
  unfold State.blockedStep; (try dsimp only)
  repeat' first
    | with_reducible exact State.keeps_refl
    | with_reducible refine State.notify_keeps.last (by decide) ?_
    | with_reducible refine State.keeps_foldl (fun _ _ => ?_) ?_
    | with_reducible refine State.keeps_ite ?_ ?_
    | split
    | with_reducible refine State.keeps_mk ?_

theorem State.correctTime_frame {s : State} {off : ℤ} :
    s.keeps [.emitted, .od, .time, .modes, .ops, .chain, .nv, .lanes, .aligned, .intake, .link, .fpa, .sp0, .pipe, .coef,
      .vdet, .ecl, .shut, .windows, .tg, .trig, .trigOut, .out0, .out1, .taps, .mem, .host, .dma, .rings, .serial,
      .hk, .pwr, .sec, .dbg, .free] (State.correctTime s off) := by
  unfold State.correctTime; (try dsimp only)
  repeat' first
    | with_reducible exact State.keeps_refl
    | with_reducible refine State.servo_frame.last (by decide) ?_
    | with_reducible refine State.blockedStep_frame.last (by decide) ?_
    | with_reducible refine State.stepTo_frame.last (by decide) ?_
    | with_reducible refine State.keeps_foldl (fun _ _ => ?_) ?_
    | with_reducible refine State.keeps_ite ?_ ?_
    | split
    | with_reducible refine State.keeps_mk ?_

theorem State.clockState_frame {s : State} {n : ℕ} :
    s.keeps [.od, .time] (State.clockState s n) := by
  unfold State.clockState; (try dsimp only)
  repeat' first
    | with_reducible exact State.keeps_refl
    | with_reducible refine State.setO_keeps.last (by decide) ?_
    | with_reducible refine State.timeState_frame.last (by decide) ?_
    | with_reducible refine State.keeps_foldl (fun _ _ => ?_) ?_
    | with_reducible refine State.keeps_ite ?_ ?_
    | split
    | with_reducible refine State.keeps_mk ?_

theorem State.judgeOffset_frame {s : State} {off : ℤ} :
    s.keeps [.od, .time] (State.judgeOffset s off) := by
  unfold State.judgeOffset; (try dsimp only)
  repeat' first
    | with_reducible exact State.keeps_refl
    | with_reducible refine State.clockState_frame.last (by decide) ?_
    | with_reducible refine State.keeps_foldl (fun _ _ => ?_) ?_
    | with_reducible refine State.keeps_ite ?_ ?_
    | split
    | with_reducible refine State.keeps_mk ?_

theorem State.measured_frame {s : State} {off : ℤ} :
    s.keeps [.emitted, .od, .time, .modes, .ops, .chain, .nv, .lanes, .aligned, .intake, .link, .fpa, .sp0, .pipe, .coef,
      .vdet, .ecl, .shut, .windows, .tg, .trig, .trigOut, .out0, .out1, .taps, .mem, .host, .dma, .rings, .serial,
      .hk, .pwr, .sec, .dbg, .free] (State.measured s off) := by
  unfold State.measured; (try dsimp only)
  repeat' first
    | with_reducible exact State.keeps_refl
    | with_reducible refine State.judgeOffset_frame.last (by decide) ?_
    | with_reducible refine State.correctTime_frame.last (by decide) ?_
    | with_reducible refine State.setO_keeps.last (by decide) ?_
    | with_reducible refine State.keeps_foldl (fun _ _ => ?_) ?_
    | with_reducible refine State.keeps_ite ?_ ?_
    | split
    | with_reducible refine State.keeps_mk ?_

theorem State.selectMaster_frame {s : State} {m : List ℕ} {port : ℕ} :
    s.keeps [.od, .time] (State.selectMaster s m port) := by
  unfold State.selectMaster; (try dsimp only)
  repeat' first
    | with_reducible exact State.keeps_refl
    | with_reducible refine State.clockState_frame.last (by decide) ?_
    | with_reducible refine State.setO_keeps.last (by decide) ?_
    | with_reducible refine State.keeps_foldl (fun _ _ => ?_) ?_
    | with_reducible refine State.keeps_ite ?_ ?_
    | split
    | with_reducible refine State.keeps_mk ?_

theorem State.announced_frame {s : State} {m : List ℕ} {port : ℕ} :
    s.keeps [.od, .time] (State.announced s m port) := by
  unfold State.announced; (try dsimp only)
  repeat' first
    | with_reducible exact State.keeps_refl
    | with_reducible refine State.selectMaster_frame.last (by decide) ?_
    | with_reducible refine State.keeps_foldl (fun _ _ => ?_) ?_
    | with_reducible refine State.keeps_ite ?_ ?_
    | split
    | with_reducible refine State.keeps_mk ?_

theorem State.synced_frame {s : State} {t1 : ℤ} {t2 : ℤ} :
    s.keeps [.emitted, .od, .time, .modes, .ops, .chain, .nv, .lanes, .aligned, .intake, .link, .fpa, .sp0, .pipe, .coef,
      .vdet, .ecl, .shut, .windows, .tg, .trig, .trigOut, .out0, .out1, .taps, .mem, .host, .dma, .rings, .serial,
      .hk, .pwr, .sec, .dbg, .free] (State.synced s t1 t2) := by
  unfold State.synced; (try dsimp only)
  repeat' first
    | with_reducible exact State.keeps_refl
    | with_reducible refine State.measured_frame.last (by decide) ?_
    | with_reducible refine State.keeps_foldl (fun _ _ => ?_) ?_
    | with_reducible refine State.keeps_ite ?_ ?_
    | split
    | with_reducible refine State.keeps_mk ?_

theorem State.sendDelayReq_frame {s : State} {egress : ℕ} :
    s.keeps [.emitted, .time] (State.sendDelayReq s egress) := by
  unfold State.sendDelayReq; (try dsimp only)
  repeat' first
    | with_reducible exact State.keeps_refl
    | with_reducible refine State.emit_keeps.last (by decide) ?_
    | with_reducible refine State.keeps_foldl (fun _ _ => ?_) ?_
    | with_reducible refine State.keeps_ite ?_ ?_
    | split
    | with_reducible refine State.keeps_mk ?_

theorem State.ptp_frame {s : State} {m : Sys2Proof.PtpMsg} :
    s.keeps [.emitted, .od, .time, .modes, .ops, .chain, .nv, .lanes, .aligned, .intake, .link, .fpa, .sp0, .pipe, .coef,
      .vdet, .ecl, .shut, .windows, .tg, .trig, .trigOut, .out0, .out1, .taps, .mem, .host, .dma, .rings, .serial,
      .hk, .pwr, .sec, .dbg, .free] (State.ptp s m) := by
  unfold State.ptp; (try dsimp only)
  repeat' first
    | with_reducible exact State.keeps_refl
    | with_reducible refine State.measured_frame.last (by decide) ?_
    | with_reducible refine State.setO_keeps.last (by decide) ?_
    | with_reducible refine State.sendDelayReq_frame.last (by decide) ?_
    | with_reducible refine State.synced_frame.last (by decide) ?_
    | with_reducible refine State.announced_frame.last (by decide) ?_
    | with_reducible refine State.keeps_foldl (fun _ _ => ?_) ?_
    | with_reducible refine State.keeps_ite ?_ ?_
    | split
    | with_reducible refine State.keeps_mk ?_

theorem State.ppsEdge_frame {s : State} :
    s.keeps [.emitted, .od, .time, .modes, .ops, .chain, .nv, .lanes, .aligned, .intake, .link, .fpa, .sp0, .pipe, .coef,
      .vdet, .ecl, .shut, .windows, .tg, .trig, .trigOut, .out0, .out1, .taps, .mem, .host, .dma, .rings, .serial,
      .hk, .pwr, .sec, .dbg, .free] (State.ppsEdge s) := by
  unfold State.ppsEdge; (try dsimp only)
  repeat' first
    | with_reducible exact State.keeps_refl
    | with_reducible refine State.measured_frame.last (by decide) ?_
    | with_reducible refine State.inc_keeps.last (by decide) ?_
    | with_reducible refine State.keeps_foldl (fun _ _ => ?_) ?_
    | with_reducible refine State.keeps_ite ?_ ?_
    | split
    | with_reducible refine State.keeps_mk ?_

theorem State.newTimeSource_frame {s : State} :
    s.keeps [.od, .time] (State.newTimeSource s) := by
  unfold State.newTimeSource; (try dsimp only)
  repeat' first
    | with_reducible exact State.keeps_refl
    | with_reducible refine State.clockState_frame.last (by decide) ?_
    | with_reducible refine State.keeps_foldl (fun _ _ => ?_) ?_
    | with_reducible refine State.keeps_ite ?_ ?_
    | split
    | with_reducible refine State.keeps_mk ?_

theorem State.deviceUp_frame {s : State} {k : Sys2Proof.Pos} :
    s.keeps [.od, .doms, .free] (State.deviceUp s k) := by
  unfold State.deviceUp; (try dsimp only)
  repeat' first
    | with_reducible exact State.keeps_refl
    | with_reducible refine State.setO_keeps.last (by decide) ?_
    | with_reducible refine State.setDom_keeps.last (by decide) ?_
    | with_reducible refine State.keeps_foldl (fun _ _ => ?_) ?_
    | with_reducible refine State.keeps_ite ?_ ?_
    | split
    | with_reducible refine State.keeps_mk ?_

theorem State.released_frame {s : State} :
    s.keeps [.od, .doms, .time, .boot, .chain, .nv, .tg, .host, .serial, .therm, .pwr, .sec, .free] (State.released s) :=
      by
  unfold State.released; (try dsimp only)
  repeat' first
    | with_reducible exact State.keeps_refl
    | with_reducible refine State.bumpCounter_keeps.last (by decide) ?_
    | with_reducible refine State.renewNonce_frame.last (by decide) ?_
    | with_reducible refine State.demand_frame.last (by decide) ?_
    | with_reducible refine State.deviceUp_frame.last (by decide) ?_
    | with_reducible refine State.rearmTimer_frame.last (by decide) ?_
    | with_reducible refine State.setOs_keeps.last (by decide) ?_
    | with_reducible refine State.keeps_foldl (fun _ _ => ?_) ?_
    | with_reducible refine State.keeps_ite ?_ ?_
    | split
    | with_reducible refine State.keeps_mk ?_

theorem State.loadLease_frame {s : State} :
    s.keeps [.od] (State.loadLease s) := by
  unfold State.loadLease; (try dsimp only)
  repeat' first
    | with_reducible exact State.keeps_refl
    | with_reducible refine State.setOs_keeps.last (by decide) ?_
    | with_reducible refine State.keeps_foldl (fun _ _ => ?_) ?_
    | with_reducible refine State.keeps_ite ?_ ?_
    | split
    | with_reducible refine State.keeps_mk ?_

theorem State.repairArb_frame {s : State} :
    s.keeps [.od, .nv, .sec, .free] (State.repairArb s) := by
  unfold State.repairArb; (try dsimp only)
  repeat' first
    | with_reducible exact State.keeps_refl
    | with_reducible refine State.setTwoSlot_keeps.last (by decide) ?_
    | with_reducible refine State.setO_keeps.last (by decide) ?_
    | with_reducible refine State.keeps_foldl (fun _ _ => ?_) ?_
    | with_reducible refine State.keeps_ite ?_ ?_
    | split
    | with_reducible refine State.keeps_mk ?_

theorem State.checkCounters_frame {s : State} :
    s.keeps [.od, .nv, .free] (State.checkCounters s) := by
  unfold State.checkCounters; (try dsimp only)
  repeat' first
    | with_reducible exact State.keeps_refl
    | with_reducible refine State.slotsBad_keeps.last (by decide) ?_
    | with_reducible refine State.keeps_foldl (fun _ _ => ?_) ?_
    | with_reducible refine State.keeps_ite ?_ ?_
    | split
    | with_reducible refine State.keeps_mk ?_

theorem State.trainFails_frame {s : State} {n : ℕ} :
    s.keeps [.od] (State.trainFails s n) := by
  unfold State.trainFails; (try dsimp only)
  repeat' first
    | with_reducible exact State.keeps_refl
    | with_reducible refine State.incBy_keeps.last (by decide) ?_
    | with_reducible refine State.keeps_foldl (fun _ _ => ?_) ?_
    | with_reducible refine State.keeps_ite ?_ ?_
    | split
    | with_reducible refine State.keeps_mk ?_

theorem State.bootTraining_frame {s : State} {first : Bool} {second : Bool} :
    s.keeps [.od, .mem] (State.bootTraining s first second) := by
  unfold State.bootTraining; (try dsimp only)
  repeat' first
    | with_reducible exact State.keeps_refl
    | with_reducible refine State.setO_keeps.last (by decide) ?_
    | with_reducible refine State.trainFails_frame.last (by decide) ?_
    | with_reducible refine State.keeps_foldl (fun _ _ => ?_) ?_
    | with_reducible refine State.keeps_ite ?_ ?_
    | split
    | with_reducible refine State.keeps_mk ?_

theorem State.retraining_frame {s : State} {first : Bool} :
    s.keeps [.emitted, .od, .modes, .ops, .chain, .nv, .lanes, .aligned, .intake, .link, .pipe, .coef, .vdet, .ecl, .shut,
      .windows, .trig, .trigOut, .out0, .out1, .taps, .mem, .host, .dma, .rings, .serial, .hk, .pwr, .dbg, .free]
      (State.retraining s first) := by
  unfold State.retraining; (try dsimp only)
  repeat' first
    | with_reducible exact State.keeps_refl
    | with_reducible refine State.failTransition_frame.last (by decide) ?_
    | with_reducible refine State.trainFails_frame.last (by decide) ?_
    | with_reducible refine State.dramLost_frame.last (by decide) ?_
    | with_reducible refine State.keeps_foldl (fun _ _ => ?_) ?_
    | with_reducible refine State.keeps_ite ?_ ?_
    | split
    | with_reducible refine State.keeps_mk ?_

theorem State.startPowerFail_frame {s : State} :
    s.keeps [.emitted, .od, .modes, .ops, .chain, .nv, .lanes, .aligned, .intake, .link, .pipe, .coef, .vdet, .ecl, .shut,
      .windows, .trig, .trigOut, .out0, .out1, .taps, .mem, .host, .dma, .rings, .serial, .hk, .pwr, .dbg, .free]
      (State.startPowerFail s) := by
  unfold State.startPowerFail; (try dsimp only)
  repeat' first
    | with_reducible exact State.keeps_refl
    | with_reducible refine State.faultSafe_frame.last (by decide) ?_
    | with_reducible refine State.addCause_frame.last (by decide) ?_
    | with_reducible refine State.nvClose_frame.last (by decide) ?_
    | with_reducible refine State.pulseCut_frame.last (by decide) ?_
    | with_reducible refine State.cutOff_frame.last (by decide) ?_
    | with_reducible refine State.debugCap_frame.last (by decide) ?_
    | with_reducible refine State.notify_keeps.last (by decide) ?_
    | with_reducible refine State.keeps_foldl (fun _ _ => ?_) ?_
    | with_reducible refine State.keeps_ite ?_ ?_
    | split
    | with_reducible refine State.keeps_mk ?_

theorem State.vinSeen_frame {s : State} {mv : ℕ} :
    s.keeps [.pwr] (State.vinSeen s mv) := by
  unfold State.vinSeen; (try dsimp only)
  repeat' first
    | with_reducible exact State.keeps_refl
    | with_reducible refine State.keeps_foldl (fun _ _ => ?_) ?_
    | with_reducible refine State.keeps_ite ?_ ?_
    | split
    | with_reducible refine State.keeps_mk ?_

theorem State.vinBelow_frame {s : State} {mv : ℕ} :
    s.keeps [.pwr] (State.vinBelow s mv) := by
  unfold State.vinBelow; (try dsimp only)
  repeat' first
    | with_reducible exact State.keeps_refl
    | with_reducible refine State.vinSeen_frame.last (by decide) ?_
    | with_reducible refine State.keeps_foldl (fun _ _ => ?_) ?_
    | with_reducible refine State.keeps_ite ?_ ?_
    | split
    | with_reducible refine State.keeps_mk ?_

theorem State.memOnline_frame {s : State} :
    s.keeps [.mem] (State.memOnline s) := by
  unfold State.memOnline; (try dsimp only)
  repeat' first
    | with_reducible exact State.keeps_refl
    | with_reducible refine State.keeps_foldl (fun _ _ => ?_) ?_
    | with_reducible refine State.keeps_ite ?_ ?_
    | split
    | with_reducible refine State.keeps_mk ?_

theorem State.domUp_frame {s : State} {d : ℕ} :
    s.keeps [.mem, .hk] (State.domUp s d) := by
  unfold State.domUp; (try dsimp only)
  repeat' first
    | with_reducible exact State.keeps_refl
    | with_reducible refine State.memOnline_frame.last (by decide) ?_
    | with_reducible refine State.keeps_foldl (fun _ _ => ?_) ?_
    | with_reducible refine State.keeps_ite ?_ ?_
    | split
    | with_reducible refine State.keeps_mk ?_

theorem State.rampDone_frame {s : State} {d : ℕ} :
    s.keeps [.od, .mem, .hk, .pwr] (State.rampDone s d) := by
  unfold State.rampDone; (try dsimp only)
  repeat' first
    | with_reducible exact State.keeps_refl
    | with_reducible refine State.wantOff_frame.last (by decide) ?_
    | with_reducible refine State.setO_keeps.last (by decide) ?_
    | with_reducible refine State.domUp_frame.last (by decide) ?_
    | with_reducible refine State.keeps_foldl (fun _ _ => ?_) ?_
    | with_reducible refine State.keeps_ite ?_ ?_
    | split
    | with_reducible refine State.keeps_mk ?_

theorem State.fpaFault_frame {s : State} {p : Sys2Proof.Pos} :
    s.keeps [.od, .vdet, .trig, .hk, .pwr] (State.fpaFault s p) := by
  unfold State.fpaFault; (try dsimp only)
  repeat' first
    | with_reducible exact State.keeps_refl
    | with_reducible refine State.heldDown_frame.last (by decide) ?_
    | with_reducible refine State.vdetRamp_frame.last (by decide) ?_
    | with_reducible refine State.discardStarts_frame.last (by decide) ?_
    | with_reducible refine State.railsLost_frame.last (by decide) ?_
    | with_reducible refine State.keeps_foldl (fun _ _ => ?_) ?_
    | with_reducible refine State.keeps_ite ?_ ?_
    | split
    | with_reducible refine State.keeps_mk ?_

theorem State.devicesOff_frame {s : State} :
    s.keeps [.od, .mem] (State.devicesOff s) := by
  unfold State.devicesOff; (try dsimp only)
  repeat' first
    | with_reducible exact State.keeps_refl
    | with_reducible refine State.dramLost_frame.last (by decide) ?_
    | with_reducible refine State.keeps_foldl (fun _ _ => ?_) ?_
    | with_reducible refine State.keeps_ite ?_ ?_
    | split
    | with_reducible refine State.keeps_mk ?_

theorem State.domFaulted_frame {s : State} {d : ℕ} {inRamp : Bool} :
    s.keeps [.emitted, .od, .doms, .modes, .ops, .chain, .nv, .lanes, .aligned, .intake, .link, .pipe, .coef, .vdet, .ecl,
      .shut, .windows, .trig, .trigOut, .out0, .out1, .taps, .mem, .host, .dma, .rings, .serial, .hk, .pwr, .sec,
      .dbg, .free] (State.domFaulted s d inRamp) := by
  unfold State.domFaulted; (try dsimp only)
  repeat' first
    | with_reducible exact State.keeps_refl
    | with_reducible refine State.faultSafe_frame.last (by decide) ?_
    | with_reducible refine State.failTransition_frame.last (by decide) ?_
    | with_reducible refine State.pulseFault_frame.last (by decide) ?_
    | with_reducible refine State.afterEcl_frame.last (by decide) ?_
    | with_reducible refine State.flashFailed_frame.last (by decide) ?_
    | with_reducible refine State.fpaFault_frame.last (by decide) ?_
    | with_reducible refine State.devicesOff_frame.last (by decide) ?_
    | with_reducible refine State.keeps_foldl (fun _ _ => ?_) ?_
    | with_reducible refine State.keeps_ite ?_ ?_
    | split
    | with_reducible refine State.keeps_mk ?_

theorem State.domFails_frame {s : State} {d : ℕ} :
    s.keeps [.od, .hk, .pwr] (State.domFails s d) := by
  unfold State.domFails; (try dsimp only)
  repeat' first
    | with_reducible exact State.keeps_refl
    | with_reducible refine State.domCut_frame.last (by decide) ?_
    | with_reducible refine State.setO_keeps.last (by decide) ?_
    | with_reducible refine State.keeps_foldl (fun _ _ => ?_) ?_
    | with_reducible refine State.keeps_ite ?_ ?_
    | split
    | with_reducible refine State.keeps_mk ?_

theorem State.domFault_frame {s : State} {d : ℕ} {inRamp : Bool} :
    s.keeps [.emitted, .od, .doms, .modes, .ops, .chain, .nv, .lanes, .aligned, .intake, .link, .pipe, .coef, .vdet, .ecl,
      .shut, .windows, .trig, .trigOut, .out0, .out1, .taps, .mem, .host, .dma, .rings, .serial, .hk, .pwr, .sec,
      .dbg, .free] (State.domFault s d inRamp) := by
  unfold State.domFault; (try dsimp only)
  repeat' first
    | with_reducible exact State.keeps_refl
    | with_reducible refine State.domFaulted_frame.last (by decide) ?_
    | with_reducible refine State.inc_keeps.last (by decide) ?_
    | with_reducible refine State.logEvt_keeps.last (by decide) ?_
    | with_reducible refine State.domFails_frame.last (by decide) ?_
    | with_reducible refine State.keeps_foldl (fun _ _ => ?_) ?_
    | with_reducible refine State.keeps_ite ?_ ?_
    | split
    | with_reducible refine State.keeps_mk ?_

theorem State.monitorDom_frame {s : State} {mv : List ℕ} {ma : List ℕ} {d : ℕ} :
    s.keeps [.emitted, .od, .doms, .modes, .ops, .chain, .nv, .lanes, .aligned, .intake, .link, .pipe, .coef, .vdet, .ecl,
      .shut, .windows, .trig, .trigOut, .out0, .out1, .taps, .mem, .host, .dma, .rings, .serial, .hk, .pwr, .sec,
      .dbg, .free] (State.monitorDom s mv ma d) := by
  unfold State.monitorDom; (try dsimp only)
  repeat' first
    | with_reducible exact State.keeps_refl
    | with_reducible refine State.domFault_frame.last (by decide) ?_
    | with_reducible refine State.setOs_keeps.last (by decide) ?_
    | with_reducible refine State.keeps_foldl (fun _ _ => ?_) ?_
    | with_reducible refine State.keeps_ite ?_ ?_
    | split
    | with_reducible refine State.keeps_mk ?_

theorem State.monitorFpa_frame {s : State} {vdet : List ℕ} {p : Sys2Proof.Pos} :
    s.keeps [.od] (State.monitorFpa s vdet p) := by
  unfold State.monitorFpa; (try dsimp only)
  repeat' first
    | with_reducible exact State.keeps_refl
    | with_reducible refine State.setOs_keeps.last (by decide) ?_
    | with_reducible refine State.keeps_foldl (fun _ _ => ?_) ?_
    | with_reducible refine State.keeps_ite ?_ ?_
    | split
    | with_reducible refine State.keeps_mk ?_

theorem State.fpaBudget_frame {s : State} :
    s.keeps [.emitted, .od, .modes, .ops, .chain, .nv, .lanes, .aligned, .intake, .link, .pipe, .coef, .vdet, .ecl, .shut,
      .windows, .trig, .trigOut, .out0, .out1, .taps, .mem, .host, .dma, .rings, .serial, .hk, .pwr, .dbg, .free]
      (State.fpaBudget s) := by
  unfold State.fpaBudget; (try dsimp only)
  repeat' first
    | with_reducible exact State.keeps_refl
    | with_reducible refine State.failTransition_frame.last (by decide) ?_
    | with_reducible refine State.inc_keeps.last (by decide) ?_
    | with_reducible refine State.fpaFault_frame.last (by decide) ?_
    | with_reducible refine State.setO_keeps.last (by decide) ?_
    | with_reducible refine State.keeps_foldl (fun _ _ => ?_) ?_
    | with_reducible refine State.keeps_ite ?_ ?_
    | split
    | with_reducible refine State.keeps_mk ?_

theorem State.holdupCharged_frame {s : State} {now : Bool} :
    s.keeps [.pwr] (State.holdupCharged s now) := by
  unfold State.holdupCharged; (try dsimp only)
  repeat' first
    | with_reducible exact State.keeps_refl
    | with_reducible refine State.keeps_foldl (fun _ _ => ?_) ?_
    | with_reducible refine State.keeps_ite ?_ ?_
    | split
    | with_reducible refine State.keeps_mk ?_

theorem State.monitorInput_frame {s : State} {sup : List ℕ} :
    s.keeps [.od, .pwr] (State.monitorInput s sup) := by
  unfold State.monitorInput; (try dsimp only)
  repeat' first
    | with_reducible exact State.keeps_refl
    | with_reducible refine State.setOs_keeps.last (by decide) ?_
    | with_reducible refine State.setO_keeps.last (by decide) ?_
    | with_reducible refine State.holdupCharged_frame.last (by decide) ?_
    | with_reducible refine State.vinSeen_frame.last (by decide) ?_
    | with_reducible refine State.keeps_foldl (fun _ _ => ?_) ?_
    | with_reducible refine State.keeps_ite ?_ ?_
    | split
    | with_reducible refine State.keeps_mk ?_

theorem State.setHkc_frame {s : State} {h : Sys2Proof.Pos} {c : Sys2Proof.Machine.HkConv} :
    s.keeps [.hk] (State.setHkc s h c) := by
  unfold State.setHkc; (try dsimp only)
  repeat' first
    | with_reducible exact State.keeps_refl
    | with_reducible refine State.keeps_foldl (fun _ _ => ?_) ?_
    | with_reducible refine State.keeps_ite ?_ ?_
    | split
    | with_reducible refine State.keeps_mk ?_

theorem State.setSlice_frame {s : State} {h : Sys2Proof.Pos} {n : ℕ} :
    s.keeps [.od] (State.setSlice s h n) := by
  unfold State.setSlice; (try dsimp only)
  repeat' first
    | with_reducible exact State.keeps_refl
    | with_reducible refine State.setO_keeps.last (by decide) ?_
    | with_reducible refine State.keeps_foldl (fun _ _ => ?_) ?_
    | with_reducible refine State.keeps_ite ?_ ?_
    | split
    | with_reducible refine State.keeps_mk ?_

theorem State.calOwed_frame {s : State} :
    s.keeps [.hk] (State.calOwed s) := by
  unfold State.calOwed; (try dsimp only)
  repeat' first
    | with_reducible exact State.keeps_refl
    | with_reducible refine State.setHkc_frame.last (by decide) ?_
    | with_reducible refine State.keeps_foldl (fun _ _ => ?_) ?_
    | with_reducible refine State.keeps_ite ?_ ?_
    | split
    | with_reducible refine State.keeps_mk ?_

theorem State.hkStart_frame {s : State} {h : Sys2Proof.Pos} :
    s.keeps [.od, .hk, .pwr] (State.hkStart s h) := by
  unfold State.hkStart; (try dsimp only)
  repeat' first
    | with_reducible exact State.keeps_refl
    | with_reducible refine State.setO_keeps.last (by decide) ?_
    | with_reducible refine State.demand_frame.last (by decide) ?_
    | with_reducible refine State.calOwed_frame.last (by decide) ?_
    | with_reducible refine State.setHkc_frame.last (by decide) ?_
    | with_reducible refine State.inc_keeps.last (by decide) ?_
    | with_reducible refine State.keeps_foldl (fun _ _ => ?_) ?_
    | with_reducible refine State.keeps_ite ?_ ?_
    | split
    | with_reducible refine State.keeps_mk ?_

theorem State.hkIdle_frame {s : State} {h : Sys2Proof.Pos} :
    s.keeps [.hk] (State.hkIdle s h) := by
  unfold State.hkIdle; (try dsimp only)
  repeat' first
    | with_reducible exact State.keeps_refl
    | with_reducible refine State.setHkc_frame.last (by decide) ?_
    | with_reducible refine State.keeps_foldl (fun _ _ => ?_) ?_
    | with_reducible refine State.keeps_ite ?_ ?_
    | split
    | with_reducible refine State.keeps_mk ?_

theorem State.hkWrite_frame {s : State} {h : Sys2Proof.Pos} {ch : ℕ} {value : ℕ} :
    s.keeps [.od, .hk] (State.hkWrite s h ch value) := by
  unfold State.hkWrite; (try dsimp only)
  repeat' first
    | with_reducible exact State.keeps_refl
    | with_reducible refine State.inc_keeps.last (by decide) ?_
    | with_reducible refine State.setHkc_frame.last (by decide) ?_
    | with_reducible refine State.setO_keeps.last (by decide) ?_
    | with_reducible refine State.keeps_foldl (fun _ _ => ?_) ?_
    | with_reducible refine State.keeps_ite ?_ ?_
    | split
    | with_reducible refine State.keeps_mk ?_

theorem State.readHkResult_frame {s : State} {h : Sys2Proof.Pos} :
    s.keeps [.od] ((State.readHkResult s h).1) := by
  unfold State.readHkResult; (try dsimp only)
  repeat' first
    | with_reducible exact State.keeps_refl
    | with_reducible refine State.setO_keeps.last (by decide) ?_
    | with_reducible refine State.keeps_foldl (fun _ _ => ?_) ?_
    | with_reducible refine State.keeps_ite ?_ ?_
    | split
    | with_reducible refine State.keeps_mk ?_

theorem State.readHkStatus_frame {s : State} {h : Sys2Proof.Pos} :
    s.keeps [.hk] ((State.readHkStatus s h).1) := by
  unfold State.readHkStatus; (try dsimp only)
  repeat' first
    | with_reducible exact State.keeps_refl
    | with_reducible refine State.setHkc_frame.last (by decide) ?_
    | with_reducible refine State.keeps_foldl (fun _ _ => ?_) ?_
    | with_reducible refine State.keeps_ite ?_ ?_
    | split
    | with_reducible refine State.keeps_mk ?_

theorem State.handSlice_frame {s : State} {h : Sys2Proof.Pos} :
    s.keeps [.od, .hk] (State.handSlice s h) := by
  unfold State.handSlice; (try dsimp only)
  repeat' first
    | with_reducible exact State.keeps_refl
    | with_reducible refine State.setSlice_frame.last (by decide) ?_
    | with_reducible refine State.keeps_foldl (fun _ _ => ?_) ?_
    | with_reducible refine State.keeps_ite ?_ ?_
    | split
    | with_reducible refine State.keeps_mk ?_

theorem State.turnOn_frame {s : State} {at_ : ℕ} :
    s.keeps [.hk] (State.turnOn s at_) := by
  unfold State.turnOn; (try dsimp only)
  repeat' first
    | with_reducible exact State.keeps_refl
    | with_reducible refine State.keeps_foldl (fun _ _ => ?_) ?_
    | with_reducible refine State.keeps_ite ?_ ?_
    | split
    | with_reducible refine State.keeps_mk ?_

theorem State.calTurn_frame {s : State} :
    s.keeps [.od, .hk] (State.calTurn s) := by
  unfold State.calTurn; (try dsimp only)
  repeat' first
    | with_reducible exact State.keeps_refl
    | with_reducible refine State.handSlice_frame.last (by decide) ?_
    | with_reducible refine State.turnOn_frame.last (by decide) ?_
    | with_reducible refine State.keeps_foldl (fun _ _ => ?_) ?_
    | with_reducible refine State.keeps_ite ?_ ?_
    | split
    | with_reducible refine State.keeps_mk ?_

theorem State.calEnd_frame {s : State} {n : ℕ} {c : ℕ} {good : Bool} :
    s.keeps [.od, .nv, .hk, .free] (State.calEnd s n c good) := by
  unfold State.calEnd; (try dsimp only)
  repeat' first
    | with_reducible exact State.keeps_refl
    | with_reducible refine State.setHkc_frame.last (by decide) ?_
    | with_reducible refine State.logEvt_keeps.last (by decide) ?_
    | with_reducible refine State.setSlice_frame.last (by decide) ?_
    | with_reducible refine State.inc_keeps.last (by decide) ?_
    | with_reducible refine State.keeps_foldl (fun _ _ => ?_) ?_
    | with_reducible refine State.keeps_ite ?_ ?_
    | split
    | with_reducible refine State.keeps_mk ?_

theorem State.shutterSample_frame {s : State} {p : Sys2Proof.Pos} {code : ℕ} :
    s.keeps [.ecl] (State.shutterSample s p code) := by
  unfold State.shutterSample; (try dsimp only)
  repeat' first
    | with_reducible exact State.keeps_refl
    | with_reducible refine State.setEcl_frame.last (by decide) ?_
    | with_reducible refine State.keeps_foldl (fun _ _ => ?_) ?_
    | with_reducible refine State.keeps_ite ?_ ?_
    | split
    | with_reducible refine State.keeps_mk ?_

theorem State.readEffect_frame {s : State} {i : ℕ} {sub : ℕ} :
    s.keeps [.od, .time, .enc0, .enc1, .mem, .serial, .hk] (State.readEffect s i sub) := by
  unfold State.readEffect; (try dsimp only)
  repeat' first
    | with_reducible exact State.keeps_refl
    | with_reducible refine State.readHkResult_frame.last (by decide) ?_
    | with_reducible refine State.readHkStatus_frame.last (by decide) ?_
    | with_reducible refine State.setEnc_frame.last (by decide) ?_
    | with_reducible refine State.keeps_foldl (fun _ _ => ?_) ?_
    | with_reducible refine State.keeps_ite ?_ ?_
    | split
    | with_reducible refine State.keeps_mk ?_

theorem State.readValue_frame {s : State} {via : Sys2Proof.Via} {r : Sys2Proof.ObjRow} {k : ℕ} :
    s.keeps [.od, .time, .enc0, .enc1, .mem, .serial, .hk] ((State.readValue s via r k).1) := by
  unfold State.readValue; (try dsimp only)
  repeat' first
    | with_reducible exact State.keeps_refl
    | with_reducible refine State.readEffect_frame.last (by decide) ?_
    | with_reducible refine State.keeps_foldl (fun _ _ => ?_) ?_
    | with_reducible refine State.keeps_ite ?_ ?_
    | split
    | with_reducible refine State.keeps_mk ?_

theorem State.readBlob_frame {s : State} {via : Sys2Proof.Via} {k : ℕ} {offset : ℕ} {len : ℕ} :
    s.keeps [.stat] ((State.readBlob s via k offset len).1) := by
  unfold State.readBlob; (try dsimp only)
  repeat' first
    | with_reducible exact State.keeps_refl
    | with_reducible refine State.statRead_frame.last (by decide) ?_
    | with_reducible refine State.keeps_foldl (fun _ _ => ?_) ?_
    | with_reducible refine State.keeps_ite ?_ ?_
    | split
    | with_reducible refine State.keeps_mk ?_

theorem State.putScalar_frame {s : State} {r : Sys2Proof.ObjRow} {k : ℕ} {v : ℤ} :
    s.keeps [.od, .nv, .gen, .free] (State.putScalar s r k v) := by
  unfold State.putScalar; (try dsimp only)
  repeat' first
    | with_reducible exact State.keeps_refl
    | with_reducible refine State.setKeep_keeps.last (by decide) ?_
    | with_reducible refine State.setO_keeps.last (by decide) ?_
    | with_reducible refine State.setPending_frame.last (by decide) ?_
    | with_reducible refine State.keeps_foldl (fun _ _ => ?_) ?_
    | with_reducible refine State.keeps_ite ?_ ?_
    | split
    | with_reducible refine State.keeps_mk ?_

theorem State.rearmAll_frame {s : State} {g : Sys2Proof.Pos} :
    s.keeps [.tg] (State.rearmAll s g) := by
  unfold State.rearmAll; (try dsimp only)
  repeat' first
    | with_reducible exact State.keeps_refl
    | with_reducible refine State.setTg_frame.last (by decide) ?_
    | with_reducible refine State.rearm_frame.last (by decide) ?_
    | with_reducible refine State.rearmTimer_frame.last (by decide) ?_
    | with_reducible refine State.keeps_foldl (fun _ _ => ?_) ?_
    | with_reducible refine State.keeps_ite ?_ ?_
    | split
    | with_reducible refine State.keeps_mk ?_

theorem State.putEffect_frame {s : State} {via : Sys2Proof.Via} {k : ℕ} {changed : Bool} :
    s.keeps [.od, .time, .chain, .nv, .vdet, .enc0, .enc1, .tg, .trigOut, .serial, .hk, .free] (State.putEffect s via k
      changed) := by
  unfold State.putEffect; (try dsimp only)
  repeat' first
    | with_reducible exact State.keeps_refl
    | with_reducible refine State.logWrite_frame.last (by decide) ?_
    | with_reducible refine State.setHkc_frame.last (by decide) ?_
    | with_reducible refine State.vdetRamp_frame.last (by decide) ?_
    | with_reducible refine State.setEstimates_frame.last (by decide) ?_
    | with_reducible refine State.rearmTimer_frame.last (by decide) ?_
    | with_reducible refine State.rearmAll_frame.last (by decide) ?_
    | with_reducible refine State.setEnc_frame.last (by decide) ?_
    | with_reducible refine State.newTimeSource_frame.last (by decide) ?_
    | with_reducible refine State.keeps_foldl (fun _ _ => ?_) ?_
    | with_reducible refine State.keeps_ite ?_ ?_
    | split
    | with_reducible refine State.keeps_mk ?_

theorem State.putBlob_frame {s : State} {k : ℕ} {b : List Sys2Proof.Byte} :
    s.keeps [.doms] (State.putBlob s k b) := by
  unfold State.putBlob; (try dsimp only)
  repeat' first
    | with_reducible exact State.keeps_refl
    | with_reducible refine State.setDom_keeps.last (by decide) ?_
    | with_reducible refine State.keeps_foldl (fun _ _ => ?_) ?_
    | with_reducible refine State.keeps_ite ?_ ?_
    | split
    | with_reducible refine State.keeps_mk ?_

theorem State.defaultGen_frame {s : State} {p : Sys2Proof.Pos} :
    s.keeps [.od, .gen] (State.defaultGen s p) := by
  unfold State.defaultGen; (try dsimp only)
  repeat' first
    | with_reducible exact State.keeps_refl
    | with_reducible refine State.setGen_frame.last (by decide) ?_
    | with_reducible refine State.setO_keeps.last (by decide) ?_
    | with_reducible refine State.keeps_foldl (fun _ _ => ?_) ?_
    | with_reducible refine State.keeps_ite ?_ ?_
    | split
    | with_reducible refine State.keeps_mk ?_

theorem State.defaultObjects_frame {s : State} :
    s.keeps [.od, .doms, .time, .chain, .nv, .gen, .vdet, .enc0, .enc1, .tg, .trigOut, .mem, .rings, .serial, .hk, .free]
      (State.defaultObjects s) := by
  unfold State.defaultObjects; (try dsimp only)
  repeat' first
    | with_reducible exact State.keeps_refl
    | with_reducible refine State.putEffect_frame.last (by decide) ?_
    | with_reducible refine State.fixLoads_frame.last (by decide) ?_
    | with_reducible refine State.defaultGen_frame.last (by decide) ?_
    | with_reducible refine State.keeps_foldl (fun _ _ => ?_) ?_
    | with_reducible refine State.keeps_ite ?_ ?_
    | split
    | with_reducible refine State.keeps_mk ?_

theorem State.setFailed_frame {s : State} {n : ℕ} :
    s.keeps [.od, .nv, .free] (State.setFailed s n) := by
  unfold State.setFailed; (try dsimp only)
  repeat' first
    | with_reducible exact State.keeps_refl
    | with_reducible refine State.setO_keeps.last (by decide) ?_
    | with_reducible refine State.logEvt_keeps.last (by decide) ?_
    | with_reducible refine State.keeps_foldl (fun _ _ => ?_) ?_
    | with_reducible refine State.keeps_ite ?_ ?_
    | split
    | with_reducible refine State.keeps_mk ?_

theorem State.hostPortStands_frame {s : State} :
    s.keeps [.od, .mem, .host, .dma, .rings, .hk, .pwr] (State.hostPortStands s) := by
  unfold State.hostPortStands; (try dsimp only)
  repeat' first
    | with_reducible exact State.keeps_refl
    | with_reducible refine State.wantOff_frame.last (by decide) ?_
    | with_reducible refine State.dmaDrop_frame.last (by decide) ?_
    | with_reducible refine State.wantOn_frame.last (by decide) ?_
    | with_reducible refine State.keeps_foldl (fun _ _ => ?_) ?_
    | with_reducible refine State.keeps_ite ?_ ?_
    | split
    | with_reducible refine State.keeps_mk ?_

theorem State.firstStandby_frame {s : State} :
    s.keeps [.emitted, .od, .boot, .modes, .ops, .nv, .mem, .host, .dma, .rings, .serial, .hk, .pwr, .sec, .free]
      (State.firstStandby s) := by
  unfold State.firstStandby; (try dsimp only)
  repeat' first
    | with_reducible exact State.keeps_refl
    | with_reducible refine State.raiseArb_frame.last (by decide) ?_
    | with_reducible refine State.flushLog_keeps.last (by decide) ?_
    | with_reducible refine State.nvKick_frame.last (by decide) ?_
    | with_reducible refine State.putMode_frame.last (by decide) ?_
    | with_reducible refine State.hostPortStands_frame.last (by decide) ?_
    | with_reducible refine State.keeps_foldl (fun _ _ => ?_) ?_
    | with_reducible refine State.keeps_ite ?_ ?_
    | split
    | with_reducible refine State.keeps_mk ?_

theorem State.clearCounters_frame {s : State} {l : List (ℕ × ℕ)} :
    s.keeps [.od] (State.clearCounters s l) := by
  unfold State.clearCounters; (try dsimp only)
  repeat' first
    | with_reducible exact State.keeps_refl
    | with_reducible refine State.clearIdx_keeps.last (by decide) ?_
    | with_reducible refine State.keeps_foldl (fun _ _ => ?_) ?_
    | with_reducible refine State.keeps_ite ?_ ?_
    | split
    | with_reducible refine State.keeps_mk ?_

theorem State.restartHold_frame {s : State} {b : Bool} :
    s.keeps [.od] (State.restartHold s b) := by
  unfold State.restartHold; (try dsimp only)
  repeat' first
    | with_reducible exact State.keeps_refl
    | with_reducible refine State.setO_keeps.last (by decide) ?_
    | with_reducible refine State.keeps_foldl (fun _ _ => ?_) ?_
    | with_reducible refine State.keeps_ite ?_ ?_
    | split
    | with_reducible refine State.keeps_mk ?_

theorem State.loadEndsBadly_frame {s : State} {p : Sys2Proof.Pos} {result : ℕ} :
    s.keeps [.emitted, .od, .modes, .ops, .chain, .nv, .lanes, .aligned, .intake, .link, .pipe, .coef, .vdet, .ecl, .shut,
      .windows, .trig, .trigOut, .out0, .out1, .taps, .mem, .host, .dma, .rings, .serial, .hk, .pwr, .dbg, .free]
      (State.loadEndsBadly s p result) := by
  unfold State.loadEndsBadly; (try dsimp only)
  repeat' first
    | with_reducible exact State.keeps_refl
    | with_reducible refine State.loadNext_frame.last (by decide) ?_
    | with_reducible refine State.toSafe_frame.last (by decide) ?_
    | with_reducible refine State.loadFailed_frame.last (by decide) ?_
    | with_reducible refine State.keeps_foldl (fun _ _ => ?_) ?_
    | with_reducible refine State.keeps_ite ?_ ?_
    | split
    | with_reducible refine State.keeps_mk ?_

theorem State.encIllegal_frame {s : State} {e : Bool} :
    s.keeps [.emitted, .od, .chain, .nv, .enc0, .enc1, .host, .free] (State.encIllegal s e) := by
  unfold State.encIllegal; (try dsimp only)
  repeat' first
    | with_reducible exact State.keeps_refl
    | with_reducible refine State.notify_keeps.last (by decide) ?_
    | with_reducible refine State.setEnc_frame.last (by decide) ?_
    | with_reducible refine State.inc_keeps.last (by decide) ?_
    | with_reducible refine State.keeps_foldl (fun _ _ => ?_) ?_
    | with_reducible refine State.keeps_ite ?_ ?_
    | split
    | with_reducible refine State.keeps_mk ?_

theorem State.zEdge_frame {s : State} {e : Bool} :
    s.keeps [.od, .enc0, .enc1, .tg] (State.zEdge s e) := by
  unfold State.zEdge; (try dsimp only)
  repeat' first
    | with_reducible exact State.keeps_refl
    | with_reducible refine State.rearmEnc_frame.last (by decide) ?_
    | with_reducible refine State.setO_keeps.last (by decide) ?_
    | with_reducible refine State.setEnc_frame.last (by decide) ?_
    | with_reducible refine State.keeps_foldl (fun _ _ => ?_) ?_
    | with_reducible refine State.keeps_ite ?_ ?_
    | split
    | with_reducible refine State.keeps_mk ?_

theorem State.inputEdge_frame {s : State} {i : ℕ} {t : ℕ} :
    s.keeps [.emitted, .od, .tg, .trig, .trigOut] (State.inputEdge s i t) := by
  unfold State.inputEdge; (try dsimp only)
  repeat' first
    | with_reducible exact State.keeps_refl
    | with_reducible refine State.setTg_frame.last (by decide) ?_
    | with_reducible refine State.genEvent_frame.last (by decide) ?_
    | with_reducible refine State.keeps_foldl (fun _ _ => ?_) ?_
    | with_reducible refine State.keeps_ite ?_ ?_
    | split
    | with_reducible refine State.keeps_mk ?_

theorem State.channelEvent_frame {s : State} {c : ℕ} {seq : ℕ} {t : ℕ} {st : ℕ} {e : ℕ} :
    s.keeps [.od, .chan, .trig] (State.channelEvent s c seq t st e) := by
  unfold State.channelEvent; (try dsimp only)
  repeat' first
    | with_reducible exact State.keeps_refl
    | with_reducible refine State.deliver_frame.last (by decide) ?_
    | with_reducible refine State.incBy_keeps.last (by decide) ?_
    | with_reducible refine State.keeps_foldl (fun _ _ => ?_) ?_
    | with_reducible refine State.keeps_ite ?_ ?_
    | split
    | with_reducible refine State.keeps_mk ?_

theorem State.takeEvent_frame {s : State} {b : List Sys2Proof.Byte} :
    s.keeps [.od, .chan, .trig] (State.takeEvent s b) := by
  unfold State.takeEvent; (try dsimp only)
  repeat' first
    | with_reducible exact State.keeps_refl
    | with_reducible refine State.channelEvent_frame.last (by decide) ?_
    | with_reducible refine State.inc_keeps.last (by decide) ?_
    | with_reducible refine State.keeps_foldl (fun _ _ => ?_) ?_
    | with_reducible refine State.keeps_ite ?_ ?_
    | split
    | with_reducible refine State.keeps_mk ?_

theorem State.heldMade_frame {s : State} {p : Sys2Proof.Pos} :
    s.keeps [.od, .trig] (State.heldMade s p) := by
  unfold State.heldMade; (try dsimp only)
  repeat' first
    | with_reducible exact State.keeps_refl
    | with_reducible refine State.setTrig_frame.last (by decide) ?_
    | with_reducible refine State.commitStart_frame.last (by decide) ?_
    | with_reducible refine State.keeps_foldl (fun _ _ => ?_) ?_
    | with_reducible refine State.keeps_ite ?_ ?_
    | split
    | with_reducible refine State.keeps_mk ?_

theorem State.markBegin_frame {s : State} {sel : Sys2Proof.Pos} :
    s.keeps [.emitted, .fpa, .sp0] (State.markBegin s sel) := by
  unfold State.markBegin; (try dsimp only)
  repeat' first
    | with_reducible exact State.keeps_refl
    | with_reducible refine State.sp0Begin_frame.last (by decide) ?_
    | with_reducible refine State.keeps_foldl (fun _ _ => ?_) ?_
    | with_reducible refine State.keeps_ite ?_ ?_
    | split
    | with_reducible refine State.keeps_mk ?_

theorem State.frameStarts_frame {s : State} {rel : ℕ} {p : Sys2Proof.Pos} :
    s.keeps [.emitted, .od, .chain, .nv, .intake, .fpa, .sp0, .coef, .vdet, .ecl, .shut, .trig, .trigOut, .host, .free]
      (State.frameStarts s rel p) := by
  unfold State.frameStarts; (try dsimp only)
  repeat' first
    | with_reducible exact State.keeps_refl
    | with_reducible refine State.frameClosed_frame.last (by decide) ?_
    | with_reducible refine State.intakeDiscard_frame.last (by decide) ?_
    | with_reducible refine State.outsStart_frame.last (by decide) ?_
    | with_reducible refine State.openFrame_frame.last (by decide) ?_
    | with_reducible refine State.applyShadow_frame.last (by decide) ?_
    | with_reducible refine State.endBlank_frame.last (by decide) ?_
    | with_reducible refine State.eclMark_frame.last (by decide) ?_
    | with_reducible refine State.setO_keeps.last (by decide) ?_
    | with_reducible refine State.setTrig_frame.last (by decide) ?_
    | with_reducible refine State.keeps_foldl (fun _ _ => ?_) ?_
    | with_reducible refine State.keeps_ite ?_ ?_
    | split
    | with_reducible refine State.keeps_mk ?_

theorem State.markEnd_frame {s : State} {sel : Sys2Proof.Pos} {words : List ℕ} :
    s.keeps [.emitted, .od, .chain, .nv, .intake, .fpa, .sp0, .pipe, .coef, .vdet, .ecl, .shut, .trig, .trigOut, .host,
      .free] (State.markEnd s sel words) := by
  unfold State.markEnd; (try dsimp only)
  repeat' first
    | with_reducible exact State.keeps_refl
    | with_reducible refine State.sp0Release_frame.last (by decide) ?_
    | with_reducible refine State.frameStarts_frame.last (by decide) ?_
    | with_reducible refine State.sp0Next_frame.last (by decide) ?_
    | with_reducible refine State.keeps_foldl (fun _ _ => ?_) ?_
    | with_reducible refine State.keeps_ite ?_ ?_
    | split
    | with_reducible refine State.keeps_mk ?_

theorem State.pulseBegins_frame {s : State} {i : Sys2Proof.Pos} :
    s.keeps [.od, .trigOut] (State.pulseBegins s i) := by
  unfold State.pulseBegins; (try dsimp only)
  repeat' first
    | with_reducible exact State.keeps_refl
    | with_reducible refine State.inc_keeps.last (by decide) ?_
    | with_reducible refine State.keeps_foldl (fun _ _ => ?_) ?_
    | with_reducible refine State.keeps_ite ?_ ?_
    | split
    | with_reducible refine State.keeps_mk ?_

theorem State.setExcluded_frame {s : State} {i : ℕ} {b : Bool} :
    s.keeps [.od] (State.setExcluded s i b) := by
  unfold State.setExcluded; (try dsimp only)
  repeat' first
    | with_reducible exact State.keeps_refl
    | with_reducible refine State.setO_keeps.last (by decide) ?_
    | with_reducible refine State.keeps_foldl (fun _ _ => ?_) ?_
    | with_reducible refine State.keeps_ite ?_ ?_
    | split
    | with_reducible refine State.keeps_mk ?_

theorem State.sensorFault_frame {s : State} :
    s.keeps [.emitted, .od, .modes, .ops, .chain, .nv, .lanes, .aligned, .intake, .link, .pipe, .coef, .vdet, .ecl, .shut,
      .windows, .trig, .trigOut, .out0, .out1, .taps, .mem, .host, .dma, .rings, .serial, .hk, .pwr, .dbg, .free]
      (State.sensorFault s) := by
  unfold State.sensorFault; (try dsimp only)
  repeat' first
    | with_reducible exact State.keeps_refl
    | with_reducible refine State.dropCause_frame.last (by decide) ?_
    | with_reducible refine State.faultSafe_frame.last (by decide) ?_
    | with_reducible refine State.addCause_frame.last (by decide) ?_
    | with_reducible refine State.keeps_foldl (fun _ _ => ?_) ?_
    | with_reducible refine State.keeps_ite ?_ ?_
    | split
    | with_reducible refine State.keeps_mk ?_

theorem State.showThrottle_frame {s : State} :
    s.keeps [.od] (State.showThrottle s) := by
  unfold State.showThrottle; (try dsimp only)
  repeat' first
    | with_reducible exact State.keeps_refl
    | with_reducible refine State.setO_keeps.last (by decide) ?_
    | with_reducible refine State.keeps_foldl (fun _ _ => ?_) ?_
    | with_reducible refine State.keeps_ite ?_ ?_
    | split
    | with_reducible refine State.keeps_mk ?_

theorem State.askThrottle_frame {s : State} {ms : ℕ} :
    s.keeps [.emitted, .od, .chain, .nv, .host, .therm, .free] (State.askThrottle s ms) := by
  unfold State.askThrottle; (try dsimp only)
  repeat' first
    | with_reducible exact State.keeps_refl
    | with_reducible refine State.showThrottle_frame.last (by decide) ?_
    | with_reducible refine State.setO_keeps.last (by decide) ?_
    | with_reducible refine State.notify_keeps.last (by decide) ?_
    | with_reducible refine State.keeps_foldl (fun _ _ => ?_) ?_
    | with_reducible refine State.keeps_ite ?_ ?_
    | split
    | with_reducible refine State.keeps_mk ?_

theorem State.tellThrottle_frame {s : State} :
    s.keeps [.emitted, .od, .chain, .nv, .host, .free] (State.tellThrottle s) := by
  unfold State.tellThrottle; (try dsimp only)
  repeat' first
    | with_reducible exact State.keeps_refl
    | with_reducible refine State.showThrottle_frame.last (by decide) ?_
    | with_reducible refine State.notify_keeps.last (by decide) ?_
    | with_reducible refine State.keeps_foldl (fun _ _ => ?_) ?_
    | with_reducible refine State.keeps_ite ?_ ?_
    | split
    | with_reducible refine State.keeps_mk ?_

theorem State.takeStep_frame {s : State} :
    s.keeps [.emitted, .od, .chain, .nv, .host, .therm, .free] (State.takeStep s) := by
  unfold State.takeStep; (try dsimp only)
  repeat' first
    | with_reducible exact State.keeps_refl
    | with_reducible refine State.inc_keeps.last (by decide) ?_
    | with_reducible refine State.tellThrottle_frame.last (by decide) ?_
    | with_reducible refine State.keeps_foldl (fun _ _ => ?_) ?_
    | with_reducible refine State.keeps_ite ?_ ?_
    | split
    | with_reducible refine State.keeps_mk ?_

theorem State.graceOver_frame {s : State} :
    s.keeps [.emitted, .od, .chain, .nv, .host, .therm, .free] (State.graceOver s) := by
  unfold State.graceOver; (try dsimp only)
  repeat' first
    | with_reducible exact State.keeps_refl
    | with_reducible refine State.askThrottle_frame.last (by decide) ?_
    | with_reducible refine State.takeStep_frame.last (by decide) ?_
    | with_reducible refine State.keeps_foldl (fun _ _ => ?_) ?_
    | with_reducible refine State.keeps_ite ?_ ?_
    | split
    | with_reducible refine State.keeps_mk ?_

theorem State.undoStep_frame {s : State} :
    s.keeps [.emitted, .od, .chain, .nv, .host, .therm, .free] (State.undoStep s) := by
  unfold State.undoStep; (try dsimp only)
  repeat' first
    | with_reducible exact State.keeps_refl
    | with_reducible refine State.tellThrottle_frame.last (by decide) ?_
    | with_reducible refine State.keeps_foldl (fun _ _ => ?_) ?_
    | with_reducible refine State.keeps_ite ?_ ?_
    | split
    | with_reducible refine State.keeps_mk ?_

theorem State.endRequest_frame {s : State} :
    s.keeps [.emitted, .od, .chain, .nv, .host, .therm, .free] (State.endRequest s) := by
  unfold State.endRequest; (try dsimp only)
  repeat' first
    | with_reducible exact State.keeps_refl
    | with_reducible refine State.showThrottle_frame.last (by decide) ?_
    | with_reducible refine State.undoStep_frame.last (by decide) ?_
    | with_reducible refine State.keeps_foldl (fun _ _ => ?_) ?_
    | with_reducible refine State.keeps_ite ?_ ?_
    | split
    | with_reducible refine State.keeps_mk ?_

theorem State.quenchNow_frame {s : State} :
    s.keeps [.emitted, .od, .modes, .ops, .chain, .nv, .lanes, .aligned, .intake, .link, .pipe, .coef, .vdet, .ecl, .shut,
      .windows, .trig, .trigOut, .out0, .out1, .taps, .mem, .host, .dma, .rings, .serial, .hk, .therm, .pwr, .dbg,
      .free] (State.quenchNow s) := by
  unfold State.quenchNow; (try dsimp only)
  repeat' first
    | with_reducible exact State.keeps_refl
    | with_reducible refine State.faultSafe_frame.last (by decide) ?_
    | with_reducible refine State.addCause_frame.last (by decide) ?_
    | with_reducible refine State.domainsOff_frame.last (by decide) ?_
    | with_reducible refine State.domCut_frame.last (by decide) ?_
    | with_reducible refine State.notify_keeps.last (by decide) ?_
    | with_reducible refine State.nvClose_frame.last (by decide) ?_
    | with_reducible refine State.bumpCounter_keeps.last (by decide) ?_
    | with_reducible refine State.showThrottle_frame.last (by decide) ?_
    | with_reducible refine State.debugCap_frame.last (by decide) ?_
    | with_reducible refine State.keeps_foldl (fun _ _ => ?_) ?_
    | with_reducible refine State.keeps_ite ?_ ?_
    | split
    | with_reducible refine State.keeps_mk ?_

theorem State.thermState_frame {s : State} {n : ℕ} :
    s.keeps [.od, .therm] (State.thermState s n) := by
  unfold State.thermState; (try dsimp only)
  repeat' first
    | with_reducible exact State.keeps_refl
    | with_reducible refine State.setO_keeps.last (by decide) ?_
    | with_reducible refine State.keeps_foldl (fun _ _ => ?_) ?_
    | with_reducible refine State.keeps_ite ?_ ?_
    | split
    | with_reducible refine State.keeps_mk ?_

theorem State.warned_frame {s : State} :
    s.keeps [.emitted, .od, .chain, .nv, .host, .free] (State.warned s) := by
  unfold State.warned; (try dsimp only)
  repeat' first
    | with_reducible exact State.keeps_refl
    | with_reducible refine State.inc_keeps.last (by decide) ?_
    | with_reducible refine State.notify_keeps.last (by decide) ?_
    | with_reducible refine State.keeps_foldl (fun _ _ => ?_) ?_
    | with_reducible refine State.keeps_ite ?_ ?_
    | split
    | with_reducible refine State.keeps_mk ?_

theorem State.thermRise_frame {s : State} {was : ℕ} {n : ℕ} :
    s.keeps [.emitted, .od, .modes, .ops, .chain, .nv, .lanes, .aligned, .intake, .link, .pipe, .coef, .vdet, .ecl, .shut,
      .windows, .trig, .trigOut, .out0, .out1, .taps, .mem, .host, .dma, .rings, .serial, .hk, .therm, .pwr, .dbg,
      .free] (State.thermRise s was n) := by
  unfold State.thermRise; (try dsimp only)
  repeat' first
    | with_reducible exact State.keeps_refl
    | with_reducible refine State.askThrottle_frame.last (by decide) ?_
    | with_reducible refine State.quenchNow_frame.last (by decide) ?_
    | with_reducible refine State.warned_frame.last (by decide) ?_
    | with_reducible refine State.thermState_frame.last (by decide) ?_
    | with_reducible refine State.keeps_foldl (fun _ _ => ?_) ?_
    | with_reducible refine State.keeps_ite ?_ ?_
    | split
    | with_reducible refine State.keeps_mk ?_

theorem State.thermFall_frame {s : State} {was : ℕ} :
    s.keeps [.emitted, .od, .chain, .nv, .host, .therm, .free] (State.thermFall s was) := by
  unfold State.thermFall; (try dsimp only)
  repeat' first
    | with_reducible exact State.keeps_refl
    | with_reducible refine State.endRequest_frame.last (by decide) ?_
    | with_reducible refine State.thermState_frame.last (by decide) ?_
    | with_reducible refine State.keeps_foldl (fun _ _ => ?_) ?_
    | with_reducible refine State.keeps_ite ?_ ?_
    | split
    | with_reducible refine State.keeps_mk ?_

theorem State.thermCount_frame {s : State} {h : ℤ} :
    s.keeps [.therm] (State.thermCount s h) := by
  unfold State.thermCount; (try dsimp only)
  repeat' first
    | with_reducible exact State.keeps_refl
    | with_reducible refine State.keeps_foldl (fun _ _ => ?_) ?_
    | with_reducible refine State.keeps_ite ?_ ?_
    | split
    | with_reducible refine State.keeps_mk ?_

theorem State.thermJudge_frame {s : State} {h : ℤ} :
    s.keeps [.emitted, .od, .modes, .ops, .chain, .nv, .lanes, .aligned, .intake, .link, .pipe, .coef, .vdet, .ecl, .shut,
      .windows, .trig, .trigOut, .out0, .out1, .taps, .mem, .host, .dma, .rings, .serial, .hk, .therm, .pwr, .dbg,
      .free] (State.thermJudge s h) := by
  unfold State.thermJudge; (try dsimp only)
  repeat' first
    | with_reducible exact State.keeps_refl
    | with_reducible refine State.thermFall_frame.last (by decide) ?_
    | with_reducible refine State.thermRise_frame.last (by decide) ?_
    | with_reducible refine State.thermCount_frame.last (by decide) ?_
    | with_reducible refine State.keeps_foldl (fun _ _ => ?_) ?_
    | with_reducible refine State.keeps_ite ?_ ?_
    | split
    | with_reducible refine State.keeps_mk ?_

theorem State.showNodes_frame {s : State} {ts : List ℤ} {ns : List ℤ} :
    s.keeps [.od] (State.showNodes s ts ns) := by
  unfold State.showNodes; (try dsimp only)
  repeat' first
    | with_reducible exact State.keeps_refl
    | with_reducible refine State.setOs_keeps.last (by decide) ?_
    | with_reducible refine State.keeps_foldl (fun _ _ => ?_) ?_
    | with_reducible refine State.keeps_ite ?_ ?_
    | split
    | with_reducible refine State.keeps_mk ?_

theorem State.burn_frame {s : State} {v : ℕ} :
    s.keeps [.sec] (State.burn s v) := by
  unfold State.burn; (try dsimp only)
  repeat' first
    | with_reducible exact State.keeps_refl
    | with_reducible refine State.keeps_foldl (fun _ _ => ?_) ?_
    | with_reducible refine State.keeps_ite ?_ ?_
    | split
    | with_reducible refine State.keeps_mk ?_

theorem State.lifecycleEffect_frame {s : State} {v : ℕ} :
    s.keeps [.od, .nv, .sec, .free] (State.lifecycleEffect s v) := by
  unfold State.lifecycleEffect; (try dsimp only)
  repeat' first
    | with_reducible exact State.keeps_refl
    | with_reducible refine State.zeroiseKeys_frame.last (by decide) ?_
    | with_reducible refine State.setKeep_keeps.last (by decide) ?_
    | with_reducible refine State.setO_keeps.last (by decide) ?_
    | with_reducible refine State.keeps_foldl (fun _ _ => ?_) ?_
    | with_reducible refine State.keeps_ite ?_ ?_
    | split
    | with_reducible refine State.keeps_mk ?_

theorem State.authOpen_frame {r : Sys2Proof.Req} {s : State} :
    s.keeps [.od, .chain, .nv, .sec, .free] ((State.authOpen r s).1) := by
  unfold State.authOpen; (try dsimp only)
  repeat' first
    | with_reducible exact State.keeps_refl
    | with_reducible refine State.closeSession_frame.last (by decide) ?_
    | with_reducible refine State.random_frame.last (by decide) ?_
    | with_reducible refine State.logEvt_keeps.last (by decide) ?_
    | with_reducible refine State.keeps_foldl (fun _ _ => ?_) ?_
    | with_reducible refine State.keeps_ite ?_ ?_
    | split
    | with_reducible refine State.keeps_mk ?_

theorem State.openSession_frame {s : State} {id : ℕ} {level : ℕ} {slot : ℕ} :
    s.keeps [.chain] (State.openSession s id level slot) := by
  unfold State.openSession; (try dsimp only)
  repeat' first
    | with_reducible exact State.keeps_refl
    | with_reducible refine State.closeSession_frame.last (by decide) ?_
    | with_reducible refine State.keeps_foldl (fun _ _ => ?_) ?_
    | with_reducible refine State.keeps_ite ?_ ?_
    | split
    | with_reducible refine State.keeps_mk ?_

theorem State.authProve_frame {r : Sys2Proof.Req} {s : State} :
    s.keeps [.od, .chain, .nv, .sec, .free] ((State.authProve r s).1) := by
  unfold State.authProve; (try dsimp only)
  repeat' first
    | with_reducible exact State.keeps_refl
    | with_reducible refine State.setAuth_frame.last (by decide) ?_
    | with_reducible refine State.openSession_frame.last (by decide) ?_
    | with_reducible refine State.proveFailed_frame.last (by decide) ?_
    | with_reducible refine State.keeps_foldl (fun _ _ => ?_) ?_
    | with_reducible refine State.keeps_ite ?_ ?_
    | split
    | with_reducible refine State.keeps_mk ?_

theorem State.hpAuthProve_frame {v : List Sys2Proof.Byte} {s : State} :
    s.keeps [.od, .doms, .nv, .host, .sec, .free] (State.hpAuthProve v s) := by
  unfold State.hpAuthProve; (try dsimp only)
  repeat' first
    | with_reducible exact State.keeps_refl
    | with_reducible refine State.setAuth_frame.last (by decide) ?_
    | with_reducible refine State.proveFailed_frame.last (by decide) ?_
    | with_reducible refine State.setDom_keeps.last (by decide) ?_
    | with_reducible refine State.keeps_foldl (fun _ _ => ?_) ?_
    | with_reducible refine State.keeps_ite ?_ ?_
    | split
    | with_reducible refine State.keeps_mk ?_

theorem State.keepCommit_frame {s : State} {l : List (ℕ × Sys2Proof.Byte)} :
    s.keeps [.od, .nv, .free] (State.keepCommit s l) := by
  unfold State.keepCommit; (try dsimp only)
  repeat' first
    | with_reducible exact State.keeps_refl
    | with_reducible refine State.nvFailed_keeps.last (by decide) ?_
    | with_reducible refine State.putKeep_keeps.last (by decide) ?_
    | with_reducible refine State.keeps_foldl (fun _ _ => ?_) ?_
    | with_reducible refine State.keeps_ite ?_ ?_
    | split
    | with_reducible refine State.keeps_mk ?_

theorem State.annealStart_frame {s : State} :
    s.keeps [.nv] (State.annealStart s) := by
  unfold State.annealStart; (try dsimp only)
  repeat' first
    | with_reducible exact State.keeps_refl
    | with_reducible refine State.keeps_foldl (fun _ _ => ?_) ?_
    | with_reducible refine State.keeps_ite ?_ ?_
    | split
    | with_reducible refine State.keeps_mk ?_

theorem State.annealPage_frame {s : State} {page : ℕ} {weak : List ℕ} :
    s.keeps [.od, .nv] (State.annealPage s page weak) := by
  unfold State.annealPage; (try dsimp only)
  repeat' first
    | with_reducible exact State.keeps_refl
    | with_reducible refine State.setO_keeps.last (by decide) ?_
    | with_reducible refine State.incBy_keeps.last (by decide) ?_
    | with_reducible refine State.keeps_foldl (fun _ _ => ?_) ?_
    | with_reducible refine State.keeps_ite ?_ ?_
    | split
    | with_reducible refine State.keeps_mk ?_

theorem State.compactSector_frame {s : State} {a : ℕ} {i : ℕ} :
    s.keeps [.od, .nv, .serial, .pwr, .free] (State.compactSector s a i) := by
  unfold State.compactSector; (try dsimp only)
  repeat' first
    | with_reducible exact State.keeps_refl
    | with_reducible refine State.compactTail_frame.last (by decide) ?_
    | with_reducible refine State.updJournal_frame.last (by decide) ?_
    | with_reducible refine State.keeps_foldl (fun _ _ => ?_) ?_
    | with_reducible refine State.keeps_ite ?_ ?_
    | split
    | with_reducible refine State.keeps_mk ?_

theorem State.listFailing_frame {s : State} :
    s.keeps [.od, .nv, .free] (State.listFailing s) := by
  unfold State.listFailing; (try dsimp only)
  repeat' first
    | with_reducible exact State.keeps_refl
    | with_reducible refine State.setJournal_frame.last (by decide) ?_
    | with_reducible refine State.keeps_foldl (fun _ _ => ?_) ?_
    | with_reducible refine State.keeps_ite ?_ ?_
    | split
    | with_reducible refine State.keeps_mk ?_

theorem State.releaseExpert_frame {f : ℕ} {s : State} :
    s.keeps [.od] (State.releaseExpert f s) := by
  unfold State.releaseExpert; (try dsimp only)
  repeat' first
    | with_reducible exact State.keeps_refl
    | with_reducible refine State.setO_keeps.last (by decide) ?_
    | with_reducible refine State.keeps_foldl (fun _ _ => ?_) ?_
    | with_reducible refine State.keeps_ite ?_ ?_
    | split
    | with_reducible refine State.keeps_mk ?_

theorem State.readRequest_frame {r : Sys2Proof.Req} {s : State} :
    s.keeps [.od, .time, .stat, .enc0, .enc1, .mem, .serial, .hk] ((State.readRequest r s).1) := by
  unfold State.readRequest; (try dsimp only)
  repeat' first
    | with_reducible exact State.keeps_refl
    | with_reducible refine State.readBlob_frame.last (by decide) ?_
    | with_reducible refine State.readValue_frame.last (by decide) ?_
    | with_reducible refine State.keeps_foldl (fun _ _ => ?_) ?_
    | with_reducible refine State.keeps_ite ?_ ?_
    | split
    | with_reducible refine State.keeps_mk ?_

theorem State.romRead_frame {r : Sys2Proof.Req} {s : State} :
    s.keeps [.od, .time, .chain, .stat, .enc0, .enc1, .mem, .serial, .hk] (State.romRead r s) := by
  unfold State.romRead; (try dsimp only)
  repeat' first
    | with_reducible exact State.keeps_refl
    | with_reducible refine State.answer_frame.last (by decide) ?_
    | with_reducible refine State.place_frame.last (by decide) ?_
    | with_reducible refine State.readRequest_frame.last (by decide) ?_
    | with_reducible refine State.keeps_foldl (fun _ _ => ?_) ?_
    | with_reducible refine State.keeps_ite ?_ ?_
    | split
    | with_reducible refine State.keeps_mk ?_

theorem State.dropStaging_frame {s : State} :
    s.keeps [.chain] (State.dropStaging s) := by
  unfold State.dropStaging; (try dsimp only)
  repeat' first
    | with_reducible exact State.keeps_refl
    | with_reducible refine State.keeps_foldl (fun _ _ => ?_) ?_
    | with_reducible refine State.keeps_ite ?_ ?_
    | split
    | with_reducible refine State.keeps_mk ?_

theorem State.staleStaging_frame {s : State} :
    s.keeps [.chain] (State.staleStaging s) := by
  unfold State.staleStaging; (try dsimp only)
  repeat' first
    | with_reducible exact State.keeps_refl
    | with_reducible refine State.dropStaging_frame.last (by decide) ?_
    | with_reducible refine State.keeps_foldl (fun _ _ => ?_) ?_
    | with_reducible refine State.keeps_ite ?_ ?_
    | split
    | with_reducible refine State.keeps_mk ?_

theorem State.rangeRequest_frame {r : Sys2Proof.Req} {s : State} :
    s.keeps [.od, .time, .enc0, .enc1, .mem, .serial, .hk] ((State.rangeRequest r s).1) := by
  unfold State.rangeRequest; (try dsimp only)
  repeat' first
    | with_reducible exact State.keeps_refl
    | with_reducible refine State.readEffect_frame.last (by decide) ?_
    | with_reducible refine State.keeps_foldl (fun _ _ => ?_) ?_
    | with_reducible refine State.keeps_ite ?_ ?_
    | split
    | with_reducible refine State.keeps_mk ?_

theorem State.lowRead_frame {s : State} {k : ℕ} :
    s.keeps [.od, .time, .bar0, .enc0, .enc1, .mem, .serial, .hk] ((State.lowRead s k).1) := by
  unfold State.lowRead; (try dsimp only)
  repeat' first
    | with_reducible exact State.keeps_refl
    | with_reducible refine State.readValue_frame.last (by decide) ?_
    | with_reducible refine State.keeps_foldl (fun _ _ => ?_) ?_
    | with_reducible refine State.keeps_ite ?_ ?_
    | split
    | with_reducible refine State.keeps_mk ?_

theorem State.upperRead_frame {s : State} {k : ℕ} :
    s.keeps [.bar0] ((State.upperRead s k).1) := by
  unfold State.upperRead; (try dsimp only)
  repeat' first
    | with_reducible exact State.keeps_refl
    | with_reducible refine State.keeps_foldl (fun _ _ => ?_) ?_
    | with_reducible refine State.keeps_ite ?_ ?_
    | split
    | with_reducible refine State.keeps_mk ?_

theorem State.bar0Word_frame {s : State} {a : ℕ} :
    s.keeps [.od, .time, .bar0, .enc0, .enc1, .mem, .serial, .hk] ((State.bar0Word s a).1) := by
  unfold State.bar0Word; (try dsimp only)
  repeat' first
    | with_reducible exact State.keeps_refl
    | with_reducible refine State.upperRead_frame.last (by decide) ?_
    | with_reducible refine State.lowRead_frame.last (by decide) ?_
    | with_reducible refine State.keeps_foldl (fun _ _ => ?_) ?_
    | with_reducible refine State.keeps_ite ?_ ?_
    | split
    | with_reducible refine State.keeps_mk ?_

theorem State.bar0Read_frame {addr : ℕ} {size : ℕ} {s : State} :
    s.keeps [.emitted, .od, .time, .bar0, .enc0, .enc1, .mem, .serial, .hk] (State.bar0Read addr size s) := by
  unfold State.bar0Read State.answerWord; (try dsimp only)
  repeat' first
    | with_reducible exact State.keeps_refl
    | with_reducible refine State.bar0Word_frame.last (by decide) ?_
    | with_reducible refine State.emit_keeps.last (by decide) ?_
    | with_reducible refine State.keeps_foldl (fun _ _ => ?_) ?_
    | with_reducible refine State.keeps_ite ?_ ?_
    | split
    | with_reducible refine State.keeps_mk ?_

theorem State.dropHeld_frame {s : State} :
    s.keeps [.od, .bar0] (State.dropHeld s) := by
  unfold State.dropHeld; (try dsimp only)
  repeat' first
    | with_reducible exact State.keeps_refl
    | with_reducible refine State.inc_keeps.last (by decide) ?_
    | with_reducible refine State.keeps_foldl (fun _ _ => ?_) ?_
    | with_reducible refine State.keeps_ite ?_ ?_
    | split
    | with_reducible refine State.keeps_mk ?_

theorem State.bar0Drop_frame {s : State} {addr : ℕ} :
    s.keeps [.od, .nv, .free] (State.bar0Drop s addr) := by
  unfold State.bar0Drop; (try dsimp only)
  repeat' first
    | with_reducible exact State.keeps_refl
    | with_reducible refine State.inc_keeps.last (by decide) ?_
    | with_reducible refine State.logEvt_keeps.last (by decide) ?_
    | with_reducible refine State.keeps_foldl (fun _ _ => ?_) ?_
    | with_reducible refine State.keeps_ite ?_ ?_
    | split
    | with_reducible refine State.keeps_mk ?_

theorem State.chRun_frame {s : State} {c : ℕ} :
    s.keeps [.od, .dma] (State.chRun s c) := by
  unfold State.chRun; (try dsimp only)
  repeat' first
    | with_reducible exact State.keeps_refl
    | with_reducible refine State.setCh_frame.last (by decide) ?_
    | with_reducible refine State.setO_keeps.last (by decide) ?_
    | with_reducible refine State.keeps_foldl (fun _ _ => ?_) ?_
    | with_reducible refine State.keeps_ite ?_ ?_
    | split
    | with_reducible refine State.keeps_mk ?_

theorem State.chStop_frame {s : State} {c : ℕ} {abort : Bool} :
    s.keeps [.emitted, .od, .host, .dma] (State.chStop s c abort) := by
  unfold State.chStop; (try dsimp only)
  repeat' first
    | with_reducible exact State.keeps_refl
    | with_reducible refine State.setCh_frame.last (by decide) ?_
    | with_reducible refine State.setO_keeps.last (by decide) ?_
    | with_reducible refine State.raise_keeps.last (by decide) ?_
    | with_reducible refine State.keeps_foldl (fun _ _ => ?_) ?_
    | with_reducible refine State.keeps_ite ?_ ?_
    | split
    | with_reducible refine State.keeps_mk ?_

theorem State.dmaBlocked_frame {s : State} {x : Sys2Proof.Machine.DescRun} :
    s.keeps [.od, .nv, .free] (State.dmaBlocked s x) := by
  unfold State.dmaBlocked; (try dsimp only)
  repeat' first
    | with_reducible exact State.keeps_refl
    | with_reducible refine State.blockedWrite_frame.last (by decide) ?_
    | with_reducible refine State.keeps_foldl (fun _ _ => ?_) ?_
    | with_reducible refine State.keeps_ite ?_ ?_
    | split
    | with_reducible refine State.keeps_mk ?_

theorem State.chStart_frame {s : State} {c : ℕ} {b : List Sys2Proof.Byte} :
    s.keeps [.od, .nv, .mem, .dma, .rings, .free] (State.chStart s c b) := by
  unfold State.chStart; (try dsimp only)
  repeat' first
    | with_reducible exact State.keeps_refl
    | with_reducible refine State.setCh_frame.last (by decide) ?_
    | with_reducible refine State.setSlot_frame.last (by decide) ?_
    | with_reducible refine State.dmaBlocked_frame.last (by decide) ?_
    | with_reducible refine State.setO_keeps.last (by decide) ?_
    | with_reducible refine State.keeps_foldl (fun _ _ => ?_) ?_
    | with_reducible refine State.keeps_ite ?_ ?_
    | split
    | with_reducible refine State.keeps_mk ?_

theorem State.burst_frame {s : State} {c : ℕ} {x : Sys2Proof.Machine.DescRun} {data : List Sys2Proof.Byte} :
    s.keeps [.emitted, .mem, .host, .dma] (State.burst s c x data) := by
  unfold State.burst; (try dsimp only)
  repeat' first
    | with_reducible exact State.keeps_refl
    | with_reducible refine State.traffic_frame.last (by decide) ?_
    | with_reducible refine State.setCh_frame.last (by decide) ?_
    | with_reducible refine State.setDram_frame.last (by decide) ?_
    | with_reducible refine State.emit_keeps.last (by decide) ?_
    | with_reducible refine State.keeps_foldl (fun _ _ => ?_) ?_
    | with_reducible refine State.keeps_ite ?_ ?_
    | split
    | with_reducible refine State.keeps_mk ?_

theorem State.moveQueue_frame {s : State} {b : Bool} :
    s.keeps [.chain] (State.moveQueue s b) := by
  unfold State.moveQueue; (try dsimp only)
  repeat' first
    | with_reducible exact State.keeps_refl
    | with_reducible refine State.setPort_keeps.last (by decide) ?_
    | with_reducible refine State.keeps_foldl (fun _ _ => ?_) ?_
    | with_reducible refine State.keeps_ite ?_ ?_
    | split
    | with_reducible refine State.keeps_mk ?_

theorem State.sameStation_frame {s : State} {f : List Sys2Proof.Byte} :
    s.keeps [.emitted, .od, .chain, .nv, .host, .free] (State.sameStation s f) := by
  unfold State.sameStation; (try dsimp only)
  repeat' first
    | with_reducible exact State.keeps_refl
    | with_reducible refine State.notify_keeps.last (by decide) ?_
    | with_reducible refine State.keeps_foldl (fun _ _ => ?_) ?_
    | with_reducible refine State.keeps_ite ?_ ?_
    | split
    | with_reducible refine State.keeps_mk ?_

theorem State.queueTelegram_frame {s : State} {port : Bool} :
    s.keeps [.od, .chain] (State.queueTelegram s port) := by
  unfold State.queueTelegram; (try dsimp only)
  repeat' first
    | with_reducible exact State.keeps_refl
    | with_reducible refine State.setPort_keeps.last (by decide) ?_
    | with_reducible refine State.inc_keeps.last (by decide) ?_
    | with_reducible refine State.keeps_foldl (fun _ _ => ?_) ?_
    | with_reducible refine State.keeps_ite ?_ ?_
    | split
    | with_reducible refine State.keeps_mk ?_

theorem State.inspect_frame {s : State} {port : Bool} {f : List Sys2Proof.Byte} :
    s.keeps [.emitted, .od, .chain, .nv, .host, .free] (State.inspect s port f) := by
  unfold State.inspect; (try dsimp only)
  repeat' first
    | with_reducible exact State.keeps_refl
    | with_reducible refine State.queueTelegram_frame.last (by decide) ?_
    | with_reducible refine State.sameStation_frame.last (by decide) ?_
    | with_reducible refine State.inc_keeps.last (by decide) ?_
    | with_reducible refine State.keeps_foldl (fun _ _ => ?_) ?_
    | with_reducible refine State.keeps_ite ?_ ?_
    | split
    | with_reducible refine State.keeps_mk ?_

theorem State.badFcs_frame {s : State} {port : Bool} {stomped : Bool} :
    s.keeps [.od] (State.badFcs s port stomped) := by
  unfold State.badFcs; (try dsimp only)
  repeat' first
    | with_reducible exact State.keeps_refl
    | with_reducible refine State.inc_keeps.last (by decide) ?_
    | with_reducible refine State.keeps_foldl (fun _ _ => ?_) ?_
    | with_reducible refine State.keeps_ite ?_ ?_
    | split
    | with_reducible refine State.keeps_mk ?_

theorem State.forward_frame {s : State} {port : Bool} {f : List Sys2Proof.Byte} {good : Bool} {residence : ℕ} :
    s.keeps [.emitted, .od] (State.forward s port f good residence) := by
  unfold State.forward; (try dsimp only)
  repeat' first
    | with_reducible exact State.keeps_refl
    | with_reducible refine State.inc_keeps.last (by decide) ?_
    | with_reducible refine State.emit_keeps.last (by decide) ?_
    | with_reducible refine State.keeps_foldl (fun _ _ => ?_) ?_
    | with_reducible refine State.keeps_ite ?_ ?_
    | split
    | with_reducible refine State.keeps_mk ?_

theorem State.arrive_frame {s : State} {port : Bool} {f : List Sys2Proof.Byte} {fcsOk : Bool} {stomped : Bool}
    {residence : ℕ} :
    s.keeps [.emitted, .od, .chain, .nv, .host, .free] (State.arrive s port f fcsOk stomped residence) := by
  unfold State.arrive; (try dsimp only)
  repeat' first
    | with_reducible exact State.keeps_refl
    | with_reducible refine State.inspect_frame.last (by decide) ?_
    | with_reducible refine State.forward_frame.last (by decide) ?_
    | with_reducible refine State.badFcs_frame.last (by decide) ?_
    | with_reducible refine State.inc_keeps.last (by decide) ?_
    | with_reducible refine State.keeps_foldl (fun _ _ => ?_) ?_
    | with_reducible refine State.keeps_ite ?_ ?_
    | split
    | with_reducible refine State.keeps_mk ?_

theorem State.ringFull_frame {s : State} {r : ℕ} :
    s.keeps [.od, .taps] (State.ringFull s r) := by
  unfold State.ringFull; (try dsimp only)
  repeat' first
    | with_reducible exact State.keeps_refl
    | with_reducible refine State.inc_keeps.last (by decide) ?_
    | with_reducible refine State.keeps_foldl (fun _ _ => ?_) ?_
    | with_reducible refine State.keeps_ite ?_ ?_
    | split
    | with_reducible refine State.keeps_mk ?_

theorem State.takeFor_frame {s : State} {x : Sys2Proof.Machine.FrameCtx} {p : Sys2Proof.Pos} {q : ℕ × ℕ × ℕ × ℕ} :
    s.keeps [.od, .taps, .mem, .rings] (State.takeFor s x p q) := by
  unfold State.takeFor; (try dsimp only)
  repeat' first
    | with_reducible exact State.keeps_refl
    | with_reducible refine State.release_frame.last (by decide) ?_
    | with_reducible refine State.ringFull_frame.last (by decide) ?_
    | with_reducible refine State.takeSlot_frame.last (by decide) ?_
    | with_reducible refine State.keeps_foldl (fun _ _ => ?_) ?_
    | with_reducible refine State.keeps_ite ?_ ?_
    | split
    | with_reducible refine State.keeps_mk ?_

theorem State.takeSlots_frame {s : State} {x : Sys2Proof.Machine.FrameCtx} {p : Sys2Proof.Pos} :
    s.keeps [.od, .taps, .mem, .rings] (State.takeSlots s x p) := by
  unfold State.takeSlots; (try dsimp only)
  repeat' first
    | with_reducible exact State.keeps_refl
    | with_reducible refine State.takeFor_frame.last (by decide) ?_
    | with_reducible refine State.keeps_foldl (fun _ _ => ?_) ?_
    | with_reducible refine State.keeps_ite ?_ ?_
    | split
    | with_reducible refine State.keeps_mk ?_

theorem State.completeSlot_frame {s : State} {p : Sys2Proof.Pos} {d : Sys2Proof.Machine.DoneFrame} {r : ℕ} {k : ℕ} :
    s.keeps [.od, .out0, .out1, .taps, .mem, .dma, .rings, .ingots, .free] (State.completeSlot s p d r k) := by
  unfold State.completeSlot; (try dsimp only)
  repeat' first
    | with_reducible exact State.keeps_refl
    | with_reducible refine State.requestLine_frame.last (by decide) ?_
    | with_reducible refine State.setSlot_frame.last (by decide) ?_
    | with_reducible refine State.setDram_frame.last (by decide) ?_
    | with_reducible refine State.discardSlot_frame.last (by decide) ?_
    | with_reducible refine State.keeps_foldl (fun _ _ => ?_) ?_
    | with_reducible refine State.keeps_ite ?_ ?_
    | split
    | with_reducible refine State.keeps_mk ?_

theorem State.completeFrame_frame {s : State} {p : Sys2Proof.Pos} {d : Sys2Proof.Machine.DoneFrame} :
    s.keeps [.od, .out0, .out1, .taps, .mem, .dma, .rings, .ingots, .free] (State.completeFrame s p d) := by
  unfold State.completeFrame; (try dsimp only)
  repeat' first
    | with_reducible exact State.keeps_refl
    | with_reducible refine State.completeSlot_frame.last (by decide) ?_
    | with_reducible refine State.release_frame.last (by decide) ?_
    | with_reducible refine State.keeps_foldl (fun _ _ => ?_) ?_
    | with_reducible refine State.keeps_ite ?_ ?_
    | split
    | with_reducible refine State.keeps_mk ?_

theorem State.completeMeans_frame {s : State} {p : Sys2Proof.Pos} {d : Sys2Proof.Machine.DoneFrame} :
    s.keeps [.od, .out0, .out1, .taps, .mem, .dma, .rings, .ingots, .free] (State.completeMeans s p d) := by
  unfold State.completeMeans; (try dsimp only)
  repeat' first
    | with_reducible exact State.keeps_refl
    | with_reducible refine State.ringFull_frame.last (by decide) ?_
    | with_reducible refine State.takeSlot_frame.last (by decide) ?_
    | with_reducible refine State.completeSlot_frame.last (by decide) ?_
    | with_reducible refine State.inc_keeps.last (by decide) ?_
    | with_reducible refine State.keeps_foldl (fun _ _ => ?_) ?_
    | with_reducible refine State.keeps_ite ?_ ?_
    | split
    | with_reducible refine State.keeps_mk ?_

theorem State.ingotsDone_frame {s : State} {p : Sys2Proof.Pos} :
    s.keeps [.od, .pipe, .out0, .out1, .taps, .mem, .dma, .rings, .ingots, .free] (State.ingotsDone s p) := by
  unfold State.ingotsDone; (try dsimp only)
  repeat' first
    | with_reducible exact State.keeps_refl
    | with_reducible refine State.completeFrame_frame.last (by decide) ?_
    | with_reducible refine State.completeMeans_frame.last (by decide) ?_
    | with_reducible refine State.setPipe_frame.last (by decide) ?_
    | with_reducible refine State.keeps_foldl (fun _ _ => ?_) ?_
    | with_reducible refine State.keeps_ite ?_ ?_
    | split
    | with_reducible refine State.keeps_mk ?_

theorem State.handGen_frame {s : State} {p : Sys2Proof.Pos} :
    s.keeps [.od, .gen, .vdet] (State.handGen s p) := by
  unfold State.handGen; (try dsimp only)
  repeat' first
    | with_reducible exact State.keeps_refl
    | with_reducible refine State.activate_frame.last (by decide) ?_
    | with_reducible refine State.setGen_frame.last (by decide) ?_
    | with_reducible refine State.setO_keeps.last (by decide) ?_
    | with_reducible refine State.keeps_foldl (fun _ _ => ?_) ?_
    | with_reducible refine State.keeps_ite ?_ ?_
    | split
    | with_reducible refine State.keeps_mk ?_

theorem State.handCoef_frame {s : State} {p : Sys2Proof.Pos} :
    s.keeps [.od, .coef, .mem] (State.handCoef s p) := by
  unfold State.handCoef; (try dsimp only)
  repeat' first
    | with_reducible exact State.keeps_refl
    | with_reducible refine State.tauMedian_frame.last (by decide) ?_
    | with_reducible refine State.emptyTauHistory_frame.last (by decide) ?_
    | with_reducible refine State.setOs_keeps.last (by decide) ?_
    | with_reducible refine State.incWrap_keeps.last (by decide) ?_
    | with_reducible refine State.emptyStamps_frame.last (by decide) ?_
    | with_reducible refine State.setCoef_frame.last (by decide) ?_
    | with_reducible refine State.setO_keeps.last (by decide) ?_
    | with_reducible refine State.keeps_foldl (fun _ _ => ?_) ?_
    | with_reducible refine State.keeps_ite ?_ ?_
    | split
    | with_reducible refine State.keeps_mk ?_

theorem State.handThrottle_frame {s : State} {p : Sys2Proof.Pos} :
    s.keeps [.trig, .therm] (State.handThrottle s p) := by
  unfold State.handThrottle; (try dsimp only)
  repeat' first
    | with_reducible exact State.keeps_refl
    | with_reducible refine State.keeps_foldl (fun _ _ => ?_) ?_
    | with_reducible refine State.keeps_ite ?_ ?_
    | split
    | with_reducible refine State.keeps_mk ?_

theorem State.handFilter_frame {s : State} {p : Sys2Proof.Pos} {was : ℤ} :
    s.keeps [.mem] (State.handFilter s p was) := by
  unfold State.handFilter; (try dsimp only)
  repeat' first
    | with_reducible exact State.keeps_refl
    | with_reducible refine State.clearRowValid_frame.last (by decide) ?_
    | with_reducible refine State.keeps_foldl (fun _ _ => ?_) ?_
    | with_reducible refine State.keeps_ite ?_ ?_
    | split
    | with_reducible refine State.keeps_mk ?_

theorem State.handTrack_frame {s : State} {p : Sys2Proof.Pos} {x : Sys2Proof.Machine.FrameCtx} :
    s.keeps [.pipe] (State.handTrack s p x) := by
  unfold State.handTrack; (try dsimp only)
  repeat' first
    | with_reducible exact State.keeps_refl
    | with_reducible refine State.setPipe_frame.last (by decide) ?_
    | with_reducible refine State.keeps_foldl (fun _ _ => ?_) ?_
    | with_reducible refine State.keeps_ite ?_ ?_
    | split
    | with_reducible refine State.keeps_mk ?_

theorem State.eclLine_frame {s : State} {p : Sys2Proof.Pos} {before : ℤ} :
    s.keeps [.od, .dma] (State.eclLine s p before) := by
  unfold State.eclLine; (try dsimp only)
  repeat' first
    | with_reducible exact State.keeps_refl
    | with_reducible refine State.requestLine_frame.last (by decide) ?_
    | with_reducible refine State.keeps_foldl (fun _ _ => ?_) ?_
    | with_reducible refine State.keeps_ite ?_ ?_
    | split
    | with_reducible refine State.keeps_mk ?_

theorem State.vdetDue_frame {s : State} {p : Sys2Proof.Pos} :
    s.keeps [.od, .ecl] (State.vdetDue s p) := by
  unfold State.vdetDue; (try dsimp only)
  repeat' first
    | with_reducible exact State.keeps_refl
    | with_reducible refine State.becomeDue_frame.last (by decide) ?_
    | with_reducible refine State.setEcl_frame.last (by decide) ?_
    | with_reducible refine State.keeps_foldl (fun _ _ => ?_) ?_
    | with_reducible refine State.keeps_ite ?_ ?_
    | split
    | with_reducible refine State.keeps_mk ?_

theorem State.handVdet_frame {s : State} {p : Sys2Proof.Pos} {num : ℕ} :
    s.keeps [.od, .vdet] (State.handVdet s p num) := by
  unfold State.handVdet; (try dsimp only)
  repeat' first
    | with_reducible exact State.keeps_refl
    | with_reducible refine State.vdetFollow_frame.last (by decide) ?_
    | with_reducible refine State.keeps_foldl (fun _ _ => ?_) ?_
    | with_reducible refine State.keeps_ite ?_ ?_
    | split
    | with_reducible refine State.keeps_mk ?_

theorem State.lateWords_frame {s : State} {p : Sys2Proof.Pos} :
    s.keeps [.emitted, .fpa, .sp0] (State.lateWords s p) := by
  unfold State.lateWords; (try dsimp only)
  repeat' first
    | with_reducible exact State.keeps_refl
    | with_reducible refine State.setFpa_frame.last (by decide) ?_
    | with_reducible refine State.sp0Next_frame.last (by decide) ?_
    | with_reducible refine State.keeps_foldl (fun _ _ => ?_) ?_
    | with_reducible refine State.keeps_ite ?_ ?_
    | split
    | with_reducible refine State.keeps_mk ?_

theorem State.handWords_frame {s : State} {p : Sys2Proof.Pos} {num : ℕ} :
    s.keeps [.emitted, .fpa, .sp0] (State.handWords s p num) := by
  unfold State.handWords; (try dsimp only)
  repeat' first
    | with_reducible exact State.keeps_refl
    | with_reducible refine State.lateWords_frame.last (by decide) ?_
    | with_reducible refine State.keeps_foldl (fun _ _ => ?_) ?_
    | with_reducible refine State.keeps_ite ?_ ?_
    | split
    | with_reducible refine State.keeps_mk ?_

theorem State.handOver_frame {s : State} {p : Sys2Proof.Pos} {f : Sys2Proof.Machine.OpenFrame} :
    s.keeps [.emitted, .od, .modes, .ops, .chain, .nv, .lanes, .aligned, .intake, .link, .fpa, .sp0, .pipe, .coef, .gen,
      .vdet, .ecl, .shut, .windows, .trig, .trigOut, .out0, .out1, .taps, .mem, .host, .dma, .rings, .serial, .hk,
      .therm, .pwr, .dbg, .free] (State.handOver s p f) := by
  unfold State.handOver; (try dsimp only)
  repeat' first
    | with_reducible exact State.keeps_refl
    | with_reducible refine State.handTrack_frame.last (by decide) ?_
    | with_reducible refine State.takeSlots_frame.last (by decide) ?_
    | with_reducible refine State.eclLine_frame.last (by decide) ?_
    | with_reducible refine State.afterEcl_frame.last (by decide) ?_
    | with_reducible refine State.handCoef_frame.last (by decide) ?_
    | with_reducible refine State.handThrottle_frame.last (by decide) ?_
    | with_reducible refine State.handWords_frame.last (by decide) ?_
    | with_reducible refine State.showLoads_frame.last (by decide) ?_
    | with_reducible refine State.eclHandOver_frame.last (by decide) ?_
    | with_reducible refine State.handGen_frame.last (by decide) ?_
    | with_reducible refine State.handVdet_frame.last (by decide) ?_
    | with_reducible refine State.handFilter_frame.last (by decide) ?_
    | with_reducible refine State.vdetDue_frame.last (by decide) ?_
    | with_reducible refine State.keeps_foldl (fun _ _ => ?_) ?_
    | with_reducible refine State.keeps_ite ?_ ?_
    | split
    | with_reducible refine State.keeps_mk ?_

theorem State.takeMarker_frame {s : State} {lane : ℕ} {g : ℕ} {stripe : ℕ} {place : ℕ} :
    s.keeps [.od, .lanes, .aligned, .link] (State.takeMarker s lane g stripe place) := by
  unfold State.takeMarker; (try dsimp only)
  repeat' first
    | with_reducible exact State.keeps_refl
    | with_reducible refine State.setLane_frame.last (by decide) ?_
    | with_reducible refine State.tryAlign_frame.last (by decide) ?_
    | with_reducible refine State.loseAlignment_frame.last (by decide) ?_
    | with_reducible refine State.keeps_foldl (fun _ _ => ?_) ?_
    | with_reducible refine State.keeps_ite ?_ ?_
    | split
    | with_reducible refine State.keeps_mk ?_

theorem State.checkStart_frame {s : State} {p : Sys2Proof.Pos} {f : Sys2Proof.Machine.OpenFrame} {pkt : List
    Sys2Proof.Byte} :
    s.keeps [.od, .intake] (State.checkStart s p f pkt) := by
  unfold State.checkStart; (try dsimp only)
  repeat' first
    | with_reducible exact State.keeps_refl
    | with_reducible refine State.setIntake_frame.last (by decide) ?_
    | with_reducible refine State.inc_keeps.last (by decide) ?_
    | with_reducible refine State.setOpen_frame.last (by decide) ?_
    | with_reducible refine State.keeps_foldl (fun _ _ => ?_) ?_
    | with_reducible refine State.keeps_ite ?_ ?_
    | split
    | with_reducible refine State.keeps_mk ?_

theorem State.unsolicitedStart_frame {s : State} {p : Sys2Proof.Pos} {tag : ℕ} :
    s.keeps [.emitted, .od, .intake, .fpa, .sp0, .vdet, .ecl, .shut, .trig, .trigOut] (State.unsolicitedStart s p tag) :=
      by
  unfold State.unsolicitedStart; (try dsimp only)
  repeat' first
    | with_reducible exact State.keeps_refl
    | with_reducible refine State.setIntake_frame.last (by decide) ?_
    | with_reducible refine State.frameClosed_frame.last (by decide) ?_
    | with_reducible refine State.inc_keeps.last (by decide) ?_
    | with_reducible refine State.keeps_foldl (fun _ _ => ?_) ?_
    | with_reducible refine State.keeps_ite ?_ ?_
    | split
    | with_reducible refine State.keeps_mk ?_

theorem State.takeRow_frame {s : State} {p : Sys2Proof.Pos} {k : Sys2Proof.Pos} {row : ℕ} {col0 : ℕ} {data : List ℕ}
    {fault : Bool} {subt : Option ℕ} :
    s.keeps [.emitted, .od, .chain, .nv, .intake, .vdet, .ecl, .host, .free] (State.takeRow s p k row col0 data fault
      subt) := by
  unfold State.takeRow; (try dsimp only)
  repeat' first
    | with_reducible exact State.keeps_refl
    | with_reducible refine State.warmRow_frame.last (by decide) ?_
    | with_reducible refine State.offerRow_frame.last (by decide) ?_
    | with_reducible refine State.keeps_foldl (fun _ _ => ?_) ?_
    | with_reducible refine State.keeps_ite ?_ ?_
    | split
    | with_reducible refine State.keeps_mk ?_

theorem State.askTemp_frame {s : State} :
    s.keeps [.emitted, .fpa, .sp0] (State.askTemp s) := by
  unfold State.askTemp; (try dsimp only)
  repeat' first
    | with_reducible exact State.keeps_refl
    | with_reducible refine State.setFpa_frame.last (by decide) ?_
    | with_reducible refine State.sp0Next_frame.last (by decide) ?_
    | with_reducible refine State.keeps_foldl (fun _ _ => ?_) ?_
    | with_reducible refine State.keeps_ite ?_ ?_
    | split
    | with_reducible refine State.keeps_mk ?_

theorem State.renewLease_frame {s : State} :
    s.keeps [.od, .chain] (State.renewLease s) := by
  unfold State.renewLease; (try dsimp only)
  repeat' first
    | with_reducible exact State.keeps_refl
    | with_reducible refine State.setOs_keeps.last (by decide) ?_
    | with_reducible refine State.keeps_foldl (fun _ _ => ?_) ?_
    | with_reducible refine State.keeps_ite ?_ ?_
    | split
    | with_reducible refine State.keeps_mk ?_

theorem State.granted_frame {s : State} {role : ℕ} {hb : ℕ} {miss : ℕ} {epoch : ℕ} :
    s.keeps [.od, .modes, .chain, .nv, .out0, .out1, .mem, .dma, .rings, .free] (State.granted s role hb miss epoch) := by
  unfold State.granted; (try dsimp only)
  repeat' first
    | with_reducible exact State.keeps_refl
    | with_reducible refine State.setO_keeps.last (by decide) ?_
    | with_reducible refine State.setOs_keeps.last (by decide) ?_
    | with_reducible refine State.writeLease_frame.last (by decide) ?_
    | with_reducible refine State.renewLease_frame.last (by decide) ?_
    | with_reducible refine State.discardIf_frame.last (by decide) ?_
    | with_reducible refine State.keeps_foldl (fun _ _ => ?_) ?_
    | with_reducible refine State.keeps_ite ?_ ?_
    | split
    | with_reducible refine State.keeps_mk ?_

theorem State.leaseGrant_frame {good : Bool} {r : Sys2Proof.Req} {s : State} :
    s.keeps [.od, .modes, .chain, .nv, .out0, .out1, .mem, .dma, .rings, .free] ((State.leaseGrant good r s).1) := by
  unfold State.leaseGrant; (try dsimp only)
  repeat' first
    | with_reducible exact State.keeps_refl
    | with_reducible refine State.nvFailed_keeps.last (by decide) ?_
    | with_reducible refine State.inc_keeps.last (by decide) ?_
    | with_reducible refine State.granted_frame.last (by decide) ?_
    | with_reducible refine State.pageIs_frame.last (by decide) ?_
    | with_reducible refine State.keeps_foldl (fun _ _ => ?_) ?_
    | with_reducible refine State.keeps_ite ?_ ?_
    | split
    | with_reducible refine State.keeps_mk ?_

theorem State.leaseAnnounced_frame {s : State} {good : Bool} {role : ℕ} {station : ℕ} {epoch : ℕ} :
    s.keeps [.emitted, .od, .modes, .ops, .chain, .nv, .lanes, .aligned, .intake, .link, .fpa, .sp0, .coef, .vdet, .ecl,
      .shut, .windows, .trig, .trigOut, .out0, .out1, .mem, .host, .dma, .rings, .serial, .hk, .pwr, .free]
      (State.leaseAnnounced s good role station epoch) := by
  unfold State.leaseAnnounced; (try dsimp only)
  repeat' first
    | with_reducible exact State.keeps_refl
    | with_reducible refine State.inc_keeps.last (by decide) ?_
    | with_reducible refine State.toOrphan_frame.last (by decide) ?_
    | with_reducible refine State.keeps_foldl (fun _ _ => ?_) ?_
    | with_reducible refine State.keeps_ite ?_ ?_
    | split
    | with_reducible refine State.keeps_mk ?_

theorem State.staleEntry_frame {s : State} :
    s.keeps [.od, .chain] (State.staleEntry s) := by
  unfold State.staleEntry; (try dsimp only)
  repeat' first
    | with_reducible exact State.keeps_refl
    | with_reducible refine State.inc_keeps.last (by decide) ?_
    | with_reducible refine State.keeps_foldl (fun _ _ => ?_) ?_
    | with_reducible refine State.keeps_ite ?_ ?_
    | split
    | with_reducible refine State.keeps_mk ?_

theorem State.leaseEntry_frame {s : State} {good : Bool} {role : ℕ} {station : ℕ} {epoch : ℕ} :
    s.keeps [.emitted, .od, .modes, .ops, .chain, .nv, .lanes, .aligned, .intake, .link, .fpa, .sp0, .coef, .vdet, .ecl,
      .shut, .windows, .trig, .trigOut, .out0, .out1, .mem, .host, .dma, .rings, .serial, .hk, .pwr, .free]
      (State.leaseEntry s good role station epoch) := by
  unfold State.leaseEntry; (try dsimp only)
  repeat' first
    | with_reducible exact State.keeps_refl
    | with_reducible refine State.toOrphan_frame.last (by decide) ?_
    | with_reducible refine State.staleEntry_frame.last (by decide) ?_
    | with_reducible refine State.renewLease_frame.last (by decide) ?_
    | with_reducible refine State.keeps_foldl (fun _ _ => ?_) ?_
    | with_reducible refine State.keeps_ite ?_ ?_
    | split
    | with_reducible refine State.keeps_mk ?_

theorem State.leaseDue_frame {s : State} :
    s.keeps [.emitted, .od, .chain, .nv, .out0, .out1, .mem, .host, .dma, .rings, .free] (State.leaseDue s) := by
  unfold State.leaseDue; (try dsimp only)
  repeat' first
    | with_reducible exact State.keeps_refl
    | with_reducible refine State.discardRole_frame.last (by decide) ?_
    | with_reducible refine State.setO_keeps.last (by decide) ?_
    | with_reducible refine State.inc_keeps.last (by decide) ?_
    | with_reducible refine State.notify_keeps.last (by decide) ?_
    | with_reducible refine State.keeps_foldl (fun _ _ => ?_) ?_
    | with_reducible refine State.keeps_ite ?_ ?_
    | split
    | with_reducible refine State.keeps_mk ?_

theorem State.heartbeat_frame {good : Bool} {r : Sys2Proof.Req} {s : State} :
    s.keeps [.emitted, .od, .modes, .ops, .chain, .nv, .lanes, .aligned, .intake, .link, .fpa, .sp0, .coef, .vdet, .ecl,
      .shut, .windows, .trig, .trigOut, .out0, .out1, .mem, .host, .dma, .rings, .serial, .hk, .pwr, .free]
      (State.heartbeat good r s) := by
  unfold State.heartbeat; (try dsimp only)
  repeat' first
    | with_reducible exact State.keeps_refl
    | with_reducible refine State.leaseEntry_frame.last (by decide) ?_
    | with_reducible refine State.place_frame.last (by decide) ?_
    | with_reducible refine State.leaseDue_frame.last (by decide) ?_
    | with_reducible refine State.keeps_foldl (fun _ _ => ?_) ?_
    | with_reducible refine State.keeps_ite ?_ ?_
    | split
    | with_reducible refine State.keeps_mk ?_

theorem State.sendFrame_frame {s : State} {b : Bool} {mac : ℕ} {bytes : List Sys2Proof.Byte} :
    s.keeps [.emitted, .out0, .out1] (State.sendFrame s b mac bytes) := by
  unfold State.sendFrame; (try dsimp only)
  repeat' first
    | with_reducible exact State.keeps_refl
    | with_reducible refine State.emit_keeps.last (by decide) ?_
    | with_reducible refine State.setOutPort_frame.last (by decide) ?_
    | with_reducible refine State.keeps_foldl (fun _ _ => ?_) ?_
    | with_reducible refine State.keeps_ite ?_ ?_
    | split
    | with_reducible refine State.keeps_mk ?_

theorem State.askArp_frame {s : State} {b : Bool} {ip : ℕ} :
    s.keeps [.emitted, .out0, .out1] (State.askArp s b ip) := by
  unfold State.askArp; (try dsimp only)
  repeat' first
    | with_reducible exact State.keeps_refl
    | with_reducible refine State.sendFrame_frame.last (by decide) ?_
    | with_reducible refine State.keeps_foldl (fun _ _ => ?_) ?_
    | with_reducible refine State.keeps_ite ?_ ?_
    | split
    | with_reducible refine State.keeps_mk ?_

theorem State.outLinkUp_frame {s : State} {b : Bool} :
    s.keeps [.emitted, .out0, .out1] (State.outLinkUp s b) := by
  unfold State.outLinkUp; (try dsimp only)
  repeat' first
    | with_reducible exact State.keeps_refl
    | with_reducible refine State.askArp_frame.last (by decide) ?_
    | with_reducible refine State.setOutPort_frame.last (by decide) ?_
    | with_reducible refine State.keeps_foldl (fun _ _ => ?_) ?_
    | with_reducible refine State.keeps_ite ?_ ?_
    | split
    | with_reducible refine State.keeps_mk ?_

theorem State.endPause_frame {s : State} {b : Bool} :
    s.keeps [.emitted, .od, .out0, .out1] (State.endPause s b) := by
  unfold State.endPause; (try dsimp only)
  repeat' first
    | with_reducible exact State.keeps_refl
    | with_reducible refine State.setOutPort_frame.last (by decide) ?_
    | with_reducible refine State.sendFrame_frame.last (by decide) ?_
    | with_reducible refine State.stopHold_frame.last (by decide) ?_
    | with_reducible refine State.keeps_foldl (fun _ _ => ?_) ?_
    | with_reducible refine State.keeps_ite ?_ ?_
    | split
    | with_reducible refine State.keeps_mk ?_

theorem State.outLinkDown_frame {s : State} {b : Bool} :
    s.keeps [.emitted, .od, .out0, .out1, .mem, .dma, .rings] (State.outLinkDown s b) := by
  unfold State.outLinkDown; (try dsimp only)
  repeat' first
    | with_reducible exact State.keeps_refl
    | with_reducible refine State.endPause_frame.last (by decide) ?_
    | with_reducible refine State.discardIf_frame.last (by decide) ?_
    | with_reducible refine State.setOutPort_frame.last (by decide) ?_
    | with_reducible refine State.keeps_foldl (fun _ _ => ?_) ?_
    | with_reducible refine State.keeps_ite ?_ ?_
    | split
    | with_reducible refine State.keeps_mk ?_

theorem State.pauseExpired_frame {s : State} {b : Bool} :
    s.keeps [.emitted, .od, .out0, .out1] (State.pauseExpired s b) := by
  unfold State.pauseExpired; (try dsimp only)
  repeat' first
    | with_reducible exact State.keeps_refl
    | with_reducible refine State.endPause_frame.last (by decide) ?_
    | with_reducible refine State.keeps_foldl (fun _ _ => ?_) ?_
    | with_reducible refine State.keeps_ite ?_ ?_
    | split
    | with_reducible refine State.keeps_mk ?_

theorem State.pauseArrives_frame {s : State} {b : Bool} {q : ℕ} :
    s.keeps [.emitted, .od, .out0, .out1] (State.pauseArrives s b q) := by
  unfold State.pauseArrives; (try dsimp only)
  repeat' first
    | with_reducible exact State.keeps_refl
    | with_reducible refine State.setOutPort_frame.last (by decide) ?_
    | with_reducible refine State.endPause_frame.last (by decide) ?_
    | with_reducible refine State.inc_keeps.last (by decide) ?_
    | with_reducible refine State.keeps_foldl (fun _ _ => ?_) ?_
    | with_reducible refine State.keeps_ite ?_ ?_
    | split
    | with_reducible refine State.keeps_mk ?_

theorem State.putArp_frame {s : State} {b : Bool} {e : Sys2Proof.Machine.ArpEntry} :
    s.keeps [.out0, .out1] (State.putArp s b e) := by
  unfold State.putArp; (try dsimp only)
  repeat' first
    | with_reducible exact State.keeps_refl
    | with_reducible refine State.setOutPort_frame.last (by decide) ?_
    | with_reducible refine State.keeps_foldl (fun _ _ => ?_) ?_
    | with_reducible refine State.keeps_ite ?_ ?_
    | split
    | with_reducible refine State.keeps_mk ?_

theorem State.resolve_frame {s : State} {b : Bool} {dst : ℕ} :
    s.keeps [.emitted, .out0, .out1] (State.resolve s b dst) := by
  unfold State.resolve; (try dsimp only)
  repeat' first
    | with_reducible exact State.keeps_refl
    | with_reducible refine State.putArp_frame.last (by decide) ?_
    | with_reducible refine State.askArp_frame.last (by decide) ?_
    | with_reducible refine State.keeps_foldl (fun _ _ => ?_) ?_
    | with_reducible refine State.keeps_ite ?_ ?_
    | split
    | with_reducible refine State.keeps_mk ?_

theorem State.fetchAhead_frame {s : State} {b : Bool} :
    s.keeps [.out0, .out1] (State.fetchAhead s b) := by
  unfold State.fetchAhead; (try dsimp only)
  repeat' first
    | with_reducible exact State.keeps_refl
    | with_reducible refine State.setOutPort_frame.last (by decide) ?_
    | with_reducible refine State.keeps_foldl (fun _ _ => ?_) ?_
    | with_reducible refine State.keeps_ite ?_ ?_
    | split
    | with_reducible refine State.keeps_mk ?_

theorem State.egress_frame {s : State} {b : Bool} :
    s.keeps [.emitted, .od, .out0, .out1, .mem, .rings] (State.egress s b) := by
  unfold State.egress; (try dsimp only)
  repeat' first
    | with_reducible exact State.keeps_refl
    | with_reducible refine State.release_frame.last (by decide) ?_
    | with_reducible refine State.inc_keeps.last (by decide) ?_
    | with_reducible refine State.resolve_frame.last (by decide) ?_
    | with_reducible refine State.setSlot_frame.last (by decide) ?_
    | with_reducible refine State.setOutPort_frame.last (by decide) ?_
    | with_reducible refine State.fetchAhead_frame.last (by decide) ?_
    | with_reducible refine State.keeps_foldl (fun _ _ => ?_) ?_
    | with_reducible refine State.keeps_ite ?_ ?_
    | split
    | with_reducible refine State.keeps_mk ?_

theorem State.ingotSent_frame {s : State} {b : Bool} {r : ℕ} {k : ℕ} :
    s.keeps [.od, .out0, .out1, .mem, .rings] (State.ingotSent s b r k) := by
  unfold State.ingotSent; (try dsimp only)
  repeat' first
    | with_reducible exact State.keeps_refl
    | with_reducible refine State.inc_keeps.last (by decide) ?_
    | with_reducible refine State.release_frame.last (by decide) ?_
    | with_reducible refine State.setOutPort_frame.last (by decide) ?_
    | with_reducible refine State.keeps_foldl (fun _ _ => ?_) ?_
    | with_reducible refine State.keeps_ite ?_ ?_
    | split
    | with_reducible refine State.keeps_mk ?_

theorem State.datagram_frame {s : State} {b : Bool} {r : ℕ} {k : ℕ} {i : ℕ} {off : ℕ} {d : List Sys2Proof.Byte} :
    s.keeps [.emitted, .od, .out0, .out1, .mem, .rings] (State.datagram s b r k i off d) := by
  unfold State.datagram; (try dsimp only)
  repeat' first
    | with_reducible exact State.keeps_refl
    | with_reducible refine State.ingotSent_frame.last (by decide) ?_
    | with_reducible refine State.setO_keeps.last (by decide) ?_
    | with_reducible refine State.setOutPort_frame.last (by decide) ?_
    | with_reducible refine State.fetchAhead_frame.last (by decide) ?_
    | with_reducible refine State.emit_keeps.last (by decide) ?_
    | with_reducible refine State.setDram_frame.last (by decide) ?_
    | with_reducible refine State.keeps_foldl (fun _ _ => ?_) ?_
    | with_reducible refine State.keeps_ite ?_ ?_
    | split
    | with_reducible refine State.keeps_mk ?_

theorem State.setSlave_frame {s : State} {x : Sys2Proof.Machine.SlaveSt} :
    s.keeps [.serial] (State.setSlave s x) := by
  unfold State.setSlave; (try dsimp only)
  repeat' first
    | with_reducible exact State.keeps_refl
    | with_reducible refine State.keeps_foldl (fun _ _ => ?_) ?_
    | with_reducible refine State.keeps_ite ?_ ?_
    | split
    | with_reducible refine State.keeps_mk ?_

theorem State.setSlaveErr_frame {s : State} {port : Bool} {e : Sys2Proof.Machine.SlaveErr} :
    s.keeps [.serial] (State.setSlaveErr s port e) := by
  unfold State.setSlaveErr; (try dsimp only)
  repeat' first
    | with_reducible exact State.keeps_refl
    | with_reducible refine State.setSlave_frame.last (by decide) ?_
    | with_reducible refine State.keeps_foldl (fun _ _ => ?_) ?_
    | with_reducible refine State.keeps_ite ?_ ?_
    | split
    | with_reducible refine State.keeps_mk ?_

theorem State.stick_frame {s : State} {port : Bool} {e : Sys2Proof.Machine.SlaveErr} :
    s.keeps [.serial] (State.stick s port e) := by
  unfold State.stick; (try dsimp only)
  repeat' first
    | with_reducible exact State.keeps_refl
    | with_reducible refine State.setSlave_frame.last (by decide) ?_
    | with_reducible refine State.keeps_foldl (fun _ _ => ?_) ?_
    | with_reducible refine State.keeps_ite ?_ ?_
    | split
    | with_reducible refine State.keeps_mk ?_

theorem State.slaveEnd_frame {s : State} {port : Bool} {e : Sys2Proof.Machine.SlaveErr} :
    s.keeps [.od, .serial] (State.slaveEnd s port e) := by
  unfold State.slaveEnd; (try dsimp only)
  repeat' first
    | with_reducible exact State.keeps_refl
    | with_reducible refine State.inc_keeps.last (by decide) ?_
    | with_reducible refine State.setSlaveErr_frame.last (by decide) ?_
    | with_reducible refine State.stick_frame.last (by decide) ?_
    | with_reducible refine State.keeps_foldl (fun _ _ => ?_) ?_
    | with_reducible refine State.keeps_ite ?_ ?_
    | split
    | with_reducible refine State.keeps_mk ?_

theorem State.statusSent_frame {s : State} {port : Bool} :
    s.keeps [.serial] (State.statusSent s port) := by
  unfold State.statusSent; (try dsimp only)
  repeat' first
    | with_reducible exact State.keeps_refl
    | with_reducible refine State.setSlaveErr_frame.last (by decide) ?_
    | with_reducible refine State.keeps_foldl (fun _ _ => ?_) ?_
    | with_reducible refine State.keeps_ite ?_ ?_
    | split
    | with_reducible refine State.keeps_mk ?_

theorem State.slaveReturn_frame {s : State} {port : Bool} {bs : List Sys2Proof.Byte} :
    s.keeps [.emitted, .serial] (State.slaveReturn s port bs) := by
  unfold State.slaveReturn; (try dsimp only)
  repeat' first
    | with_reducible exact State.keeps_refl
    | with_reducible refine State.statusSent_frame.last (by decide) ?_
    | with_reducible refine State.emit_keeps.last (by decide) ?_
    | with_reducible refine State.keeps_foldl (fun _ _ => ?_) ?_
    | with_reducible refine State.keeps_ite ?_ ?_
    | split
    | with_reducible refine State.keeps_mk ?_

theorem State.slaveRead_frame {s : State} {port : Bool} {addr : ℕ} {edges : ℕ} :
    s.keeps [.emitted, .od, .serial] (State.slaveRead s port addr edges) := by
  unfold State.slaveRead; (try dsimp only)
  repeat' first
    | with_reducible exact State.keeps_refl
    | with_reducible refine State.setSlave_frame.last (by decide) ?_
    | with_reducible refine State.slaveReturn_frame.last (by decide) ?_
    | with_reducible refine State.slaveEnd_frame.last (by decide) ?_
    | with_reducible refine State.keeps_foldl (fun _ _ => ?_) ?_
    | with_reducible refine State.keeps_ite ?_ ?_
    | split
    | with_reducible refine State.keeps_mk ?_

theorem State.slaveStatus_frame {s : State} {port : Bool} {cmd : ℕ} {edges : ℕ} :
    s.keeps [.emitted, .od, .serial] (State.slaveStatus s port cmd edges) := by
  unfold State.slaveStatus; (try dsimp only)
  repeat' first
    | with_reducible exact State.keeps_refl
    | with_reducible refine State.slaveReturn_frame.last (by decide) ?_
    | with_reducible refine State.slaveEnd_frame.last (by decide) ?_
    | with_reducible refine State.keeps_foldl (fun _ _ => ?_) ?_
    | with_reducible refine State.keeps_ite ?_ ?_
    | split
    | with_reducible refine State.keeps_mk ?_

theorem State.slaveWrite_frame {s : State} {port : Bool} {addr : ℕ} {bytes : List Sys2Proof.Byte} {edges : ℕ} :
    s.keeps [.emitted, .od, .serial] (State.slaveWrite s port addr bytes edges) := by
  unfold State.slaveWrite; (try dsimp only)
  repeat' first
    | with_reducible exact State.keeps_refl
    | with_reducible refine State.setSlave_frame.last (by decide) ?_
    | with_reducible refine State.slaveEnd_frame.last (by decide) ?_
    | with_reducible refine State.slaveReturn_frame.last (by decide) ?_
    | with_reducible refine State.keeps_foldl (fun _ _ => ?_) ?_
    | with_reducible refine State.keeps_ite ?_ ?_
    | split
    | with_reducible refine State.keeps_mk ?_

theorem State.mbxEnd_frame {s : State} {code : ℕ} :
    s.keeps [.serial] (State.mbxEnd s code) := by
  unfold State.mbxEnd; (try dsimp only)
  repeat' first
    | with_reducible exact State.keeps_refl
    | with_reducible refine State.setSlave_frame.last (by decide) ?_
    | with_reducible refine State.keeps_foldl (fun _ _ => ?_) ?_
    | with_reducible refine State.keeps_ite ?_ ?_
    | split
    | with_reducible refine State.keeps_mk ?_

theorem State.mbxRead_frame {s : State} :
    s.keeps [.od, .time, .enc0, .enc1, .mem, .serial, .hk] (State.mbxRead s) := by
  unfold State.mbxRead; (try dsimp only)
  repeat' first
    | with_reducible exact State.keeps_refl
    | with_reducible refine State.setSlave_frame.last (by decide) ?_
    | with_reducible refine State.readValue_frame.last (by decide) ?_
    | with_reducible refine State.mbxEnd_frame.last (by decide) ?_
    | with_reducible refine State.keeps_foldl (fun _ _ => ?_) ?_
    | with_reducible refine State.keeps_ite ?_ ?_
    | split
    | with_reducible refine State.keeps_mk ?_

theorem State.upEnd_frame {s : State} {failed : Bool} {code : ℕ} :
    s.keeps [.serial] (State.upEnd s failed code) := by
  unfold State.upEnd; (try dsimp only)
  repeat' first
    | with_reducible exact State.keeps_refl
    | with_reducible refine State.setSlave_frame.last (by decide) ?_
    | with_reducible refine State.keeps_foldl (fun _ _ => ?_) ?_
    | with_reducible refine State.keeps_ite ?_ ?_
    | split
    | with_reducible refine State.keeps_mk ?_

theorem State.upOpen_frame {s : State} :
    s.keeps [.od, .serial, .pwr] (State.upOpen s) := by
  unfold State.upOpen; (try dsimp only)
  repeat' first
    | with_reducible exact State.keeps_refl
    | with_reducible refine State.demand_frame.last (by decide) ?_
    | with_reducible refine State.selectTaken_frame.last (by decide) ?_
    | with_reducible refine State.keeps_foldl (fun _ _ => ?_) ?_
    | with_reducible refine State.keeps_ite ?_ ?_
    | split
    | with_reducible refine State.keeps_mk ?_

theorem State.upClose_frame {s : State} :
    s.keeps [.od, .serial, .hk, .pwr] (State.upClose s) := by
  unfold State.upClose; (try dsimp only)
  repeat' first
    | with_reducible exact State.keeps_refl
    | with_reducible refine State.giveBus_frame.last (by decide) ?_
    | with_reducible refine State.flashRelax_frame.last (by decide) ?_
    | with_reducible refine State.keeps_foldl (fun _ _ => ?_) ?_
    | with_reducible refine State.keeps_ite ?_ ?_
    | split
    | with_reducible refine State.keeps_mk ?_

theorem State.upFails_frame {s : State} {n : ℕ} :
    s.keeps [.od, .nv, .serial, .hk, .pwr, .free] (State.upFails s n) := by
  unfold State.upFails; (try dsimp only)
  repeat' first
    | with_reducible exact State.keeps_refl
    | with_reducible refine State.upOpen_frame.last (by decide) ?_
    | with_reducible refine State.cutBytes_frame.last (by decide) ?_
    | with_reducible refine State.upClose_frame.last (by decide) ?_
    | with_reducible refine State.inc_keeps.last (by decide) ?_
    | with_reducible refine State.upEnd_frame.last (by decide) ?_
    | with_reducible refine State.keeps_foldl (fun _ _ => ?_) ?_
    | with_reducible refine State.keeps_ite ?_ ?_
    | split
    | with_reducible refine State.keeps_mk ?_

theorem State.upErased_frame {s : State} :
    s.keeps [.serial] (State.upErased s) := by
  unfold State.upErased; (try dsimp only)
  repeat' first
    | with_reducible exact State.keeps_refl
    | with_reducible refine State.setSlave_frame.last (by decide) ?_
    | with_reducible refine State.askBus_frame.last (by decide) ?_
    | with_reducible refine State.keeps_foldl (fun _ _ => ?_) ?_
    | with_reducible refine State.keeps_ite ?_ ?_
    | split
    | with_reducible refine State.keeps_mk ?_

theorem State.upProgram_frame {s : State} {ok : Bool} :
    s.keeps [.od, .nv, .serial, .hk, .pwr, .free] (State.upProgram s ok) := by
  unfold State.upProgram; (try dsimp only)
  repeat' first
    | with_reducible exact State.keeps_refl
    | with_reducible refine State.programFlash_frame.last (by decide) ?_
    | with_reducible refine State.upFails_frame.last (by decide) ?_
    | with_reducible refine State.upOpen_frame.last (by decide) ?_
    | with_reducible refine State.eraseSector_frame.last (by decide) ?_
    | with_reducible refine State.upClose_frame.last (by decide) ?_
    | with_reducible refine State.upErased_frame.last (by decide) ?_
    | with_reducible refine State.askBus_frame.last (by decide) ?_
    | with_reducible refine State.upEnd_frame.last (by decide) ?_
    | with_reducible refine State.keeps_foldl (fun _ _ => ?_) ?_
    | with_reducible refine State.keeps_ite ?_ ?_
    | split
    | with_reducible refine State.keeps_mk ?_

theorem State.upFinish_frame {s : State} {ok : Bool} :
    s.keeps [.od, .nv, .serial, .free] (State.upFinish s ok) := by
  unfold State.upFinish; (try dsimp only)
  repeat' first
    | with_reducible exact State.keeps_refl
    | with_reducible refine State.setKeep_keeps.last (by decide) ?_
    | with_reducible refine State.pageIs_frame.last (by decide) ?_
    | with_reducible refine State.nvFailed_keeps.last (by decide) ?_
    | with_reducible refine State.upEnd_frame.last (by decide) ?_
    | with_reducible refine State.keeps_foldl (fun _ _ => ?_) ?_
    | with_reducible refine State.keeps_ite ?_ ?_
    | split
    | with_reducible refine State.keeps_mk ?_

theorem State.takeBus_frame {s : State} :
    s.keeps [.serial] (State.takeBus s) := by
  unfold State.takeBus; (try dsimp only)
  repeat' first
    | with_reducible exact State.keeps_refl
    | with_reducible refine State.keeps_foldl (fun _ _ => ?_) ?_
    | with_reducible refine State.keeps_ite ?_ ?_
    | split
    | with_reducible refine State.keeps_mk ?_

theorem State.dqsSweep_frame {s : State} {k : Sys2Proof.Pos} {taps : List ℕ} {half : List ℕ} :
    s.keeps [.od, .nv, .free] (State.dqsSweep s k taps half) := by
  unfold State.dqsSweep; (try dsimp only)
  repeat' first
    | with_reducible exact State.keeps_refl
    | with_reducible refine State.logEvt_keeps.last (by decide) ?_
    | with_reducible refine State.setO_keeps.last (by decide) ?_
    | with_reducible refine State.keeps_foldl (fun _ _ => ?_) ?_
    | with_reducible refine State.keeps_ite ?_ ?_
    | split
    | with_reducible refine State.keeps_mk ?_

theorem State.failNoted_frame {s : State} {key : ℕ} {code : ℕ} :
    s.keeps [.od, .nv, .free] (State.failNoted s key code) := by
  unfold State.failNoted; (try dsimp only)
  repeat' first
    | with_reducible exact State.keeps_refl
    | with_reducible refine State.nvFailed_keeps.last (by decide) ?_
    | with_reducible refine State.logEvt_keeps.last (by decide) ?_
    | with_reducible refine State.keeps_foldl (fun _ _ => ?_) ?_
    | with_reducible refine State.keeps_ite ?_ ?_
    | split
    | with_reducible refine State.keeps_mk ?_

theorem State.writeRefused_frame {s : State} {k : ℕ} {v : ℕ} {code : ℕ} :
    s.keeps [.od, .nv, .gen, .free] (State.writeRefused s k v code) := by
  unfold State.writeRefused; (try dsimp only)
  repeat' first
    | with_reducible exact State.keeps_refl
    | with_reducible refine State.commitRefused_frame.last (by decide) ?_
    | with_reducible refine State.failNoted_frame.last (by decide) ?_
    | with_reducible refine State.keeps_foldl (fun _ _ => ?_) ?_
    | with_reducible refine State.keeps_ite ?_ ?_
    | split
    | with_reducible refine State.keeps_mk ?_

theorem State.chRead_frame {s : State} {c : ℕ} {r : ℕ} :
    s.keeps [.host, .dma] ((State.chRead s c r).1) := by
  unfold State.chRead; (try dsimp only)
  repeat' first
    | with_reducible exact State.keeps_refl
    | with_reducible refine State.setCh_frame.last (by decide) ?_
    | with_reducible refine State.keeps_foldl (fun _ _ => ?_) ?_
    | with_reducible refine State.keeps_ite ?_ ?_
    | split
    | with_reducible refine State.keeps_mk ?_

theorem State.bar4Word_frame {s : State} {a : ℕ} :
    s.keeps [.host, .dma] ((State.bar4Word s a).1) := by
  unfold State.bar4Word; (try dsimp only)
  repeat' first
    | with_reducible exact State.keeps_refl
    | with_reducible refine State.chRead_frame.last (by decide) ?_
    | with_reducible refine State.keeps_foldl (fun _ _ => ?_) ?_
    | with_reducible refine State.keeps_ite ?_ ?_
    | split
    | with_reducible refine State.keeps_mk ?_

theorem State.chCtrl_frame {s : State} {c : ℕ} {v : ℕ} :
    s.keeps [.emitted, .od, .host, .dma] (State.chCtrl s c v) := by
  unfold State.chCtrl; (try dsimp only)
  repeat' first
    | with_reducible exact State.keeps_refl
    | with_reducible refine State.requestOf_frame.last (by decide) ?_
    | with_reducible refine State.chStop_frame.last (by decide) ?_
    | with_reducible refine State.chRun_frame.last (by decide) ?_
    | with_reducible refine State.keeps_foldl (fun _ _ => ?_) ?_
    | with_reducible refine State.keeps_ite ?_ ?_
    | split
    | with_reducible refine State.keeps_mk ?_

theorem State.chTail_frame {s : State} {c : ℕ} {v : ℕ} :
    s.keeps [.dma] (State.chTail s c v) := by
  unfold State.chTail; (try dsimp only)
  repeat' first
    | with_reducible exact State.keeps_refl
    | with_reducible refine State.setCh_frame.last (by decide) ?_
    | with_reducible refine State.keeps_foldl (fun _ _ => ?_) ?_
    | with_reducible refine State.keeps_ite ?_ ?_
    | split
    | with_reducible refine State.keeps_mk ?_

theorem State.tableWrite_frame {s : State} {a : ℕ} {v : ℕ} :
    s.keeps [.emitted, .host] (State.tableWrite s a v) := by
  unfold State.tableWrite; (try dsimp only)
  repeat' first
    | with_reducible exact State.keeps_refl
    | with_reducible refine State.sendPending_frame.last (by decide) ?_
    | with_reducible refine State.keeps_foldl (fun _ _ => ?_) ?_
    | with_reducible refine State.keeps_ite ?_ ?_
    | split
    | with_reducible refine State.keeps_mk ?_

theorem State.bar4Write_frame {a : ℕ} {v : ℕ} {s : State} :
    s.keeps [.emitted, .od, .host, .dma] (State.bar4Write a v s) := by
  unfold State.bar4Write; (try dsimp only)
  repeat' first
    | with_reducible exact State.keeps_refl
    | with_reducible refine State.chCtrl_frame.last (by decide) ?_
    | with_reducible refine State.chTail_frame.last (by decide) ?_
    | with_reducible refine State.tableWrite_frame.last (by decide) ?_
    | with_reducible refine State.inc_keeps.last (by decide) ?_
    | with_reducible refine State.keeps_foldl (fun _ _ => ?_) ?_
    | with_reducible refine State.keeps_ite ?_ ?_
    | split
    | with_reducible refine State.keeps_mk ?_

theorem State.setAsm_frame {s : State} {g : ℕ} {a : Option (List Sys2Proof.Byte)} :
    s.keeps [.link] (State.setAsm s g a) := by
  unfold State.setAsm; (try dsimp only)
  repeat' first
    | with_reducible exact State.keeps_refl
    | with_reducible refine State.keeps_foldl (fun _ _ => ?_) ?_
    | with_reducible refine State.keeps_ite ?_ ?_
    | split
    | with_reducible refine State.keeps_mk ?_

theorem State.takeBlock_frame {s : State} {g : ℕ} {b : Sys2Proof.Machine.Block} :
    s.keeps [.link] ((State.takeBlock s g b).1) := by
  unfold State.takeBlock; (try dsimp only)
  repeat' first
    | with_reducible exact State.keeps_refl
    | with_reducible refine State.setAsm_frame.last (by decide) ?_
    | with_reducible refine State.keeps_foldl (fun _ _ => ?_) ?_
    | with_reducible refine State.keeps_ite ?_ ?_
    | split
    | with_reducible refine State.keeps_mk ?_

theorem State.blockIn_frame {s : State} {g : ℕ} {lane : ℕ} {place : ℕ} {raw : ℕ} :
    s.keeps [.od, .lanes, .aligned, .link] ((State.blockIn s g lane place raw).1) := by
  unfold State.blockIn; (try dsimp only)
  repeat' first
    | with_reducible exact State.keeps_refl
    | with_reducible refine State.inc_keeps.last (by decide) ?_
    | with_reducible refine State.takeBlock_frame.last (by decide) ?_
    | with_reducible refine State.takeMarker_frame.last (by decide) ?_
    | with_reducible refine State.setLane_frame.last (by decide) ?_
    | with_reducible refine State.keeps_foldl (fun _ _ => ?_) ?_
    | with_reducible refine State.keeps_ite ?_ ?_
    | split
    | with_reducible refine State.keeps_mk ?_

theorem State.expandRanges_frame {s : State} {p : Sys2Proof.Pos} :
    s.keeps [.od, .doms, .coef] (State.expandRanges s p) := by
  unfold State.expandRanges; (try dsimp only)
  repeat' first
    | with_reducible exact State.keeps_refl
    | with_reducible refine State.setCoef_frame.last (by decide) ?_
    | with_reducible refine State.setDom_keeps.last (by decide) ?_
    | with_reducible refine State.setO_keeps.last (by decide) ?_
    | with_reducible refine State.keeps_foldl (fun _ _ => ?_) ?_
    | with_reducible refine State.keeps_ite ?_ ?_
    | split
    | with_reducible refine State.keeps_mk ?_

theorem State.closeCheck_frame {s : State} {p : Sys2Proof.Pos} {source : ℕ} :
    s.keeps [.od, .doms, .coef, .mem] (State.closeCheck s p source) := by
  unfold State.closeCheck; (try dsimp only)
  repeat' first
    | with_reducible exact State.keeps_refl
    | with_reducible refine State.setO_keeps.last (by decide) ?_
    | with_reducible refine State.setCoef_frame.last (by decide) ?_
    | with_reducible refine State.setOs_keeps.last (by decide) ?_
    | with_reducible refine State.relabel_frame.last (by decide) ?_
    | with_reducible refine State.expandRanges_frame.last (by decide) ?_
    | with_reducible refine State.incBy_keeps.last (by decide) ?_
    | with_reducible refine State.keeps_foldl (fun _ _ => ?_) ?_
    | with_reducible refine State.keeps_ite ?_ ?_
    | split
    | with_reducible refine State.keeps_mk ?_

theorem State.msixCtl_frame {s : State} {v : ℕ} :
    s.keeps [.emitted, .host] (State.msixCtl s v) := by
  unfold State.msixCtl; (try dsimp only)
  repeat' first
    | with_reducible exact State.keeps_refl
    | with_reducible refine State.sendPending_frame.last (by decide) ?_
    | with_reducible refine State.keeps_foldl (fun _ _ => ?_) ?_
    | with_reducible refine State.keeps_ite ?_ ?_
    | split
    | with_reducible refine State.keeps_mk ?_

theorem State.leaveD3hot_frame {s : State} :
    s.keeps [.emitted, .host] (State.leaveD3hot s) := by
  unfold State.leaveD3hot; (try dsimp only)
  repeat' first
    | with_reducible exact State.keeps_refl
    | with_reducible refine State.sendPending_frame.last (by decide) ?_
    | with_reducible refine State.keeps_foldl (fun _ _ => ?_) ?_
    | with_reducible refine State.keeps_ite ?_ ?_
    | split
    | with_reducible refine State.keeps_mk ?_

theorem State.enterD3hot_frame {s : State} :
    s.keeps [.od, .mem, .host, .dma, .rings] (State.enterD3hot s) := by
  unfold State.enterD3hot; (try dsimp only)
  repeat' first
    | with_reducible exact State.keeps_refl
    | with_reducible refine State.dmaDrop_frame.last (by decide) ?_
    | with_reducible refine State.keeps_foldl (fun _ _ => ?_) ?_
    | with_reducible refine State.keeps_ite ?_ ?_
    | split
    | with_reducible refine State.keeps_mk ?_

theorem State.powerCtl_frame {s : State} {v : ℕ} :
    s.keeps [.emitted, .od, .mem, .host, .dma, .rings] (State.powerCtl s v) := by
  unfold State.powerCtl; (try dsimp only)
  repeat' first
    | with_reducible exact State.keeps_refl
    | with_reducible refine State.leaveD3hot_frame.last (by decide) ?_
    | with_reducible refine State.enterD3hot_frame.last (by decide) ?_
    | with_reducible refine State.keeps_foldl (fun _ _ => ?_) ?_
    | with_reducible refine State.keeps_ite ?_ ?_
    | split
    | with_reducible refine State.keeps_mk ?_

theorem State.configWrite_frame {a : ℕ} {v : ℕ} {s : State} :
    s.keeps [.emitted, .od, .bar0, .mem, .host, .dma, .rings] (State.configWrite a v s) := by
  unfold State.configWrite; (try dsimp only)
  repeat' first
    | with_reducible exact State.keeps_refl
    | with_reducible refine State.dmaDrop_frame.last (by decide) ?_
    | with_reducible refine State.functionReset_frame.last (by decide) ?_
    | with_reducible refine State.msixCtl_frame.last (by decide) ?_
    | with_reducible refine State.powerCtl_frame.last (by decide) ?_
    | with_reducible refine State.keeps_foldl (fun _ _ => ?_) ?_
    | with_reducible refine State.keeps_ite ?_ ?_
    | split
    | with_reducible refine State.keeps_mk ?_

theorem State.countReached_frame {s : State} {e : ℕ} {up : Bool} {t : ℕ} :
    s.keeps [.emitted, .od, .tg, .trig, .trigOut] (State.countReached s e up t) := by
  unfold State.countReached; (try dsimp only)
  repeat' first
    | with_reducible exact State.keeps_refl
    | with_reducible refine State.setTg_frame.last (by decide) ?_
    | with_reducible refine State.genEvent_frame.last (by decide) ?_
    | with_reducible refine State.keeps_foldl (fun _ _ => ?_) ?_
    | with_reducible refine State.keeps_ite ?_ ?_
    | split
    | with_reducible refine State.keeps_mk ?_

theorem State.echo_frame {s : State} {b : Bool} {ip : ℕ} {mac : ℕ} {body : List Sys2Proof.Byte} :
    s.keeps [.emitted, .od, .out0, .out1] (State.echo s b ip mac body) := by
  unfold State.echo; (try dsimp only)
  repeat' first
    | with_reducible exact State.keeps_refl
    | with_reducible refine State.sendFrame_frame.last (by decide) ?_
    | with_reducible refine State.setOutPort_frame.last (by decide) ?_
    | with_reducible refine State.inc_keeps.last (by decide) ?_
    | with_reducible refine State.keeps_foldl (fun _ _ => ?_) ?_
    | with_reducible refine State.keeps_ite ?_ ?_
    | split
    | with_reducible refine State.keeps_mk ?_

theorem State.encStep_frame {s : State} {e : Bool} {up : Bool} {t : ℕ} :
    s.keeps [.emitted, .od, .enc0, .enc1, .tg, .trig, .trigOut] (State.encStep s e up t) := by
  unfold State.encStep; (try dsimp only)
  repeat' first
    | with_reducible exact State.keeps_refl
    | with_reducible refine State.countReached_frame.last (by decide) ?_
    | with_reducible refine State.setEnc_frame.last (by decide) ?_
    | with_reducible refine State.setO_keeps.last (by decide) ?_
    | with_reducible refine State.keeps_foldl (fun _ _ => ?_) ?_
    | with_reducible refine State.keeps_ite ?_ ?_
    | split
    | with_reducible refine State.keeps_mk ?_

theorem State.encLevels_frame {s : State} {e : Bool} {a : Bool} {b : Bool} {t : ℕ} :
    s.keeps [.emitted, .od, .chain, .nv, .enc0, .enc1, .tg, .trig, .trigOut, .host, .free] (State.encLevels s e a b t) :=
      by
  unfold State.encLevels; (try dsimp only)
  repeat' first
    | with_reducible exact State.keeps_refl
    | with_reducible refine State.encStep_frame.last (by decide) ?_
    | with_reducible refine State.encIllegal_frame.last (by decide) ?_
    | with_reducible refine State.setEnc_frame.last (by decide) ?_
    | with_reducible refine State.keeps_foldl (fun _ _ => ?_) ?_
    | with_reducible refine State.keeps_ite ?_ ?_
    | split
    | with_reducible refine State.keeps_mk ?_

theorem State.loadCloses_frame {s : State} {p : Sys2Proof.Pos} {her : Bool} :
    s.keeps [.emitted, .od, .doms, .modes, .ops, .chain, .nv, .lanes, .aligned, .intake, .link, .pipe, .coef, .vdet, .ecl,
      .shut, .windows, .trig, .trigOut, .out0, .out1, .taps, .mem, .host, .dma, .rings, .serial, .hk, .pwr, .dbg,
      .free] (State.loadCloses s p her) := by
  unfold State.loadCloses; (try dsimp only)
  repeat' first
    | with_reducible exact State.keeps_refl
    | with_reducible refine State.loadEndsBadly_frame.last (by decide) ?_
    | with_reducible refine State.opEnd_frame.last (by decide) ?_
    | with_reducible refine State.loadNext_frame.last (by decide) ?_
    | with_reducible refine State.prepAll_frame.last (by decide) ?_
    | with_reducible refine State.closeCheck_frame.last (by decide) ?_
    | with_reducible refine State.prepUpdate_frame.last (by decide) ?_
    | with_reducible refine State.keeps_foldl (fun _ _ => ?_) ?_
    | with_reducible refine State.keeps_ite ?_ ?_
    | split
    | with_reducible refine State.keeps_mk ?_

theorem State.foreignSegment_frame {s : State} {r : Sys2Proof.Req} {o : Sys2Proof.ObjRow} {k : ℕ} :
    s.keeps [.chain] (State.foreignSegment s r o k) := by
  unfold State.foreignSegment; (try dsimp only)
  repeat' first
    | with_reducible exact State.keeps_refl
    | with_reducible refine State.dropStaging_frame.last (by decide) ?_
    | with_reducible refine State.keeps_foldl (fun _ _ => ?_) ?_
    | with_reducible refine State.keeps_ite ?_ ?_
    | split
    | with_reducible refine State.keeps_mk ?_

theorem State.frameEndPkt_frame {s : State} {p : Sys2Proof.Pos} {pkt : List Sys2Proof.Byte} :
    s.keeps [.emitted, .od, .intake, .fpa, .sp0, .vdet, .ecl, .shut, .trig, .trigOut] (State.frameEndPkt s p pkt) := by
  unfold State.frameEndPkt; (try dsimp only)
  repeat' first
    | with_reducible exact State.keeps_refl
    | with_reducible refine State.stray_frame.last (by decide) ?_
    | with_reducible refine State.frameClosed_frame.last (by decide) ?_
    | with_reducible refine State.keeps_foldl (fun _ _ => ?_) ?_
    | with_reducible refine State.keeps_ite ?_ ?_
    | split
    | with_reducible refine State.keeps_mk ?_

theorem State.frameStartPkt_frame {s : State} {p : Sys2Proof.Pos} {pkt : List Sys2Proof.Byte} :
    s.keeps [.emitted, .od, .intake, .fpa, .sp0, .vdet, .ecl, .shut, .trig, .trigOut] (State.frameStartPkt s p pkt) := by
  unfold State.frameStartPkt; (try dsimp only)
  repeat' first
    | with_reducible exact State.keeps_refl
    | with_reducible refine State.unsolicitedStart_frame.last (by decide) ?_
    | with_reducible refine State.stray_frame.last (by decide) ?_
    | with_reducible refine State.checkStart_frame.last (by decide) ?_
    | with_reducible refine State.keeps_foldl (fun _ _ => ?_) ?_
    | with_reducible refine State.keeps_ite ?_ ?_
    | split
    | with_reducible refine State.keeps_mk ?_

theorem State.setHp_frame {s : State} {h : Sys2Proof.Machine.HpSampler} :
    s.keeps [.link] (State.setHp s h) := by
  unfold State.setHp; (try dsimp only)
  repeat' first
    | with_reducible exact State.keeps_refl
    | with_reducible refine State.keeps_foldl (fun _ _ => ?_) ?_
    | with_reducible refine State.keeps_ite ?_ ?_
    | split
    | with_reducible refine State.keeps_mk ?_

theorem State.hpPeriodBegins_frame {s : State} :
    s.keeps [.od, .link] (State.hpPeriodBegins s) := by
  unfold State.hpPeriodBegins; (try dsimp only)
  repeat' first
    | with_reducible exact State.keeps_refl
    | with_reducible refine State.inc_keeps.last (by decide) ?_
    | with_reducible refine State.setHp_frame.last (by decide) ?_
    | with_reducible refine State.keeps_foldl (fun _ _ => ?_) ?_
    | with_reducible refine State.keeps_ite ?_ ?_
    | split
    | with_reducible refine State.keeps_mk ?_

theorem State.hpPeriodEnds_frame {s : State} :
    s.keeps [.emitted, .od, .intake, .link, .fpa, .sp0, .vdet, .ecl, .shut, .trig, .trigOut] (State.hpPeriodEnds s) := by
  unfold State.hpPeriodEnds; (try dsimp only)
  repeat' first
    | with_reducible exact State.keeps_refl
    | with_reducible refine State.frameClosed_frame.last (by decide) ?_
    | with_reducible refine State.askTemp_frame.last (by decide) ?_
    | with_reducible refine State.setHp_frame.last (by decide) ?_
    | with_reducible refine State.keeps_foldl (fun _ _ => ?_) ?_
    | with_reducible refine State.keeps_ite ?_ ?_
    | split
    | with_reducible refine State.keeps_mk ?_

theorem State.hpRowEnds_frame {s : State} :
    s.keeps [.emitted, .od, .chain, .nv, .intake, .link, .vdet, .ecl, .host, .free] (State.hpRowEnds s) := by
  unfold State.hpRowEnds; (try dsimp only)
  repeat' first
    | with_reducible exact State.keeps_refl
    | with_reducible refine State.setOpen_frame.last (by decide) ?_
    | with_reducible refine State.takeRow_frame.last (by decide) ?_
    | with_reducible refine State.setHp_frame.last (by decide) ?_
    | with_reducible refine State.keeps_foldl (fun _ _ => ?_) ?_
    | with_reducible refine State.keeps_ite ?_ ?_
    | split
    | with_reducible refine State.keeps_mk ?_

theorem State.hpSample_frame {s : State} {e : Sys2Proof.HpEdge} :
    s.keeps [.emitted, .od, .chain, .nv, .intake, .link, .fpa, .sp0, .vdet, .ecl, .shut, .trig, .trigOut, .host, .free]
      (State.hpSample s e) := by
  unfold State.hpSample; (try dsimp only)
  repeat' first
    | with_reducible exact State.keeps_refl
    | with_reducible refine State.hpPeriodEnds_frame.last (by decide) ?_
    | with_reducible refine State.hpPeriodBegins_frame.last (by decide) ?_
    | with_reducible refine State.hpRowEnds_frame.last (by decide) ?_
    | with_reducible refine State.setHp_frame.last (by decide) ?_
    | with_reducible refine State.keeps_foldl (fun _ _ => ?_) ?_
    | with_reducible refine State.keeps_ite ?_ ?_
    | split
    | with_reducible refine State.keeps_mk ?_

theorem State.hpSamples_frame {s : State} {edges : List Sys2Proof.HpEdge} :
    s.keeps [.emitted, .od, .chain, .nv, .intake, .link, .fpa, .sp0, .vdet, .ecl, .shut, .trig, .trigOut, .host, .free]
      (State.hpSamples s edges) := by
  unfold State.hpSamples; (try dsimp only)
  repeat' first
    | with_reducible exact State.keeps_refl
    | with_reducible refine State.hpSample_frame.last (by decide) ?_
    | with_reducible refine State.keeps_foldl (fun _ _ => ?_) ?_
    | with_reducible refine State.keeps_ite ?_ ?_
    | split
    | with_reducible refine State.keeps_mk ?_

theorem State.keepDrop_frame {s : State} {l : List (ℕ × Sys2Proof.Byte)} :
    s.keeps [.od, .nv, .free] (State.keepDrop s l) := by
  unfold State.keepDrop; (try dsimp only)
  repeat' first
    | with_reducible exact State.keeps_refl
    | with_reducible refine State.inc_keeps.last (by decide) ?_
    | with_reducible refine State.log_keeps.last (by decide) ?_
    | with_reducible refine State.keeps_foldl (fun _ _ => ?_) ?_
    | with_reducible refine State.keeps_ite ?_ ?_
    | split
    | with_reducible refine State.keeps_mk ?_

theorem State.loadKept_frame {s : State} :
    s.keeps [.od] (State.loadKept s) := by
  unfold State.loadKept; (try dsimp only)
  repeat' first
    | with_reducible exact State.keeps_refl
    | with_reducible refine State.setOs_keeps.last (by decide) ?_
    | with_reducible refine State.setO_keeps.last (by decide) ?_
    | with_reducible refine State.keeps_foldl (fun _ _ => ?_) ?_
    | with_reducible refine State.keeps_ite ?_ ?_
    | split
    | with_reducible refine State.keeps_mk ?_

theorem State.rowPkt_frame {s : State} {p : Sys2Proof.Pos} {pkt : List Sys2Proof.Byte} :
    s.keeps [.emitted, .od, .chain, .nv, .intake, .vdet, .ecl, .host, .free] (State.rowPkt s p pkt) := by
  unfold State.rowPkt; (try dsimp only)
  repeat' first
    | with_reducible exact State.keeps_refl
    | with_reducible refine State.stray_frame.last (by decide) ?_
    | with_reducible refine State.takeRow_frame.last (by decide) ?_
    | with_reducible refine State.keeps_foldl (fun _ _ => ?_) ?_
    | with_reducible refine State.keeps_ite ?_ ?_
    | split
    | with_reducible refine State.keeps_mk ?_

theorem State.onPacket_frame {s : State} {grp : ℕ} {pkt : Sys2Proof.Machine.Packet} :
    s.keeps [.emitted, .od, .chain, .nv, .intake, .fpa, .sp0, .vdet, .ecl, .shut, .trig, .trigOut, .host, .free]
      (State.onPacket s grp pkt) := by
  unfold State.onPacket; (try dsimp only)
  repeat' first
    | with_reducible exact State.keeps_refl
    | with_reducible refine State.frameEndPkt_frame.last (by decide) ?_
    | with_reducible refine State.rowPkt_frame.last (by decide) ?_
    | with_reducible refine State.frameStartPkt_frame.last (by decide) ?_
    | with_reducible refine State.takePacket_frame.last (by decide) ?_
    | with_reducible refine State.keeps_foldl (fun _ _ => ?_) ?_
    | with_reducible refine State.keeps_ite ?_ ?_
    | split
    | with_reducible refine State.keeps_mk ?_

theorem State.passTrims_frame {s : State} {ns : List ℤ} :
    s.keeps [.therm] (State.passTrims s ns) := by
  unfold State.passTrims; (try dsimp only)
  repeat' first
    | with_reducible exact State.keeps_refl
    | with_reducible refine State.keeps_foldl (fun _ _ => ?_) ?_
    | with_reducible refine State.keeps_ite ?_ ?_
    | split
    | with_reducible refine State.keeps_mk ?_

theorem State.portAt_frame {s : State} {b : Bool} {t : ℕ} :
    s.keeps [.emitted, .od, .time, .out0, .out1] (State.portAt s b t) := by
  unfold State.portAt; (try dsimp only)
  repeat' first
    | with_reducible exact State.keeps_refl
    | with_reducible refine State.advance_keeps.last (by decide) ?_
    | with_reducible refine State.pauseExpired_frame.last (by decide) ?_
    | with_reducible refine State.keeps_foldl (fun _ _ => ?_) ?_
    | with_reducible refine State.keeps_ite ?_ ?_
    | split
    | with_reducible refine State.keeps_mk ?_

theorem State.rawAsk_frame {b : List Sys2Proof.Byte} {s : State} :
    s.keeps [.emitted, .od, .doms, .serial, .pwr, .free] (State.rawAsk b s) := by
  unfold State.rawAsk; (try dsimp only)
  repeat' first
    | with_reducible exact State.keeps_refl
    | with_reducible refine State.rawNext_frame.last (by decide) ?_
    | with_reducible refine State.keeps_foldl (fun _ _ => ?_) ?_
    | with_reducible refine State.keeps_ite ?_ ?_
    | split
    | with_reducible refine State.keeps_mk ?_

theorem State.xipLog_frame {s : State} {j : Sys2Proof.Machine.Journal} {a : ℕ} {o : ℕ} {n : ℕ} :
    s.keeps [.serial] (State.xipLog s j a o n) := by
  unfold State.xipLog; (try dsimp only)
  repeat' first
    | with_reducible exact State.keeps_refl
    | with_reducible refine State.xipBlock_frame.last (by decide) ?_
    | with_reducible refine State.keeps_foldl (fun _ _ => ?_) ?_
    | with_reducible refine State.keeps_ite ?_ ?_
    | split
    | with_reducible refine State.keeps_mk ?_

theorem State.xipRecord_frame {s : State} {key : ℕ} :
    s.keeps [.serial] (State.xipRecord s key) := by
  unfold State.xipRecord; (try dsimp only)
  repeat' first
    | with_reducible exact State.keeps_refl
    | with_reducible refine State.xipLog_frame.last (by decide) ?_
    | with_reducible refine State.keeps_foldl (fun _ _ => ?_) ?_
    | with_reducible refine State.keeps_ite ?_ ?_
    | split
    | with_reducible refine State.keeps_mk ?_

theorem State.sp1Next_frame {s : State} :
    s.keeps [.emitted, .od, .doms, .ops, .nv, .host, .serial, .hk, .pwr, .sec, .free] (State.sp1Next s) := by
  unfold State.sp1Next; (try dsimp only)
  repeat' first
    | with_reducible exact State.keeps_refl
    | with_reducible refine State.serveFetches_frame.last (by decide) ?_
    | with_reducible refine State.resumeBus_frame.last (by decide) ?_
    | with_reducible refine State.rawNext_frame.last (by decide) ?_
    | with_reducible refine State.keeps_foldl (fun _ _ => ?_) ?_
    | with_reducible refine State.keeps_ite ?_ ?_
    | split
    | with_reducible refine State.keeps_mk ?_

theorem State.busTurn_frame {s : State} :
    s.keeps [.emitted, .od, .doms, .ops, .nv, .host, .serial, .hk, .pwr, .sec, .free] (State.busTurn s) := by
  unfold State.busTurn; (try dsimp only)
  repeat' first
    | with_reducible exact State.keeps_refl
    | with_reducible refine State.takeBus_frame.last (by decide) ?_
    | with_reducible refine State.sp1Next_frame.last (by decide) ?_
    | with_reducible refine State.keeps_foldl (fun _ _ => ?_) ?_
    | with_reducible refine State.keeps_ite ?_ ?_
    | split
    | with_reducible refine State.keeps_mk ?_

theorem State.compactStuck_frame {s : State} :
    s.keeps [.emitted, .od, .ops, .host] (State.compactStuck s) := by
  unfold State.compactStuck; (try dsimp only)
  repeat' first
    | with_reducible exact State.keeps_refl
    | with_reducible refine State.opEnd_frame.last (by decide) ?_
    | with_reducible refine State.keeps_foldl (fun _ _ => ?_) ?_
    | with_reducible refine State.keeps_ite ?_ ?_
    | split
    | with_reducible refine State.keeps_mk ?_

theorem State.decayed_frame {s : State} {j : Sys2Proof.Machine.Journal} {a : ℕ} {i : ℕ} {flips : List (ℕ ×
    Sys2Proof.Byte)} :
    s.keeps [.nv] (State.decayed s j a i flips) := by
  unfold State.decayed; (try dsimp only)
  repeat' first
    | with_reducible exact State.keeps_refl
    | with_reducible refine State.setFlash_frame.last (by decide) ?_
    | with_reducible refine State.keeps_foldl (fun _ _ => ?_) ?_
    | with_reducible refine State.keeps_ite ?_ ?_
    | split
    | with_reducible refine State.keeps_mk ?_

theorem State.fwUpdateEnd_frame {s : State} :
    s.keeps [.emitted, .od, .nv, .host, .serial, .free] (State.fwUpdateEnd s) := by
  unfold State.fwUpdateEnd; (try dsimp only)
  repeat' first
    | with_reducible exact State.keeps_refl
    | with_reducible refine State.setKeep_keeps.last (by decide) ?_
    | with_reducible refine State.nvFailed_keeps.last (by decide) ?_
    | with_reducible refine State.slotInvalid_frame.last (by decide) ?_
    | with_reducible refine State.opEnd_frame.last (by decide) ?_
    | with_reducible refine State.keeps_foldl (fun _ _ => ?_) ?_
    | with_reducible refine State.keeps_ite ?_ ?_
    | split
    | with_reducible refine State.keeps_mk ?_

theorem State.healthIs_frame {s : State} {healthy : Bool} :
    s.keeps [.sec] (State.healthIs s healthy) := by
  unfold State.healthIs; (try dsimp only)
  repeat' first
    | with_reducible exact State.keeps_refl
    | with_reducible refine State.keeps_foldl (fun _ _ => ?_) ?_
    | with_reducible refine State.keeps_ite ?_ ?_
    | split
    | with_reducible refine State.keeps_mk ?_

theorem State.hostFailed_frame {s : State} {c : ℕ} {x : Sys2Proof.Machine.DescRun} :
    s.keeps [.dma] (State.hostFailed s c x) := by
  unfold State.hostFailed; (try dsimp only)
  repeat' first
    | with_reducible exact State.keeps_refl
    | with_reducible refine State.setCh_frame.last (by decide) ?_
    | with_reducible refine State.keeps_foldl (fun _ _ => ?_) ?_
    | with_reducible refine State.keeps_ite ?_ ?_
    | split
    | with_reducible refine State.keeps_mk ?_

theorem State.keptIs_frame {s : State} {key : ℕ} {good : Bool} :
    s.keeps [.nv] (State.keptIs s key good) := by
  unfold State.keptIs; (try dsimp only)
  repeat' first
    | with_reducible exact State.keeps_refl
    | with_reducible refine State.pageIs_frame.last (by decide) ?_
    | with_reducible refine State.keeps_foldl (fun _ _ => ?_) ?_
    | with_reducible refine State.keeps_ite ?_ ?_
    | split
    | with_reducible refine State.keeps_mk ?_

theorem State.slotsFailed_frame {s : State} :
    s.keeps [.od, .hk, .pwr] (State.slotsFailed s) := by
  unfold State.slotsFailed; (try dsimp only)
  repeat' first
    | with_reducible exact State.keeps_refl
    | with_reducible refine State.flashRelax_frame.last (by decide) ?_
    | with_reducible refine State.debugDomain_frame.last (by decide) ?_
    | with_reducible refine State.keeps_foldl (fun _ _ => ?_) ?_
    | with_reducible refine State.keeps_ite ?_ ?_
    | split
    | with_reducible refine State.keeps_mk ?_

theorem State.xipScan_frame {s : State} {a : ℕ} :
    s.keeps [.serial] (State.xipScan s a) := by
  unfold State.xipScan; (try dsimp only)
  repeat' first
    | with_reducible exact State.keeps_refl
    | with_reducible refine State.xipLog_frame.last (by decide) ?_
    | with_reducible refine State.keeps_foldl (fun _ _ => ?_) ?_
    | with_reducible refine State.keeps_ite ?_ ?_
    | split
    | with_reducible refine State.keeps_mk ?_

theorem State.tick_frame {s : State} :
    s.keeps [.emitted, .od, .doms, .time, .ops, .chain, .nv, .host, .serial, .hk, .pwr, .sec, .free] (State.tick s) := by
  unfold State.tick; (try dsimp only)
  repeat' first
    | with_reducible exact State.keeps_refl
    | with_reducible refine State.advance_keeps.last (by decide) ?_
    | with_reducible refine State.sendQueued_keeps.last (by decide) ?_
    | with_reducible refine State.busTurn_frame.last (by decide) ?_
    | with_reducible refine State.fwUpdateEnd_frame.last (by decide) ?_
    | with_reducible refine State.keeps_foldl (fun _ _ => ?_) ?_
    | with_reducible refine State.keeps_ite ?_ ?_
    | split
    | with_reducible refine State.keeps_mk ?_

theorem State.writeOf_frame {s : State} {x2 : Sys2Proof.Via} :
    s.keeps [.od, .bar0] (State.writeOf s x2) := by
  unfold State.writeOf; (try dsimp only)
  repeat' first
    | with_reducible exact State.keeps_refl
    | with_reducible refine State.dropHeld_frame.last (by decide) ?_
    | with_reducible refine State.keeps_foldl (fun _ _ => ?_) ?_
    | with_reducible refine State.keeps_ite ?_ ?_
    | split
    | with_reducible refine State.keeps_mk ?_

@[simp] theorem State.withFetchWord_frame (s : State) (nbits : ℕ) (w : ℕ) :
    (State.withFetchWord s nbits w).out = s.out ∧ (State.withFetchWord s nbits w).od = s.od ∧ (State.withFetchWord s
    nbits w).doms = s.doms ∧ (State.withFetchWord s nbits w).time = s.time ∧ (State.withFetchWord s nbits w).boot =
    s.boot ∧ (State.withFetchWord s nbits w).modes = s.modes ∧ (State.withFetchWord s nbits w).ops = s.ops ∧
    (State.withFetchWord s nbits w).chain = s.chain ∧ (State.withFetchWord s nbits w).bar0 = s.bar0 ∧
    (State.withFetchWord s nbits w).nv = s.nv ∧ (State.withFetchWord s nbits w).lanes = s.lanes ∧
    (State.withFetchWord s nbits w).aligned = s.aligned ∧ (State.withFetchWord s nbits w).intake = s.intake ∧ (State.withFetchWord s nbits w).link = s.link ∧
    (State.withFetchWord s nbits w).fpa = s.fpa ∧ (State.withFetchWord s nbits w).sp0 = s.sp0 ∧ (State.withFetchWord
    s nbits w).pipe = s.pipe ∧ (State.withFetchWord s nbits w).coef = s.coef ∧ (State.withFetchWord s nbits w).gen =
    s.gen ∧ (State.withFetchWord s nbits w).vdet = s.vdet ∧ (State.withFetchWord s nbits w).stat = s.stat ∧
    (State.withFetchWord s nbits w).ecl = s.ecl ∧ (State.withFetchWord s nbits w).shut = s.shut ∧
    (State.withFetchWord s nbits w).windows = s.windows ∧ (State.withFetchWord s nbits w).enc0 = s.enc0 ∧
    (State.withFetchWord s nbits w).enc1 = s.enc1 ∧ (State.withFetchWord s nbits w).tg = s.tg ∧ (State.withFetchWord
    s nbits w).chan = s.chan ∧ (State.withFetchWord s nbits w).trig = s.trig ∧ (State.withFetchWord s nbits
    w).trigOut = s.trigOut ∧ (State.withFetchWord s nbits w).out0 = s.out0 ∧ (State.withFetchWord s nbits w).out1 =
    s.out1 ∧ (State.withFetchWord s nbits w).taps = s.taps ∧ (State.withFetchWord s nbits w).mem = s.mem ∧
    (State.withFetchWord s nbits w).host = s.host ∧ (State.withFetchWord s nbits w).dma = s.dma ∧
    (State.withFetchWord s nbits w).rings = s.rings ∧ (State.withFetchWord s nbits w).ingots = s.ingots ∧
    (State.withFetchWord s nbits w).serial = s.serial ∧ (State.withFetchWord s nbits w).hk = s.hk ∧
    (State.withFetchWord s nbits w).therm = s.therm ∧ (State.withFetchWord s nbits w).pwr = s.pwr ∧
    (State.withFetchWord s nbits w).sec = s.sec ∧ (State.withFetchWord s nbits w).dbg = s.dbg ∧ (State.withFetchWord
    s nbits w).free = s.free := by
  unfold State.withFetchWord; (try dsimp only); (repeat' split) <;> simp only [and_self]

end Sys2Proof.Machine
end

