-- ==== Sys2Proof/Tests/Slice0.lean ====
section
/-!
SUPPORT. Tests.  First the smoke tests of `Instr.wellFormed`: one ill-formed command for each check, which the check refuses.
Then, for each obligation that has hypotheses, one theorem `witness_<its name>` that shows concrete states and operands which
meet all of them, clause by clause, at boundary values where a clause has a range.  Then single steps whose results are worked
out from the spec's own text.
-/
namespace Sys2Proof.Tests

set_option Elab.async false
open Machine

/-- A module that runs in STANDBY as station 5, with the chain links and the host link up and an L3 session on each path. -/
def up : State :=
  ({ State.reset with
    boot := { BootSt.reset with phase := .running, scanned := true, cause := 0 }
    chain := { ChainSt.reset with
      portA := { ChainPort.reset with link := true }
      portB := { ChainPort.reset with link := true }
      sessions := [{ id := 1, level := 3, keySlot := 6, lastUse := 0 }] }
    host := { HostSt.reset with link := true, perstN := true, session := some (3, 6, 0) } } : State).setO Obj.CHAIN_STATION 5

/-- `up` with some objects set. -/
def upWith (l : List (Nat × Int)) : State := up.setOs l

/-- A telegram from the master to station 5, in the L3 session, at 100 ns. -/
def tele (payload : List Byte) : Req :=
  { portB := false, hop := 2, posaddr := false, noreply := false, dst := 5, src := 0, originPos := 0, seq := 7, session := 1,
    payload := payload, t := 100 }

/-- A module in a phase of its start-up, powered. -/
def booting (p : BootPhase) : State := { up with boot := { BootSt.reset with phase := p }, chain := ChainSt.reset, host := HostSt.reset }

/-- Zeros. -/
def zs (n : Nat) : List Byte := List.replicate n 0#8

/-- The domains that are on in `img`. -/
def onDomains : List Nat := [0, 1, 2, 3, 4, 5, 6, 7, 8, 46, 47, 52, 54, 56, 58, 59, 61, 62, 63, 64, 65, 66, 70, 74, 78, 79]

/-- A module in RUN with S0 enabled on an aligned group of all eight lanes. -/
def img : State :=
  { up with
    od := [(Obj.MODE, 2), (Obj.CHAIN_STATION, 5), (Obj.POS_ENABLE, 1)] ++ onDomains.map (fun d => (Obj.PWR_DOM_STATE d, 2))
    modes := { ModeSt.reset with inForce := [(Obj.POS_ENABLE, 1), (Obj.MSL_GROUPS, 0)] }
    aligned := Quad.all true
    lanes := List.replicate 8 { cdr := true, block := true, scr := 0, marker := some 9 }
    mem := { MemSt.reset with online := true, trained := true } }

/-- `img` with some objects set. -/
def imgWith (l : List (Nat × Int)) : State := img.setOs l

/-- `img` with S0 in heritage order. -/
def her : State := { img with modes := { img.modes with inForce := [(Obj.POS_ENABLE, 1), (Obj.MSL_GROUPS, 0), (Obj.HER_ORDER, 1)] } }

/-- An open frame of S0, 4 by 3 pixels, slot 0. -/
def fr : OpenFrame :=
  { num := 3, start := 10, lastAt := 10, gotStart := true, geomBad := false, short := false, long := false, ovf := false,
    slots := Quad.all { lastRow := none, nextCol := 0, pkts := 0, fault := false }, subt := none, hpRow := 0, mode := 2, txn := 0,
    eclKind := 0, width := 4, height := 3, mask := 1, timeout := 1000, dropShort := false, close := 0, closedAt := 0,
    trigKind := 8, trigT := 10, trigE := 0, trigSeq := 1 }

/-- `img` with an intake of S0. -/
def imgIn (x : IntakePos) : State := { img with intake := img.intake.set 0 x }

/-- A packet: header, data and both CRCs (03 R82 to R84). -/
def pkt (ty src slot tag row words : Nat) (data : List Byte) : List Byte :=
  let h := [byteOf ty, byteOf (16 * src + 4 * slot)] ++ beBytes 2 tag ++ beBytes 2 row ++ beBytes 2 0 ++ beBytes 2 words ++ zs 5
  let b := h ++ [byteOf (crc8 h)] ++ data
  b ++ beBytes 4 (crc32 b)

/-- FRAME_START of `fr`. -/
def startPkt (src tag : Nat) : List Byte := pkt 1 src 0 tag 0 8 (beBytes 2 4 ++ beBytes 2 3 ++ beBytes 2 1 ++ zs 10)

/-- 03 R78, x^58 + x^39 + 1: the 64 bits after a sync header as they stand on a lane that has received 58 zeros before. -/
def scrambled (d : Nat) : Nat :=
  (List.range 64).foldl (fun x i =>
    let tap := fun n => if n ≤ i then x / 2 ^ (i - n) % 2 else 0
    x + (d / 2 ^ i + tap 39 + tap 58) % 2 * 2 ^ i) 0

/-- A block of a sync header and eight octets, as it is received. -/
def blk (sync : Nat) (octets : List Byte) : Nat := sync + 4 * scrambled (octets.foldr (fun b n => b.toNat + 256 * n) 0)

/-- The blocks of a packet: a start block, data blocks and a terminate block (03 R78, R82). -/
def blocksOf (pkt : List Byte) : List Nat :=
  let body := pkt.drop 7
  let n := body.length / 8
  [blk 1 (0x78 :: pkt.take 7)] ++ (List.range n).map (fun i => blk 2 ((body.drop (8 * i)).take 8)) ++
    [blk 1 ((([0x87, 0x99, 0xAA, 0xB4, 0xCC, 0xD2, 0xE1, 0xFF] : List Byte).getD (body.length % 8) 0 :: body.drop (8 * n)) ++
      zs (7 - body.length % 8))]

/-- A packet of at most eight blocks, one to a lane (03 R79). -/
def burst (pkt : List Byte) : LaneBlocks :=
  { place := 20, lanes := (List.range 8).map (fun i => ((blocksOf pkt)[i]?).toList) }

/-- What the blocks of a packet leave, and that they deliver it. -/
def after (s : State) (pkt : List Byte) : State := ((s.advance 5).receiveBlocks 0 (burst pkt)).1
theorem delivers_of {s : State} {pkt : List Byte} {l : List Packet} (h : ((s.advance 5).receiveBlocks 0 (burst pkt)).2 = l) :
    s.delivers 0 (burst pkt) 5 l (after s pkt) := Prod.ext rfl h

/-- Edges of the heritage port on which a module with the default settings samples (03 R105). -/
def hp (fval lval : Bool) : HpSampler := { LinkSt.reset.hp with fval := fval, lval := lval, gap := if fval then 0 else 8 }

/-- A ROW of four readouts of `fr`, in its last row. -/
def rowPkt : List Byte := pkt 2 0 0 3 2 4 (zs 8)

/-- The frame `fr` in the pipeline. -/
def cx : FrameCtx :=
  { num := 3, start := 10, width := 4, height := 3, mask := 1, ackMask := 1, times := [], heritage := false, dropShort := false,
    gov := [], settingsGen := 0, coefGen := 0, coefTag := 0, mode := 2, txn := 0, role := 0, epoch := 0, station := 5,
    trigKind := 8, trigT := 10, trigE := 0, trigSeq := 1, eclAge := 0, driftAge := 0, eclCount := 0, throttle := 0,
    throttled := false, notReady := false, eclipsed := false, subt := none, short := false, long := false, clipped := false,
    eclKind := 0, close := 0, closedAt := 0, geom := false, overflow := false }

/-- `img` with a pipeline of S0. -/
def imgPipe (x : PipePos) : State := { img with pipe := img.pipe.set 0 x }

/-- A row piece of `fr`: four pixels of row 0. -/
def piece (es : Option (List Entry)) : RowPkt :=
  { num := 3, slot := 0, row := 0, col0 := 0, data := [100, 101, 102, 103], invalid := false, synth := false, subt := none,
    bytes := 24, shared := false, entries := es }

/-- The latched values of an eclipse: 4 frames, pulses of at most 20 ms held 5 ms. -/
def ep : EclParams :=
  { n := 4, framePeriod := 1000000, targetMode := 0, tsrc := 0, pulseMax := 20, pulseHold := 5, cfg := 3, settle := 1,
    recover := 1, guardUs := 10, rowT0 := 0, rowPitch := 0, travelClose := [], travelOpen := [], fitMinStep := 1,
    tauMinEst := 1, forget := 1, minW := 1, linSpan := 1, quadSpan := 1, defOfs := 1, defNoise := 1, defSet := 1, defCap := 1,
    defMax := 1, learn := 0 }

/-- `img` with an eclipse of S0 in a phase. -/
def imgEcl (ph : Nat) (e : EclPos) : State :=
  { img with ecl := img.ecl.set 0 e, od := (img.setOs [(Obj.ECL_PHASE 0, ph), (Obj.ECL_SHUT_CFG 0, 3)]).od }

/-- `img` with a shutter arbiter. -/
def imgShut (h : ShutterSt) : State := { imgWith [(Obj.ECL_SHUT_CFG 0, 3)] with shut := h }

/-- The row of an object. -/
def rowOf (k : Nat) : ObjRow := (Obj.row? k).getD ⟨0, 0, 0, 0, 0, .u8, .ro, 0, 0, 0, 0, 0, .immediate⟩

/-- The state a write leaves, and the code it is refused with. -/
def got (r : Res) : State := match r with | .ok w => w | .error _ => State.reset
def code (r : Res) : Nat := match r with | .ok _ => 0 | .error e => e

/-- What a host write of a kept object finds at 5 ns. -/
def toWrite (s : State) (key : Nat) (ok : Bool) : State := ((s.keptIs key ok).advance 5).writeOf .host

/-- A READ or WRITE of an object: key, flags, offset, length, data. -/
def acc (key flags off len : Nat) (data : List Byte) : Req :=
  tele (beBytes 2 (key / 256) ++ beBytes 1 (key % 256) ++ beBytes 1 flags ++ beBytes 4 off ++ beBytes 2 len ++ beBytes 2 0 ++ data)

/-- `img` with an output port OUT0, linked, of address 10.0.0.1. -/
def imgOut (o : OutPort) : State :=
  { img with out0 := { o with link := true }, modes := { img.modes with inForce := [(Obj.POS_ENABLE, 1), (Obj.MSL_GROUPS, 0), (Obj.OUT_IP 0, 0x0A000001)] } }

/-- An ARP entry of 10.0.0.2. -/
def arp2 (mac : Option Nat) (at_ n : Nat) : ArpEntry := { ip := 0x0A000002, mac := mac, at_ := at_, unanswered := n }

/-- `imgOut` with one completed image ingot for an address. -/
def imgSend (dst : Nat) (o : OutPort) : State :=
  { imgOut o with
    od := (imgWith [(Obj.LEASE_STATE, 1)]).od
    rings := img.rings.set 0 { Ring.reset with size := 1048576, slots := [
      { st := 2, pos := 0, frame := 3, stream := 0, port := 0, dst := dst, role := 0, epoch := 0, len := 64, addr := 0xA0000000,
        seq := 1, order := 1, lens := [64], held := false, taken := false }] } }

/-- A start at 10 ms. -/
def st10 : Start := { s := 10000000, t := 9000000, e := 0, kind := 8, seq := 1 }

/-- `img` with the starts of S0. -/
def imgTrig (x : TrigPos) : State := { img with trig := img.trig.set 0 x }

/-- A frame on the chain: 60 bytes of an EtherType. -/
def frame (type hop : Nat) : List Byte := zs 12 ++ beBytes 2 type ++ zs 3 ++ beBytes 1 hop ++ zs 42

/-- `up` as station 5 with a current lease of role 1, epoch 9. -/
def leased : State := upWith [(Obj.LEASE_STATE, 1), (Obj.LEASE_ROLE, 1), (Obj.LEASE_EPOCH, 9)]

/-- A broadcast from the master. -/
def cast (payload : List Byte) : Req := { tele payload with dst := 255 }

/-- `img` with a DMA channel 3 that runs. -/
def imgDma (st : Nat) (x : DmaCh) : State := { imgWith [(Obj.DMA_STATE 3, st)] with dma := img.dma.set 3 x }

/-- A descriptor that moves 64 bytes from frame memory. -/
def dr : DescRun :=
  { desc := { host := 0x1000, dev := 0xA0000000, len := 64, flags := 0, reserved := 0 }, dev := 0xA0000000, len := 64, moved := 0,
    bursts := 0, t0 := 0, entry := none, result := 0, ending := false }

/-- `dr` at its end. -/
def drEnd : DescRun := { dr with ending := true, moved := 64 }

/-- `up` with an L2 key in slot 0 and VIN at 48 V. -/
def keyed : State := ({ up with pwr := { PowerSt.reset with vin := 48000 } } : State).setKey 0 2 (zs 32)

/-- A module whose keep array fails the page of customer slot 5. -/
def wornKey : State := { up with nv := { NvSt.reset with worn := [Keep.key 5 / 256] } }

/-- The public key of the secret key 1. -/
def pubG : List Byte := [4#8] ++ beBytes 48 p384g.1 ++ beBytes 48 p384g.2

/-- A token of a kind for the device 1 and the boot nonce zero, with its signature. -/
def tok (kind sig : Nat) : List Byte :=
  asciiBytes "KTUT" ++ [1, byteOf kind, 0, 0] ++ beBytes 8 1 ++ zs 16 ++ pubG ++ zs 7 ++ beBytes 96 sig
def tok1 : List Byte :=
  tok 1 0xaa87ca22be8b05378eb1c71ef320ad746e1d3b628ba79b9859f741e082542a385502f25dbf55296c3a545e3872760ab77f0309dfe3a77341aab9d9c621b59f0ef2166acbe27fe6f669cd2f34a6d58161c495b490743036817b8110949549bd30
def tok2 : List Byte :=
  tok 2 0xaa87ca22be8b05378eb1c71ef320ad746e1d3b628ba79b9859f741e082542a385502f25dbf55296c3a545e3872760ab783d5412399c67caba4a8c7ecf3f33082c90aa1b22a484b0bd06b51e48f7f51b6beced35eb5de0e7388e256aa2a9a7d56

/-- A module in OPEN that verifies a token; `pubG` is both token keys. -/
def verifying (v : List Byte) : State :=
  (({ up with
    sec := { SecSt.reset with fuseOpen := (true, false), vendorHash := sha384 pubG }
    dbg := { DbgSt.reset with verifying := some v } } : State).setKeep Keep.nonce (secSeal 32 (zs 16))).setTokenKey (sha384 pubG)

/-- A firmware image of one byte: header with its signature, and the byte. -/
def image : List Byte :=
  asciiBytes "KTFW" ++ leBytes 2 1 ++ zs 10 ++ leBytes 4 1 ++ sha384 [0] ++ pubG ++ zs 91 ++
    beBytes 96 0xaa87ca22be8b05378eb1c71ef320ad746e1d3b628ba79b9859f741e082542a385502f25dbf55296c3a545e3872760ab7e2d06d7f87ca0054ccb843a7c127ac32749a67ea0449b503008a0c166d81f838c69a12e5c560393b9c2ebf2b9144495e ++ zs 160 ++ [0]

/-- A journal of 64 sectors in each area, with its primary head. -/
def jour (head : Nat) : Journal :=
  { half := 64, priTail := 0, secTail := 0, priHead := head, secHead := 0, erasing := 0xFFFFFFFF, retired := [], gen := 1,
    priFrom := 0, secFrom := 0 }

/-- `up` with its storage. -/
def upNv (n : NvSt) : State := { up with nv := n }

/-- `up` with the record store open and empty. -/
def store : State := upNv { NvSt.reset with journal := some (jour 0) }

/-- `store` with records of 40 bytes of parameter set 0 in the primary area, oldest first. -/
def stored (head : Nat) (l : List (List Byte)) : State :=
  (upNv { NvSt.reset with journal := some (jour head) }).setFlash 0 0x800000
    ((l.zip (List.range l.length)).map (fun x => recBytes 0 0x01000000 (x.2 + 1) 0 x.1)).flatten

/-- What NV_SET_APPLY of set 0 finds once the record is read. -/
def setRead (s : State) : State := (s.found .host 5).xipRecord (recordKey 0)

/-- A parameter set of `n` entries. -/
def pset (n : Nat) (entries : List Byte) : List Byte := asciiBytes "KTPS" ++ leBytes 2 1 ++ leBytes 2 n ++ zs 32 ++ entries

/-- A record write that has ended its copies. -/
def written : RecJob := { RecJob.make 0x01000000 0 (zs 4) 1 0 0 with seq := 5, phase := 4 }

/-- The same write at its start. -/
def writing : RecJob := { written with phase := 0 }

/-- A current record and the repair that writes it again. -/
def cur (s : State) (k : Nat) : Current := (s.current k).getD ⟨0, ⟨0, 0, 0, 0, 0, 0, 0, false⟩, false, false⟩
def mend (s : State) (k : Nat) : RecJob := (s.repairJob k).getD written

/-- `up` with its SP slave. -/
def upSlave (l : List (Nat × Int)) (x : SlaveSt) : State := { upWith l with serial := { SerialSt.reset with slave := x } }

/-- A module that shares SP1 with an external master, with a frame policy of SP1. -/
def shared (policy : Int) : State := { upWith [(Obj.SP_FRAME_POLICY 1, policy)] with serial := { SerialSt.reset with role := 1 } }

/-- A module in boot recovery with a command of its SP slave. -/
def recov (x : SlaveSt) : State := { booting .recovery with serial := { SerialSt.reset with slave := x } }

/-- A FINISH in boot recovery, with a good image in slot A. -/
def recImg : State :=
  { recov { SlaveSt.reset with upState := 1, upCmd := 2 } with
    sec := { SecSt.reset with fwHash := sha384 pubG }
    nv := { NvSt.reset with
      flash := (Quad.all []).set 0 (((List.range image.length).zip image).filter (fun x => x.2 != 0xFF#8)) } }

/-- `img` with the converter of head 0. -/
def imgHk (x : HkConv) : State := { imgWith [(Obj.HK_SCAN_MASK 0, 1)] with hk := { HkSt.reset with conv := img.hk.conv.set 0 x } }

/-- Armed and running transitions. -/
def toRun : Armed := ⟨3, 2, 50, 1, 0, 0⟩
def toSafe : Armed := ⟨3, 5, 50, 1, 0, 0⟩
def eclToRun : Running := ⟨3, 2, 1, 0, 0, 90, false, 0⟩
def toPrepare : Running := ⟨0, 1, 1, 0, 0, 90, false, 0⟩
def runToStandby : Running := ⟨2, 0, 1, 10, 0, 90, false, 0⟩

/-- A frame that has left its pipeline without an ingot. -/
def doneFrame : DoneFrame := { ctx := cx, rows := [], stat := [], dropped := true, taps := [] }

/-- A closing pulse of S0 that ECL_SHUT_CMD asked for. -/
def pulse : Pulse := ⟨0, true, 2⟩

/-- Transactions of SP0: a START mark of S0, and one with a WRITE. -/
def markWord : Sp0Word := ⟨2, 1, 0, 0⟩
def markTxn : Sp0Txn := ⟨0, [(0, markWord)], 10000000⟩
def dataTxn : Sp0Txn := ⟨1, [(0, ⟨1, 1, 0, 0⟩)], 5⟩

/-- A staged write, and a challenge of session 1 for the vendor key. -/
def staged : Staging := ⟨1, Obj.NV_USER_DATA, [], 0⟩
def chal : Challenge := ⟨1, 3, 6, zs 16, zs 16, 0⟩

/-- A row of the pipeline, before and after the merge. -/
def corrRow (row : Nat) : CorrRow :=
  { slot := 0, row := row, px := List.replicate 4
      { raw := 100, x := 100, y := 100, invalid := false, sat := false, planeErr := false, flags := 0, repl := 0, tau := 0 },
    synth := false }
def tailRow (row : Nat) : TailRow :=
  { slot := 0, row := row, staged := false, px := List.replicate 4
      { z := 100, invalid := false, sat := false, clip := false, restart := false, replaced := false, unreplaced := false } }
def outRow (row : Nat) : OutRow :=
  { row := row, px := List.replicate 4
      { t := 100, p := 100, invalid := false, sat := false, blended := false, range := 0, clip := false, restart := false,
        replaced := false, unreplaced := false, low := false } }

/-! ### Smoke tests of well-formedness -/

theorem smoke_good : (Instr.holdupReady 5).wellFormed = true ∧ (Instr.keepArrayWrite 0x7FFFF [7] true 2 5).wellFormed = true ∧
    (Instr.commit (tele (zs 4))).wellFormed = true := by decide
theorem smoke_time : (Instr.vinRise false (2 ^ 64)).wellFormed = false := by decide
theorem smoke_value : (Instr.timeSet .host (2 ^ 64) 0).wellFormed = false := by decide
theorem smoke_word : (Instr.bar0LowWrite .bar0 0 (2 ^ 32) 0).wellFormed = false := by decide
theorem smoke_via : (Instr.timeSet (.chain (2 ^ 32)) 0 0).wellFormed = false := by decide
theorem smoke_req : (Instr.commit { tele [] with seq := 65536 }).wellFormed = false ∧
    (Instr.commit { tele [] with hop := 256 }).wellFormed = false ∧
    (Instr.commit { tele [] with session := 2 ^ 32 }).wellFormed = false := by decide
theorem smoke_ptp : (Instr.ptpMessageReceive (.announce false 256 [] 0) 0).wellFormed = false ∧
    (Instr.ptpMessageReceive (.sync false 0 0 65536 none 0 0 0) 0).wellFormed = false ∧
    (Instr.ptpMessageReceive (.delaySent (2 ^ 67)) 0).wellFormed = false := by decide
theorem smoke_lane : (Instr.laneBlockLockLoss 8 0).wellFormed = false := by decide
theorem smoke_group : (Instr.mslFrameStart 4 (burst []) 0).wellFormed = false := by decide
theorem smoke_rate : (Instr.pcieLinkUp 5 4 0).wellFormed = false ∧ (Instr.pcieLinkUp 0 4 0).wellFormed = false := by decide
theorem smoke_lanes : (Instr.pcieLinkUp 4 3 0).wellFormed = false := by decide
theorem smoke_op : (Instr.opAbort .host 6 0 0).wellFormed = false := by decide
theorem smoke_half : (Instr.pauseFrame false 65536 0).wellFormed = false := by decide
theorem smoke_byte : (Instr.dramRefreshModeRead 256 0 0).wellFormed = false := by decide
theorem smoke_block : (Instr.alignmentMarker 0 (2 ^ 66) 0 0).wellFormed = false ∧
    (Instr.mslRowPacket 0 { burst [] with lanes := [] } 0).wellFormed = false := by decide
theorem smoke_place : (Instr.alignmentMarker 0 0 16384 0).wellFormed = false := by decide
theorem smoke_words : (Instr.markRelease 0 [2 ^ 40] 0).wellFormed = false := by decide
theorem smoke_samples : (Instr.hpRow [⟨true, true, true, 65536⟩] 0).wellFormed = false := by decide
theorem smoke_mac : (Instr.arpReply false 0 (2 ^ 48) 0).wellFormed = false := by decide
theorem smoke_ip : (Instr.arpReply false (2 ^ 32) 0 0).wellFormed = false := by decide
theorem smoke_frame : (Instr.chainFrameForward false (zs 65536) true false 0 0).wellFormed = false := by decide +kernel
theorem smoke_bar0 : (Instr.bar0LowRead .bar0 (2 ^ 20) 4 0).wellFormed = false ∧
    (Instr.bar0LowRead .bar4 (2 ^ 14) 4 0).wellFormed = false ∧ (Instr.bar0LowRead .config 4096 4 0).wellFormed = false := by decide
theorem smoke_bar2 : (Instr.bar2OfflineAccess (2 ^ 33) 0 false 0).wellFormed = false := by decide
theorem smoke_bar2Span : (Instr.bar2Write (2 ^ 33 - 1) [0, 0] 0).wellFormed = false := by decide
theorem smoke_span : (Instr.bar0LowRead .bar0 2 4 0).wellFormed = false ∧ (Instr.bar0UpperRead .bar0 0 3 0).wellFormed = false := by decide
theorem smoke_flips : (Instr.storeAnneal 0 true [(65536, 0)] 0).wellFormed = false := by decide
theorem smoke_key : (Instr.objectWrite .host (2 ^ 24) 0 true 0).wellFormed = false := by decide
theorem smoke_channel : (Instr.dmaCtrlRun 16 0).wellFormed = false := by decide
theorem smoke_descriptor : (Instr.dmaDescriptorStart 0 (zs 31) 0).wellFormed = false := by decide
theorem smoke_keepAddr : (Instr.keepArrayWrite 0x80000 [] false 0 0).wellFormed = false := by decide
theorem smoke_page : (Instr.keepArrayWrite 0 (zs 257) false 0 0).wellFormed = false := by decide +kernel
theorem smoke_attempt : (Instr.keepArrayWrite 0 [] false 3 0).wellFormed = false := by decide
theorem smoke_keepPage : (Instr.keepAnneal 2048 [] 0).wellFormed = false := by decide
theorem smoke_slaveAddr : (Instr.sp1SlaveRead true 65536 0 0).wellFormed = false := by decide
theorem smoke_xip : (Instr.xipFetch 0 (2 ^ 32) 0 0).wellFormed = false := by decide
theorem smoke_domain : (Instr.domainRampStart 80 0).wellFormed = false := by decide
theorem smoke_monitors : (Instr.monitorSnapshot [] (List.replicate 80 0) [] [] 0).wellFormed = false := by decide
theorem smoke_sensors : (Instr.thermalEvaluation [] 0).wellFormed = false := by decide
theorem smoke_path : (Instr.authLockoutExpiry 3 0).wellFormed = false := by decide
theorem smoke_vector : (Instr.msixVectorUnmask false 32 0).wellFormed = false := by decide
theorem smoke_action : (Instr.tapDbgAccess 4 0 0 0 0).wellFormed = false := by decide
theorem smoke_tapCode : (Instr.tapBypass 256 0).wellFormed = false := by decide

/-! ### States and telegrams of the witnesses -/

def powerOnToFirmware1 : State :=
  booting .reset

def powerOnToFirmware2 : State :=
  booting .rom

def powerOnToFirmware3 : State :=
  (booting .verified).setO Obj.STARTUP_SET 255

def powerOnToFirmware4 : State :=
  { recImg with boot := { BootSt.reset with phase := .rom } }

def startUpToStandby1 : State :=
  booting .firmware

def startUpToStandby2 : State :=
  { booting .firmware with boot := { BootSt.reset with phase := .firmware, scanned := true } }

def resetsOfARunningModule1 : State :=
  { up with pwr := { PowerSt.reset with vin := 33999 } }

def reqModeRequestsAreAnswered1 : Req :=
  tele (beBytes 2 1 ++ beBytes 2 0x500 ++ beBytes 8 0)

def reqModeRequestsAreAnswered2 : Req :=
  tele (beBytes 2 1 ++ beBytes 2 0x200 ++ beBytes 8 0)

def reqModeRequestsAreAnswered3 : Req :=
  tele (beBytes 2 1 ++ beBytes 2 0x100 ++ beBytes 8 0)

def modeRequestsAreAnswered1 : State :=
  { upWith [(Obj.MODE_REQ_TARGET, 5), (Obj.MODE_REQ_TXN, 3)] with modes := { ModeSt.reset with armed := some toSafe } }

def modeRequestsAreAnswered2 : State :=
  { leased with mem := { MemSt.reset with trained := true }, pwr := { PowerSt.reset with vin := 48000 } }

def transitionsRunAndEnd1 : State :=
  { upWith [(Obj.MODE, 1)] with modes := { ModeSt.reset with armed := some toRun } }

def transitionsRunAndEnd2 : State :=
  { up with modes := { ModeSt.reset with armed := some toSafe } }

def transitionsRunAndEnd3 : State :=
  { upWith [(Obj.MODE, 2)] with modes := { ModeSt.reset with running := some eclToRun } }

def transitionsRunAndEnd4 : State :=
  { upWith [(Obj.MODE, 1)] with modes := { ModeSt.reset with running := some toPrepare } }

def transitionsRunAndEnd5 : State :=
  { img with modes := { img.modes with armed := some ⟨3, 0, 50, 1, 0, 0⟩ } }

def transitionsRunAndEnd6 : State :=
  { up with modes := { ModeSt.reset with armed := some ⟨3, 4, 50, 1, 0, 0⟩ }, mem := { MemSt.reset with trained := true } }

def longOperationsShowAndAbort1 : State :=
  upWith [(Obj.OP_STATE 5, 1), (Obj.OP_TOTAL 5, 9)]

def longOperationsShowAndAbort2 : State :=
  { upWith [(Obj.OP_STATE 0, 1), (Obj.CORR_COEF_STATE 2, 2)] with ops := { OpsSt.reset with load := some (2, 7) } }

def longOperationsShowAndAbort4 : State :=
  { longOperationsShowAndAbort2 with ops := { OpsSt.reset with load := some (2, 7), loadQueue := [1] } }

def longOperationsShowAndAbort3 : State :=
  upWith [(Obj.OP_STATE 2, 1), (Obj.OP_TOTAL 2, 9)]

def lanesAndGroupAlignment1 : State :=
  { img with aligned := Quad.all false }

def strayPacketsAreDiscarded1 : State :=
  imgIn { IntakePos.reset with frm := some fr }

def strayPacketsAreDiscarded2 : State :=
  imgIn { IntakePos.reset with frm := some fr, unsol := [4] }

def packetsOfTheOpenFrame1 : State :=
  imgIn { IntakePos.reset with frm := some fr, fifo := [{ piece none with bytes := 65536 }, { piece none with bytes := 458752, shared := true }] }

def framesCloseOnTheirOwn1 : State :=
  { imgIn { IntakePos.reset with frm := some fr } with modes := { img.modes with running := some runToStandby } }

def heritagePort1 : State :=
  { her with link := { her.link with hp := hp false false } }

def heritagePort2 : State :=
  { her with intake := her.intake.set 0 { IntakePos.reset with frm := some fr }, link := { her.link with hp := { hp true false with num := some 3 } } }

def heritagePort3 : State :=
  { her with intake := her.intake.set 0 { IntakePos.reset with frm := some fr }, link := { her.link with hp := hp false false } }

def framesThroughThePipeline1 : State :=
  { imgPipe { PipePos.reset with frm := some cx, rows := [outRow 0, outRow 1, outRow 2] } with intake := img.intake.set 0 { IntakePos.reset with ended := [{ fr with close := 1 }] } }

def framesThroughThePipeline2 : State :=
  imgPipe { PipePos.reset with done := [doneFrame] }

def settingsGenerationCounts1 : State :=
  { imgIn { IntakePos.reset with frm := some fr } with gen := img.gen.set 0 { GenPos.reset with committed := true } }

def pixelsThroughTheStages1 : State :=
  { imgPipe { PipePos.reset with frm := some cx } with intake := img.intake.set 0 { IntakePos.reset with fifo := [piece none] } }

def pixelsThroughTheStages2 : State :=
  { imgPipe { PipePos.reset with frm := some cx } with intake := img.intake.set 0 { IntakePos.reset with fifo := [piece (some [])] } }

def pixelsThroughTheStages3 : State :=
  imgPipe { PipePos.reset with frm := some cx, corr := [corrRow 0, corrRow 1, corrRow 2] }

def pixelsThroughTheStages4 : State :=
  imgPipe { PipePos.reset with frm := some cx, tailRows := [tailRow 0] }

def pixelsThroughTheStages5 : State :=
  imgPipe { PipePos.reset with frm := some cx, merged := [outRow 0, outRow 1] }

def pixelsThroughTheStages6 : State :=
  imgPipe { PipePos.reset with frm := some cx, merged := [outRow 2], rows := [outRow 0, outRow 1] }

def pixelsThroughTheStages7 : State :=
  { img with pipe := Quad.all { PipePos.reset with frm := some cx }, intake := Quad.all { IntakePos.reset with fifo := [piece (some [])] }, link := { img.link with turn := 0 } }

def coefficientSets1 : State :=
  { img with od := (img.setO (Obj.CORR_COEF_STATE 0) 2).od }

def coefficientSets2 : State :=
  upWith [(Obj.MODE, 1), (Obj.CORR_LOAD_KEY 0, 5)]

def coefficientSets3 : State :=
  { upWith [(Obj.MODE, 1), (Obj.OP_STATE 0, 1), (Obj.CORR_COEF_STATE 3, 2)] with ops := { OpsSt.reset with load := some (3, 5) } }

def coefficientSets4 : State :=
  imgWith [(Obj.CORR_COEF_STATE 0, 3)]

def eclipseCommands1 : State :=
  imgWith [(Obj.CORR_COEF_STATE 0, 0)]

def eclipseCommands2 : State :=
  imgEcl 1 EclPos.reset

def eclipseCommands3 : State :=
  imgEcl 4 EclPos.reset

def eclipseCommands4 : State :=
  imgWith [(Obj.MODE, 4)]

def eclipseCommands5 : State :=
  { imgEcl 0 { EclPos.reset with requested := true } with od := (imgWith [(Obj.CORR_COEF_STATE 0, 0)]).od, windows := [⟨0, 1152921504606846976, 15⟩] }

def shutterPulses1 : State :=
  imgShut { ShutterSt.reset with queue := [pulse] }

def shutterPulses2 : State :=
  imgShut { ShutterSt.reset with running := some (pulse, 0), closedPin := ⟨some 0, none, none, none⟩ }

def shutterPulses3 : State :=
  { imgShut { ShutterSt.reset with running := some (pulse, 0) } with od := (imgWith [(Obj.ECL_SHUT_CFG 0, 1)]).od }

def shutterPulses4 : State :=
  imgShut { ShutterSt.reset with running := some (pulse, 0) }

def shutterPulses5 : State :=
  imgShut ShutterSt.reset

def eclipseCourse1 : State :=
  imgEcl 1 { EclPos.reset with f0Start := some 1000000, period := 1000000 }

def eclipseCourse2 : State :=
  imgEcl 4 { EclPos.reset with params := some ep, lastCtx := some cx, updating := true, accIn := 4 }

def eclipseCourse3 : State :=
  imgEcl 5 { EclPos.reset with openAt := some 3, params := some ep, cleanFrames := 1 }

def eclipseCourse4 : State :=
  imgEcl 5 { EclPos.reset with retryAt := some 5 }

def eclipseCourse5 : State :=
  imgEcl 1 { EclPos.reset with granted := true, params := some ep, windowEnd := some 20000004 }

def eclipseCourse6 : State :=
  imgEcl 1 { EclPos.reset with due := true }

def eclipseCourse7 : State :=
  { img with windows := List.replicate 4 ⟨500, 2000, 15⟩ }

def reqEclipseCourse1 : Req :=
  tele (beBytes 8 0 ++ beBytes 8 1000 ++ zs 8)

def discardRestoresTheActiveSet1 : State :=
  { img with gen := img.gen.set 0 { GenPos.reset with committed := true } }

def vdetOutputs1 : State :=
  { img with vdet := img.vdet.set 0 { VdetPos.reset with settleAt := some 5 } }

def vdetOutputs2 : State :=
  { img with vdet := img.vdet.set 0 { VdetPos.reset with rampEnd := some 5 } }

def vdetOutputs3 : State :=
  imgWith [(Obj.INTG_VDET_OUT 0, 100)]

def statisticsBlocks1 : State :=
  { img with stat := img.stat.set 0 { StatPos.reset with latch := some 3 } }

def statisticsBlocks2 : State :=
  { img with stat := img.stat.set 0 { StatPos.reset with snaps := [(viaSession (.chain 1), [1, 2, 3, 4, 5], 0)] } }

def chainTimeSources1 : State :=
  { up with time := { TimeSt.reset with master := some [9], path := some 0 } }

def chainTimeSources2 : State :=
  { up with time := { TimeSt.reset with master := some [9], delayAt := some 30, sync := some (10, 20) } }

def chainTimeSources3 : State :=
  upWith [(Obj.TIME_STATE, 2)]

def chainTimeSources4 : State :=
  upWith [(Obj.PPS_IN_CFG, 1), (Obj.TIME_SOURCE, 0)]

def chainTimeSources5 : State :=
  upWith [(Obj.PPS_IN_CFG, 1), (Obj.TIME_SOURCE, 1)]

def chainTimeSources6 : State :=
  upWith [(Obj.PPS_OUT_CFG, 1), (Obj.TIME_STATE, 2)]

def chainTimeSources7 : State :=
  { up with time := { TimeSt.reset with ppsOut := true, ppsEnd := 5 } }

def chainTimeSources8 : State :=
  upWith [(Obj.TIME_SOURCE, 2)]

def chainTimeSources9 : State :=
  upWith [(Obj.TIME_SOURCE, 1)]

def encodersCount1 : State :=
  upWith [(Obj.ENC_CFG 0, 1)]

def encodersCount2 : State :=
  upWith [(Obj.ENC_CFG 1, 3)]

def encodersCount3 : State :=
  upWith [(Obj.ENC_CFG 0, 9)]

def encodersCount4 : State :=
  upWith [(Obj.ENC_CFG 0, 17)]

def encodersCount5 : State :=
  upWith [(Obj.ENC_CFG 0, 1), (Obj.ENC_FILTER 0, 1000)]

def encodersCount6 : State :=
  { upWith [(Obj.ENC_CFG 0, 25)] with enc0 := { up.enc0 with zArmed := true } }

def triggerEvents1 : State :=
  upWith [(Obj.TI_CFG 3, 1)]

def triggerEvents2 : State :=
  upWith [(Obj.TI_CFG 0, 2)]

def triggerEvents3 : State :=
  upWith [(Obj.TG_SOURCE 3, 7)]

def triggerEvents4 : State :=
  { upWith [(Obj.TG_SOURCE 3, 8), (Obj.TG_HOLDOFF 3, 1000)] with tg := Quad.all { Generator.reset with lastT := some 5 } }

def triggerEvents8 : State :=
  { upWith [(Obj.TG_SOURCE 3, 8), (Obj.TG_HOLDOFF 3, 1000)] with tg := Quad.all { Generator.reset with lastT := some 1005 } }

def reqTriggerEvents1 : Req :=
  cast ([7] ++ zs 18 ++ [1] ++ zs 8)

def triggerEvents5 : State :=
  { up with chan := up.chan.set 7 { Channel.reset with lastS := some 1 } }

def triggerEvents6 : State :=
  { img with trigOut := img.trigOut.set 0 { TrigOut.reset with pend := [(5, 100)] } }

def triggerEvents7 : State :=
  { img with trigOut := img.trigOut.set 0 { TrigOut.reset with high := true, endAt := 5 } }

def startsBecomeMarks1 : State :=
  imgTrig { TrigPos.reset with queue := [st10] }

def startsBecomeMarks2 : State :=
  { imgTrig { TrigPos.reset with queue := [st10] } with intake := img.intake.set 0 { IntakePos.reset with frm := some fr } }

def startsBecomeMarks7 : State :=
  { imgTrig { TrigPos.reset with queue := [st10] } with sp0 := img.sp0.set 0 { Sp0Sel.reset with lastRelease := 9999000 } }

def startsBecomeMarks3 : State :=
  imgTrig { TrigPos.reset with held := some st10, heldAt := some 10000000 }

def startsBecomeMarks4 : State :=
  imgTrig { TrigPos.reset with marks := [(10000000, st10)] }

def startsBecomeMarks5 : State :=
  { imgTrig { TrigPos.reset with marks := [(10000000, st10)] } with sp0 := img.sp0.set 0 { Sp0Sel.reset with busy := some markTxn } }

def startsBecomeMarks6 : State :=
  { img with sp0 := img.sp0.set 3 { Sp0Sel.reset with busy := some dataTxn } }

def outputLinksAndPause1 : State :=
  imgOut OutPort.reset

def outputLinksAndPause2 : State :=
  { imgOut OutPort.reset with od := (imgWith [(Obj.OUT_PAUSE_EN 0, 1)]).od }

def outputLinksAndPause3 : State :=
  { imgOut OutPort.reset with od := (imgWith [(Obj.OUT_PAUSE_EN 0, 0)]).od }

def outputLinksAndPause4 : State :=
  imgOut { OutPort.reset with pausedUntil := some 5 }

def outputLinksAndPause5 : State :=
  imgOut { OutPort.reset with pausedUntil := some 200000000 }

def arpAndIcmp1 : State :=
  imgOut { OutPort.reset with arp := [arp2 none 0 0] }

def arpAndIcmp2 : State :=
  imgOut { OutPort.reset with arp := [arp2 (some 7) 0 2] }

def arpAndIcmp3 : State :=
  imgOut { OutPort.reset with arp := [arp2 (some 7) 0 3] }

def arpAndIcmp4 : State :=
  imgOut { OutPort.reset with icmpN := 99 }

def arpAndIcmp5 : State :=
  imgOut { OutPort.reset with icmpN := 100 }

def egressSendsIngots1 : State :=
  imgSend 0xFFFFFFFF OutPort.reset

def egressSendsIngots2 : State :=
  imgSend 0x0A000002 OutPort.reset

def egressSendsIngots3 : State :=
  imgSend 0xFFFFFFFF { OutPort.reset with sending := some (0, 0, 0, 0), fifo := [zs 64] }

def egressSendsIngots4 : State :=
  { egressSendsIngots3 with rings := egressSendsIngots3.rings.set 0 { Ring.reset with size := 1048576, slots :=
    [{ egressSendsIngots3.slot 0 0 with lens := [64, 64], len := 128 }] } }

def chainPortsForward1 : State :=
  { up with chain := { up.chain with portB := ChainPort.reset } }

def reqChainReadsAreAnswered1 : Req :=
  acc Obj.TIME_SOURCE 0 0 8 []

def reqChainReadsAreAnswered2 : Req :=
  acc Obj.GEN_COMMIT 0 0 8 []

def reqChainReadsAreAnswered3 : Req :=
  tele (beBytes 2 (Obj.TIME_SOURCE / 256) ++ [0, 1] ++ zs 4)

def reqChainReadsAreAnswered4 : Req :=
  tele (beBytes 2 0 ++ [0, 1] ++ zs 4)

def reqWritesReachTheirObjects1 : Req :=
  acc Obj.TIME_PTP_DOMAIN 1 0 1 [7]

def writesReachTheirObjects1 : State :=
  { up with chain := { up.chain with staging := some staged } }

def writesReachTheirObjects2 : State :=
  upWith [(Obj.MODE, 4), (Obj.POS_ENABLE, 0)]

def writesReachTheirObjects3 : State :=
  upWith [(Obj.LEASE_ROLE, 1), (Obj.LEASE_EPOCH, 9), (Obj.LEASE_STATE, 2)]

def reqRoleLeases1 : Req :=
  tele ([1, 100, 16, 0] ++ beBytes 4 4294967295)

def reqRoleLeases2 : Req :=
  tele ([254, 1, 2, 0] ++ beBytes 4 1)

def reqRoleLeases3 : Req :=
  tele ([255, 1, 2, 0] ++ beBytes 4 1)

def reqRoleLeases4 : Req :=
  cast (zs 4 ++ [1, 0, 0, 0, 1, 5, 0, 0] ++ beBytes 4 9)

def reqRoleLeases5 : Req :=
  cast ([1, 6, 0, 0] ++ beBytes 4 10)

def roleLeases1 : State :=
  { up with chain := { up.chain with leaseRetry := true } }

def bar0Words1 : State :=
  { up with bar0 := { Bar0St.reset with latch := some (Obj.TIME_NOW, 9) } }

def bar0Words2 : State :=
  { up with bar0 := { Bar0St.reset with busy := some (1, true) } }

def bar0Words5 : State :=
  upWith [(Obj.BAR0_DOM_SEL, Obj.NV_USER_DATA), (Obj.BAR0_DOM_LEN, 4)]

def bar0Words3 : State :=
  { up with host := { up.host with latch := some (15, 9) } }

def bar0Words4 : State :=
  { up with bar0 := { Bar0St.reset with held := some (Obj.ENC_PRESET 0, 7) } }

def hostLinkComesAndGoes1 : State :=
  { img with host := { img.host with enabled := false } }

def dmaChannelControl1 : State :=
  imgDma 0 DmaCh.reset

def dmaChannelControl2 : State :=
  imgDma 5 DmaCh.reset

def dmaChannelControl3 : State :=
  imgDma 1 DmaCh.reset

def dmaChannelControl4 : State :=
  imgDma 3 DmaCh.reset

def dmaChannelControl5 : State :=
  imgDma 2 { DmaCh.reset with cur := some dr }

def dmaChannelControl6 : State :=
  imgDma 1 { DmaCh.reset with cur := some dr }

def dmaChannelControl7 : State :=
  imgWith [(Obj.DMA_CFG 3, 31)]

def dmaDescriptorsRun1 : State :=
  imgDma 1 { DmaCh.reset with tail := 1 }

def dmaDescriptorsRun2 : State :=
  imgDma 1 { DmaCh.reset with tail := 1, cur := some dr }

def dmaDescriptorsRun3 : State :=
  imgDma 1 { DmaCh.reset with tail := 1, cur := some drEnd }

def dmaDescriptorsRun4 : State :=
  { imgDma 1 { DmaCh.reset with tail := 1, cur := some dr } with od := (upWith [(Obj.DMA_STATE 3, 1)]).od }

def reqSessionsAreProven1 : Req :=
  tele ([1, 2, 6] ++ zs 33)

def sessionsAreProven1 : State :=
  { up with chain := { up.chain with challenges := [chal] } }

def reqSessionsAreProven2 : Req :=
  tele ([3, 0, 0, 0] ++ hmac256 (zs 32) (macFields "KTA1" 1 3 6 (zs 16) (zs 16)))

def reqSessionsAreProven3 : Req :=
  tele ([5] ++ zs 35)

def reqSessionsAreProven4 : Req :=
  tele []

def sessionsAreProven2 : State :=
  { up with sec := { SecSt.reset with lockA := some 5 } }

def sessionsAreProven3 : State :=
  { up with host := { up.host with challenge := some (3, 6, zs 16, zs 16, 0) } }

def debugUnderItsGrade1 : State :=
  verifying (zs 232)

def debugUnderItsGrade2 : State :=
  verifying tok1

def debugUnderItsGrade3 : State :=
  verifying tok2

def debugUnderItsGrade4 : State :=
  verifying []

def debugUnderItsGrade5 : State :=
  upWith [(Obj.MODE, 4)]

def keepArrayWrites1 : State :=
  upNv { NvSt.reset with keepAnneal := some 2046 }

def keepArrayWrites2 : State :=
  upNv { NvSt.reset with keepAnneal := some 2047 }

def counted : State :=
  up.setTwoSlot (Keep.counter 1) 7

def keepArrayWrites3 : State :=
  upWith [(Obj.DEV_ON_HOURS, 4294967295)]

def recordsAreWritten1 : State :=
  { store with od := (upWith [(Obj.CORR_SAVE_KEY 3, 0x02000000), (Obj.CORR_COEF_STATE 3, 0)]).od }

def recordsAreWritten2 : State :=
  { store with nv := { store.nv with flashOp := some (0, 0x800000, 0, 0) } }

def recordsAreWritten3 : State :=
  { store with nv := { store.nv with job := some written } }

def recordsAreWritten4 : State :=
  stored 96 [pset 0 []]

def recordsAreWritten5 : State :=
  stored 96 [pset 1 (zs 6)]

def storeUpkeep1 : State :=
  { store with nv := { store.nv with flashOp := some (0, 0x800000, 36, 0), job := some writing } }

def storeUpkeep2 : State :=
  { stored 96 [pset 0 []] with nv := { (stored 96 [pset 0 []]).nv with repairs := [.rewrite 0x01000000] } }

def storeUpkeep3 : State :=
  { store with nv := { store.nv with repairs := [.erase 5] } }

def storeUpkeep4 : State :=
  { store with od := (upWith [(Obj.OP_STATE 5, 1)]).od, ops := { OpsSt.reset with compact := some 0 } }

def storeUpkeep5 : State :=
  { stored 65536 [pset 0 [], pset 0 []] with od := (upWith [(Obj.OP_STATE 5, 1)]).od, ops := { OpsSt.reset with compact := some 0 } }

/-- A head with 48 bytes left behind it. -/
def nearFull : Nat := (jour 0).capacity 0 - 48

def storeUpkeep9 : State :=
  { stored nearFull [pset 0 [], pset 0 []] with od := (upWith [(Obj.OP_STATE 5, 1)]).od, ops := { OpsSt.reset with compact := some 0 } }

def storeUpkeep6 : State :=
  { store with od := (upWith [(Obj.MODE, 4)]).od }

def storeUpkeep7 : State :=
  { store with nv := { store.nv with storeAnneal := some 0 } }

def storeUpkeep8 : State :=
  { store with nv := { store.nv with closed := true, closeLog := some 1, flashOp := some (0, 0x800000, 0, 0) } }

def serialPorts1 : State :=
  upSlave [(Obj.SP0_SLAVE, 1)] SlaveSt.reset

def serialPorts2 : State :=
  upSlave [(Obj.SP0_SLAVE, 1)] { SlaveSt.reset with mbxState := 1 }

def serialPorts3 : State :=
  upSlave [] { SlaveSt.reset with mbxState := 1, mbxCmd := 1, mbxIndex := 0x1302 }

def serialPorts4 : State :=
  upSlave [] { SlaveSt.reset with mbxState := 1, mbxCmd := 1 }

def serialPorts5 : State :=
  upSlave [] { SlaveSt.reset with mbxState := 1, mbxCmd := 2, mbxIndex := 0x1309, mbxData := 7 }

def serialPorts6 : State :=
  upSlave [] { SlaveSt.reset with mbxState := 1, mbxCmd := 2 }

def serialPorts7 : State :=
  { recov { SlaveSt.reset with upState := 1, upCmd := 1 } with serial := { SerialSt.reset with owned := true, slave := { SlaveSt.reset with upState := 1, upCmd := 1 } } }

def serialPorts8 : State :=
  recov { SlaveSt.reset with upState := 1, upCmd := 1, upOffset := 4194304 }

def serialPorts9 : State :=
  recov { SlaveSt.reset with upState := 1, upCmd := 2, upSlot := 1 }

def serialPorts10 : State :=
  { up with serial := { SerialSt.reset with role := 1 } }

def serialPorts11 : State :=
  { up with serial := { SerialSt.reset with role := 1, slvHigh := false } }

def serialPorts12 : State :=
  { up with serial := { SerialSt.reset with role := 1, busReq := some 0 } }

def serialPorts13 : State :=
  { up with serial := { SerialSt.reset with role := 1, owned := true } }

def serialPorts14 : State :=
  { booting .rom with od := (upWith [(Obj.SP1_DEV_MODE 0, 4)]).od }

def serialPorts15 : State :=
  imgWith [(Obj.SP1_DEV_MODE 3, 4)]

def serialPorts16 : State :=
  { serialPorts7 with serial := { serialPorts7.serial with slave := { serialPorts7.serial.slave with upErased := true } } }

def serialPorts17 : State :=
  { upWith [(Obj.SP1_XIP_EN, 1)] with serial := { SerialSt.reset with xip0 := some (0, 0) } }

def serialPorts18 : State :=
  { debugUnderItsGrade5 with serial := { SerialSt.reset with role := 1 } }

def housekeepingAndHeat1 : State :=
  imgHk HkConv.reset

def housekeepingAndHeat2 : State :=
  imgHk { HkConv.reset with busy := true, todo := [0] }

def housekeepingAndHeat3 : State :=
  imgHk { HkConv.reset with busy := true, todo := [0], settled := true }

def housekeepingAndHeat4 : State :=
  { imgHk { HkConv.reset with idleSince := some 0 } with od := (imgWith [(Obj.MODE, 0)]).od }

def housekeepingAndHeat5 : State :=
  { imgHk { HkConv.reset with settled := true } with od := (imgWith [(Obj.HK_CAL_EN, 1)]).od }

def housekeepingAndHeat6 : State :=
  { imgHk HkConv.reset with od := (imgWith [(Obj.HK_CAL_EN, 1)]).od }

def housekeepingAndHeat17 : State :=
  { housekeepingAndHeat6 with hk := { HkSt.reset with conv := img.hk.conv.set 1 { HkConv.reset with settled := true } } }

def housekeepingAndHeat7 : State :=
  { img with hk := { HkSt.reset with calibrating := some (4, 0, 0) } }

def housekeepingAndHeat8 : State :=
  { imgEcl 4 { EclPos.reset with params := some { ep with targetMode := 1, tsrc := 0 } } with hk := { HkSt.reset with conv := img.hk.conv.set 0 { HkConv.reset with settled := true } } }

def housekeepingAndHeat9 : State :=
  { imgWith [(Obj.THERM_STATE, 2), (Obj.INTG_SLOT_ACK 0, 15)] with therm := { ThermSt.reset with graceEnd := some 5, hot := 10 } }

def housekeepingAndHeat10 : State :=
  { imgWith [(Obj.THERM_STATE, 2)] with therm := { ThermSt.reset with graceEnd := some 5, hot := 10, slotSteps := 3 } }

def housekeepingAndHeat11 : State :=
  { imgWith [(Obj.THERM_STATE, 2)] with therm := { ThermSt.reset with graceEnd := some 5, slotSteps := 3 } }

def housekeepingAndHeat12 : State :=
  { img with therm := { ThermSt.reset with undoAt := some 5, halved := true, slotSteps := 3 } }

def housekeepingAndHeat13 : State :=
  { img with therm := { ThermSt.reset with undoAt := some 5, slotSteps := 3 } }

def housekeepingAndHeat14 : State :=
  { upWith [(Obj.THERM_HOTSPOT, 9999)] with therm := { ThermSt.reset with quench := true } }

def housekeepingAndHeat15 : State :=
  { upWith [(Obj.THERM_HOTSPOT, 10000)] with therm := { ThermSt.reset with quench := true } }

def housekeepingAndHeat16 : State :=
  { upWith [(Obj.THERM_DWELL, 2)] with therm := { ThermSt.reset with active := true, nWarn := 1 } }

def powerEvents1 : State :=
  { up with pwr := { PowerSt.reset with armed := true, failing := true } }

def powerEvents2 : State :=
  { up with pwr := { PowerSt.reset with armed := true } }

def powerEvents3 : State :=
  { up with pwr := { PowerSt.reset with failing := true, okSince := some 0, vin := 36000, ready := true } }

def powerEvents4 : State :=
  { up with pwr := { PowerSt.reset with want := [(79, true)], lastRamp := some 0 } }

def powerEvents5 : State :=
  { up with pwr := { PowerSt.reset with ramping := [(0, 0)] } }

def powerEvents8 : State :=
  { up with pwr := { PowerSt.reset with missing := true, under := true } }

def powerEvents9 : State :=
  { up with pwr := { PowerSt.reset with ramping := [(0, 0)], want := [(0, false)] } }

def powerEvents6 : State :=
  { up with pwr := { PowerSt.reset with discharging := [70] } }

def powerEvents7 : State :=
  { upWith [(Obj.MODE, 5)] with pwr := { PowerSt.reset with ramping := [(45, 0)] } }

/-! ### Witnesses -/

theorem witness_PowerOnToFirmware :
    (State.reset.boot.phase = BootPhase.off) ∧
    (powerOnToFirmware1.boot.phase = BootPhase.reset ∧ powerOnToFirmware1.boot.resetN = true ∧
    powerOnToFirmware1.boot.trip = false ∧ powerOnToFirmware1.boot.vinAt + 2000000 ≤ (powerOnToFirmware1.advance
    2000000).time.mono) ∧
    (powerOnToFirmware2.boot.phase = BootPhase.rom ∧ powerOnToFirmware2.slotOkay powerOnToFirmware2.slotToTry = false) ∧
    (powerOnToFirmware4.boot.phase = BootPhase.rom ∧ powerOnToFirmware4.slotOkay powerOnToFirmware4.slotToTry = true) ∧
    (powerOnToFirmware3.boot.phase = BootPhase.verified ∧ 7 < powerOnToFirmware3.o Obj.STARTUP_SET) ∧
    (up.boot.phase ≠ BootPhase.off ∧ up.boot.phase ≠ BootPhase.reset) := by
  refine ⟨?_, ?_, ?_, ?_, ?_, ?_⟩ <;> decide +kernel

theorem witness_StartUpToStandby :
    (startUpToStandby1.sound ∧ startUpToStandby1.boot.phase = BootPhase.firmware) ∧
    (startUpToStandby2.sound ∧ startUpToStandby2.boot.phase = BootPhase.firmware ∧ startUpToStandby2.boot.scanned =
    true) := by
  refine ⟨?_, ?_⟩ <;> decide +kernel

theorem witness_ResetsOfARunningModule :
    (up.sound ∧ up.boot.phase ≠ BootPhase.off ∧ up.boot.phase ≠ BootPhase.reset ∧ up.dbg.halted = false) ∧
    (powerOnToFirmware1.sound ∧ powerOnToFirmware1.boot.phase = BootPhase.reset) ∧
    (255 < 256 ∧ up.admits (Via.chain 1) 2 5) ∧
    (resetsOfARunningModule1.sound ∧ resetsOfARunningModule1.boot.phase ≠ BootPhase.off ∧
    resetsOfARunningModule1.boot.phase ≠ BootPhase.reset ∧ resetsOfARunningModule1.pwr.swOpen = true ∧
    resetsOfARunningModule1.pwr.vin < 34000) := by
  refine ⟨?_, ?_, ?_, ?_⟩ <;> decide +kernel

theorem witness_ModeRequestsAreAnswered :
    (up.sound ∧ up.hears reqModeRequestsAreAnswered1 DstKind.anyDst 12 ∧ 1 ≤ up.reqLevel reqModeRequestsAreAnswered1 ∧
    beAt reqModeRequestsAreAnswered1.payload 2 1 = 5) ∧
    (modeRequestsAreAnswered2.sound ∧ modeRequestsAreAnswered2.hears reqModeRequestsAreAnswered3 DstKind.anyDst 12 ∧
    1 ≤ modeRequestsAreAnswered2.reqLevel reqModeRequestsAreAnswered3 ∧ beAt reqModeRequestsAreAnswered3.payload 0 2 ≠ 0 ∧
    beAt reqModeRequestsAreAnswered3.payload 2 1 ≠ 5 ∧ modeRequestsAreAnswered2.modes.armed = none ∧
    beAt reqModeRequestsAreAnswered3.payload 4 8 = 0 ∧ reqUni reqModeRequestsAreAnswered3 = true ∧
    (modeRequestsAreAnswered2.heard reqModeRequestsAreAnswered3).modeRefusal ⟨beAt reqModeRequestsAreAnswered3.payload 0 2,
    beAt reqModeRequestsAreAnswered3.payload 2 1, 0, 1, (modeRequestsAreAnswered2.heard
    reqModeRequestsAreAnswered3).reqLevel reqModeRequestsAreAnswered3, false⟩ = 0) ∧
    (up.hears reqModeRequestsAreAnswered2 DstKind.anyDst 12 ∧ 1 ≤ up.reqLevel reqModeRequestsAreAnswered2 ∧ beAt
    reqModeRequestsAreAnswered2.payload 0 2 ≠ 0 ∧ beAt reqModeRequestsAreAnswered2.payload 2 1 ≠ 5 ∧ up.modes.armed = none ∧
    beAt reqModeRequestsAreAnswered2.payload 4 8 = 0 ∧ reqUni reqModeRequestsAreAnswered2 = true ∧
    modeAllowed up.mode (beAt reqModeRequestsAreAnswered2.payload 2 1) = false ∧ up.modes.orphan = false) ∧
    (modeRequestsAreAnswered1.sound ∧ 0 < 256 ∧ modeRequestsAreAnswered1.admits Via.host 1 5 ∧
    modeRequestsAreAnswered1.o Obj.MODE_REQ_TARGET = 5 ∧ (∃ b, modeRequestsAreAnswered1.modes.armed = some b ∧ b.txn = 3 ∧
    b.target = 5 ∧ b.reqTime = modeRequestsAreAnswered1.o Obj.MODE_REQ_TIME)) := by
  refine ⟨?_, ?_, ?_, ?_⟩
  · decide +kernel
  · decide +kernel
  · decide +kernel
  · exact ⟨by decide +kernel, by decide, by decide +kernel, by decide +kernel, toSafe, by decide +kernel⟩

theorem witness_TransitionsRunAndEnd :
    (transitionsRunAndEnd1.boot.phase = .running ∧ transitionsRunAndEnd1.modes.running = none ∧
    transitionsRunAndEnd5.boot.phase = .running ∧ transitionsRunAndEnd6.boot.phase = .running) ∧
    (transitionsRunAndEnd1.sound ∧ transitionsRunAndEnd1.fwUp = true ∧ transitionsRunAndEnd1.modes.armed = some
    toRun ∧ toRun.act ≤ (transitionsRunAndEnd1.advance 50).time.now ∧ toRun.target = 2 ∧ transitionsRunAndEnd1.mode
    = 1 ∧ (∀ k < 6, transitionsRunAndEnd1.opRunning k = false)) ∧
    (transitionsRunAndEnd2.sound ∧ transitionsRunAndEnd2.fwUp = true ∧ transitionsRunAndEnd2.modes.armed = some
    toSafe ∧ toSafe.act ≤ (transitionsRunAndEnd2.advance 50).time.now ∧ toSafe.target = 5) ∧
    ((transitionsRunAndEnd2.advance 49).time.now < toSafe.act) ∧
    (transitionsRunAndEnd3.sound ∧ transitionsRunAndEnd3.fwUp = true ∧ transitionsRunAndEnd3.modes.running = some
    eclToRun ∧ eclToRun.target = 2 ∧ transitionsRunAndEnd3.shut.running = none ∧ transitionsRunAndEnd3.dbg.force =
    false) ∧
    (transitionsRunAndEnd4.sound ∧ transitionsRunAndEnd4.fwUp = true ∧ transitionsRunAndEnd4.modes.running = some
    toPrepare ∧ toPrepare.target ≠ 5 ∧ toPrepare.deadline < (transitionsRunAndEnd4.advance 91).time.now) ∧
    (transitionsRunAndEnd5.sound ∧ transitionsRunAndEnd5.fwUp = true ∧ transitionsRunAndEnd5.modes.armed = some ⟨3, 0, 50,
    1, 0, 0⟩ ∧ 50 ≤ (transitionsRunAndEnd5.advance 50).time.now ∧ transitionsRunAndEnd5.mode = 2) ∧
    (transitionsRunAndEnd6.sound ∧ transitionsRunAndEnd6.fwUp = true ∧ transitionsRunAndEnd6.modes.armed = some ⟨3, 4, 50,
    1, 0, 0⟩ ∧ 50 ≤ (transitionsRunAndEnd6.advance 50).time.now ∧ transitionsRunAndEnd6.mode = 0 ∧
    transitionsRunAndEnd6.fpaConfigBad = false ∧ transitionsRunAndEnd6.mem.trained = true) := by
  refine ⟨?_, ?_, ?_, ?_, ?_, ?_, ?_, ?_⟩ <;> decide +kernel

theorem witness_LongOperationsShowAndAbort :
    (longOperationsShowAndAbort1.sound ∧ 5 < 6 ∧ longOperationsShowAndAbort1.opRunning 5 = true ∧ 255 < 256 ∧
    longOperationsShowAndAbort1.admits Via.host 1 5) ∧
    (longOperationsShowAndAbort2.sound ∧ 0 < 6 ∧ longOperationsShowAndAbort2.opRunning 0 = true ∧ 1 < 256 ∧
    longOperationsShowAndAbort2.admits Via.host 1 5 ∧ longOperationsShowAndAbort2.ops.load = some (2, 7) ∧
    longOperationsShowAndAbort2.ops.loadQueue = []) ∧
    (longOperationsShowAndAbort4.sound ∧ longOperationsShowAndAbort4.opRunning 0 = true ∧
    longOperationsShowAndAbort4.admits Via.host 1 5 ∧ longOperationsShowAndAbort4.ops.load = some (2, 7) ∧
    longOperationsShowAndAbort4.ops.loadQueue = [1] ∧ posOf 1 ≠ posOf 2) ∧
    (longOperationsShowAndAbort3.sound ∧ 2 < 6 ∧ longOperationsShowAndAbort3.opRunning 2 = true) := by
  refine ⟨?_, ?_, ?_, ?_⟩ <;> decide +kernel

theorem witness_LanesAndGroupAlignment :
    (img.sound ∧ 7 < 8 ∧ img.laneUsed 7 = true ∧ img.domOn 7 = true) ∧
    (img.groupOfLane 7 = some 0 ∧ img.groupAligned 0 = true) ∧
    ((img.lane 7).block = true ∧ 16383 < 16384 ∧ img.blockAt 7 (blk 1 [0x4B, 6, 0x5A, 0x5A, 0, 0, 0, 0]) = .marker 6 true ∧
    6 ≠ img.stripeOf 0 7) ∧
    (img.blockAt 7 (blk 1 [0x4B, 7, 0x5A, 0, 0, 0, 0, 0]) = .marker 7 false) ∧
    (lanesAndGroupAlignment1.sound ∧ lanesAndGroupAlignment1.groupOfLane 7 = some 0 ∧
    (lanesAndGroupAlignment1.lane 7).block = true ∧ lanesAndGroupAlignment1.blockAt 7
    (blk 1 [0x4B, 7, 0x5A, 0x5A, 0, 0, 0, 0]) = .marker 7 true ∧ 7 = lanesAndGroupAlignment1.stripeOf 0 7 ∧
    lanesAndGroupAlignment1.groupAligned 0 = false) ∧
    (7 = img.stripeOf 0 7 ∧ img.blockAt 7 (blk 1 [0x4B, 7, 0x5A, 0x5A, 0, 0, 0, 0]) = .marker 7 true ∧
    (img.lane 7).marker = some 9) ∧
    (lanesAndGroupAlignment1.blockAt 7 (blk 3 (zs 8)) = .invalid ∧
    lanesAndGroupAlignment1.blockAt 7 (blk 1 (zs 8)) = .invalid) ∧
    (3 < 4 ∧ ((img.advance 5).receiveBlocks 0 (burst (zs 36))).2 ≠ [] ∧
    ((img.advance 5).receiveBlocks 0 ⟨0, [[blk 1 (0x78 :: zs 7)], [], [], [], [], [], [], []]⟩).2 = []) := by
  refine ⟨?_, ?_, ?_, ?_, ?_, ?_, ?_, ?_⟩ <;> decide +kernel

theorem witness_UnboundPacketsAreDiscarded :
    (img.sound ∧ img.delivers 0 (burst (startPkt 9 3)) 5 [(startPkt 9 3, false)] (after img (startPkt 9 3))) ∧
    (hcrcOk (startPkt 9 3) = true ∧
    (after img (startPkt 9 3)).boundTo 0 (fieldOf (beAt (startPkt 9 3) 1 1) 7 4) = none) := by
  refine ⟨⟨?_, delivers_of ?_⟩, ?_⟩ <;> decide +kernel

theorem witness_StrayPacketsAreDiscarded :
    (img.sound ∧ img.delivers 0 (burst (startPkt 0 3)) 5 [(startPkt 0 3, false)] (after img (startPkt 0 3))) ∧
    (hcrcOk (startPkt 0 3) = true ∧ pktGood (startPkt 0 3) = true ∧
    (after img (startPkt 0 3)).boundTo 0 (fieldOf (beAt (startPkt 0 3) 1 1) 7 4) = some 0 ∧
    ((after img (startPkt 0 3)).intake.get 0).frm = none) ∧
    (strayPacketsAreDiscarded1.sound ∧ strayPacketsAreDiscarded1.delivers 0 (burst (pkt 3 0 0 4 0 0 [])) 5
    [(pkt 3 0 0 4 0 0 [], false)] (after strayPacketsAreDiscarded1 (pkt 3 0 0 4 0 0 []))) ∧
    (pktGood (pkt 3 0 0 4 0 0 []) = true ∧ ((after strayPacketsAreDiscarded1 (pkt 3 0 0 4 0 0 [])).intake.get 0).frm = some fr ∧
    beAt (pkt 3 0 0 4 0 0 []) 2 2 ≠ fr.tag ∧ beAt (pkt 3 0 0 4 0 0 []) 0 1 ≠ 1) ∧
    (strayPacketsAreDiscarded1.delivers 0 (burst (startPkt 0 4)) 5 [(startPkt 0 4, false)]
    (after strayPacketsAreDiscarded1 (startPkt 0 4))) ∧
    (pktGood (startPkt 0 4) = true ∧ beAt (startPkt 0 4) 0 1 = 1 ∧ ((after strayPacketsAreDiscarded1 (startPkt 0 4)).intake.get
    0).frm = some fr ∧ beAt (startPkt 0 4) 2 2 ≠ fr.tag ∧ beAt (startPkt 0 4) 2 2 ∉
    ((after strayPacketsAreDiscarded1 (startPkt 0 4)).intake.get 0).unsol) ∧
    (strayPacketsAreDiscarded2.delivers 0 (burst (startPkt 0 4)) 5 [(startPkt 0 4, false)]
    (after strayPacketsAreDiscarded2 (startPkt 0 4))) ∧
    (strayPacketsAreDiscarded2.sound ∧ beAt (startPkt 0 4) 2 2 ∈ ((after strayPacketsAreDiscarded2 (startPkt 0 4)).intake.get
    0).unsol) := by
  refine ⟨⟨?_, delivers_of ?_⟩, ?_, ⟨?_, delivers_of ?_⟩, ?_, delivers_of ?_, ?_, delivers_of ?_, ?_⟩ <;> decide +kernel

theorem witness_PacketsOfTheOpenFrame :
    (strayPacketsAreDiscarded1.sound ∧ strayPacketsAreDiscarded1.delivers 0 (burst (startPkt 0 3)) 5 [(startPkt 0 3, false)]
    (after strayPacketsAreDiscarded1 (startPkt 0 3))) ∧
    (hcrcOk (startPkt 0 3) = true ∧ pktGood (startPkt 0 3) = true ∧ (after strayPacketsAreDiscarded1 (startPkt 0 3)).boundTo 0
    (fieldOf (beAt (startPkt 0 3) 1 1) 7 4) = some 0 ∧ ((after strayPacketsAreDiscarded1 (startPkt 0 3)).intake.get 0).frm =
    some fr ∧ beAt (startPkt 0 3) 2 2 = fr.tag ∧ beAt (startPkt 0 3) 0 1 = 1) ∧
    (strayPacketsAreDiscarded1.delivers 0 (burst rowPkt) 5 [(rowPkt, false)] (after strayPacketsAreDiscarded1 rowPkt)) ∧
    (hcrcOk rowPkt = true ∧ pktGood rowPkt = true ∧ beAt rowPkt 2 2 = fr.tag ∧ beAt rowPkt 0 1 = 2 ∧
    0 = posOf (fieldOf (beAt rowPkt 1 1) 3 2) ∧ bitAt fr.mask 0 = true ∧ beAt rowPkt 4 2 < fr.height ∧
    fr.outOfOrder 0 (beAt rowPkt 4 2) = false ∧ ((after strayPacketsAreDiscarded1 rowPkt).bufferRoom 0
    (2 * (pktWords rowPkt).length + 16)).isSome = true) ∧
    (packetsOfTheOpenFrame1.sound ∧ packetsOfTheOpenFrame1.delivers 0 (burst rowPkt) 5 [(rowPkt, false)]
    (after packetsOfTheOpenFrame1 rowPkt)) ∧
    ((after packetsOfTheOpenFrame1 rowPkt).bufferRoom 0 (2 * (pktWords rowPkt).length + 16) = none ∧
    (after packetsOfTheOpenFrame1 rowPkt).boundTo 0 (fieldOf (beAt rowPkt 1 1) 7 4) = some 0 ∧
    ((after packetsOfTheOpenFrame1 rowPkt).intake.get 0).frm = some fr) ∧
    (strayPacketsAreDiscarded1.delivers 0 (burst (pkt 3 0 0 3 0 0 [])) 5 [(pkt 3 0 0 3 0 0 [], false)]
    (after strayPacketsAreDiscarded1 (pkt 3 0 0 3 0 0 []))) ∧
    (hcrcOk (pkt 3 0 0 3 0 0 []) = true ∧ pktGood (pkt 3 0 0 3 0 0 []) = true ∧ beAt (pkt 3 0 0 3 0 0 []) 2 2 = fr.tag ∧
    beAt (pkt 3 0 0 3 0 0 []) 0 1 = 3) := by
  refine ⟨⟨?_, delivers_of ?_⟩, ?_, delivers_of ?_, ?_, ⟨?_, delivers_of ?_⟩, ?_, delivers_of ?_, ?_⟩ <;> decide +kernel

theorem witness_FramesCloseOnTheirOwn :
    (strayPacketsAreDiscarded1.sound ∧ (strayPacketsAreDiscarded1.intake.get 0).frm = some fr ∧ fr.lastAt +
    fr.timeout ≤ (strayPacketsAreDiscarded1.advance 1010).time.now) ∧
    ((strayPacketsAreDiscarded1.advance 1009).time.now < fr.lastAt + fr.timeout) ∧
    (framesCloseOnTheirOwn1.sound ∧ (framesCloseOnTheirOwn1.intake.get 0).frm = some fr ∧
    framesCloseOnTheirOwn1.modes.running = some runToStandby ∧ runToStandby.target = 0 ∧ runToStandby.act + 20000000
    ≤ (framesCloseOnTheirOwn1.advance 20000010).time.now) := by
  refine ⟨?_, ?_, ?_⟩ <;> decide +kernel

theorem witness_HeritagePort :
    (heritagePort1.sound ∧ heritagePort1.hpActive = true ∧ heritagePort1.link.hp.fval = false ∧ heritagePort1.link.hp.gap = 8 ∧
    heritagePort1.link.hp.cols = [] ∧ (heritagePort1.intake.get 0).frm = none) ∧
    (heritagePort3.sound ∧ heritagePort3.hpActive = true ∧ heritagePort3.link.hp.fval = false ∧ heritagePort3.link.hp.gap = 8 ∧
    heritagePort3.link.hp.cols = [] ∧ (heritagePort3.intake.get 0).frm = some fr) ∧
    (heritagePort2.sound ∧ heritagePort2.hpActive = true ∧ heritagePort2.link.hp.fval = true ∧ heritagePort2.link.hp.gap = 0 ∧
    heritagePort2.link.hp.cols = [] ∧ heritagePort2.link.hp.num = some fr.num ∧ (heritagePort2.intake.get 0).frm = some fr) ∧
    (7 < 8 ∧ [65535] ≠ [] ∧ bitAt fr.mask 0 = true ∧ fr.hpRow < fr.height ∧ fr.outOfOrder 0 fr.hpRow = false ∧
    (heritagePort2.bufferRoom 0 (2 * 1 + 16)).isSome = true) ∧
    (∀ e ∈ [HpEdge.mk true true true 5, ⟨true, false, true, 6⟩].map (fun e => { e with rising :=
    (her.inForce Obj.HP_PCLK_EDGE == 1) }), e.rising = (her.inForce Obj.HP_PCLK_EDGE == 1)) := by
  refine ⟨?_, ?_, ?_, ?_, ?_⟩ <;> decide +kernel

theorem witness_FramesThroughThePipeline :
    (strayPacketsAreDiscarded1.sound ∧ strayPacketsAreDiscarded1.nextFrame 0 = some fr) ∧
    (img.sound ∧ img.nextFrame 0 = none) ∧
    (framesThroughThePipeline1.sound ∧ framesThroughThePipeline1.drained 0 = true ∧
    (framesThroughThePipeline1.pipe.get 0).frm = some cx) ∧
    (framesThroughThePipeline2.sound ∧ (framesThroughThePipeline2.pipe.get 0).done = [doneFrame]) := by
  refine ⟨?_, ?_, ?_, ?_⟩ <;> decide +kernel

theorem witness_SettingsGenerationCounts :
    (strayPacketsAreDiscarded1.sound ∧ strayPacketsAreDiscarded1.nextFrame 0 = some fr) ∧
    (settingsGenerationCounts1.sound ∧ settingsGenerationCounts1.nextFrame 0 = some fr) := by
  refine ⟨?_, ?_⟩ <;> decide +kernel

theorem witness_PixelsThroughTheStages :
    (pixelsThroughTheStages1.sound ∧ (pixelsThroughTheStages1.pipe.get 0).frm = some cx ∧ List.findIdx? (fun r =>
    r.entries.isNone && r.num == cx.num) (pixelsThroughTheStages1.intake.get 0).fifo = some 0 ∧
    (pixelsThroughTheStages1.intake.get 0).fifo[0]? = some (piece none)) ∧
    (pixelsThroughTheStages2.sound ∧ (pixelsThroughTheStages2.pipe.get 0).frm = some cx ∧
    (pixelsThroughTheStages2.intake.get 0).fifo = [piece (some [])] ∧ (piece (some [])).entries = some [] ∧
    pixelsThroughTheStages2.bufferTurn = some 0) ∧
    (pixelsThroughTheStages7.sound ∧ (pixelsThroughTheStages7.pipe.get 0).frm = some cx ∧
    (pixelsThroughTheStages7.intake.get 0).fifo = [piece (some [])] ∧ pixelsThroughTheStages7.bufferTurn ≠ some 0) ∧
    (pixelsThroughTheStages3.sound ∧ (pixelsThroughTheStages3.pipe.get 0).frm = some cx ∧ bitAt cx.mask 0 = true ∧
    List.find? (fun c => c.slot == 0 && c.row == (pixelsThroughTheStages3.pipe.get 0).outOf.get 0 && c.px.length ==
    cx.width) (pixelsThroughTheStages3.pipe.get 0).corr = some (corrRow 0) ∧ (List.find? (fun c => c.slot == 0 &&
    c.row == (pixelsThroughTheStages3.pipe.get 0).outOf.get 0 + 2 && c.px.length == cx.width)
    (pixelsThroughTheStages3.pipe.get 0).corr).isSome = true) ∧
    (pixelsThroughTheStages4.sound ∧ (pixelsThroughTheStages4.pipe.get 0).frm = some cx ∧ (∀ k ∈ maskBits cx.mask,
    (List.find? (fun z => z.slot == k && z.row == (pixelsThroughTheStages4.pipe.get 0).merged.length)
    (pixelsThroughTheStages4.pipe.get 0).tailRows).isSome = true) ∧ (pixelsThroughTheStages4.pipe.get
    0).merged.length < cx.height) ∧
    (pixelsThroughTheStages5.sound ∧ (pixelsThroughTheStages5.pipe.get 0).frm = some cx ∧ List.find? (fun m => m.row
    == (pixelsThroughTheStages5.pipe.get 0).rows.length) (pixelsThroughTheStages5.pipe.get 0).merged = some (outRow
    0) ∧ (cx.height ≤ (pixelsThroughTheStages5.pipe.get 0).rows.length + 1 ∨ (List.find? (fun m => m.row ==
    (pixelsThroughTheStages5.pipe.get 0).rows.length + 1) (pixelsThroughTheStages5.pipe.get 0).merged).isSome =
    true)) ∧
    (pixelsThroughTheStages6.sound ∧ (pixelsThroughTheStages6.pipe.get 0).frm = some cx ∧ List.find? (fun m => m.row
    == (pixelsThroughTheStages6.pipe.get 0).rows.length) (pixelsThroughTheStages6.pipe.get 0).merged = some (outRow
    2) ∧ (cx.height ≤ (pixelsThroughTheStages6.pipe.get 0).rows.length + 1 ∨ (List.find? (fun m => m.row ==
    (pixelsThroughTheStages6.pipe.get 0).rows.length + 1) (pixelsThroughTheStages6.pipe.get 0).merged).isSome =
    true)) := by
  refine ⟨?_, ?_, ?_, ?_, ?_, ?_, ?_⟩ <;> decide +kernel

theorem witness_CoefficientSets :
    (img.sound ∧ img.admits (Via.chain 1) 2 5 ∧ (img.mode = 1 ∨ img.mode = 2 ∨ img.mode = 4) ∧ img.o (Obj.ECL_PHASE 0)
    = 0 ∧ img.loading 0 = false ∧ img.saving 0 = false ∧ (img.advance 5).eclAsked 0 = false ∧ (img.coefState 0 = 0 ∨ img.coefState 0 = 4)) ∧
    (coefficientSets1.sound ∧ coefficientSets1.admits Via.host 2 5 ∧ coefficientSets1.coefState 0 = 2 ∧
    coefficientSets1.loading 0 = false ∧ coefficientSets1.dmaIntoRegion 0 = false) ∧
    (coefficientSets2.sound ∧ 255 < 256 ∧ coefficientSets2.admits Via.host 2 5 ∧ (coefficientSets2.mode = 1 ∨
    coefficientSets2.mode = 4) ∧ coefficientSets2.opRunning 0 = false ∧ coefficientSets2.coefBusy 0 = false ∧
    coefficientSets2.o (Obj.CORR_LOAD_KEY 0) ≠ 0) ∧
    (coefficientSets3.sound ∧ coefficientSets3.ops.load = some (3, 5) ∧ coefficientSets3.ops.loadQueue = [] ∧
    coefficientSets3.opRunning 0 = true ∧ coefficientSets3.coefState 3 = 2 ∧
    coefficientSets3.dmaIntoRegion 3 = false) ∧
    (coefficientSets4.sound ∧ coefficientSets4.coefState 0 = 3) ∧
    (img.admits Via.host 1 5) := by
  refine ⟨?_, ?_, ?_, ?_, ?_, ?_⟩ <;> decide +kernel

theorem witness_EclipseCommands :
    (eclipseCommands1.sound ∧ (1, Instr.eclRequestFull (Via.chain 1) 0 5) ∈ [(1, Instr.eclRequestFull (Via.chain 1)
    0 5), (2, Instr.eclRequestPartial (Via.chain 1) 0 5)] ∧ eclipseCommands1.admits (Via.chain 1) 1 5 ∧
    eclipseCommands1.mode ≠ 0 ∧ eclipseCommands1.mode ≠ 5 ∧ eclipseCommands1.enabled 0 = true ∧
    (eclipseCommands1.ecl.get 0).shutFault = false ∧ eclipseCommands1.phase 0 = 0 ∧ eclipseCommands1.coefState 0 = 0
    ∧ eclipseCommands1.saving 0 = false) ∧
    ((2, Instr.eclRequestPartial Via.host 0 5) ∈ [(1, Instr.eclRequestFull Via.host 0 5), (2,
    Instr.eclRequestPartial Via.host 0 5)] ∧ eclipseCommands1.admits Via.host 1 5) ∧
    (eclipseCommands2.sound ∧ 0 < 256 ∧ eclipseCommands2.admits Via.host 1 5 ∧ (eclipseCommands2.mode = 2 ∨
    eclipseCommands2.mode = 4) ∧ 1 ≤ eclipseCommands2.phase 0 ∧ eclipseCommands2.phase 0 ≤ 4) ∧
    (eclipseCommands3.sound ∧ 255 < 256 ∧ eclipseCommands3.admits (Via.chain 1) 1 5 ∧ (eclipseCommands3.mode = 2 ∨
    eclipseCommands3.mode = 4) ∧ 1 ≤ eclipseCommands3.phase 0 ∧ eclipseCommands3.phase 0 ≤ 4) ∧
    (img.sound ∧ img.admits Via.host 2 5) ∧
    (eclipseCommands4.sound ∧ (true, Instr.eclShutCmdClose Via.host 0 5) ∈ [(true, Instr.eclShutCmdClose Via.host 0
    5), (false, Instr.eclShutCmdOpen Via.host 0 5)] ∧ eclipseCommands4.admits Via.host 2 5 ∧ eclipseCommands4.mode = 4
    ∧ eclipseCommands4.phase 0 = 0) ∧
    ((false, Instr.eclShutCmdOpen Via.host 0 5) ∈ [(true, Instr.eclShutCmdClose Via.host 0 5), (false,
    Instr.eclShutCmdOpen Via.host 0 5)]) ∧
    (eclipseCommands5.sound ∧ eclipseCommands5.serving = true ∧ eclipseCommands5.imaging = true ∧
    eclipseCommands5.mode ≠ 3 ∧ (eclipseCommands5.advance 5).mayGrant = true ∧ (eclipseCommands5.advance
    5).nextGrant = some (0, some 1152921504606846976)) := by
  refine ⟨?_, ?_, ?_, ?_, ?_, ?_, ?_, ?_⟩ <;> decide +kernel

theorem witness_ShutterPulses :
    (img.sound) ∧
    (shutterPulses1.sound ∧ (shutterPulses1.mode = 2 ∨ shutterPulses1.mode = 4) ∧ shutterPulses1.shut.queue =
    [pulse] ∧ shutterPulses1.shut.running = none ∧ (∀ (e : ℕ), shutterPulses1.shut.lastEnd = some e → e + 10000000 ≤
    (shutterPulses1.advance 10000000).time.now) ∧ shutterPulses1.dom80 78 ≠ 3 ∧ shutterPulses1.domOn 78 = true ∧
    (pulse.closing = true → shutterPulses1.nv.closed = false ∧ true = true)) ∧
    (pulse.closing = true ∧ (shutterPulses1.nv.closed = true ∨ false = false)) ∧
    (shutterPulses2.sound ∧ (shutterPulses2.mode = 2 ∨ shutterPulses2.mode = 4) ∧ shutterPulses2.shut.running = some
    (pulse, 0) ∧ pulse.pos = 0 ∧ shutterPulses2.endPin pulse = some 0 ∧ shutterPulses2.sensing pulse = true ∧ 0 +
    shutterPulses2.pulseHoldNs pulse ≤ (shutterPulses2.advance 5000000000).time.now) ∧
    (shutterPulses3.sound ∧ (shutterPulses3.mode = 2 ∨ shutterPulses3.mode = 4) ∧ shutterPulses3.shut.running = some
    (pulse, 0) ∧ 0 + shutterPulses3.pulseMaxNs pulse ≤ (shutterPulses3.advance 5000000000).time.now ∧
    shutterPulses3.sensing pulse = false) ∧
    (shutterPulses4.sound ∧ (shutterPulses4.mode = 2 ∨ shutterPulses4.mode = 4) ∧ shutterPulses4.shut.running = some
    (pulse, 0) ∧ 0 + shutterPulses4.pulseMaxNs pulse ≤ (shutterPulses4.advance 5000000000).time.now ∧
    shutterPulses4.sensing pulse = true ∧ shutterPulses4.endPin pulse = none) ∧
    (shutterPulses5.sound ∧ (shutterPulses5.mode = 2 ∨ shutterPulses5.mode = 4) ∧ shutterPulses5.pulseOf 0 = none ∧
    bitAt (shutterPulses5.o (Obj.ECL_SHUT_CFG 0)) 1 = true) := by
  refine ⟨?_, ?_, ?_, ?_, ?_, ?_, ?_⟩ <;> decide +kernel

theorem witness_EclipseCourse :
    (eclipseCourse1.sound ∧ eclipseCourse1.imaging = true ∧ eclipseCourse1.heldNext 0 = some 2000000 ∧
    eclipseCourse1.decision 0 2000000 ≤ (eclipseCourse1.advance 2000000).time.now) ∧
    (eclipseCourse2.sound ∧ (eclipseCourse2.mode = 2 ∨ eclipseCourse2.mode = 4) ∧ (eclipseCourse2.ecl.get 0).params
    = some ep ∧ (eclipseCourse2.ecl.get 0).lastCtx = some cx ∧ (eclipseCourse2.ecl.get 0).updating = true ∧
    (eclipseCourse2.ecl.get 0).accIn = ep.n) ∧
    (eclipseCourse3.sound ∧ eclipseCourse3.phase 0 = 5 ∧ (eclipseCourse3.ecl.get 0).openAt.isSome = true ∧
    (Option.map (fun x => x.recover) (eclipseCourse3.ecl.get 0).params).getD 0 ≤ (eclipseCourse3.ecl.get
    0).cleanFrames) ∧
    (eclipseCourse4.sound ∧ (eclipseCourse4.ecl.get 0).retryAt = some 5 ∧ 5 ≤ (eclipseCourse4.advance 5).time.now) ∧
    (eclipseCourse5.sound ∧ (eclipseCourse5.mode = 2 ∨ eclipseCourse5.mode = 4) ∧ (eclipseCourse5.ecl.get
    0).windowEnd = some 20000004 ∧ (eclipseCourse5.advance 5).windowLate 0 20000004 = true) ∧
    (img.sound ∧ img.serving = true ∧ img.mode = 2 ∧ img.enabled 0 = true) ∧
    (eclipseCourse6.sound ∧ (eclipseCourse6.advance 1000000000000000).waitsTooLong 0 = true) ∧
    (img.hears reqEclipseCourse1 DstKind.stationOrGroup 24 ∧ img.fresh reqEclipseCourse1 33 ∧ 1 ≤ (img.heard
    reqEclipseCourse1).reqLevel reqEclipseCourse1 ∧ (img.mode = 1 ∨ img.mode = 2) ∧ beAt reqEclipseCourse1.payload 0
    8 < beAt reqEclipseCourse1.payload 8 8 ∧ (img.heard reqEclipseCourse1).time.now < beAt reqEclipseCourse1.payload
    8 8 ∧ (img.heard reqEclipseCourse1).heldWindows.length < 4) ∧
    (eclipseCourse7.sound ∧ eclipseCourse7.hears reqEclipseCourse1 DstKind.stationOrGroup 24 ∧ eclipseCourse7.fresh
    reqEclipseCourse1 33 ∧ 1 ≤ (eclipseCourse7.heard reqEclipseCourse1).reqLevel reqEclipseCourse1 ∧ eclipseCourse7.mode = 2 ∧
    (eclipseCourse7.heard reqEclipseCourse1).time.now < beAt reqEclipseCourse1.payload 8 8 ∧
    4 ≤ (eclipseCourse7.heard reqEclipseCourse1).heldWindows.length) := by
  refine ⟨?_, ?_, ?_, ?_, ?_, ?_, ?_, ?_, ?_⟩ <;> decide +kernel

theorem witness_DiscardRestoresTheActiveSet :
    (img.sound ∧ img.admits Via.host 1 5 ∧ 255 < 256 ∧ (∀ (p : Pos), bitAt 255 ↑p = true → (img.gen.get p).committed =
    false)) ∧
    (discardRestoresTheActiveSet1.sound ∧ discardRestoresTheActiveSet1.admits Via.host 1 5 ∧ 1 < 256 ∧ (∃ p : Pos,
    bitAt 1 ↑p = true ∧ (discardRestoresTheActiveSet1.gen.get p).committed = true)) := by
  refine ⟨?_, ?_⟩ <;> decide +kernel

theorem witness_VdetOutputs :
    (vdetOutputs1.sound ∧ (vdetOutputs1.vdet.get 0).settleAt = some 5 ∧ 5 ≤ (vdetOutputs1.advance 5).time.now) ∧
    (vdetOutputs2.sound ∧ (vdetOutputs2.vdet.get 0).rampEnd = some 5 ∧ 5 ≤ (vdetOutputs2.advance 5).time.now ∧
    vdetOutputs2.modes.running = none) ∧
    (vdetOutputs3.sound ∧ (vdetOutputs3.advance 5).vdetNow 0 ≠ 0 ∧ vdetOutputs3.mode ≠ 1) := by
  refine ⟨?_, ?_, ?_⟩ <;> decide +kernel

theorem witness_StatisticsBlocks :
    (img.sound ∧ 255 < 256 ∧ img.admits Via.host 0 5 ∧ img.mem.online = true ∧ (img.stat.get 0).latch = none) ∧
    (statisticsBlocks1.sound ∧ (statisticsBlocks1.stat.get 0).latch = some 3) ∧
    (img.reaches Via.host ∧ img.reaches (Via.chain 1) ∧ (0 = 0 ∨ List.find? (fun c => c.1 == viaSession Via.host) (img.stat.get 0).snaps = none)) ∧
    ((4 = 0 ∨ List.find? (fun c => c.1 == viaSession (Via.chain 1)) (img.stat.get 0).snaps = none)) ∧
    (statisticsBlocks2.sound ∧ statisticsBlocks2.reaches (Via.chain 1) ∧ 1 ≠ 0 ∧ List.find? (fun c => c.1 == viaSession
    (Via.chain 1) && 1 != 0 && decide ((statisticsBlocks2.advance 5).time.mono < c.2.2 + 1000000000))
    (statisticsBlocks2.stat.get 0).snaps = some (viaSession (Via.chain 1), [1, 2, 3, 4, 5], 0)) := by
  refine ⟨?_, ?_, ?_, ?_, ?_⟩ <;> decide +kernel

theorem witness_CountersClear :
    (up.sound ∧ up.admits Via.host 1 5 ∧ 255 < 256 ∧ (Instr.intCntClear Via.host 255 5, cntInt) ∈ [(Instr.intCntClear
    Via.host 255 5, cntInt), (Instr.corrCntClear Via.host 255 5, [(8480, 8487)]), (Instr.tailCntClear Via.host 255
    5, [(8736, 8738)]), (Instr.mergeCntClear Via.host 255 5, [(8992, 8995)]), (Instr.radCntClear Via.host 255 5,
    [(9269, 9269)]), (Instr.eclCntClear Via.host 255 5, [(10528, 10535)]), (Instr.intgCntClear Via.host 255 5,
    [(10016, 10019)]), (Instr.timeCntClear Via.host 255 5, [(4896, 4897)]), (Instr.trigCntClear Via.host 255 5,
    [(10784, 10797)]), (Instr.outCntClear Via.host 255 5, [(10304, 10321)]), (Instr.chainCntClear Via.host 255 5,
    [(4640, 4654)]), (Instr.memCntClear Via.host 255 5, [(12304, 12305)]), (Instr.hpCntClear Via.host 255 5,
    [(12548, 12549), (12565, 12566)]), (Instr.nvCntClear Via.host 255 5, [(12816, 12824)]), (Instr.spCntClear
    Via.host 255 5, [(13072, 13078)]), (Instr.hkCntClear Via.host 255 5, [(13344, 13346)]), (Instr.thermCntClear
    Via.host 255 5, [(13600, 13602)]), (Instr.pwrCntClear Via.host 255 5, [(13856, 13859)])] ∧ (Instr.intCntClear
    Via.host 255 5 = Instr.outCntClear Via.host 255 5 → ∀ (b : Bool), (up.outPort b).pausedUntil = none)) ∧
    (up.admits (Via.chain 1) 1 5 ∧ 0 < 256 ∧ (Instr.outCntClear (Via.chain 1) 0 5, [(10304, 10321)]) ∈
    [(Instr.intCntClear (Via.chain 1) 0 5, cntInt), (Instr.corrCntClear (Via.chain 1) 0 5, [(8480, 8487)]),
    (Instr.tailCntClear (Via.chain 1) 0 5, [(8736, 8738)]), (Instr.mergeCntClear (Via.chain 1) 0 5, [(8992, 8995)]),
    (Instr.radCntClear (Via.chain 1) 0 5, [(9269, 9269)]), (Instr.eclCntClear (Via.chain 1) 0 5, [(10528, 10535)]),
    (Instr.intgCntClear (Via.chain 1) 0 5, [(10016, 10019)]), (Instr.timeCntClear (Via.chain 1) 0 5, [(4896,
    4897)]), (Instr.trigCntClear (Via.chain 1) 0 5, [(10784, 10797)]), (Instr.outCntClear (Via.chain 1) 0 5,
    [(10304, 10321)]), (Instr.chainCntClear (Via.chain 1) 0 5, [(4640, 4654)]), (Instr.memCntClear (Via.chain 1) 0
    5, [(12304, 12305)]), (Instr.hpCntClear (Via.chain 1) 0 5, [(12548, 12549), (12565, 12566)]), (Instr.nvCntClear
    (Via.chain 1) 0 5, [(12816, 12824)]), (Instr.spCntClear (Via.chain 1) 0 5, [(13072, 13078)]), (Instr.hkCntClear
    (Via.chain 1) 0 5, [(13344, 13346)]), (Instr.thermCntClear (Via.chain 1) 0 5, [(13600, 13602)]),
    (Instr.pwrCntClear (Via.chain 1) 0 5, [(13856, 13859)])] ∧ (Instr.outCntClear (Via.chain 1) 0 5 =
    Instr.outCntClear (Via.chain 1) 0 5 → ∀ (b : Bool), (up.outPort b).pausedUntil = none)) := by
  refine ⟨?_, ?_⟩ <;> decide +kernel

theorem witness_ChainTimeSources :
    (up.sound ∧ up.alive = true ∧ up.o Obj.TIME_SOURCE = 0 ∧ up.time.master = none) ∧
    (chainTimeSources1.sound ∧ chainTimeSources1.alive = true ∧ chainTimeSources1.o Obj.TIME_SOURCE = 0 ∧
    chainTimeSources1.fromMaster false 0 9 = true ∧ 62500000 ≤ 62500000 ∧ 62500000 ≤ 2000000000 ∧
    chainTimeSources1.time.path = some 0 ∧
    chainTimeSources1.time.master.isSome = true) ∧
    (2000000000 ≤ 2000000000) ∧
    (chainTimeSources2.sound ∧ chainTimeSources2.alive = true ∧ chainTimeSources2.o Obj.TIME_SOURCE = 0 ∧
    chainTimeSources2.fromMaster false 0 9 = true ∧ chainTimeSources2.time.delayAt = some 30 ∧
    chainTimeSources2.time.sync = some (10, 20) ∧ chainTimeSources2.time.twoStepSeq = none) ∧
    (chainTimeSources3.sound ∧ chainTimeSources3.o Obj.TIME_STATE = 2 ∧ chainTimeSources3.time.lastMeas.getD 0 +
    chainTimeSources3.syncBound ≤ (chainTimeSources3.advance 375000000).time.now) ∧
    (chainTimeSources4.sound ∧ chainTimeSources4.alive = true ∧ bitAt (chainTimeSources4.o Obj.PPS_IN_CFG) 0 = true
    ∧ chainTimeSources4.o Obj.TIME_SOURCE ≠ 1 ∧ false = bitAt (chainTimeSources4.o Obj.PPS_IN_CFG) 1 ∧
    true = !bitAt (chainTimeSources4.o Obj.PPS_IN_CFG) 1) ∧
    (chainTimeSources5.sound ∧ chainTimeSources5.alive = true ∧ bitAt (chainTimeSources5.o Obj.PPS_IN_CFG) 0 = true
    ∧ chainTimeSources5.o Obj.TIME_SOURCE = 1 ∧ (¬(chainTimeSources5.o
    Obj.TIME_STATE = 2 ∧ 10000000 < (secondOff (chainTimeSources5.advance 5).time.now).natAbs))) ∧
    (chainTimeSources6.sound ∧ chainTimeSources6.alive = true ∧ (chainTimeSources6.advance 1000000000).time.now %
    1000000000 = 0 ∧ chainTimeSources6.ppsDriven = true) ∧
    (chainTimeSources7.sound ∧ chainTimeSources7.time.ppsOut = true ∧ chainTimeSources7.time.ppsEnd ≤
    (chainTimeSources7.advance 5).time.now) ∧
    (chainTimeSources8.sound ∧ 18446744073709551615 < 2 ^ 64 ∧ chainTimeSources8.admits Via.host 2 5 ∧
    (chainTimeSources8.mode = 0 ∨ chainTimeSources8.mode = 5) ∧ chainTimeSources8.o Obj.TIME_SOURCE = 2) ∧
    (chainTimeSources9.sound ∧ chainTimeSources9.admits Via.host 2 5 ∧ (chainTimeSources9.mode = 0 ∨
    chainTimeSources9.mode = 5) ∧ chainTimeSources9.o Obj.TIME_SOURCE = 1) := by
  refine ⟨?_, ?_, ?_, ?_, ?_, ?_, ?_, ?_, ?_, ?_, ?_⟩ <;> decide +kernel

theorem witness_EncodersCount :
    (encodersCount1.sound ∧ encodersCount1.alive = true ∧ fieldOf (encodersCount1.o (Obj.ENC_CFG (encNum false))) 1
    0 ≠ 0 ∧ true ≠ (encodersCount1.enc false).a ∧ false = (encodersCount1.enc false).b ∧ (¬(fieldOf
    (encodersCount1.o (Obj.ENC_CFG (encNum false))) 1 0 = 3 ∧ true = false))) ∧
    (false = (encodersCount1.enc false).a ∧ true ≠ (encodersCount1.enc false).b ∧ fieldOf (encodersCount1.o
    (Obj.ENC_CFG (encNum false))) 1 0 = 1) ∧
    (encodersCount2.sound ∧ encodersCount2.alive = true ∧ fieldOf (encodersCount2.o (Obj.ENC_CFG (encNum true))) 1 0
    ≠ 0 ∧ true ≠ (encodersCount2.enc true).a ∧ true ≠ (encodersCount2.enc true).b) ∧
    (fieldOf (encodersCount1.o (Obj.ENC_CFG (encNum false))) 4 3 = 0) ∧
    (encodersCount3.sound ∧ encodersCount3.alive = true ∧ fieldOf (encodersCount3.o (Obj.ENC_CFG (encNum false))) 4
    3 = 1) ∧
    (encodersCount4.sound ∧ encodersCount4.alive = true ∧ fieldOf (encodersCount4.o (Obj.ENC_CFG (encNum false))) 4
    3 = 2) ∧
    (encodersCount5.sound ∧ encodersCount5.alive = true ∧ 999 < filterNs (encodersCount5.o (Obj.ENC_FILTER (encNum false))) ∧
    filterNs (encodersCount5.o (Obj.ENC_FILTER (encNum false))) ≤ 1000 ∧ filterNs (encodersCount1.o (Obj.ENC_FILTER (encNum
    false))) ≤ 20) ∧
    (encodersCount6.sound ∧ encodersCount6.alive = true ∧ fieldOf (encodersCount6.o (Obj.ENC_CFG (encNum false))) 4 3 = 3 ∧
    (encodersCount6.enc false).zArmed = true) ∧
    (up.sound ∧ up.alive = true) ∧
    (18446744073709551615 < 2 ^ 64 ∧ up.admits Via.host 1 5) := by
  refine ⟨?_, ?_, ?_, ?_, ?_, ?_, ?_, ?_, ?_, ?_⟩ <;> decide +kernel

theorem witness_TriggerEvents :
    (triggerEvents1.sound ∧ triggerEvents1.alive = true ∧ tiCounts (triggerEvents1.o (Obj.TI_CFG 3)) true = true ∧
    filterNs (triggerEvents1.o (Obj.TI_FILTER 3)) ≤ 20) ∧
    (triggerEvents2.sound ∧ triggerEvents2.alive = true ∧ tiCounts (triggerEvents2.o (Obj.TI_CFG 0)) false = true) ∧
    (triggerEvents3.sound ∧ triggerEvents3.alive = true ∧ triggerEvents3.o (Obj.TG_SOURCE 3) = 7 ∧
    (triggerEvents3.tg.get 3).nextTimer ≤ (triggerEvents3.advance 5).time.now) ∧
    (triggerEvents4.sound ∧ 255 < 256 ∧ triggerEvents4.admits Via.host 1 1005 ∧ triggerEvents4.o (Obj.TG_SOURCE 3) = 8 ∧
    (∀ (l : ℕ), (triggerEvents4.tg.get 3).lastT = some l → l + triggerEvents4.o (Obj.TG_HOLDOFF 3) ≤
    (triggerEvents4.advance 1005).time.now ∨ (triggerEvents4.advance 1005).time.now + triggerEvents4.o (Obj.TG_HOLDOFF 3) ≤ l)) ∧
    (triggerEvents8.sound ∧ triggerEvents8.admits Via.host 1 5 ∧ triggerEvents8.o (Obj.TG_SOURCE 3) = 8 ∧
    (triggerEvents8.tg.get 3).lastT = some 1005 ∧ (triggerEvents8.advance 5).time.now + triggerEvents8.o (Obj.TG_HOLDOFF 3) ≤
    1005 ∧ 1005 < (triggerEvents8.advance 6).time.now + triggerEvents8.o (Obj.TG_HOLDOFF 3)) ∧
    (triggerEvents8.admits Via.host 1 6) ∧
    (triggerEvents4.admits Via.host 1 1004 ∧ (triggerEvents4.tg.get 3).lastT = some 5 ∧ (triggerEvents4.advance 1004).time.now < 5 + triggerEvents4.o
    (Obj.TG_HOLDOFF 3) ∧ 5 < (triggerEvents4.advance 1004).time.now + triggerEvents4.o (Obj.TG_HOLDOFF 3)) ∧
    (up.sound ∧ (booting .verified).sound ∧ (booting .verified).fwUp = false ∧
    { reqTriggerEvents1 with dst := 254 }.dst ≠ 0xFF ∧ { reqTriggerEvents1 with posaddr := true }.posaddr = true ∧
    { reqTriggerEvents1 with hop := 255 }.hop = 255) ∧
    (up.sound ∧ up.fwUp = true ∧ reqTriggerEvents1.hop < 255 ∧ reqTriggerEvents1.posaddr = false ∧ reqTriggerEvents1.dst = 0xFF ∧
    28 ≤ reqTriggerEvents1.payload.length ∧ beAt reqTriggerEvents1.payload 0 1 < 8 ∧
    (∀ (g : Fin 4), up.o (Obj.TG_PUBLISH ↑g) ≠ beAt reqTriggerEvents1.payload 0 1) ∧ (∀ (l : ℕ), (up.chan.getD (beAt
    reqTriggerEvents1.payload 0 1) Channel.reset).lastS = some l → l < beAt reqTriggerEvents1.payload 12 8)) ∧
    (triggerEvents5.sound ∧ triggerEvents5.fwUp = true ∧ (∀ (g : Fin 4), triggerEvents5.o (Obj.TG_PUBLISH ↑g) ≠
    beAt reqTriggerEvents1.payload 0 1) ∧ (triggerEvents5.chan.getD (beAt reqTriggerEvents1.payload 0 1)
    Channel.reset).lastS = some 1 ∧ beAt reqTriggerEvents1.payload 12 8 ≤ 1) ∧
    (triggerEvents6.sound ∧ List.find? (fun q => decide (q.1 ≤ (triggerEvents6.advance 5).time.now))
    (triggerEvents6.trigOut.get 0).pend = some (5, 100) ∧ triggerEvents6.trigOutDrives = true) ∧
    (triggerEvents7.sound ∧ (triggerEvents7.trigOut.get 0).high = true ∧ triggerEvents7.o (Obj.TO_CFG 0) / 64 ≠ 2 ∧
    (triggerEvents7.trigOut.get 0).endAt ≤ (triggerEvents7.advance 5).time.now) := by
  refine ⟨?_, ?_, ?_, ?_, ?_, ?_, ?_, ?_, ?_, ?_, ?_, ?_⟩ <;> decide +kernel

theorem witness_StartsBecomeMarks :
    (startsBecomeMarks1.sound ∧ (startsBecomeMarks1.trig.get 0).queue = [st10] ∧ startsBecomeMarks1.decision 0
    st10.s ≤ (startsBecomeMarks1.advance 10000000).time.now ∧ startsBecomeMarks1.startAllowed 0 st10 = true ∧
    startsBecomeMarks1.clashes (startsBecomeMarks1.fpaSel 0) st10.s = false ∧ (startsBecomeMarks1.therm.inHalf.get 0
    = true → (startsBecomeMarks1.trig.get 0).dropNext = false)) ∧
    (startsBecomeMarks2.sound ∧ (startsBecomeMarks2.trig.get 0).queue = [st10] ∧ startsBecomeMarks2.decision 0
    st10.s ≤ (startsBecomeMarks2.advance 10000000).time.now ∧ startsBecomeMarks2.startAllowed 0 st10 = false ∧
    startsBecomeMarks2.gov 0 (Obj.TRIG_POLICY 0) ≠ 1 ∧
    startsBecomeMarks2.clashes (startsBecomeMarks2.fpaSel 0) st10.s = false) ∧
    (startsBecomeMarks7.sound ∧ (startsBecomeMarks7.trig.get 0).queue = [st10] ∧ startsBecomeMarks7.decision 0
    st10.s ≤ (startsBecomeMarks7.advance 10000000).time.now ∧ startsBecomeMarks7.clashes (startsBecomeMarks7.fpaSel 0) st10.s =
    true ∧ startsBecomeMarks7.gov 0 (Obj.TRIG_POLICY 0) ≠ 1) ∧
    (startsBecomeMarks3.sound ∧ (startsBecomeMarks3.trig.get 0).held = some st10 ∧ (startsBecomeMarks3.trig.get
    0).heldAt = some 10000000 ∧ 10000000 ≤ (startsBecomeMarks3.advance 10000000).time.now + startsBecomeMarks3.ttx
    (startsBecomeMarks3.fpaSel 0) ∧ (startsBecomeMarks3.therm.inHalf.get 0 = true → (startsBecomeMarks3.trig.get
    0).dropNext = false)) ∧
    (startsBecomeMarks4.sound ∧ startsBecomeMarks4.imaging = true ∧ startsBecomeMarks4.firstMark
    (startsBecomeMarks4.fpaSel 0) = some 10000000 ∧ 10000000 ≤ (startsBecomeMarks4.advance 10000000).time.now +
    startsBecomeMarks4.ttx (startsBecomeMarks4.fpaSel 0) ∧ (startsBecomeMarks4.sp0.get (startsBecomeMarks4.fpaSel
    0)).busy = none) ∧
    (startsBecomeMarks5.sound ∧ startsBecomeMarks5.mode ≠ 5 ∧ startsBecomeMarks5.modes.running = none ∧ (startsBecomeMarks5.sp0.get (startsBecomeMarks5.fpaSel
    0)).busy = some markTxn ∧ markTxn.kind = 0 ∧ markTxn.endAt ≤ (startsBecomeMarks5.advance 10000000).time.now ∧
    (0, markWord) ∈ markTxn.words ∧ (markWord.op = 2 ∨ markWord.op = 6) ∧ (startsBecomeMarks5.trig.get 0).marks =
    [(10000000, st10)] ∧ 10000000 / 4 = markTxn.endAt / 4) ∧
    (startsBecomeMarks6.sound ∧ (startsBecomeMarks6.sp0.get 3).busy = some dataTxn ∧ dataTxn.kind ≠ 0 ∧
    dataTxn.endAt ≤ (startsBecomeMarks6.advance 5).time.now ∧ startsBecomeMarks6.modes.running = none) := by
  refine ⟨?_, ?_, ?_, ?_, ?_, ?_, ?_⟩ <;> decide +kernel

theorem witness_OutputLinksAndPause :
    (img.sound ∧ img.outPowered false = true ∧ (img.outPort false).link = false ∧ img.held false =
    false) ∧
    (outputLinksAndPause1.sound ∧ (outputLinksAndPause1.outPort false).link = true) ∧
    (outputLinksAndPause2.sound ∧ (outputLinksAndPause2.outPort false).link = true ∧ (outputLinksAndPause2.outPort
    false).pausedUntil = none ∧ outputLinksAndPause2.ob (Obj.OUT_PAUSE_EN (b2n false)) = true ∧ 65535 % 65536 ≠ 0) ∧
    (outputLinksAndPause3.sound ∧ (outputLinksAndPause3.outPort false).link = true ∧ (outputLinksAndPause3.outPort
    false).pausedUntil = none ∧ outputLinksAndPause3.ob (Obj.OUT_PAUSE_EN (b2n false)) = false) ∧
    (outputLinksAndPause4.sound ∧ (outputLinksAndPause4.outPort false).pausedUntil = some 5 ∧ 5 ≤
    (outputLinksAndPause4.advance 5).time.mono) ∧
    (outputLinksAndPause5.sound ∧ (outputLinksAndPause5.outPort false).pausedUntil = some 200000000 ∧
    (outputLinksAndPause5.outPort false).pauseStart + 100000000 ≤ 200000000 ∧
    (outputLinksAndPause5.outPort false).pauseNotified = false ∧ (outputLinksAndPause5.outPort false).pauseStart +
    100000000 ≤ (outputLinksAndPause5.advance 100000000).time.mono) := by
  refine ⟨?_, ?_, ?_, ?_, ?_, ?_⟩ <;> decide +kernel

theorem witness_ArpAndIcmp :
    (outputLinksAndPause1.sound ∧ (outputLinksAndPause1.outPort false).link = true ∧
    (outputLinksAndPause1.outPort false).pausedUntil = none ∧ outputLinksAndPause1.outIp false ≠ 0) ∧
    (arpAndIcmp1.sound ∧ (arpAndIcmp1.outPort false).link = true ∧ (arpAndIcmp1.outPort false).pausedUntil = none ∧ arpAndIcmp1.arpEntry false 167772162 = some (arp2 none 0 0)) ∧
    ((arp2 none 0 0).mac = none ∧ (arp2 none 0 0).at_ + 1000000000 ≤ (arpAndIcmp1.advance 1000000000).time.mono) ∧
    (arpAndIcmp2.sound ∧ (arpAndIcmp2.outPort false).link = true ∧ (arpAndIcmp2.outPort false).pausedUntil = none ∧ arpAndIcmp2.arpEntry false 167772162 = some (arp2 (some 7) 0 2) ∧ (arp2 (some 7) 0 2).mac.isSome = true
    ∧ (arp2 (some 7) 0 2).at_ + 60000000000 ≤ (arpAndIcmp2.advance 60000000000).time.mono ∧ (arp2 (some 7) 0
    2).unanswered < 3) ∧
    (arpAndIcmp3.sound ∧ (arpAndIcmp3.outPort false).link = true ∧ (arpAndIcmp3.outPort false).pausedUntil = none ∧ arpAndIcmp3.arpEntry false 167772162 = some (arp2 (some 7) 0 3) ∧ (arp2 (some 7) 0 3).mac.isSome = true
    ∧ (arp2 (some 7) 0 3).at_ + 60000000000 ≤ (arpAndIcmp3.advance 60000000000).time.mono ∧ 3 ≤ (arp2 (some 7) 0
    3).unanswered) ∧
    (arpAndIcmp4.sound ∧ (arpAndIcmp4.outPort false).link = true ∧ (arpAndIcmp4.outPort false).pausedUntil = none ∧ arpAndIcmp4.outIp false ≠ 0 ∧ ((arpAndIcmp4.outPort false).icmpAt + 1000000000 ≤ (arpAndIcmp4.advance
    5).time.mono ∨ (arpAndIcmp4.outPort false).icmpN < 100) ∧ arpAndIcmp4.tooLong false (38 + 8976) = false) ∧
    (arpAndIcmp4.outIp false ≠ 0x0A000009) ∧
    (arpAndIcmp4.tooLong false (38 + 8977) = true) ∧
    (arpAndIcmp5.sound ∧ (arpAndIcmp5.outPort false).link = true ∧ (arpAndIcmp5.outPort
    false).pausedUntil = none ∧ (arpAndIcmp5.advance 5).time.mono < (arpAndIcmp5.outPort false).icmpAt + 1000000000 ∧ 100 ≤
    (arpAndIcmp5.outPort false).icmpN) ∧
    (arpAndIcmp4.rxBad false (frame 0x8100 0) true = true ∧ arpAndIcmp4.rxBad false (frame 0x0806 0) false = true ∧
    arpAndIcmp4.rxTaken false (frame 0x88CC 0) = false) := by
  refine ⟨?_, ?_, ?_, ?_, ?_, ?_, ?_, ?_, ?_, ?_⟩ <;> decide +kernel

theorem witness_EgressSendsIngots :
    (egressSendsIngots1.sound ∧ egressSendsIngots1.outSends false = true ∧ (egressSendsIngots1.outPort
    false).pausedUntil = none ∧ (egressSendsIngots1.outPort false).sending = none ∧ egressSendsIngots1.nextIngot
    false = some (0, 0) ∧ egressSendsIngots1.routed false (egressSendsIngots1.slot 0 0).dst = true) ∧
    (egressSendsIngots2.sound ∧ egressSendsIngots2.outSends false = true ∧ (egressSendsIngots2.outPort
    false).pausedUntil = none ∧ (egressSendsIngots2.outPort false).sending = none ∧ egressSendsIngots2.nextIngot
    false = some (0, 0) ∧ egressSendsIngots2.routed false (egressSendsIngots2.slot 0 0).dst = false) ∧
    (egressSendsIngots3.sound ∧ egressSendsIngots3.outSends false = true ∧ (egressSendsIngots3.outPort
    false).pausedUntil = none ∧ (egressSendsIngots3.outPort false).sending = some (0, 0, 0, 0) ∧
    (egressSendsIngots3.outPort false).fifo = [zs 64] ∧ (egressSendsIngots3.slot 0 0).lens.length ≤ 0 + 1) ∧
    (egressSendsIngots4.sound ∧ (egressSendsIngots4.outPort false).fifo = [zs 64] ∧ 0 + 1 < (egressSendsIngots4.slot 0
    0).lens.length ∧ (egressSendsIngots4.outPort false).sending = some (0, 0, 0, 0)) := by
  refine ⟨?_, ?_, ?_, ?_⟩ <;> decide +kernel

theorem witness_ChainPortsForward :
    (up.sound ∧ up.alive = true) ∧
    ((up.advance 200000).chainUp = true ∧ up.extest = false ∧ (up.port false).link = true ∧ (frame 34997 254).length ≤ 1514 ∧ frameType (frame 34997 254) ≠
    34824 ∧ (up.port !false).link = true ∧ frameType (frame 34997 254) = up.chain.etherInForce ∧ beAt (frame 34997
    254) 17 1 ≠ 255) ∧
    ((frame 34997 255).length ≤ 1514 ∧ frameType (frame 34997 255) ≠ 34824 ∧ frameType (frame 34997 255) =
    up.chain.etherInForce ∧ beAt (frame 34997 255) 17 1 = 255) ∧
    ((up.port true).link = true ∧ (frame 2048 0).length ≤ 1514 ∧ frameType (frame 2048 0) ≠ 34824 ∧ (up.port
    !true).link = true ∧ frameType (frame 2048 0) ≠ up.chain.etherInForce ∧ frameType (frame 2048 0) ≠ 35063) ∧
    ((frame 35063 0).length ≤ 1514 ∧ frameType (frame 35063 0) ≠ 34824 ∧ frameType (frame 35063 0) ≠
    up.chain.etherInForce ∧ frameType (frame 35063 0) = 35063) ∧
    (Obj.CHAIN_CNT_STOMPED (b2n true) = (if true then Obj.CHAIN_CNT_STOMPED (b2n true) else Obj.CHAIN_CNT_FCS (b2n true)) ∧
    ¬ (frameType (frame 2048 0) = up.chain.etherInForce ∧ beAt (frame 2048 0) 17 1 = 255)) ∧
    (up.linkOf false true true true = true ∧ up.linkOf true false true true = false) ∧
    ((chainPortsForward1.advance 200000).chainUp = true ∧ chainPortsForward1.sound ∧ chainPortsForward1.alive = true ∧ chainPortsForward1.extest = false ∧
    (chainPortsForward1.port false).link = true ∧ (chainPortsForward1.port !false).link = false ∧ frameType (frame
    2048 0) ≠ chainPortsForward1.chain.etherInForce) := by
  refine ⟨?_, ?_, ?_, ?_, ?_, ?_, ?_, ?_⟩ <;> decide +kernel

theorem witness_ChainReadsAreAnswered :
    (up.sound ∧ up.hears reqChainReadsAreAnswered1 DstKind.unicast 12 ∧ Obj.readable (reqKey
    reqChainReadsAreAnswered1) = Except.ok (rowOf Obj.TIME_SOURCE) ∧ (rowOf Obj.TIME_SOURCE).ty.scalar = true ∧ beAt
    reqChainReadsAreAnswered1.payload 4 4 = 0) ∧
    (up.hears reqChainReadsAreAnswered2 DstKind.unicast 12 ∧ Obj.readable (reqKey reqChainReadsAreAnswered2) =
    Except.error Abort.writeOnly) ∧
    (up.hears reqChainReadsAreAnswered3 DstKind.unicast 4 ∧ Obj.indexExists (beAt reqChainReadsAreAnswered3.payload
    0 2) = true ∧ beAt reqChainReadsAreAnswered3.payload 3 1 ≠ 0 ∧ (∀ k ∈ List.take (beAt
    reqChainReadsAreAnswered3.payload 3 1) (subsFrom (beAt reqChainReadsAreAnswered3.payload 0 2) (beAt
    reqChainReadsAreAnswered3.payload 2 1)), Obj.readable (beAt reqChainReadsAreAnswered3.payload 0 2 * 256 + k) =
    Except.ok (rowOf (beAt reqChainReadsAreAnswered3.payload 0 2 * 256 + k)))) ∧
    (up.hears reqChainReadsAreAnswered4 DstKind.unicast 4 ∧ Obj.indexExists (beAt reqChainReadsAreAnswered4.payload
    0 2) = false) := by
  refine ⟨?_, ?_, ?_, ?_⟩ <;> decide +kernel

theorem witness_WritesReachTheirObjects :
    (up.sound ∧ Obj.find Obj.TIME_PTP_DOMAIN = Except.ok (rowOf Obj.TIME_PTP_DOMAIN) ∧ (rowOf
    Obj.TIME_PTP_DOMAIN).ty.scalar = true ∧ (rowOf Obj.TIME_PTP_DOMAIN).acc = Acc.rw ∧ State.commandOf Via.host
    Obj.TIME_PTP_DOMAIN 7 = none ∧ up.admits Via.host (rowOf Obj.TIME_PTP_DOMAIN).lvl 5 ∧ 7 < 256 ^ (rowOf
    Obj.TIME_PTP_DOMAIN).ty.size ∧ State.put Via.host Obj.TIME_PTP_DOMAIN (Written.scalar (rowOf
    Obj.TIME_PTP_DOMAIN).ty 7) (toWrite up Obj.TIME_PTP_DOMAIN true) = Except.ok (got (State.put Via.host Obj.TIME_PTP_DOMAIN
    (Written.scalar ObjTy.u8 7) (toWrite up Obj.TIME_PTP_DOMAIN true)))) ∧
    (Obj.find Obj.TIME_SOURCE = Except.ok (rowOf Obj.TIME_SOURCE) ∧ (rowOf Obj.TIME_SOURCE).ty.scalar = true ∧
    (rowOf Obj.TIME_SOURCE).acc = Acc.rw ∧ State.commandOf Via.host Obj.TIME_SOURCE 255 = none ∧ up.admits Via.host
    (rowOf Obj.TIME_SOURCE).lvl 5 ∧ 255 < 256 ^ (rowOf Obj.TIME_SOURCE).ty.size ∧ State.put Via.host Obj.TIME_SOURCE
    (Written.scalar (rowOf Obj.TIME_SOURCE).ty 255) (toWrite up Obj.TIME_SOURCE true) = Except.error (code (State.put Via.host
    Obj.TIME_SOURCE (Written.scalar ObjTy.u8 255) (toWrite up Obj.TIME_SOURCE true)))) ∧
    (keptAddr Obj.TIME_PTP_DOMAIN = none) ∧
    (keptAddr (Obj.CHAIN_IF 0) ≠ none ∧ Obj.find (Obj.CHAIN_IF 0) = Except.ok (rowOf (Obj.CHAIN_IF 0)) ∧ (rowOf
    (Obj.CHAIN_IF 0)).acc = Acc.rw ∧ up.admits Via.host (rowOf (Obj.CHAIN_IF 0)).lvl 5 ∧ State.commandOf Via.host (Obj.CHAIN_IF 0) 1 =
    none ∧ State.put Via.host (Obj.CHAIN_IF 0) (Written.scalar (rowOf (Obj.CHAIN_IF 0)).ty 1) (toWrite up (Obj.CHAIN_IF 0) true) = Except.ok
    (got (State.put Via.host (Obj.CHAIN_IF 0) (Written.scalar ObjTy.u8 1) (toWrite up (Obj.CHAIN_IF 0) true))) ∧ State.put Via.host
    (Obj.CHAIN_IF 0) (Written.scalar (rowOf (Obj.CHAIN_IF 0)).ty 1) (toWrite up (Obj.CHAIN_IF 0) false) = Except.error Abort.nv) ∧
    (up.hears reqWritesReachTheirObjects1 DstKind.anyDst (12 + (rowOf Obj.TIME_PTP_DOMAIN).ty.size) ∧ (rowOf
    Obj.TIME_PTP_DOMAIN).ty.scalar = true ∧ up.fresh reqWritesReachTheirObjects1 2 ∧ Obj.find
    (reqKey reqWritesReachTheirObjects1) = Except.ok (rowOf Obj.TIME_PTP_DOMAIN) ∧ (rowOf Obj.TIME_PTP_DOMAIN).acc ≠
    Acc.ro ∧ (rowOf Obj.TIME_PTP_DOMAIN).lvl ≤ (up.heard reqWritesReachTheirObjects1).reqLevel
    reqWritesReachTheirObjects1 ∧ beAt reqWritesReachTheirObjects1.payload 3 1 % 2 = 1 ∧ beAt
    reqWritesReachTheirObjects1.payload 8 2 = (rowOf Obj.TIME_PTP_DOMAIN).ty.size ∧ beAt
    reqWritesReachTheirObjects1.payload 4 4 = 0 ∧ State.objWrite (Via.chain reqWritesReachTheirObjects1.session)
    (reqKey reqWritesReachTheirObjects1) (Written.ofBytes (slice reqWritesReachTheirObjects1.payload 12 (rowOf
    Obj.TIME_PTP_DOMAIN).ty.size)) (up.heard reqWritesReachTheirObjects1) = Except.ok (got (State.objWrite
    (Via.chain 1) Obj.TIME_PTP_DOMAIN (Written.ofBytes [7]) (up.heard reqWritesReachTheirObjects1)))) ∧
    (writesReachTheirObjects1.sound ∧ writesReachTheirObjects1.chain.staging = some staged ∧ staged.lastAt +
    1000000000 ≤ (writesReachTheirObjects1.advance 1000000000).time.mono) ∧
    (1 ≤ 126 ∧ 126 ≤ 127 ∧ up.admits Via.host 2 5 ∧ up.nv.closed = false ∧ State.put Via.host Obj.CHAIN_STATION
    (Written.scalar ObjTy.u8 126) (toWrite up Obj.CHAIN_STATION true) = Except.ok (got (State.put Via.host Obj.CHAIN_STATION
    (Written.scalar ObjTy.u8 126) (toWrite up Obj.CHAIN_STATION true)))) ∧
    (expertFunctions.contains 32 = true ∧ expertBit 32 = some 0) ∧
    (expertFunctions.contains 54 = true ∧ expertBit 54 = some 22) ∧
    (255 < 256 ∧ writesReachTheirObjects3.sound ∧ writesReachTheirObjects3.admits Via.host 2 5 ∧ writesReachTheirObjects3.mode =
    0 ∧ writesReachTheirObjects3.o Obj.LEASE_STATE ≠ 1 ∧ writesReachTheirObjects3.nv.closed = false) ∧
    (writesReachTheirObjects2.sound ∧ 1 < 2 ∧ writesReachTheirObjects2.admits Via.host 2 5 ∧
    writesReachTheirObjects2.mode = 4 ∧ writesReachTheirObjects2.o Obj.POS_ENABLE = 0 ∧ State.put Via.host
    Obj.SP0_SLAVE (Written.scalar ObjTy.bool 1) ((writesReachTheirObjects2.advance 5).writeOf .host) = Except.ok (got (State.put
    Via.host Obj.SP0_SLAVE (Written.scalar ObjTy.bool 1) ((writesReachTheirObjects2.advance 5).writeOf .host)))) := by
  refine ⟨?_, ?_, ?_, ?_, ?_, ?_, ?_, ?_, ?_, ?_, ?_⟩ <;> decide +kernel

theorem witness_RoleLeases :
    (up.sound ∧ up.hears reqRoleLeases1 DstKind.unicast 8 ∧ up.fresh reqRoleLeases1 48 ∧ (1 ≤ (up.heard
    reqRoleLeases1).reqLevel reqRoleLeases1 ∧ up.o Obj.CHAIN_STATION ≠ 127 ∧ 1 ≤ beAt reqRoleLeases1.payload 1 1 ∧
    beAt reqRoleLeases1.payload 1 1 ≤ 100 ∧ 2 ≤ beAt reqRoleLeases1.payload 2 1 ∧ beAt reqRoleLeases1.payload 2 1 ≤
    16 ∧ beAt reqRoleLeases1.payload 0 1 ≠ 255 ∧ up.o Obj.LEASE_EPOCH < beAt reqRoleLeases1.payload 4 4 ∧
    up.nv.closed = false ∧ true = true)) ∧
    (up.hears reqRoleLeases2 DstKind.unicast 8 ∧ up.fresh reqRoleLeases2 48 ∧ (1 ≤ (up.heard
    reqRoleLeases2).reqLevel reqRoleLeases2 ∧ up.o Obj.CHAIN_STATION ≠ 127 ∧ 1 ≤ beAt reqRoleLeases2.payload 1 1 ∧
    beAt reqRoleLeases2.payload 1 1 ≤ 100 ∧ 2 ≤ beAt reqRoleLeases2.payload 2 1 ∧ beAt reqRoleLeases2.payload 2 1 ≤
    16 ∧ beAt reqRoleLeases2.payload 0 1 ≠ 255 ∧ up.o Obj.LEASE_EPOCH < beAt reqRoleLeases2.payload 4 4 ∧
    up.nv.closed = false ∧ true = true)) ∧
    (up.hears reqRoleLeases3 DstKind.unicast 8 ∧ up.fresh reqRoleLeases3 48 ∧ ((up.heard reqRoleLeases3).pageIs Keep.lease 32 true).grantResult
    ((up.heard reqRoleLeases3).reqLevel reqRoleLeases3) (beAt reqRoleLeases3.payload 0 1) (beAt
    reqRoleLeases3.payload 1 1) (beAt reqRoleLeases3.payload 2 1) (beAt reqRoleLeases3.payload 4 4) ≠ 0) ∧
    (leased.sound ∧ leased.hears reqRoleLeases4 DstKind.broadcast 8 ∧ reqRoleLeases4.payload.length = 16 ∧ beAt
    reqRoleLeases4.payload 4 1 = 1 ∧ beAt reqRoleLeases4.payload 9 1 = leased.o Obj.CHAIN_STATION ∧ beAt
    reqRoleLeases4.payload 8 1 = leased.o Obj.LEASE_ROLE ∧ beAt reqRoleLeases4.payload 12 4 = leased.o
    Obj.LEASE_EPOCH ∧ leased.o Obj.LEASE_STATE = 1 ∧ (leased.advance reqRoleLeases4.t).time.mono <
    leased.leaseExpiry) ∧
    (leased.leaseExpiry ≤ (leased.advance 1000000000000).time.mono) ∧
    (leased.hears reqRoleLeases5 DstKind.broadcast 8 ∧ beAt reqRoleLeases5.payload 0 1 ≠ 0 ∧ beAt
    reqRoleLeases5.payload 0 1 = leased.o Obj.LEASE_ROLE ∧ leased.o Obj.LEASE_EPOCH < beAt reqRoleLeases5.payload 4
    4 ∧ beAt reqRoleLeases5.payload 1 1 ≠ leased.o Obj.CHAIN_STATION ∧ (leased.o Obj.LEASE_STATE = 1 ∨ leased.o
    Obj.LEASE_STATE = 2) ∧ (leased.mode = 0 ∧ leased.modes.running = none ∨ leased.mode = 5)) ∧
    (roleLeases1.sound ∧ roleLeases1.chain.leaseRetry = true ∧ roleLeases1.fwUp = true ∧ roleLeases1.nv.closed =
    false ∧ roleLeases1.o Obj.LEASE_ROLE < 256 ∧ roleLeases1.o Obj.LEASE_EPOCH < 2 ^ 32) := by
  refine ⟨?_, ?_, ?_, ?_, ?_, ?_, ?_⟩ <;> decide +kernel

theorem witness_Bar0Words :
    (up.sound ∧ up.host.link = true ∧ up.host.d3hot = false ∧ up.serving = true ∧ (65536 + 16 * (Obj.TIME_SOURCE /
    256 - 4096)) % 4 = 0 ∧ up.slotAt (65536 + 16 * (Obj.TIME_SOURCE / 256 - 4096)) = Slot.key Obj.TIME_SOURCE ∧
    Obj.readable Obj.TIME_SOURCE = Except.ok (rowOf Obj.TIME_SOURCE) ∧ (rowOf Obj.TIME_SOURCE).ty.scalar = true) ∧
    (bar0Words1.sound ∧ bar0Words1.host.link = true ∧ bar0Words1.host.d3hot = false ∧ bar0Words1.serving = true ∧
    (65536 + 16 * (Obj.TIME_NOW / 256 - 4096) + 4) % 4 = 0 ∧ bar0Words1.slotAt (65536 + 16 * (Obj.TIME_NOW / 256 -
    4096) + 4) = Slot.upper Obj.TIME_NOW ∧ Obj.readable Obj.TIME_NOW = Except.ok (rowOf Obj.TIME_NOW) ∧
    bar0Words1.bar0.latch = some (Obj.TIME_NOW, 9)) ∧
    ((65536 + 16 * (Obj.TIME_SET / 256 - 4096)) % 4 = 0 ∧ up.slotAt (65536 + 16 * (Obj.TIME_SET / 256 - 4096)) =
    Slot.key Obj.TIME_SET ∧ Obj.find Obj.TIME_SET = Except.ok (rowOf Obj.TIME_SET) ∧ (rowOf Obj.TIME_SET).ty =
    ObjTy.u64 ∧ up.bar0.held = none) ∧
    ((4 ≠ 4 ∨ 0 % 4 ≠ 0 ∨ up.slotAt 0 = Slot.nothing)) ∧
    ((2 ≠ 4 ∨ 65536 % 4 ≠ 0 ∨ up.slotAt 65536 = Slot.nothing)) ∧
    (bar0Words5.sound ∧ bar0Words5.host.link = true ∧ bar0Words5.host.d3hot = false ∧ bar0Words5.serving = true ∧ Obj.NV_USER_DATA =
    bar0Words5.o Obj.BAR0_DOM_SEL ∧ bar0Words5.bar0.busy = none ∧ Obj.readable Obj.NV_USER_DATA = .ok (rowOf Obj.NV_USER_DATA) ∧
    (rowOf Obj.NV_USER_DATA).ty.scalar = false ∧ ((bar0Words5.found .host 5).readBlob .host Obj.NV_USER_DATA 0 8192).2.2 ≤ 8192) ∧
    (Obj.find Obj.NV_USER_DATA = .ok (rowOf Obj.NV_USER_DATA) ∧ State.writeBlob .host Obj.NV_USER_DATA ((bar0Words5.found .host
    5).staged (bar0Words5.o Obj.BAR0_DOM_LEN)) (bar0Words5.found .host 5) = .ok (got (State.writeBlob .host Obj.NV_USER_DATA (zs 4)
    (bar0Words5.found .host 5)))) ∧
    ((up.found .host 5).domRead = .error (code (up.found .host 5).domRead) ∧
    (up.found .host 5).domWrite = .error (code (up.found .host 5).domWrite)) ∧
    ((1, Instr.bar0DomCmdRead Via.host 5) ∈ [(1, Instr.bar0DomCmdRead Via.host 5), (2, Instr.bar0DomCmdWrite
    Via.host 5)] ∧ up.bar0.busy = none) ∧
    ((2, Instr.bar0DomCmdWrite Via.host 5) ∈ [(1, Instr.bar0DomCmdRead Via.host 5), (2, Instr.bar0DomCmdWrite
    Via.host 5)]) ∧
    (15 < 16 ∧ bar0Words3.sound ∧ bar0Words3.host.link = true ∧ bar0Words3.host.d3hot = false ∧ bar0Words3.serving = true ∧
    bar0Words3.host.latch = some (15, 9)) ∧
    (0x1400 % 4 = 0 ∧ bar4Has 0x1400 = false ∧ Instr.bar0UpperWrite .bar4 0x1400 1 5 ∈ [Instr.bar0DroppedWrite .bar4 0x1400 4 5,
    .bar0UpperWrite .bar4 0x1400 1 5, .bar0LowWrite .bar4 0x1400 1 5]) ∧
    (bar0Words4.sound ∧ bar0Words4.host.link = true ∧ bar0Words4.host.d3hot = false ∧ bar0Words4.serving = true ∧ bar0Words4.slotAt
    (65536 + 16 * (Obj.ENC_PRESET 0 / 256 - 4096) + 8) = Slot.upper (Obj.ENC_PRESET 0) ∧ bar0Words4.bar0.held = some (Obj.ENC_PRESET 0, 7) ∧
    State.objWrite .host (Obj.ENC_PRESET 0) (Written.slot .u64 (1 % 2 ^ 32 * 2 ^ 32 + 7)) ({ (bar0Words4.advance 5).touch .host with bar0 :=
    { bar0Words4.bar0 with held := none } } : State) = .ok (got (State.objWrite .host (Obj.ENC_PRESET 0) (Written.slot .u64
    (2 ^ 32 + 7)) ({ (bar0Words4.advance 5).touch .host with bar0 := { bar0Words4.bar0 with held := none } } : State)))) ∧
    (bar0Words2.sound ∧ bar0Words2.host.link = true ∧ bar0Words2.host.d3hot = false ∧ bar0Words2.serving = true ∧
    bar0Words2.bar0.busy = some (1, true)) := by
  refine ⟨?_, ?_, ?_, ?_, ?_, ?_, ?_, ?_, ?_, ?_, ?_, ?_, ?_, ?_⟩ <;> decide +kernel

theorem witness_HostLinkComesAndGoes :
    (img.sound ∧ img.host.enabled = true ∧ img.hostActive = true ∧ linkShape 4 4 = true) ∧
    (img.host.perstN = true ∧ linkShape 1 1 = true) ∧
    (hostLinkComesAndGoes1.sound ∧ hostLinkComesAndGoes1.host.enabled = false) ∧
    (img.host.link = true) := by
  refine ⟨?_, ?_, ?_, ?_⟩ <;> decide +kernel

theorem witness_FunctionResetAndPowerStates :
    (img.sound ∧ img.host.link = true) ∧
    (img.host.d3hot = false) ∧
    (31 < 32) := by
  refine ⟨?_, ?_, ?_⟩ <;> decide +kernel

theorem witness_HostWritesFrameMemory :
    (img.sound ∧ img.host.link = true ∧ img.host.d3hot = false ∧ 2684354560 + (zs 4).length ≤ 2 ^ 33 ∧
    img.mem.online = true ∧ img.hostWritable 2684354560 (zs 4).length = true) ∧
    (8589934588 + (zs 4).length ≤ 2 ^ 33 ∧ img.hostWritable 8589934588 (zs 4).length = true) ∧
    (0 + (zs 4).length ≤ 2 ^ 33 ∧ img.hostWritable 0 (zs 4).length = false) ∧
    (up.sound ∧ up.host.link = true ∧ up.host.d3hot = false ∧ up.mem.online = false) ∧
    (img.mem.refreshAt + 32000000 ≤ (img.advance 32000000).time.mono) := by
  refine ⟨?_, ?_, ?_, ?_, ?_⟩ <;> decide +kernel

theorem witness_DmaChannelControl :
    (img.sound ∧ img.host.link = true ∧ img.host.d3hot = false ∧ 15 < 16) ∧
    (dmaChannelControl1.sound ∧ dmaChannelControl1.host.link = true ∧ dmaChannelControl1.host.d3hot = false ∧ 3 < 16
    ∧ dmaChannelControl1.dmaRuns = true ∧ (dmaChannelControl1.chState 3 = 0 ∨ dmaChannelControl1.chState 3 = 4 ∨
    dmaChannelControl1.chState 3 = 5)) ∧
    (dmaChannelControl2.sound ∧ dmaChannelControl2.host.link = true ∧ dmaChannelControl2.host.d3hot = false ∧
    dmaChannelControl2.dmaRuns = true ∧ (dmaChannelControl2.chState 3 = 0 ∨ dmaChannelControl2.chState 3 = 4 ∨
    dmaChannelControl2.chState 3 = 5)) ∧
    (dmaChannelControl3.sound ∧ dmaChannelControl3.host.link = true ∧ dmaChannelControl3.host.d3hot = false ∧ 1 ≤
    dmaChannelControl3.chState 3 ∧ dmaChannelControl3.chState 3 ≤ 3 ∧ (dmaChannelControl3.ch 3).cur = none) ∧
    (dmaChannelControl4.sound ∧ dmaChannelControl4.host.link = true ∧ dmaChannelControl4.host.d3hot = false ∧ 1 ≤
    dmaChannelControl4.chState 3 ∧ dmaChannelControl4.chState 3 ≤ 3 ∧ (dmaChannelControl4.ch 3).cur = none) ∧
    (dmaChannelControl5.sound ∧ dmaChannelControl5.host.link = true ∧ dmaChannelControl5.host.d3hot = false ∧ 1 ≤
    dmaChannelControl5.chState 3 ∧ dmaChannelControl5.chState 3 ≤ 3 ∧ (dmaChannelControl5.ch 3).cur = some dr) ∧
    (dmaChannelControl6.sound ∧ dmaChannelControl6.host.link = true ∧ dmaChannelControl6.host.d3hot = false ∧ 1 ≤
    dmaChannelControl6.chState 3 ∧ dmaChannelControl6.chState 3 ≤ 3 ∧ (dmaChannelControl6.ch 3).cur = some dr) ∧
    (dmaChannelControl7.sound ∧ dmaChannelControl7.host.link = true ∧ dmaChannelControl7.host.d3hot = false ∧
    fieldOf (dmaChannelControl7.o (Obj.DMA_CFG 3)) 4 0 = 31) ∧
    (16 ≤ 16 ∧ Instr.dmaCtrlStop 16 5 ∈ [Instr.dmaTailDoorbell 16 1 5, .dmaCtrlRun 16 5, .dmaCtrlStop 16 5, .dmaCtrlAbort 16 5,
    .dmaCtrlSoftReq 16 5]) := by
  refine ⟨?_, ?_, ?_, ?_, ?_, ?_, ?_, ?_, ?_⟩ <;> decide +kernel

theorem witness_DmaDescriptorsRun :
    (dmaDescriptorsRun1.sound ∧ 3 < 16 ∧ (dmaDescriptorsRun1.chState 3 = 1 ∨ dmaDescriptorsRun1.chState 3 = 2) ∧
    (dmaDescriptorsRun1.ch 3).cur = none ∧ (dmaDescriptorsRun1.ch 3).head ≠ (dmaDescriptorsRun1.ch 3).tail ∧
    dmaDescriptorsRun1.host.link = true) ∧
    (dmaDescriptorsRun2.sound ∧ (dmaDescriptorsRun2.ch 3).cur = some dr ∧ (dmaDescriptorsRun2.advance 5).nextBurst =
    some 3 ∧ dmaDescriptorsRun2.host.link = true ∧ (true = true ∨ bitAt dr.desc.flags 0 = true) ∧ bitAt dr.desc.flags 0 = false) ∧
    (dmaDescriptorsRun3.sound ∧ (dmaDescriptorsRun3.ch 3).cur = some drEnd ∧ drEnd.ending = true) ∧
    (dmaDescriptorsRun4.sound ∧ (dmaDescriptorsRun4.ch 3).cur = some dr ∧ dmaDescriptorsRun4.mode = Mode.standby ∧
    dmaDescriptorsRun4.modes.since + 10000000 ≤ (dmaDescriptorsRun4.advance 10000000).time.now) := by
  refine ⟨?_, ?_, ?_, ?_⟩ <;> decide +kernel

theorem witness_KeysAndLifecycle :
    (keyed.sound ∧ keyed.mode = 0 ∧ 36000 ≤ keyed.pwr.vin ∧ (1 = 1 ∧ keyed.lifecycle = 0 ∧ keyed.hasL2 = true ∧
    keyed.admits Via.host 2 5 ∨ 1 = 2 ∧ keyed.lifecycle = 1 ∧ keyed.hasL2 = true ∧ keyed.admits Via.host 2 5 ∨ 1 = 3 ∧
    (keyed.lifecycle = 0 ∨ keyed.lifecycle = 1) ∧ keyed.admits Via.host 3 5)) ∧
    ((3 = 1 ∧ keyed.lifecycle = 0 ∧ keyed.hasL2 = true ∧ keyed.admits (Via.chain 1) 2 5 ∨ 3 = 2 ∧ keyed.lifecycle = 1
    ∧ keyed.hasL2 = true ∧ keyed.admits (Via.chain 1) 2 5 ∨ 3 = 3 ∧ (keyed.lifecycle = 0 ∨ keyed.lifecycle = 1) ∧
    keyed.admits (Via.chain 1) 3 5)) ∧
    (up.sound ∧ up.admits Via.host 2 5 ∧ up.nv.closed = false ∧ ([5, 2, 0, 0] ++ zs 32).length = 36 ∧ leAt ([5, 2, 0,
    0] ++ zs 32) 0 1 ≤ 5 ∧ 1 ≤ leAt ([5, 2, 0, 0] ++ zs 32) 1 1 ∧ leAt ([5, 2, 0, 0] ++ zs 32) 1 1 ≤ 2) ∧
    (5 ≤ 5) ∧
    ((zs 32).length = 32) ∧
    ((zs 48).length = 48) ∧
    (255 < 256 ∧ up.boot.svn < 2 ^ 32) ∧
    ((∀ k, k ≤ 5 → keyed.wornAt (Keep.key k) 64 = false ∧ up.wornAt (Keep.key k) 64 = false) ∧
    up.wornAt Keep.archiveKey 64 = false ∧ up.wornAt Keep.tokenKey 64 = false ∧ up.wornAt Keep.arb 32 = false) ∧
    (wornKey.sound ∧ wornKey.admits Via.host 2 5 ∧ wornKey.nv.closed = false ∧ wornKey.wornAt (Keep.key 5) 64 = true) := by
  refine ⟨?_, ?_, ?_, ?_, ?_, ?_, ?_, ?_, ?_⟩ <;> decide +kernel

theorem witness_SessionsAreProven :
    (up.sound ∧ up.hears reqSessionsAreProven1 DstKind.unicast 36 ∧ up.fresh reqSessionsAreProven1 80 ∧ leAt
    reqSessionsAreProven1.payload 0 1 = 1 ∧ reqSessionsAreProven1.session ≠ 0 ∧ (up.heard
    reqSessionsAreProven1).lockedOut (b2n reqSessionsAreProven1.portB) = false) ∧
    (sessionsAreProven1.sound ∧ sessionsAreProven1.hears reqSessionsAreProven2 DstKind.unicast 36 ∧
    sessionsAreProven1.fresh reqSessionsAreProven2 80 ∧ leAt reqSessionsAreProven2.payload 0 1 = 3 ∧ List.find? (fun
    y => y.id == reqSessionsAreProven2.session) (sessionsAreProven1.heard reqSessionsAreProven2).chain.challenges =
    some chal ∧ (sessionsAreProven1.heard reqSessionsAreProven2).time.mono ≤ chal.at_ + 1000000000 ∧
    (sessionsAreProven1.heard reqSessionsAreProven2).proveOk chal.id chal.level chal.keySlot chal.masterNonce
    chal.nonce (slice reqSessionsAreProven2.payload 4 32) = true) ∧
    (up.hears reqSessionsAreProven3 DstKind.unicast 36 ∧ up.fresh reqSessionsAreProven3 80 ∧ leAt
    reqSessionsAreProven3.payload 0 1 = 5) ∧
    ((up.advance 600000000000).chainIdle 1 = true) ∧
    ((up.advance 600000000000).hostIdle 4294967295 = true) ∧
    ((up.advance 599999999999).hostIdle 1 = false ∧ (up.advance 599999999999).chainIdle 1 = false ∧
    (up.advance 599999999999).hostIdle 4294967295 = false ∧ (up.advance 599999999999).chainIdle 4294967295 = false) ∧
    (sessionsAreProven2.sound ∧ sessionsAreProven2.authLock 0 = some 5 ∧ 5 ≤ (sessionsAreProven2.advance
    5).time.mono) ∧
    (up.admits Via.host 0 5 ∧ (zs 20).length = 20 ∧ (up.advance 5).lockedOut 2 = false) ∧
    (sessionsAreProven3.sound ∧ sessionsAreProven3.admits Via.host 0 1000000000 ∧ (hmac256 (zs 32) (macFields "KTA1" 4294967295
    3 6 (zs 16) (zs 16))).length = 32 ∧ sessionsAreProven3.host.challenge = some (3, 6, zs 16, zs 16, 0) ∧
    (sessionsAreProven3.advance 1000000000).time.mono ≤ 0 + 1000000000 ∧ sessionsAreProven3.proveOk 4294967295 3 6
    (zs 16) (zs 16) (hmac256 (zs 32) (macFields "KTA1" 4294967295 3 6 (zs 16) (zs 16))) = true) ∧
    (sessionsAreProven3.admits Via.host 0 1000000001 ∧ (zs 32).length = 32 ∧ (0 + 1000000000 < (sessionsAreProven3.advance 1000000001).time.mono ∨
    sessionsAreProven3.proveOk 4294967295 3 6 (zs 16) (zs 16) (zs 32) = false)) ∧
    (255 < 256) := by
  refine ⟨?_, ?_, ?_, ?_, ?_, ?_, ?_, ?_, ?_, ?_, ?_⟩ <;> decide +kernel

theorem witness_DebugUnderItsGrade :
    (up.sound ∧ up.admits Via.host 2 5 ∧ (zs 232).length = 232 ∧ up.dbg.verifying = none) ∧
    (debugUnderItsGrade1.sound ∧ debugUnderItsGrade1.dbg.verifying = some (zs 232) ∧ debugUnderItsGrade1.fwUp = true
    ∧ (debugUnderItsGrade1.advance 5).tokenCheck (zs 232) ≠ 0) ∧
    (debugUnderItsGrade2.sound ∧ debugUnderItsGrade2.dbg.verifying = some tok1 ∧ debugUnderItsGrade2.fwUp = true ∧
    (debugUnderItsGrade2.advance 5).tokenCheck tok1 = 0 ∧ leAt tok1 5 1 = 1) ∧
    (debugUnderItsGrade3.sound ∧ debugUnderItsGrade3.dbg.verifying = some tok2 ∧ debugUnderItsGrade3.fwUp = true ∧
    (debugUnderItsGrade3.advance 5).tokenCheck tok2 = 0 ∧ leAt tok2 5 1 = 2 ∧ debugUnderItsGrade3.nv.closed = false ∧
    ∀ k, k ≤ 5 → debugUnderItsGrade3.wornAt (Keep.key k) 64 = false) ∧
    (debugUnderItsGrade4.sound ∧ debugUnderItsGrade4.admits Via.host 2 5 ∧ debugUnderItsGrade4.lifecycle = 1 ∧ 2 ≤ 2) ∧
    (up.admits Via.host 1 5 ∧ 255 < 256) ∧
    (up.tapUp = true ∧ up.scanPermitted = true ∧ (up.mode = 0 ∨ up.mode = 5)) ∧
    (img.sound ∧ img.tapUp = true ∧ (Instr.tapExtest [1] [0] 5 = Instr.tapSamplePreload [1] [0] 5 ∧
    img.scanPermitted = false ∨ Instr.tapExtest [1] [0] 5 = Instr.tapBypass [0].length 5 ∨ Instr.tapExtest [1] [0] 5
    = Instr.tapExtest [1] [0] 5 ∧ (img.scanPermitted = false ∨ img.mode ≠ 0 ∧ img.mode ≠ 5))) ∧
    (up.fwUp = true) ∧
    (up.grade ≠ 0) ∧
    (img.grade ≠ 0 ∧ img.grade = 2 ∧ img.holdable 0 = true) ∧
    (debugUnderItsGrade4.tapUp = true ∧ debugUnderItsGrade4.grade = 0) ∧
    (debugUnderItsGrade5.sound ∧ debugUnderItsGrade5.fwUp = true ∧ debugUnderItsGrade5.grade = 2 ∧
    debugUnderItsGrade5.mode = 4 ∧ debugUnderItsGrade5.modes.armed = none) := by
  refine ⟨?_, ?_, ?_, ?_, ?_, ?_, ?_, ?_, ?_, ?_, ?_, ?_, ?_⟩ <;> decide +kernel

theorem witness_KeepArrayWrites :
    (0x80000 ≤ 0x80000) ∧
    (up.sound ∧ 0 < 0x80000 ∧ up.boot.phase ≠ BootPhase.off ∧ up.boot.phase ≠ BootPhase.reset ∧ up.nv.closed = false ∧
    (∀ i, i < (zs 257).length → up.keepTakes false 0 (0 / 256 * 256 + (0 + i) % 256) = true) ∧ 1 < 2) ∧
    (0x7FFFF < 0x80000 ∧ (∀ i, i < [7].length → up.keepTakes true 0x7FFFF (0x7FFFF / 256 * 256 + (0x7FFFF + i) % 256) = true) ∧
    0 < 2) ∧
    (0 < [7].length ∧ up.keepTakes false 0x7FFFF (0x7FFFF / 256 * 256 + (0x7FFFF + 0) % 256) = false) ∧
    (0 < [7].length ∧ up.keepTakes true 0x7FFFF (0x7FFFF / 256 * 256 + (0x7FFFF + 0) % 256) = true ∧ 2 ≤ 2) ∧
    (up.admits (Via.chain 1) 1 5 ∧ 1 ≤ (zs 256).length ∧ up.expertOn Obj.NV_USER_DATA = false ∧ up.o Obj.NV_KEEP_BP <
    3) ∧
    (up.admits Via.host 1 5 ∧ 1 ≤ [7].length ∧ Via.host = Via.host) ∧
    (keepArrayWrites1.sound ∧ keepArrayWrites1.serving = true ∧ keepArrayWrites1.nv.closed = false ∧
    keepArrayWrites1.nv.keepAnneal = some 2046 ∧ 2046 + 1 < 2048) ∧
    (keepArrayWrites2.sound ∧ keepArrayWrites2.serving = true ∧ keepArrayWrites2.nv.closed = false ∧
    keepArrayWrites2.nv.keepAnneal = some 2047 ∧ 2047 ≤ 2047) ∧
    (keepArrayWrites3.sound ∧ keepArrayWrites3.serving = true ∧ keepArrayWrites3.nv.closed = false ∧
    keepArrayWrites3.nv.keepAnneal = none ∧ keepArrayWrites3.nv.annealHours + keepArrayWrites3.o
    Obj.NV_ANNEAL_PERIOD ≤ keepArrayWrites3.o Obj.DEV_ON_HOURS) ∧
    (up.admits Via.host 2 5 ∧ 255 < 256) ∧
    (up.fwUp = true ∧ up.twoSlot (Keep.counter 1) + 1 < 2 ^ 64 ∧ up.wornAt (Keep.counter 1) 32 = false) ∧
    (counted.fwUp = true ∧ counted.nv.closed = false ∧ counted.twoSlot (Keep.counter 1) + 1 < 2 ^ 64 ∧
    counted.wornAt (Keep.counter 1) 32 = false ∧ (twoSlotPick (counted.keep (Keep.counter 1) 32)).isSome = true) := by
  refine ⟨?_, ?_, ?_, ?_, ?_, ?_, ?_, ?_, ?_, ?_, ?_, ?_, ?_⟩ <;> decide +kernel

theorem witness_RecordsAreWritten :
    (store.sound ∧ store.admits Via.host 2 5 ∧ store.mode ≠ 5 ∧ store.opRunning 3 = false ∧ store.storeOpen = true ∧ 7
    ≤ 7) ∧
    (recordsAreWritten1.sound ∧ recordsAreWritten1.admits Via.host 2 5 ∧ recordsAreWritten1.mode ≠ 5 ∧
    recordsAreWritten1.opRunning 3 = false ∧ recordsAreWritten1.storeOpen = true ∧ 255 < 256 ∧
    recordsAreWritten1.coefState 3 = 0 ∧ recordsAreWritten1.o (Obj.ECL_PHASE 3) = 0 ∧ recordsAreWritten1.ob
    Obj.SEC_ARCHIVE_ENC = false ∧ recordsAreWritten1.o (Obj.CORR_SAVE_KEY 3) ≠ 0) ∧
    (up.sound ∧ up.admits Via.host 2 5 ∧ up.storeOpen = false) ∧
    (recordsAreWritten2.sound ∧ recordsAreWritten2.admits Via.host 2 5 ∧ recordsAreWritten2.storeOpen = true ∧
    recordsAreWritten2.nv.journal = some (jour 0) ∧ 48 ≤ (jour 0).free 0 ∧ 48 ≤ (jour 0).free 1 ∧ ((∃ v ≤ 7,
    Instr.nvSetDelete Via.host 7 5 = Instr.nvSetDelete Via.host v 5 ∧ recordKey 7 = recordKey v) ∨ Instr.nvSetDelete
    Via.host 7 5 = Instr.nvRecordDelete Via.host (recordKey 7) 5 ∧ keyOk (recordKey 7) = true) ∧
    recordsAreWritten2.nv.flashOp.isSome = true) ∧
    (store.storeOpen = true ∧ store.nv.journal = some (jour 0) ∧ ((∃ v ≤ 7, Instr.nvRecordDelete Via.host 67108863
    5 = Instr.nvSetDelete Via.host v 5 ∧ 67108863 = recordKey v) ∨ Instr.nvRecordDelete Via.host 67108863 5 =
    Instr.nvRecordDelete Via.host 67108863 5 ∧ keyOk 67108863 = true) ∧ store.nv.flashOp = none ∧ store.nv.job =
    none ∧ store.nv.queue = [] ∧ store.nv.repairs = [] ∧ store.pwr.blocked = false) ∧
    (recordsAreWritten3.sound ∧ recordsAreWritten3.nv.closed = false ∧ recordsAreWritten3.nv.job = some written ∧ 4
    ≤ written.phase ∧ recordsAreWritten3.nv.journal = some (jour 0)) ∧
    (recordsAreWritten4.sound ∧ recordsAreWritten4.admits Via.host 2 5 ∧ 0 ≤ 7 ∧ recordsAreWritten4.mode = 0 ∧
    (recordsAreWritten4.found Via.host 5).readSet 0 = some [] ∧ State.putEntries [] (setRead
    recordsAreWritten4) = (setRead recordsAreWritten4, true) ∧ (setRead recordsAreWritten4).commit 15 =
    Except.ok (got ((setRead recordsAreWritten4).commit 15))) ∧
    (store.mode = 0 ∧ (store.found Via.host 5).readSet 7 = none ∧ Via.host = Via.host) := by
  refine ⟨?_, ?_, ?_, ?_, ?_, ?_, ?_, ?_⟩ <;> decide +kernel

theorem witness_StoreUpkeep :
    (recordsAreWritten2.sound ∧ recordsAreWritten2.nv.flashOp = some (0, 8388608, 0, 0) ∧ recordsAreWritten2.nv.reclaim = none) ∧
    ((0, 8388608, 0, 0).2.2.1 = 0) ∧
    (storeUpkeep1.sound ∧ storeUpkeep1.nv.flashOp = some (0, 8388608, 36, 0) ∧ (0, 8388608, 36, 0).2.2.1 ≠ 0 ∧
    storeUpkeep1.nv.job = some writing) ∧
    (storeUpkeep2.sound ∧ storeUpkeep2.mayRepair = true ∧ storeUpkeep2.nv.repairs = [Repair.rewrite 16777216] ∧
    storeUpkeep2.nv.journal = some (jour 96) ∧ storeUpkeep2.current 16777216 = some (cur recordsAreWritten4
    16777216) ∧ ((cur recordsAreWritten4 16777216).conflict = true ∨ (cur recordsAreWritten4 16777216).both = false)
    ∧ storeUpkeep2.repairJob 16777216 = some (mend recordsAreWritten4 16777216) ∧ storeUpkeep2.dom80 79 ≠ 3 ∧
    storeUpkeep2.o Obj.NV_STORE_SEQ + 1 < 4294967295 ∧ recTotal (mend recordsAreWritten4 16777216).payload.length ≤
    (jour 96).free 0 ∧ recTotal (mend recordsAreWritten4 16777216).payload.length ≤ (jour 96).free 1) ∧
    (storeUpkeep3.sound ∧ storeUpkeep3.mayRepair = true ∧ storeUpkeep3.nv.repairs = [Repair.erase 5]) ∧
    (storeUpkeep4.sound ∧ storeUpkeep4.mayRepair = true ∧ storeUpkeep4.nv.repairs = [] ∧ storeUpkeep4.compactArea =
    none ∧ storeUpkeep4.opRunning 5 = true ∧ storeUpkeep4.ops.compact = some 0) ∧
    (storeUpkeep5.sound ∧ storeUpkeep5.mayRepair = true ∧ storeUpkeep5.nv.repairs = [] ∧ storeUpkeep5.compactArea =
    some 0 ∧ storeUpkeep5.nv.journal = some (jour 65536) ∧ (jour 65536).ring 0 = 0 :: ((jour 65536).ring 0).tail ∧
    65536 ≤ (jour 65536).head 0 ∧ ((storeUpkeep5.toCopy 0 (storeUpkeep5.recordsIn 0) (storeUpkeep5.recordsIn 1)).map
    (·.total)).foldl (· + ·) 0 ≤ (jour 65536).free 0) ∧
    (storeUpkeep9.sound ∧ storeUpkeep9.mayRepair = true ∧ storeUpkeep9.nv.repairs = [] ∧ storeUpkeep9.compactArea = some 0 ∧
    storeUpkeep9.nv.journal = some (jour nearFull) ∧ (jour nearFull).ring 0 = 0 :: ((jour nearFull).ring 0).tail ∧
    65536 ≤ (jour nearFull).head 0 ∧ (jour nearFull).free 0 < ((storeUpkeep9.toCopy 0 (storeUpkeep9.recordsIn 0)
    (storeUpkeep9.recordsIn 1)).map (·.total)).foldl (· + ·) 0 ∧ storeUpkeep9.opRunning 5 = true ∧
    storeUpkeep9.ops.compact = some 0) ∧
    (store.sound ∧ 255 < 256 ∧ store.admits Via.host 2 5 ∧ (store.mode = 0 ∨ store.mode = 4) ∧ store.opRunning 5 =
    false ∧ store.storeOpen = true) ∧
    (storeUpkeep6.sound ∧ storeUpkeep6.admits Via.host 3 5 ∧ storeUpkeep6.mode = 4 ∧ storeUpkeep6.opRunning 5 = false
    ∧ storeUpkeep6.opRunning 3 = false ∧ storeUpkeep6.nv.flashOp = none ∧ storeUpkeep6.nv.job = none ∧
    storeUpkeep6.nv.closed = false ∧ storeUpkeep6.storeSectors ≠ 0 ∧ storeUpkeep6.dom80 79 ≠ 3 ∧ storeUpkeep6.mayProgram = true) ∧
    (storeUpkeep7.sound ∧ storeUpkeep7.nv.storeAnneal = some 0 ∧ storeUpkeep7.nv.journal = some (jour 0) ∧
    storeUpkeep7.mode ≠ 5 ∧ storeUpkeep7.serving = true ∧ storeUpkeep7.nv.closed = false ∧ storeUpkeep7.nv.flashOp =
    none ∧ storeUpkeep7.nv.job = none ∧ storeUpkeep7.dom80 79 ≠ 3) ∧
    (storeUpkeep8.sound ∧ storeUpkeep8.nv.closeLog = some 1 ∧ storeUpkeep8.nv.closeAt + 2000000 ≤
    (storeUpkeep8.advance 2000000).time.mono ∧ storeUpkeep8.nv.flashOp = some (0, 8388608, 0, 0)) := by
  refine ⟨?_, ?_, ?_, ?_, ?_, ?_, ?_, ?_, ?_, ?_, ?_, ?_⟩ <;> decide +kernel

theorem witness_SerialPorts :
    (serialPorts1.sound ∧ serialPorts1.slaveServes false = true ∧ 1023 + 1 ≤ 1024 ∧ 1023 < 1024) ∧
    (1024 ≤ 1024 ∧ serialPorts1.slvHead false true ≤ 24) ∧
    (1024 < 1023 + 2) ∧
    (serialPorts1.slvFrame false true true 23 = true ∧ (shared 0).slaveServes true = true ∧
    (shared 0).slvFrame true true true 23 = true) ∧
    (true = false ∨ 1 ≠ 0) ∧
    (0 ≠ 2 ∧ 0 ≠ 5 ∧ 0 ≠ 11 ∧ serialPorts1.slvHead false false ≤ 8) ∧
    (serialPorts1.serial.slave.mbxState ≠ 1 ∧ serialPorts1.serial.slave.mbxIndex < 65536 ∧ 65535 < 65536 ∧ 255 < 256
    ∧ (2 = 1 ∨ 2 = 2)) ∧
    (serialPorts2.sound ∧ serialPorts2.slaveServes false = true ∧ serialPorts2.serial.slave.mbxState = 1 ∧ 32 ≤ 55 ∧
    55 < 56) ∧
    (serialPorts3.sound ∧ serialPorts3.serving = true ∧ serialPorts3.serial.slave.mbxState = 1 ∧ 1245696 =
    serialPorts3.serial.slave.mbxIndex * 256 + serialPorts3.serial.slave.mbxSub ∧ serialPorts3.serial.slave.mbxCmd =
    1 ∧ serialPorts3.mbxObject true = Except.ok (rowOf Obj.TIME_SOURCE)) ∧
    (serialPorts4.sound ∧ serialPorts4.serving = true ∧ serialPorts4.serial.slave.mbxState = 1 ∧ 0 =
    serialPorts4.serial.slave.mbxIndex * 256 + serialPorts4.serial.slave.mbxSub ∧ serialPorts4.serial.slave.mbxCmd =
    1 ∧ serialPorts4.mbxObject true = Except.error Abort.noObject ∧ Abort.noObject ≠ 0) ∧
    (serialPorts5.sound ∧ serialPorts5.serving = true ∧ serialPorts5.serial.slave.mbxState = 1 ∧ 1247488 =
    serialPorts5.serial.slave.mbxIndex * 256 + serialPorts5.serial.slave.mbxSub ∧ serialPorts5.serial.slave.mbxCmd =
    2 ∧ serialPorts5.mbxObject false = Except.ok (rowOf Obj.TIME_PTP_DOMAIN) ∧ State.objWrite Via.mailbox 1247488
    (Written.slot (rowOf Obj.TIME_PTP_DOMAIN).ty (if (rowOf Obj.TIME_PTP_DOMAIN).ty = ObjTy.u64 then
    serialPorts5.serial.slave.mbxData else serialPorts5.serial.slave.mbxData % 2 ^ 32)) (serialPorts5.advance 5) =
    Except.ok (got (State.objWrite Via.mailbox 1247488 (Written.slot ObjTy.u8 7) (serialPorts5.advance 5)))) ∧
    (serialPorts6.sound ∧ serialPorts6.serving = true ∧ serialPorts6.serial.slave.mbxState = 1 ∧ 0 =
    serialPorts6.serial.slave.mbxIndex * 256 + serialPorts6.serial.slave.mbxSub ∧ serialPorts6.serial.slave.mbxCmd =
    2 ∧ serialPorts6.mbxObject false = Except.error Abort.noObject ∧ Abort.noObject ≠ 0) ∧
    (serialPorts7.sound ∧ serialPorts7.boot.phase = BootPhase.recovery ∧ serialPorts7.serial.slave.upState = 1 ∧
    serialPorts7.serial.slave.upCmd = 1 ∧ serialPorts7.serial.slave.upOffset % 256 = 0 ∧
    serialPorts7.serial.slave.upOffset < 4194304 ∧ serialPorts7.serial.slave.upSlot ≤ 1 ∧ serialPorts7.nv.closed =
    false ∧ serialPorts7.pwr.blocked = false ∧ serialPorts7.busFree = true ∧ serialPorts7.serial.slave.upOffset % 65536 = 0 ∧
    serialPorts7.serial.slave.upErased = false) ∧
    (serialPorts16.sound ∧ serialPorts16.boot.phase = BootPhase.recovery ∧ serialPorts16.serial.slave.upState = 1 ∧
    serialPorts16.serial.slave.upCmd = 1 ∧ serialPorts16.serial.slave.upSlot ≤ 1 ∧ serialPorts16.nv.closed = false ∧
    serialPorts16.pwr.blocked = false ∧ serialPorts16.busFree = true ∧ serialPorts16.serial.slave.upErased = true) ∧
    (serialPorts8.sound ∧ serialPorts8.boot.phase = BootPhase.recovery ∧ serialPorts8.serial.slave.upState = 1 ∧
    serialPorts8.serial.slave.upCmd = 1 ∧ (serialPorts8.serial.slave.upOffset % 256 ≠ 0 ∨ 4194304 ≤
    serialPorts8.serial.slave.upOffset)) ∧
    (serialPorts9.sound ∧ serialPorts9.boot.phase = BootPhase.recovery ∧ serialPorts9.serial.slave.upState = 1 ∧
    serialPorts9.serial.slave.upCmd = 2 ∧ serialPorts9.serial.slave.upSlot ≤ 1 ∧ serialPorts9.slotOkay
    serialPorts9.serial.slave.upSlot = false) ∧
    (serialPorts10.sound ∧ serialPorts10.alive = true ∧ serialPorts10.sp1Shared = true ∧ serialPorts10.serial.owned
    = false ∧ serialPorts10.serial.busReq = none ∧ serialPorts10.serial.slvHigh = true ∧
    serialPorts10.serial.slvSince + 1000 ≤ (serialPorts10.advance 1000).time.mono ∧ serialPorts10.sp1Idle) ∧
    (serialPorts11.sound ∧ serialPorts11.alive = true ∧ serialPorts11.sp1Shared = true ∧ serialPorts11.serial.owned
    = false ∧ serialPorts11.sp1Idle ∧ serialPorts11.serial.slvHigh = false) ∧
    (serialPorts12.sound ∧ serialPorts12.serial.busReq = some 0 ∧ serialPorts12.serial.slvHigh = true ∧
    serialPorts12.serial.owned = false ∧ 0 + serialPorts12.o Obj.SP1_HANDOVER_MAX * 1000 < (serialPorts12.advance
    1000000000).time.mono) ∧
    (serialPorts13.sound ∧ serialPorts13.sp1Shared = true ∧ serialPorts13.serial.owned = true) ∧
    (serialPorts14.sound ∧ serialPorts14.alive = true ∧ serialPorts14.o (Obj.SP1_DEV_MODE 0) = 4 ∧ sweepTap [3, 4,
    5] = some 4 ∧ serialPorts14.boot.phase = BootPhase.rom) ∧
    (serialPorts15.sound ∧ serialPorts15.alive = true ∧ serialPorts15.o (Obj.SP1_DEV_MODE 3) = 4 ∧
    serialPorts15.boot.phase ≠ BootPhase.rom ∧ serialPorts15.domOn 62 = true) ∧
    (up.sound ∧ up.alive = true ∧ 0 < 1 ∧ 16777215 + 1 ≤ up.nv.size.get 0 ∧ (up.advance 5).xipFree 0 = true ∧ up.busFree = true ∧
    up.xipHit 0 16777215 1 = false ∧ up.serial.fetches = [] ∧ up.nv.closeLog = none) ∧
    (serialPorts17.sound ∧ serialPorts17.alive = true ∧ 0 + 1 ≤ serialPorts17.nv.size.get 0 ∧ serialPorts17.xipHit 0 0 1 = true) ∧
    (serialPorts10.xipHit 0 0 1 = false ∧ serialPorts10.busFree = false ∧ 0 + 1 ≤ serialPorts10.nv.size.get 0) ∧
    (serialPorts18.sound ∧ serialPorts18.admits (Via.chain 1) 3 5 ∧ serialPorts18.mode = 4 ∧ serialPorts18.serial.rawWait = none ∧
    serialPorts18.busFree = false) ∧
    (debugUnderItsGrade5.sound ∧ debugUnderItsGrade5.admits (Via.chain 1) 3 5 ∧ debugUnderItsGrade5.mode = 4 ∧ 16 ≤
    ([0, 0, 1, 3, 0, 1, 0, 4] ++ zs 8).length ∧ ([0, 0, 1, 3, 0, 1, 0, 4] ++ zs 8).length ≤ 4112 ∧ (rawDesc ([0, 0,
    1, 3, 0, 1, 0, 4] ++ zs 8)).ok = true ∧ debugUnderItsGrade5.serial.rawWait = none ∧ debugUnderItsGrade5.busFree = true ∧
    debugUnderItsGrade5.nv.flashOp = none ∧ debugUnderItsGrade5.serial.fetches = [] ∧ ((rawDesc ([0, 0, 1, 3, 0, 1, 0, 4] ++ zs 8)).dir = 1 ∨ (rawDesc ([0, 0,
    1, 3, 0, 1, 0, 4] ++ zs 8)).len ≤ ([0, 0, 1, 3, 0, 1, 0, 4] ++ zs 8).length - 16)) := by
  refine ⟨?_, ?_, ?_, ?_, ?_, ?_, ?_, ?_, ?_, ?_, ?_, ?_, ?_, ?_, ?_, ?_, ?_, ?_, ?_, ?_, ?_, ?_, ?_, ?_, ?_, ?_, ?_⟩ <;> decide +kernel

theorem witness_HousekeepingAndHeat :
    (housekeepingAndHeat1.sound ∧ housekeepingAndHeat1.admits Via.host 1 5 ∧ scanChannels (housekeepingAndHeat1.o
    (Obj.HK_SCAN_MASK 0)) ≠ [] ∧ (housekeepingAndHeat1.hkc 0).busy = false) ∧
    (housekeepingAndHeat2.sound ∧ housekeepingAndHeat2.admits Via.host 1 5 ∧ scanChannels (housekeepingAndHeat2.o
    (Obj.HK_SCAN_MASK 0)) ≠ [] ∧ (housekeepingAndHeat2.hkc 0).busy = true) ∧
    (housekeepingAndHeat3.sound ∧ (housekeepingAndHeat3.hkc 0).todo = [0] ∧ (housekeepingAndHeat3.hkc 0).busy = true
    ∧ housekeepingAndHeat3.hkOn 0 = true ∧ (housekeepingAndHeat3.hkc 0).settled = true ∧
    (housekeepingAndHeat3.hkc 0).calDue = false ∧ housekeepingAndHeat3.calHere 0 = false ∧
    2 ^ ((housekeepingAndHeat3.hkc 0).avg % 16) ≤ [1250000].length) ∧
    (img.sound ∧ img.reaches Via.host) ∧
    (housekeepingAndHeat1.hkOn 0 = true ∧ (housekeepingAndHeat1.hkc 0).settled = false ∧ (housekeepingAndHeat1.hkc
    0).refSince + refSettle (housekeepingAndHeat1.o (Obj.HK_REF 0)) ≤ (housekeepingAndHeat1.advance
    200000).time.mono) ∧
    (housekeepingAndHeat4.sound ∧ (housekeepingAndHeat4.hkc 0).idleSince = some 0 ∧ housekeepingAndHeat4.hkDemand =
    true ∧ (housekeepingAndHeat4.hkc 0).busy = false ∧ 0 + 1000000 ≤ (housekeepingAndHeat4.advance
    1000000).time.mono ∧ housekeepingAndHeat4.dbg.held.contains (63 + 0) = false ∧ housekeepingAndHeat4.hkOn 0 =
    true) ∧
    (housekeepingAndHeat5.sound ∧ housekeepingAndHeat5.alive = true ∧ housekeepingAndHeat5.mayCalibrate = true ∧
    housekeepingAndHeat5.hk.lastTurn + 1000000 * housekeepingAndHeat5.o Obj.HK_CAL_PERIOD ≤
    (housekeepingAndHeat5.advance 1000000000000).time.mono ∧ 0 < 1000000 * housekeepingAndHeat5.o Obj.HK_CAL_PERIOD ∧ 0 = posOf housekeepingAndHeat5.hk.turn ∧
    housekeepingAndHeat5.hk.spare < 16 ∧ (housekeepingAndHeat5.hkc 0).busy = false ∧ housekeepingAndHeat5.hkOn 0 =
    true ∧ (housekeepingAndHeat5.hkc 0).settled = true) ∧
    (housekeepingAndHeat6.sound ∧ housekeepingAndHeat6.alive = true ∧ housekeepingAndHeat6.mayCalibrate = true ∧
    housekeepingAndHeat6.hk.lastTurn + 1000000 * housekeepingAndHeat6.o Obj.HK_CAL_PERIOD ≤
    (housekeepingAndHeat6.advance (1000000 * housekeepingAndHeat6.o Obj.HK_CAL_PERIOD)).time.mono ∧
    (housekeepingAndHeat6.advance (1000000 * housekeepingAndHeat6.o Obj.HK_CAL_PERIOD)).time.mono <
    housekeepingAndHeat6.hk.lastTurn + 2 * (1000000 * housekeepingAndHeat6.o Obj.HK_CAL_PERIOD) ∧ 0 = posOf housekeepingAndHeat6.hk.turn ∧
    housekeepingAndHeat6.hk.spare < 16 ∧ ((housekeepingAndHeat6.hkc 0).busy = true ∨ housekeepingAndHeat6.hkOn 0 =
    false ∨ (housekeepingAndHeat6.hkc 0).settled = false)) ∧
    (housekeepingAndHeat6.hk.lastTurn + 2 * (1000000 * housekeepingAndHeat6.o Obj.HK_CAL_PERIOD) ≤
    (housekeepingAndHeat6.advance (2000000 * housekeepingAndHeat6.o Obj.HK_CAL_PERIOD)).time.mono ∧
    1 = posOf ((housekeepingAndHeat6.hk.turn + 1) % 4) ∧ housekeepingAndHeat6.calMay 1 = false) ∧
    (housekeepingAndHeat17.sound ∧ housekeepingAndHeat17.alive = true ∧ housekeepingAndHeat17.mayCalibrate = true ∧
    housekeepingAndHeat17.hk.lastTurn + 2 * (1000000 * housekeepingAndHeat17.o Obj.HK_CAL_PERIOD) ≤
    (housekeepingAndHeat17.advance (2000000 * housekeepingAndHeat17.o Obj.HK_CAL_PERIOD)).time.mono ∧
    0 = posOf housekeepingAndHeat17.hk.turn ∧ housekeepingAndHeat17.hk.spare < 16 ∧ (housekeepingAndHeat17.hkc 0).settled = false ∧
    1 = posOf ((housekeepingAndHeat17.hk.turn + 1) % 4) ∧ housekeepingAndHeat17.calMay 1 = true) ∧
    (housekeepingAndHeat7.sound ∧ housekeepingAndHeat7.hk.calibrating = some (4, 0, 0) ∧ 0 + 2000000 ≤
    (housekeepingAndHeat7.advance 2000000).time.mono ∧ housekeepingAndHeat7.sliceOf 0 ≠ 4 ∧
    housekeepingAndHeat7.slicePowered 4 0 = true ∧ ∀ k, (housekeepingAndHeat7.hkc k).calDue = false) ∧
    (housekeepingAndHeat8.sound ∧ List.find? (housekeepingAndHeat8.advance 5).samples allPos = some 0 ∧
    16 ≤ (List.replicate 16 1250000).length ∧ housekeepingAndHeat8.claimant 0 = some 0) ∧
    (housekeepingAndHeat16.sound ∧ housekeepingAndHeat16.alive = true ∧ housekeepingAndHeat16.therm.active = true ∧
    housekeepingAndHeat16.o Obj.THERM_STATE = 0 ∧ housekeepingAndHeat16.o Obj.THERM_EXCLUDED = 0 ∧
    housekeepingAndHeat16.therm.suspect = ThermSt.reset.suspect ∧ ThermSt.reset.suspect.all (fun n => n < 99) = true ∧
    housekeepingAndHeat16.therm.nThrottle + 1 < housekeepingAndHeat16.o Obj.THERM_DWELL ∧
    housekeepingAndHeat16.therm.nQuench + 1 < housekeepingAndHeat16.o Obj.THERM_DWELL) ∧
    (housekeepingAndHeat9.sound ∧ housekeepingAndHeat9.therm.graceEnd = some 5 ∧ 5 ≤ (housekeepingAndHeat9.advance
    5).time.mono ∧ housekeepingAndHeat9.o Obj.THERM_STATE = 2 ∧ housekeepingAndHeat9.nextStep = 1 ∧
    housekeepingAndHeat9.o Obj.THERM_DWELL ≤ housekeepingAndHeat9.therm.hot) ∧
    (housekeepingAndHeat10.sound ∧ housekeepingAndHeat10.therm.graceEnd = some 5 ∧ 5 ≤
    (housekeepingAndHeat10.advance 5).time.mono ∧ housekeepingAndHeat10.o Obj.THERM_STATE = 2 ∧
    housekeepingAndHeat10.nextStep = 2 ∧ housekeepingAndHeat10.o Obj.THERM_DWELL ≤ housekeepingAndHeat10.therm.hot) ∧
    (housekeepingAndHeat11.sound ∧ housekeepingAndHeat11.therm.graceEnd = some 5 ∧ 5 ≤
    (housekeepingAndHeat11.advance 5).time.mono ∧ housekeepingAndHeat11.o Obj.THERM_STATE = 2 ∧
    housekeepingAndHeat11.nextStep ≠ 0 ∧ housekeepingAndHeat11.therm.hot < housekeepingAndHeat11.o Obj.THERM_DWELL) ∧
    (housekeepingAndHeat12.sound ∧ housekeepingAndHeat12.therm.undoAt = some 5 ∧ 5 ≤ (housekeepingAndHeat12.advance
    5).time.mono ∧ housekeepingAndHeat12.o Obj.THERM_STATE < 2 ∧ housekeepingAndHeat12.therm.halved = true) ∧
    (housekeepingAndHeat13.sound ∧ housekeepingAndHeat13.therm.undoAt = some 5 ∧ 5 ≤ (housekeepingAndHeat13.advance
    5).time.mono ∧ housekeepingAndHeat13.o Obj.THERM_STATE < 2 ∧ housekeepingAndHeat13.therm.halved = false ∧ 0 <
    housekeepingAndHeat13.therm.slotSteps) ∧
    (housekeepingAndHeat14.sound ∧ housekeepingAndHeat14.admits Via.host 2 5 ∧ 255 < 256 ∧ housekeepingAndHeat14.oi
    Obj.THERM_HOTSPOT < 10000 ∧ housekeepingAndHeat14.therm.quench = true) ∧
    (housekeepingAndHeat15.sound ∧ housekeepingAndHeat15.admits Via.host 2 5 ∧ 10000 ≤ housekeepingAndHeat15.oi
    Obj.THERM_HOTSPOT ∧ Via.host = Via.host) := by
  refine ⟨?_, ?_, ?_, ?_, ?_, ?_, ?_, ?_, ?_, ?_, ?_, ?_, ?_, ?_, ?_, ?_, ?_, ?_, ?_, ?_⟩ <;> decide +kernel

theorem witness_PowerEvents :
    (powerEvents1.sound ∧ powerEvents1.boot.phase ≠ BootPhase.off ∧ (Instr.powerFailWarning 5 =
    Instr.powerFailWarning 5 ∧ powerEvents1.pwr.armed = true ∧ Obj.PWR_CNT_FAIL = Obj.PWR_CNT_FAIL ∨
    Instr.powerFailWarning 5 = Instr.brownOut 5 ∧ Obj.PWR_CNT_FAIL = Obj.PWR_CNT_FAIL ∨ Instr.powerFailWarning 5 =
    Instr.overvoltage 5 ∧ Obj.PWR_CNT_FAIL = Obj.PWR_CNT_OVP) ∧ (powerEvents1.fwUp = false ∨
    powerEvents1.pwr.failing = true) ∧ (powerEvents1.pwr.missing = false ∨ Instr.powerFailWarning 5 ≠ Instr.brownOut 5)) ∧
    (powerEvents8.sound ∧ powerEvents8.boot.phase ≠ BootPhase.off ∧ powerEvents8.pwr.missing = true) ∧
    (powerEvents2.sound ∧ powerEvents2.boot.phase ≠ BootPhase.off ∧ (Instr.powerFailWarning 5 =
    Instr.powerFailWarning 5 ∧ powerEvents2.pwr.armed = true ∧ Obj.PWR_CNT_FAIL = Obj.PWR_CNT_FAIL ∨
    Instr.powerFailWarning 5 = Instr.brownOut 5 ∧ Obj.PWR_CNT_FAIL = Obj.PWR_CNT_FAIL ∨ Instr.powerFailWarning 5 =
    Instr.overvoltage 5 ∧ Obj.PWR_CNT_FAIL = Obj.PWR_CNT_OVP) ∧ powerEvents2.fwUp = true ∧ powerEvents2.pwr.failing
    = false ∧ powerEvents2.pwr.missing = false) ∧
    (up.sound ∧ up.boot.phase ≠ BootPhase.off ∧ up.pwr.missing = false ∧ (Instr.overvoltage 5 = Instr.powerFailWarning 5 ∧ up.pwr.armed =
    true ∧ Obj.PWR_CNT_OVP = Obj.PWR_CNT_FAIL ∨ Instr.overvoltage 5 = Instr.brownOut 5 ∧ Obj.PWR_CNT_OVP =
    Obj.PWR_CNT_FAIL ∨ Instr.overvoltage 5 = Instr.overvoltage 5 ∧ Obj.PWR_CNT_OVP = Obj.PWR_CNT_OVP) ∧ up.fwUp =
    true ∧ up.pwr.failing = false) ∧
    ((if up.pwr.under then 34000 else 32000) ≤ 32000 ∧ 32000 ≤ 78000 ∧ up.pwr.swOpen = true) ∧
    (powerEvents8.pwr.under = true ∧ 34000 ≤ 34000 ∧ powerEvents8.pwr.swOpen = true) ∧
    (78000 ≤ 78000) ∧
    (up.alive = true ∧ up.pwr.charged = false ∧ up.pwr.missing = false ∧ up.boot.tR + 100000000 ≤ (up.advance
    100000000).time.mono) ∧
    (powerEvents3.sound ∧ powerEvents3.pwr.failing = true ∧ powerEvents3.pwr.okSince = some 0 ∧ 0 + 100000000 ≤
    (powerEvents3.advance 100000000).time.mono ∧ 36000 ≤ powerEvents3.pwr.vin ∧ powerEvents3.pwr.ovp = false ∧
    (powerEvents3.pwr.ready = true ∨ powerEvents3.pwr.missing = true)) ∧
    (powerEvents4.sound ∧ 79 < 80 ∧ powerEvents4.alive = true ∧ powerEvents4.nextRamp = some 79 ∧ (∀ (a : ℕ),
    powerEvents4.pwr.lastRamp = some a → a + 5000 ≤ (powerEvents4.advance 5000).time.mono)) ∧
    (powerEvents5.sound ∧ 0 < 80 ∧ powerEvents5.modes.running = none ∧ (∀ (p : Pos), powerEvents5.pwr.fpaOff.get p =
    false) ∧ (powerEvents5.pwr.ramping.any fun w => w.1 == 0) = true ∧ powerEvents5.pwr.want.contains (0, false) =
    false) ∧
    (powerEvents9.sound ∧ powerEvents9.modes.running = none ∧ (∀ (p : Pos), powerEvents9.pwr.fpaOff.get p = false) ∧
    (powerEvents9.pwr.ramping.any fun w => w.1 == 0) = true ∧ powerEvents9.pwr.want.contains (0, false) = true ∧
    powerEvents9.dbg.held.contains 0 = false) ∧
    (powerEvents6.sound ∧ 70 < 80 ∧ powerEvents6.modes.running = none ∧ (∀ (p : Pos), powerEvents6.pwr.fpaOff.get p
    = false) ∧ (powerEvents6.pwr.ramping.any fun w => w.1 == 70) = false ∧ powerEvents6.pwr.discharging.contains 70
    = true) ∧
    (powerEvents7.sound ∧ 45 < 46 ∧ powerEvents7.mode = 5 ∧ powerEvents7.modes.running = none ∧ List.find? (fun w =>
    w.1 == 45) powerEvents7.pwr.ramping = some (45, 0) ∧ 0 + domBound 45 ≤ (powerEvents7.advance 20000).time.mono) := by
  refine ⟨?_, ?_, ?_, ?_, ?_, ?_, ?_, ?_, ?_, ?_, ?_, ?_, ?_, ?_⟩ <;> decide +kernel

/-- The state an answer holds, if it is a next state. -/
def answers : Ans → Bool
  | .next _ => true
  | _ => false
def next : Ans → State
  | .next u => u
  | _ => State.reset

theorem eq_next_of_answers {a : Ans} (h : answers a = true) : a = .next (next a) := by
  cases a <;> simp [answers, next] at *

/-- `up` with a command at the front of its queue. -/
def upFront : State := up.front (.holdupReady 5)

theorem witness_StepOfAnEmptyQueue : up.pending = [] := by decide

theorem witness_ObjectsStayCanonical : ∃ s u, s.sound ∧ step s = .next u :=
  ⟨upFront, next (step upFront), by decide +kernel, eq_next_of_answers (by decide +kernel)⟩

theorem witness_MemoriesStayCanonical : ∃ s u, s.sound ∧ step s = .next u := witness_ObjectsStayCanonical

theorem witness_ShapesStay : ∃ s u, State.shapesOk s ∧ step s = .next u :=
  ⟨upFront, next (step upFront), by decide +kernel, eq_next_of_answers (by decide +kernel)⟩

theorem witness_EveryCommandKeepsItsFrame : ∃ c s u, exec c s = .next u :=
  ⟨.holdupReady 5, up, next (exec (.holdupReady 5) up), eq_next_of_answers (by decide +kernel)⟩

theorem witness_LifecycleNeverGoesBack : ∃ s u, step s = .next u :=
  ⟨upFront, next (step upFront), eq_next_of_answers (by decide +kernel)⟩

theorem witness_UptimeNeverRunsBack : ∃ s u, step s = .next u := witness_LifecycleNeverGoesBack

theorem witness_CoefficientSets_3 : img.sound := by decide +kernel

theorem witness_FunctionResetAndPowerStates_3 : img.sound := by decide +kernel

theorem witness_DebugUnderItsGrade_7 : up.sound := by decide +kernel

/-- `up` with a pending set of S0 whose upper knee is 0. -/
def badSet : State := { up with gen := up.gen.set 0 { GenPos.reset with pend := [(Obj.MERGE_KNEE_HI 0, 0)], dirty := true } }

theorem witness_GenerationsCommit_1 : up.sound ∧ up.admits .host 1 5 ∧ 255 < 256 ∧ code ((up.found .host 5).commit (255 % 16)) = 0 := by
  decide +kernel

theorem witness_GenerationsCommit_2 : badSet.sound ∧ badSet.admits .host 1 5 ∧ 1 < 256 ∧
    code ((badSet.found .host 5).commit (1 % 16)) = Abort.param := by
  decide +kernel

/-- COMMIT of S0. -/
def reqCommit : Req := tele [1, 0, 0, 0]

theorem witness_GenerationsCommit_chain : up.sound ∧ up.hears reqCommit .anyDst 4 ∧ up.fresh reqCommit 0x04 ∧
    1 ≤ (up.heard reqCommit).reqLevel reqCommit ∧ code ((up.heard reqCommit).commit (beAt reqCommit.payload 0 1 % 16)) = 0 := by
  decide +kernel

theorem witness_ArpAndIcmp_6 : ∃ ip mac dst body, dst ≠ (imgOut OutPort.reset).outIp false ∧
    Instr.icmpEchoRequest false 1 2 3 [] 5 = .icmpEchoRequest false ip mac dst body 5 :=
  ⟨1, 2, 3, [], by decide +kernel, rfl⟩

/-- The state a write of the upper word of TIME_SET starts from, its low word held, and the state of the write. -/
def heldLow : State := { upWith [(Obj.TIME_SOURCE, 2)] with bar0 := { Bar0St.reset with held := some (Obj.TIME_SET, 9) } }
def upperWrite (s : State) : Res :=
  State.objWrite .host Obj.TIME_SET (.slot .u64 (1 % 2 ^ 32 * 2 ^ 32 + 9)) { s.found .host 5 with bar0 := { s.bar0 with held := none } }

theorem witness_Bar0Words_4 : heldLow.sound ∧ heldLow.host.link = true ∧ heldLow.host.d3hot = false ∧ heldLow.serving = true ∧
    (0x10000 + 16 * (Obj.TIME_SET / 256 - 4096) + 4) % 4 = 0 ∧
    heldLow.slotAt (0x10000 + 16 * (Obj.TIME_SET / 256 - 4096) + 4) = .upper Obj.TIME_SET ∧
    heldLow.bar0.held = some (Obj.TIME_SET, 9) ∧ code (upperWrite heldLow) = 0 := by
  decide +kernel

/-- `up` in the course of an AUTH with a challenge of session 2, and a PROVE of it that is wrong. -/
def challenged : State := { up with chain := { up.chain with challenges := [{ chal with id := 2 }] } }
def reqWrong : Req := { tele ([3] ++ zs 35) with session := 2 }

theorem witness_SessionsAreProven_wrong : challenged.sound ∧ challenged.hears reqWrong .unicast 36 ∧ challenged.fresh reqWrong 0x50 ∧
    leAt reqWrong.payload 0 1 = 3 ∧
    (challenged.heard reqWrong).chain.challenges.find? (fun y => y.id == reqWrong.session) = some { chal with id := 2 } ∧
    (challenged.heard reqWrong).proveOk 2 3 6 (zs 16) (zs 16) (slice reqWrong.payload 4 32) = false := by
  decide +kernel

theorem witness_SerialPorts_finish : recImg.sound ∧ recImg.boot.phase = .recovery ∧ recImg.serial.slave.upState = 1 ∧
    recImg.serial.slave.upCmd = 2 ∧ recImg.serial.slave.upSlot ≤ 1 ∧ recImg.slotOkay recImg.serial.slave.upSlot = true ∧
    recImg.nv.closed = false := by
  decide +kernel

/-- A module whose thermal control runs. -/
def warm : State := { up with therm := { ThermSt.reset with active := true } }

theorem witness_HousekeepingAndHeat_9 : warm.sound ∧ warm.alive = true ∧ warm.therm.active = true ∧ warm.o Obj.THERM_STATE = 0 ∧
    warm.o Obj.THERM_EXCLUDED = 0 ∧ warm.therm.nThrottle + 1 < warm.o Obj.THERM_DWELL ∧
    warm.therm.nQuench + 1 < warm.o Obj.THERM_DWELL := by
  decide +kernel

theorem witness_HousekeepingAndHeat_suspect (i : Nat) : warm.therm.suspect.getD i 0 < 99 := by
  have h : warm.therm.suspect = List.replicate 32 0 := rfl
  rw [h, List.getD_eq_getElem?_getD, List.getElem?_replicate]
  split <;> simp

theorem witness_PowerEvents_8 : up.sound ∧ up.alive = true ∧ up.modes.running = none := by decide +kernel

theorem witness_PowerEvents_bad (d : Nat) : up.pwr.bad.getD d 0 = 0 := by
  have h : up.pwr.bad = List.replicate 80 0 := rfl
  rw [h, List.getD_eq_getElem?_getD, List.getElem?_replicate]
  split <;> simp

theorem witness_RecordsAreWritten_bad :
    (stored 96 [pset 1 (zs 6)]).sound ∧ (stored 96 [pset 1 (zs 6)]).admits .host 2 5 ∧ (stored 96 [pset 1 (zs 6)]).mode = 0 ∧
    ((stored 96 [pset 1 (zs 6)]).found .host 5).readSet 0 = some [(0, 0, [])] ∧
    (State.putEntries [(0, 0, [])] (setRead (stored 96 [pset 1 (zs 6)]))).2 = false := by
  decide +kernel


/-! ### Single steps and operations worked out in the spec -/

/-- 04, worked example: the two table entries the readout 23,517 falls between. -/
def lutEx : Array Byte := (zs 1468 ++ leBytes 4 375936 ++ leBytes 4 376980 ++ zs 2620).toArray

/-- 04 R126, step 1 of the worked example. -/
theorem test_linearise : linearise lutEx 23517 = 376409 := by decide +kernel

/-- 04 R129, step 2: the track and the temperature difference. -/
theorem test_track : trackStep false 311040 3 38912 = 311072 ∧ deltaT 311072 38400 = 484 := by decide +kernel

/-- 04 R133, steps 3 to 5: the coefficients of the pixel, and the corrected value. -/
def pixel400 : Entry := ⟨-1120, 36700, 2304, -31, 0, 0, 0, true, 3368⟩
theorem test_correct : correctRaw 0x3F pixel400 484 376409 = 418480 := by decide +kernel

/-- 05 R180, worked example: M at 100 % and at 60 %. -/
theorem test_tail_gain : tailGain 16666667 74 100 = 13404 ∧ tailGain 16666667 74 60 = 8042 := by decide +kernel

/-- A readout of frame n of 05 Table 05-2, in sixteenths of a count. -/
def edgePx (y : Int) : ReplPx :=
  { y := y, invalid := false, sat := false, replaced := false, unreplaced := false, planeErr := false, tau := 74, count := 0 }

/-- 05 R181 to R184: frames n and n + 1 of Table 05-2. -/
theorem test_tail_edge : (tailPx true 16666667 12000 100 10000 0xFF 0 (edgePx 431095)).px.z = 479997 ∧
    (tailPx true 16666667 12000 100 10000 0xFF 0 (edgePx 431095)).hist = some 26943 ∧
    (tailPx true 16666667 26943 60 10000 0xFF 0 (edgePx 471696)).px.z = 476679 := by decide +kernel

/-- The two slots of 05's hot-strip pixel. -/
def hotPx (k : Nat) : TailPx :=
  { z := if k = 0 then 819200 else 205128, invalid := false, sat := false, clip := false, restart := false, replaced := false,
    unreplaced := false }
def hotMerged : MergedPx := mergePx hotPx [0, 1] false 48000 56000 (fun k => if k = 0 then 1044382 else 4194304)

/-- 05 R188: its merge. -/
theorem test_merge : hotMerged.p = 204440 ∧ hotMerged.w = 39322 ∧ hotMerged.l = 0 ∧ hotMerged.s = 1 := by decide +kernel

/-- 05 R199: its conversion. -/
theorem test_radiometry : (radPx (fun r => (List.replicate 936 0 ++ if r = 0 then [36512, 36520] else [36505, 36513]).toArray)
    (fun r => if r = 0 then (8776, 40157) else (8823, 40157)) hotMerged).1 = 36514 := by decide +kernel

/-- A set of generation settings. -/
def gset (l : List (Nat × Int)) : List (Nat × Int) := l.foldl (fun m x => Store.set Obj.dflt m x.1 x.2) []

/-- 09, worked example: S0 and S1 on OUT0 with T3 of S1, at a decimation. -/
def fill0 : GenPos :=
  { GenPos.reset with dirty := true, pend := gset [(Obj.INT_WIDTH 0, 2048), (Obj.INT_HEIGHT 0, 1536), (Obj.INT_SLOT_MASK 0, 15),
                                                   (Obj.TRIG_MIN_PERIOD 0, 16666667), (Obj.OUT_IMG_PORT 0, 1), (Obj.OUT_IMG_FMT 0, 0),
                                                   (Obj.OUT_IMG_DST0 0, 0x0A000002), (Obj.TAP_POS 3, 1)] }
def fill1 (decim : Int) : GenPos :=
  { GenPos.reset with dirty := true, pend := gset [(Obj.INT_WIDTH 1, 2048), (Obj.INT_HEIGHT 1, 1536), (Obj.INT_SLOT_MASK 1, 3),
                                                   (Obj.TRIG_MIN_PERIOD 1, 8333333), (Obj.OUT_IMG_PORT 1, 1), (Obj.OUT_IMG_FMT 1, 1),
                                                   (Obj.OUT_IMG_DST0 1, 0x0A000002), (Obj.TAP_POS 3, 1), (Obj.TAP_EN 3, 1),
                                                   (Obj.TAP_WIN_X 3, 2047 * 65536), (Obj.TAP_WIN_Y 3, 1535 * 65536),
                                                   (Obj.TAP_PORT 3, 0), (Obj.TAP_DST 3, 0x0A000003), (Obj.TAP_DECIM 3, decim)] }
def fill (decim : Int) : State :=
  { upWith [(Obj.POS_ENABLE, 3), (Obj.OUT_MTU 0, 9000)] with gen := (up.gen.set 0 fill0).set 1 (fill1 decim) }

/-- 09 R341: every frame of the tap is refused; with TAP_DECIM 2 the COMMIT is accepted and OUT_LOAD reads 19,929. -/
theorem test_output_budget : code ((fill 1).commit 3) = Abort.param ∧ code ((fill 2).commit 3) = 0 ∧
    (got ((fill 2).commit 3)).o (Obj.OUT_LOAD 0) = 19929 ∧ ((got ((fill 2).commit 3)).ring 0).size = 193 * 65536 ∧
    ((got ((fill 2).commit 3)).ring 5).size = 145 * 65536 := by decide +kernel

/-- 08, worked example: S1's held start: the later of closing time plus the vertical blank and last start plus the period, rounded up. -/
theorem test_held_start : ({ imgWith [(Obj.INT_VBLANK_MIN 0, 9200)] with
    intake := img.intake.set 0 { IntakePos.reset with closedAt := 4044000 }
    trig := img.trig.set 0 { TrigPos.reset with lastStart := some 40000 }
    gen := img.gen.set 0 { GenPos.reset with gov := gset [(Obj.TRIG_MIN_PERIOD 0, 4166667)] } } : State).heldInstant 0 0 = 4206668 := by
  decide +kernel

/-- 11 R397 to R404, worked example: the slots of the BAR0 offsets. -/
theorem test_bar0_slots : up.slotAt 0x290B4 = .key (Obj.ECL_LAST_TIME 0) ∧ up.slotAt 0x290B8 = .upper (Obj.ECL_LAST_TIME 0) ∧
    up.slotAt 0x10300 = .key Obj.BAR0_WIN_INDEX ∧ (upWith [(Obj.BAR0_WIN_INDEX, 0x2418)]).slotAt 0xFF02C = .key (Obj.RAD_ROI_EPS 0 10) ∧
    up.slotAt 0x241AC = .key 0x241A03 := by decide +kernel

/-- 11, step 4: ε of ROI 10 reads 0x2710. -/
theorem test_bar0_window : (next (exec (.bar0LowRead .bar0 0xFF02C 4 5) (upWith [(Obj.BAR0_WIN_INDEX, 0x2418)]))).out = [.value 0x2710] := by
  decide +kernel

/-- 14 R493, worked example: the same 58 bits under WHOLE_REJECT and under PARTIAL_DISCARD. -/
theorem test_mailbox_whole : (next (exec (.sp1SlaveWrite true 0x20 [0x18, 0x24, 0x0B, 0x01] 58 5) (shared 0))).serial.slave.mbxState = 0 ∧
    (next (exec (.sp1SlaveWrite true 0x20 [0x18, 0x24, 0x0B, 0x01] 58 5) (shared 0))).o (Obj.SP_CNT_FRAME 1) = 1 := by decide +kernel
theorem test_mailbox_partial : (next (exec (.sp1SlaveWrite true 0x20 [0x18, 0x24, 0x0B, 0x01] 58 5) (shared 1))).serial.slave.mbxState = 1 ∧
    (next (exec (.sp1SlaveWrite true 0x20 [0x18, 0x24, 0x0B, 0x01] 58 5) (shared 1))).serial.slave.mbxIndex = 0x2418 ∧
    (next (exec (.sp1SlaveWrite true 0x20 [0x18, 0x24, 0x0B, 0x01] 58 5) (shared 1))).o (Obj.SP_CNT_FRAME 1) = 1 := by decide +kernel

/-- 14 R495: the mailbox READ that it starts returns 10,000. -/
theorem test_mailbox_read : (next (exec (.mbxCmdRead 5) (upSlave [] { SlaveSt.reset with
    mbxState := 1, mbxCmd := 1, mbxIndex := 0x2418, mbxSub := 0x0B }))).serial.slave.mbxData = 10000 := by decide +kernel

/-- 15, worked example: channel 3 at 1.2500 V sixteen times, code 2,048 each, with HK_AVG 0x44; then two reads. -/
def scan : State :=
  { imgHk { HkConv.reset with busy := true, todo := [3, 7, 22], settled := true, avg := 0x44 } with
    od := (imgWith [(Obj.HK_SCAN_MASK 0, 0x400088), (Obj.HK_AVG 0, 0x44), (Obj.HK_RESULT 0, 0x16000446)]).od }
theorem test_hk_result : (next (exec (.hkConversionResult 0 (List.replicate 16 1250000) 0 5) scan)).o (Obj.HK_RESULT 0) = 0xC3000800 := by
  decide +kernel
theorem test_hk_read : (next (exec (.hkResultRead .host 0 5) (imgWith [(Obj.HK_RESULT 0, 0xC3000800)]))).out = [.value 0xC3000800] ∧
    (next (exec (.hkResultRead .host 0 5) (imgWith [(Obj.HK_RESULT 0, 0xC3000800)]))).o (Obj.HK_RESULT 0) = 0x83000800 := by
  decide +kernel

/-- 16, worked example: four positions of 2048 x 1536 at 60 frames per second: the rate with four slots and with three. -/
def hotFour : State :=
  { img with
    modes := { img.modes with inForce := [(Obj.POS_ENABLE, 15), (Obj.MSL_GROUPS, 0)] }
    gen :=
      ⟨{ GenPos.reset with gov := gset [(Obj.INT_WIDTH 0, 2048), (Obj.INT_HEIGHT 0, 1536), (Obj.INT_SLOT_MASK 0, 15), (Obj.TRIG_MIN_PERIOD 0, 16666667)] },
        { GenPos.reset with gov := gset [(Obj.INT_WIDTH 1, 2048), (Obj.INT_HEIGHT 1, 1536), (Obj.INT_SLOT_MASK 1, 15), (Obj.TRIG_MIN_PERIOD 1, 16666667)] },
        { GenPos.reset with gov := gset [(Obj.INT_WIDTH 2, 2048), (Obj.INT_HEIGHT 2, 1536), (Obj.INT_SLOT_MASK 2, 15), (Obj.TRIG_MIN_PERIOD 2, 16666667)] },
        { GenPos.reset with gov := gset [(Obj.INT_WIDTH 3, 2048), (Obj.INT_HEIGHT 3, 1536), (Obj.INT_SLOT_MASK 3, 15), (Obj.TRIG_MIN_PERIOD 3, 16666667)] }⟩ }
theorem test_throttle_rate : hotFour.rateAt false false = 3019898 ∧ hotFour.rateAt true false = 2264924 := by decide +kernel

/-- 06 R217, R218, worked example: with the edge from 10 ms at row 0 to 40 ms at row 1,536 and a guard of 2 ms, row 0 is clean
from held frame 2 and row 1,535 from held frame 5. -/
theorem test_clean_rows :
    (List.range 6).map (fun k => (rowClean (k * 8333333) 10000 2600 0 0 ((List.range 17).map (fun i => 10000 + 1800000 * i / 960)) 2000,
      rowClean (k * 8333333) 10000 2600 1535 0 ((List.range 17).map (fun i => 10000 + 1800000 * i / 960)) 2000)) =
    [(false, false), (false, false), (true, false), (true, false), (true, false), (true, true)] := by decide +kernel

end Sys2Proof.Tests
end

section
/-!
PROOFS. The state at power-on reset (00 R14).
-/
namespace Sys2Proof.Machine

theorem State.reset_objectsOk : State.reset.objectsOk :=
  ⟨rfl, rfl, fun p => by rw [show State.reset.gen.get p = GenPos.reset from Quad.get_all p _]; exact ⟨rfl, rfl, rfl⟩⟩

theorem State.reset_memoriesOk : State.reset.memoriesOk :=
  ⟨rfl, rfl, fun p => by rw [show State.reset.nv.flash.get p = [] from Quad.get_all p _]; rfl⟩

theorem State.reset_shapesOk : State.reset.shapesOk := ⟨rfl, rfl, rfl, rfl, rfl⟩

theorem State.reset_sound : State.reset.sound := ⟨reset_objectsOk, reset_memoriesOk, reset_shapesOk⟩

/-- Settles O3: the dictionary of the reset state is the empty store, so that every object reads its default; the rest is read off the
state, and its soundness is that of empty stores. -/
theorem powerOnState : Obligations.PowerOnState := by
  unfold Obligations.PowerOnState
  refine ⟨fun k => ?_, fun k => ?_, rfl, rfl, rfl, rfl, rfl, rfl, rfl, State.reset_sound⟩
  · have empty : State.reset.od = [] := rfl
    simp [State.oi, empty, Store.get]
  · have empty : State.reset.doms = [] := rfl
    simp [State.dom, empty]

end Sys2Proof.Machine
end

section
/-!
PROOFS. The canonical form of the dictionary and the settings (07 R260, 11 R384), as an invariant of states, of checked operations and
of answers, with the steps that every operation's proof is made of.
-/
namespace Sys2Proof.Machine

/-! ### The canonical form as an invariant -/

/-- The three settings sets of a position are in their canonical form (07 R260). -/
structure GenPos.Canonical (g : GenPos) : Prop where
  pend : Store.wf Obj.dflt g.pend = true
  act : Store.wf Obj.dflt g.act = true
  gov : Store.wf Obj.dflt g.gov = true

/-- `State.objectsOk` with its parts named. -/
structure State.Canonical (s : State) : Prop where
  od : Store.wf Obj.dflt s.od = true
  inForce : Store.wf Obj.dflt s.modes.inForce = true
  gen : ∀ p, (s.gen.get p).Canonical

theorem State.canonical_iff_objectsOk {s : State} : s.Canonical ↔ s.objectsOk :=
  ⟨fun h => ⟨h.od, h.inForce, fun p => ⟨(h.gen p).pend, (h.gen p).act, (h.gen p).gov⟩⟩,
    fun ⟨od, inForce, gen⟩ => ⟨od, inForce, fun p => ⟨(gen p).1, (gen p).2.1, (gen p).2.2⟩⟩⟩

/-- What a checked operation answers is canonical when it is a state. -/
def Res.Canonical (r : Res) : Prop := ∀ u, r = .ok u → u.Canonical

/-- What a command answers is canonical when it is a next state. -/
def Ans.Canonical (a : Ans) : Prop := ∀ u, a = .next u → u.Canonical

theorem GenPos.Canonical.upd {g g' : GenPos} (h : g.Canonical) (pend : g'.pend = g.pend := by rfl) (act : g'.act = g.act := by rfl)
    (gov : g'.gov = g.gov := by rfl) : g'.Canonical :=
  ⟨pend ▸ h.pend, act ▸ h.act, gov ▸ h.gov⟩

theorem GenPos.Canonical.setPend {g g' : GenPos} (h : g.Canonical) (k : Nat) (v : Int)
    (pend : g'.pend = Store.set Obj.dflt g.pend k v := by rfl) (act : g'.act = g.act := by rfl)
    (gov : g'.gov = g.gov := by rfl) : g'.Canonical :=
  ⟨pend ▸ Store.wf_set h.pend k v, act ▸ h.act, gov ▸ h.gov⟩

theorem Res.Canonical.ok {u : State} (h : u.Canonical) : Res.Canonical (.ok u) := by
  rintro _ ⟨⟩
  exact h

theorem Res.Canonical.error {c : Nat} : Res.Canonical (.error c) := by
  rintro _ ⟨⟩

theorem Res.Canonical.ite {c : Prop} [Decidable c] {a b : Res} (ha : a.Canonical) (hb : b.Canonical) :
    Res.Canonical (if c then a else b) := by
  split
  · exact ha
  · exact hb

theorem Res.Canonical.map {a : Res} {f : State → State} (ha : a.Canonical) (hf : ∀ s, s.Canonical → (f s).Canonical) :
    Res.Canonical (a.map f) := by
  cases a with
  | error c => exact .error
  | ok u => exact .ok (hf u (ha u rfl))

theorem Ans.Canonical.next {u : State} (h : u.Canonical) : Ans.Canonical (.next u) := by
  rintro _ ⟨⟩
  exact h

theorem Ans.Canonical.fault {c : Fault} : Ans.Canonical (.fault c) := by
  rintro _ ⟨⟩

theorem Ans.Canonical.ite {c : Prop} [Decidable c] {a b : Ans} (ha : a.Canonical) (hb : b.Canonical) :
    Ans.Canonical (if c then a else b) := by
  split
  · exact ha
  · exact hb

/-- Each command that an object key may name answers a canonical state. -/
def CmdsCanonical (o : Option (State → Res)) : Prop := ∀ op, o = some op → ∀ s : State, s.Canonical → (op s).Canonical

theorem CmdsCanonical.none : CmdsCanonical none := by
  rintro _ ⟨⟩

theorem CmdsCanonical.some {op : State → Res} (h : ∀ s : State, s.Canonical → (op s).Canonical) : CmdsCanonical (some op) := by
  rintro _ ⟨⟩
  exact h

theorem CmdsCanonical.ite {c : Prop} [Decidable c] {a b : Option (State → Res)} (ha : CmdsCanonical a) (hb : CmdsCanonical b) :
    CmdsCanonical (if c then a else b) := by
  split
  · exact ha
  · exact hb

theorem CmdsCanonical.map {α : Type} {o : Option α} {f : α → State → Res} (h : ∀ a s, State.Canonical s → (f a s).Canonical) :
    CmdsCanonical (o.map f) := by
  cases o with
  | none => exact .none
  | some a => exact .some (h a)

namespace State.Canonical

variable {s u : State} {p : Pos} {via : Via} {r : Req} {t : Nat}

/-- A record update that leaves the dictionary, the mode state and the settings sets. -/
theorem upd {pending out doms time boot ops chain bar0 nv lanes aligned intake link fpa sp0 pipe coef vdet stat ecl shut windows enc0 enc1
    tg chan trig trigOut out0 out1 taps mem host dma rings ingots serial hk therm pwr sec dbg free}
    (h : s.Canonical) : State.Canonical { s with
      pending, out, doms, time, boot, ops, chain, bar0, nv, lanes, aligned, intake, link, fpa, sp0, pipe, coef, vdet, stat, ecl,
      shut, windows, enc0, enc1, tg, chan, trig, trigOut, out0, out1, taps, mem, host, dma, rings, ingots, serial, hk, therm, pwr,
      sec, dbg, free } :=
  ⟨h.od, h.inForce, h.gen⟩

/-- A record update of the mode state but for the settings in force. -/
theorem updModes {orphan armed running joined txn since prevMode prevTxn eclReturn hist causes} (h : s.Canonical) :
    State.Canonical { s with modes := { s.modes with
      orphan, armed, running, joined, txn, since, prevMode, prevTxn, eclReturn, hist, causes } } :=
  ⟨h.od, h.inForce, h.gen⟩

/-- An operation whose frame law lets it change none of the three stores. -/
theorem frame {l : List Part} (h : s.Canonical) (k : s.keeps l u)
    (hl : Part.od ∉ l ∧ Part.modes ∉ l ∧ Part.gen ∉ l := by decide) : u.Canonical :=
  ⟨k.od hl.1 ▸ h.od, k.modes hl.2.1 ▸ h.inForce, k.gen hl.2.2 ▸ h.gen⟩

theorem ite {c : Prop} [Decidable c] {a b : State} (ha : a.Canonical) (hb : b.Canonical) : (if c then a else b).Canonical := by
  split
  · exact ha
  · exact hb

theorem foldl {α : Type} {f : State → α → State} {l : List α} (h : s.Canonical)
    (hf : ∀ s a, s.Canonical → (f s a).Canonical) : (l.foldl f s).Canonical := by
  induction l generalizing s with
  | nil => exact h
  | cons a l ih => exact ih (hf s a h)

theorem iteFst {α : Type} {c : Prop} [Decidable c] {a b : State × α} (ha : a.1.Canonical) (hb : b.1.Canonical) :
    (if c then a else b).1.Canonical := by
  split
  · exact ha
  · exact hb

theorem foldlFst {α β : Type} {f : State × β → α → State × β} {l : List α} {x : State × β} (h : x.1.Canonical)
    (hf : ∀ x a, x.1.Canonical → (f x a).1.Canonical) : (l.foldl f x).1.Canonical := by
  induction l generalizing x with
  | nil => exact h
  | cons a l ih => exact ih (hf x a h)

/-- The state of a pair that a pattern took apart. -/
theorem of_fst {α : Type} {x : State × α} {a : α} (h : x.1.Canonical) (e : x = (u, a)) : u.Canonical := by
  subst e
  exact h

theorem reset : State.reset.Canonical := canonical_iff_objectsOk.mpr State.reset_objectsOk
end State.Canonical
end Sys2Proof.Machine
end

section
/-!
PROOFS. The canonical form over the operations that the chapters share: one lemma per operation of the model, in its order. A proof
follows the definition: its branches by `ite` or `split`, its loops by `foldl`, its record updates by `upd`, and an operation whose frame
law names none of the three stores by `frame`.
-/
namespace Sys2Proof.Machine
namespace State.Canonical
set_option Elab.async false

variable {s u : State} {p : Pos} {via : Via} {r : Req} {t : Nat}

/-! ### Machine/Ops -/

theorem setO {k : Nat} {v : Int} (h : s.Canonical) : (s.setO k v).Canonical := ⟨Store.wf_set h.od k v, h.inForce, h.gen⟩
theorem setOs {l : List (Nat × Int)} (h : s.Canonical) : (s.setOs l).Canonical := h.foldl fun _ _ h => h.setO
theorem inc {k : Nat} (h : s.Canonical) : (s.inc k).Canonical := h.setO
theorem incBy {k n : Nat} (h : s.Canonical) : (s.incBy k n).Canonical := h.setO
theorem incWrap {k : Nat} (h : s.Canonical) : (s.incWrap k).Canonical := h.setO

theorem clearIdx {i0 i1 : Nat} (h : s.Canonical) : (s.clearIdx i0 i1).Canonical :=
  ⟨Store.wf_dropRange h.od _ _, h.inForce, h.gen⟩

theorem logRoom (h : s.Canonical) : s.logRoom.Canonical := .ite h h.upd.inc
theorem logStore {b : List Byte} (h : s.Canonical) : (s.logStore b).Canonical := h.upd.setO

theorem logAdd {code pos source detail : Nat} {data : List Byte} (h : s.Canonical) :
    (s.logAdd code pos source detail data).Canonical := h.logRoom.logStore.frame State.logLimit_keeps

theorem logRaw {code pos source detail : Nat} {data : List Byte} (h : s.Canonical) :
    (s.logRaw code pos source detail data).Canonical := .ite h h.logAdd

theorem log {code pos : Nat} {fs : List (Nat × Nat)} (h : s.Canonical) : (s.log code pos fs).Canonical := h.logRaw

theorem logEvt {e : Evt} {pos detail : Nat} {fs : List (Nat × Nat)} (h : s.Canonical) : (s.logEvt e pos detail fs).Canonical :=
  h.logRaw

theorem nvFailed {a : Nat} (h : s.Canonical) : (s.nvFailed a).Canonical := h.upd.logEvt
theorem setKeep {a : Nat} {bs : List Byte} (h : s.Canonical) : (s.setKeep a bs).Canonical := .ite h.upd.nvFailed h.upd

theorem setTwoSlot {a v : Nat} (h : s.Canonical) : (s.setTwoSlot a v).Canonical := by
  unfold State.setTwoSlot
  split
  exact h.setKeep

theorem slotsBad {a : Nat} (h : s.Canonical) : (s.slotsBad a).Canonical := h.upd.inc.log
theorem updTwoSlot {a v : Nat} (h : s.Canonical) : (s.updTwoSlot a v).Canonical := .setTwoSlot (.ite h.slotsBad h)
theorem bumpCounter {k obj : Nat} (h : s.Canonical) : (s.bumpCounter k obj).Canonical := .ite h h.updTwoSlot.setO

theorem notifySend {code pos : Nat} {fs : List (Nat × Nat)} (h : s.Canonical) : (s.notifySend code pos fs).Canonical :=
  .ite h.inc h.upd

theorem notifyRest {code pos : Nat} {fs : List (Nat × Nat)} (h : s.Canonical) : (s.notifyRest code pos fs).Canonical :=
  ((h.frame State.raise_keeps).setO.frame State.notifyWindow_keeps).notifySend

theorem notify {code pos : Nat} {fs : List (Nat × Nat)} (h : s.Canonical) : (s.notify code pos fs).Canonical :=
  .ite h h.log.notifyRest

theorem notifyCause {code pos : Nat} {fs : List (Nat × Nat)} (h : s.Canonical) : (s.notifyCause code pos fs).Canonical :=
  .ite h h.logAdd.notifyRest

theorem markExpert {k : Nat} (h : s.Canonical) : (s.markExpert k).Canonical := by
  unfold State.markExpert
  split
  exacts [h.setO, h]

theorem refuse {key code : Nat} (h : s.Canonical) : (s.refuse via key code).Canonical := by
  unfold State.refuse
  split
  exacts [h.setO.setO.frame State.raise_keeps, h.upd, h.upd, h]

theorem failNoted {key code : Nat} (h : s.Canonical) : (s.failNoted key code).Canonical := by
  unfold State.failNoted
  refine .ite h.logEvt ?_
  refine .ite ?_ h
  split
  exacts [.ite h.nvFailed h, h]

theorem dropHeld (h : s.Canonical) : s.dropHeld.Canonical := .ite h.upd.inc h

theorem onPath {f : State → State} (h : s.Canonical) (hf : ∀ s, s.Canonical → (f s).Canonical) : (s.onPath via f).Canonical := by
  unfold State.onPath
  split
  · exact .ite h (.ite h.upd (.ite h (hf _ h)))
  · exact .ite h (hf _ h)

theorem writeOf (h : s.Canonical) : (s.writeOf via).Canonical := by
  unfold State.writeOf
  split
  exacts [h.dropHeld, h]

theorem command {key lvl : Nat} {op : State → Res} (h : s.Canonical) (hop : ∀ s, s.Canonical → (op s).Canonical) :
    Res.Canonical (s.command via key lvl op) := by
  unfold State.command
  refine .ite .error ?_
  split
  · exact .ok (.markExpert (hop _ (h.frame State.touch_keeps) _ ‹_›))
  · exact .error

theorem runCommand {key : Nat} {r : State → Res} (h : s.Canonical) (hr : ∀ s, s.Canonical → (r s).Canonical) :
    (s.runCommand via key t r).Canonical := by
  unfold State.runCommand
  refine h.upd.onPath fun s h => ?_
  extract_lets s1
  have h1 : s1.Canonical := h.writeOf
  split
  · exact hr _ h1 _ ‹_›
  · exact h1.failNoted.refuse

/-! ### Machine/PowerOps -/

theorem wantOn {d : Nat} (h : s.Canonical) : (s.wantOn d).Canonical := .ite h.upd (.ite h h.upd.setO)
theorem domCut {d : Nat} (h : s.Canonical) : (s.domCut d).Canonical := .ite h.upd.setO.upd h.upd.setO
theorem cutOff {d : Nat} (h : s.Canonical) : (s.cutOff d).Canonical := .ite h h.domCut
theorem wantOff {d : Nat} (h : s.Canonical) : (s.wantOff d).Canonical := .ite h (.ite h.upd (.ite h.upd h.domCut))
theorem demand {d : Nat} (h : s.Canonical) : (s.demand d).Canonical := .ite h h.wantOn
theorem railCut {d : Nat} (h : s.Canonical) : (s.railCut d).Canonical := .ite h.domCut.upd (.ite h.upd h.upd)
theorem railOff (h : s.Canonical) : (s.railOff p).Canonical := .ite h.railCut.upd h.railCut.railCut
theorem vdetRamp {code : Nat} (h : s.Canonical) : (s.vdetRamp p code).Canonical := h.upd.setO

/-! ### Machine/OutOps -/

theorem dramLost (h : s.Canonical) : s.dramLost.Canonical := h.upd.incWrap.setOs

theorem cutSlot {r k : Nat} (h : s.Canonical) : (s.cutSlot r k).Canonical := by
  unfold State.cutSlot
  refine h.foldl fun s _ h => ?_
  split
  exacts [.ite (h.frame State.setOutPort_frame).inc h, h]

theorem requestOf {c : Nat} (h : s.Canonical) : (s.requestOf c).Canonical := .ite (.setO (.ite h.upd h.upd)) (.ite h.upd h.upd)
theorem requestLine {line : Nat} (h : s.Canonical) : (s.requestLine line).Canonical := h.foldl fun _ _ h => .ite h.requestOf h

theorem endDesc {c : Nat} (h : s.Canonical) : (s.endDesc c).Canonical := by
  unfold State.endDesc
  split
  · exact h
  · extract_lets _ _ _ _ _ _ _ _ s1
    have h1 : s1.Canonical := .ite ((h.frame State.readBack_frame).frame State.dropHold_frame).upd.inc.setO.inc
        ((h.frame State.readBack_frame).frame State.dropHold_frame).upd.inc.setO
    exact .ite (h1.frame State.raise_keeps) h1

theorem dmaDrop (h : s.Canonical) : s.dmaDrop.Canonical :=
  .inc (h.foldl fun _ _ h => .ite (h.frame State.dropHold_frame).upd.setO h)

theorem dmaSafe (h : s.Canonical) : s.dmaSafe.Canonical := by
  unfold State.dmaSafe
  refine h.foldl fun s _ h => ?_
  split
  exacts [h.upd.endDesc, .ite (h.setO.frame State.raise_keeps) h]

theorem dmaStandby (h : s.Canonical) : s.dmaStandby.Canonical := by
  unfold State.dmaStandby
  refine h.foldl fun s _ h => ?_
  split
  exacts [h.upd.setO, .ite (h.setO.frame State.raise_keeps) h]

theorem discardSlot {why : Discard} {r k : Nat} (h : s.Canonical) : (s.discardSlot why r k).Canonical := by
  unfold State.discardSlot
  extract_lets _ s1
  have h1 : s1.Canonical := .ite (h.frame State.dmaDiscard_frame) h
  exact .ite h (.frame (.ite h1.cutSlot h1.inc) State.release_frame)

theorem discardIf {why : Discard} {p : RingSlot → Bool} (h : s.Canonical) : (s.discardIf why p).Canonical :=
  h.foldl fun _ _ h => .ite h.discardSlot h

theorem discardRole {role : Nat} (h : s.Canonical) : (s.discardRole role).Canonical := .ite h h.discardIf
theorem discardMode (h : s.Canonical) : s.discardMode.Canonical := h.discardIf

theorem stopHold {b : Bool} (h : s.Canonical) : (s.stopHold b).Canonical := by
  unfold State.stopHold
  extract_lets
  split
  exacts [h, h.setO.frame State.setOutPort_frame]

theorem portOff {b : Bool} (h : s.Canonical) : (s.portOff b).Canonical := h.stopHold.frame State.setOutPort_frame
theorem outOff (h : s.Canonical) : s.outOff.Canonical := h.portOff.portOff

/-! ### Machine/GenOps -/

/-- The one write of a position's settings sets. -/
theorem setGen {g : GenPos} (h : s.Canonical) (hg : g.Canonical) : (s.setGen p g).Canonical :=
  ⟨h.od, h.inForce, fun q => by
    rw [State.setGen, Quad.get_set]
    split
    · exact hg
    · exact h.gen q⟩

theorem setPending {k : Nat} {v : Int} (h : s.Canonical) : (s.setPending p k v).Canonical :=
  .setO (h.setGen ((h.gen p).setPend _ _))

theorem setEstimates (h : s.Canonical) : s.setEstimates.Canonical := h.foldl fun _ _ h => h.setO
theorem showLoads (h : s.Canonical) : s.showLoads.Canonical := h.setOs.setEstimates

theorem fixLoads (h : s.Canonical) : s.fixLoads.Canonical :=
  .showLoads (.foldl (h.foldl fun _ _ h => h.frame State.layRing_frame) fun _ _ h => .ite h (h.frame State.layRing_frame))

theorem activate (h : s.Canonical) : (s.activate p).Canonical :=
  .setO (.incWrap (h.setGen ⟨(h.gen p).pend, (h.gen p).pend, (h.gen p).gov⟩))

theorem acceptPos (h : s.Canonical) : (s.acceptPos p).Canonical := by
  unfold State.acceptPos
  extract_lets _ _ s1
  have h1 : s1.Canonical := .ite h.inc.logEvt h
  exact .ite h1 (.ite h1.activate.setO (.setO (.setO (h1.setGen (h.gen p).upd))))

theorem commit {mask : Nat} (h : s.Canonical) : Res.Canonical (s.commit mask) := by
  unfold State.commit
  extract_lets
  refine .ite .error ?_
  split
  exacts [.ok (.fixLoads (h.foldl fun _ _ h => h.acceptPos)), .error, .error]

theorem dropDecision (h : s.Canonical) : (s.dropDecision p).Canonical := .ite (.inc (h.setGen ((h.gen p).setPend _ _))) h
theorem countRefused {mask : Nat} (h : s.Canonical) : (s.countRefused mask).Canonical := h.foldl fun _ _ h => h.inc.dropDecision

theorem discardGen {mask : Nat} (h : s.Canonical) : Res.Canonical (s.discardGen mask) :=
  .ite .error (.ok (h.foldl fun _ p h => .setO (h.setGen ⟨(h.gen p).act, (h.gen p).act, (h.gen p).gov⟩)))

/-! ### Machine/SensorOps -/

theorem startRefused {tag : Nat} (h : s.Canonical) : (s.startRefused p tag).Canonical := h.upd.setO.upd.setOs

theorem wordRefused {w : Sp0Word} {count : Bool} (h : s.Canonical) : (s.wordRefused p w count).Canonical := by
  unfold State.wordRefused
  extract_lets s1
  have h1 : s1.Canonical := .ite h.inc h
  exact .ite (.ite h1.upd h1.upd) (.ite (.ite h1.upd h1.upd) (.ite h1.startRefused h1))

theorem gotId {v : Nat} (h : s.Canonical) : (s.gotId p v).Canonical := .ite h.upd h.upd.setO

theorem fpaReply {r : Nat} {next : Sp0Word} (h : s.Canonical) : (s.fpaReply p r next).Canonical := by
  unfold State.fpaReply
  extract_lets
  split
  · exact h
  · refine .ite ?_ ?_
    · split
      exacts [.ite h.upd h.upd, .ite h.upd h.upd.wordRefused, h.upd, h.upd.gotId, h.upd]
    · refine .ite h.upd.wordRefused ?_
      refine .ite (.ite h.upd h.upd.wordRefused) ?_
      exact .ite (.ite h.upd.gotId h.upd.wordRefused) (.ite (.ite h.upd h.upd.wordRefused) h.upd)

theorem sp0Release {sel : Pos} {words : List Nat} (h : s.Canonical) : (s.sp0Release sel words).Canonical := by
  unfold State.sp0Release
  split
  exacts [h, h.upd.foldl fun _ _ h => h.fpaReply.upd]

theorem endBlank {num : Nat} (h : s.Canonical) : (s.endBlank p num).Canonical := by
  unfold State.endBlank
  extract_lets _ bad _ s1 s2
  have h1 : s1.Canonical := h.upd
  have h2 : s2.Canonical := .ite (.inc (.upd h1)) h1
  refine .ite h ?_
  cases bad with
  | nil => exact h2
  | cons => exact h2.notify

theorem loseAlignment {g : Nat} (h : s.Canonical) : (s.loseAlignment g).Canonical :=
  .foldl (.upd (.ite h.upd.inc h)) fun _ _ h => h.upd

theorem takePacket {g : Nat} {b : List Byte} {malformed : Bool} (h : s.Canonical) : (s.takePacket g b malformed).1.Canonical := by
  unfold State.takePacket
  refine .iteFst ?_ ?_
  · extract_lets
    split
    exacts [h.inc.inc, h.inc]
  · split
    exacts [h.inc, .iteFst h.inc h]

theorem push {r : RowPkt} (h : s.Canonical) : (s.push p r).Canonical := .ite h.upd.setO h.upd

theorem fillRow {k : Pos} (h : s.Canonical) : (s.fillRow p k).Canonical := by
  unfold State.fillRow
  split
  · exact h
  · extract_lets
    split
    exacts [.ite h.upd.incBy.push h, h]

theorem fillRows {k : Pos} {row : Nat} (h : s.Canonical) : (s.fillRows p k row).Canonical := by
  unfold State.fillRows
  split
  exacts [h, .ite (h.upd.incBy.foldl fun _ _ h => h.push) h]

theorem truncate {n : Nat} (h : s.Canonical) : (s.truncate p n).Canonical := by
  unfold State.truncate
  split
  exacts [.ite h h.upd.incBy, h]

theorem overflowed (h : s.Canonical) : (s.overflowed p).Canonical := by
  unfold State.overflowed
  split
  exacts [.ite h.inc h.inc.upd.notify, h]

theorem acceptRow {k : Pos} {row col0 : Nat} {data : List Nat} {fault : Bool} {subt : Option Nat} {shared : Bool} {bytes : Nat}
    (h : s.Canonical) : (s.acceptRow p k row col0 data fault subt shared bytes).Canonical := by
  unfold State.acceptRow
  split
  · exact h
  · extract_lets _ _ _ _ _ _ _ _ _ _ _ _ s1 s2
    have h1 : s1.Canonical := .incBy (.upd (.truncate (.ite h h.fillRow.fillRows)))
    have h2 : s2.Canonical := .ite h1.push h1
    exact .push (.ite h2.inc h2)

theorem offerRow {k : Pos} {row col0 : Nat} {data : List Nat} {fault : Bool} {subt : Option Nat} (h : s.Canonical) :
    (s.offerRow p k row col0 data fault subt).Canonical := by
  unfold State.offerRow
  split
  · exact h
  · extract_lets
    refine .ite h.inc ?_
    refine .ite h.truncate.upd ?_
    refine .ite h.inc ?_
    split
    exacts [h.overflowed, h.acceptRow]

theorem stray (h : s.Canonical) : (s.stray p).Canonical := h.inc

theorem intakeClose {cause at_ : Nat} (h : s.Canonical) : (s.intakeClose p cause at_).Canonical := by
  unfold State.intakeClose
  split
  · exact h
  · extract_lets s1 _ s2 s3 s4
    have h1 : s1.Canonical := h.foldl fun _ _ h => h.fillRow.fillRows
    have h2 : s2.Canonical := .ite h1.inc h1
    have h3 : s3.Canonical := .ite h2.inc h2
    have h4 : s4.Canonical := .ite h3 h3.inc
    exact .setO (.upd (.ite h4.inc h4))

theorem intakeDiscard (h : s.Canonical) : (s.intakeDiscard p).Canonical := .upd (.ite h.setO h)
theorem applyShadow (h : s.Canonical) : (s.applyShadow p).Canonical := h.upd.setO.setOs

/-! ### Machine/TrigOps -/

theorem trigEvent {st : Start} (h : s.Canonical) : (s.trigEvent p st).Canonical :=
  .ite h (.ite h.inc (.ite h.inc (.ite h.inc h.upd)))

theorem commitStart {at_ : Nat} {st : Start} (h : s.Canonical) : (s.commitStart p at_ st).Canonical := .ite h.upd.inc h.upd

theorem notAllowed {st : Start} (h : s.Canonical) : (s.notAllowed p st).Canonical :=
  .ite (h.upd.inc.frame State.computeHeld_frame) h.inc

theorem decide_ (h : s.Canonical) : (s.decide_ p).Canonical := by
  unfold State.decide_
  split
  exacts [h, .ite h (.ite (.commitStart (.ite h.upd.inc h.upd)) (.notAllowed (.ite h.upd.inc h.upd)))]

theorem deliver {source : Nat} {st : Start} (h : s.Canonical) : (s.deliver source st).Canonical :=
  h.foldl fun _ _ h => .ite h.trigEvent h

theorem genEvent {g : Pos} (h : s.Canonical) : (s.genEvent g t).Canonical := by
  unfold State.genEvent
  extract_lets _ _ _ _ _ _ _ s1 s2
  have h1 : s1.Canonical := h.upd.inc.setO.foldl fun _ _ h => h.upd
  have h2 : s2.Canonical := .ite (h1.frame State.publish_frame) (.ite h1.inc h1)
  exact .ite h.inc (.ite h2.deliver.deliver h2.deliver)

theorem countReached {e : Nat} {up : Bool} (h : s.Canonical) : (s.countReached e up t).Canonical := by
  unfold State.countReached
  refine h.foldl fun s _ h => ?_
  refine .ite ?_ h
  extract_lets
  split
  exacts [.ite h.upd.genEvent h, .ite h.upd.genEvent h, .ite h.upd.genEvent h, .ite h.upd.genEvent h, h]

theorem timeState {n : Nat} (h : s.Canonical) : (s.timeState n).Canonical :=
  .setO (.upd (.ite (.setO (.upd (.ite h.inc h))) (.ite h.inc h)))

theorem moveTimers {d : Int} (h : s.Canonical) : (s.moveTimers d).Canonical := ⟨h.od, h.inForce, h.gen⟩

theorem stepTime {to_ : Nat} (h : s.Canonical) : (s.stepTime to_).Canonical :=
  .notify (.inc ((h.upd.moveTimers.frame State.discardAllStarts_frame).foldl fun _ _ h => h.upd))

/-! ### Machine/PipeOps -/

theorem stampRow {r k start : Nat} {invalid : List Bool} (h : s.Canonical) : (s.stampRow p r k start invalid).Canonical :=
  .ite h.upd (.ite h.inc h.upd)

theorem toBuffer {k r : Nat} {px : List CorrPx} {synth : Bool} (h : s.Canonical) : (s.toBuffer p k r px synth).Canonical :=
  (h.frame State.eclCapture_frame).upd.incBy

theorem nativeRow {x : FrameCtx} {r : RowPkt} {es : List Entry} (h : s.Canonical) : (s.nativeRow p x r es).Canonical :=
  h.incBy.toBuffer

theorem herTnr {x : FrameCtx} {i : HerRow} {v : List Nat} (h : s.Canonical) : (s.herTnr p x i v).1.Canonical :=
  .iteFst (.stampRow (h.foldl fun _ _ h => .ite h h.upd)) h

theorem herRow {x : FrameCtx} {up mid dn : HerRow} (h : s.Canonical) : (s.herRow p x up mid dn).Canonical := h.herTnr.toBuffer

theorem heritageRow {x : FrameCtx} {r : RowPkt} {es : List Entry} (h : s.Canonical) : (s.heritageRow p x r es).Canonical := by
  unfold State.heritageRow
  extract_lets _ _ _ _ _ _ _ s1
  have h1 : s1.Canonical := by
    unfold s1
    split
    exacts [.ite h.upd h.upd.herRow, h.upd]
  exact .ite h.upd (.upd (.ite h1.herRow h1))

theorem enterSlice (h : s.Canonical) : (s.enterSlice p).Canonical := by
  unfold State.enterSlice
  split
  · split
    · refine .ite ?_ h
      extract_lets _ s1
      have h1 : s1.Canonical := h.upd.frame State.takeSample_frame
      exact .ite h1.upd.heritageRow h1.upd.nativeRow
    · exact h
  · exact h

theorem tailWrite {k r : Nat} {ts : List TailStep} (h : s.Canonical) : (s.tailWrite p k r ts).Canonical := by
  unfold State.tailWrite
  extract_lets s1
  have h1 : s1.Canonical := by
    unfold s1
    refine h.foldl fun s _ h => ?_
    split
    exacts [h.upd, h]
  exact h1.upd.incBy.incBy

theorem toMerge {x : FrameCtx} {k r : Nat} {px : List TailPx} {errs : List Bool} (h : s.Canonical) :
    (s.toMerge p x k r px errs).Canonical := .ite (.inc (h.upd.foldl fun _ _ h => h.upd)) h.upd

theorem countRepl {row : List ReplPx} (h : s.Canonical) : (s.countRepl p row).Canonical := h.incBy.incBy.incBy

theorem rowOut {x : FrameCtx} {k r : Nat} {row : List CorrPx} (h : s.Canonical) : (s.rowOut p x k r row).Canonical := by
  unfold State.rowOut
  extract_lets _ _ s1
  have h1 : s1.Canonical := h.upd.countRepl
  exact .ite (h1.frame State.tapRow_frame).toMerge (h1.tailWrite.stampRow.frame State.tapRow_frame).toMerge

theorem replaceRow {k : Pos} (h : s.Canonical) : (s.replaceRow p k).Canonical := by
  unfold State.replaceRow
  split
  · exact h
  · extract_lets
    split
    exacts [.ite h.rowOut h, h]

theorem countMerge {px : List (MergedPx × OutPx × Bool)} (h : s.Canonical) : (s.countMerge p px).Canonical :=
  h.incBy.incBy.incBy.incBy

theorem merge (h : s.Canonical) : (s.merge p).Canonical := by
  unfold State.merge
  split
  exacts [h, .ite (h.upd.countMerge.frame State.tapPut_frame) h]

theorem publishStats {x : FrameCtx} (h : s.Canonical) : (s.publishStats p x).Canonical := h.upd.setO.setO.setO

theorem aiApply {m : Nat} (h : s.Canonical) : (s.aiApply p m).Canonical := by
  unfold State.aiApply
  extract_lets _ s1
  have h1 : s1.Canonical := h.setGen ((h.gen p).setPend _ _)
  refine .ite h1 ?_
  split
  · exact h1.commit _ ‹_›
  · exact h1.countRefused

theorem aiEvaluate {x : FrameCtx} (h : s.Canonical) : (s.aiEvaluate p x).Canonical := by
  unfold State.aiEvaluate
  refine .ite h ?_
  extract_lets _ _ _ _ _ _ _ _ g s1
  have hg : g.Canonical := (h.gen p).upd
  have h1 : s1.Canonical := h.setGen hg
  refine .ite h1 ?_
  split
  exacts [h1.setGen hg.upd, h1.setGen hg.upd, .aiApply (h1.setGen hg.upd)]

theorem carryTrack {x : FrameCtx} (h : s.Canonical) : (s.carryTrack p x).Canonical :=
  .ite (.upd (.ite h h.setO)) (.inc (.upd (.ite h h.setO)))

theorem endDrain (h : s.Canonical) : (s.endDrain p).Canonical := by
  unfold State.endDrain
  split
  · refine .ite h ?_
    exact (((h.publishStats.frame State.eclDrained_frame).carryTrack.frame State.takeTaps_frame).upd.aiEvaluate.frame
        State.raise_keeps).requestLine
  · exact h

/-! ### Machine/CoefOps -/

theorem opStart {k total : Nat} (h : s.Canonical) : (s.opStart k total).Canonical := h.setOs.frame State.raise_keeps
theorem opAt {k pos : Nat} (h : s.Canonical) : (s.opAt k pos).Canonical := h.setOs

theorem opEnd {k st result : Nat} (h : s.Canonical) : (s.opEnd k st result).Canonical :=
  .frame (.setOs (.ite h.opAt h)) State.raise_keeps

theorem coefToOpen (h : s.Canonical) : (s.coefToOpen p).Canonical := h.upd.setO
theorem coefOpen (h : s.Canonical) : Res.Canonical (s.coefOpen p) := .ite .error (.ite .error (.ok h.coefToOpen))
theorem coefClose (h : s.Canonical) : Res.Canonical (s.coefClose p) := .ite .error (.ite .error (.ok h.setO))
theorem coefInvalidate (h : s.Canonical) : (s.coefInvalidate p).Canonical := .ite h.setO h
theorem expandRanges (h : s.Canonical) : (s.expandRanges p).Canonical := .upd (h.foldl fun _ _ h => .ite h.upd.setO h.setO)

theorem closeCheck {source : Nat} (h : s.Canonical) : (s.closeCheck p source).Canonical := by
  unfold State.closeCheck
  extract_lets _ s1
  have h1 : s1.Canonical := (h.frame State.relabel_frame).expandRanges.incBy
  exact .ite h1.upd.setOs h1.setO

theorem tauMedian (h : s.Canonical) : (s.tauMedian p).Canonical := by
  unfold State.tauMedian
  extract_lets
  split
  exacts [h.setO, h]

theorem writeRad {b : List Byte} (h : s.Canonical) : (s.writeRad p b).Canonical := h.foldl fun _ _ h => h.upd.setOs

theorem importKt2c {k : List Byte} {w i : Nat} (h : s.Canonical) : (s.importKt2c k w i).Canonical := by
  unfold State.importKt2c
  extract_lets _ _ _ _ _ s1
  have h1 : s1.Canonical := .foldl (.setOs (h.foldl fun _ _ h => h.upd)) fun _ _ h => h.setPending
  split
  exacts [h1.commit _ ‹_›, h1.countRefused]

theorem writeArchive {heritage : Bool} {b : List Byte} (h : s.Canonical) : (s.writeArchive p heritage b).Canonical := by
  unfold State.writeArchive
  extract_lets _ _ s1 s2 s3 s4 _ _ s5
  have h1 : s1.Canonical := by
    unfold s1
    split
    exacts [h.frame State.writePlane_frame, h]
  have h2 : s2.Canonical := ((h1.frame State.writePlane_frame).frame State.writePlane_frame).upd
  have h3 : s3.Canonical := by
    unfold s3
    split
    exacts [h2.importKt2c, h2]
  have h4 : s4.Canonical := by
    unfold s4
    split
    exacts [h3.writeRad, h3]
  have h5 : s5.Canonical := h4.upd.setOs
  exact .ite h5.logEvt h5

theorem loadFailed {st result : Nat} (h : s.Canonical) : (s.loadFailed p st result).Canonical := h.upd.setO.inc.opEnd.setO

/-! ### Machine/EclOps -/

theorem setPhase {n : Nat} (h : s.Canonical) : (s.setPhase p n).Canonical := h.setO
theorem becomeDue (h : s.Canonical) : (s.becomeDue p).Canonical := .ite h.upd.setPhase h.upd

theorem eclRequest {kind : Nat} (h : s.Canonical) : Res.Canonical (s.eclRequest p kind) :=
  .ite .error (.ite .error (.ok h.becomeDue.upd))

theorem addWindow {w : Window} (h : s.Canonical) : (s.addWindow w).Canonical := by
  unfold State.addWindow
  extract_lets s1
  have h1 : s1.Canonical := h.frame State.keepCovered_frame
  exact .ite h1 (.ite h1.upd h1.upd.inc)

theorem eclIdle (h : s.Canonical) : (s.eclIdle p).Canonical := h.upd.setPhase
theorem grant {window : Option Nat} (h : s.Canonical) : (s.grant p window).Canonical := h.upd.setPhase

theorem eclEarly {result : Nat} (h : s.Canonical) : (s.eclEarly p result).Canonical :=
  .ite h.setO.inc.upd.eclIdle (.ite h.setO.inc.upd.setPhase h.setO.inc.upd.setPhase)

theorem openingFailed (h : s.Canonical) : (s.openingFailed p).Canonical :=
  .eclIdle (.upd (.ite (.upd (.ite h.setO h)) (.ite h.setO h)))

theorem pulseFailed {x : Pulse} (h : s.Canonical) : (s.pulseFailed x).Canonical :=
  .ite (.ite h.eclEarly h) (.ite (.ite h.openingFailed h.upd) (.ite (.ite h.upd h) (.ite h h.upd)))

theorem shutterFault (h : s.Canonical) : (s.shutterFault p).Canonical := h.upd.notify
theorem pulseFault {x : Pulse} (h : s.Canonical) : (s.pulseFault x).Canonical := h.upd.shutterFault.pulseFailed
theorem pulseDone {x : Pulse} (h : s.Canonical) : (s.pulseDone x).Canonical := .ite (.ite h.upd.setPhase h.upd) h.upd

theorem pulseBegin {x : Pulse} (h : s.Canonical) : (s.pulseBegin x).Canonical :=
  .ite (.ite h.upd.bumpCounter.upd h.upd.bumpCounter) (.ite h.upd h.upd)

theorem cycleFailed {x : Pulse} (h : s.Canonical) : (s.cycleFailed x).Canonical := .ite h.eclEarly h

theorem arbiter {written : Bool} (h : s.Canonical) : (s.arbiter written).Canonical := by
  unfold State.arbiter
  split
  · exact h
  · refine .ite h ?_
    extract_lets _ _ s1
    have h1 : s1.Canonical := .ite h.upd h.upd
    exact .ite h1.pulseFailed (.ite h (.ite h1.cycleFailed (.ite h1.nvFailed.cycleFailed h1.pulseBegin)))

theorem eclBegin {x : FrameCtx} (h : s.Canonical) : (s.eclBegin p x).Canonical := h.upd.incBy.upd.setPhase.upd

theorem heldDecide (h : s.Canonical) : (s.heldDecide p).Canonical := by
  unfold State.heldDecide
  split
  exacts [h, .ite h (.ite h.upd.inc.inc.upd (.ite h.upd.inc.upd h.upd))]

theorem eclMark {start : Nat} (h : s.Canonical) : (s.eclMark p start).1.Canonical := by
  unfold State.eclMark
  extract_lets
  refine .iteFst h ?_
  split
  · split
    exacts [.iteFst h.upd.setPhase h.upd, h.upd]
  · exact h.upd
  · exact h.upd.setPhase.upd
  · exact h.upd

theorem eclClosed {f : OpenFrame} (h : s.Canonical) : (s.eclClosed p f).Canonical :=
  .ite h (.ite (.ite h.upd.inc.eclEarly h.upd.inc) (.ite h.upd.setPhase (.ite h.upd.eclEarly h.upd)))

theorem openingEnds (h : s.Canonical) : (s.openingEnds p).Canonical := .ite h.upd.setPhase h
theorem eclRecord {at_ : Nat} (h : s.Canonical) : (s.eclRecord p at_).Canonical := .ite h h.setKeep
theorem learnK (h : s.Canonical) : (s.learnK p).Canonical := .ite h.setO h

theorem eclEffective {x : FrameCtx} (h : s.Canonical) : (s.eclEffective p x).Canonical :=
  .eclIdle (.upd (.eclRecord (.upd (.ite h.upd.learnK.bumpCounter.setOs.setOs h.upd.learnK.bumpCounter.setOs))))

theorem eclFu {x : FrameCtx} (h : s.Canonical) : (s.eclFu p x).Canonical := .ite h.eclEffective h.upd.eclIdle

theorem eclHandOver {x : FrameCtx} {throttle : Bool} (h : s.Canonical) : (s.eclHandOver p x throttle).1.Canonical :=
  .upd (.iteFst h.eclBegin (.iteFst h.eclEarly (.iteFst h.eclEarly (.iteFst (.ite h.upd h) (.iteFst h.eclFu h)))))

theorem eclModeEnd {safe : Bool} (h : s.Canonical) : (s.eclModeEnd p safe).Canonical := by
  unfold State.eclModeEnd
  extract_lets _ _ _ s1 _ s2
  have h1 : s1.Canonical := .ite h.upd.setO.upd h.upd
  have h2 : s2.Canonical := .ite h1.upd h1
  exact .ite h2 h2.setO.inc.eclIdle.setPhase.upd

/-! ### Machine/EclUpdate -/

theorem eclResults {w : EclUpd} {px good : List EclPx} {n : EclCnt} (h : s.Canonical) :
    (s.eclResults p w px good n).Canonical := .upd (.ite h.incBy.incBy.incBy.incBy.setOs.setO h.incBy.incBy.incBy.incBy.setOs)

theorem eclNoReference (h : s.Canonical) : (s.eclNoReference p).Canonical := .ite h.upd h.setO.inc.upd

theorem eclNative {w : EclUpd} {px good : List EclPx} (h : s.Canonical) : (s.eclNative p w px good).Canonical := by
  unfold State.eclNative
  extract_lets _ x s1
  have hx : x.1.Canonical := foldlFst h fun _ _ h => h.frame State.eclPixel_frame
  have h1 : s1.Canonical := .ite (hx.frame State.relabel_frame) hx
  exact h1.eclResults

theorem eclUpdated {t : Int} (h : s.Canonical) : (s.eclUpdated p t).Canonical := .ite h.setO.upd h.setO.upd

theorem eclUpdate {q : EclParams} {x : FrameCtx} (h : s.Canonical) : (s.eclUpdate p q x).Canonical := by
  unfold State.eclUpdate
  extract_lets _ _ _ _ _ _ s1
  have h1 : s1.Canonical := .ite h.upd.incBy (h.upd.incBy.frame State.tapMeans_frame)
  refine .ite h1.eclNoReference ?_
  exact .ite (.eclUpdated (h1.foldl fun _ _ h => h.frame State.eclHerPixel_frame)) h1.eclNative.eclUpdated

theorem eclUpdateEnd (h : s.Canonical) : (s.eclUpdateEnd p).Canonical := by
  unfold State.eclUpdateEnd
  extract_lets
  split
  exacts [.ite h.eclUpdate h, h]

theorem emptyTauHistory (h : s.Canonical) : (s.emptyTauHistory p).Canonical := h.upd.setO

/-! ### Machine/Flash -/

theorem flashRelax (h : s.Canonical) : s.flashRelax.Canonical := .ite h (.wantOff (.ite h.demand h.wantOff))

theorem flashStart {dev a len : Nat} (h : s.Canonical) : (s.flashStart dev a len).Canonical :=
  (h.demand.demand.frame State.selectTaken_frame).upd

theorem fetchRun {k a n : Nat} (h : s.Canonical) : (s.fetchRun k a n).Canonical :=
  ((h.demand.demand.frame State.noteSuspend_frame).frame State.xipBlocks_frame).upd.frame State.busDone_frame

theorem fetchNext (h : s.Canonical) : s.fetchNext.Canonical := by
  unfold State.fetchNext
  split
  exacts [h, .ite (h.frame State.askBus_frame) (.ite h h.upd.fetchRun.flashRelax)]

theorem serveFetches (h : s.Canonical) : s.serveFetches.Canonical := h.foldl fun _ _ h => h.fetchNext

theorem rawRun {b : List Byte} (h : s.Canonical) : (s.rawRun b).Canonical :=
  (h.demand.demand.frame State.selectTaken_frame).upd.frame State.giveBus_frame

theorem rawNext (h : s.Canonical) : s.rawNext.Canonical := by
  unfold State.rawNext
  split
  exacts [h, .ite h.upd (.ite h (.ite (h.frame State.askBus_frame) h.rawRun))]

/-! ### Machine/NvOps -/

theorem showStore (h : s.Canonical) : s.showStore.Canonical := by
  unfold State.showStore
  split <;> exact h.setOs

theorem setJournal {j : Journal} {rs : List Repair} (h : s.Canonical) : (s.setJournal j rs).Canonical := by
  unfold State.setJournal
  extract_lets _ s1
  have h1 : s1.Canonical := h.setKeep
  exact h1.upd.showStore

theorem updJournal {f : Journal → Journal} (h : s.Canonical) : (s.updJournal f).Canonical := by
  unfold State.updJournal
  split
  exacts [h.setJournal, h]

theorem jobProgram (h : s.Canonical) : s.jobProgram.Canonical := by
  unfold State.jobProgram
  split
  · refine .ite h ?_
    refine .ite (h.frame State.askBus_frame) ?_
    extract_lets
    split
    exacts [h.flashStart, h]
  · exact h

theorem jobFailed {x : RecJob} {code : Nat} (h : s.Canonical) : (s.jobFailed x code).Canonical :=
  .ite h.upd.opEnd (.ite h.upd h.upd)

theorem jobTake {x : RecJob} {rest : List RecJob} {j : Journal} (h : s.Canonical) : (s.jobTake x rest j).Canonical := by
  unfold State.jobTake
  extract_lets
  split
  exacts [h.upd.jobFailed, .ite h.upd.jobFailed (.ite h.upd.jobFailed h.upd.jobProgram)]

theorem nvKick (h : s.Canonical) : s.nvKick.Canonical := by
  unfold State.nvKick
  refine .ite h ?_
  split
  exacts [h.jobProgram, h.jobTake, h]

theorem nvWrite {x : RecJob} (h : s.Canonical) : (s.nvWrite x).Canonical := h.upd.nvKick
theorem seqUsed {x : RecJob} (h : s.Canonical) : (s.seqUsed x).Canonical := .ite h.setO h
theorem jobAbandon {x : RecJob} (h : s.Canonical) : (s.jobAbandon x).Canonical := h.updJournal.seqUsed.nvFailed.jobFailed

theorem eraseStart {sector : Nat} (h : s.Canonical) : (s.eraseStart sector).Canonical :=
  .ite h.updJournal.flashStart (h.updJournal.frame State.askBus_frame)

theorem eraseFailed {sector : Nat} (h : s.Canonical) : (s.eraseFailed sector).Canonical := h.updJournal.log.upd

theorem repairDone (h : s.Canonical) : s.repairDone.Canonical := by
  unfold State.repairDone
  split
  exacts [h.setJournal, h]

theorem judgeKey {r0 r1 : List RecAt} {acc : State × List Repair} {key : Nat} (h : acc.1.Canonical) :
    (s.judgeKey r0 r1 acc key).1.Canonical := by
  unfold State.judgeKey
  split
  · exact h
  · exact .iteFst (.ite h.inc.log h) (.ite h.inc.log h)

theorem copyRecord {a : Nat} {r : RecAt} (h : s.Canonical) : (s.copyRecord a r).Canonical := by
  unfold State.copyRecord
  split
  · exact h
  · extract_lets _ s1
    have h1 : s1.Canonical := by
      unfold s1
      refine h.foldl fun s _ h => ?_
      split
      exacts [h.upd.frame State.selectTaken_frame, h]
    exact h1.updJournal

theorem compactTail {a : Nat} (h : s.Canonical) : (s.compactTail a).Canonical := by
  unfold State.compactTail
  split
  · exact h
  · split
    exacts [h, .ite h.upd (.ite h.upd (.eraseStart (.updJournal (h.foldl fun _ _ h => h.copyRecord))))]

theorem compactSector {a i : Nat} (h : s.Canonical) : (s.compactSector a i).Canonical := by
  unfold State.compactSector
  split
  exacts [h, .ite h (.compactTail (.upd (.ite h.updJournal h)))]

theorem reclaimNext (h : s.Canonical) : s.reclaimNext.Canonical := by
  unfold State.reclaimNext
  split
  exacts [h.upd, h.upd.compactTail, h]

theorem formatStep {n : Nat} (h : s.Canonical) : (s.formatStep n).Canonical :=
  .ite h.updJournal.flashStart (h.updJournal.frame State.askBus_frame)

theorem formatEnd (h : s.Canonical) : s.formatEnd.Canonical := h.setJournal.upd.setO.opEnd
theorem formatNext (h : s.Canonical) : s.formatNext.Canonical := .ite h.opAt.formatEnd (.ite h.opAt.upd.opEnd h.opAt.formatStep)

theorem formatErased {ok : Bool} (h : s.Canonical) : (s.formatErased ok).Canonical :=
  .formatNext (.updJournal (.ite h h.eraseFailed.upd))

theorem erased {sector : Nat} (h : s.Canonical) : (s.erased sector).Canonical := by
  unfold State.erased
  extract_lets s1
  have h1 : s1.Canonical := by
    unfold s1
    split
    exacts [.ite h.repairDone.inc.log h, h]
  exact .ite h1.upd.opAt h1.upd

theorem eraseEnded {ok : Bool} (h : s.Canonical) : (s.eraseEnded ok).Canonical := by
  unfold State.eraseEnded
  refine .ite h.formatErased ?_
  split
  exacts [.ite h (.nvKick (.reclaimNext (.erased (.ite h.updJournal h.eraseFailed)))), h]

theorem flashReady {op : Nat × Nat × Nat × Nat} (h : s.Canonical) : (s.flashReady op).Canonical := by
  unfold State.flashReady
  extract_lets _ s1
  have h1 : s1.Canonical := h.upd.frame State.giveBus_frame
  refine .ite h1.upd.serveFetches.eraseEnded.rawNext.flashRelax ?_
  split
  exacts [h1.upd.serveFetches.upd.nvKick.rawNext.flashRelax, h1.serveFetches.rawNext.flashRelax]

theorem flashFailed {op : Nat × Nat × Nat × Nat} (h : s.Canonical) : (s.flashFailed op).Canonical := by
  unfold State.flashFailed
  extract_lets _ s1
  have h1 : s1.Canonical := (h.upd.frame State.giveBus_frame).inc.serveFetches
  refine .ite h1.eraseEnded.rawNext.flashRelax ?_
  split
  exacts [.ite h1 h1.jobAbandon.nvKick.rawNext.flashRelax, h1.rawNext.flashRelax]

theorem jobServed {x : RecJob} (h : s.Canonical) : (s.jobServed x).Canonical := by
  unfold State.jobServed
  split
  exacts [.ite h.upd.opEnd h, .ite h.upd.opEnd h, h.upd, h.repairDone.inc.log, h]

theorem recordEnd (h : s.Canonical) : s.recordEnd.Canonical := by
  unfold State.recordEnd
  split
  exacts [.ite h h.updJournal.setO.upd.jobServed.nvKick.flashRelax, h]

theorem scanStore {j : Journal} {rs : List Repair} (h : s.Canonical) : (s.scanStore j rs).Canonical :=
  .setJournal (foldlFst h.upd.incBy.setO fun _ _ h => h.judgeKey)

theorem storeScan (h : s.Canonical) : s.storeScan.Canonical := by
  unfold State.storeScan
  extract_lets _ s1
  have h1 : s1.Canonical := by
    unfold s1
    split
    exacts [(h.setO.scanStore.frame State.xipScan_frame).frame State.xipScan_frame, h.setO.showStore]
  exact h1.upd

theorem nvAbort (h : s.Canonical) : s.nvAbort.Canonical := by
  unfold State.nvAbort
  extract_lets _ s1 _ s2
  have h1 : s1.Canonical := .ite h.upd.opEnd h
  have h2 : s2.Canonical := .ite h1.upd.opEnd h1
  split
  exacts [h2.loadFailed, h2]

theorem jobDrop (h : s.Canonical) : s.jobDrop.Canonical := by
  unfold State.jobDrop
  extract_lets
  split
  exacts [h.upd.seqUsed, h.upd]

theorem closeEnd {cut : Bool} (h : s.Canonical) : (s.closeEnd cut).Canonical := by
  unfold State.closeEnd
  split
  exacts [h, (h.upd.log.frame State.refuseQueued_frame).jobDrop.cutOff.upd]

theorem nvClose {cause : Nat} (h : s.Canonical) : (s.nvClose cause).Canonical :=
  .ite h (.ite (h.frame State.dropErase_frame).nvAbort.upd (h.frame State.dropErase_frame).nvAbort.upd.closeEnd)

theorem nvCloseCut (h : s.Canonical) : s.nvCloseCut.Canonical := .ite (h.frame State.flashCut_frame).inc.closeEnd h

theorem resumeBus (h : s.Canonical) : s.resumeBus.Canonical := by
  unfold State.resumeBus
  refine .ite h ?_
  refine .ite h.formatStep ?_
  split
  exacts [.ite h.nvKick h.eraseStart, h]

theorem sp1Next (h : s.Canonical) : s.sp1Next.Canonical := h.serveFetches.resumeBus.rawNext
theorem busTurn (h : s.Canonical) : s.busTurn.Canonical := (h.frame State.takeBus_frame).sp1Next
theorem nvReset (h : s.Canonical) : s.nvReset.Canonical := (h.log.frame State.flashCut_frame).jobDrop

/-! ### Machine/ModeOps -/

theorem setLatest {r : TxnRec} (h : s.Canonical) : (s.setLatest r).Canonical := h.setOs

theorem recordTxn {r : TxnRec} (h : s.Canonical) : (s.recordTxn r).Canonical :=
  .ite h.setLatest (.ite h.updModes h.updModes.setLatest)

theorem cancelArmed {reason : Nat} (h : s.Canonical) : (s.cancelArmed reason).Canonical := by
  unfold State.cancelArmed
  split
  exacts [h, h.updModes.recordTxn.frame State.report_frame]

theorem startLoad {key : Nat} (h : s.Canonical) : (s.startLoad p key).Canonical := h.upd.opStart.coefToOpen

theorem loadNext (h : s.Canonical) : s.loadNext.Canonical := by
  unfold State.loadNext
  split
  exacts [h, .ite h h.upd.startLoad]

theorem prepUpdate (h : s.Canonical) : (s.prepUpdate p).Canonical :=
  .ite h (.ite h.setO (.ite (.ite h h.setO) (.ite h.setO (.ite h.setO h.setO))))

theorem prepAll (h : s.Canonical) : s.prepAll.Canonical := h.foldl fun _ _ h => h.prepUpdate
theorem oweEclipse (h : s.Canonical) : (s.oweEclipse p).Canonical := h.becomeDue.upd

theorem warmStart (h : s.Canonical) : (s.warmStart p).Canonical := by
  unfold State.warmStart
  refine .ite h.setO.oweEclipse ?_
  split
  exacts [h.setO.oweEclipse, h]

theorem recallEclipse (h : s.Canonical) : (s.recallEclipse p).Canonical := h.upd.setOs

theorem warmRow {subt : Nat} (h : s.Canonical) : (s.warmRow p subt).Canonical :=
  .ite h (.prepUpdate (.ite h.recallEclipse.setO h.setO.oweEclipse))

theorem arm {q : ModeReq} {act : Nat} (h : s.Canonical) : (s.arm q act).1.Canonical := h.updModes.recordTxn
theorem decline {q : ModeReq} {outcome reason : Nat} (h : s.Canonical) : (s.decline q outcome reason).1.Canonical := h.recordTxn

theorem answerRest {q : ModeReq} (h : s.Canonical) : (s.answerRest q).1.Canonical := by
  unfold State.answerRest
  split
  · exact .iteFst h.updModes.recordTxn (.iteFst h h)
  · refine .iteFst h.decline ?_
    exact .iteFst h.decline (.iteFst h.decline (.iteFst h.decline (.iteFst h.decline (.iteFst h.decline h.arm))))

theorem answerSafe {q : ModeReq} (h : s.Canonical) : (s.answerSafe q).1.Canonical := by
  unfold State.answerSafe
  extract_lets
  split
  exacts [.iteFst h h.arm, h.cancelArmed.arm]

theorem answerMode {q : ModeReq} (h : s.Canonical) : (s.answerMode q).1.Canonical :=
  .iteFst h.answerSafe (.iteFst h.decline h.answerRest)

theorem abortOp {k : Nat} (h : s.Canonical) : (s.abortOp k).Canonical := by
  unfold State.abortOp
  refine .ite h ?_
  split
  exacts [h.loadFailed.loadNext, h.opEnd.frame State.slotInvalid_frame, h.upd.opEnd, h.upd.opEnd, h.opEnd]

theorem abortOps {mode : Nat} (h : s.Canonical) : (s.abortOps mode).Canonical :=
  .foldl (.ite h h.upd) fun _ _ h => .ite h h.abortOp

theorem endSlave (h : s.Canonical) : s.endSlave.Canonical := .ite h.setO h
theorem putMode {target txn since : Nat} (h : s.Canonical) : (s.putMode target txn since).Canonical := h.updModes.setO.showLoads

theorem leaveImaging {target : Nat} (h : s.Canonical) : (s.leaveImaging target).Canonical :=
  .upd (((h.frame State.dropWindows_frame).endSlave.abortOps.frame State.discardAllStarts_frame).foldl
    fun _ _ h => h.eclModeEnd.coefInvalidate.setO)

theorem dropFrames (h : s.Canonical) : (s.dropFrames p).Canonical := h.intakeDiscard.upd
theorem dropAllFrames (h : s.Canonical) : s.dropAllFrames.Canonical := .upd (h.foldl fun _ _ h => h.dropFrames)
theorem vdetFollow (h : s.Canonical) : (s.vdetFollow p).Canonical := .ite (.ite h.upd h.upd.vdetRamp) h

theorem frameClosed {cause : Nat} (h : s.Canonical) : (s.frameClosed p cause).Canonical := by
  unfold State.frameClosed
  extract_lets _ s1 s2
  have h1 : s1.Canonical := by
    unfold s1
    split
    exacts [h.intakeClose.eclClosed, h.intakeClose]
  have h2 : s2.Canonical := .ite (h1.vdetFollow.frame State.openBlank_frame) h1
  exact (h2.upd.frame State.outsClose_frame).frame State.computeHeld_frame

theorem railsLost (h : s.Canonical) : (s.railsLost p).Canonical := .ite h.setO h
theorem vdetDown (h : s.Canonical) : s.vdetDown.Canonical := h.foldl fun _ _ h => .ite h.vdetRamp h
theorem railsDown (h : s.Canonical) : s.railsDown.Canonical := h.foldl fun _ _ h => .ite h.railOff h

theorem domainsOff {but : List Nat} (h : s.Canonical) : (s.domainsOff but).Canonical :=
  .flashRelax (.upd (h.discardMode.outOff.foldl fun _ _ h => .ite h h.wantOff))

theorem domainsDown (h : s.Canonical) : s.domainsDown.Canonical := h.domainsOff
theorem heldDown (h : s.Canonical) : s.heldDown.Canonical := h.foldl fun _ _ h => .ite h.railOff h

theorem modeProceed (h : s.Canonical) : s.modeProceed.Canonical := by
  unfold State.modeProceed
  extract_lets _ s1 _ s2
  have h1 : s1.Canonical := h.heldDown.vdetDown.railsDown
  have h2 : s2.Canonical := h.heldDown.vdetDown.railsDown
  split
  · refine .ite (.ite h.heldDown (.ite h1.domainsDown h1)) ?_
    exact .ite (.ite h.heldDown.vdetDown (.ite h2.domainsDown h2)) h.heldDown
  · exact h.heldDown

theorem run {frm target txn act source bound reason : Nat} {orphan : Bool} (h : s.Canonical) :
    (s.run frm target txn act source bound reason orphan).Canonical := h.updModes

theorem endedWell {r : Running} (h : s.Canonical) : (s.endedWell r).Canonical := h.recordTxn.frame State.report_frame

theorem supersede {reason : Nat} (h : s.Canonical) : (s.supersede reason).Canonical := by
  unfold State.supersede
  split
  exacts [h, .ite (h.updModes.foldl fun _ _ h => h.endedWell) (h.updModes.recordTxn.frame State.report_frame)]

theorem closeAllNow (h : s.Canonical) : s.closeAllNow.Canonical := h.foldl fun _ _ h => .ite h.frameClosed h

theorem toStandby {txn act source : Nat} {orphan : Bool} (h : s.Canonical) : (s.toStandby txn act source orphan).Canonical := by
  unfold State.toStandby
  extract_lets _ _ _ s1
  have h1 : s1.Canonical := h.supersede.leaveImaging.putMode.run.dmaStandby.frame State.flushLog_keeps
  exact .modeProceed (.ite h1.closeAllNow h1)

theorem runSafe {frm txn act source lo : Nat} (h : s.Canonical) : (s.runSafe frm txn act source lo).Canonical := by
  unfold State.runSafe
  split
  exacts [.ite h.updModes h.run, h.run]

theorem toSafe {txn act source hi lo : Nat} (h : s.Canonical) : (s.toSafe txn act source hi lo).Canonical := by
  unfold State.toSafe
  extract_lets s1 s2
  have h1 : s1.Canonical := h.upd.cancelArmed
  have h2 : s2.Canonical := by
    unfold s2
    split
    exacts [.ite h1 h1.supersede, h1]
  exact h2.leaveImaging.dmaSafe.dropAllFrames.discardMode.putMode.setO.runSafe.recordTxn.modeProceed.notifyCause

theorem faultSafe {hi lo : Nat} (h : s.Canonical) : (s.faultSafe hi lo).Canonical := .ite h h.toSafe
theorem addCause {c : Nat} (h : s.Canonical) : (s.addCause c).Canonical := .ite h h.updModes
theorem dropCause {c : Nat} (h : s.Canonical) : (s.dropCause c).Canonical := h.updModes

theorem failTransition {reason : Nat} (h : s.Canonical) : (s.failTransition reason).Canonical := by
  unfold State.failTransition
  split
  exacts [.ite h h.toSafe, h]

/-- The settings in force are a part of the dictionary, by a filter. -/
theorem takeModeSettings (h : s.Canonical) : s.takeModeSettings.Canonical := ⟨h.od, Store.wfFrom_filter _ h.od, h.gen⟩

theorem entryPos (h : s.Canonical) : (s.entryPos p).Canonical := by
  unfold State.entryPos
  extract_lets _ _ s2 s3 _ _ _ _ _ s6
  have h2 : s2.Canonical := h.upd
  have h3 : s3.Canonical := .ite h2.setPhase h2
  have h6 : s6.Canonical := h3.upd
  exact h6.setOs

theorem enter {target txn act source : Nat} (h : s.Canonical) : (s.enter target txn act source).Canonical := by
  unfold State.enter
  extract_lets _ s2 s3 _ s4 s5
  have h2 : s2.Canonical := h.supersede.abortOps.putMode.takeModeSettings.run
  have h3 : s3.Canonical := .showLoads (h2.foldl fun _ _ h => h.entryPos)
  have h4 : s4.Canonical := h3.upd
  have h5 : s5.Canonical := h4.foldl fun _ _ h => .ite h.wantOn h
  exact .ite h4.failTransition (h5.foldl fun _ _ h => h.frame State.openAtEntry_frame)

theorem entryStep (h : s.Canonical) : s.entryStep.Canonical := by
  unfold State.entryStep
  split
  · refine .ite h (.foldl (h.foldl fun _ _ h => .ite h.vdetRamp h) fun s _ h => .ite ?_ h)
    exact .frame (h.foldl fun _ _ h => .ite h h.upd) State.sp0Next_frame
  · exact h

theorem entryIds (h : s.Canonical) : s.entryIds.Canonical := by
  unfold State.entryIds
  split
  · refine .ite h (.ite h.failTransition (h.foldl fun s p h => .ite ?_ h))
    have h1 : (s.setGen p { s.gen.get p with gov := (s.gen.get p).act }).Canonical :=
      h.setGen ⟨(h.gen p).pend, (h.gen p).act, (h.gen p).act⟩
    exact h1.frame State.openBlank_frame
  · exact h

theorem entryDone {target : Nat} (h : s.Canonical) : (s.entryDone target).Canonical :=
  .ite h (.prepAll (.loadNext (.upd (h.foldl fun _ _ h => h.warmStart))))

theorem eclipseMode {frm : Nat} (h : s.Canonical) : (s.eclipseMode frm).Canonical :=
  .frame (.opStart (.updModes (h.foldl fun _ _ h => h.upd))) State.skipParts_frame

theorem completed {r : Running} (h : s.Canonical) : (s.completed r).Canonical :=
  h.updModes.endedWell.foldl fun _ _ h => h.endedWell

theorem switchMode {a : Armed} {frm : Nat} (h : s.Canonical) : (s.switchMode a frm).Canonical := by
  unfold State.switchMode
  extract_lets _ _ _ s1 s2 s3
  have h1 : s1.Canonical := .ite (h.frame State.dropWindows_frame).abortOps.putMode.run.eclipseMode
      (h.frame State.dropWindows_frame).abortOps.putMode.run
  have h2 : s2.Canonical := .ite h1.opEnd h1
  have h3 : s3.Canonical := .ite (h2.foldl fun _ _ h => h.upd) h2
  split
  exacts [.ite h3.endedWell.updModes (.ite h3 h3.completed), h3]

theorem leaveSafe {a : Armed} (h : s.Canonical) : (s.leaveSafe a).Canonical := by
  unfold State.leaveSafe
  extract_lets s1
  have h1 : s1.Canonical := (h.supersede.upd.setO.putMode.frame State.flushLog_keeps).nvKick
  split
  exacts [.ite h1.run.completed h1.run, h1.run]

theorem vendorNext (h : s.Canonical) : s.vendorNext.Canonical :=
  .ite h (.ite (.ite h h.upd.enter) (.ite h.upd (.ite h h.toStandby)))

theorem activateTxn {a : Armed} (h : s.Canonical) : (s.activateTxn a).Canonical := by
  unfold State.activateTxn
  extract_lets _ _ _ _ _ _ s1
  have h1 : s1.Canonical := h.updModes.recordTxn
  refine .ite h.updModes.toSafe ?_
  refine .ite (h.updModes.recordTxn.frame State.report_frame) ?_
  refine .ite (h.updModes.recordTxn.frame State.report_frame) ?_
  exact .ite h1.leaveSafe.vendorNext (.ite h1.toStandby (.ite h1.enter h1.switchMode))

theorem completeTransition {refresh : Bool} (h : s.Canonical) : (s.completeTransition refresh).Canonical := by
  unfold State.completeTransition
  extract_lets
  split
  · exact h.modeProceed
  · refine .ite h.modeProceed ?_
    refine .ite h.modeProceed.failTransition ?_
    extract_lets s1
    have h1 : s1.Canonical := h.modeProceed.completed
    exact .ite h1.wantOff.nvKick.vendorNext (.ite h1.wantOff (.vendorNext (.ite h1.entryDone h1)))

theorem eclipseEnds (h : s.Canonical) : s.eclipseEnds.Canonical := by
  unfold State.eclipseEnds
  refine .ite h ?_
  extract_lets s1 _ s2
  have h1 : s1.Canonical := h.frame State.skipParts_frame
  have h2 : s2.Canonical := .ite h1.opAt h1
  exact .ite h2 (.switchMode (.ite h2.opEnd h2))

theorem mandatoryFailed (h : s.Canonical) : s.mandatoryFailed.Canonical := .ite (.toSafe (h.foldl fun _ _ h => .ite h.setO h)) h
theorem afterEcl (h : s.Canonical) : s.afterEcl.Canonical := h.mandatoryFailed.prepAll.eclipseEnds
theorem writeLease (h : s.Canonical) : s.writeLease.Canonical := .ite h.upd h.upd.updTwoSlot
theorem orphanRecord {good : Bool} (h : s.Canonical) : (s.orphanRecord good).Canonical := .ite h.upd.writeLease h.upd.nvFailed
theorem markOrphan (h : s.Canonical) : s.markOrphan.Canonical := h.updModes

theorem toOrphan {good : Bool} {station epoch : Nat} (h : s.Canonical) : (s.toOrphan good station epoch).Canonical := by
  unfold State.toOrphan
  extract_lets _ _ _ _ s1
  have h1 : s1.Canonical := h.cancelArmed.discardRole.setOs.orphanRecord.notify.markOrphan
  exact .ite h1 (.ite (.ite h1.closeAllNow.modeProceed h1) h1.supersede.toStandby)

/-! ### Machine/SecOps -/

theorem secEmpty {a n : Nat} (h : s.Canonical) : (s.secEmpty a n).Canonical := h.setKeep
theorem setKey {k level : Nat} {key : List Byte} (h : s.Canonical) : (s.setKey k level key).Canonical := h.setKeep
theorem setArchiveKey {key : List Byte} (h : s.Canonical) : (s.setArchiveKey key).Canonical := h.setKeep
theorem setTokenKey {i : List Byte} (h : s.Canonical) : (s.setTokenKey i).Canonical := h.setKeep
theorem renewNonce (h : s.Canonical) : s.renewNonce.Canonical := h.upd.setKeep
theorem proveFailed {path : Nat} (h : s.Canonical) : (s.proveFailed path).Canonical := .ite h.inc.upd.log h.inc.upd

theorem zeroiseKeys (h : s.Canonical) : s.zeroiseKeys.Canonical := by
  unfold State.zeroiseKeys
  refine .ite h.upd ?_
  extract_lets _ s1
  have h1 : s1.Canonical := .secEmpty (.secEmpty (h.foldl fun _ _ h => h.secEmpty))
  exact .ite h1.upd h1.upd.log

theorem debugDomain (h : s.Canonical) : s.debugDomain.Canonical := .ite h.wantOff h.wantOn
theorem gradeChanged (h : s.Canonical) : s.gradeChanged.Canonical := .debugDomain (h.upd.foldl fun _ _ h => .ite h h.wantOff)
theorem raiseArb {svn : Nat} (h : s.Canonical) : (s.raiseArb svn).Canonical := .ite h h.updTwoSlot.setO.log

/-- What a reset keeps of the dictionary is a filter of it; the settings are those of the reset state. -/
theorem resetLogic {cause : Nat} (h : s.Canonical) : (s.resetLogic cause).Canonical := by
  unfold State.resetLogic
  extract_lets s0 _ kept _ _ _ _ _ _ _ _ _ _ _ _ z1 _ _ _ _ _ z2
  have h0 : s0.Canonical := .ite h h.nvReset
  have hk : Store.wf Obj.dflt kept = true := by
    unfold kept
    split
    · exact Store.wfFrom_filter _ h0.od
    · exact Store.wfFrom_filter _ h0.od
  have h1 : z1.Canonical := ⟨hk, reset.inForce, reset.gen⟩
  have h2 : z2.Canonical := .ite h1 h1.upd
  exact .ite h2.dramLost h2

/-! ### Machine/CmdOps -/

theorem cmd {key lvl : Nat} {ok : Bool} {pre : State → Nat} {eff : State → Res} (h : s.Canonical)
    (heff : ∀ s, s.Canonical → (eff s).Canonical) : Res.Canonical (s.cmd via key lvl ok pre eff) :=
  h.command fun _ h => .ite .error (.ite .error (heff _ h))

theorem cmdDom {key lvl : Nat} {lenOk ok : Bool} {pre : State → Nat} {eff : State → Res} (h : s.Canonical)
    (heff : ∀ s, s.Canonical → (eff s).Canonical) : Res.Canonical (s.cmdDom via key lvl lenOk pre ok eff) :=
  h.command fun _ h => .ite .error (.ite .error (.ite .error (heff _ h)))

theorem done {f : State → State} (h : s.Canonical) (hf : ∀ s, s.Canonical → (f s).Canonical) : Res.Canonical (done f s) :=
  .ok (hf _ h)

theorem keptCounters (h : s.Canonical) : s.keptCounters.Canonical := h.setOs
theorem logWrite {key : Nat} (h : s.Canonical) : (s.logWrite via key).Canonical := h.logRaw

theorem kept {key a n : Nat} {f : State → State} (h : s.Canonical) (hf : ∀ s, s.Canonical → (f s).Canonical) :
    Res.Canonical (kept via key a n f s) := .ite .error (.ok (hf _ h).logWrite)

/-! ### Machine/ChainOps -/

theorem place (h : s.Canonical) : (s.place r).Canonical := .ite h.setO h

theorem onTelegram {k : DstKind} {min : Nat} {f : State → State} (h : s.Canonical) (hf : ∀ s, s.Canonical → (f s).Canonical) :
    (s.onTelegram r k min f).Canonical := by
  unfold State.onTelegram
  extract_lets s1
  have h1 : s1.Canonical := .ite h.upd h.upd
  exact .ite h1 (hf _ (h1.place.frame State.touch_keeps))

theorem once {type : Nat} {f : State → State × Reply} (h : s.Canonical) (hf : ∀ s, s.Canonical → (f s).1.Canonical) :
    (s.once r type f).Canonical := by
  unfold State.once
  split
  · exact h.inc.frame State.answer_frame
  · exact ((hf _ h).frame State.keepReply_frame).frame State.answer_frame

end State.Canonical
end Sys2Proof.Machine
end

section
/-!
PROOFS. The canonical form over the rows of the instruction set and what they are made of, in the same way.
-/
namespace Sys2Proof.Machine
namespace State.Canonical
set_option Elab.async false

variable {s u : State} {p : Pos} {via : Via} {r : Req} {t : Nat}

/-! ### Machine/Boot -/

theorem deviceUp {k : Pos} (h : s.Canonical) : (s.deviceUp k).Canonical := .ite h h.upd.setO.upd

theorem released (h : s.Canonical) : s.released.Canonical :=
  .foldl (h.upd.setOs.bumpCounter.renewNonce.demand.demand.foldl fun _ _ h => h.deviceUp) fun _ _ h => h.upd

theorem slotsFailed (h : s.Canonical) : s.slotsFailed.Canonical := .ite h.flashRelax.debugDomain h
theorem loadKept (h : s.Canonical) : s.loadKept.Canonical := .setOs (h.foldl fun _ _ h => h.setO)
theorem loadLease (h : s.Canonical) : s.loadLease.Canonical := h.setOs
theorem repairArb (h : s.Canonical) : s.repairArb.Canonical := .ite h.setO h.setTwoSlot.setO.upd
theorem checkCounters (h : s.Canonical) : s.checkCounters.Canonical := h.upd.foldl fun _ _ h => h.slotsBad
theorem trainFails {n : Nat} (h : s.Canonical) : (s.trainFails n).Canonical := h.incBy
theorem bootTraining {first second : Bool} (h : s.Canonical) : (s.bootTraining first second).Canonical := h.trainFails.upd.setO

theorem retraining {first : Bool} (h : s.Canonical) : (s.retraining first).Canonical :=
  .ite h.trainFails.dramLost.upd h.trainFails.dramLost.upd.failTransition

theorem resetFrom {cause : Nat} (h : s.Canonical) : (s.resetFrom cause).Canonical := .ite h h.resetLogic

theorem cmdSoftReset {v : Nat} (h : s.Canonical) : Res.Canonical (s.cmdSoftReset via v) :=
  h.cmd fun _ h => h.done fun _ h => h.resetFrom

/-! ### Machine/Correct -/

theorem cmdCoefOpen {v : Nat} (h : s.Canonical) : Res.Canonical (s.cmdCoefOpen via p v) := h.cmd fun _ h => h.coefOpen
theorem cmdCoefClose {v : Nat} (h : s.Canonical) : Res.Canonical (s.cmdCoefClose via p v) := h.cmd fun _ h => h.coefClose

theorem cmdLoadGo {v : Nat} (h : s.Canonical) : Res.Canonical (s.cmdLoadGo via p v) :=
  h.cmd fun _ h => h.done fun _ h => h.startLoad.prepUpdate

theorem loadEndsBadly {result : Nat} (h : s.Canonical) : (s.loadEndsBadly p result).Canonical :=
  .ite h.loadFailed.toSafe h.loadFailed.loadNext

theorem loadCloses {her : Bool} (h : s.Canonical) : (s.loadCloses p her).Canonical :=
  .ite h.closeCheck.prepUpdate.upd.opEnd.loadNext.prepAll h.closeCheck.prepUpdate.loadEndsBadly

theorem endLoad {key : Nat} (h : s.Canonical) : (s.endLoad p key).Canonical := by
  unfold State.endLoad
  extract_lets _ s1
  have h1 : s1.Canonical := h.frame State.xipRecord_frame
  split
  exacts [h.loadEndsBadly, .ite h1.writeArchive.loadCloses h1.loadEndsBadly]

theorem execCoefLoadEnd (h : s.Canonical) : Ans.Canonical (execCoefLoadEnd t s) := by
  unfold Machine.execCoefLoadEnd
  extract_lets
  split
  exacts [.ite (.next h.upd.endLoad) (.next h.upd), .next h.upd]

theorem saveArchive {key : Nat} (h : s.Canonical) : Res.Canonical (s.saveArchive p key) :=
  .ite .error (.ok h.upd.opStart.nvWrite)

theorem cmdSaveGo {v : Nat} (h : s.Canonical) : Res.Canonical (s.cmdSaveGo via p v) := h.cmd fun _ h => h.saveArchive

theorem cmdTailHistReset {v : Nat} (h : s.Canonical) : Res.Canonical (s.cmdTailHistReset via p v) :=
  h.cmd fun _ h => h.done fun _ h => h.upd

/-! ### Machine/Counters -/

theorem clearCounters {l : List (Nat × Nat)} (h : s.Canonical) : (s.clearCounters l).Canonical :=
  h.foldl fun _ _ h => h.clearIdx

theorem restartHold {b : Bool} (h : s.Canonical) : (s.restartHold b).Canonical := .ite h.setO h

theorem cmdClear {key : Nat} {l : List (Nat × Nat)} {v : Nat} (h : s.Canonical) : Res.Canonical (s.cmdClear key l via v) :=
  h.cmd fun _ h => h.done fun _ h => .ite h.clearCounters.restartHold.restartHold h.clearCounters

/-! ### Machine/Eclipse -/

theorem cmdEclRequest {v : Nat} (h : s.Canonical) : Res.Canonical (s.cmdEclRequest via p v) := h.cmd fun _ h => h.eclRequest

theorem cmdEclAbort {v : Nat} (h : s.Canonical) : Res.Canonical (s.cmdEclAbort via p v) :=
  h.cmd fun _ h => h.done fun _ h => h.eclEarly.afterEcl

theorem cmdEclFaultClear {v : Nat} (h : s.Canonical) : Res.Canonical (s.cmdEclFaultClear via p v) :=
  h.cmd fun _ h => h.done fun _ h => h.frame State.faultClear_frame

theorem cmdEclShut {v : Nat} (h : s.Canonical) : Res.Canonical (s.cmdEclShut via p v) :=
  h.cmd fun _ h => h.done fun _ h => h.upd

theorem execEclipseGrant (h : s.Canonical) : Ans.Canonical (execEclipseGrant t s) := by
  unfold Machine.execEclipseGrant
  extract_lets _ s1
  have h1 : s1.Canonical := .ite (h.upd.frame State.skipParts_frame).afterEcl h.upd
  refine .ite (.next h.upd) ?_
  split
  exacts [.next h1.grant, .next h1]

theorem execPulseHoldExpiry (h : s.Canonical) : Ans.Canonical (execPulseHoldExpiry p t s) := by
  unfold Machine.execPulseHoldExpiry
  extract_lets
  split
  · split
    exacts [.ite (.next h.upd.pulseDone.afterEcl) (.next h.upd), .next h.upd]
  · exact .next h.upd

theorem pulseLongest {x : Pulse} {since : Nat} (h : s.Canonical) : (s.pulseLongest x since).Canonical :=
  .ite h.pulseDone (.ite h.pulseFault (.ite h.pulseDone h))

theorem execPulseMaxExpiry (h : s.Canonical) : Ans.Canonical (execPulseMaxExpiry p t s) := by
  unfold Machine.execPulseMaxExpiry
  extract_lets
  split
  exacts [.ite (.next h.upd.pulseLongest.afterEcl) (.next h.upd), .next h.upd]

theorem execBothSensorsFault (h : s.Canonical) : Ans.Canonical (execBothSensorsFault p t s) := by
  unfold Machine.execBothSensorsFault
  extract_lets
  split
  exacts [.ite (.next h.upd.pulseFault.afterEcl) (.next h.upd), .ite (.next h.upd.shutterFault) (.next h.upd)]

theorem execOpeningPulseRetry (h : s.Canonical) : Ans.Canonical (execOpeningPulseRetry p t s) := by
  unfold Machine.execOpeningPulseRetry
  extract_lets
  split
  exacts [.ite (.next h.upd) (.next h.upd), .next h.upd]

theorem execEclipseWindowDeadline (h : s.Canonical) : Ans.Canonical (execEclipseWindowDeadline p t s) := by
  unfold Machine.execEclipseWindowDeadline
  extract_lets
  split
  exacts [.ite (.next h.upd.eclEarly.afterEcl) (.next h.upd), .next h.upd]

theorem evaluatePos (h : s.Canonical) : (s.evaluatePos p).Canonical := .ite h.setO.becomeDue h.setO
theorem storeWindow (h : s.Canonical) : (s.storeWindow r).1.Canonical := .iteFst h (.iteFst h h.addWindow)

/-! ### Machine/RawXfer -/

theorem rawAsk {b : List Byte} (h : s.Canonical) : (s.rawAsk b).Canonical := h.upd.rawNext

theorem cmdRawXfer {b : List Byte} (h : s.Canonical) : Res.Canonical (s.cmdRawXfer via b) :=
  h.cmdDom fun _ h => .ite .error (.ok h.rawAsk)

/-! ### Machine/Security -/

theorem lifecycleEffect {v : Nat} (h : s.Canonical) : (s.lifecycleEffect v).Canonical :=
  .ite (.ite h.setKeep.setO h) (.ite h.zeroiseKeys h)

theorem cmdSecLifecycleSet {v : Nat} (h : s.Canonical) : Res.Canonical (s.cmdSecLifecycleSet via v) :=
  h.cmd fun _ h => h.done fun _ h => (h.upd.lifecycleEffect.frame State.closeAll_frame).log.logWrite.gradeChanged

theorem cmdSecKeyWrite {v : List Byte} (h : s.Canonical) : Res.Canonical (s.cmdSecKeyWrite via v) :=
  h.cmdDom fun _ h => h.kept fun _ h => h.setKey.frame State.closeKey_frame

theorem cmdSecKeyErase {v : Nat} (h : s.Canonical) : Res.Canonical (s.cmdSecKeyErase via v) :=
  h.cmd fun _ h => h.kept fun _ h => h.secEmpty.frame State.closeKey_frame

theorem cmdSecArchiveKey {v : List Byte} (h : s.Canonical) : Res.Canonical (s.cmdSecArchiveKey via v) :=
  h.cmdDom fun _ h => h.kept fun _ h => h.setArchiveKey

theorem cmdSecTokenKey {v : List Byte} (h : s.Canonical) : Res.Canonical (s.cmdSecTokenKey via v) :=
  h.cmdDom fun _ h => h.kept fun _ h => h.setTokenKey

theorem cmdSecArbCommit {v : Nat} (h : s.Canonical) : Res.Canonical (s.cmdSecArbCommit via v) :=
  h.cmd fun _ h => h.kept fun _ h => h.raiseArb

theorem authOpen (h : s.Canonical) : (s.authOpen r).1.Canonical := .iteFst h (.iteFst h (.iteFst h.logEvt h.upd))

theorem authProve (h : s.Canonical) : (s.authProve r).1.Canonical := by
  unfold State.authProve
  cases s.chain.challenges.find? (fun y => y.id == r.session) with
  | none => exact h.upd.proveFailed
  | some c => exact .iteFst (.frame (.upd h) State.openSession_frame) h.upd.proveFailed

theorem execSessionIdleExpiry {id : Nat} (h : s.Canonical) : Ans.Canonical (execSessionIdleExpiry id t s) := by
  unfold Machine.execSessionIdleExpiry
  extract_lets _ s2
  have h2 : s2.Canonical := .ite h.upd h.upd
  exact .next (.ite h2.upd h2)

theorem hpAuthOpen {v : List Byte} (h : s.Canonical) : Res.Canonical (s.hpAuthOpen v) := .ite .error (.ite .error (.ok h.upd))

theorem cmdHpAuthReq {v : List Byte} (h : s.Canonical) : Res.Canonical (s.cmdHpAuthReq via v) :=
  h.cmdDom fun _ h => h.hpAuthOpen.map fun _ h => h.logWrite

theorem hpAuthProve {v : List Byte} (h : s.Canonical) : (s.hpAuthProve v).Canonical := by
  unfold State.hpAuthProve
  cases s.host.challenge with
  | none => exact (proveFailed h.upd).upd
  | some c => exact .ite h.upd (proveFailed h.upd).upd

theorem cmdHpAuthProve {v : List Byte} (h : s.Canonical) : Res.Canonical (s.cmdHpAuthProve via v) :=
  h.cmdDom fun _ h => h.done fun _ h => h.hpAuthProve.logWrite

theorem cmdHpAuthClose {v : Nat} (h : s.Canonical) : Res.Canonical (s.cmdHpAuthClose via v) :=
  h.cmd fun _ h => h.done fun _ h => h.upd.logWrite

/-! ### Machine/Debug -/

theorem cmdDbgSetGrade {v : Nat} (h : s.Canonical) : Res.Canonical (s.cmdDbgSetGrade via v) :=
  h.cmd fun _ h => h.done fun _ h => h.upd.logWrite.gradeChanged

theorem lockDebug (h : s.Canonical) : s.lockDebug.Canonical := h.upd.gradeChanged

theorem cmdDbgLock {v : Nat} (h : s.Canonical) : Res.Canonical (s.cmdDbgLock via v) :=
  h.cmd fun _ h => h.done fun _ h => h.logWrite.lockDebug

theorem cmdDbgToken {v : List Byte} (h : s.Canonical) : Res.Canonical (s.cmdDbgToken via v) :=
  h.cmdDom fun _ h => h.done fun _ h => h.logWrite.upd

theorem acceptToken {kind : Nat} (h : s.Canonical) : (s.acceptToken kind).Canonical := by
  unfold State.acceptToken
  extract_lets
  refine .ite h.log.upd.gradeChanged ?_
  exact (h.log.zeroiseKeys.frame State.closeAll_frame).upd.gradeChanged.cancelArmed.vendorNext

theorem execDbgTokenAccept (h : s.Canonical) : Ans.Canonical (execDbgTokenAccept t s) := by
  unfold Machine.execDbgTokenAccept
  extract_lets
  split
  exacts [.next h.upd, .ite (.next h.upd) (.ite (.next h.upd.log) (.next h.upd.acceptToken))]

theorem debugAccess {k d addr : Nat} (h : s.Canonical) : (s.debugAccess k d addr).Canonical := by
  unfold State.debugAccess
  extract_lets
  split
  exacts [.ite h.upd h.upd, h, .ite h.upd.wantOn h, .ite (.ite h.upd h.upd.wantOff) h]

/-! ### Machine/Modes -/

theorem cmdModeReqGo {v : Nat} (h : s.Canonical) : Res.Canonical (s.cmdModeReqGo via v) :=
  h.cmd fun _ h => h.done fun _ h => h.answerMode.setO.frame State.report_frame

theorem execTransitionActivation (h : s.Canonical) : Ans.Canonical (execTransitionActivation t s) := by
  unfold Machine.execTransitionActivation
  extract_lets
  split
  exacts [.ite (.next h.upd.activateTxn) (.next h.upd), .next h.upd]

theorem timeoutTransition (h : s.Canonical) : s.timeoutTransition.Canonical := by
  unfold State.timeoutTransition
  split
  exacts [.ite h.failTransition h, h]

theorem cmdOpAbort {k v : Nat} (h : s.Canonical) : Res.Canonical (s.cmdOpAbort via k v) :=
  h.cmd fun _ h => h.done fun _ h => h.abortOp

/-! ### Machine/Time -/

theorem passedOver {was : Nat} (h : s.Canonical) : (s.passedOver was).Canonical := by
  unfold State.passedOver
  split
  exacts [.ite h.activateTxn h, h]

theorem stepTo {to_ : Nat} (h : s.Canonical) : (s.stepTo to_).Canonical := h.stepTime.upd.passedOver
theorem servo {off : Int} (h : s.Canonical) : (s.servo off).Canonical := h.setO.upd
theorem blockedStep {off : Int} (h : s.Canonical) : (s.blockedStep off).Canonical := .ite h.upd (.ite h h.upd.notify)
theorem correctTime {off : Int} (h : s.Canonical) : (s.correctTime off).Canonical := .ite h.stepTo h.servo.blockedStep
theorem clockState {n : Nat} (h : s.Canonical) : (s.clockState n).Canonical := .ite h.setO.timeState h.setO.timeState.upd

theorem judgeOffset {off : Int} (h : s.Canonical) : (s.judgeOffset off).Canonical := by
  unfold State.judgeOffset
  extract_lets
  split
  exacts [.ite h.upd (.ite h.clockState h.upd), .ite h.upd (.ite h.clockState h.upd), h.clockState.upd]

theorem measured {off : Int} (h : s.Canonical) : (s.measured off).Canonical := h.setO.upd.judgeOffset.correctTime

theorem selectMaster {m : List Nat} {port : Nat} (h : s.Canonical) : (s.selectMaster m port).Canonical :=
  .ite h.upd.setO.clockState h.upd.setO

theorem announced {m : List Nat} {port : Nat} (h : s.Canonical) : (s.announced m port).Canonical := by
  unfold State.announced
  split
  exacts [h.selectMaster, .ite h.selectMaster h]

theorem synced {t1 t2 : Int} (h : s.Canonical) : (s.synced t1 t2).Canonical := by
  unfold State.synced
  extract_lets
  split
  exacts [h.upd.measured, h.upd]

theorem ptp {m : PtpMsg} (h : s.Canonical) : (s.ptp m).Canonical := by
  unfold State.ptp
  split
  · exact .ite h.announced h
  · refine .ite h ?_
    extract_lets
    split
    exacts [h.upd.synced, h.upd]
  · exact .ite h.synced h
  · exact h.frame State.sendDelayReq_frame
  · split
    exacts [.ite (.ite h.upd.setO.measured h.upd.setO) h, h]

theorem ppsEdge (h : s.Canonical) : s.ppsEdge.Canonical := .ite h.inc h.upd.measured

theorem cmdTimeSet {v : Nat} (h : s.Canonical) : Res.Canonical (s.cmdTimeSet via v) :=
  h.cmd fun _ h => h.done fun _ h => .ite h.stepTo h.upd

theorem newTimeSource (h : s.Canonical) : s.newTimeSource.Canonical := h.upd.clockState

/-! ### Machine/Power -/

theorem startPowerFail (h : s.Canonical) : s.startPowerFail.Canonical :=
  .ite h (.ite h.upd (h.upd.notify.nvClose.frame State.pulseCut_frame).cutOff.faultSafe.addCause)

theorem exhausted (h : s.Canonical) : s.exhausted.Canonical := h.resetLogic.upd

theorem rampDone {d : Nat} (h : s.Canonical) : (s.rampDone d).Canonical :=
  .ite (h.upd.setO.frame State.domUp_frame).wantOff (h.upd.setO.frame State.domUp_frame)

theorem fpaFault (h : s.Canonical) : (s.fpaFault p).Canonical := .heldDown (.ite h.upd.railsLost.vdetRamp h.upd.railsLost)
theorem devicesOff (h : s.Canonical) : s.devicesOff.Canonical := h.upd.dramLost

theorem domFaulted {d : Nat} {inRamp : Bool} (h : s.Canonical) : (s.domFaulted d inRamp).Canonical := by
  unfold State.domFaulted
  extract_lets s1 s2 s3 s4
  have h1 : s1.Canonical := .ite h.devicesOff h
  have h2 : s2.Canonical := .ite h1.fpaFault h1
  have h3 : s3.Canonical := by
    unfold s3
    split
    exacts [h2.flashFailed, h2]
  have h4 : s4.Canonical := by
    unfold s4
    split
    exacts [h3.pulseFault.afterEcl, h3]
  exact .ite h4.failTransition (.ite h4.faultSafe h4)

theorem domFails {d : Nat} (h : s.Canonical) : (s.domFails d).Canonical := .ite h.upd.setO h.domCut.setO

theorem domFault {d : Nat} {inRamp : Bool} (h : s.Canonical) : (s.domFault d inRamp).Canonical :=
  h.domFails.inc.logEvt.upd.domFaulted

theorem execDomainRampTimeout {d : Nat} (h : s.Canonical) : Ans.Canonical (execDomainRampTimeout d t s) := by
  unfold Machine.execDomainRampTimeout
  extract_lets
  split
  exacts [.ite (.next h.upd.domFault) (.next h.upd), .next h.upd]

theorem monitorDom {mv ma : List Nat} {d : Nat} (h : s.Canonical) : (s.monitorDom mv ma d).Canonical :=
  .ite h.setOs.upd.domFault h.setOs.upd

theorem monitorFpa {vdet : List Nat} (h : s.Canonical) : (s.monitorFpa vdet p).Canonical := h.setOs

theorem fpaBudget (h : s.Canonical) : s.fpaBudget.Canonical :=
  .ite h.upd.setO (.ite h.upd.setO.upd.inc.fpaFault.failTransition h.upd.setO.upd.inc.fpaFault)

theorem monitorInput {sup : List Nat} (h : s.Canonical) : (s.monitorInput sup).Canonical :=
  .setOs (.ite (h.upd.frame State.holdupCharged_frame).setO (h.upd.frame State.holdupCharged_frame))

theorem execMonitorSnapshot {mv ma vdet sup : List Nat} (h : s.Canonical) :
    Ans.Canonical (execMonitorSnapshot mv ma vdet sup t s) := by
  unfold Machine.execMonitorSnapshot
  extract_lets
  refine .ite (.next h.upd) ?_
  exact .next (.fpaBudget (.foldl (h.upd.monitorInput.foldl fun _ _ h => h.monitorDom) fun _ _ h => h.monitorFpa))

/-! ### Machine/Hk -/

theorem setSlice {i : Pos} {n : Nat} (h : s.Canonical) : (s.setSlice i n).Canonical := h.setO

theorem hkStart {i : Pos} (h : s.Canonical) : (s.hkStart i).Canonical :=
  .ite h.upd.inc (h.upd.setO.demand.frame State.calOwed_frame)

theorem cmdHkCtrl {i : Pos} {v : Nat} (h : s.Canonical) : Res.Canonical (s.cmdHkCtrl via i v) := by
  refine h.cmd fun s h => ?_
  split
  exacts [.ok h, .ite .error (.ok h.hkStart), .ok (.ite (h.frame State.hkIdle_frame) h), .error]

theorem hkWrite {i : Pos} {ch value : Nat} (h : s.Canonical) : (s.hkWrite i ch value).Canonical :=
  .ite h.setO.upd.inc h.setO.upd

theorem execHkConversionResult {i : Fin 4} {volts : List Nat} {refin : Nat} (h : s.Canonical) :
    Ans.Canonical (execHkConversionResult i volts refin t s) := by
  unfold Machine.execHkConversionResult
  extract_lets
  split
  · exact .next h.upd
  · exact .ite (.next h.upd) (.ite (.next h.upd.hkWrite.upd.incWrap.upd) (.next h.upd.hkWrite.upd))

theorem readHkResult {i : Pos} (h : s.Canonical) : (s.readHkResult i).1.Canonical := h.setO

theorem execHkDomainOff {i : Fin 4} (h : s.Canonical) : Ans.Canonical (execHkDomainOff i t s) := by
  unfold Machine.execHkDomainOff
  extract_lets
  split
  exacts [.ite (.next h.upd.wantOff) (.next h.upd), .next h.upd]

theorem handSlice {i : Pos} (h : s.Canonical) : (s.handSlice i).Canonical := h.upd.setSlice
theorem calTurn (h : s.Canonical) : s.calTurn.Canonical := .ite h.handSlice.upd (.ite h (.ite h.upd.handSlice.upd h.upd))

theorem calEnd {n c : Nat} {good : Bool} (h : s.Canonical) : (s.calEnd n c good).Canonical := by
  unfold State.calEnd
  extract_lets _ _ _ _ s2 _ s3 _ _ _ s5
  have h2 : s2.Canonical := h.upd.inc
  have h3 : s3.Canonical := .ite h2.setSlice h2
  have h5 : s5.Canonical := h3.upd.upd
  exact .ite (.ite h2 h2.upd) h5.upd.logEvt

theorem execHkCalibrationComplete {offset gain : Int} (h : s.Canonical) :
    Ans.Canonical (execHkCalibrationComplete offset gain t s) := by
  unfold Machine.execHkCalibrationComplete
  extract_lets
  split
  exacts [.ite (.next (h.upd.calEnd.frame State.calOwed_frame)) (.next h.upd), .next h.upd]

theorem execShutterTempConversion {volts : List Nat} {refin : Nat} (h : s.Canonical) :
    Ans.Canonical (execShutterTempConversion volts refin t s) := by
  unfold Machine.execShutterTempConversion
  extract_lets
  split
  · split <;> exact .next h.upd
  · exact .next h.upd

/-! ### Machine/HostPort -/

theorem linkTrain {rate lanes : Nat} (h : s.Canonical) : (s.linkTrain rate lanes).Canonical := .ite h.upd.setO h
theorem enterD3hot (h : s.Canonical) : s.enterD3hot.Canonical := h.upd.dmaDrop

theorem execMsixVectorUnmask {fn : Bool} {v : Nat} (h : s.Canonical) : Ans.Canonical (execMsixVectorUnmask fn v t s) := by
  unfold Machine.execMsixVectorUnmask
  extract_lets
  refine .ite (.next h.upd) ?_
  refine .ite (.next (h.upd.frame State.sendPending_frame)) ?_
  exact .ite (.next (h.upd.frame State.sendPending_frame)) (.next h.upd)

theorem blockedWrite {a n : Nat} (h : s.Canonical) : (s.blockedWrite a n).Canonical :=
  .logEvt (.ite h.inc (h.foldl fun _ _ h => h.inc))

theorem offlineHit (h : s.Canonical) : s.offlineHit.Canonical := h.upd.inc

theorem execBar2Write {addr : Nat} {bytes : List Byte} (h : s.Canonical) : Ans.Canonical (execBar2Write addr bytes t s) := by
  unfold Machine.execBar2Write
  extract_lets
  refine .ite .fault ?_
  refine .ite (.next h.upd) ?_
  exact .ite (.next h.upd) (.ite (.next h.upd.offlineHit) (.ite (.next h.upd) (.next h.upd.blockedWrite)))

theorem execBar2OfflineAccess {addr n : Nat} {write : Bool} (h : s.Canonical) :
    Ans.Canonical (execBar2OfflineAccess addr n write t s) := by
  unfold Machine.execBar2OfflineAccess
  extract_lets
  refine .ite (.next h.upd) ?_
  exact .ite (.next h.upd) (.ite (.next h.upd) (.ite (.next h.upd.offlineHit) (.next h.upd.offlineHit.upd)))

/-! ### Machine/Integ -/

theorem commitRefused {mask code : Nat} (h : s.Canonical) : (s.commitRefused mask code).Canonical := .ite h.countRefused h
theorem cmdGenCommit {v : Nat} (h : s.Canonical) : Res.Canonical (s.cmdGenCommit via v) := h.cmd fun _ h => h.commit

theorem execGenCommit {v : Nat} (h : s.Canonical) : Ans.Canonical (execGenCommit via v t s) := by
  refine .next (h.upd.onPath fun s h => ?_)
  extract_lets s1
  have h1 : s1.Canonical := h.writeOf
  split
  exacts [h1.cmdGenCommit _ ‹_›, h1.commitRefused.refuse]

theorem chainCommit (h : s.Canonical) : (s.chainCommit r).1.Canonical := by
  unfold State.chainCommit
  extract_lets
  refine .iteFst h ?_
  split
  exacts [h.commit _ ‹_›, h.commitRefused]

theorem cmdGenDiscard {v : Nat} (h : s.Canonical) : Res.Canonical (s.cmdGenDiscard via v) := h.cmd fun _ h => h.discardGen

theorem execVdetSettle (h : s.Canonical) : Ans.Canonical (execVdetSettle p t s) := by
  unfold Machine.execVdetSettle
  extract_lets
  split
  exacts [.ite (.next h.upd) (.next h.upd), .next h.upd]

theorem rampEnded {at_ : Nat} (h : s.Canonical) : (s.rampEnded p at_).Canonical := h.setO.upd

theorem execVdetRampEnd (h : s.Canonical) : Ans.Canonical (execVdetRampEnd p t s) := by
  unfold Machine.execVdetRampEnd
  extract_lets
  split
  exacts [.ite (.next h.upd.rampEnded.modeProceed) (.next h.upd), .next h.upd]

theorem vdetFault {ma : Nat} (h : s.Canonical) : (s.vdetFault p ma).Canonical :=
  .ite h.upd.railsLost.setO.inc.notify.failTransition h.upd.railsLost.setO.inc.notify

theorem cmdStatLatch {v : Nat} (h : s.Canonical) : Res.Canonical (s.cmdStatLatch via p v) :=
  h.cmd fun _ h => h.done fun _ h => h.upd

theorem execStatLatchComplete (h : s.Canonical) : Ans.Canonical (execStatLatchComplete p t s) := by
  unfold Machine.execStatLatchComplete
  extract_lets
  split
  exacts [.next h.upd.setO.requestLine, .next h.upd]

/-! ### Machine/IngotOps -/

theorem ringFull {r : Nat} (h : s.Canonical) : (s.ringFull r).Canonical := .ite h.inc h.upd.inc

theorem takeFor {x : FrameCtx} {q : Nat × Nat × Nat × Nat} (h : s.Canonical) : (s.takeFor x p q).Canonical := by
  unfold State.takeFor
  extract_lets
  split
  · exact h.upd
  · split
    exacts [.ite (h.frame State.release_frame).ringFull.upd h.ringFull, h.ringFull]

theorem takeSlots {x : FrameCtx} (h : s.Canonical) : (s.takeSlots x p).Canonical := h.foldl fun _ _ h => h.takeFor

theorem completeSlot {d : DoneFrame} {r k : Nat} (h : s.Canonical) : (s.completeSlot p d r k).Canonical := by
  unfold State.completeSlot
  extract_lets _ _ _ _ _ _ _ _ s3 _ s4
  have h3 : s3.Canonical := h.upd
  have h4 : s4.Canonical := .ite h3 h3.upd
  exact .ite h.discardSlot h4.requestLine

theorem completeFrame {d : DoneFrame} (h : s.Canonical) : (s.completeFrame p d).Canonical :=
  h.foldl fun _ _ h => .ite (h.frame State.release_frame) h.completeSlot

theorem completeMeans {d : DoneFrame} (h : s.Canonical) : (s.completeMeans p d).Canonical := by
  unfold State.completeMeans
  extract_lets
  refine .ite h ?_
  refine .ite (h.foldl fun _ _ h => h.inc) ?_
  refine h.foldl fun s _ h => ?_
  split
  exacts [h.upd.completeSlot, h.ringFull]

theorem ingotsDone (h : s.Canonical) : (s.ingotsDone p).Canonical := by
  unfold State.ingotsDone
  split
  exacts [h, .ite h.upd.completeMeans h.upd.completeFrame]

/-! ### Machine/Output -/

theorem endPause {b : Bool} (h : s.Canonical) : (s.endPause b).Canonical :=
  (h.stopHold.frame State.setOutPort_frame).foldl fun _ _ h => h.frame State.sendFrame_frame

theorem pauseExpired {b : Bool} (h : s.Canonical) : (s.pauseExpired b).Canonical := .ite h.endPause h
theorem portAt {b : Bool} (h : s.Canonical) : (s.portAt b t).Canonical := h.upd.pauseExpired

theorem outLinkDown {b : Bool} (h : s.Canonical) : (s.outLinkDown b).Canonical := by
  unfold State.outLinkDown
  extract_lets _ s1
  have h1 : s1.Canonical := h.frame State.setOutPort_frame
  exact h1.endPause.discardIf

theorem execOutLinkChange {port up : Bool} (h : s.Canonical) : Ans.Canonical (execOutLinkChange port up t s) := by
  unfold Machine.execOutLinkChange
  extract_lets
  refine .ite (.ite (.next (h.portAt.frame State.outLinkUp_frame)) (.next h.portAt)) ?_
  exact .ite (.next h.portAt.outLinkDown) (.next h.portAt)

theorem pauseArrives {b : Bool} {q : Nat} (h : s.Canonical) : (s.pauseArrives b q).Canonical :=
  .ite h.inc (.ite h.inc.endPause (h.inc.frame State.setOutPort_frame))

theorem execArpReply {port : Bool} {ip mac : Nat} (h : s.Canonical) : Ans.Canonical (execArpReply port ip mac t s) := by
  unfold Machine.execArpReply
  extract_lets
  split
  exacts [.ite (.next (h.upd.frame State.putArp_frame)) (.next h.upd), .next h.upd]

theorem execArpRetry {port : Bool} {ip : Nat} (h : s.Canonical) : Ans.Canonical (execArpRetry port ip t s) := by
  unfold Machine.execArpRetry
  extract_lets
  split
  · exact .ite (.next ((h.portAt.frame State.putArp_frame).frame State.askArp_frame)) (.next h.portAt)
  · exact .next h.portAt

theorem execArpRefresh {port : Bool} {ip : Nat} (h : s.Canonical) : Ans.Canonical (execArpRefresh port ip t s) := by
  unfold Machine.execArpRefresh
  extract_lets
  split
  · refine .ite ?_ (.next h.portAt)
    refine .ite (.next (h.portAt.frame State.setOutPort_frame)) ?_
    exact .next ((h.portAt.frame State.putArp_frame).frame State.askArp_frame)
  · exact .next h.portAt

theorem echo {b : Bool} {ip mac : Nat} {body : List Byte} (h : s.Canonical) : (s.echo b ip mac body).Canonical :=
  .ite h.inc ((h.frame State.setOutPort_frame).frame State.sendFrame_frame).inc

theorem egress {b : Bool} (h : s.Canonical) : (s.egress b).Canonical := by
  unfold State.egress
  split
  · exact h
  · extract_lets
    refine .ite ((h.upd.frame State.setOutPort_frame).frame State.fetchAhead_frame) ?_
    exact (h.frame State.release_frame).inc.frame State.resolve_frame

theorem ingotSent {b : Bool} {r k : Nat} (h : s.Canonical) : (s.ingotSent b r k).Canonical := by
  unfold State.ingotSent
  extract_lets _ s1
  have h1 : s1.Canonical := (h.frame State.release_frame).frame State.setOutPort_frame
  exact .ite h1.inc h1.inc.inc

theorem datagram {b : Bool} {r k i off : Nat} {d : List Byte} (h : s.Canonical) : (s.datagram b r k i off d).Canonical := by
  unfold State.datagram
  extract_lets _ _ _ _ _ s1
  have h1 : s1.Canonical := (h.upd.frame State.setOutPort_frame).frame State.fetchAhead_frame
  exact .ite h1.setO.ingotSent h1.setO

theorem execDatagramSend {port : Bool} (h : s.Canonical) : Ans.Canonical (execDatagramSend port t s) := by
  unfold Machine.execDatagramSend
  extract_lets
  split
  exacts [.ite (.next h.portAt.datagram) (.next h.portAt), .next h.portAt]

/-! ### Machine/Status -/

theorem readEffect {i sub : Nat} (h : s.Canonical) : (s.readEffect i sub).Canonical := by
  unfold State.readEffect
  extract_lets
  split
  exacts [h.upd, h.frame State.setEnc_frame, h.upd, h.upd, h.upd, h.readHkResult, h]

/-! ### Machine/ReadObj -/

theorem readValue {r : ObjRow} {k : Nat} (h : s.Canonical) : (s.readValue via r k).1.Canonical := h.readEffect

/-! ### Machine/Put -/

theorem putScalar {r : ObjRow} {k : Nat} {v : Int} (h : s.Canonical) : (s.putScalar r k v).Canonical := by
  unfold State.putScalar
  refine .ite (h.foldl fun _ _ h => h.setPending) ?_
  split
  exacts [h.setKeep.setO, h.setO]

theorem putEffect {k : Nat} {changed : Bool} (h : s.Canonical) : (s.putEffect via k changed).Canonical := by
  unfold State.putEffect
  extract_lets
  refine .ite h.upd ?_
  refine .ite (.ite h.newTimeSource h) ?_
  refine .ite (.ite h h.upd) ?_
  refine .ite (h.frame State.setEnc_frame) ?_
  refine .ite (h.frame State.rearmAll_frame) ?_
  refine .ite h.upd ?_
  refine .ite h.upd ?_
  refine .ite h.setEstimates ?_
  exact .ite (.ite h.vdetRamp h) (.ite (.ite h h.upd) (.ite (.ite h h.upd) (.ite h.upd (.ite h.logWrite h))))

theorem put {k : Nat} {x : Written} (h : s.Canonical) : Res.Canonical (s.put via k x) := by
  unfold State.put
  split
  · exact .error
  · extract_lets _ s1
    have h1 : s1.Canonical := h.frame State.touch_keeps
    split
    exacts [.error, .ok (.markExpert (.putEffect (.ite h1.putScalar h1.upd)))]

/-! ### Machine/Sets -/

theorem saveSet {n : Nat} (h : s.Canonical) : Res.Canonical (s.saveSet n) := .ite .error (.ok h.upd.opStart.nvWrite)
theorem cmdSetSave {v : Nat} (h : s.Canonical) : Res.Canonical (s.cmdSetSave via v) := h.cmd fun _ h => h.saveSet

theorem putEntry {e : SetEntry} (h : s.Canonical) : Res.Canonical (s.putEntry e) := by
  unfold State.putEntry
  split
  exacts [.ite .error h.put, .error]

theorem putEntries {l : List SetEntry} (h : s.Canonical) : (State.putEntries l s).1.Canonical := by
  induction l generalizing s with
  | nil => exact h
  | cons e l ih =>
    unfold State.putEntries
    split
    · exact ih (h.putEntry _ ‹_›)
    · exact h

theorem defaultGen (h : s.Canonical) : (s.defaultGen p).Canonical := .setO (h.setGen ⟨rfl, rfl, (h.gen p).gov⟩)

theorem defaultObjects (h : s.Canonical) : s.defaultObjects.Canonical := by
  unfold State.defaultObjects
  extract_lets _ s1 s2
  have h1 : s1.Canonical := ⟨Store.wfFrom_filter _ h.od, h.inForce, h.gen⟩
  have h2 : s2.Canonical := h1.foldl fun _ _ h => h.defaultGen
  exact .fixLoads (h2.foldl fun _ _ h => .ite h h.putEffect)

theorem setFailed {n : Nat} (h : s.Canonical) : (s.setFailed n).Canonical := h.setO.logEvt

theorem applySet {n : Nat} {l : List SetEntry} (h : s.Canonical) : (s.applySet n l).1.Canonical := by
  unfold State.applySet
  extract_lets
  split
  · exact h.putEntries.commit _ ‹_›
  · exact h.putEntries.defaultObjects.countRefused.setFailed
  · exact h.putEntries.defaultObjects.setFailed

theorem cmdSetApply {v : Nat} (h : s.Canonical) : Res.Canonical (s.cmdSetApply via v) := by
  refine h.cmd fun s h => ?_
  split
  exacts [.error, .ok (h.frame State.xipRecord_frame).applySet]

theorem startupSet (h : s.Canonical) : s.startupSet.Canonical := by
  unfold State.startupSet
  extract_lets
  refine .ite h ?_
  split
  · exact h.defaultObjects.setFailed
  · exact .ite (h.frame State.xipRecord_frame).applySet.setO (h.frame State.xipRecord_frame).applySet

theorem hostPortStands (h : s.Canonical) : s.hostPortStands.Canonical :=
  .ite h.upd.wantOn.wantOn (.wantOff (.wantOff (.ite h.upd.dmaDrop h.upd)))

theorem firstStandby (h : s.Canonical) : s.firstStandby.Canonical := by
  unfold State.firstStandby
  extract_lets _ s1 s2
  have h1 : s1.Canonical := h.upd.hostPortStands
  have h2 : s2.Canonical := .ite h1 h1.putMode
  exact .nvKick (.frame (.ite h2.raiseArb h2) State.flushLog_keeps)

theorem execStewardFirmwareStart (h : s.Canonical) : Ans.Canonical (execStewardFirmwareStart t s) := by
  unfold Machine.execStewardFirmwareStart
  extract_lets s1 _ s2 s3 _ s4 s5
  have h1 : s1.Canonical := h.upd
  have h2 : s2.Canonical := h1.upd
  have h3 : s3.Canonical := h2.loadKept.keptCounters.loadLease.setO.checkCounters
  have h4 : s4.Canonical := h3.upd
  have h5 : s5.Canonical := .repairArb (.ite h4.zeroiseKeys h4)
  exact .ite (.next h1) (.next (.debugDomain (h5.flashRelax.foldl fun _ _ h => .ite h.wantOn h)))

/-! ### Machine/Storage -/

theorem keepCommit {l : List (Nat × Byte)} (h : s.Canonical) : (s.keepCommit l).Canonical := by
  unfold State.keepCommit
  extract_lets s1
  have h1 : s1.Canonical := h.foldl fun _ _ h => h.upd
  split
  exacts [h1.nvFailed, h1]

theorem keepDrop {l : List (Nat × Byte)} (h : s.Canonical) : (s.keepDrop l).Canonical := by
  unfold State.keepDrop
  split
  exacts [h, h.inc.log]

theorem cmdNvUserData {bytes : List Byte} (h : s.Canonical) : Res.Canonical (s.cmdNvUserData via bytes) :=
  h.cmdDom fun _ h => .ite .error (.ok h.keepCommit)

theorem annealPage {page : Nat} {weak : List Nat} (h : s.Canonical) : (s.annealPage page weak).Canonical :=
  .ite h.incBy.upd h.incBy.upd.setO

theorem cmdNvAnnealNow {v : Nat} (h : s.Canonical) : Res.Canonical (s.cmdNvAnnealNow via v) :=
  h.cmd fun _ h => h.done fun _ h => h.upd

theorem listFailing (h : s.Canonical) : s.listFailing.Canonical := by
  unfold State.listFailing
  split
  exacts [h, .ite h h.setJournal]

theorem execStoreAnneal {sector : Nat} {weak : Bool} {flips : List (Nat × Byte)} (h : s.Canonical) :
    Ans.Canonical (execStoreAnneal sector weak flips t s) := by
  unfold Machine.execStoreAnneal
  extract_lets
  split
  · refine .ite (.next h.upd) ?_
    extract_lets
    split
    · exact .next h.upd
    · extract_lets s1
      have h1 : s1.Canonical := h.upd.frame State.decayed_frame
      exact .ite (.next (.ite h1.compactSector h1)) (.next h1.listFailing)
  · exact .next h.upd

theorem execFlashStatusPoll {busy fail : Bool} (h : s.Canonical) : Ans.Canonical (execFlashStatusPoll busy fail t s) := by
  unfold Machine.execFlashStatusPoll
  extract_lets
  split
  · exact .next h.upd
  · extract_lets s1
    have h1 : s1.Canonical := h.upd.frame State.selectUsed_frame
    refine .ite (.next (.ite h1.flashFailed.closeEnd h1.flashFailed)) ?_
    exact .ite (.next h1) (.next (.ite h1.flashReady.closeEnd h1.flashReady))

theorem execRecordRepair (h : s.Canonical) : Ans.Canonical (execRecordRepair t s) := by
  unfold Machine.execRecordRepair
  extract_lets
  refine .ite (.next (h.upd.frame State.askBus_frame)) ?_
  split
  · split
    exacts [.ite (.next h.upd.jobTake) (.next h.upd.repairDone.nvKick), .next h.upd.repairDone.nvKick]
  · exact .next h.upd

theorem execEraseRedone (h : s.Canonical) : Ans.Canonical (execEraseRedone t s) := by
  unfold Machine.execEraseRedone
  extract_lets
  refine .ite (.next (h.upd.frame State.askBus_frame)) ?_
  split
  exacts [.next h.upd.eraseStart, .next h.upd]

theorem compactStuck (h : s.Canonical) : s.compactStuck.Canonical := .ite h.upd.opEnd h

theorem execStoreCompaction (h : s.Canonical) : Ans.Canonical (execStoreCompaction t s) := by
  unfold Machine.execStoreCompaction
  extract_lets
  refine .ite (.next h.upd) ?_
  split
  exacts [.next h.upd.compactTail.compactStuck, .ite (.next h.upd.opEnd) (.next h.upd)]

theorem cmdNvCompactGo {v : Nat} (h : s.Canonical) : Res.Canonical (s.cmdNvCompactGo via v) :=
  h.cmd fun _ h => .ite .error (.ok (.ite h.upd.opStart.upd.opEnd h.upd.opStart))

theorem cmdNvStoreFormat {v : Nat} (h : s.Canonical) : Res.Canonical (s.cmdNvStoreFormat via v) :=
  h.cmd fun _ h => .ite .error (.ok h.upd.opStart.formatStep)

theorem deleteKey {key : Nat} (h : s.Canonical) : Res.Canonical (s.deleteKey key) := by
  unfold State.deleteKey
  split
  exacts [.error, .ite .error (.ok h.nvWrite)]

theorem cmdNvSetDelete {v : Nat} (h : s.Canonical) : Res.Canonical (s.cmdNvSetDelete via v) := h.cmd fun _ h => h.deleteKey

theorem cmdNvRecordDelete {v : Nat} (h : s.Canonical) : Res.Canonical (s.cmdNvRecordDelete via v) :=
  h.cmd fun _ h => h.deleteKey

/-! ### Machine/Thermal -/

theorem setExcluded {i : Nat} {b : Bool} (h : s.Canonical) : (s.setExcluded i b).Canonical := h.setO

theorem judgeSensor {s0 : State} {es ts : List Int} {i : Nat} (h : s.Canonical) : (s0.judgeSensor es ts s i).Canonical :=
  .ite (.ite h.upd.setExcluded h.upd) (.ite h.upd.setExcluded.inc.logEvt h.upd)

theorem sensorFault (h : s.Canonical) : s.sensorFault.Canonical := .ite (.ite h.faultSafe.addCause h) h.dropCause
theorem showThrottle (h : s.Canonical) : s.showThrottle.Canonical := h.setO
theorem askThrottle {ms : Nat} (h : s.Canonical) : (s.askThrottle ms).Canonical := h.upd.showThrottle.setO.notify
theorem tellThrottle (h : s.Canonical) : s.tellThrottle.Canonical := h.showThrottle.notify

theorem takeStep (h : s.Canonical) : s.takeStep.Canonical := by
  unfold State.takeStep
  extract_lets _ s1
  have h1 : s1.Canonical := by
    unfold s1
    split <;> exact h.upd
  exact h1.inc.tellThrottle

theorem graceOver (h : s.Canonical) : s.graceOver.Canonical :=
  .ite h.upd (.ite (.upd (.ite h h.takeStep)) (.askThrottle (.ite h h.takeStep)))

theorem execThrottleGraceExpiry (h : s.Canonical) : Ans.Canonical (execThrottleGraceExpiry t s) := by
  unfold Machine.execThrottleGraceExpiry
  extract_lets
  split
  exacts [.ite (.next h.upd.graceOver) (.next h.upd), .next h.upd]

theorem undoStep (h : s.Canonical) : s.undoStep.Canonical := .ite h.upd (.tellThrottle (.upd (.ite h.upd h.upd)))

theorem execThrottleUndo (h : s.Canonical) : Ans.Canonical (execThrottleUndo t s) := by
  unfold Machine.execThrottleUndo
  extract_lets
  split
  exacts [.ite (.next h.upd.undoStep) (.next h.upd), .next h.upd]

theorem endRequest (h : s.Canonical) : s.endRequest.Canonical := h.upd.showThrottle.undoStep

theorem quenchNow (h : s.Canonical) : s.quenchNow.Canonical := by
  unfold State.quenchNow
  extract_lets _ _ _ _ s1
  have h1 : s1.Canonical := h.upd.showThrottle.upd.bumpCounter.notify.nvClose
  exact .ite h1.domCut.domCut (.ite h1.faultSafe.addCause.domainsOff h1)

theorem thermState {n : Nat} (h : s.Canonical) : (s.thermState n).Canonical := h.upd.setO
theorem warned (h : s.Canonical) : s.warned.Canonical := h.inc.notify

theorem thermRise {was n : Nat} (h : s.Canonical) : (s.thermRise was n).Canonical := by
  unfold State.thermRise
  extract_lets _ s1
  have h1 : s1.Canonical := .ite h.thermState.warned h.thermState
  exact .ite h1.quenchNow (.ite h1.askThrottle h1)

theorem thermFall {was : Nat} (h : s.Canonical) : (s.thermFall was).Canonical := .ite h.thermState.endRequest h.thermState
theorem thermJudge {i : Int} (h : s.Canonical) : (s.thermJudge i).Canonical := .ite h.upd.thermRise (.ite h.upd.thermFall h.upd)
theorem showNodes {ts ns : List Int} (h : s.Canonical) : (s.showNodes ts ns).Canonical := h.setOs

theorem thermEval {sensors : List Int} (h : s.Canonical) : (s.thermEval sensors).Canonical :=
  .thermJudge (.sensorFault (.setOs (.upd (.showNodes (h.foldl fun _ _ h => h.judgeSensor)))))

theorem cmdQuenchClear {v : Nat} (h : s.Canonical) : Res.Canonical (s.cmdQuenchClear via v) :=
  h.cmd fun _ h => h.done fun _ h => .ite h h.upd.dropCause.thermState.endRequest

/-! ### Machine/Trigger -/

theorem encStep {e up : Bool} (h : s.Canonical) : (s.encStep e up t).Canonical := (h.frame State.setEnc_frame).setO.countReached

theorem encIllegal {e : Bool} (h : s.Canonical) : (s.encIllegal e).Canonical :=
  .ite (h.inc.frame State.setEnc_frame) (h.inc.frame State.setEnc_frame).notify

theorem encLevels {e a b : Bool} (h : s.Canonical) : (s.encLevels e a b t).Canonical := by
  unfold State.encLevels
  extract_lets _ _ _ s1
  have h1 : s1.Canonical := h.frame State.setEnc_frame
  refine .ite h1 ?_
  split
  exacts [h1, h1.encIllegal, .ite h1 h1.encStep, .ite h1.encStep h1]

theorem zEdge {e : Bool} (h : s.Canonical) : (s.zEdge e).Canonical := by
  unfold State.zEdge
  extract_lets _ mode _ s1 latched
  have h1 : s1.Canonical := h.frame State.setEnc_frame
  have hl : latched.Canonical := h1.setO
  clear_value mode
  split
  · exact hl
  · exact hl.setO.frame State.rearmEnc_frame
  · exact .ite (.frame (.setO (hl.frame State.setEnc_frame)) State.rearmEnc_frame) h1
  · exact h1

theorem cmdEncPreset {e : Bool} {v : Nat} (h : s.Canonical) : Res.Canonical (s.cmdEncPreset via e v) :=
  h.cmd fun _ h => h.done fun _ h => h.setO.frame State.rearmEnc_frame

theorem inputEdge {i : Nat} (h : s.Canonical) : (s.inputEdge i t).Canonical :=
  h.foldl fun _ _ h => .ite (.ite h.upd.genEvent h.upd) h

theorem cmdTgFire {g : Pos} {v : Nat} (h : s.Canonical) : Res.Canonical (s.cmdTgFire via g v) :=
  h.cmd fun _ h => h.done fun _ h => h.genEvent

theorem channelEvent {c seq st e : Nat} (h : s.Canonical) : (s.channelEvent c seq t st e).Canonical := h.incBy.upd.deliver

theorem takeEvent {b : List Byte} (h : s.Canonical) : (s.takeEvent b).Canonical := by
  unfold State.takeEvent
  extract_lets
  refine .ite h ?_
  refine .ite h.inc ?_
  split
  exacts [.ite h.inc h.channelEvent, h.channelEvent]

theorem heldMade (h : s.Canonical) : (s.heldMade p).Canonical := by
  unfold State.heldMade
  extract_lets
  split
  exacts [.ite h.upd.commitStart h, h]

theorem frameStarts {rel : Nat} (h : s.Canonical) : (s.frameStarts rel p).Canonical := by
  unfold State.frameStarts
  split
  · exact h
  · extract_lets
    split
    · extract_lets _ _ s1
      have h1 : s1.Canonical := .frame (.upd (.applyShadow (.upd (h.upd.setO.endBlank.eclMark.of_fst ‹_›))))
          State.outsStart_frame
      exact .ite h1.intakeDiscard (.ite h1.frameClosed h1)

theorem markEnd {sel : Pos} {words : List Nat} (h : s.Canonical) : (s.markEnd sel words).Canonical := by
  unfold State.markEnd
  split
  exacts [.ite (.frame (h.sp0Release.foldl fun _ _ h => h.frameStarts) State.sp0Next_frame) h, h]

theorem execSp0TransactionEnd {sel : Fin 4} {words : List Nat} (h : s.Canonical) :
    Ans.Canonical (execSp0TransactionEnd sel words t s) := by
  unfold Machine.execSp0TransactionEnd
  extract_lets
  split
  exacts [.ite (.next (h.upd.sp0Release.entryIds.frame State.sp0Next_frame)) (.next h.upd), .next h.upd]

theorem pulseBegins {i : Pos} (h : s.Canonical) : (s.pulseBegins i).Canonical := by
  unfold State.pulseBegins
  extract_lets
  split
  exacts [h, .ite h.upd (.ite h.upd.inc h.upd)]

/-! ### Machine/ObjWrite -/

theorem releaseExpert {f : Nat} (h : s.Canonical) : (s.releaseExpert f).Canonical := by
  unfold State.releaseExpert
  split
  exacts [h.setO, h]

theorem cmdExpertRelease {v : Nat} (h : s.Canonical) : Res.Canonical (s.cmdExpertRelease via v) :=
  h.cmd fun _ h => h.done fun _ h => h.releaseExpert

theorem clearEpoch (h : s.Canonical) : Res.Canonical s.clearEpoch := .ite .error (.ok h.setOs.writeLease)
theorem cmdEpochClear {v : Nat} (h : s.Canonical) : Res.Canonical (s.cmdEpochClear via v) := h.cmd fun _ h => h.clearEpoch

theorem writeBlob {k : Nat} {b : List Byte} (h : s.Canonical) : Res.Canonical (s.writeBlob via k b) := by
  unfold State.writeBlob
  split
  · exact h.cmdNvUserData
  · exact h.cmdRawXfer
  · exact h.cmdSecKeyWrite
  · exact h.cmdSecArchiveKey
  · exact h.cmdSecTokenKey
  · exact h.cmdHpAuthReq
  · exact h.cmdHpAuthProve
  · exact h.cmdDbgToken
  · exact h.put

theorem domRead (h : s.Canonical) : Res.Canonical s.domRead := by
  unfold State.domRead
  extract_lets
  split
  exacts [.error, .ite .error (.ite .error (.ok (h.frame State.readBlob_frame).upd.setO))]

theorem domWrite (h : s.Canonical) : Res.Canonical s.domWrite := by
  unfold State.domWrite
  extract_lets
  split
  exacts [.error, .ite .error h.writeBlob]

theorem domStart {v : Nat} (h : s.Canonical) : (s.domStart v).Canonical := by
  have hr : Res.Canonical (if v = 1 then s.domRead else s.domWrite) := .ite h.domRead h.domWrite
  unfold State.domStart
  split
  · exact (hr _ ‹_›).upd
  · exact h.failNoted.setO.setO.upd

theorem cmdDomCmd {v : Nat} (h : s.Canonical) : Res.Canonical (s.cmdDomCmd via v) :=
  h.cmd fun _ h => h.done fun _ h => h.domStart

/-- Every command that is an object, by the arms of the table. -/
theorem commandOf {k v : Nat} : CmdsCanonical (State.commandOf via k v) := by
  unfold State.commandOf
  extract_lets
  split
  · exact .some fun _ h => h.cmdExpertRelease
  · exact .some fun _ h => h.cmdDomCmd
  · exact .ite (.some fun _ h => h.cmdModeReqGo) .none
  · exact .some fun _ h => h.cmdSoftReset
  · exact .some fun _ h => h.cmdEpochClear
  · exact .some fun _ h => h.cmdTimeSet
  · exact .some fun _ h => h.cmdCoefOpen
  · exact .some fun _ h => h.cmdCoefClose
  · exact .some fun _ h => h.cmdLoadGo
  · exact .some fun _ h => h.cmdSaveGo
  · exact .some fun _ h => h.cmdTailHistReset
  · exact .some fun _ h => h.cmdStatLatch
  · exact .some fun _ h => h.cmdGenCommit
  · exact .some fun _ h => h.cmdGenDiscard
  · exact .some fun _ h => h.cmdEclRequest
  · exact .some fun _ h => h.cmdEclAbort
  · exact .some fun _ h => h.cmdEclFaultClear
  · exact .some fun _ h => h.cmdEclShut
  · exact .some fun _ h => h.cmdEncPreset
  · exact .some fun _ h => h.cmdTgFire
  · exact .some fun _ h => h.cmdSetSave
  · exact .some fun _ h => h.cmdNvSetDelete
  · exact .some fun _ h => h.cmdSetApply
  · exact .some fun _ h => h.cmdNvRecordDelete
  · exact .some fun _ h => h.cmdNvAnnealNow
  · exact .some fun _ h => h.cmdNvCompactGo
  · exact .some fun _ h => h.cmdNvStoreFormat
  · exact .some fun _ h => h.cmdHkCtrl
  · exact .some fun _ h => h.cmdQuenchClear
  · exact .some fun _ h => h.cmdSecLifecycleSet
  · exact .some fun _ h => h.cmdSecArbCommit
  · exact .some fun _ h => h.cmdSecKeyErase
  · exact .some fun _ h => h.cmdHpAuthClose
  · exact .some fun _ h => h.cmdDbgSetGrade
  · exact .some fun _ h => h.cmdDbgLock
  · exact .ite (.some fun _ h => h.cmdOpAbort) (.map fun _ _ h => h.cmdClear)

theorem writeCommand {row : ObjRow} {x : Written} {op : State → Res} (h : s.Canonical)
    (hop : ∀ s, s.Canonical → (op s).Canonical) : Res.Canonical (State.writeCommand via row x op s) := by
  unfold State.writeCommand
  refine .ite .error (.ite .error (.ite (hop _ h) ?_))
  split <;> exact .error

theorem objWrite {k : Nat} {x : Written} (h : s.Canonical) : Res.Canonical (State.objWrite via k x s) := by
  unfold State.objWrite
  split
  · exact .error
  · refine .ite (.ite .error h.writeBlob) ?_
    split
    · exact h.writeCommand (commandOf _ ‹_›)
    · exact h.put

theorem writeRefused {k v code : Nat} (h : s.Canonical) : (s.writeRefused k v code).Canonical :=
  .failNoted (.ite h.commitRefused h)

theorem execObjectWrite {key v : Nat} {ok : Bool} (h : s.Canonical) : Ans.Canonical (execObjectWrite via key v ok t s) := by
  refine .next ((h.frame State.keptIs_frame).upd.onPath fun s h => ?_)
  extract_lets s1
  have h1 : s1.Canonical := h.writeOf
  split
  exacts [h1.objWrite _ ‹_›, h1.writeRefused.refuse]

/-! ### Machine/Access -/

theorem readRequest (h : s.Canonical) : (s.readRequest r).1.Canonical := by
  unfold State.readRequest
  extract_lets
  split
  exacts [h, .iteFst (.iteFst h h.readEffect) (.iteFst h (h.frame State.readBlob_frame))]

theorem romRead (h : s.Canonical) : (s.romRead r).Canonical := .ite h (h.place.readRequest.frame State.answer_frame)

theorem writeSegment {session k offset : Nat} {last : Bool} {data : List Byte} (h : s.Canonical) :
    (s.writeSegment session k offset last data).1.Canonical := by
  unfold State.writeSegment
  extract_lets s1
  have h1 : s1.Canonical := h.frame State.staleStaging_frame
  split
  · exact h1.upd
  · refine .iteFst ?_ h1.upd
    split
    · exact writeBlob h1.upd _ ‹_›
    · exact h1.upd.failNoted

theorem writeRequest (h : s.Canonical) : (s.writeRequest r).1.Canonical := by
  unfold State.writeRequest
  extract_lets
  split
  · exact h
  · refine .iteFst (h.frame State.foreignSegment_frame) ?_
    refine .iteFst (h.frame State.foreignSegment_frame) ?_
    refine .iteFst ?_ h.writeSegment
    refine .iteFst h ?_
    refine .iteFst h ?_
    split
    exacts [h.objWrite _ ‹_›, h.writeRefused]

theorem rangeRequest (h : s.Canonical) : (s.rangeRequest r).1.Canonical :=
  .iteFst h (.iteFst h (.iteFst h (h.foldl fun _ _ h => h.readEffect)))

/-! ### Machine/Dma -/

theorem bar4Access {f : State → State} (h : s.Canonical) (hf : ∀ s, s.Canonical → (f s).Canonical) :
    (s.bar4Access f).Canonical := .ite h (.ite h.upd (hf _ h))

theorem bar4 {c : Nat} {f : State → State} (h : s.Canonical) (hf : ∀ s, s.Canonical → (f s).Canonical) :
    (s.bar4 c f).Canonical := h.bar4Access fun _ h => .ite (hf _ h) h.inc

theorem chRun {c : Nat} (h : s.Canonical) : (s.chRun c).Canonical := .ite h h.upd.setO

theorem chStop {c : Nat} {abort : Bool} (h : s.Canonical) : (s.chStop c abort).Canonical := by
  unfold State.chStop
  extract_lets
  refine .ite h ?_
  split
  exacts [h.setO.frame State.raise_keeps, h.upd.setO]

theorem dmaBlocked {x : DescRun} (h : s.Canonical) : (s.dmaBlocked x).Canonical := .ite h.blockedWrite h

theorem chStart {c : Nat} {b : List Byte} (h : s.Canonical) : (s.chStart c b).Canonical := by
  unfold State.chStart
  extract_lets _ _ _ _ _ s1
  have h1 : s1.Canonical := by
    unfold s1
    split
    exacts [h.dmaBlocked.upd, h.dmaBlocked]
  exact .ite h.setO h1.upd.setO

theorem execDmaBurstStart {c : Nat} {data : List Byte} {good : Bool} (h : s.Canonical) :
    Ans.Canonical (execDmaBurstStart c data good t s) := by
  unfold Machine.execDmaBurstStart
  extract_lets
  split
  exacts [.ite (.next h.upd) (.ite (.next (h.upd.frame State.burst_frame)) (.next h.upd)), .next h.upd]

theorem execDmaDescriptorEnd {c : Nat} {good : Bool} (h : s.Canonical) : Ans.Canonical (execDmaDescriptorEnd c good t s) := by
  unfold Machine.execDmaDescriptorEnd
  extract_lets
  split
  exacts [.ite (.next h.upd) (.next (.endDesc (.ite h.upd h.upd))), .next h.upd]

theorem execCompletionTimeout {c : Nat} (h : s.Canonical) : Ans.Canonical (execCompletionTimeout c t s) := by
  unfold Machine.execCompletionTimeout
  extract_lets
  split
  exacts [.next h.upd.endDesc, .next h.upd]

theorem execDmaStandbyCut {c : Nat} (h : s.Canonical) : Ans.Canonical (execDmaStandbyCut c t s) := by
  unfold Machine.execDmaStandbyCut
  extract_lets
  split
  exacts [.ite (.next h.upd.endDesc) (.next h.upd), .next h.upd]

theorem chCtrl {c v : Nat} (h : s.Canonical) : (s.chCtrl c v).Canonical := by
  unfold State.chCtrl
  extract_lets s1 s2 s3
  have h1 : s1.Canonical := .ite h.chRun h
  have h2 : s2.Canonical := .ite h1.chStop h1
  have h3 : s3.Canonical := .ite h2.chStop h2
  exact .ite h3.requestOf h3

theorem bar4Write {a v : Nat} (h : s.Canonical) : (s.bar4Write a v).Canonical :=
  .ite h.inc (.ite (h.frame State.tableWrite_frame) (.ite h.upd (.ite h.chCtrl h)))

theorem powerCtl {v : Nat} (h : s.Canonical) : (s.powerCtl v).Canonical :=
  .ite h.enterD3hot (.ite (h.frame State.leaveD3hot_frame) h)

theorem configWrite {a v : Nat} (h : s.Canonical) : (s.configWrite a v).Canonical := by
  unfold State.configWrite
  split
  · exact h.upd
  · exact h.upd
  · exact h.upd
  · exact h.upd
  · exact h.upd
  · exact h.powerCtl
  · exact h.frame State.msixCtl_frame
  · exact .ite h.dmaDrop.upd h.upd
  · exact h

theorem configAccess {f : State → State} (h : s.Canonical) (hf : ∀ s, s.Canonical → (f s).Canonical) :
    (s.configAccess f).Canonical := .ite (hf _ h) h

theorem answerWord {addr size : Nat} {x : State × Nat} (h : x.1.Canonical) : (State.answerWord addr size x).Canonical := h.upd

/-! ### Machine/Bar0 -/

theorem lowRead {k : Nat} (h : s.Canonical) : (s.lowRead k).1.Canonical := by
  unfold State.lowRead
  split
  exacts [h, .iteFst h (.iteFst h.readEffect.upd h.readEffect)]

theorem bar0Word {a : Nat} (h : s.Canonical) : (s.bar0Word a).1.Canonical := by
  unfold State.bar0Word
  split
  exacts [h.lowRead, h.frame State.upperRead_frame, h, h]

theorem bar0Access {f : State → State} (h : s.Canonical) (hf : ∀ s, s.Canonical → (f s).Canonical) :
    (s.bar0Access f).Canonical := h.onPath fun _ h => hf _ (h.frame State.touch_keeps)

theorem bar0Read {addr size : Nat} (h : s.Canonical) : (s.bar0Read addr size).Canonical := h.bar0Word.answerWord

theorem wordRead {bar : Bar} {addr size : Nat} (h : s.Canonical) : (s.wordRead bar addr size).Canonical := by
  unfold State.wordRead
  split
  · exact h.bar0Access fun _ h => h.bar0Read
  · exact h.bar4Access fun _ h => (h.frame State.bar4Word_frame).answerWord
  · exact h.configAccess fun _ h => h.answerWord

theorem bar0Drop {addr : Nat} (h : s.Canonical) : (s.bar0Drop addr).Canonical := h.inc.logEvt

theorem bar0Put {k : Nat} {x : Written} (h : s.Canonical) : (s.bar0Put k x).Canonical := by
  unfold State.bar0Put
  split
  exacts [h.objWrite _ ‹_›, h.writeRefused.refuse]

theorem lowWrite {k v : Nat} (h : s.Canonical) : (s.lowWrite k v).Canonical := by
  unfold State.lowWrite
  split
  exacts [h.dropHeld.refuse, .ite h.dropHeld.upd (.ite h.dropHeld.bar0Put h.dropHeld.refuse)]

theorem upperWrite {k v : Nat} (h : s.Canonical) : (s.upperWrite k v).Canonical := by
  unfold State.upperWrite
  extract_lets
  split
  exacts [.ite h.upd.bar0Put h.dropHeld.bar0Put, h.bar0Put]

theorem bar0Write {addr v : Nat} (h : s.Canonical) : (s.bar0Write addr v).Canonical := by
  unfold State.bar0Write
  split
  exacts [h.lowWrite, h.upperWrite, h.dropHeld.upd, h.dropHeld.bar0Drop]

theorem wordWrite {bar : Bar} {addr v : Nat} (h : s.Canonical) : (s.wordWrite bar addr v).Canonical := by
  unfold State.wordWrite
  split
  · exact h.bar0Access fun _ h => .ite h.bar0Write h.dropHeld.bar0Drop
  · exact h.bar4Access fun _ h => .ite h.bar4Write h
  · exact h.configAccess fun _ h => .ite h.configWrite h

theorem execBar0DroppedWrite {bar : Bar} {addr size : Nat} (h : s.Canonical) :
    Ans.Canonical (execBar0DroppedWrite bar addr size t s) := by
  unfold Machine.execBar0DroppedWrite
  extract_lets
  split
  · exact .ite (.next h.upd) (.next (h.upd.bar0Access fun _ h => h.dropHeld.bar0Drop))
  · exact .next (h.upd.bar4Access fun _ h => .ite h h.inc)
  · exact .next h.upd

theorem execBar0DomCmdEnd (h : s.Canonical) : Ans.Canonical (execBar0DomCmdEnd t s) := by
  unfold Machine.execBar0DomCmdEnd
  extract_lets
  split
  exacts [.next h.upd, .next (h.upd.setO.frame State.raise_keeps)]

/-! ### Machine/Forward -/

theorem sameStation {f : List Byte} (h : s.Canonical) : (s.sameStation f).Canonical := .ite h.upd.notify h
theorem queueTelegram {port : Bool} (h : s.Canonical) : (s.queueTelegram port).Canonical := .ite h.inc h.upd

theorem inspect {port : Bool} {f : List Byte} (h : s.Canonical) : (s.inspect port f).Canonical := by
  unfold State.inspect
  extract_lets
  refine .ite h.inc ?_
  refine .ite h.sameStation ?_
  split
  exacts [h.sameStation, .ite h.sameStation.inc (.ite h.sameStation.queueTelegram h.sameStation)]

theorem badFcs {port stomped : Bool} (h : s.Canonical) : (s.badFcs port stomped).Canonical := h.inc

theorem forward {port : Bool} {f : List Byte} {good : Bool} {residence : Nat} (h : s.Canonical) :
    (s.forward port f good residence).Canonical := .ite (.ite h.upd h.upd.inc) h

theorem arrive {port : Bool} {f : List Byte} {fcsOk stomped : Bool} {residence : Nat} (h : s.Canonical) :
    (s.arrive port f fcsOk stomped residence).Canonical := by
  unfold State.arrive
  extract_lets _ _ s1
  have h1 : s1.Canonical := .ite h.inc h.forward
  exact .ite h.inc (.ite (.ite h h.badFcs) (.ite h1.badFcs (.ite h1.inspect h1)))

/-! ### Machine/Frames -/

theorem handGen (h : s.Canonical) : (s.handGen p).Canonical := by
  have hg : (s.setGen p { s.gen.get p with gov := (s.gen.get p).act }).Canonical :=
    h.setGen ⟨(h.gen p).pend, (h.gen p).act, (h.gen p).act⟩
  exact .ite hg.setO.activate.upd hg.setO

theorem handVdet {num : Nat} (h : s.Canonical) : (s.handVdet p num).Canonical := .ite h h.vdetFollow

theorem handCoef (h : s.Canonical) : (s.handCoef p).Canonical := by
  unfold State.handCoef
  extract_lets _ _ s1 s2 _ s3 _ _ s5 s6
  have h1 : s1.Canonical := .ite h.upd.setO h
  have h2 : s2.Canonical := .ite h1.upd h1
  have h3 : s3.Canonical := h2.upd
  have h5 : s5.Canonical := h3.incWrap.upd
  have h6 : s6.Canonical := .ite (.setOs (.emptyTauHistory h5.upd)) h5
  exact .ite h3 h6.tauMedian

theorem eclLine {before : Int} (h : s.Canonical) : (s.eclLine p before).Canonical := .ite h.requestLine h

theorem vdetDue (h : s.Canonical) : (s.vdetDue p).Canonical := by
  unfold State.vdetDue
  split
  exacts [.ite h.becomeDue.upd h, h]

theorem handOver {f : OpenFrame} (h : s.Canonical) : (s.handOver p f).Canonical :=
  ((h.handGen.handVdet.frame State.handFilter_frame).vdetDue.eclHandOver.handCoef.upd.frame
    State.handWords_frame).showLoads.upd.takeSlots.eclLine.afterEcl

theorem execHandOverInstant (h : s.Canonical) : Ans.Canonical (execHandOverInstant p t s) := by
  unfold Machine.execHandOverInstant
  extract_lets
  split
  exacts [.next h.upd.handOver, .next h.upd]

/-! ### Machine/LaneOps -/

theorem takeMarker {lane g stripe place : Nat} (h : s.Canonical) : (s.takeMarker lane g stripe place).Canonical :=
  .ite h (.frame (.upd (.ite h.loseAlignment h)) State.tryAlign_frame)

theorem blockIn {g lane place raw : Nat} (h : s.Canonical) : (s.blockIn g lane place raw).1.Canonical := by
  unfold State.blockIn
  extract_lets
  refine .iteFst h.upd ?_
  split
  exacts [h.upd.takeMarker, h.upd.inc.frame State.takeBlock_frame, h.upd.frame State.takeBlock_frame]

theorem receiveBlocks {g : Nat} {b : LaneBlocks} (h : s.Canonical) : (s.receiveBlocks g b).1.Canonical :=
  foldlFst h fun _ _ h => h.blockIn

theorem takeRow {k : Pos} {row col0 : Nat} {data : List Nat} {fault : Bool} {subt : Option Nat} (h : s.Canonical) :
    (s.takeRow p k row col0 data fault subt).Canonical := by
  unfold State.takeRow
  extract_lets
  split
  exacts [.ite h.offerRow.warmRow h.offerRow, h.offerRow]

theorem hpRowEnds (h : s.Canonical) : s.hpRowEnds.Canonical := by
  unfold State.hpRowEnds
  extract_lets
  refine .ite h ?_
  split
  exacts [h.upd.takeRow, h.upd]

theorem hpPeriodBegins (h : s.Canonical) : s.hpPeriodBegins.Canonical := by
  unfold State.hpPeriodBegins
  split
  exacts [h.upd, h.upd.inc]

theorem hpPeriodEnds (h : s.Canonical) : s.hpPeriodEnds.Canonical := .frame (.ite h.upd.frameClosed h.upd) State.askTemp_frame

theorem hpSample {e : HpEdge} (h : s.Canonical) : (s.hpSample e).Canonical := by
  unfold State.hpSample
  refine .ite h.upd ?_
  refine .ite h ?_
  extract_lets _ _ _ _ s1
  have h1 : s1.Canonical := .ite h.upd h.upd.hpRowEnds
  exact .ite h1.hpPeriodBegins (.ite h1.hpPeriodEnds h1)

theorem hpSamples {edges : List HpEdge} (h : s.Canonical) : (s.hpSamples edges).Canonical := h.foldl fun _ _ h => h.hpSample

/-! ### Machine/Intake -/

theorem execLaneBlockLockLoss {lane : Nat} (h : s.Canonical) : Ans.Canonical (execLaneBlockLockLoss lane t s) := by
  unfold Machine.execLaneBlockLockLoss
  extract_lets
  refine .ite ?_ (.next h.upd)
  split
  exacts [.next h.upd.loseAlignment, .next h.upd]

theorem checkStart {f : OpenFrame} {pkt : List Byte} (h : s.Canonical) : (s.checkStart p f pkt).Canonical :=
  .ite h.upd.inc h.upd

theorem unsolicitedStart {tag : Nat} (h : s.Canonical) : (s.unsolicitedStart p tag).Canonical := h.frameClosed.inc.upd

theorem frameStartPkt {pkt : List Byte} (h : s.Canonical) : (s.frameStartPkt p pkt).Canonical := by
  unfold State.frameStartPkt
  extract_lets
  split
  exacts [.ite h.checkStart (.ite h.stray h.unsolicitedStart), h.stray]

theorem rowPkt {pkt : List Byte} (h : s.Canonical) : (s.rowPkt p pkt).Canonical := by
  unfold State.rowPkt
  split
  exacts [.ite h.takeRow h.stray, h.stray]

theorem frameEndPkt {pkt : List Byte} (h : s.Canonical) : (s.frameEndPkt p pkt).Canonical := by
  unfold State.frameEndPkt
  split
  exacts [.ite h.frameClosed h.stray, h.stray]

theorem onPacket {grp : Nat} {pkt : Packet} (h : s.Canonical) : (s.onPacket grp pkt).Canonical := by
  unfold State.onPacket
  extract_lets
  split
  exacts [h.takePacket, .ite h.takePacket.frameStartPkt (.ite h.takePacket.rowPkt h.takePacket.frameEndPkt)]

theorem receive {grp : Nat} {b : LaneBlocks} (h : s.Canonical) : (s.receive grp b).Canonical :=
  h.receiveBlocks.foldl fun _ _ h => h.onPacket

theorem execAlignmentMarker {lane block place : Nat} (h : s.Canonical) :
    Ans.Canonical (execAlignmentMarker lane block place t s) := by
  unfold Machine.execAlignmentMarker
  extract_lets
  split
  exacts [.next h.upd.receive, .next h.upd]

theorem execIntIdleTimeout (h : s.Canonical) : Ans.Canonical (execIntIdleTimeout p t s) := by
  unfold Machine.execIntIdleTimeout
  extract_lets
  split
  exacts [.ite (.next h.upd.frameClosed) (.next h.upd), .next h.upd]

theorem execIntakeForcedClose (h : s.Canonical) : Ans.Canonical (execIntakeForcedClose p t s) := by
  unfold Machine.execIntakeForcedClose
  extract_lets
  split
  exacts [.ite (.next h.upd.frameClosed) (.next h.upd), .next h.upd]

/-! ### Machine/Lease -/

theorem renewLease (h : s.Canonical) : s.renewLease.Canonical := h.upd.setOs

theorem granted {role hb miss epoch : Nat} (h : s.Canonical) : (s.granted role hb miss epoch).Canonical := by
  unfold State.granted
  extract_lets _ _ _ s2 s3
  have h2 : s2.Canonical := h.discardIf.setOs.writeLease.renewLease
  have h3 : s3.Canonical := .ite h2.setO h2
  exact ⟨h3.od, h3.inForce, h3.gen⟩

theorem leaseGrant {good : Bool} (h : s.Canonical) : (s.leaseGrant good r).1.Canonical :=
  .ite h.upd.granted (.ite h.upd.inc.nvFailed h.upd.inc)

theorem leaseAnnounced {good : Bool} {role station epoch : Nat} (h : s.Canonical) :
    (s.leaseAnnounced good role station epoch).Canonical := .ite h.toOrphan (.ite h.inc h)

theorem staleEntry (h : s.Canonical) : s.staleEntry.Canonical := h.upd.inc

theorem leaseEntry {good : Bool} {role station epoch : Nat} (h : s.Canonical) :
    (s.leaseEntry good role station epoch).Canonical :=
  .ite (.ite (.ite h.renewLease (.ite h.staleEntry h)) h.staleEntry) (.ite h.toOrphan h)

theorem leaseDue (h : s.Canonical) : s.leaseDue.Canonical := .ite h.discardRole.setO.inc.notify h

theorem heartbeat {good : Bool} (h : s.Canonical) : (s.heartbeat good r).Canonical :=
  h.upd.place.leaseDue.foldl fun _ _ h => h.leaseEntry

/-! ### Machine/Serial -/

theorem slaveEnd {port : Bool} {e : SlaveErr} (h : s.Canonical) : (s.slaveEnd port e).Canonical := by
  unfold State.slaveEnd
  extract_lets _ _ _ s1 s2 s3
  have h1 : s1.Canonical := .ite h.upd.inc h.upd
  have h2 : s2.Canonical := .ite h1.inc h1
  have h3 : s3.Canonical := .ite h2.inc h2
  exact .ite h3.upd h3

theorem slaveRead {port : Bool} {addr edges : Nat} (h : s.Canonical) : (s.slaveRead port addr edges).Canonical := by
  unfold State.slaveRead
  extract_lets _ _ _ _ _ s1
  have h1 : s1.Canonical := h.frame State.slaveReturn_frame
  exact .ite (.slaveEnd (.ite h (h.frame State.slaveReturn_frame))) (.slaveEnd (.ite h1.upd h1))

theorem slaveStatus {port : Bool} {cmd edges : Nat} (h : s.Canonical) : (s.slaveStatus port cmd edges).Canonical :=
  (h.frame State.slaveReturn_frame).slaveEnd

theorem slaveWrite {port : Bool} {addr : Nat} {bytes : List Byte} {edges : Nat} (h : s.Canonical) :
    (s.slaveWrite port addr bytes edges).Canonical := .slaveEnd (.upd (.ite h (h.frame State.slaveReturn_frame)))

theorem mbxRead (h : s.Canonical) : s.mbxRead.Canonical := by
  unfold State.mbxRead
  extract_lets
  refine .ite h.upd ?_
  split
  exacts [h.upd, h.readValue.upd]

theorem mbxWrite (h : s.Canonical) : s.mbxWrite.Canonical := by
  unfold State.mbxWrite
  extract_lets
  refine .ite h.upd ?_
  split
  · exact h.upd
  · split
    exacts [.upd (h.objWrite _ ‹_›), h.writeRefused.upd]

theorem upOpen (h : s.Canonical) : s.upOpen.Canonical := h.demand.demand.frame State.selectTaken_frame
theorem upClose (h : s.Canonical) : s.upClose.Canonical := (h.frame State.giveBus_frame).flashRelax
theorem upFails {n : Nat} (h : s.Canonical) : (s.upFails n).Canonical := h.upOpen.upd.upClose.inc.upd

theorem upProgram {ok : Bool} (h : s.Canonical) : (s.upProgram ok).Canonical := by
  unfold State.upProgram
  extract_lets
  refine .ite h.upd ?_
  refine .ite h.upd ?_
  refine .ite (h.frame State.askBus_frame) ?_
  refine .ite (.ite (h.upOpen.upd.upClose.frame State.upErased_frame) h.upFails) ?_
  exact .ite h.upOpen.upd.upClose.upd h.upFails

theorem upFinish {ok : Bool} (h : s.Canonical) : (s.upFinish ok).Canonical :=
  .ite h.upd (.ite h.upd (.ite h.upd (.ite h.upd.nvFailed.upd h.upd.setKeep.upd)))

theorem fwUpdateEnd (h : s.Canonical) : s.fwUpdateEnd.Canonical := by
  unfold State.fwUpdateEnd
  extract_lets
  refine .ite h ?_
  refine .ite ?_ (h.frame State.slotInvalid_frame).upd.opEnd
  refine .ite (h.frame State.slotInvalid_frame).opEnd ?_
  exact .ite (h.frame State.slotInvalid_frame).nvFailed.opEnd h.setKeep.opEnd

theorem execSp1HandoverTimeout (h : s.Canonical) : Ans.Canonical (execSp1HandoverTimeout t s) := by
  unfold Machine.execSp1HandoverTimeout
  extract_lets
  split
  exacts [.ite (.next h.upd.inc) (.next h.upd), .next h.upd]

theorem dqsSweep {k : Pos} {taps half : List Nat} (h : s.Canonical) : (s.dqsSweep k taps half).Canonical := by
  unfold State.dqsSweep
  split
  exacts [h.setO, h.setO, h.setO.logEvt]

theorem execDqsCalibration {k : Pos} {passFirst : Bool} {passTaps passHalf : List Nat} (h : s.Canonical) :
    Ans.Canonical (execDqsCalibration k passFirst passTaps passHalf t s) := by
  unfold Machine.execDqsCalibration
  extract_lets
  refine .ite (.next h.upd) ?_
  refine .ite (.next (h.upd.frame State.selectUsed_frame).dqsSweep) ?_
  refine .ite (.next h.upd) ?_
  exact .ite (.next (h.upd.frame State.selectUsed_frame)) (.next (h.upd.frame State.selectUsed_frame).inc.dqsSweep)

theorem tick (h : s.Canonical) : s.tick.Canonical :=
  ((h.upd.frame State.sendQueued_keeps).frame State.sendQueued_keeps).busTurn.fwUpdateEnd

end State.Canonical
end Sys2Proof.Machine
end

section
/-!
PROOFS. Every step keeps the canonical form (00 R14).
-/
namespace Sys2Proof.Machine
set_option Elab.async false

/-- The rows of the instruction set: a straight one in place, one that branches on more than conditions by its lemma. -/
theorem exec_canonical {s : State} (c : Instr) (h : s.Canonical) : Ans.Canonical (exec c s) := by
  cases c with
  | vinRise => exact .ite (.next h.upd) (.next h.upd.resetLogic.upd)
  | resetNAssert => exact .next (.upd (.ite h.upd h.upd.resetLogic))
  | resetNRise => exact .next h.upd
  | internalResetRelease => exact .ite (.next h.upd.released) (.next h.upd)
  | firmwareImageCheck => exact .ite (.next h.upd) (.ite (.next h.upd) (.next h.upd.slotsFailed))
  | stewardFirmwareStart => exact h.execStewardFirmwareStart
  | dramTrainingComplete => exact .ite (.next h.upd.bootTraining) (.ite (.next h.upd.retraining) (.next h.upd))
  | storeRecoveryScan => exact .ite (.next h.upd) (.next h.upd.storeScan.setO)
  | startupSetApply => exact .ite (.next h.upd) (.next h.upd.startupSet.fixLoads.firstStandby)
  | watchdogReset => exact .ite (.next h.upd) (.next h.upd.resetFrom)
  | softReset => exact .next (h.runCommand fun _ h => h.cmdSoftReset)
  | sysclkLoss => exact .next h.upd.resetFrom.upd
  | pciePerstRelease => exact .next h.upd.linkTrain
  | pciePerstAssert => exact .ite (.next h.upd) (.next h.upd.dmaDrop.upd.setO.upd)
  | modeRequest => exact .next (h.onTelegram fun _ h => h.answerMode.upd.frame State.raise_keeps)
  | modeReqGo => exact .next (h.runCommand fun _ h => h.cmdModeReqGo)
  | transitionActivation => exact h.execTransitionActivation
  | transitionComplete => exact .ite (.next h.upd.completeTransition) (.next h.upd)
  | transitionTimeout => exact .ite (.next h.upd.timeoutTransition) (.next h.upd)
  | opAbort => exact .ite (.next (h.runCommand fun _ h => h.cmdOpAbort)) (.next h.upd)
  | opProgressUpdate => exact .ite (.next h.upd.opAt) (.next h.upd)
  | laneBlockLockLoss => exact h.execLaneBlockLockLoss
  | alignmentMarker => exact h.execAlignmentMarker
  | mslFrameStart => exact .next h.upd.receive
  | mslRowPacket => exact .next h.upd.receive
  | mslFrameEnd => exact .next h.upd.receive
  | intIdleTimeout => exact h.execIntIdleTimeout
  | intakeForcedClose => exact h.execIntakeForcedClose
  | drainComplete => exact .next h.upd.endDrain.modeProceed
  | handOverInstant => exact h.execHandOverInstant
  | ingotComplete => exact .next h.upd.ingotsDone
  | prefetchComplete => exact .next (h.upd.frame State.prefetch_frame)
  | readoutEntersSlice => exact .next h.upd.enterSlice
  | defectReplacementRow => exact .next h.upd.replaceRow
  | pixelMerge => exact .next h.upd.merge
  | outputFilterRow => exact .next (h.upd.frame State.filterRow_frame)
  | corrCoefOpen => exact .next (h.runCommand fun _ h => h.cmdCoefOpen)
  | corrCoefClose => exact .next (h.runCommand fun _ h => h.cmdCoefClose)
  | coefCheckComplete => exact .ite (.next h.upd.closeCheck.prepAll) (.next h.upd)
  | corrLoadGo => exact .next (h.runCommand fun _ h => h.cmdLoadGo)
  | coefLoadEnd => exact h.execCoefLoadEnd
  | corrSaveGo => exact .next (h.runCommand fun _ h => h.cmdSaveGo)
  | tailHistReset => exact .next (h.runCommand fun _ h => h.cmdTailHistReset)
  | eclRequestFull => exact .next (h.runCommand fun _ h => h.cmdEclRequest)
  | eclRequestPartial => exact .next (h.runCommand fun _ h => h.cmdEclRequest)
  | eclAbort => exact .next (h.runCommand fun _ h => h.cmdEclAbort)
  | eclFaultClear => exact .next (h.runCommand fun _ h => h.cmdEclFaultClear)
  | eclShutCmdClose => exact .next (h.runCommand fun _ h => h.cmdEclShut)
  | eclShutCmdOpen => exact .next (h.runCommand fun _ h => h.cmdEclShut)
  | eclipseGrant => exact h.execEclipseGrant
  | shutterPulseStart => exact .next h.upd.arbiter.afterEcl
  | endSensorAsserted => exact .next (h.upd.frame State.sensorTime_frame)
  | pulseHoldExpiry => exact h.execPulseHoldExpiry
  | pulseMaxExpiry => exact h.execPulseMaxExpiry
  | bothSensorsFault => exact h.execBothSensorsFault
  | eclipseHeldStart => exact .ite (.next (h.upd.heldDecide.frame State.sp0Next_frame)) (.next h.upd)
  | eclipseUpdateComplete => exact .next h.upd.eclUpdateEnd.afterEcl.modeProceed
  | openingEnd => exact .next h.upd.openingEnds
  | openingPulseRetry => exact h.execOpeningPulseRetry
  | eclipseWindowDeadline => exact h.execEclipseWindowDeadline
  | predictiveEvaluation => exact .ite (.next (h.upd.foldl fun _ _ h => h.evaluatePos)) (.next h.upd)
  | eclipseOverdue => exact .ite (.next h.upd) (.next (.ite h.upd h.upd.notify))
  | eclipseWindow => exact .next (h.onTelegram fun _ h => h.once fun _ h => h.storeWindow)
  | genCommit => exact h.execGenCommit
  | commit => exact .next (h.onTelegram fun _ h => h.once fun _ h => h.chainCommit)
  | genDiscard => exact .next (h.runCommand fun _ h => h.cmdGenDiscard)
  | vdetSettle => exact h.execVdetSettle
  | vdetOvercurrent => exact .ite (.next h.upd) (.next h.upd.vdetFault)
  | statLatch => exact .next (h.runCommand fun _ h => h.cmdStatLatch)
  | statLatchComplete => exact h.execStatLatchComplete
  | statBlockRead => exact .next (h.upd.onPath fun _ h => ((h.frame State.touch_keeps).frame State.statRead_frame).upd)
  | statSnapshotRelease => exact .next h.upd
  | ptpMessageReceive => exact .ite (.next h.upd.ptp) (.next h.upd)
  | syncTimeout => exact .ite (.next h.upd.clockState) (.next h.upd)
  | ppsInEdge => exact .ite (.next h.upd) (.ite (.next h.upd.setO.ppsEdge) (.next h.upd.setO))
  | ppsOutSecond => exact .ite (.next h.upd) (.ite (.next h.upd.requestLine.upd) (.next h.upd.requestLine))
  | ppsOutWidthExpiry => exact .ite (.next h.upd) (.next h.upd)
  | timeSet => exact .next (h.runCommand fun _ h => h.cmdTimeSet)
  | encoderCountChange => exact .ite (.next (h.upd.frame State.setEnc_frame)) (.ite (.next h.upd) (.next h.upd.encLevels))
  | encoderZEdge => exact .ite (.next h.upd.zEdge) (.next h.upd)
  | encPreset => exact .next (h.runCommand fun _ h => h.cmdEncPreset)
  | encSpeedUpdate => exact .ite (.next (h.upd.frame State.setEnc_frame).setO) (.next h.upd)
  | trigInEdge => exact .ite (.next h.upd.inputEdge) (.next h.upd)
  | timerGeneratorTick => exact .ite (.next h.upd.genEvent) (.next h.upd)
  | tgFire => exact .next (h.runCommand fun _ h => h.cmdTgFire)
  | triggerEvent => exact .ite (.next h.upd.takeEvent) (.next h.upd)
  | decisionPoint => exact .next (h.upd.decide_.frame State.sp0Next_frame)
  | heldStart => exact .next (h.upd.heldMade.frame State.sp0Next_frame)
  | markTransactionStart => exact .ite (.next (h.upd.frame State.markBegin_frame)) (.next h.upd)
  | markRelease => exact .next h.upd.markEnd
  | sp0TransactionEnd => exact h.execSp0TransactionEnd
  | trigOutPulseEnd => exact .ite (.next h.upd) (.next h.upd)
  | hpFvalRise => exact .next h.upd.hpSamples
  | hpFvalFall => exact .next h.upd.hpSamples
  | hpRow => exact .next h.upd.hpSamples
  | hpPclkMeasure => exact .next h.upd.setO
  | outLinkChange => exact h.execOutLinkChange
  | pauseFrame => exact .ite (.next h.portAt.pauseArrives) (.next h.portAt)
  | pauseHoldExpiry => exact .next h.portAt
  | pauseHoldNotify => exact .ite (.next (h.upd.frame State.setOutPort_frame).notify) (.next h.upd)
  | arpRequest => exact .ite (.next (h.portAt.frame State.sendFrame_frame)) (.next h.portAt)
  | arpReply => exact h.execArpReply
  | arpRetry => exact h.execArpRetry
  | arpRefresh => exact h.execArpRefresh
  | icmpEchoRequest => exact .ite (.next h.portAt) (.ite (.next h.portAt.echo) (.next h.portAt.inc))
  | outRxDrop => exact .ite (.next h.upd.inc) (.next h.upd)
  | egressIngotStart => exact .ite (.next h.portAt.egress) (.next h.portAt)
  | datagramSend => exact h.execDatagramSend
  | chainLinkChange => exact .ite (.next h.upd) (.ite (.next h.upd.inc.notify.upd) (.next h.upd))
  | chainFrameForward => exact .ite (.next h.upd) (.next h.upd.arrive)
  | read => exact .ite (.next h.upd.romRead) (.next (h.onTelegram fun _ h => h.readRequest.frame State.answer_frame))
  | write => exact .next (h.onTelegram fun _ h => h.once fun _ h => h.writeRequest)
  | writeStagingTimeout => exact .next (h.upd.frame State.staleStaging_frame)
  | rangeRead => exact .next (h.onTelegram fun _ h => h.rangeRequest.frame State.answer_frame)
  | leaseGrant => exact .next (h.onTelegram fun _ h => h.once fun _ h => h.leaseGrant)
  | leaseAnnounce => exact .next (h.onTelegram fun _ h => h.leaseAnnounced)
  | heartbeat => exact .next (h.onTelegram fun _ h => h.heartbeat)
  | leaseExpiry => exact .next h.upd.leaseDue
  | leaseRecordRetry => exact .next (.ite h.upd.orphanRecord h.upd)
  | authOpen => exact .next (h.onTelegram fun _ h => .ite (h.once fun _ h => h.upd.authOpen) h)
  | authProve => exact .next (h.onTelegram fun _ h => .ite (h.once fun _ h => h.authProve) h)
  | authClose => exact .next (h.onTelegram fun _ h => .ite (h.once fun _ h => h.upd) h)
  | sessionIdleExpiry => exact h.execSessionIdleExpiry
  | authLockoutExpiry => exact .ite (.next h.upd) (.next h.upd)
  | bar0LowRead => exact .next h.upd.wordRead
  | bar0UpperRead => exact .next h.upd.wordRead
  | bar0LowWrite => exact .next h.upd.wordWrite
  | bar0UpperWrite => exact .next h.upd.wordWrite
  | bar0DroppedWrite => exact h.execBar0DroppedWrite
  | bar0DomCmdRead => exact .next (h.runCommand fun _ h => h.cmdDomCmd)
  | bar0DomCmdWrite => exact .next (h.runCommand fun _ h => h.cmdDomCmd)
  | bar0DomCmdEnd => exact h.execBar0DomCmdEnd
  | expertRelease => exact .next (h.runCommand fun _ h => h.cmdExpertRelease)
  | objectWrite => exact h.execObjectWrite
  | chainStationWrite => exact .next ((h.frame State.keptIs_frame).runCommand fun _ h => h.put)
  | leaseEpochClear => exact .next (h.upd.runCommand fun _ h => h.cmdEpochClear)
  | bar2Write => exact h.execBar2Write
  | bar2OfflineAccess => exact h.execBar2OfflineAccess
  | dramRefreshModeRead => exact .ite (.next h.upd.setOs) (.next h.upd)
  | dmaTailDoorbell => exact .next (h.upd.bar4 fun _ h => h.upd)
  | dmaCtrlRun => exact .next (h.upd.bar4 fun _ h => h.chRun)
  | dmaCtrlStop => exact .next (h.upd.bar4 fun _ h => h.chStop)
  | dmaCtrlAbort => exact .next (h.upd.bar4 fun _ h => h.chStop)
  | dmaCtrlSoftReq => exact .next (h.upd.bar4 fun _ h => .ite h.requestOf h)
  | dmaDescriptorStart => exact .ite (.next h.upd.chStart) (.next h.upd)
  | dmaBurstStart => exact h.execDmaBurstStart
  | dmaDescriptorEnd => exact h.execDmaDescriptorEnd
  | pcieLinkDown => exact .ite (.next h.upd) (.next h.upd.dmaDrop.setO)
  | flr => exact .ite (.next h.upd.dmaDrop.upd) (.next h.upd)
  | d3hotEntry => exact .ite (.next h.upd) (.next h.upd.enterD3hot)
  | keepArrayWrite => exact .ite (.next h.upd) (.ite (.next h.upd.keepDrop) (.next h.upd.keepDrop.upd.keepCommit))
  | nvUserData => exact .next (h.upd.runCommand fun _ h => h.cmdNvUserData)
  | keepAnneal => exact .ite (.next h.upd) (.ite (.next (.annealPage (.ite h.upd h.upd))) (.next (.ite h.upd h.upd)))
  | nvAnnealNow => exact .next (h.runCommand fun _ h => h.cmdNvAnnealNow)
  | storeAnneal => exact h.execStoreAnneal
  | recordWriteEnd => exact .ite (.next h.upd) (.next h.upd.recordEnd)
  | flashStatusPoll => exact h.execFlashStatusPoll
  | recordRepair => exact h.execRecordRepair
  | storeCompaction => exact h.execStoreCompaction
  | nvCompactGo => exact .next (h.runCommand fun _ h => h.cmdNvCompactGo)
  | nvStoreFormat => exact .next (h.runCommand fun _ h => h.cmdNvStoreFormat)
  | nvSetSave => exact .next (h.runCommand fun _ h => h.cmdSetSave)
  | nvSetApply => exact .next (h.runCommand fun _ h => h.cmdSetApply)
  | nvSetDelete => exact .next (h.runCommand fun _ h => h.cmdNvSetDelete)
  | nvRecordDelete => exact .next (h.runCommand fun _ h => h.cmdNvRecordDelete)
  | nvCloseFlashCut => exact .ite (.next h.upd.nvCloseCut) (.next h.upd)
  | sp1SlaveRead => exact .next (.ite h.upd.slaveRead h.upd)
  | sp1SlaveWrite => exact .next (.ite h.upd.slaveWrite h.upd)
  | sp1SlaveStatus => exact .next (.ite h.upd.slaveStatus h.upd)
  | mbxCmdRead => exact .next (.ite h.upd.mbxRead h.upd)
  | mbxCmdWrite => exact .next (.ite h.upd.mbxWrite h.upd)
  | mbxStateRead => exact .next (.ite h.upd.slaveRead h.upd)
  | upCmdProgram => exact .next (.ite h.upd.upProgram h.upd)
  | upCmdFinish => exact .next (.ite h.upd.upFinish h.upd)
  | sp1BusRequest => exact .next (.ite (h.upd.frame State.askBus_frame).busTurn h.upd)
  | sp1HandoverTimeout => exact h.execSp1HandoverTimeout
  | sp1SlvCollision => exact .next (.ite h.upd.inc h.upd)
  | sp0Slave => exact .next (h.runCommand fun _ h => h.put)
  | dqsCalibration => exact h.execDqsCalibration
  | xipFetch => exact .ite (.next h.upd) (.ite (.next h.upd) (.next h.upd.serveFetches))
  | sp1RawXfer => exact .next (h.runCommand fun _ h => h.cmdRawXfer)
  | hkCtrlStart => exact .next (h.runCommand fun _ h => h.cmdHkCtrl)
  | hkCtrlAbort => exact .next (h.runCommand fun _ h => h.cmdHkCtrl)
  | hkConversionResult => exact h.execHkConversionResult
  | hkResultRead => exact .next (h.upd.onPath fun _ h => (h.frame State.touch_keeps).readHkResult.upd)
  | hkStatusRead => exact .next (h.upd.onPath fun _ h => (h.frame State.touch_keeps).upd)
  | hkRefSettled => exact .ite (.next (h.upd.frame State.calOwed_frame)) (.next h.upd)
  | hkDomainOff => exact h.execHkDomainOff
  | hkCalibrationTurn => exact .ite (.next h.upd.calTurn) (.next h.upd)
  | hkCalibrationComplete => exact h.execHkCalibrationComplete
  | shutterTempConversion => exact h.execShutterTempConversion
  | thermalEvaluation => exact .ite (.next h.upd.thermEval) (.next h.upd)
  | throttleGraceExpiry => exact h.execThrottleGraceExpiry
  | throttleUndo => exact h.execThrottleUndo
  | thermQuenchClear => exact .next (h.runCommand fun _ h => h.cmdQuenchClear)
  | hardwareTrip => exact .ite (.next h.upd) (.next h.upd.resetLogic.upd)
  | hardwareTripRelease => exact .next h.upd
  | powerFailWarning => exact .ite (.next h.upd) (.next h.upd.inc.startPowerFail)
  | brownOut => exact .ite (.next h.upd) (.ite (.next h.upd.inc.exhausted) (.next h.upd.inc.startPowerFail))
  | overvoltage => exact .ite (.next h.upd) (.next h.upd.inc.startPowerFail)
  | inputSwitchClose => exact .ite (.next h.upd) (.next h.upd)
  | holdupReady => exact .ite (.next h.upd) (.next (h.upd.frame State.holdupCharged_frame))
  | holdupMissing => exact .ite (.next h.upd) (.next h.upd.logEvt)
  | holdupExhausted => exact .ite (.next h.upd) (.next h.upd.exhausted)
  | powerCauseClear => exact .ite (.next h.upd.dropCause.upd) (.next h.upd)
  | domainRampStart => exact .ite (.next h.upd) (.next h.upd.setO)
  | domainRampTimeout => exact h.execDomainRampTimeout
  | monitorSnapshot => exact h.execMonitorSnapshot
  | secLifecycleSet => exact .next (h.runCommand fun _ h => h.cmdSecLifecycleSet)
  | secKeyWrite => exact .next (h.runCommand fun _ h => h.cmdSecKeyWrite)
  | secKeyErase => exact .next (h.runCommand fun _ h => h.cmdSecKeyErase)
  | secArchiveKey => exact .next (h.runCommand fun _ h => h.cmdSecArchiveKey)
  | secTokenKey => exact .next (h.runCommand fun _ h => h.cmdSecTokenKey)
  | secArbCommit => exact .next (h.runCommand fun _ h => h.cmdSecArbCommit)
  | hpAuthReq => exact .next (h.upd.runCommand fun _ h => h.cmdHpAuthReq)
  | hpAuthProve => exact .next (h.runCommand fun _ h => h.cmdHpAuthProve)
  | hpAuthClose => exact .next (h.runCommand fun _ h => h.cmdHpAuthClose)
  | dbgToken => exact .next (h.runCommand fun _ h => h.cmdDbgToken)
  | dbgTokenAccept => exact h.execDbgTokenAccept
  | dbgSetGrade => exact .next (h.runCommand fun _ h => h.cmdDbgSetGrade)
  | dbgLock => exact .next (h.runCommand fun _ h => h.cmdDbgLock)
  | tapExtest => exact .ite (.next h.upd) (.ite (.next h.upd) (.next h.upd))
  | tapSamplePreload => exact .ite (.next h.upd) (.ite (.next h.upd) (.next h.upd))
  | tapIdcode => exact .ite (.next h.upd) (.next h.upd)
  | tapDbgStatus => exact .ite (.next h.upd) (.next h.upd)
  | tapDbgToken => exact .ite (.next h.upd) (.ite (.next h.upd) (.next h.upd))
  | tapDbgAccess => exact .ite (.next h.upd) (.ite (.next h.upd) (.next h.upd.debugAccess))
  | tapBypass => exact .ite (.next h.upd) (.next h.upd)
  | tapReset => exact .next h.upd
  | stewardHalt => exact .ite (.ite (.next h.upd) (.next h.upd)) (.ite (.next h.upd) (.next h.upd))
  | intCntClear => exact .next (h.runCommand fun _ h => h.cmdClear)
  | corrCntClear => exact .next (h.runCommand fun _ h => h.cmdClear)
  | tailCntClear => exact .next (h.runCommand fun _ h => h.cmdClear)
  | mergeCntClear => exact .next (h.runCommand fun _ h => h.cmdClear)
  | radCntClear => exact .next (h.runCommand fun _ h => h.cmdClear)
  | eclCntClear => exact .next (h.runCommand fun _ h => h.cmdClear)
  | intgCntClear => exact .next (h.runCommand fun _ h => h.cmdClear)
  | timeCntClear => exact .next (h.runCommand fun _ h => h.cmdClear)
  | trigCntClear => exact .next (h.runCommand fun _ h => h.cmdClear)
  | outCntClear => exact .next (h.runCommand fun _ h => h.cmdClear)
  | chainCntClear => exact .next (h.runCommand fun _ h => h.cmdClear)
  | memCntClear => exact .next (h.runCommand fun _ h => h.cmdClear)
  | hpCntClear => exact .next (h.runCommand fun _ h => h.cmdClear)
  | nvCntClear => exact .next (h.runCommand fun _ h => h.cmdClear)
  | spCntClear => exact .next (h.runCommand fun _ h => h.cmdClear)
  | hkCntClear => exact .next (h.runCommand fun _ h => h.cmdClear)
  | thermCntClear => exact .next (h.runCommand fun _ h => h.cmdClear)
  | pwrCntClear => exact .next (h.runCommand fun _ h => h.cmdClear)
  | laneBlockLock => exact .ite (.next h.upd) (.next h.upd)
  | pcieLinkUp => exact .next h.upd.linkTrain
  | d3hotExit => exact .next (h.upd.frame State.leaveD3hot_frame)
  | msixVectorUnmask => exact h.execMsixVectorUnmask
  | completionTimeout => exact h.execCompletionTimeout
  | dmaStandbyCut => exact h.execDmaStandbyCut
  | trigOutPulseStart => exact .next h.upd.pulseBegins
  | domainRampEnd =>
    exact .ite (.next h.upd.rampDone.entryStep.modeProceed) (.ite (.next h.upd.entryStep.modeProceed) (.next h.upd))
  | vdetRampEnd => exact h.execVdetRampEnd
  | powerOnHours => exact .ite (.next h.upd.bumpCounter) (.next h.upd)
  | eraseRedone => exact h.execEraseRedone

theorem step_canonical {s : State} (h : s.Canonical) : Ans.Canonical (step s) := by
  unfold step
  split
  · exact .next h.tick
  · exact exec_canonical _ h.upd

/-- Settles O4: every operation of the model keeps the canonical form, so every row of the instruction set does, and so does a step. -/
theorem objectsStayCanonical : Obligations.ObjectsStayCanonical := by
  unfold Obligations.ObjectsStayCanonical
  intro s u hs hu
  exact State.canonical_iff_objectsOk.mp (step_canonical (State.canonical_iff_objectsOk.mpr hs.1) u hu)

end Sys2Proof.Machine
end

section
/-!
PROOFS. The core objects: what the operations that the chapters share leave alone in the dictionary. A core object is written by the
operations that its own chapter names and by no other, so a statement about one reads its value through everything else.
-/
namespace Sys2Proof.Machine

/-- MODE, the station, the lease of a role with its counters, and the settings generation of each position: the highest key is that of
GEN_ACTIVE of S3. -/
def coreKeys : List Nat :=
  [Obj.MODE, Obj.CHAIN_STATION, Obj.LEASE_STATE, Obj.LEASE_ROLE, Obj.LEASE_EPOCH, Obj.LEASE_HB_PERIOD, Obj.LEASE_MISS_LIMIT,
    Obj.LEASE_LAST_RENEW, Obj.LEASE_CNT_REFUSED, Obj.LEASE_CNT_EXPIRED, Obj.LEASE_CNT_STALE, Obj.GEN_ACTIVE 0, Obj.GEN_ACTIVE 1,
    Obj.GEN_ACTIVE 2, Obj.GEN_ACTIVE 3]

/-- An array of objects that begins behind the core objects has none of them. -/
theorem array_notCore {base n : Nat} (h : Obj.GEN_ACTIVE 3 < base) : base + n ∉ coreKeys := by
  have bound : ∀ k ∈ coreKeys, k ≤ Obj.GEN_ACTIVE 3 := by decide
  intro hk
  have := bound _ hk
  omega

/-- The core objects read as `v`, in a dictionary in its canonical form. -/
structure State.Core (v : Nat → Int) (s : State) : Prop where
  od : Store.wf Obj.dflt s.od = true
  val : ∀ k ∈ coreKeys, s.oi k = v k

/-- What the core objects of a state in canonical form read as. -/
theorem State.core_self {s : State} (h : Store.wf Obj.dflt s.od = true) : s.Core s.oi := ⟨h, fun _ _ => rfl⟩

namespace State.Core
set_option Elab.async false

variable {s u : State} {v : Nat → Int} {p : Pos} {t : Nat}

theorem reads (h : s.Core v) (k : Nat) (hk : k ∈ coreKeys := by decide) : s.oi k = v k := h.val k hk

theorem of_od (h : s.Core v) (e : u.od = s.od) : u.Core v := ⟨e ▸ h.od, fun k hk => by rw [State.oi, e]; exact h.val k hk⟩

/-- A record update that leaves the dictionary. -/
theorem upd {pending out doms time boot modes ops chain bar0 nv lanes aligned intake link fpa sp0 pipe coef gen vdet stat ecl shut windows
    enc0 enc1 tg chan trig trigOut out0 out1 taps mem host dma rings ingots serial hk therm pwr sec dbg free}
    (h : s.Core v) : State.Core v { s with
      pending, out, doms, time, boot, modes, ops, chain, bar0, nv, lanes, aligned, intake, link, fpa, sp0, pipe, coef, gen, vdet, stat,
      ecl, shut, windows, enc0, enc1, tg, chan, trig, trigOut, out0, out1, taps, mem, host, dma, rings, ingots, serial, hk, therm, pwr,
      sec, dbg, free } :=
  ⟨h.od, h.val⟩

/-- An operation whose frame law leaves the dictionary. -/
theorem frame {l : List Part} (h : s.Core v) (k : s.keeps l u) (hl : Part.od ∉ l := by decide) : u.Core v := h.of_od (k.od hl)

theorem ite {c : Prop} [Decidable c] {a b : State} (ha : a.Core v) (hb : b.Core v) : (if c then a else b).Core v := by
  split
  · exact ha
  · exact hb

theorem foldl_mem {α : Type} {f : State → α → State} {l : List α} (h : s.Core v)
    (hf : ∀ s, ∀ a ∈ l, s.Core v → (f s a).Core v) : (l.foldl f s).Core v := by
  induction l generalizing s with
  | nil => exact h
  | cons a l ih => exact ih (hf s a List.mem_cons_self h) fun s b hb => hf s b (List.mem_cons_of_mem a hb)

theorem foldl {α : Type} {f : State → α → State} {l : List α} (h : s.Core v) (hf : ∀ s a, s.Core v → (f s a).Core v) :
    (l.foldl f s).Core v := h.foldl_mem fun s a _ => hf s a

theorem iteFst {α : Type} {c : Prop} [Decidable c] {a b : State × α} (ha : a.1.Core v) (hb : b.1.Core v) :
    (if c then a else b).1.Core v := by
  split
  · exact ha
  · exact hb

/-! ### Machine/Ops -/

/-- A write of any object, a core object too. -/
theorem put (h : s.Core v) (k : Nat) (x : Int) : (s.setO k x).Core (Function.update v k x) := by
  refine ⟨Store.wf_set h.od k x, fun j hj => ?_⟩
  rw [State.oi, State.setO, Store.get_set h.od, Function.update_apply]
  split
  · rfl
  · exact h.val j hj

theorem setO {k : Nat} {x : Int} (h : s.Core v) (hk : k ∉ coreKeys := by decide) : (s.setO k x).Core v :=
  ⟨(h.put k x).od, fun j hj => by rw [(h.put k x).val j hj, Function.update_of_ne (ne_of_mem_of_not_mem hj hk)]⟩

theorem setOs {l : List (Nat × Int)} (h : s.Core v) (hl : ∀ c ∈ l, c.1 ∉ coreKeys) : (s.setOs l).Core v :=
  h.foldl_mem fun _ c hc h => h.setO (hl c hc)

/-- A write of a member of an array behind the core objects. -/
theorem setArray {base n : Nat} {x : Int} (h : s.Core v) (hb : Obj.GEN_ACTIVE 3 < base := by decide) :
    (s.setO (base + n) x).Core v := h.setO (array_notCore hb)

/-- A write of the object that a position has of its own. -/
theorem setPos {base : Nat} {x : Int} (h : s.Core v) (hb : ∀ q : Pos, base + 1 * q.val ∉ coreKeys := by decide) :
    (s.setO (base + 1 * p.val) x).Core v := h.setO (hb p)

theorem inc {k : Nat} (h : s.Core v) (hk : k ∉ coreKeys := by decide) : (s.inc k).Core v := h.setO hk

theorem incArray {base n : Nat} (h : s.Core v) (hb : Obj.GEN_ACTIVE 3 < base := by decide) : (s.inc (base + n)).Core v :=
  h.setArray hb

theorem incPos {base : Nat} (h : s.Core v) (hb : ∀ q : Pos, base + 1 * q.val ∉ coreKeys := by decide) :
    (s.inc (base + 1 * p.val)).Core v := h.setPos hb

theorem incByPos {base n : Nat} (h : s.Core v) (hb : ∀ q : Pos, base + 1 * q.val ∉ coreKeys := by decide) :
    (s.incBy (base + 1 * p.val) n).Core v := h.setPos hb

theorem incWrapPos {base : Nat} (h : s.Core v) (hb : ∀ q : Pos, base + 1 * q.val ∉ coreKeys := by decide) :
    (s.incWrap (base + 1 * p.val)).Core v := h.setPos hb

theorem logRoom (h : s.Core v) : s.logRoom.Core v := .ite h h.upd.inc
theorem logStore {b : List Byte} (h : s.Core v) : (s.logStore b).Core v := h.upd.setO

theorem logAdd {code pos source detail : Nat} {data : List Byte} (h : s.Core v) :
    (s.logAdd code pos source detail data).Core v := h.logRoom.logStore.frame State.logLimit_keeps

theorem logRaw {code pos source detail : Nat} {data : List Byte} (h : s.Core v) :
    (s.logRaw code pos source detail data).Core v := .ite h h.logAdd

theorem log {code pos : Nat} {fs : List (Nat × Nat)} (h : s.Core v) : (s.log code pos fs).Core v := h.logRaw

theorem logEvt {e : Evt} {pos detail : Nat} {fs : List (Nat × Nat)} (h : s.Core v) : (s.logEvt e pos detail fs).Core v := h.logRaw
theorem nvFailed {a : Nat} (h : s.Core v) : (s.nvFailed a).Core v := h.upd.logEvt
theorem setKeep {a : Nat} {bs : List Byte} (h : s.Core v) : (s.setKeep a bs).Core v := .ite h.upd.nvFailed h.upd

theorem setTwoSlot {a x : Nat} (h : s.Core v) : (s.setTwoSlot a x).Core v := by
  unfold State.setTwoSlot
  split
  exact h.setKeep

theorem slotsBad {a : Nat} (h : s.Core v) : (s.slotsBad a).Core v := h.upd.inc.log
theorem updTwoSlot {a x : Nat} (h : s.Core v) : (s.updTwoSlot a x).Core v := .setTwoSlot (.ite h.slotsBad h)

theorem bumpCounter {k obj : Nat} (h : s.Core v) (hk : obj ∉ coreKeys) : (s.bumpCounter k obj).Core v :=
  .ite h (h.updTwoSlot.setO hk)

theorem notifySend {code pos : Nat} {fs : List (Nat × Nat)} (h : s.Core v) : (s.notifySend code pos fs).Core v :=
  .ite h.inc h.upd

theorem notifyRest {code pos : Nat} {fs : List (Nat × Nat)} (h : s.Core v) : (s.notifyRest code pos fs).Core v :=
  ((h.frame State.raise_keeps).setO.frame State.notifyWindow_keeps).notifySend

theorem notify {code pos : Nat} {fs : List (Nat × Nat)} (h : s.Core v) : (s.notify code pos fs).Core v :=
  .ite h h.log.notifyRest

theorem notifyCause {code pos : Nat} {fs : List (Nat × Nat)} (h : s.Core v) : (s.notifyCause code pos fs).Core v :=
  .ite h h.logAdd.notifyRest

/-! ### Machine/PowerOps -/

theorem wantOn {d : Nat} (h : s.Core v) : (s.wantOn d).Core v := .ite h.upd (.ite h h.upd.setArray)
theorem domCut {d : Nat} (h : s.Core v) : (s.domCut d).Core v := .ite h.upd.setArray.upd h.upd.setArray
theorem wantOff {d : Nat} (h : s.Core v) : (s.wantOff d).Core v := .ite h (.ite h.upd (.ite h.upd h.domCut))
theorem demand {d : Nat} (h : s.Core v) : (s.demand d).Core v := .ite h h.wantOn
theorem railCut {d : Nat} (h : s.Core v) : (s.railCut d).Core v := .ite h.domCut.upd (.ite h.upd h.upd)
theorem railOff (h : s.Core v) : (s.railOff p).Core v := .ite h.railCut.upd h.railCut.railCut
theorem vdetRamp {code : Nat} (h : s.Core v) : (s.vdetRamp p code).Core v := h.upd.setPos
theorem flashRelax (h : s.Core v) : s.flashRelax.Core v := .ite h (.wantOff (.ite h.demand h.wantOff))

/-! ### Machine/OutOps -/

theorem cutSlot {r k : Nat} (h : s.Core v) : (s.cutSlot r k).Core v := by
  unfold State.cutSlot
  refine h.foldl fun s b h => ?_
  split
  exacts [.ite (h.frame State.setOutPort_frame).incArray h, h]

theorem requestOf {c : Nat} (h : s.Core v) : (s.requestOf c).Core v := by
  unfold State.requestOf
  refine .ite (setArray ?_) ?_ <;> exact .ite h.upd h.upd

theorem requestLine {line : Nat} (h : s.Core v) : (s.requestLine line).Core v := h.foldl fun _ _ h => .ite h.requestOf h

theorem endDesc {c : Nat} (h : s.Core v) : (s.endDesc c).Core v := by
  unfold State.endDesc
  split
  · exact h
  · extract_lets _ _ _ _ _ _ _ _ s1
    have h0 := (h.frame (State.readBack_frame (c := c) (x := ‹_›))).frame (State.dropHold_frame (c := c))
    have h1 : s1.Core v := .ite h0.upd.incArray.setArray.incArray h0.upd.incArray.setArray
    exact .ite (h1.frame State.raise_keeps) h1

theorem dmaSafe (h : s.Core v) : s.dmaSafe.Core v := by
  unfold State.dmaSafe
  refine h.foldl fun s _ h => ?_
  split
  exacts [h.upd.endDesc, .ite (h.setArray.frame State.raise_keeps) h]

theorem discardSlot {why : Discard} {r k : Nat} (h : s.Core v) : (s.discardSlot why r k).Core v := by
  have counter : ∀ b, why.counter b ∉ coreKeys := by cases why <;> exact fun _ => array_notCore (by decide)
  unfold State.discardSlot
  extract_lets _ s1
  have h1 : s1.Core v := .ite (h.frame State.dmaDiscard_frame) h
  exact .ite h (.frame (.ite h1.cutSlot (h1.inc (counter _))) State.release_frame)

theorem discardIf {why : Discard} {f : RingSlot → Bool} (h : s.Core v) : (s.discardIf why f).Core v :=
  h.foldl fun _ _ h => .ite h.discardSlot h

theorem discardRole {role : Nat} (h : s.Core v) : (s.discardRole role).Core v := .ite h h.discardIf
theorem discardMode (h : s.Core v) : s.discardMode.Core v := h.discardIf

theorem stopHold {b : Bool} (h : s.Core v) : (s.stopHold b).Core v := by
  unfold State.stopHold
  extract_lets
  split
  exacts [h, h.setArray.frame State.setOutPort_frame]

theorem portOff {b : Bool} (h : s.Core v) : (s.portOff b).Core v := h.stopHold.frame State.setOutPort_frame
theorem outOff (h : s.Core v) : s.outOff.Core v := h.portOff.portOff

theorem ringFull {r : Nat} (h : s.Core v) : (s.ringFull r).Core v :=
  .ite h.incArray h.upd.incArray

theorem takeFor {x : FrameCtx} {q : Nat × Nat × Nat × Nat} (h : s.Core v) : (s.takeFor x p q).Core v := by
  unfold State.takeFor
  extract_lets
  split
  · exact h.frame State.takeSlot_frame
  · split
    exacts [.ite ((h.frame State.release_frame).ringFull.frame State.takeSlot_frame) h.ringFull, h.ringFull]

theorem takeSlots {x : FrameCtx} (h : s.Core v) : (s.takeSlots x p).Core v := h.foldl fun _ _ h => h.takeFor

/-! ### Machine/GenOps -/

theorem setEstimates (h : s.Core v) : s.setEstimates.Core v := h.foldl fun _ _ h => h.setArray

theorem showLoads (h : s.Core v) : s.showLoads.Core v := by
  refine setEstimates (h.setOs ?_)
  simp only [List.mem_append, List.mem_map]
  rintro _ ((⟨b, -, rfl⟩ | ⟨b, -, rfl⟩) | ⟨g, hg, rfl⟩)
  · exact array_notCore (by decide)
  · exact array_notCore (by decide)
  · exact (by decide : ∀ g ∈ List.range 4, Obj.MSL_GROUP_LOAD g ∉ coreKeys) g hg

/-! ### Machine/CoefOps -/

/-- The objects of a long operation (02 R68) are core objects for no operation that the module has. -/
theorem opKey_notCore {base k : Nat} (hk : k < 6) (hb : ∀ i < 6, base + 256 * i ∉ coreKeys := by decide) :
    base + 256 * k ∉ coreKeys := hb k hk

theorem opStart {k total : Nat} (h : s.Core v) (hk : k < 6) : (s.opStart k total).Core v := by
  refine frame (h.setOs ?_) State.raise_keeps
  simp only [List.forall_mem_cons]
  exact ⟨opKey_notCore hk, opKey_notCore hk, opKey_notCore hk, opKey_notCore hk, opKey_notCore hk, by simp⟩

theorem opAt {k pos : Nat} (h : s.Core v) (hk : k < 6) : (s.opAt k pos).Core v := by
  refine h.setOs ?_
  simp only [List.forall_mem_cons]
  exact ⟨opKey_notCore hk, opKey_notCore hk, by simp⟩

theorem opEnd {k st result : Nat} (h : s.Core v) (hk : k < 6) : (s.opEnd k st result).Core v := by
  refine frame (setOs (.ite (h.opAt hk) h) ?_) State.raise_keeps
  simp only [List.forall_mem_cons]
  exact ⟨opKey_notCore hk, opKey_notCore hk, by simp⟩

theorem coefToOpen (h : s.Core v) : (s.coefToOpen p).Core v := h.upd.setPos
theorem coefInvalidate (h : s.Core v) : (s.coefInvalidate p).Core v := .ite h.setPos h

theorem tauMedian (h : s.Core v) : (s.tauMedian p).Core v := by
  unfold State.tauMedian
  extract_lets
  split
  exacts [h.setPos, h]

theorem loadFailed {st result : Nat} (h : s.Core v) : (s.loadFailed p st result).Core v :=
  (opEnd (.incPos h.upd.setPos) (by decide)).setPos

theorem emptyTauHistory (h : s.Core v) : (s.emptyTauHistory p).Core v := h.upd.setArray

theorem intakeDiscard (h : s.Core v) : (s.intakeDiscard p).Core v := .upd (.ite h.setPos h)

/-! ### Machine/EclOps -/

theorem setPhase {n : Nat} (h : s.Core v) : (s.setPhase p n).Core v := h.setArray
theorem becomeDue (h : s.Core v) : (s.becomeDue p).Core v := .ite h.upd.setPhase h.upd
theorem eclIdle (h : s.Core v) : (s.eclIdle p).Core v := h.upd.setPhase

theorem eclEarly {result : Nat} (h : s.Core v) : (s.eclEarly p result).Core v :=
  .ite h.setArray.incArray.upd.eclIdle (.ite h.setArray.incArray.upd.setPhase h.setArray.incArray.upd.setPhase)

theorem eclBegin {x : FrameCtx} (h : s.Core v) : (s.eclBegin p x).Core v := h.upd.incByPos.upd.setPhase.upd
theorem eclRecord {at_ : Nat} (h : s.Core v) : (s.eclRecord p at_).Core v := .ite h h.setKeep
theorem learnK (h : s.Core v) : (s.learnK p).Core v := .ite h.setArray h

theorem eclEffective {x : FrameCtx} (h : s.Core v) : (s.eclEffective p x).Core v := by
  have h1 : ((s.setCoef p { s.coef.get p with changed := true }).learnK p).Core v := h.upd.learnK
  have h2 := (h1.bumpCounter (k := 7 + p.val) (obj := Obj.ECL_COUNT p.val) (array_notCore (by decide)))
  exact .eclIdle (.upd (.eclRecord (.upd (.ite h2.setArray.setArray.setArray.setArray h2.setArray.setArray))))

theorem eclFu {x : FrameCtx} (h : s.Core v) : (s.eclFu p x).Core v := .ite h.eclEffective h.upd.eclIdle

theorem eclHandOver {x : FrameCtx} {throttle : Bool} (h : s.Core v) : (s.eclHandOver p x throttle).1.Core v :=
  .upd (.iteFst h.eclBegin (.iteFst h.eclEarly (.iteFst h.eclEarly (.iteFst (.ite h.upd h) (.iteFst h.eclFu h)))))

theorem eclModeEnd {safe : Bool} (h : s.Core v) : (s.eclModeEnd p safe).Core v := by
  unfold State.eclModeEnd
  extract_lets _ _ _ s1 _ s2
  have h1 : s1.Core v := .ite h.upd.setPos.upd h.upd
  have h2 : s2.Core v := .ite h1.upd h1
  exact .ite h2 h2.setArray.incArray.eclIdle.setPhase.upd

/-! ### Machine/ModeOps -/

theorem setLatest {r : TxnRec} (h : s.Core v) : (s.setLatest r).Core v := h.setOs (by
  simp only [List.forall_mem_cons]
  decide)

theorem recordTxn {r : TxnRec} (h : s.Core v) : (s.recordTxn r).Core v := .ite h.setLatest (.ite h.upd h.upd.setLatest)

theorem cancelArmed {reason : Nat} (h : s.Core v) : (s.cancelArmed reason).Core v := by
  unfold State.cancelArmed
  split
  exacts [h, h.upd.recordTxn.frame State.report_frame]

theorem startLoad {key : Nat} (h : s.Core v) : (s.startLoad p key).Core v := (h.upd.opStart (by decide)).coefToOpen

theorem loadNext (h : s.Core v) : s.loadNext.Core v := by
  unfold State.loadNext
  split
  exacts [h, .ite h h.upd.startLoad]

theorem prepUpdate (h : s.Core v) : (s.prepUpdate p).Core v :=
  .ite h (.ite h.setPos (.ite (.ite h h.setPos) (.ite h.setPos (.ite h.setPos h.setPos))))

theorem prepAll (h : s.Core v) : s.prepAll.Core v := h.foldl fun _ _ h => h.prepUpdate

theorem abortOp {k : Nat} (h : s.Core v) (hk : k < 6) : (s.abortOp k).Core v := by
  unfold State.abortOp
  refine .ite h ?_
  split
  · exact h.loadFailed.loadNext
  · exact (h.opEnd hk).frame State.slotInvalid_frame
  · exact h.upd.opEnd hk
  · exact h.upd.opEnd hk
  · exact h.opEnd hk

theorem abortOps {mode : Nat} (h : s.Core v) : (s.abortOps mode).Core v :=
  foldl_mem (.ite h h.upd) fun _ k hk h => .ite h (h.abortOp ((by decide : ∀ k ∈ ([0, 1, 2, 3, 4, 5] : List Nat), k < 6) k hk))

theorem endSlave (h : s.Core v) : s.endSlave.Core v := .ite h.setO h

theorem putMode {target txn since : Nat} (h : s.Core v) :
    (s.putMode target txn since).Core (Function.update v Obj.MODE ((target : Nat) : Int)) := showLoads (put h.upd _ _)

theorem leaveImaging {target : Nat} (h : s.Core v) : (s.leaveImaging target).Core v :=
  .upd (((h.frame State.dropWindows_frame).endSlave.abortOps.frame State.discardAllStarts_frame).foldl
    fun _ _ h => h.eclModeEnd.coefInvalidate.setPos)

theorem dropFrames (h : s.Core v) : (s.dropFrames p).Core v := h.intakeDiscard.upd
theorem dropAllFrames (h : s.Core v) : s.dropAllFrames.Core v := .upd (h.foldl fun _ _ h => h.dropFrames)
theorem vdetFollow (h : s.Core v) : (s.vdetFollow p).Core v := .ite (.ite h.upd h.upd.vdetRamp) h
theorem vdetDown (h : s.Core v) : s.vdetDown.Core v := h.foldl fun _ _ h => .ite h.vdetRamp h
theorem railsDown (h : s.Core v) : s.railsDown.Core v := h.foldl fun _ _ h => .ite h.railOff h

theorem domainsOff {but : List Nat} (h : s.Core v) : (s.domainsOff but).Core v :=
  .flashRelax (.upd (h.discardMode.outOff.foldl fun _ _ h => .ite h h.wantOff))

theorem heldDown (h : s.Core v) : s.heldDown.Core v := h.foldl fun _ _ h => .ite h.railOff h

theorem modeProceed (h : s.Core v) : s.modeProceed.Core v := by
  unfold State.modeProceed
  extract_lets _ s1 _ s2
  have h1 : s1.Core v := h.heldDown.vdetDown.railsDown
  have h2 : s2.Core v := h.heldDown.vdetDown.railsDown
  split
  · refine .ite (.ite h.heldDown (.ite h1.domainsOff h1)) ?_
    exact .ite (.ite h.heldDown.vdetDown (.ite h2.domainsOff h2)) h.heldDown
  · exact h.heldDown

theorem endedWell {r : Running} (h : s.Core v) : (s.endedWell r).Core v := h.recordTxn.frame State.report_frame

theorem supersede {reason : Nat} (h : s.Core v) : (s.supersede reason).Core v := by
  unfold State.supersede
  split
  exacts [h, .ite (h.upd.foldl fun _ _ h => h.endedWell) (h.upd.recordTxn.frame State.report_frame)]

theorem runSafe {frm txn act source lo : Nat} (h : s.Core v) : (s.runSafe frm txn act source lo).Core v := by
  unfold State.runSafe
  split
  exacts [.ite h.upd h.upd, h.upd]

theorem toSafe {txn act source hi lo : Nat} (h : s.Core v) :
    (s.toSafe txn act source hi lo).Core (Function.update v Obj.MODE 5) := by
  unfold State.toSafe
  extract_lets s1 s2 _ s3 s4
  have h1 : s1.Core v := .cancelArmed (.upd h)
  have h2 : s2.Core v := by
    unfold s2
    split
    exacts [.ite h1 h1.supersede, h1]
  have h3 : s3.Core v := h2.leaveImaging.dmaSafe.dropAllFrames.discardMode
  exact (setO h3.putMode).runSafe.recordTxn.modeProceed.notifyCause

theorem eclipseMode {frm : Nat} (h : s.Core v) : (s.eclipseMode frm).Core v :=
  frame (opStart (upd (h.foldl fun _ _ h => h.upd)) (by decide)) State.skipParts_frame

theorem completed {r : Running} (h : s.Core v) : (s.completed r).Core v := h.upd.endedWell.foldl fun _ _ h => h.endedWell

theorem switchMode {a : Armed} {frm : Nat} (h : s.Core v) :
    (s.switchMode a frm).Core (Function.update v Obj.MODE ((a.target : Nat) : Int)) := by
  unfold State.switchMode
  extract_lets s0 _ s0' s1 s2 s3
  have h0 : s0.Core (Function.update v Obj.MODE ((a.target : Nat) : Int)) := (h.frame State.dropWindows_frame).abortOps.putMode
  have h1 : s1.Core (Function.update v Obj.MODE ((a.target : Nat) : Int)) := .ite (.eclipseMode h0.upd) h0.upd
  have h2 : s2.Core (Function.update v Obj.MODE ((a.target : Nat) : Int)) := .ite (h1.opEnd (by decide)) h1
  have h3 : s3.Core (Function.update v Obj.MODE ((a.target : Nat) : Int)) := .ite (h2.foldl fun _ _ h => h.upd) h2
  split
  exacts [.ite h3.endedWell.upd (.ite h3 h3.completed), h3]

/-- A mode that is left as it was. -/
theorem sameMode (h : s.Core v) : s.Core (Function.update v Obj.MODE (v Obj.MODE)) := by rwa [Function.update_eq_self]

theorem eclipseEnds (h : s.Core v) : ∃ m, s.eclipseEnds.Core (Function.update v Obj.MODE m) := by
  unfold State.eclipseEnds
  split
  · exact ⟨_, h.sameMode⟩
  · extract_lets s1 _ s2
    have h1 : s1.Core v := h.frame State.skipParts_frame
    have h2 : s2.Core v := .ite (h1.opAt (by decide)) h1
    split
    · exact ⟨_, h2.sameMode⟩
    · exact ⟨_, .switchMode (.ite (h2.opEnd (by decide)) h2)⟩

/-- A mandatory eclipse that has failed in PREPARE leads to SAFE (02 R56). -/
theorem mandatoryFailed (h : s.Core v) :
    s.mandatoryFailed.Core (Function.update v Obj.MODE 5) ∨ s.mandatoryFailed = s := by
  unfold State.mandatoryFailed
  split
  · exact .inl (.toSafe (h.foldl fun _ _ h => .ite h.setPos h))
  · exact .inr rfl

/-- What the end of an eclipse means to the mode writes MODE, and no other core object. -/
theorem afterEcl (h : s.Core v) : ∃ m, s.afterEcl.Core (Function.update v Obj.MODE m) := by
  unfold State.afterEcl
  rcases h.mandatoryFailed with safe | same
  · obtain ⟨m, hm⟩ := safe.prepAll.eclipseEnds
    exact ⟨m, by rwa [Function.update_idem] at hm⟩
  · rw [same]
    exact h.prepAll.eclipseEnds

end State.Core
end Sys2Proof.Machine
end

section
/-!
PROOFS. Frames on their way: the hand-over, the drain and the ingots (01 R21 to R28).
-/
namespace Sys2Proof.Machine
set_option Elab.async false

/-! ### What a hand-over leaves alone, by its parts -/

namespace State.Core

variable {s : State} {v : Nat → Int} {p : Pos}

theorem handVdet {num : Nat} (h : s.Core v) : (s.handVdet p num).Core v := .ite h h.vdetFollow

theorem vdetDue (h : s.Core v) : (s.vdetDue p).Core v := by
  unfold State.vdetDue
  split
  exacts [.ite h.becomeDue.upd h, h]

theorem handCoef (h : s.Core v) : (s.handCoef p).Core v := by
  unfold State.handCoef
  extract_lets _ _ s1 s2 _ s3 _ _ s5 s6
  have h1 : s1.Core v := .ite h.upd.setPos h
  have h2 : s2.Core v := .ite h1.upd h1
  have h3 : s3.Core v := h2.upd
  have h5 : s5.Core v := h3.incWrapPos.upd
  have h6 : s6.Core v := .ite (setArray (setArray (emptyTauHistory h5.upd))) h5
  exact .ite h3 h6.tauMedian

theorem eclLine {before : Int} (h : s.Core v) : (s.eclLine p before).Core v := .ite h.requestLine h

end State.Core

/-- Unless a mandatory eclipse has failed, which leads to SAFE, what the end of an eclipse means to the mode leaves the frames. -/
theorem State.afterEcl_safe_or_keeps {s : State} {v : Nat → Int} (h : s.Core v) :
    s.afterEcl.mode = 5 ∨ s.keeps [.emitted, .od, .modes, .ops, .chain, .nv, .coef, .ecl, .windows, .host, .serial] s.afterEcl := by
  rw [State.afterEcl]
  rcases h.mandatoryFailed with safe | same
  · have safeMode : s.mandatoryFailed.prepAll.mode = 5 := by
      rw [State.mode, State.o, safe.prepAll.reads Obj.MODE, Function.update_self]
      rfl
    have stays : s.mandatoryFailed.prepAll.eclipseEnds = s.mandatoryFailed.prepAll := if_pos (by rw [safeMode]; decide)
    exact .inl (by rw [stays, safeMode])
  · rw [same]
    exact .inr (State.eclipseEnds_frame.last (by decide) (State.prepAll_frame.mono (by decide)))

/-- The frame that a hand-over brings into a pipeline, and the pipelines of the other positions. -/
theorem State.handTrack_pipe (s : State) (p : Pos) (x : FrameCtx) :
    ((s.handTrack p x).pipe.get p).frm = some x ∧ ∀ q, q ≠ p → (s.handTrack p x).pipe.get q = s.pipe.get q := by
  simp +contextual [State.handTrack, State.setPipe, Quad.get_set]

/-- A hand-over into frame `f` ends with what the end of an eclipse means to the mode. Before that the frame's record stands in the
pipeline of its position, and settings sets and core objects are those that the change of generation left. -/
theorem State.handOver_inv (s : State) (p : Pos) (f : OpenFrame) : ∃ (x : FrameCtx) (w : State),
    s.handOver p f = w.afterEcl ∧ x.num = f.num ∧ x.start = f.start ∧ (w.pipe.get p).frm = some x ∧
      (∀ q, q ≠ p → w.pipe.get q = s.pipe.get q) ∧ w.gen = (s.handGen p).gen ∧ ∀ v, (s.handGen p).Core v → w.Core v := by
  unfold State.handOver
  extract_lets _ _ _ count s1 e s2 _ x
  have h1 : (s.handGen p).keeps [.od, .vdet, .mem, .ecl] s1 := State.vdetDue_frame.last (by decide)
    (State.handFilter_frame.last (by decide) (State.handVdet_frame.mono (by decide)))
  have h2 : s1.keeps [.emitted, .od, .nv, .coef, .vdet, .ecl, .shut, .trig, .mem, .fpa, .sp0, .therm, .free] s2 :=
    State.showLoads_frame.last (by decide) (State.handWords_frame.last (by decide) (State.handThrottle_frame.last (by decide)
      (State.handCoef_frame.last (by decide) (State.eclHandOver_frame.mono (by decide)))))
  have h3 : (s2.handTrack p x).keeps [.od, .taps, .mem, .rings, .dma] (((s2.handTrack p x).takeSlots x p).eclLine p count) :=
    State.eclLine_frame.last (by decide) (State.takeSlots_frame.mono (by decide))
  have pipe : s2.pipe = s.pipe := by
    rw [h2.pipe (by decide), h1.pipe (by decide), State.handGen_frame.pipe (by decide)]
  obtain ⟨here, others⟩ := s2.handTrack_pipe p x
  refine ⟨x, _, rfl, rfl, rfl, ?_, fun q hq => ?_, ?_, fun v h => ?_⟩
  · rw [h3.pipe (by decide), here]
  · rw [h3.pipe (by decide), others q hq, pipe]
  · rw [h3.gen (by decide), State.handTrack_frame.gen (by decide), h2.gen (by decide), h1.gen (by decide)]
  · have c1 : s1.Core v := (h.handVdet.frame State.handFilter_frame).vdetDue
    have c2 : s2.Core v := (c1.eclHandOver.handCoef.upd.frame State.handWords_frame).showLoads
    exact c2.upd.takeSlots.eclLine

/-! ### The settings generation (01 R28) -/

/-- What a hand-over leaves as the settings generation of its position: one more, where a committed set waits. -/
def State.nextGeneration (s : State) (p : Pos) : Int :=
  if (s.gen.get p).committed then (s.oi (Obj.GEN_ACTIVE p.val) + 1) % 2 ^ 32 else s.oi (Obj.GEN_ACTIVE p.val)

theorem Obj.GEN_ACTIVE_core (p : Pos) : Obj.GEN_ACTIVE p.val ∈ coreKeys := by revert p; decide

theorem Obj.GEN_ACTIVE_ne_mode (p : Pos) : Obj.GEN_ACTIVE p.val ≠ Obj.MODE := by revert p; decide

theorem Obj.GEN_ACTIVE_inj {p q : Pos} (h : q ≠ p) : Obj.GEN_ACTIVE q.val ≠ Obj.GEN_ACTIVE p.val := by revert p q; decide

/-- The activation of a set counts the settings generation of its position, and writes no other core object. -/
theorem State.Core.activate {s : State} {v : Nat → Int} (h : s.Core v) (p : Pos) :
    (s.activate p).Core (Function.update v (Obj.GEN_ACTIVE p.val) ((v (Obj.GEN_ACTIVE p.val) + 1) % 2 ^ 32)) := by
  rw [← h.reads _ (Obj.GEN_ACTIVE_core p)]
  exact setPos (put (upd h) _ _)

/-- The change of generation writes the settings generation of its position, and no other core object. -/
theorem State.handGen_core {s : State} (p : Pos) (h : Store.wf Obj.dflt s.od = true) :
    (s.handGen p).Core (Function.update s.oi (Obj.GEN_ACTIVE p.val) (s.nextGeneration p)) := by
  unfold State.handGen State.nextGeneration
  extract_lets g s1
  have h1 : s1.Core s.oi := (State.core_self h).upd.setPos
  split
  · exact (h1.activate p).upd
  · rw [Function.update_eq_self]
    exact h1

theorem State.activate_committed (s : State) (p : Pos) : ((s.activate p).gen.get p).committed = false := by
  simp [State.activate, State.setGen, State.incWrap]

/-- The change of generation leaves no set committed. -/
theorem State.handGen_committed (s : State) (p : Pos) : ((s.handGen p).gen.get p).committed = false := by
  unfold State.handGen
  extract_lets g s1
  split
  · exact State.activate_committed s1 p
  · next waits =>
    simp only [s1, State.setGen, State.setO_frame, Quad.get_set_self]
    exact Bool.eq_false_iff.mpr waits

/-- The settings generations behind a hand-over, and that no set of its position stays committed. -/
theorem State.handOver_generation {s : State} (p : Pos) (f : OpenFrame) (h : Store.wf Obj.dflt s.od = true) :
    (s.handOver p f).oi (Obj.GEN_ACTIVE p.val) = s.nextGeneration p ∧ ((s.handOver p f).gen.get p).committed = false ∧
      ∀ q : Pos, q ≠ p → (s.handOver p f).oi (Obj.GEN_ACTIVE q.val) = s.oi (Obj.GEN_ACTIVE q.val) := by
  obtain ⟨x, w, done, -, -, -, -, gen, core⟩ := s.handOver_inv p f
  obtain ⟨m, hm⟩ := (core _ (State.handGen_core p h)).afterEcl
  rw [done]
  refine ⟨?_, ?_, fun q hq => ?_⟩
  · rw [hm.reads _ (Obj.GEN_ACTIVE_core p), Function.update_of_ne (Obj.GEN_ACTIVE_ne_mode p), Function.update_self]
  · rw [State.afterEcl_frame.gen (by decide), gen, State.handGen_committed]
  · rw [hm.reads _ (Obj.GEN_ACTIVE_core q), Function.update_of_ne (Obj.GEN_ACTIVE_ne_mode q),
      Function.update_of_ne (Obj.GEN_ACTIVE_inj hq)]

/-- A hand-over into a next frame. -/
theorem exec_handOverInstant {s : State} {p : Pos} {t : Nat} {f : OpenFrame} (h : s.nextFrame p = some f) :
    exec (.handOverInstant p t) s = .next ((s.advance t).handOver p f) := by
  have next : (s.advance t).nextFrame p = some f := h
  show execHandOverInstant p t s = _
  simp only [execHandOverInstant, next]

/-- Settles O24: the change of generation counts a committed set, and nothing behind it in the hand-over writes a generation. -/
theorem settingsGenerationCounts : Obligations.SettingsGenerationCounts := by
  unfold Obligations.SettingsGenerationCounts
  refine ⟨by decide, fun s p t f sound next => ⟨_, exec_handOverInstant next, ?_⟩⟩
  have wf : Store.wf Obj.dflt s.od = true := sound.1.1
  obtain ⟨own, uncommitted, others⟩ := State.handOver_generation (s := s.advance t) p f wf
  exact ⟨fun waits => ⟨own.trans (if_pos waits), uncommitted⟩, fun idle => own.trans (if_neg (Bool.eq_false_iff.mp idle)), others⟩

/-! ### The frames of a pipeline (01 R21 to R25) -/

/-- A hand-over brings its frame into the pipeline of its position, unless it leads to SAFE. -/
theorem State.handOver_pipe {s : State} (p : Pos) (f : OpenFrame) (h : Store.wf Obj.dflt s.od = true) :
    (s.handOver p f).mode = 5 ∨ ∃ x, ((s.handOver p f).pipe.get p).frm = some x ∧ x.num = f.num ∧ x.start = f.start ∧
      ∀ q, q ≠ p → (s.handOver p f).pipe.get q = s.pipe.get q := by
  obtain ⟨x, w, done, num, start, here, others, -, core⟩ := s.handOver_inv p f
  rw [done]
  refine (State.afterEcl_safe_or_keeps (core _ (State.handGen_core p h))).imp_right fun k => ⟨x, ?_⟩
  rw [k.pipe (by decide)]
  exact ⟨here, num, start, others⟩

/-! ### What the parts of a drain and of an ingot leave alone -/

theorem State.commit_keeps {s u : State} {mask : Nat} (h : s.commit mask = .ok u) : s.keeps [.od, .nv, .gen, .mem, .rings, .free] u := by
  unfold State.commit at h
  extract_lets ps m at h
  split at h
  · cases h
  · split at h
    · cases h
      exact State.fixLoads_frame.last (by decide)
        (State.keeps_foldl (fun _ _ => State.acceptPos_frame.last (by decide) State.keeps_refl) State.keeps_refl)
    all_goals cases h

theorem State.aiApply_keeps {s : State} {p : Pos} {m : Nat} : s.keeps [.od, .nv, .gen, .mem, .rings, .free] (s.aiApply p m) := by
  unfold State.aiApply
  extract_lets g s1
  have h1 : s.keeps [.od, .nv, .gen, .mem, .rings, .free] s1 := State.setGen_frame.mono (by decide)
  split
  · exact h1
  · split
    · exact (State.commit_keeps ‹_›).last (by decide) h1
    · exact State.countRefused_frame.last (by decide) h1

theorem State.aiEvaluate_keeps {s : State} {p : Pos} {x : FrameCtx} :
    s.keeps [.od, .nv, .gen, .mem, .rings, .free] (s.aiEvaluate p x) := by
  unfold State.aiEvaluate
  extract_lets st v hold longest short long few g0 g s1
  have h1 : s.keeps [.od, .nv, .gen, .mem, .rings, .free] s1 := State.setGen_frame.mono (by decide)
  split
  · exact State.keeps_refl
  · split
    · exact h1
    · split
      · exact State.setGen_frame.last (by decide) h1
      · exact State.setGen_frame.last (by decide) h1
      · exact State.aiApply_keeps.last (by decide) (State.setGen_frame.last (by decide) h1)

/-- The substrate track that a drain carries over leaves the rows of the frame and the frames that wait for their ingots. -/
theorem State.carryTrack_pipe (s : State) (p : Pos) (x : FrameCtx) :
    ((s.carryTrack p x).pipe.get p).rows = (s.pipe.get p).rows ∧ ((s.carryTrack p x).pipe.get p).done = (s.pipe.get p).done ∧
      ∀ q, q ≠ p → (s.carryTrack p x).pipe.get q = s.pipe.get q := by
  unfold State.carryTrack
  extract_lets y v s1
  have same : s1.pipe = s.pipe := by
    unfold s1
    split <;> simp
  split <;> simp +contextual [State.setPipe, State.inc, same, y, Quad.get_set]

/-- Once the frame's content has left, the end of a drain empties the pipeline and puts the frame behind those that wait. -/
theorem State.endDrain_pipe {s : State} {p : Pos} {x : FrameCtx} (content : s.drained p = true) (here : (s.pipe.get p).frm = some x) :
    ((s.endDrain p).pipe.get p).frm = none ∧ ((s.endDrain p).pipe.get p).rows = [] ∧
      ((s.endDrain p).intake.get p).ended = (s.intake.get p).ended.drop 1 ∧
      (∃ d, ((s.endDrain p).pipe.get p).done = (s.pipe.get p).done ++ [d] ∧ d.ctx.num = x.num ∧ d.rows = (s.pipe.get p).rows) ∧
      ∀ q, q ≠ p → (s.endDrain p).pipe.get q = s.pipe.get q := by
  obtain ⟨f, head⟩ : ∃ f, (s.intake.get p).ended.head? = some f := by
    unfold State.drained at content
    split at content
    · exact ⟨_, ‹_›⟩
    · cases content
  generalize drain : s.endDrain p = u
  unfold State.endDrain at drain
  simp -zeta only [here, head, content, Bool.not_true, Bool.false_eq_true, if_false] at drain
  extract_lets x1 s1 t1 s2 y d _ s3 _ s4 s5 at drain
  subst drain
  have k1 : s.keeps [.od, .stat, .ecl, .mem] ((s.publishStats p x1).eclDrained p x1) :=
    State.eclDrained_frame.last (by decide) (State.publishStats_frame.mono (by decide))
  have k2 : s1.keeps [.taps] s2 := State.takeTaps_frame
  have k5 : s5.keeps [.emitted, .od, .nv, .gen, .mem, .rings, .host, .dma, .free]
      (((s5.aiEvaluate p x1).raise (4 + p.val)).requestLine p.val) :=
    State.requestLine_frame.last (by decide) (State.raise_keeps.last (by decide) (State.aiEvaluate_keeps.mono (by decide)))
  obtain ⟨rows, done, others⟩ := ((s.publishStats p x1).eclDrained p x1).carryTrack_pipe p x1
  have pipe : s5.pipe = s2.pipe.set p _ := rfl
  have intake : s5.intake = s2.intake.set p _ := rfl
  have before : s2.intake = s.intake := by
    rw [k2.intake (by decide), State.carryTrack_frame.intake (by decide), k1.intake (by decide)]
  rw [k5.pipe (by decide), k5.intake (by decide), pipe, intake, Quad.get_set_self, Quad.get_set_self]
  rw [k1.pipe (by decide)] at rows done others
  have carried : s2.pipe = s1.pipe := k2.pipe (by decide)
  refine ⟨rfl, rfl, congrArg (fun i => (i.get p).ended.drop 1) before, ⟨d, ?_, rfl, ?_⟩, fun q hq => ?_⟩
  · show y.done ++ [d] = _
    rw [← done, ← carried]
  · show y.rows = _
    rw [← rows, ← carried]
  · rw [Quad.get_set, if_neg hq, carried, others q hq]

/-- The ingots of the frame drained first complete, and it leaves the frames that wait. -/
theorem State.ingotsDone_pipe {s : State} {p : Pos} {d : DoneFrame} {rest : List DoneFrame} (h : (s.pipe.get p).done = d :: rest) :
    (s.ingotsDone p).pipe = s.pipe.set p { s.pipe.get p with done := rest } := by
  unfold State.ingotsDone
  simp only [h]
  split
  · exact State.completeMeans_frame.pipe (by decide)
  · exact State.completeFrame_frame.pipe (by decide)

/-- Settles O23: by the parts of the hand-over and of the drain that write a pipeline; the frame laws carry it through the others. -/
theorem framesThroughThePipeline : Obligations.FramesThroughThePipeline := by
  unfold Obligations.FramesThroughThePipeline
  intro s p t sound
  refine ⟨fun f next => ⟨_, exec_handOverInstant next, ?_⟩, fun idle => ⟨s.advance t, ?_, State.advance_keeps⟩,
    fun x content here => ⟨_, rfl, ?_⟩, fun d rest waits => ⟨_, rfl, ?_⟩⟩
  · have wf : Store.wf Obj.dflt s.od = true := sound.1.1
    exact State.handOver_pipe (s := s.advance t) p f wf
  · have still : (s.advance t).nextFrame p = none := idle
    show execHandOverInstant p t s = _
    simp only [execHandOverInstant, still]
  · beta_reduce
    rw [State.modeProceed_frame.pipe (by decide), State.modeProceed_frame.intake (by decide)]
    exact State.endDrain_pipe (s := s.advance t) content here
  · have pipe := State.ingotsDone_pipe (s := s.advance t) waits
    beta_reduce
    rw [pipe, State.ingotsDone_frame.intake (by decide)]
    exact ⟨Quad.get_set_self _ _ _, rfl, fun q hq => by rw [Quad.get_set, if_neg hq]; rfl⟩

end Sys2Proof.Machine
end

section
/-!
PROOFS. Two-slot records (13 R441): a record written to its two slots is read back, whatever stood in them.
-/
namespace Sys2Proof.Machine
set_option Elab.async false

/-! ### The bytes of a record -/

@[simp] theorem length_leBytes (n v : Nat) : (leBytes n v).length = n := by
  induction n generalizing v with
  | zero => rfl
  | succ n ih => rw [leBytes, List.length_cons, ih]

/-- A number written in little-endian order is read back modulo the range of its bytes. -/
theorem leNat_leBytes (n v : Nat) : leNat (leBytes n v) = v % 256 ^ n := by
  induction n generalizing v with
  | zero => simp [leBytes, leNat, Nat.mod_one]
  | succ n ih =>
    rw [leBytes, leNat, ih, byteOf, BitVec.toNat_ofNat, show (2 : Nat) ^ 8 = 256 from rfl, Nat.pow_succ', Nat.mod_mul]

@[simp] theorem length_slice (b : List Byte) (o n : Nat) : (slice b o n).length = n := by
  simp [slice]

/-- A part of a byte string, by what stands before it. -/
theorem slice_append {a b c : List Byte} {o n : Nat} (ho : a.length = o) (hn : b.length = n) : slice (a ++ (b ++ c)) o n = b := by
  subst ho hn
  simp [slice]

theorem crcStepR_lt {poly : Nat} (hp : poly < 2 ^ 32) (k : Nat) {c : Nat} (hc : c < 2 ^ 32) : crcStepR poly k c < 2 ^ 32 := by
  induction k generalizing c with
  | zero => exact hc
  | succ k ih =>
    refine ih ?_
    split
    · exact Nat.xor_lt_two_pow (by omega) hp
    · omega

/-- A checksum fits its four bytes. -/
theorem crc32_lt (bs : List Byte) : crc32 bs < 2 ^ 32 := by
  refine Nat.xor_lt_two_pow ?_ (by decide)
  have bound : ∀ c, c < 2 ^ 32 → bs.foldl (fun c b => crcStepR 0xEDB88320 8 (Nat.xor c b.toNat)) c < 2 ^ 32 := by
    induction bs with
    | nil => exact fun _ hc => hc
    | cons b bs ih =>
      refine fun c hc => ih _ (crcStepR_lt (by decide) 8 (Nat.xor_lt_two_pow hc ?_))
      exact b.isLt.trans (by decide)
  exact bound _ (by decide)

/-- What `State.setTwoSlot` writes to a slot: the value, its generation, and their checksum. -/
def slotRecord (v gen : Nat) : List Byte :=
  (leBytes 8 v ++ leBytes 4 gen) ++ leBytes 4 (crc32 (leBytes 8 v ++ leBytes 4 gen))

@[simp] theorem length_slotRecord (v gen : Nat) : (slotRecord v gen).length = 16 := by simp [slotRecord]

theorem leAt_slotRecord_value (v gen : Nat) : leAt (slotRecord v gen) 0 8 = v % 2 ^ 64 := by
  have part : slice (slotRecord v gen) 0 8 = leBytes 8 v := by
    rw [slotRecord, List.append_assoc]
    exact slice_append (a := []) rfl (length_leBytes 8 v)
  rw [leAt, part, leNat_leBytes, show (256 : Nat) ^ 8 = 2 ^ 64 from rfl]

theorem leAt_slotRecord_gen (v gen : Nat) : leAt (slotRecord v gen) 8 4 = gen % 2 ^ 32 := by
  rw [leAt, slotRecord, List.append_assoc, slice_append (length_leBytes 8 v) (length_leBytes 4 gen), leNat_leBytes,
    show (256 : Nat) ^ 4 = 2 ^ 32 from rfl]

theorem slotOk_slotRecord (v gen : Nat) : slotOk (slotRecord v gen) = true := by
  have body : slice (slotRecord v gen) 0 12 = leBytes 8 v ++ leBytes 4 gen :=
    slice_append (a := []) rfl (show (leBytes 8 v ++ leBytes 4 gen).length = 12 by simp)
  have check : slice (slotRecord v gen) 12 4 = leBytes 4 (crc32 (leBytes 8 v ++ leBytes 4 gen)) := by
    have := slice_append (c := []) (show (leBytes 8 v ++ leBytes 4 gen).length = 12 by simp)
      (length_leBytes 4 (crc32 (leBytes 8 v ++ leBytes 4 gen)))
    rwa [List.append_nil] at this
  rw [slotOk, leAt, body, check, leNat_leBytes, show (256 : Nat) ^ 4 = 2 ^ 32 from rfl, Nat.mod_eq_of_lt (crc32_lt _), beq_self_eq_true]

/-! ### The slot that is read -/

/-- Of two slots that hold, the one with the later generation is read; of one, that one. -/
theorem twoSlotPick_append {a b : List Byte} (ha : a.length = 16) (hb : b.length = 16) :
    twoSlotPick (a ++ b) =
      if slotOk a = true then
        if slotOk b = true ∧ precedes 32 (leAt a 8 4) (leAt b 8 4) = true then some (leAt b 0 8, leAt b 8 4, 1)
        else some (leAt a 0 8, leAt a 8 4, 0)
      else if slotOk b = true then some (leAt b 0 8, leAt b 8 4, 1) else none := by
  have first : slice (a ++ b) 0 16 = a := slice_append (a := []) rfl ha
  have second : slice (a ++ b) 16 16 = b := by
    have := slice_append (c := []) ha hb
    rwa [List.append_nil] at this
  rw [twoSlotPick, first, second]
  cases slotOk a <;> cases slotOk b <;> simp

theorem leAt_four_lt (b : List Byte) (o : Nat) : leAt b o 4 < 2 ^ 32 := by
  have bound : ∀ l : List Byte, leNat l < 256 ^ l.length := by
    intro l
    induction l with
    | nil => simp [leNat]
    | cons x l ih =>
      have := x.isLt
      rw [leNat, List.length_cons, Nat.pow_succ]
      omega
  have := bound (slice b o 4)
  rwa [length_slice] at this

/-- The generation of the record that follows one of generation `g`. -/
def nextGen (g : Nat) : Nat := (g + 1) % 2 ^ 32

/-- The next generation comes after the one before it, and not before it (13 R441: the order is that of 32-bit serial numbers). -/
theorem precedes_nextGen (g : Nat) (h : g < 2 ^ 32) : precedes 32 g (nextGen g) = true ∧ precedes 32 (nextGen g) g = false := by
  unfold precedes nextGen
  extract_lets d d'
  have ahead : d = 1 := by omega
  have behind : d' = 2 ^ 32 - 1 := by omega
  rw [ahead, behind]
  decide

theorem leAt_slotRecord_nextGen (v g : Nat) : leAt (slotRecord v (nextGen g)) 8 4 = nextGen g :=
  (leAt_slotRecord_gen _ _).trans (Nat.mod_mod _ _)

/-- The generation that a record gets, and the slot that it goes to. -/
def nextSlot (b : List Byte) : Nat × Nat :=
  match twoSlotPick b with
  | some (_, g, n) => (nextGen g, 1 - n)
  | none => (1, 0)

/-- The record that is written to the other slot is the one that is read. -/
theorem twoSlotPick_next {a b : List Byte} (v : Nat) (ha : a.length = 16) (hb : b.length = 16) :
    ((nextSlot (a ++ b)).2 = 0 ∧ (twoSlotPick (slotRecord v (nextSlot (a ++ b)).1 ++ b)).map (·.1) = some (v % 2 ^ 64)) ∨
      ((nextSlot (a ++ b)).2 = 1 ∧ (twoSlotPick (a ++ slotRecord v (nextSlot (a ++ b)).1)).map (·.1) = some (v % 2 ^ 64)) := by
  obtain ⟨-, before⟩ := precedes_nextGen _ (leAt_four_lt b 8)
  obtain ⟨after, -⟩ := precedes_nextGen _ (leAt_four_lt a 8)
  simp only [nextSlot, twoSlotPick_append ha hb, twoSlotPick_append (length_slotRecord _ _) hb,
    twoSlotPick_append ha (length_slotRecord _ _), leAt_slotRecord_value, slotOk_slotRecord]
  by_cases ka : slotOk a = true
  · by_cases kb : slotOk b = true ∧ precedes 32 (leAt a 8 4) (leAt b 8 4) = true
    · simp [ka, kb, leAt_slotRecord_nextGen, before]
    · simp [ka, kb, leAt_slotRecord_nextGen, after]
  · by_cases kb : slotOk b = true
    · simp [ka, kb, leAt_slotRecord_nextGen, before]
    · simp [ka, kb]

/-! ### Records in the keep -/

theorem length_storeRead {α : Type} (d : Nat → α) (m : List (Nat × α)) (a n : Nat) : (Store.read d m a n).length = n := by
  induction n generalizing a with
  | zero => rfl
  | succ n ih => rw [Store.read, List.length_cons, ih]

theorem storeRead_append {α : Type} (d : Nat → α) (m : List (Nat × α)) (a n k : Nat) :
    Store.read d m a (n + k) = Store.read d m a n ++ Store.read d m (a + n) k := by
  induction n generalizing a with
  | zero => simp [Store.read]
  | succ n ih =>
    rw [show n + 1 + k = n + k + 1 by omega, Store.read, Store.read, ih, List.cons_append, show a + 1 + n = a + (n + 1) by omega]

theorem storeRead_congr {α : Type} {d : Nat → α} {m m' : List (Nat × α)} {a n : Nat}
    (h : ∀ j, a ≤ j → j < a + n → Store.get d m j = Store.get d m' j) : Store.read d m a n = Store.read d m' a n := by
  induction n generalizing a with
  | zero => rfl
  | succ n ih =>
    rw [Store.read, Store.read, h a (Nat.le_refl a) (by omega), ih fun j lo hi => h j (by omega) (by omega)]

/-- A record's bytes are those of its two slots. -/
theorem State.keep_slots (s : State) (a : Nat) : s.keep a 32 = s.keep a 16 ++ s.keep (a + 16) 16 := storeRead_append _ _ _ 16 16

theorem State.setTwoSlot_eq (s : State) (a v : Nat) :
    s.setTwoSlot a v = s.setKeep (a + 16 * (nextSlot (s.keep a 32)).2) (slotRecord v (nextSlot (s.keep a 32)).1) := by
  unfold State.setTwoSlot nextSlot nextGen slotRecord
  cases twoSlotPick (s.keep a 32) <;> rfl

/-- Bytes written outside worn pages. -/
theorem State.setKeep_good {s : State} {a : Nat} {bs : List Byte} (good : s.wornAt a bs.length = false) :
    (s.setKeep a bs).nv.keep = Store.write keepDflt s.nv.keep a bs := by
  rw [State.setKeep, good, if_neg Bool.false_ne_true, State.putKeep, good]
  rfl

/-- A part of a range outside worn pages is outside them. -/
theorem State.wornAt_part {s : State} {a n b k : Nat} (good : s.wornAt a n = false) (lo : a ≤ b) (hi : b + k ≤ a + n) :
    s.wornAt b k = false := by
  simp only [State.wornAt, List.any_eq_false, decide_eq_true_eq] at good ⊢
  intro q hq
  have := good q hq
  omega

/-- Bytes written outside worn pages are read back. -/
theorem State.setKeep_same {s : State} {a n : Nat} {bs : List Byte} (wf : Store.wf keepDflt s.nv.keep = true)
    (good : s.wornAt a bs.length = false) (hn : bs.length = n) : (s.setKeep a bs).keep a n = bs := by
  rw [State.keep, State.setKeep_good good, ← hn, Store.read_write wf]

/-- Bytes beside those written read as before. -/
theorem State.setKeep_other {s : State} {a b n : Nat} {bs : List Byte} (wf : Store.wf keepDflt s.nv.keep = true)
    (good : s.wornAt a bs.length = false) (apart : b + n ≤ a ∨ a + bs.length ≤ b) : (s.setKeep a bs).keep b n = s.keep b n := by
  rw [State.keep, State.setKeep_good good]
  exact storeRead_congr fun j lo hi => Store.get_write_out wf a bs j (by omega)

/-- A record written outside worn pages is read back. -/
theorem State.setTwoSlot_twoSlot {s : State} {a v : Nat} (wf : Store.wf keepDflt s.nv.keep = true) (good : s.wornAt a 32 = false)
    (hv : v < 2 ^ 64) : (s.setTwoSlot a v).twoSlot a = v := by
  have l0 : (s.keep a 16).length = 16 := length_storeRead _ _ _ _
  have l1 : (s.keep (a + 16) 16).length = 16 := length_storeRead _ _ _ _
  have size (g : Nat) : (slotRecord v g).length = 16 := length_slotRecord v g
  have good0 (g : Nat) : s.wornAt a (slotRecord v g).length = false := State.wornAt_part good (Nat.le_refl a) (by rw [size]; omega)
  have good1 (g : Nat) : s.wornAt (a + 16 * 1) (slotRecord v g).length = false := State.wornAt_part good (by omega) (by rw [size])
  rw [State.setTwoSlot_eq, State.twoSlot, State.keep_slots s a, State.keep_slots _ a]
  rcases twoSlotPick_next v l0 l1 with ⟨slot, read⟩ | ⟨slot, read⟩ <;> rw [slot]
  · rw [Nat.mul_zero, Nat.add_zero, State.setKeep_same wf (good0 _) (size _), State.setKeep_other wf (good0 _) (.inr (by rw [size])), read]
    exact Nat.mod_eq_of_lt hv
  · rw [State.setKeep_other wf (good1 _) (.inl (by omega)), State.setKeep_same wf (good1 _) (size _), read]
    exact Nat.mod_eq_of_lt hv

/-! ### The event log beside the records -/

theorem State.logRoom_keep (s : State) : s.logRoom.nv.keep = s.nv.keep ∧ s.logRoom.nv.worn = s.nv.worn := by
  unfold State.logRoom
  split <;> simp [State.inc]

theorem State.logLimit_keep (s : State) : s.logLimit.nv.keep = s.nv.keep ∧ s.logLimit.nv.worn = s.nv.worn := by
  unfold State.logLimit State.flushLog
  split
  · extract_lets n waits bytes
    split <;> exact ⟨rfl, rfl⟩
  · exact ⟨rfl, rfl⟩

/-- An entry of the event log leaves the keep in its canonical form, and the pages that fail. -/
theorem State.logAdd_keep {s : State} {code pos source detail : Nat} {data : List Byte} (wf : Store.wf keepDflt s.nv.keep = true) :
    Store.wf keepDflt (s.logAdd code pos source detail data).nv.keep = true ∧
      (s.logAdd code pos source detail data).nv.worn = s.nv.worn := by
  obtain ⟨keep, worn⟩ := s.logRoom_keep
  rw [State.logAdd, (State.logLimit_keep _).1, (State.logLimit_keep _).2, ← worn]
  exact ⟨Store.wf_write (keep ▸ wf) _ _, rfl⟩

theorem State.slotsBad_keep {s : State} {a : Nat} (wf : Store.wf keepDflt s.nv.keep = true) :
    Store.wf keepDflt (s.slotsBad a).nv.keep = true ∧ (s.slotsBad a).nv.worn = s.nv.worn := by
  unfold State.slotsBad State.log State.logRaw
  split
  · exact ⟨wf, rfl⟩
  · exact State.logAdd_keep wf

/-- A record that is written, after one that no slot held too (13 R441), is read back. -/
theorem State.updTwoSlot_twoSlot {s : State} {a v : Nat} (wf : Store.wf keepDflt s.nv.keep = true) (good : s.wornAt a 32 = false)
    (hv : v < 2 ^ 64) : (s.updTwoSlot a v).twoSlot a = v := by
  unfold State.updTwoSlot
  split
  · obtain ⟨bad, worn⟩ := State.slotsBad_keep (a := a) wf
    have same : (s.slotsBad a).wornAt a 32 = s.wornAt a 32 := by simp only [State.wornAt, worn]
    exact State.setTwoSlot_twoSlot bad (same.trans good) hv
  · exact State.setTwoSlot_twoSlot wf good hv

end Sys2Proof.Machine
end

section
/-!
PROOFS. The slots of the rings (09 R327): a discard ends the slots it names and leaves every other.
-/
namespace Sys2Proof.Machine
set_option Elab.async false

/-- A slot that no longer waits, fills or is being sent: FREE, or SENT and held for a channel (12 Table 12-8). -/
def RingSlot.ended (x : RingSlot) : Prop := x.st = 0 ∨ x.st = 4

/-- Slot `k` of ring `r` is one of the module's. -/
def State.hasSlot (s : State) (r k : Nat) : Prop := r < s.rings.length ∧ k < (s.ring r).slots.length

theorem State.slot_of_rings {s u : State} (h : u.rings = s.rings) (r k : Nat) : u.slot r k = s.slot r k := by
  rw [State.slot, State.slot, State.ring, State.ring, h]

theorem State.hasSlot_of_rings {s u : State} {r k : Nat} (h : u.rings = s.rings) : u.hasSlot r k ↔ s.hasSlot r k := by
  rw [State.hasSlot, State.hasSlot, State.ring, State.ring, h]

theorem State.mem_allSlots {s : State} {r k : Nat} (hr : r < 10) (hk : k < (s.ring r).slots.length) : (r, k) ∈ s.allSlots := by
  simp [State.allSlots, hr, hk]

theorem State.hasSlot_of_mem_allSlots {s : State} {x : Nat × Nat} (rings : s.rings.length = 10) (h : x ∈ s.allSlots) :
    s.hasSlot x.1 x.2 := by
  simp only [State.allSlots, List.mem_flatten, List.mem_map, List.mem_range] at h
  obtain ⟨_, ⟨r, hr, rfl⟩, hx⟩ := h
  obtain ⟨k, hk, rfl⟩ := List.mem_map.mp hx
  exact ⟨by omega, List.mem_range.mp hk⟩

/-! ### A slot that is written -/

theorem State.ring_setSlot (s : State) (r k : Nat) (x : RingSlot) (i : Nat) (hr : r < s.rings.length) :
    (s.setSlot r k x).ring i = if i = r then { s.ring r with slots := (s.ring r).slots.set k x } else s.ring i := by
  simp only [State.setSlot, State.setDram, State.ring, List.getD_eq_getElem?_getD, List.getElem?_set, eq_comm (a := r)]
  split
  · simp [hr]
  · rfl

theorem State.slot_setSlot_same {s : State} {r k : Nat} (x : RingSlot) (h : s.hasSlot r k) : (s.setSlot r k x).slot r k = x := by
  obtain ⟨hr, hk⟩ := h
  rw [State.slot, State.ring_setSlot s r k x r hr]
  simp [hk]

theorem State.slot_setSlot_other {s : State} {r k i j : Nat} (x : RingSlot) (h : s.hasSlot r k) (ne : (i, j) ≠ (r, k)) :
    (s.setSlot r k x).slot i j = s.slot i j := by
  rw [State.slot, State.ring_setSlot s r k x i h.1]
  split
  · next same =>
    have apart : k ≠ j := fun e => ne (by rw [same, e])
    simp [State.slot, same, List.getElem?_set_ne apart]
  · rfl

theorem State.hasSlot_setSlot {s : State} {r k i j : Nat} (x : RingSlot) (h : s.hasSlot r k) :
    (s.setSlot r k x).hasSlot i j ↔ s.hasSlot i j := by
  have count : (s.setSlot r k x).rings.length = s.rings.length := List.length_set
  rw [State.hasSlot, State.ring_setSlot s r k x i h.1, count]
  split
  · next same => simp [State.hasSlot, same]
  · rfl

/-! ### A discard -/

/-- A slot that is written as one that has ended; the other slots stay. -/
theorem State.setSlot_ended {s : State} {r k : Nat} {x : RingSlot} (hx : x.ended) (h : s.hasSlot r k) :
    ((s.setSlot r k x).slot r k).ended ∧ (∀ i j, (i, j) ≠ (r, k) → (s.setSlot r k x).slot i j = s.slot i j) ∧
      ∀ i j, (s.setSlot r k x).hasSlot i j ↔ s.hasSlot i j :=
  ⟨(State.slot_setSlot_same x h).symm ▸ hx, fun _ _ => State.slot_setSlot_other x h, fun _ _ => State.hasSlot_setSlot x h⟩

/-- A slot that is released (12 R431): it ends, the other slots stay. -/
theorem State.release_slots {s : State} {r k : Nat} (h : s.hasSlot r k) :
    ((s.release r k).slot r k).ended ∧ (∀ i j, (i, j) ≠ (r, k) → (s.release r k).slot i j = s.slot i j) ∧
      ∀ i j, (s.release r k).hasSlot i j ↔ s.hasSlot i j := by
  unfold State.release
  split
  · exact State.setSlot_ended (.inr rfl) h
  · exact State.setSlot_ended (.inl rfl) h

/-- A slot that is discarded (09 R332): it ends, the other slots stay. -/
theorem State.discardSlot_slots {s : State} {r k : Nat} (why : Discard) (h : s.hasSlot r k) :
    ((s.discardSlot why r k).slot r k).ended ∧ (∀ i j, (i, j) ≠ (r, k) → (s.discardSlot why r k).slot i j = s.slot i j) ∧
      ∀ i j, (s.discardSlot why r k).hasSlot i j ↔ s.hasSlot i j := by
  unfold State.discardSlot
  extract_lets x s1 s2
  split
  · exact ⟨‹_›, fun _ _ _ => rfl, fun _ _ => .rfl⟩
  · have k1 : s.keeps [.dma] s1 := State.keeps_ite State.dmaDiscard_frame State.keeps_refl
    have k2 : s.keeps [.od, .out0, .out1, .dma] s2 :=
      State.keeps_ite (State.cutSlot_frame.last (by decide) (k1.mono (by decide))) (State.inc_keeps.last (by decide) (k1.mono (by decide)))
    have rings : s2.rings = s.rings := k2.rings (by decide)
    obtain ⟨ends, others, has⟩ := State.release_slots ((State.hasSlot_of_rings rings).mpr h)
    exact ⟨ends, fun i j ne => (others i j ne).trans (State.slot_of_rings rings i j),
      fun i j => (has i j).trans (State.hasSlot_of_rings rings)⟩

/-- What a discard of the slots that satisfy `p` does to one slot. -/
def State.discardWhere (why : Discard) (p : RingSlot → Bool) (s : State) (x : Nat × Nat) : State :=
  if p (s.slot x.1 x.2) then s.discardSlot why x.1 x.2 else s

theorem State.discardWhere_slots {s : State} {x : Nat × Nat} (why : Discard) (p : RingSlot → Bool) (h : s.hasSlot x.1 x.2) :
    (p (s.slot x.1 x.2) = true → ((s.discardWhere why p x).slot x.1 x.2).ended) ∧
      (∀ y : Nat × Nat, y ≠ x → (s.discardWhere why p x).slot y.1 y.2 = s.slot y.1 y.2) ∧
      ∀ y : Nat × Nat, (s.discardWhere why p x).hasSlot y.1 y.2 ↔ s.hasSlot y.1 y.2 := by
  unfold State.discardWhere
  split
  · obtain ⟨ends, others, has⟩ := State.discardSlot_slots why h
    exact ⟨fun _ => ends, fun y ne => others y.1 y.2 ne, fun y => has y.1 y.2⟩
  · exact ⟨fun named => absurd named ‹_›, fun _ _ => rfl, fun _ => .rfl⟩

/-- A discard along a list of slots ends those that satisfy `p`; every other stays, or ends. -/
theorem State.foldl_discardWhere (why : Discard) (p : RingSlot → Bool) {l : List (Nat × Nat)} : ∀ {s : State},
    (∀ x ∈ l, s.hasSlot x.1 x.2) → ∀ y, ((l.foldl (State.discardWhere why p) s).slot y.1 y.2 = s.slot y.1 y.2 ∨
      ((l.foldl (State.discardWhere why p) s).slot y.1 y.2).ended) ∧
      (y ∈ l → p (s.slot y.1 y.2) = true → ((l.foldl (State.discardWhere why p) s).slot y.1 y.2).ended) := by
  induction l with
  | nil => exact fun _ _ => ⟨.inl rfl, fun h => by cases h⟩
  | cons x l ih =>
    intro s h y
    obtain ⟨ends, others, has⟩ := State.discardWhere_slots why p (h x List.mem_cons_self)
    obtain ⟨stays, named⟩ := ih (fun z hz => (has z).mpr (h z (List.mem_cons_of_mem x hz))) y
    rw [List.foldl_cons]
    by_cases same : y = x
    · subst same
      by_cases hp : p (s.slot y.1 y.2) = true
      · have ended := stays.elim (fun same => same ▸ ends hp) id
        exact ⟨.inr ended, fun _ _ => ended⟩
      · rw [State.discardWhere, if_neg hp] at stays ⊢
        exact ⟨stays, fun _ named => absurd named hp⟩
    · rw [others y same] at stays named
      exact ⟨stays, fun hy => named ((List.mem_cons.mp hy).resolve_left same)⟩

/-- A discard of the slots that satisfy `p` ends each of them. -/
theorem State.discardIf_ended {s : State} (why : Discard) (p : RingSlot → Bool) (rings : s.rings.length = 10) {r k : Nat} (hr : r < 10)
    (hk : k < (s.ring r).slots.length) (hp : p (s.slot r k) = true) : ((s.discardIf why p).slot r k).ended :=
  (State.foldl_discardWhere why p (fun _ => State.hasSlot_of_mem_allSlots rings) (r, k)).2 (State.mem_allSlots hr hk) hp

end Sys2Proof.Machine
end

section
/-!
PROOFS. Role leases (10 R375 to R378): the grant, the heartbeat, the expiry, the announcement of another station, and the record.
-/
namespace Sys2Proof.Machine
set_option Elab.async false

/-! ### A telegram that the station hears -/

/-- A telegram that the station hears takes its effect on the state that has taken it. -/
theorem State.onTelegram_of_hears {s : State} {r : Req} {k : DstKind} {min : Nat} (h : s.hears r k min) (f : State → State) :
    s.onTelegram r k min f = f (s.heard r) := by
  obtain ⟨serving, src, hop, len, permits, addressed⟩ := h
  have heard : ((s.advance r.t).takeTelegram r.portB).serving = true ∧
      ((s.advance r.t).takeTelegram r.portB).addressed r.posaddr r.dst r.hop = true := ⟨serving, addressed⟩
  unfold State.onTelegram
  extract_lets w
  have taken : w = (s.advance r.t).takeTelegram r.portB := if_pos hop
  rw [taken, heard.1, heard.2, src, permits, if_neg (by simp; omega)]
  rfl

theorem State.heard_keeps {s : State} {r : Req} : s.keeps [.od, .time, .chain, .host] (s.heard r) :=
  State.touch_keeps.last (by decide) (State.place_frame.last (by decide)
    (State.takeTelegram_frame.last (by decide) (State.advance_keeps.mono (by decide))))

theorem State.heard_time (s : State) (r : Req) : (s.heard r).time = (s.advance r.t).time := by
  have k : (s.advance r.t).keeps [.od, .chain, .host] (s.heard r) :=
    State.touch_keeps.last (by decide) (State.place_frame.last (by decide) (State.takeTelegram_frame.mono (by decide)))
  exact k.time (by decide)

theorem State.setPort_renewedAt (s : State) (b : Bool) (c : ChainPort) : (s.setPort b c).chain.renewedAt = s.chain.renewedAt := by
  unfold State.setPort
  cases b <;> rfl

theorem State.heard_renewedAt (s : State) (r : Req) : (s.heard r).chain.renewedAt = s.chain.renewedAt := by
  have touch (w : State) : (w.touch (.chain r.session)).chain.renewedAt = w.chain.renewedAt := by
    simp only [State.touch]
    split <;> rfl
  rw [State.heard, touch, State.place_frame.chain (by decide), State.takeTelegram, State.setPort_renewedAt]
  rfl

theorem State.Core.place {s : State} {v : Nat → Int} {r : Req} (h : s.Core v) : (s.place r).Core v := .ite h.setO h

/-- Taking a telegram writes the position that the station derives from it, and no core object. -/
theorem State.heard_core {s : State} (r : Req) (h : Store.wf Obj.dflt s.od = true) : (s.heard r).Core s.oi :=
  ((((State.core_self h).frame State.advance_keeps).frame State.takeTelegram_frame).place).frame State.touch_keeps

/-- A request that is not the repetition of one answered before (10 R360) takes its effect, and its reply is kept and sent. -/
theorem State.once_of_fresh {s : State} {r : Req} {type : Nat} (h : s.fresh r type) (f : State → State × Reply) :
    (s.heard r).once r type f = ((f (s.heard r)).1.keepReply r type (f (s.heard r)).2).answer r type (f (s.heard r)).2 := by
  have new : (if reqUni r then (s.heard r).keptReply r type else none) = none := by
    rcases h with notUni | notKept
    · rw [if_neg (Bool.eq_false_iff.mp notUni)]
    · rw [notKept, ite_self]
  simp only [State.once, new]

theorem State.replied_keeps {s : State} {r : Req} {type : Nat} {a : Reply} : s.keeps [.chain] ((s.keepReply r type a).answer r type a) :=
  State.answer_frame.last (by decide) State.keepReply_frame

theorem State.replied_renewedAt (s : State) (r : Req) (type : Nat) (a : Reply) :
    ((s.keepReply r type a).answer r type a).chain.renewedAt = s.chain.renewedAt := by
  have kept : (s.keepReply r type a).chain.renewedAt = s.chain.renewedAt := by
    unfold State.keepReply
    split <;> rfl
  rw [← kept]
  unfold State.answer
  split
  · rfl
  · split <;> exact State.setPort_renewedAt _ _ _

/-! ### The operations of a lease, on the core objects -/

namespace State.Core

variable {s : State} {v : Nat → Int} {role : Nat}

theorem pageIs {a n : Nat} {good : Bool} (h : s.Core v) : (s.pageIs a n good).Core v := h.upd

theorem writeLease (h : s.Core v) : s.writeLease.Core v := .ite h.upd h.upd.updTwoSlot

theorem renewLease (h : s.Core v) : s.renewLease.Core
    (Function.update (Function.update v Obj.LEASE_STATE 1) Obj.LEASE_LAST_RENEW ((s.time.now : Nat) : Int)) := put (put h.upd _ _) _ _

theorem orphanRecord {good : Bool} (h : s.Core v) : (s.orphanRecord good).Core v := .ite h.pageIs.writeLease h.pageIs.upd.nvFailed

/-- A core object that holds a number. -/
theorem reads_nat (h : s.Core v) (k n : Nat) (e : v k = n) (hk : k ∈ coreKeys := by decide) : s.o k = n := by
  rw [State.o, h.reads k hk, e]
  rfl

/-- MODE, where it is not written. -/
theorem mode_same {u : State} (h : u.Core v) (e : v Obj.MODE = s.oi Obj.MODE) : u.mode = s.mode := by
  rw [State.mode, State.o, h.reads Obj.MODE, e]
  rfl

/-- A core object that reads as before. -/
theorem reads_same {u : State} (h : u.Core s.oi) (k : Nat) (hk : k ∈ coreKeys := by decide) : u.o k = s.o k := by
  rw [State.o, h.reads k hk]
  rfl

end State.Core

/-! ### The grant (10 R375) -/

/-- What a grant records, and that it leaves the mode. -/
theorem State.granted_core {s : State} {v : Nat → Int} (h : s.Core v) (role hb miss epoch : Nat) :
    ∃ w : Nat → Int, (s.granted role hb miss epoch).Core w ∧ w Obj.LEASE_ROLE = role ∧ w Obj.LEASE_EPOCH = epoch ∧
      w Obj.LEASE_HB_PERIOD = hb ∧ w Obj.LEASE_MISS_LIMIT = miss ∧ w Obj.LEASE_STATE = ((if role = 0 then 0 else 1 : Nat) : Int) ∧
      w Obj.MODE = v Obj.MODE := by
  unfold State.granted
  extract_lets r0 e0 s1 s2 s3
  have h2 : s2.Core _ := .renewLease (.writeLease (.put (.put (.put (.put h.discardIf _ _) _ _) _ _) _ _))
  by_cases noRole : role = 0
  · have h3 : s3.Core _ := (if_pos noRole : s3 = _) ▸ h2.put _ _
    rw [if_pos noRole]
    exact ⟨_, h3.upd, rfl, rfl, rfl, rfl, rfl, rfl⟩
  · have h3 : s3.Core _ := (if_neg noRole : s3 = _) ▸ h2
    rw [if_neg noRole]
    exact ⟨_, h3.upd, rfl, rfl, rfl, rfl, rfl, rfl⟩

/-- A grant is renewed at once, and ends ORPHAN (10 R375, 02 R67). -/
theorem State.granted_renewed (s : State) (role hb miss epoch : Nat) :
    (s.granted role hb miss epoch).chain.renewedAt = s.time.mono ∧ (s.granted role hb miss epoch).modes.orphan = false := by
  unfold State.granted
  extract_lets r0 e0 s1 s2 s3
  have k3 : s2.keeps [.od] s3 := State.keeps_ite State.setO_keeps State.keeps_refl
  have time : (s1.setOs [(Obj.LEASE_ROLE, ((role : Nat) : Int)), (Obj.LEASE_EPOCH, ((epoch : Nat) : Int)),
      (Obj.LEASE_HB_PERIOD, ((hb : Nat) : Int)), (Obj.LEASE_MISS_LIMIT, ((miss : Nat) : Int))]).writeLease.time = s.time := by
    rw [State.writeLease_frame.time (by decide), State.setOs_keeps.time (by decide), State.discardIf_frame.time (by decide)]
  refine ⟨?_, rfl⟩
  show s3.chain.renewedAt = _
  rw [k3.chain (by decide), ← time]
  rfl

theorem State.pageIs_good (s : State) (a n : Nat) : (s.pageIs a n true).wornAt a n = false := by
  simp only [State.pageIs, State.wornAt, if_true, List.any_eq_false, List.mem_filter, decide_eq_true_eq]
  intro q hq within
  simp [within] at hq

/-- What a grant passes by (10 R375). -/
theorem State.grantResult_passes {s : State} {level role hb miss epoch : Nat} (hl : 1 ≤ level) (hs : s.o Obj.CHAIN_STATION ≠ 127)
    (hh : 1 ≤ hb ∧ hb ≤ 100) (hm : 2 ≤ miss ∧ miss ≤ 16) (hr : role ≠ 255) (he : s.o Obj.LEASE_EPOCH < epoch)
    (hc : s.nv.closed = false) (hw : s.wornAt Keep.lease 32 = false) : s.grantResult level role hb miss epoch = 0 := by
  rw [State.grantResult, if_neg (by omega), if_neg hs, if_neg (by omega), if_neg (by omega), if_neg (by simp [hc, hw])]

/-- A grant that passes. -/
theorem State.leaseGrant_passes {s : State} {good : Bool} {r : Req}
    (h : (s.pageIs Keep.lease 32 good).grantResult (s.reqLevel r) (beAt r.payload 0 1) (beAt r.payload 1 1) (beAt r.payload 2 1)
      (beAt r.payload 4 4) = 0) :
    (State.leaseGrant good r s).1 = (s.pageIs Keep.lease 32 good).granted (beAt r.payload 0 1) (beAt r.payload 1 1)
      (beAt r.payload 2 1) (beAt r.payload 4 4) := if_pos h

/-- A grant that fails a check counts, and writes no other core object. -/
theorem State.leaseGrant_fails {s : State} {v : Nat → Int} {good : Bool} {r : Req} (hs : s.Core v)
    (h : (s.pageIs Keep.lease 32 good).grantResult (s.reqLevel r) (beAt r.payload 0 1) (beAt r.payload 1 1) (beAt r.payload 2 1)
      (beAt r.payload 4 4) ≠ 0) :
    (State.leaseGrant good r s).1.Core
      (Function.update v Obj.LEASE_CNT_REFUSED (clampI 0 0xFFFFFFFF (v Obj.LEASE_CNT_REFUSED + 1))) := by
  have counted : ((s.pageIs Keep.lease 32 good).inc Obj.LEASE_CNT_REFUSED).Core _ := hs.pageIs.put _ _
  rw [hs.pageIs.reads Obj.LEASE_CNT_REFUSED] at counted
  have result : (State.leaseGrant good r s).1 = _ := if_neg h
  rw [result]
  exact .ite counted.nvFailed counted

/-- The grant of a telegram that the station hears. -/
theorem exec_leaseGrant {s : State} {r : Req} {good : Bool} (hears : s.hears r .unicast 8) (fresh : s.fresh r 0x30) :
    exec (.leaseGrant r good) s = .next (((State.leaseGrant good r (s.heard r)).1.keepReply r 0x30
      (State.leaseGrant good r (s.heard r)).2).answer r 0x30 (State.leaseGrant good r (s.heard r)).2) := by
  show execLeaseGrant r good s = _
  rw [execLeaseGrant, State.onTelegram_of_hears hears, State.once_of_fresh fresh]

/-- A grant whose checks pass (10 R375), in the words of the telegram and of the state before it. -/
theorem State.leaseGrant_recorded {s : State} {r : Req} (wf : Store.wf Obj.dflt s.od = true)
    (level : 1 ≤ (s.heard r).reqLevel r) (station : s.o Obj.CHAIN_STATION ≠ 127)
    (period : 1 ≤ beAt r.payload 1 1 ∧ beAt r.payload 1 1 ≤ 100) (miss : 2 ≤ beAt r.payload 2 1 ∧ beAt r.payload 2 1 ≤ 16)
    (role : beAt r.payload 0 1 ≠ 255) (epoch : s.o Obj.LEASE_EPOCH < beAt r.payload 4 4) (closed : s.nv.closed = false) :
    (State.leaseGrant true r (s.heard r)).1 = ((s.heard r).pageIs Keep.lease 32 true).granted (beAt r.payload 0 1)
      (beAt r.payload 1 1) (beAt r.payload 2 1) (beAt r.payload 4 4) := by
  have core : ((s.heard r).pageIs Keep.lease 32 true).Core s.oi := (s.heard_core r wf).pageIs
  have still : (s.heard r).nv.closed = false := by rw [State.heard_keeps.nv (by decide), closed]
  refine State.leaseGrant_passes (State.grantResult_passes level ?_ period miss role ?_ still (State.pageIs_good _ _ _))
  · rwa [core.reads_same Obj.CHAIN_STATION]
  · rwa [core.reads_same Obj.LEASE_EPOCH]

/-! ### The heartbeat and the expiry (10 R376) -/

/-- The expiry depends on the lease and on when it was renewed. -/
theorem State.leaseExpiry_same {s u : State} (h : u.Core s.oi) (renewed : u.chain.renewedAt = s.chain.renewedAt) :
    u.leaseExpiry = s.leaseExpiry := by
  rw [State.leaseExpiry, h.reads_same Obj.LEASE_HB_PERIOD, h.reads_same Obj.LEASE_MISS_LIMIT, renewed]
  rfl

/-- A lease is not due before its expiry. -/
theorem State.leaseDue_early {s : State} (h : s.time.mono < s.leaseExpiry) : s.leaseDue = s := if_neg fun due => by omega

/-- An entry that names this station's lease renews it while it is CURRENT. -/
theorem State.leaseEntry_renews {s : State} {good : Bool} {role station epoch : Nat} (hs : station = s.o Obj.CHAIN_STATION)
    (hr : role = s.o Obj.LEASE_ROLE) (he : epoch = s.o Obj.LEASE_EPOCH) (current : s.o Obj.LEASE_STATE = 1) :
    s.leaseEntry good role station epoch = s.renewLease := by
  rw [State.leaseEntry, if_pos hs, if_pos ⟨hr, he⟩, if_pos current]

/-- What the entries of a heartbeat meet: its port is the upstream port. -/
def State.beatOn (s : State) (r : Req) : State := ({ s with chain := { s.chain with upstreamB := r.portB } } : State).place r

theorem State.beatOn_chain (s : State) (r : Req) : (s.beatOn r).chain = { s.chain with upstreamB := r.portB } :=
  State.place_frame.chain (by decide)

theorem State.beatOn_time (s : State) (r : Req) : (s.beatOn r).time = s.time := State.place_frame.time (by decide)

/-- A heartbeat with one entry, which comes before the lease is due. -/
theorem State.heartbeat_one {s : State} {r : Req} (good : Bool) (one : beAt r.payload 4 1 = 1) (len : r.payload.length = 16)
    (early : (s.beatOn r).time.mono < (s.beatOn r).leaseExpiry) :
    State.heartbeat good r s = (s.beatOn r).leaseEntry good (beAt r.payload 8 1) (beAt r.payload 9 1) (beAt r.payload 12 4) := by
  rw [State.heartbeat, one, len]
  show [0].foldl _ (s.beatOn r).leaseDue = _
  rw [State.leaseDue_early early]
  rfl

/-- A heartbeat that names the CURRENT lease of this station renews it. -/
theorem State.heartbeat_renews {s : State} {r : Req} (good : Bool) (wf : Store.wf Obj.dflt s.od = true) (one : beAt r.payload 4 1 = 1)
    (len : r.payload.length = 16) (station : beAt r.payload 9 1 = s.o Obj.CHAIN_STATION)
    (role : beAt r.payload 8 1 = s.o Obj.LEASE_ROLE) (epoch : beAt r.payload 12 4 = s.o Obj.LEASE_EPOCH)
    (current : s.o Obj.LEASE_STATE = 1) (early : (s.advance r.t).time.mono < s.leaseExpiry) :
    State.heartbeat good r (s.heard r) = ((s.heard r).beatOn r).renewLease := by
  have core : ((s.heard r).beatOn r).Core s.oi := (s.heard_core r wf).upd.place
  have renewed : ((s.heard r).beatOn r).chain.renewedAt = s.chain.renewedAt := by
    rw [State.beatOn_chain, ← s.heard_renewedAt r]
  rw [State.heartbeat_one good one len, State.leaseEntry_renews]
  · rw [core.reads_same Obj.CHAIN_STATION, station]
  · rw [core.reads_same Obj.LEASE_ROLE, role]
  · rw [core.reads_same Obj.LEASE_EPOCH, epoch]
  · rw [core.reads_same Obj.LEASE_STATE, current]
  · rwa [State.leaseExpiry_same core renewed, State.beatOn_time, State.heard_time]

/-- What a lease leaves when it expires. -/
theorem State.leaseDue_expired {s : State} (current : s.o Obj.LEASE_STATE = 1) (due : s.leaseExpiry ≤ s.time.mono) :
    s.leaseDue = (((s.discardRole (s.o Obj.LEASE_ROLE)).setO Obj.LEASE_STATE 2).inc Obj.LEASE_CNT_EXPIRED).notify 0x0060 0xFF
      [(1, s.o Obj.LEASE_ROLE), (1, 0), (2, 0), (4, s.o Obj.LEASE_EPOCH)] := if_pos ⟨current, due⟩

/-- An expired lease leaves EXPIRED and one more in its counter, and no other core object changed. -/
theorem State.leaseDue_core {s : State} (wf : Store.wf Obj.dflt s.od = true) (current : s.o Obj.LEASE_STATE = 1)
    (due : s.leaseExpiry ≤ s.time.mono) :
    s.leaseDue.Core (Function.update (Function.update s.oi Obj.LEASE_STATE 2) Obj.LEASE_CNT_EXPIRED
      (clampI 0 0xFFFFFFFF (s.oi Obj.LEASE_CNT_EXPIRED + 1))) := by
  have expired : ((s.discardRole (s.o Obj.LEASE_ROLE)).setO Obj.LEASE_STATE 2).Core (Function.update s.oi Obj.LEASE_STATE 2) :=
    (State.core_self wf).discardRole.put _ _
  have counted := expired.put Obj.LEASE_CNT_EXPIRED (clampI 0 0xFFFFFFFF (s.oi Obj.LEASE_CNT_EXPIRED + 1))
  rw [State.leaseDue_expired current due, State.inc, expired.reads Obj.LEASE_CNT_EXPIRED]
  exact counted.notify

/-- Nothing of the role of an expired lease is left waiting or being sent (10 R377). -/
theorem State.leaseDue_slots {s : State} (rings : s.rings.length = 10) (current : s.o Obj.LEASE_STATE = 1)
    (due : s.leaseExpiry ≤ s.time.mono) (role : s.o Obj.LEASE_ROLE ≠ 0) {r k : Nat} (hr : r < 10) (hk : k < (s.ring r).slots.length)
    (own : (s.slot r k).role = s.o Obj.LEASE_ROLE) : (s.leaseDue.slot r k).ended := by
  have ends := State.discardIf_ended .lease (fun x => x.role == s.o Obj.LEASE_ROLE) rings hr hk (by simp [own])
  rw [State.leaseDue_expired current due, State.discardRole, if_neg role]
  have after : (((s.discardIf .lease (fun x => x.role == s.o Obj.LEASE_ROLE)).setO Obj.LEASE_STATE 2).inc Obj.LEASE_CNT_EXPIRED).rings =
    (s.discardIf .lease (fun x => x.role == s.o Obj.LEASE_ROLE)).rings := by simp [State.inc]
  rwa [State.slot_of_rings ((State.notify_keeps.rings (by decide)).trans after)]

/-! ### The announcement of another station (10 R378, 02 R66) -/

theorem State.recordTxn_running (s : State) (r : TxnRec) : (s.recordTxn r).modes.running = s.modes.running := by
  have latest (w : State) : (w.setLatest r).modes = w.modes := State.setOs_keeps.modes (by decide)
  unfold State.recordTxn
  extract_lets old
  split
  · rw [latest]
  · split
    · rfl
    · rw [latest]

theorem State.cancelArmed_running (s : State) (reason : Nat) : (s.cancelArmed reason).modes.running = s.modes.running := by
  unfold State.cancelArmed
  split
  · rfl
  · rw [State.report_frame.modes (by decide), State.recordTxn_running]

/-- In SAFE, and in STANDBY with no transition running, an announcement of the role at another station leaves the mode; it takes the
role away and leads to ORPHAN. -/
theorem State.toOrphan_core {s : State} {v : Nat → Int} (h : s.Core v) (good : Bool) (station epoch : Nat)
    (mode : s.mode = 0 ∧ s.modes.running = none ∨ s.mode = 5) :
    (s.toOrphan good station epoch).Core (Function.update (Function.update (Function.update v Obj.LEASE_ROLE 0) Obj.LEASE_EPOCH epoch)
      Obj.LEASE_STATE 3) ∧ (s.toOrphan good station epoch).modes.orphan = true := by
  unfold State.toOrphan
  extract_lets role s1 s2 s3 s4
  have h1 : s1.Core v := h.cancelArmed.discardRole
  have h2 : s2.Core _ := State.Core.orphanRecord (.put (.put (.put h1 Obj.LEASE_ROLE 0) Obj.LEASE_EPOCH epoch) Obj.LEASE_STATE 3)
  have h4 : s4.Core _ := h2.notify.upd
  have same : s4.mode = s.mode := h4.mode_same (h.reads Obj.MODE).symm
  have k : (s.cancelArmed 6).keeps [.emitted, .od, .chain, .nv, .free, .out0, .out1, .mem, .dma, .rings, .host] s3 :=
    State.notify_keeps.last (by decide) (State.orphanRecord_frame.last (by decide) (State.setOs_keeps.last (by decide)
      (State.discardRole_frame.mono (by decide))))
  have running : s4.modes.running.isSome = s.modes.running.isSome := by
    show (s3.modes.running.map _).isSome = _
    rw [Option.isSome_map, k.modes (by decide), State.cancelArmed_running]
  rw [same, running]
  rcases mode with ⟨standby, idle⟩ | safe
  · rw [standby, idle, if_neg (by decide), if_pos (by decide), if_neg (by decide)]
    exact ⟨h4, rfl⟩
  · rw [if_pos safe]
    exact ⟨h4, rfl⟩

/-- What takes a role away: its announcement at another station, with a newer epoch. -/
theorem State.losesRole_newer {s : State} {role station epoch : Nat} (anyRole : role ≠ 0) (own : role = s.o Obj.LEASE_ROLE)
    (newer : s.o Obj.LEASE_EPOCH < epoch) (other : station ≠ s.o Obj.CHAIN_STATION)
    (held : s.o Obj.LEASE_STATE = 1 ∨ s.o Obj.LEASE_STATE = 2) : s.losesRole role station epoch = true := by
  unfold State.losesRole
  simp [anyRole, ← own, newer, other, held]

/-! ### The record (10 R375) -/

/-- A lease record that is written holds role and epoch. -/
theorem State.orphanRecord_written {s : State} (wf : Store.wf keepDflt s.nv.keep = true) (closed : s.nv.closed = false)
    (role : s.o Obj.LEASE_ROLE < 256) (epoch : s.o Obj.LEASE_EPOCH < 2 ^ 32) :
    (s.orphanRecord true).chain.leaseRetry = false ∧
      (s.orphanRecord true).twoSlot Keep.lease = s.o Obj.LEASE_ROLE * 2 ^ 32 + s.o Obj.LEASE_EPOCH := by
  have written : s.orphanRecord true =
      ({ s.pageIs Keep.lease 32 true with chain := { s.chain with leaseRetry := false } } : State).updTwoSlot Keep.lease
        (s.o Obj.LEASE_ROLE * 2 ^ 32 + s.o Obj.LEASE_EPOCH) := by
    rw [State.orphanRecord, if_pos rfl, State.writeLease, if_neg (by simp [State.pageIs, closed])]
    show State.updTwoSlot _ _ (s.o Obj.LEASE_ROLE % 256 * 2 ^ 32 + s.o Obj.LEASE_EPOCH % 2 ^ 32) = _
    rw [Nat.mod_eq_of_lt role, Nat.mod_eq_of_lt epoch]
    rfl
  rw [written]
  exact ⟨by simp, State.updTwoSlot_twoSlot wf (State.pageIs_good s _ _) (by omega)⟩

/-- Settles O45: clause by clause, by what each operation of a lease leaves in the core objects. -/
theorem roleLeases : Obligations.RoleLeases := by
  unfold Obligations.RoleLeases
  intro s sound
  obtain ⟨⟨wf, -⟩, ⟨-, keep, -⟩, -, -, -, -, rings⟩ := sound
  refine ⟨fun r good hears fresh => ⟨?grant, ?refused⟩, ?beat, ?expiry, ?announce, ?record⟩
  case grant =>
    rintro ⟨level, station, lo, hi, few, many, role, epoch, closed, rfl⟩
    refine ⟨_, exec_leaseGrant hears fresh, ?_⟩
    rw [State.leaseGrant_recorded wf level station ⟨lo, hi⟩ ⟨few, many⟩ role epoch closed]
    obtain ⟨w, core, hRole, hEpoch, hPeriod, hMiss, hState, hMode⟩ := State.granted_core
      ((s.heard_core r wf).pageIs (a := Keep.lease) (n := 32) (good := true)) (beAt r.payload 0 1) (beAt r.payload 1 1)
      (beAt r.payload 2 1) (beAt r.payload 4 4)
    obtain ⟨renewed, orphan⟩ := ((s.heard r).pageIs Keep.lease 32 true).granted_renewed (beAt r.payload 0 1) (beAt r.payload 1 1)
      (beAt r.payload 2 1) (beAt r.payload 4 4)
    have told := core.frame (State.replied_keeps (r := r) (type := 0x30) (a := (State.leaseGrant true r (s.heard r)).2))
    refine ⟨told.reads_nat _ _ hRole, told.reads_nat _ _ hEpoch, told.reads_nat _ _ hPeriod, told.reads_nat _ _ hMiss,
      told.reads_nat _ _ hState, ?_, told.mode_same hMode, ?_⟩
    · rw [State.replied_keeps.modes (by decide), orphan]
    · rw [State.replied_renewedAt, renewed, ← s.heard_time r]
      rfl
  case refused =>
    intro fails
    refine ⟨_, exec_leaseGrant hears fresh, ?_⟩
    have core := (State.leaseGrant_fails (s.heard_core r wf) fails).frame (State.replied_keeps (r := r) (type := 0x30)
      (a := (State.leaseGrant good r (s.heard r)).2))
    exact ⟨core.reads _, core.reads _, core.reads _, core.reads _⟩
  case beat =>
    intro r good hears len one station role epoch current early
    have long : s.hears r .broadcast (8 + 8 * beAt r.payload 4 1) := by
      obtain ⟨serving, src, hop, -, rest⟩ := hears
      exact ⟨serving, src, hop, by omega, rest⟩
    have beat : exec (.heartbeat r good) s = .next ((s.heard r).beatOn r).renewLease := by
      show execHeartbeat r good s = _
      rw [execHeartbeat, State.onTelegram_of_hears long, State.heartbeat_renews good wf one len station role epoch current early]
    have on : ((s.heard r).beatOn r).Core s.oi := (s.heard_core r wf).upd.place
    have time : ((s.heard r).beatOn r).time = (s.advance r.t).time := (State.beatOn_time _ r).trans (s.heard_time r)
    refine ⟨_, beat, on.renewLease.reads_nat _ _ rfl, congrArg TimeSt.mono time, on.renewLease.reads_nat _ _ ?_,
      congrArg ChainSt.upstreamB (State.beatOn_chain _ r), on.renewLease.mode_same rfl⟩
    rw [← time]
    rfl
  case expiry =>
    intro t current due
    refine ⟨_, rfl, ?_⟩
    have core := State.leaseDue_core (s := s.advance t) wf current due
    refine ⟨core.reads_nat _ _ rfl, core.reads _, core.mode_same rfl, fun role r k hr hk own => ?_⟩
    exact State.leaseDue_slots (s := s.advance t) rings current due role hr hk own
  case announce =>
    intro r good hears anyRole own newer other held mode
    have on := s.heard_core r wf
    have loses : (s.heard r).losesRole (beAt r.payload 0 1) (beAt r.payload 1 1) (beAt r.payload 4 4) = true :=
      State.losesRole_newer anyRole (by rw [on.reads_same Obj.LEASE_ROLE, own]) (by rwa [on.reads_same Obj.LEASE_EPOCH])
        (by rwa [on.reads_same Obj.CHAIN_STATION]) (by rwa [on.reads_same Obj.LEASE_STATE])
    have announced : exec (.leaseAnnounce r good) s = .next ((s.heard r).toOrphan good (beAt r.payload 1 1) (beAt r.payload 4 4)) := by
      show execLeaseAnnounce r good s = _
      rw [execLeaseAnnounce, State.onTelegram_of_hears hears, State.leaseAnnounced, if_pos loses]
    have still : (s.heard r).mode = 0 ∧ (s.heard r).modes.running = none ∨ (s.heard r).mode = 5 := by
      rwa [on.mode_same rfl, State.heard_keeps.modes (by decide)]
    obtain ⟨core, orphan⟩ := State.toOrphan_core on good (beAt r.payload 1 1) (beAt r.payload 4 4) still
    exact ⟨_, announced, core.reads_nat _ _ rfl, core.reads_nat _ _ rfl, core.reads_nat _ _ rfl, orphan, core.mode_same rfl⟩
  case record =>
    intro t retry up closed role epoch
    have written : exec (.leaseRecordRetry true t) s = .next ((s.advance t).orphanRecord true) := by
      have waits : ((s.advance t).chain.leaseRetry && (s.advance t).fwUp) = true := by
        rw [show (s.advance t).chain.leaseRetry = true from retry, show (s.advance t).fwUp = true from up]
        rfl
      show execLeaseRecordRetry true t s = _
      simp only [execLeaseRecordRetry, if_pos waits]
    exact ⟨_, written, State.orphanRecord_written (s := s.advance t) keep closed role epoch⟩

end Sys2Proof.Machine
end

section
/-!
PROOFS. What one object reads after a write (11 R384): the object written in a dictionary in its canonical form, any other in every
dictionary.
-/
namespace Sys2Proof.Machine

/-- A write of one key leaves what every other key reads, whatever the form of the store. -/
theorem Store.get_set_of_ne {α : Type} [DecidableEq α] {d : Nat → α} (m : List (Nat × α)) {k j : Nat} (v : α) (h : j ≠ k) :
    Store.get d (Store.set d m k v) j = Store.get d m j := by
  have ne : k ≠ j := Ne.symm h
  induction m with
  | nil => by_cases hv : v = d k <;> simp [Store.set, Store.get, hv, ne]
  | cons c r ih =>
    obtain ⟨k', v'⟩ := c
    by_cases below : k < k'
    · by_cases hv : v = d k <;> simp [Store.set, Store.get, below, hv, ne]
    · by_cases same : k = k'
      · subst same
        by_cases hv : v = d k <;> simp [Store.set, Store.get, hv, ne]
      · simp only [Store.set, below, same, if_false, Store.get, ih]

theorem State.oi_setO_of_ne (s : State) {k j : Nat} (v : Int) (h : j ≠ k) : (s.setO k v).oi j = s.oi j :=
  Store.get_set_of_ne s.od v h

theorem State.oi_setO_same {s : State} (h : Store.wf Obj.dflt s.od = true) (k : Nat) (v : Int) : (s.setO k v).oi k = v := by
  rw [State.oi_setO s h, if_pos rfl]

/-- A number that is written is read back. -/
theorem State.o_setO_nat {s : State} (h : Store.wf Obj.dflt s.od = true) (k n : Nat) : (s.setO k ((n : Nat) : Int)).o k = n := by
  rw [State.o, State.oi_setO_same h, Int.toNat_natCast]

theorem State.o_setO_of_ne (s : State) {k j : Nat} (v : Int) (h : j ≠ k) : (s.setO k v).o j = s.o j := by
  rw [State.o, State.oi_setO_of_ne s v h, State.o]

theorem State.o_of_od {s u : State} (h : u.od = s.od) (k : Nat) : u.o k = s.o k := by
  rw [State.o, State.oi_eq_of_od h, State.o]

theorem State.sameBut_setO (s : State) (k : Nat) (v : Int) : s.sameBut [k] (s.setO k v) :=
  fun _ hj => State.oi_setO_of_ne s v (List.ne_of_not_mem_cons hj)

end Sys2Proof.Machine
end

section
/-!
PROOFS. The host link (02 R45, 12 R421, R437): it trains where it may, and what ends it leaves no DMA channel running.
-/
namespace Sys2Proof.Machine
set_option Elab.async false

/-! ### Channels that a reset or a lost link stops (12 R437) -/

/-- The channel neither runs nor waits nor stops (12 Table 12-19). -/
abbrev State.chIdle (s : State) (c : Nat) : Prop := ¬ (1 ≤ s.chState c ∧ s.chState c ≤ 3)

/-- The channels' states lie behind the objects of the link. -/
theorem DMA_STATE_ne {c k : Nat} (h : k < Obj.DMA_STATE 0) : Obj.DMA_STATE c ≠ k := by
  simp only [Obj.DMA_STATE] at h ⊢
  omega

/-- What a loss of the link does to one channel. -/
def State.dropCh (s : State) (c : Nat) : State :=
  if s.chState c = 1 ∨ s.chState c = 2 ∨ s.chState c = 3 then
    ((s.dropHold c).setCh c { s.ch c with cur := none, stopReq := 0 }).setO (Obj.DMA_STATE c) 0
  else s

theorem State.dmaDrop_eq (s : State) : s.dmaDrop = ((List.range 16).foldl State.dropCh s).inc Obj.HP_CNT_LINK_DOWN := rfl

theorem State.chState_of_od {s u : State} (h : u.od = s.od) (c : Nat) : u.chState c = s.chState c := State.o_of_od h _

theorem State.chState_setO (s : State) (h : Store.wf Obj.dflt s.od = true) (c i : Nat) (v : Int) :
    (s.setO (Obj.DMA_STATE c) v).chState i = if i = c then v.toNat else s.chState i := by
  have key : Obj.DMA_STATE i = Obj.DMA_STATE c ↔ i = c := by simp only [Obj.DMA_STATE]; omega
  simp only [State.chState, State.o, State.oi_setO s h, key]
  split <;> rfl

/-- A channel that is dropped is idle, and every other is as it was. -/
theorem State.dropCh_chState {s : State} (h : Store.wf Obj.dflt s.od = true) (c : Nat) :
    Store.wf Obj.dflt (s.dropCh c).od = true ∧ (s.dropCh c).chIdle c ∧ ∀ i, i ≠ c → (s.dropCh c).chState i = s.chState i := by
  unfold State.dropCh
  split
  · have same : ((s.dropHold c).setCh c { s.ch c with cur := none, stopReq := 0 }).od = s.od := State.dropHold_frame.od (by decide)
    have wf := same ▸ h
    refine ⟨State.wf_setO _ wf _ _, ?_, fun i hi => ?_⟩
    · rw [State.chIdle, State.chState_setO _ wf, if_pos rfl]
      decide
    · rw [State.chState_setO _ wf, if_neg hi, State.chState_of_od same]
  · exact ⟨h, by rw [State.chIdle]; omega, fun _ _ => rfl⟩

/-- Along a list of channels each of them is left idle, and an idle one stays so. -/
theorem State.foldl_dropCh_idle {l : List Nat} : ∀ {s : State}, Store.wf Obj.dflt s.od = true → ∀ c, c ∈ l ∨ s.chIdle c →
    (l.foldl State.dropCh s).chIdle c := by
  induction l with
  | nil => exact fun _ c hc => hc.resolve_left List.not_mem_nil
  | cons a l ih =>
    intro s h c hc
    obtain ⟨wf, idle, others⟩ := State.dropCh_chState h a
    refine ih wf c ?_
    by_cases same : c = a
    · exact .inr (same ▸ idle)
    · refine (hc.imp_left fun m => (List.mem_cons.mp m).resolve_left same).imp_right fun i => ?_
      rwa [State.chIdle, others c same]

/-- After a loss of the link no channel runs. -/
theorem State.dmaDrop_idle {s : State} (h : Store.wf Obj.dflt s.od = true) {c : Nat} (hc : c < 16) : s.dmaDrop.chIdle c := by
  have idle := State.foldl_dropCh_idle h c (.inl (List.mem_range.mpr hc))
  rw [State.dmaDrop_eq, State.chIdle, State.chState, State.inc, State.o_setO_of_ne _ _ (DMA_STATE_ne (by decide))]
  exact idle

/-- What a dropped channel had in progress is gone; no other channel's is touched. -/
theorem State.dropCh_cur (s : State) (c i : Nat) : ((s.dropCh c).ch i).cur = none ∨ ((s.dropCh c).ch i).cur = (s.ch i).cur := by
  have held : (s.dropHold c).dma = s.dma := State.dropHold_frame.dma (by decide)
  unfold State.dropCh
  split
  · simp only [State.ch, State.setCh, State.setO, held, List.getD_eq_getElem?_getD, List.getElem?_set]
    split
    · next same => subst same; split <;> simp [DmaCh.reset]
    · exact .inr rfl
  · exact .inr rfl

theorem State.dmaDrop_cur (s : State) (i : Nat) : (s.dmaDrop.ch i).cur = none ∨ (s.dmaDrop.ch i).cur = (s.ch i).cur := by
  have along : ∀ (l : List Nat) (s : State),
      ((l.foldl State.dropCh s).ch i).cur = none ∨ ((l.foldl State.dropCh s).ch i).cur = (s.ch i).cur := by
    intro l
    induction l with
    | nil => exact fun _ => .inr rfl
    | cons a l ih =>
      intro s
      rcases ih (s.dropCh a) with gone | stays
      · exact .inl gone
      · rw [List.foldl_cons, stays]
        exact s.dropCh_cur a i
  rw [State.dmaDrop_eq, State.ch, State.inc_keeps.dma (by decide)]
  exact along _ s

/-! ### The link -/

/-- A link that may train comes up, and HP_LINK shows its rate and width; nothing else changes. -/
theorem State.linkTrain_up {s : State} {rate lanes : Nat} (may : s.linkMay = true) (shape : linkShape rate lanes = true)
    (wf : Store.wf Obj.dflt s.od = true) : (s.linkTrain rate lanes).host = { s.host with link := true } ∧
      (s.linkTrain rate lanes).o Obj.HP_LINK = rate * 16 + lanes ∧ s.sameBut [Obj.HP_LINK] (s.linkTrain rate lanes) := by
  have trained : s.linkTrain rate lanes =
      ({ s with host := { s.host with link := true } } : State).setO Obj.HP_LINK ((rate * 16 + lanes : Nat) : Int) :=
    if_pos (by rw [may, shape]; rfl)
  rw [trained]
  exact ⟨rfl, State.o_setO_nat wf _ _, State.sameBut_setO _ _ _⟩

theorem State.linkMay_of {s : State} (enabled : s.host.enabled = true) (perstN : s.host.perstN = true) (active : s.hostActive = true) :
    s.linkMay = true := by
  rw [State.linkMay, enabled, perstN, active]
  rfl

/-- A channel is as idle as before a write of HP_LINK. -/
theorem State.chIdle_setO_link {s : State} {c : Nat} (v : Int) (h : s.chIdle c) : (s.setO Obj.HP_LINK v).chIdle c := by
  rwa [State.chIdle, State.chState, State.o_setO_of_ne _ _ (DMA_STATE_ne (by decide))]

/-- PERST holds the host port in reset: the function reset, the link down and HP_LINK clear. -/
def State.portReset (s : State) : State :=
  { s.functionReset.setO Obj.HP_LINK 0 with host := { s.functionReset.host with perstN := false, link := false } }

theorem State.portReset_od (s : State) : s.portReset.od = (s.setO Obj.HP_LINK 0).od := rfl

theorem State.portReset_host (s : State) : s.portReset.host.perstN = false ∧ s.portReset.host.link = false ∧
    s.portReset.host.session = none ∧ s.portReset.host.latch = none ∧ s.portReset.bar0.latch = none ∧ s.portReset.bar0.held = none ∧
      s.portReset.host.msixEn = false ∧ s.portReset.host.vecPend = 0 := ⟨rfl, rfl, rfl, rfl, rfl, rfl, rfl, rfl⟩

theorem State.portReset_dma (s : State) : s.portReset.dma = s.dma := rfl

theorem exec_pciePerstAssert {s : State} (t : Nat) (perstN : s.host.perstN = true) :
    exec (.pciePerstAssert t) s = .next (s.advance t).dmaDrop.portReset := by
  have here : (s.advance t).host.perstN = true := perstN
  show execPciePerstAssert t s = _
  simp only [execPciePerstAssert, here, Bool.not_true, Bool.false_eq_true, if_false]
  rfl

theorem exec_pcieLinkDown {s : State} (t : Nat) (link : s.host.link = true) : exec (.pcieLinkDown t) s =
    .next ((({ s.advance t with host := { s.host with link := false } } : State).dmaDrop).setO Obj.HP_LINK 0) := by
  have here : (s.advance t).host.link = true := link
  show execPcieLinkDown t s = _
  simp only [execPcieLinkDown, here, Bool.not_true, Bool.false_eq_true, if_false]
  rfl

theorem State.linkTrain_disabled {s : State} (rate lanes : Nat) (h : s.host.enabled = false) : s.linkTrain rate lanes = s := by
  simp [State.linkTrain, State.linkMay, h]

/-- Settles O47: training by what a link that may train becomes, its end by what a drop leaves of the channels. -/
theorem hostLinkComesAndGoes : Obligations.HostLinkComesAndGoes := by
  unfold Obligations.HostLinkComesAndGoes
  intro s rate lanes t sound
  have wf : Store.wf Obj.dflt s.od = true := sound.1.1
  have canonical : s.Canonical := State.canonical_iff_objectsOk.mpr sound.1
  refine ⟨fun enabled active shape => ?release, fun enabled perstN active shape => ?up, fun disabled => ⟨_, rfl, ?off⟩,
    fun perstN => ⟨_, exec_pciePerstAssert t perstN, ?reset⟩, fun link => ⟨_, exec_pcieLinkDown t link, ?lost⟩⟩
  case release =>
    have open_ : ({ s.advance t with host := { s.host with perstN := true } } : State).linkMay = true :=
      State.linkMay_of enabled rfl active
    obtain ⟨host, shown, same⟩ := State.linkTrain_up open_ shape wf
    have k : s.keeps [.od, .time, .host] { s.advance t with host := { s.host with perstN := true } } :=
      State.keeps_mk (State.advance_keeps.mono (by decide))
    exact ⟨_, rfl, host, shown, same, State.linkTrain_frame.last (by decide) k⟩
  case up =>
    have open_ : (s.advance t).linkMay = true := State.linkMay_of enabled perstN active
    obtain ⟨host, shown, same⟩ := State.linkTrain_up open_ shape wf
    exact ⟨_, rfl, host, shown, same, State.linkTrain_frame.last (by decide) (State.advance_keeps.mono (by decide))⟩
  case off =>
    beta_reduce
    rw [State.linkTrain_disabled (s := s.advance t) rate lanes disabled]
    exact State.advance_keeps
  case reset =>
    have od := (s.advance t).dmaDrop.portReset_od
    have shown : (s.advance t).dmaDrop.portReset.o Obj.HP_LINK = 0 :=
      (State.o_of_od od _).trans (State.o_setO_nat (canonical.frame State.advance_keeps).dmaDrop.od _ 0)
    obtain ⟨perstN, link, session, latch, low, held, msix, pending⟩ := (s.advance t).dmaDrop.portReset_host
    refine ⟨perstN, link, session, latch, low, held, msix, pending, shown, fun c _ => ?_, fun c hc => ?_⟩
    · rw [State.ch, State.portReset_dma]
      exact (s.advance t).dmaDrop_cur c
    · rw [State.chState_of_od od]
      exact State.chIdle_setO_link 0 (State.dmaDrop_idle (s := s.advance t) wf hc)
  case lost =>
    have down : ({ s.advance t with host := { s.host with link := false } } : State).Canonical := canonical.upd
    refine ⟨?_, State.o_setO_nat down.dmaDrop.od _ 0, fun c hc => ?_⟩
    · rw [State.setO_keeps.host (by decide), State.dmaDrop_frame.host (by decide)]
    · exact State.chIdle_setO_link 0 (State.dmaDrop_idle down.od hc)

end Sys2Proof.Machine
end

section
/-!
PROOFS. Resets (02 R42, R48): what each of them leaves, and the rows that make one.
-/
namespace Sys2Proof.Machine
set_option Elab.async false

/-! ### Stores behind a reset -/

/-- A key that a filter takes away reads as its default. -/
theorem Store.get_filter_out {α : Type} {d : Nat → α} (m : List (Nat × α)) {p : Nat × α → Bool} {k : Nat}
    (h : ∀ v, p (k, v) = false) : Store.get d (m.filter p) k = d k := by
  induction m with
  | nil => rfl
  | cons c r ih =>
    obtain ⟨k', v⟩ := c
    by_cases same : k' = k
    · subst same
      rw [List.filter_cons_of_neg (by rw [h v]; decide), ih]
    · by_cases hp : p (k', v) = true
      · rw [List.filter_cons_of_pos hp, Store.get, if_neg same, ih]
      · rw [List.filter_cons_of_neg hp, ih]

/-- After a list of writes an object reads as before, or what one of them wrote. -/
theorem State.oi_setOs (l : List (Nat × Int)) {s : State} (h : Store.wf Obj.dflt s.od = true) (j : Nat) :
    (s.setOs l).oi j = s.oi j ∨ ∃ c ∈ l, c.1 = j ∧ (s.setOs l).oi j = c.2 := by
  induction l generalizing s with
  | nil => exact .inl rfl
  | cons c l ih =>
    have unfolded : s.setOs (c :: l) = (s.setO c.1 c.2).setOs l := rfl
    rw [unfolded]
    rcases ih (State.wf_setO s h c.1 c.2) with same | ⟨e, he, key, value⟩
    · rw [same, State.oi_setO s h]
      split
      · next hit => exact .inr ⟨c, List.mem_cons_self, hit.symm, rfl⟩
      · exact .inl rfl
    · exact .inr ⟨e, List.mem_cons_of_mem c he, key, value⟩

/-- With frame memory go the sets in it: an object but the retain epoch reads as before, or its default (12 R414). -/
theorem State.dramLost_oi {s : State} (h : Store.wf Obj.dflt s.od = true) {k : Nat} (hk : k ≠ Obj.MEM_RETAIN_EPOCH) :
    s.dramLost.oi k = s.oi k ∨ s.dramLost.oi k = Obj.dflt k := by
  unfold State.dramLost
  rcases State.oi_setOs ((List.range 4).map fun p => (Obj.CORR_COEF_STATE p, Obj.dflt (Obj.CORR_COEF_STATE p)))
    (s := ({ s with mem := { s.mem with dram := [] } } : State).incWrap Obj.MEM_RETAIN_EPOCH) (State.wf_setO _ h _ _) k with same | ⟨c, hc, key, value⟩
  · rw [same]
    exact .inl (State.oi_setO_of_ne _ _ hk)
  · obtain ⟨p, -, rfl⟩ := List.mem_map.mp hc
    rw [value, ← key]
    exact .inr rfl

theorem State.dramLost_keeps {s : State} : s.keeps [.od, .mem] s.dramLost := by
  refine State.setOs_keeps.last (by decide) (State.setO_keeps.last (by decide) (State.keeps_mk State.keeps_refl))

theorem State.dramLost_dram (s : State) : s.dramLost.mem.dram = [] := by
  rw [State.dramLost, State.setOs_keeps.mem (by decide), State.incWrap_keeps.mem (by decide)]

/-! ### What a reset leaves (02 R48) -/

/-- What a reset begins with: storage finishes its write, or cuts it (13 R468). -/
def State.storageCut (s : State) : State := if s.boot.phase = .off ∨ s.boot.phase = .reset then s else s.nvReset

theorem State.storageCut_keeps {s : State} : s.keeps [.od, .nv, .serial, .free] s.storageCut :=
  State.keeps_ite State.keeps_refl State.nvReset_frame

theorem State.Canonical.storageCut {s : State} (h : s.Canonical) : s.storageCut.Canonical := .ite h h.nvReset

/-- What a reset leaves, but for the loss of frame memory behind it. -/
structure State.ResetLeaves (cause : Nat) (s z : State) : Prop where
  boot : z.boot = { BootSt.reset with phase := .reset, vinAt := s.boot.vinAt, resetN := s.boot.resetN, cause := cause,
                                      sysclk := s.boot.sysclk, trip := s.boot.trip }
  mono : z.time.mono = s.time.mono
  tripped : z.therm.tripped = (cause == 3)
  modes : z.modes = ModeSt.reset
  ops : z.ops = OpsSt.reset
  chain : z.chain = ChainSt.reset
  session : z.host.session = none
  link : z.host.link = false
  fuseOpen : z.sec.fuseOpen = s.sec.fuseOpen
  fuseSealed : z.sec.fuseSealed = s.sec.fuseSealed
  fuseReturn : z.sec.fuseReturn = s.sec.fuseReturn

theorem State.ResetLeaves.keeps {cause : Nat} {s z u : State} (h : s.ResetLeaves cause z) (k : z.keeps [.od, .mem] u) :
    s.ResetLeaves cause u := by
  constructor
  · rw [k.boot (by decide), h.boot]
  · rw [k.time (by decide), h.mono]
  · rw [k.therm (by decide), h.tripped]
  · rw [k.modes (by decide), h.modes]
  · rw [k.ops (by decide), h.ops]
  · rw [k.chain (by decide), h.chain]
  · rw [k.host (by decide), h.session]
  · rw [k.host (by decide), h.link]
  · rw [k.sec (by decide), h.fuseOpen]
  · rw [k.sec (by decide), h.fuseSealed]
  · rw [k.sec (by decide), h.fuseReturn]

/-- What the cut of storage leaves is as it was before. -/
theorem State.ResetLeaves.of_storageCut {cause : Nat} {s z : State} (h : s.storageCut.ResetLeaves cause z) : s.ResetLeaves cause z := by
  have k : s.keeps [.od, .nv, .serial, .free] s.storageCut := State.storageCut_keeps
  obtain ⟨boot, mono, tripped, modes, ops, chain, session, link, fuseOpen, fuseSealed, fuseReturn⟩ := h
  rw [k.boot (by decide)] at boot
  rw [k.time (by decide)] at mono
  rw [k.sec (by decide)] at fuseOpen fuseSealed fuseReturn
  exact ⟨boot, mono, tripped, modes, ops, chain, session, link, fuseOpen, fuseSealed, fuseReturn⟩

/-- A reset ends in a state of that kind, which loses frame memory where the devices lose power. -/
theorem State.resetLogic_inv (s : State) (cause : Nat) : ∃ z : State,
    s.resetLogic cause = (if State.losesDram cause then z.dramLost else z) ∧ s.ResetLeaves cause z ∧
      (cause ≠ 0 → z.od = s.storageCut.od.filter (fun c => keptOverReset c.1) ∧ z.mem.dram = s.mem.dram) := by
  have k : s.keeps [.od, .nv, .serial, .free] s.storageCut := State.storageCut_keeps
  refine ⟨_, rfl, ?_, fun notPowerOn => ?_⟩
  · refine State.ResetLeaves.of_storageCut ?_
    constructor <;> split <;> rfl
  · rw [if_neg notPowerOn, ← k.mem (by decide)]
    exact ⟨if_neg notPowerOn, rfl⟩

theorem State.resetLogic_leaves (s : State) (cause : Nat) : s.ResetLeaves cause (s.resetLogic cause) := by
  obtain ⟨z, same, leaves, -⟩ := s.resetLogic_inv cause
  rw [same]
  split
  · exact leaves.keeps State.dramLost_keeps
  · exact leaves

/-- A reset in which the devices lose power empties frame memory (12 R414). -/
theorem State.resetLogic_dram_lost (s : State) {cause : Nat} (h : State.losesDram cause = true) : (s.resetLogic cause).mem.dram = [] := by
  obtain ⟨z, same, -⟩ := s.resetLogic_inv cause
  rw [same, if_pos h, State.dramLost_dram]

/-- Every other reset leaves its bytes. -/
theorem State.resetLogic_dram_kept (s : State) {cause : Nat} (h : State.losesDram cause = false) :
    (s.resetLogic cause).mem.dram = s.mem.dram := by
  have notPowerOn : cause ≠ 0 := by
    rintro rfl
    cases h
  obtain ⟨z, same, -, kept⟩ := s.resetLogic_inv cause
  rw [same, if_neg (by rw [h]; decide), (kept notPowerOn).2]

/-- But for those kept over it, a reset puts every object at its default. -/
theorem State.resetLogic_oi {s : State} (h : s.Canonical) {cause k : Nat} (hc : cause ≠ 0) (hk : keptOverReset k = false) :
    (s.resetLogic cause).oi k = Obj.dflt k := by
  obtain ⟨z, same, -, kept⟩ := s.resetLogic_inv cause
  obtain ⟨od, -⟩ := kept hc
  have wf : Store.wf Obj.dflt z.od = true := by
    rw [od]
    exact Store.wfFrom_filter _ h.storageCut.od
  have dflt : z.oi k = Obj.dflt k := by
    rw [State.oi, od]
    exact Store.get_filter_out _ fun _ => hk
  have notEpoch : k ≠ Obj.MEM_RETAIN_EPOCH := by
    rintro rfl
    revert hk
    decide
  rw [same]
  split
  · rcases State.dramLost_oi wf notEpoch with before | gone
    · rw [before, dflt]
    · exact gone
  · exact dflt

/-- A reset but power-on has the module reset by its cause. -/
theorem State.resetLogic_resetBy {s : State} (h : s.Canonical) {cause : Nat} (hc : cause ≠ 0) : s.resetBy cause (s.resetLogic cause) := by
  obtain ⟨boot, -, -, modes, ops, chain, session, link, o, c, r⟩ := s.resetLogic_leaves cause
  exact ⟨congrArg BootSt.phase boot, congrArg BootSt.cause boot, fun _ hk => State.resetLogic_oi h hc hk, modes, ops, chain, session,
    link, o, c, r⟩

end Sys2Proof.Machine
end

section
/-!
PROOFS. A command that is an object (11 R388), on a path that reaches the steward at the level it needs: it takes its effect on the
state it finds.
-/
namespace Sys2Proof.Machine
set_option Elab.async false

/-! ### The state a command finds -/

theorem State.found_keeps {s : State} {via : Via} {t : Nat} : s.keeps [.od, .time, .bar0, .chain, .host] (s.found via t) :=
  State.touch_keeps.last (by decide) (State.writeOf_frame.last (by decide) (State.advance_keeps.mono (by decide)))

theorem State.found_time (s : State) (via : Via) (t : Nat) : (s.found via t).time = (s.advance t).time := by
  rw [State.found, State.touch_keeps.time (by decide), State.writeOf_frame.time (by decide)]

/-- The only object that a command finds changed counts the low word lost to it (11 R398). -/
theorem State.found_oi (s : State) (via : Via) (t : Nat) {k : Nat} (h : k ≠ Obj.OD_CNT_BAR0_DROP) : (s.found via t).oi k = s.oi k := by
  have dropped : ((s.advance t).dropHeld).oi k = s.oi k := by
    unfold State.dropHeld
    split
    · exact State.oi_setO_of_ne _ _ h
    · rfl
  rw [State.found, State.oi_eq_of_od (State.touch_keeps.od (by decide))]
  cases via
  case host => exact dropped
  all_goals rfl

theorem State.found_o (s : State) (via : Via) (t : Nat) {k : Nat} (h : k ≠ Obj.OD_CNT_BAR0_DROP) : (s.found via t).o k = s.o k := by
  rw [State.o, s.found_oi via t h, State.o]

theorem State.Canonical.found {s : State} (h : s.Canonical) (via : Via) (t : Nat) : (s.found via t).Canonical :=
  State.Canonical.frame (State.Canonical.writeOf (h.frame State.advance_keeps)) State.touch_keeps

/-! ### Its level -/

/-- The level of a path is a matter of the lifecycle, the sessions and the time. -/
theorem State.level_same {s u : State} (sec : u.sec = s.sec) (chain : u.chain = s.chain) (host : u.host = s.host) (time : u.time = s.time)
    (via : Via) : u.level via = s.level via := by
  have base : u.baseLevel = s.baseLevel := by rw [State.baseLevel, State.lifecycle, sec]; rfl
  have alive : u.unexpired = s.unexpired := by funext a; rw [State.unexpired, time]; rfl
  have session : u.sessionLevel via = s.sessionLevel via := by
    cases via <;> simp only [State.sessionLevel, State.hostSession, State.chainSession, State.liveSessions, alive, chain, host]
  rw [State.level, base, session, State.level]

theorem State.unexpired_now (s : State) : s.unexpired s.time.mono = true := by
  simp [State.unexpired, sessionIdle]

/-- The host-port session that is used keeps its level. -/
theorem State.touch_host_level (s : State) : (s.touch .host).sessionLevel .host = s.sessionLevel .host := by
  cases here : s.hostSession with
  | none => simp only [State.touch, here]
  | some x =>
    obtain ⟨level, slot, used⟩ := x
    have fresh : (s.touch .host).hostSession = some (level, slot, s.time.mono) := by
      simp only [State.touch, here]
      exact Option.filter_some_pos s.unexpired_now
    rw [State.sessionLevel, State.sessionLevel, fresh, here]
    rfl

/-- The chain session that is used keeps its level. -/
theorem State.touch_chain_level (s : State) (id : Nat) : (s.touch (.chain id)).sessionLevel (.chain id) = s.sessionLevel (.chain id) := by
  cases here : s.chainSession id with
  | none => simp only [State.touch, here]
  | some x =>
    have notZero : id ≠ 0 := by
      rintro rfl
      simp [State.chainSession] at here
    have named : x.id = id := by
      rw [State.chainSession, if_neg notZero] at here
      simpa using List.find?_some (p := fun y : Session => y.id == id) here
    have fresh : (s.touch (.chain id)).chainSession id = some { x with lastUse := s.time.mono } := by
      simp only [State.touch, here]
      simp [State.chainSession, State.liveSessions, State.unexpired, sessionIdle, notZero, named]
    rw [State.sessionLevel, State.sessionLevel, fresh, here]
    rfl

/-- The session that a command uses keeps its level. -/
theorem State.touch_level (s : State) (via : Via) : (s.touch via).level via = s.level via := by
  have base : (s.touch via).baseLevel = s.baseLevel := by
    rw [State.baseLevel, State.lifecycle, State.touch_keeps.sec (by decide)]
    rfl
  have session : (s.touch via).sessionLevel via = s.sessionLevel via := by
    cases via with
    | host => exact s.touch_host_level
    | chain id => exact s.touch_chain_level id
    | mailbox => rfl
    | module => rfl
  rw [State.level, base, session, State.level]

theorem State.found_level (s : State) (via : Via) (t : Nat) : (s.found via t).level via = (s.advance t).level via := by
  have k : (s.advance t).keeps [.od, .bar0] ((s.advance t).writeOf via) := State.writeOf_frame
  rw [State.found, State.touch_level]
  exact State.level_same (k.sec (by decide)) (k.chain (by decide)) (k.host (by decide)) (k.time (by decide)) via

/-! ### The command -/

theorem State.onPath_of_reaches {s : State} {via : Via} (h : s.reaches via) (f : State → State) : s.onPath via f = f s := by
  obtain ⟨serving, host⟩ := h
  cases via with
  | host =>
    obtain ⟨link, awake⟩ := host rfl
    simp [State.onPath, serving, link, awake]
  | chain id => simp [State.onPath, serving]
  | mailbox => simp [State.onPath, serving]
  | module => simp [State.onPath, serving]

/-- A command that checks nothing but its level and its argument takes its effect on the state it finds, and puts an expert function
under expert control (11 R391). -/
theorem State.runCommand_done {s : State} {via : Via} {key lvl t : Nat} {ok : Bool} (h : s.admits via lvl t) (good : ok = true)
    (f : State → State) : s.runCommand via key t (fun s => s.cmd via key lvl ok noPre (done f)) = (f (s.found via t)).markExpert key := by
  obtain ⟨reaches, level⟩ := h
  have k : (s.advance t).keeps [.od, .bar0] ((s.advance t).writeOf via) := State.writeOf_frame
  have enough : lvl ≤ ((s.advance t).writeOf via).level via := by
    rw [State.level_same (k.sec (by decide)) (k.chain (by decide)) (k.host (by decide)) (k.time (by decide))]
    exact level
  have path : (s.advance t).reaches via := reaches
  subst good
  rw [State.runCommand, State.onPath_of_reaches path]
  simp only [State.cmd, State.command, if_neg (Nat.not_lt.mpr enough), noPre, ne_eq, not_true, if_false, Bool.not_true,
    Bool.false_eq_true, done]
  rfl

/-- An object that is not an expert object puts nothing under expert control. -/
theorem State.markExpert_basic (s : State) {key : Nat} (h : isExpertKey key = false) : s.markExpert key = s := by
  simp only [State.markExpert, h]

end Sys2Proof.Machine
end

section
/-!
PROOFS. The resets of a running module (02 R42, R48, 16 R532, 17 R544, 19 R589).
-/
namespace Sys2Proof.Machine
set_option Elab.async false

/-- A module past the release of internal reset is reset. -/
theorem State.resetFrom_eq {s : State} (on : s.boot.phase ≠ .off) (released : s.boot.phase ≠ .reset) (cause : Nat) :
    s.resetFrom cause = s.resetLogic cause := if_neg (by rintro (h | h) <;> contradiction)

theorem State.resetBy_of_keeps {c : Nat} {s w u : State} (k : s.keeps [.od, .time, .bar0, .chain, .host] w) (h : w.resetBy c u) :
    s.resetBy c u := by
  unfold State.resetBy at h ⊢
  rwa [k.sec (by decide)] at h

/-- What a reset leaves does not depend on the time at which it comes. -/
theorem State.advance_resetLogic {s : State} (h : s.Canonical) (t : Nat) {cause : Nat} (hc : cause ≠ 0) :
    s.resetBy cause ((s.advance t).resetLogic cause) :=
  State.resetBy_of_keeps (State.advance_keeps.mono (by decide)) (State.resetLogic_resetBy (h.frame State.advance_keeps) hc)

theorem exec_watchdogReset {s : State} (t : Nat) (running : s.dbg.halted = false) (on : s.boot.phase ≠ .off)
    (released : s.boot.phase ≠ .reset) : exec (.watchdogReset t) s = .next ((s.advance t).resetLogic 2) := by
  have here : (s.advance t).dbg.halted = false := running
  show execWatchdogReset t s = _
  simp only [execWatchdogReset, here, Bool.false_eq_true, if_false, State.resetFrom_eq (s := s.advance t) on released]

theorem exec_sysclkLoss {s : State} (t : Nat) (on : s.boot.phase ≠ .off) (released : s.boot.phase ≠ .reset) : exec (.sysclkLoss t) s =
    .next { (s.advance t).resetLogic 2 with boot := { ((s.advance t).resetLogic 2).boot with sysclk := false } } := by
  show execSysclkLoss t s = _
  simp only [execSysclkLoss, State.resetFrom_eq (s := s.advance t) on released]

/-- A software reset that is accepted resets the state it finds (02 R48). -/
theorem exec_softReset {s : State} {via : Via} {v t : Nat} (hv : v < 256) (h : s.admits via 2 t) (on : s.boot.phase ≠ .off)
    (released : s.boot.phase ≠ .reset) : exec (.softReset via v t) s = .next ((s.found via t).resetLogic 5) := by
  have boot : (s.found via t).boot = s.boot := State.found_keeps.boot (by decide)
  show Host.Outcome.next (s.runCommand via Obj.SOFT_RESET t (State.cmdSoftReset via v)) = _
  have run := State.runCommand_done (key := Obj.SOFT_RESET) h (decide_eq_true (show v < 256 ^ 1 from hv)) (fun s => s.resetFrom 5)
  rw [State.markExpert_basic _ (by decide), State.resetFrom_eq (by rwa [boot]) (by rwa [boot])] at run
  exact congrArg _ run

theorem exec_hardwareTrip {s : State} (t : Nat) (on : s.boot.phase ≠ .off) : exec (.hardwareTrip t) s =
    .next { (s.advance t).resetLogic 3 with boot := { ((s.advance t).resetLogic 3).boot with trip := true } } := if_neg on

/-- A hardware trip resets a module that is on, empties frame memory, and holds the reset (16 R532). -/
theorem exec_hardwareTrip_runs {s : State} (h : s.Canonical) (t : Nat) (on : s.boot.phase ≠ .off) :
    Runs (exec (.hardwareTrip t) s) (fun u => s.resetBy 3 u ∧ u.boot.trip = true ∧ u.therm.tripped = true ∧ u.mem.dram = []) :=
  ⟨_, exec_hardwareTrip t on, State.advance_resetLogic h t (by decide), rfl, ((s.advance t).resetLogic_leaves 3).tripped,
    (s.advance t).resetLogic_dram_lost rfl⟩

theorem exec_holdupExhausted {s : State} (t : Nat) (on : s.boot.phase ≠ .off) (open_ : s.pwr.swOpen = true) (low : s.pwr.vin < 34000) :
    exec (.holdupExhausted t) s = .next (s.advance t).exhausted := by
  refine if_neg ?_
  rintro (off | closed | high)
  · exact on off
  · rw [show (s.advance t).pwr.swOpen = true from open_] at closed
    cases closed
  · exact absurd low (Nat.not_lt.mpr high)

/-- Settles O13: each row leads to what a reset leaves, with its cause. -/
theorem resetsOfARunningModule : Obligations.ResetsOfARunningModule := by
  unfold Obligations.ResetsOfARunningModule
  intro s t sound
  have h : s.Canonical := State.canonical_iff_objectsOk.mpr sound.1
  refine ⟨fun held => exec_hardwareTrip_runs h t (by rw [held]; decide), fun on released =>
    ⟨fun running => ⟨_, exec_watchdogReset t running on released, ?watchdog⟩,
      fun via v hv admitted => ⟨_, exec_softReset hv admitted on released, ?soft⟩, ⟨_, exec_sysclkLoss t on released, ?clock⟩,
      exec_hardwareTrip_runs h t on, fun open_ low => ⟨_, exec_holdupExhausted t on open_ low, ?exhausted⟩⟩⟩
  case watchdog => exact ⟨State.advance_resetLogic h t (by decide), (s.advance t).resetLogic_dram_kept rfl⟩
  case soft =>
    refine ⟨State.resetBy_of_keeps State.found_keeps (State.resetLogic_resetBy (h.found via t) (by decide)), ?_⟩
    rw [State.resetLogic_dram_kept _ rfl, State.found_keeps.mem (by decide)]
  case clock => exact ⟨State.advance_resetLogic h t (by decide), rfl, (s.advance t).resetLogic_dram_kept rfl⟩
  case exhausted =>
    have leaves := (s.advance t).resetLogic_leaves 4
    have fuses : s.fusesKeep ((s.advance t).resetLogic 4) := by
      rw [State.fusesKeep, leaves.fuseOpen, leaves.fuseSealed, leaves.fuseReturn]
      exact ⟨id, id, id, id, id, id⟩
    exact ⟨rfl, congrArg BootSt.cause leaves.boot, (s.advance t).resetLogic_dram_lost rfl, leaves.session, fuses⟩

end Sys2Proof.Machine
end

section
/-!
PROOFS. Long operations (02 R69, R70): why the statement about them does not hold of every state.
-/
namespace Sys2Proof.Machine
set_option Elab.async false

/-- Firmware up with a coefficient load of position 0 running, and one queued under the number 0x1900, which no row of the model queues
(every row queues a position, 0 to 3).  The archive key at that number is the object that counts the failed loads of position 0. -/
def loadQueuedBeyondPositions : State :=
  { State.reset with
    boot := { BootSt.reset with phase := .running }
    od := [(Obj.OP_STATE 0, 1)]
    ops := { OpsSt.reset with load := some (0, 0), loadQueue := [0x1900] } }

theorem loadQueuedBeyondPositions_sound : loadQueuedBeyondPositions.sound := by decide +kernel

theorem loadQueuedBeyondPositions_key :
    Obj.CORR_LOAD_KEY 0x1900 = Obj.CORR_CNT_LOAD_FAIL 0 ∧ loadQueuedBeyondPositions.o (Obj.CORR_LOAD_KEY 0x1900) = 0 := by
  decide +kernel

/-- OP_ABORT counts the aborted load before the queued one is taken up, so this one starts with the count as its key. -/
theorem loadQueuedBeyondPositions_abort : ∃ u, exec (.opAbort .module 0 1 0) loadQueuedBeyondPositions = .next u ∧
    u.ops.load = some (0, 1) :=
  ⟨_, rfl, by decide +kernel⟩

/-- Refutes O16: a sound state may queue a load under any number, and the statement then takes the key that the queued load starts with
from the state before the abort.  With 0x1900 queued that key is the count of failed loads, which the abort has just raised to 1. -/
theorem not_longOperationsShowAndAbort : ¬ Obligations.LongOperationsShowAndAbort := by
  unfold Obligations.LongOperationsShowAndAbort
  intro claim
  obtain ⟨aborts, -⟩ := claim loadQueuedBeyondPositions 0 0 loadQueuedBeyondPositions_sound (by decide) (by decide +kernel)
  obtain ⟨u, runs, load⟩ := loadQueuedBeyondPositions_abort
  obtain ⟨v, same, -, -, behind⟩ := aborts .module 1 (by decide) (by decide +kernel)
  obtain rfl : u = v := Host.Outcome.next.inj (runs.symm.trans same)
  obtain ⟨-, queued⟩ := behind 0 0 rfl rfl
  obtain ⟨-, started, -⟩ := queued 0x1900 [] rfl
  obtain ⟨-, before⟩ := loadQueuedBeyondPositions_key
  rw [load, before] at started
  exact absurd started (by decide)

end Sys2Proof.Machine
end

section
/-!
PROOFS. The status objects: MODE, SAFE_REASON, STARTUP_SET and HP_ENABLE, as the operations leave them that start-up and the entry to SAFE
share. Unlike the core objects, they are followed in every dictionary.
-/
namespace Sys2Proof.Machine
set_option Elab.async false

def statusKeys : List Nat := [Obj.MODE, Obj.SAFE_REASON, Obj.STARTUP_SET, Obj.HP_ENABLE]

/-- An array of objects that begins behind the status objects has none of them. -/
theorem array_notStatus {base n : Nat} (h : Obj.HP_ENABLE < base) : base + n ∉ statusKeys := by
  have bound : ∀ k ∈ statusKeys, k ≤ Obj.HP_ENABLE := by decide
  intro hk
  have := bound _ hk
  omega

/-- The status object `k` reads as `x`. -/
structure State.Shows (k : Nat) (x : Int) (s : State) : Prop where
  key : k ∈ statusKeys
  val : s.oi k = x

theorem State.shows_self (s : State) {k : Nat} (h : k ∈ statusKeys := by decide) : s.Shows k (s.oi k) := ⟨h, rfl⟩

namespace State.Shows

variable {s u : State} {k : Nat} {x : Int} {p : Pos} {via : Via}

theorem of_od (h : s.Shows k x) (e : u.od = s.od) : u.Shows k x := ⟨h.key, (State.oi_eq_of_od e k).trans h.val⟩

/-- A record update that leaves the dictionary. -/
theorem upd {pending out doms time boot modes ops chain bar0 nv lanes aligned intake link fpa sp0 pipe coef gen vdet stat ecl shut windows
    enc0 enc1 tg chan trig trigOut out0 out1 taps mem host dma rings ingots serial hk therm pwr sec dbg free}
    (h : s.Shows k x) : State.Shows k x { s with
      pending, out, doms, time, boot, modes, ops, chain, bar0, nv, lanes, aligned, intake, link, fpa, sp0, pipe, coef, gen, vdet, stat,
      ecl, shut, windows, enc0, enc1, tg, chan, trig, trigOut, out0, out1, taps, mem, host, dma, rings, ingots, serial, hk, therm, pwr,
      sec, dbg, free } :=
  ⟨h.key, h.val⟩

/-- An operation whose frame law leaves the dictionary. -/
theorem frame {l : List Part} (h : s.Shows k x) (f : s.keeps l u) (hl : Part.od ∉ l := by decide) : u.Shows k x := h.of_od (f.od hl)

theorem ite {c : Prop} [Decidable c] {a b : State} (ha : a.Shows k x) (hb : b.Shows k x) : (if c then a else b).Shows k x := by
  split
  · exact ha
  · exact hb

theorem foldl_mem {α : Type} {f : State → α → State} {l : List α} (h : s.Shows k x)
    (hf : ∀ s, ∀ a ∈ l, s.Shows k x → (f s a).Shows k x) : (l.foldl f s).Shows k x := by
  induction l generalizing s with
  | nil => exact h
  | cons a l ih => exact ih (hf s a List.mem_cons_self h) fun s b hb => hf s b (List.mem_cons_of_mem a hb)

theorem foldl {α : Type} {f : State → α → State} {l : List α} (h : s.Shows k x)
    (hf : ∀ s a, s.Shows k x → (f s a).Shows k x) : (l.foldl f s).Shows k x := h.foldl_mem fun s a _ => hf s a

/-! ### Objects, the log and the keep array -/

theorem setO_of_ne {j : Nat} {y : Int} (h : s.Shows k x) (hj : k ≠ j) : (s.setO j y).Shows k x :=
  ⟨h.key, (State.oi_setO_of_ne s y hj).trans h.val⟩

theorem setO {j : Nat} {y : Int} (h : s.Shows k x) (hj : j ∉ statusKeys := by decide) : (s.setO j y).Shows k x :=
  h.setO_of_ne (ne_of_mem_of_not_mem h.key hj)

theorem setOs {l : List (Nat × Int)} (h : s.Shows k x) (hl : ∀ c ∈ l, c.1 ∉ statusKeys := by decide) : (s.setOs l).Shows k x :=
  h.foldl_mem fun _ c hc h => h.setO (hl c hc)

/-- A write of a member of an array behind the status objects. -/
theorem setArray {base n : Nat} {y : Int} (h : s.Shows k x) (hb : Obj.HP_ENABLE < base := by decide) :
    (s.setO (base + n) y).Shows k x := h.setO (array_notStatus hb)

/-- A write of the object that a position has of its own. -/
theorem setPos {base : Nat} {y : Int} (h : s.Shows k x) (hb : ∀ q : Pos, base + 1 * q.val ∉ statusKeys := by decide) :
    (s.setO (base + 1 * p.val) y).Shows k x := h.setO (hb p)

/-- A write of the object that each of two ports has of its own. -/
theorem setPort {base m : Nat} {b : Bool} {y : Int} (h : s.Shows k x) (hb : ∀ b : Bool, base + m * b2n b ∉ statusKeys := by decide) :
    (s.setO (base + m * b2n b) y).Shows k x := h.setO (hb b)

theorem inc {j : Nat} (h : s.Shows k x) (hj : j ∉ statusKeys := by decide) : (s.inc j).Shows k x := h.setO hj
theorem incBy {j n : Nat} (h : s.Shows k x) (hj : j ∉ statusKeys := by decide) : (s.incBy j n).Shows k x := h.setO hj

theorem logRoom (h : s.Shows k x) : s.logRoom.Shows k x := .ite h h.upd.inc
theorem logStore {b : List Byte} (h : s.Shows k x) : (s.logStore b).Shows k x := h.upd.setO

theorem logAdd {code pos source detail : Nat} {data : List Byte} (h : s.Shows k x) :
    (s.logAdd code pos source detail data).Shows k x := h.logRoom.logStore.frame State.logLimit_keeps

theorem logRaw {code pos source detail : Nat} {data : List Byte} (h : s.Shows k x) :
    (s.logRaw code pos source detail data).Shows k x := .ite h h.logAdd

theorem log {code pos : Nat} {fs : List (Nat × Nat)} (h : s.Shows k x) : (s.log code pos fs).Shows k x := h.logRaw

theorem logEvt {e : Evt} {pos detail : Nat} {fs : List (Nat × Nat)} (h : s.Shows k x) : (s.logEvt e pos detail fs).Shows k x :=
  h.logRaw

theorem nvFailed {a : Nat} (h : s.Shows k x) : (s.nvFailed a).Shows k x := h.upd.logEvt
theorem setKeep {a : Nat} {bs : List Byte} (h : s.Shows k x) : (s.setKeep a bs).Shows k x := .ite h.upd.nvFailed h.upd

theorem setTwoSlot {a n : Nat} (h : s.Shows k x) : (s.setTwoSlot a n).Shows k x := by
  unfold State.setTwoSlot
  split
  exact h.setKeep

theorem slotsBad {a : Nat} (h : s.Shows k x) : (s.slotsBad a).Shows k x := h.upd.inc.log
theorem updTwoSlot {a n : Nat} (h : s.Shows k x) : (s.updTwoSlot a n).Shows k x := .setTwoSlot (.ite h.slotsBad h)

theorem notifySend {code pos : Nat} {fs : List (Nat × Nat)} (h : s.Shows k x) : (s.notifySend code pos fs).Shows k x :=
  .ite h.inc h.upd

theorem notifyRest {code pos : Nat} {fs : List (Nat × Nat)} (h : s.Shows k x) : (s.notifyRest code pos fs).Shows k x :=
  ((h.frame State.raise_keeps).setO.frame State.notifyWindow_keeps).notifySend

theorem notifyCause {code pos : Nat} {fs : List (Nat × Nat)} (h : s.Shows k x) : (s.notifyCause code pos fs).Shows k x :=
  .ite h h.logAdd.notifyRest

/-! ### Power domains and bias -/

theorem wantOn {d : Nat} (h : s.Shows k x) : (s.wantOn d).Shows k x := .ite h.upd (.ite h h.upd.setArray)
theorem domCut {d : Nat} (h : s.Shows k x) : (s.domCut d).Shows k x := .ite h.upd.setArray.upd h.upd.setArray
theorem wantOff {d : Nat} (h : s.Shows k x) : (s.wantOff d).Shows k x := .ite h (.ite h.upd (.ite h.upd h.domCut))
theorem demand {d : Nat} (h : s.Shows k x) : (s.demand d).Shows k x := .ite h h.wantOn
theorem vdetRamp {code : Nat} (h : s.Shows k x) : (s.vdetRamp p code).Shows k x := h.upd.setPos

/-! ### Loads and the settings -/

theorem setEstimates (h : s.Shows k x) : s.setEstimates.Shows k x := h.foldl fun _ _ h => h.setPos

theorem showLoads (h : s.Shows k x) : s.showLoads.Shows k x := by
  refine setEstimates (h.setOs ?_)
  simp only [List.mem_append, List.mem_map]
  rintro _ ((⟨b, hb, rfl⟩ | ⟨b, hb, rfl⟩) | ⟨g, hg, rfl⟩)
  · exact (by decide : ∀ b ∈ List.range 2, Obj.OUT_LOAD b ∉ statusKeys) b hb
  · exact (by decide : ∀ b ∈ List.range 8, Obj.TAP_LOAD b ∉ statusKeys) b hb
  · exact (by decide : ∀ g ∈ List.range 4, Obj.MSL_GROUP_LOAD g ∉ statusKeys) g hg

theorem layRing {r n : Nat} (h : s.Shows k x) : (s.layRing r n).Shows k x := h.frame State.layRing_frame

theorem fixLoads (h : s.Shows k x) : s.fixLoads.Shows k x :=
  showLoads ((h.foldl fun _ _ h => h.layRing).foldl fun _ _ h => .ite h h.layRing)

theorem setPending {j : Nat} {y : Int} (h : s.Shows k x) : (s.setPending p j y).Shows k x := h.upd.setPos
theorem activate (h : s.Shows k x) : (s.activate p).Shows k x := (setPos (h.frame State.setGen_frame)).setPos

theorem acceptPos (h : s.Shows k x) : (s.acceptPos p).Shows k x := by
  unfold State.acceptPos
  extract_lets _ _ s1
  have h1 : s1.Shows k x := .ite (logEvt h.setPos) h
  exact .ite h1 (.ite h1.activate.setPos (setPos (setPos h1.upd)))

theorem commit {mask : Nat} (h : s.Shows k x) (done : s.commit mask = .ok u) : u.Shows k x := by
  unfold State.commit at done
  extract_lets _ at done
  split at done
  · cases done
  · split at done
    · obtain rfl := Except.ok.inj done
      exact fixLoads (h.foldl fun _ _ h => h.acceptPos)
    · cases done
    · cases done

theorem dropDecision (h : s.Shows k x) : (s.dropDecision p).Shows k x := .ite (setPos h.upd) h

theorem countRefused {mask : Nat} (h : s.Shows k x) : (s.countRefused mask).Shows k x :=
  h.foldl fun _ _ h => dropDecision (setPos h)

end State.Shows
end Sys2Proof.Machine
end

section
/-!
PROOFS. Start-up (02 R43): training, the store scan, and the set that is applied before STANDBY. A write by an object, a set or its
default leaves MODE, which nothing may write (02 R53).
-/
namespace Sys2Proof.Machine
set_option Elab.async false

/-- A key that a filter leaves in reads as before. -/
theorem Store.get_filter_in {α : Type} {d : Nat → α} (m : List (Nat × α)) {p : Nat × α → Bool} {k : Nat}
    (h : ∀ v, p (k, v) = true) : Store.get d (m.filter p) k = Store.get d m k := by
  induction m with
  | nil => rfl
  | cons c r ih =>
    obtain ⟨k', v⟩ := c
    by_cases same : k' = k
    · subst same
      rw [List.filter_cons_of_pos (h v), Store.get, Store.get, if_pos rfl, if_pos rfl]
    · by_cases hp : p (k', v) = true
      · rw [List.filter_cons_of_pos hp, Store.get, Store.get, if_neg same, if_neg same, ih]
      · rw [List.filter_cons_of_neg hp, ih, Store.get, if_neg same]

/-- MODE is read-only. -/
theorem mode_readOnly : ∃ r, Obj.find Obj.MODE = .ok r ∧ r.acc = .ro := ⟨_, rfl, rfl⟩

/-- MODE is no setting. -/
theorem mode_notSetting : isSetting Obj.MODE = false := by decide

namespace State.Shows

variable {s u : State} {k : Nat} {x : Int} {p : Pos} {via : Via}

/-! ### What the write of an object does besides -/

theorem timeState {n : Nat} (h : s.Shows k x) : (s.timeState n).Shows k x := by
  unfold State.timeState
  extract_lets s1 _ s2
  have h1 : s1.Shows k x := .ite h.inc h
  have h2 : s2.Shows k x := .ite h1.upd.setO h1
  exact h2.upd.setO

theorem newTimeSource (h : s.Shows k x) : s.newTimeSource.Shows k x :=
  .ite (timeState h.upd.setO) (timeState h.upd.setO).upd

theorem putEffect {j : Nat} {changed : Bool} (h : s.Shows k x) : (s.putEffect via j changed).Shows k x := by
  unfold State.putEffect
  extract_lets
  refine .ite h.upd ?_
  refine .ite (.ite h.newTimeSource h) ?_
  refine .ite (.ite h h.upd) ?_
  refine .ite (h.frame State.setEnc_frame) ?_
  refine .ite (h.frame State.rearmAll_frame) ?_
  refine .ite (h.frame State.rearmTimer_frame) ?_
  refine .ite h.upd ?_
  refine .ite h.setEstimates ?_
  exact .ite (.ite h.vdetRamp h) (.ite (.ite h h.upd) (.ite (.ite h h.upd) (.ite h.upd (.ite h.logRaw h))))

theorem markExpert {j : Nat} (h : s.Shows k x) : (s.markExpert j).Shows k x := by
  unfold State.markExpert
  split
  exacts [h.setO, h]

/-! ### A written object leaves MODE -/

theorem putScalar {r : ObjRow} {j : Nat} {v : Int} (h : s.Shows k x) (hj : k ≠ j) : (s.putScalar r j v).Shows k x := by
  unfold State.putScalar
  refine .ite (h.foldl fun _ _ h => h.setPending) ?_
  split
  exacts [h.setKeep.setO_of_ne hj, h.setO_of_ne hj]

theorem put {j : Nat} {w : Written} (h : s.Shows Obj.MODE x) (done : s.put via j w = .ok u) : u.Shows Obj.MODE x := by
  unfold State.put at done
  split at done
  · cases done
  · next r found =>
    extract_lets _ s1 at done
    split at done
    · cases done
    · next passes =>
      have other : Obj.MODE ≠ j := by
        rintro rfl
        obtain ⟨row, here, ro⟩ := mode_readOnly
        obtain rfl : row = r := Except.ok.inj (here.symm.trans found)
        simp [firstBad, ro] at passes
      have h1 : s1.Shows Obj.MODE x := h.frame State.touch_keeps
      obtain rfl := Except.ok.inj done
      exact .markExpert (.putEffect (.ite (h1.putScalar other) h1.upd))

theorem putEntry {e : SetEntry} (h : s.Shows Obj.MODE x) (done : s.putEntry e = .ok u) : u.Shows Obj.MODE x := by
  unfold State.putEntry at done
  split at done
  · split at done
    · cases done
    · exact h.put done
  · cases done

theorem putEntries {l : List SetEntry} (h : s.Shows Obj.MODE x) : (State.putEntries l s).1.Shows Obj.MODE x := by
  induction l generalizing s with
  | nil => exact h
  | cons e l ih =>
    unfold State.putEntries
    split
    · exact ih (h.putEntry ‹_›)
    · exact h

/-! ### The start-up set -/

theorem defaultGen (h : s.Shows k x) : (s.defaultGen p).Shows k x := setPos h.upd

theorem defaultObjects (h : s.Shows Obj.MODE x) : s.defaultObjects.Shows Obj.MODE x := by
  unfold State.defaultObjects
  extract_lets _ s1 s2
  have h1 : s1.Shows Obj.MODE x := by
    refine ⟨h.key, Eq.trans ?_ h.val⟩
    exact Store.get_filter_in s.od fun _ => by rw [mode_notSetting]; rfl
  have h2 : s2.Shows Obj.MODE x := h1.foldl fun _ _ h => h.defaultGen
  exact .fixLoads (h2.foldl fun _ _ h => .ite h h.putEffect)

theorem setFailed {n : Nat} (h : s.Shows k x) : (s.setFailed n).Shows k x := h.setO.logEvt

theorem applySet {n : Nat} {l : List SetEntry} (h : s.Shows Obj.MODE x) : (s.applySet n l).1.Shows Obj.MODE x := by
  unfold State.applySet
  extract_lets
  split
  · exact h.putEntries.commit ‹_›
  · exact h.putEntries.defaultObjects.countRefused.setFailed
  · exact h.putEntries.defaultObjects.setFailed

theorem startupSet (h : s.Shows Obj.MODE x) : s.startupSet.Shows Obj.MODE x := by
  unfold State.startupSet
  extract_lets
  refine .ite h ?_
  split
  · exact h.defaultObjects.setFailed
  · exact .ite (h.frame State.xipRecord_frame).applySet.setO (h.frame State.xipRecord_frame).applySet

/-! ### The first STANDBY -/

theorem dmaDrop (h : s.Shows k x) : s.dmaDrop.Shows k x :=
  inc (h.foldl fun _ _ h => .ite (setArray ((h.frame State.dropHold_frame).frame State.setCh_frame)) h)

theorem hostPortStands (h : s.Shows k x) : s.hostPortStands.Shows k x :=
  .ite h.upd.wantOn.wantOn (.wantOff (.wantOff (.ite h.upd.dmaDrop h.upd)))

theorem raiseArb {n : Nat} (h : s.Shows k x) : (s.raiseArb n).Shows k x := .ite h h.updTwoSlot.setO.log

theorem opEndRecord {st result : Nat} (h : s.Shows k x) : (s.opEnd 3 st result).Shows k x :=
  frame (setOs (.ite (h.setOs (by simp only [List.forall_mem_cons]; decide)) h) (by simp only [List.forall_mem_cons]; decide))
    State.raise_keeps

theorem jobFailed {y : RecJob} {code : Nat} (h : s.Shows k x) : (s.jobFailed y code).Shows k x :=
  .ite h.upd.opEndRecord (.ite (h.upd.frame State.emit_keeps) h.upd)

theorem flashStart {dev a len : Nat} (h : s.Shows k x) : (s.flashStart dev a len).Shows k x :=
  upd (h.demand.demand.frame State.selectTaken_frame)

theorem jobProgram (h : s.Shows k x) : s.jobProgram.Shows k x := by
  unfold State.jobProgram
  split
  · extract_lets
    refine .ite h (.ite (h.frame State.askBus_frame) ?_)
    split
    exacts [h.flashStart, h]
  · exact h

theorem jobTake {y : RecJob} {rest : List RecJob} {j : Journal} (h : s.Shows k x) : (s.jobTake y rest j).Shows k x := by
  unfold State.jobTake
  extract_lets
  split
  · exact h.upd.jobFailed
  · exact .ite h.upd.jobFailed (.ite h.upd.jobFailed h.upd.jobProgram)

theorem nvKick (h : s.Shows k x) : s.nvKick.Shows k x := by
  unfold State.nvKick
  refine .ite h ?_
  split
  exacts [h.jobProgram, h.jobTake, h]

end State.Shows

theorem State.mode_of_shows {s : State} {n : Nat} (h : s.Shows Obj.MODE (n : Int)) : s.mode = n := by
  rw [State.mode, State.o, h.val, Int.toNat_natCast]

theorem State.mode_of_shows_self {s u : State} (h : u.Shows Obj.MODE (s.oi Obj.MODE)) : u.mode = s.mode := by
  rw [State.mode, State.o, h.val, State.mode, State.o]

/-! ### The parts of the start-up set -/

/-- What the application of a set may change. -/
def setParts : List Part :=
  [.od, .doms, .time, .chain, .nv, .gen, .vdet, .enc0, .enc1, .tg, .trigOut, .mem, .host, .rings, .serial, .hk, .free]

theorem State.put_keeps {s u : State} {via : Via} {j : Nat} {w : Written} (h : s.put via j w = .ok u) : s.keeps setParts u := by
  unfold State.put at h
  split at h
  · cases h
  · extract_lets _ s1 at h
    split at h
    · cases h
    · obtain rfl := Except.ok.inj h
      have k : s.keeps setParts s1 := State.touch_keeps.last (by decide) State.keeps_refl
      exact State.markExpert_keeps.last (by decide) (State.putEffect_frame.last (by decide)
        (State.keeps_ite (State.putScalar_frame.last (by decide) k) (State.putBlob_frame.last (by decide) k)))

theorem State.putEntries_keeps (l : List SetEntry) (s : State) : s.keeps setParts (State.putEntries l s).1 := by
  induction l generalizing s with
  | nil => exact State.keeps_refl
  | cons e l ih =>
    unfold State.putEntries
    split
    · next s' done =>
      unfold State.putEntry at done
      split at done
      · split at done
        · cases done
        · exact (State.put_keeps done).trans (ih s')
      · cases done
    · exact State.keeps_refl

theorem State.failedSet_keeps {s : State} {n : Nat} : s.keeps setParts (s.defaultObjects.setFailed n) :=
  State.setFailed_frame.last (by decide) (State.defaultObjects_frame.last (by decide) State.keeps_refl)

theorem State.applySet_keeps {s : State} {n : Nat} {l : List SetEntry} : s.keeps setParts (s.applySet n l).1 := by
  have entries : s.keeps setParts (State.putEntries l s).1 := State.putEntries_keeps l s
  unfold State.applySet
  extract_lets
  split
  · exact entries.trans ((State.commit_keeps ‹_›).mono (by decide))
  · exact State.setFailed_frame.last (by decide) (State.countRefused_frame.last (by decide)
      (State.defaultObjects_frame.last (by decide) entries))
  · exact State.failedSet_keeps.last (by decide) entries

theorem State.startupSet_keeps {s : State} : s.keeps setParts s.startupSet := by
  have set : ∀ l, s.keeps setParts ((s.xipRecord (recordKey (s.o Obj.STARTUP_SET))).applySet (s.o Obj.STARTUP_SET) l).1 :=
    fun l => State.applySet_keeps.last (by decide) (State.xipRecord_frame.last (by decide) State.keeps_refl)
  unfold State.startupSet
  extract_lets
  refine State.keeps_ite State.keeps_refl ?_
  split
  · exact State.failedSet_keeps
  · exact State.keeps_ite (State.setO_keeps.last (by decide) (set _)) (set _)

/-! ### The end of start-up -/

/-- The module runs, the host port as the applied set has it (02 R43). -/
def State.started (s : State) : State := ({ s with boot := { s.boot with phase := .running } } : State).hostPortStands

/-- STANDBY under transaction 0, but for a module that a cause has led to SAFE (log 69). -/
def State.arrived (s : State) : State := if s.mode = Mode.safe then s else s.putMode Mode.standby 0 s.time.now

/-- What is left to do is storage's: the roll-back counter, the log and the queue of records. -/
def State.storeWakes (s : State) : State :=
  (if s.ob Obj.SEC_ARB_AUTO && s.boot.tried == 0 then s.raiseArb s.boot.svn else s).flushLog.nvKick

theorem State.firstStandby_eq (s : State) : s.firstStandby = s.started.arrived.storeWakes := rfl

theorem State.started_spec (s : State) :
    s.started.boot.phase = .running ∧ s.started.modes = s.modes ∧ s.started.mode = s.mode := by
  refine ⟨?_, State.hostPortStands_frame.modes (by decide), ?_⟩
  · rw [State.started, State.hostPortStands_frame.boot (by decide)]
  · exact State.mode_of_shows_self (State.Shows.hostPortStands (State.Shows.upd s.shows_self))

theorem State.storeWakes_keeps {s : State} : s.keeps [.emitted, .od, .ops, .nv, .host, .serial, .pwr, .sec, .free] s.storeWakes :=
  State.nvKick_frame.last (by decide) (State.flushLog_keeps.last (by decide)
    (State.keeps_ite (State.raiseArb_frame.last (by decide) State.keeps_refl) State.keeps_refl))

theorem State.storeWakes_mode (s : State) : s.storeWakes.mode = s.mode := by
  have h : s.Shows Obj.MODE (s.oi Obj.MODE) := s.shows_self
  exact State.mode_of_shows_self (State.Shows.nvKick (.frame (.ite h.raiseArb h) State.flushLog_keeps))

theorem State.arrived_boot (s : State) : s.arrived.boot = s.boot :=
  (State.keeps_ite (L := [.od, .modes]) State.keeps_refl State.putMode_frame : s.keeps [.od, .modes] s.arrived).boot (by decide)

theorem State.arrived_standby {s : State} (wf : Store.wf Obj.dflt s.od = true) (h : s.mode ≠ Mode.safe) :
    s.arrived.mode = Mode.standby ∧ s.arrived.modes.txn = 0 := by
  rw [State.arrived, if_neg h]
  refine ⟨?_, ?_⟩
  · exact State.mode_of_shows (State.Shows.showLoads ⟨by decide, State.oi_setO_same wf _ _⟩)
  · rw [State.putMode, State.showLoads_frame.modes (by decide), State.setO_keeps.modes (by decide)]

/-- Once the start-up set is applied, the module runs, in STANDBY under transaction 0, or in SAFE where it was. -/
theorem State.firstStandby_spec {s : State} (h : s.Canonical) :
    s.firstStandby.boot.phase = .running ∧
      (s.mode ≠ Mode.safe → s.firstStandby.mode = Mode.standby ∧ s.firstStandby.modes.txn = 0) ∧
      (s.mode = Mode.safe → s.firstStandby.mode = Mode.safe ∧ s.firstStandby.modes.txn = s.modes.txn) := by
  obtain ⟨running, modes, mode⟩ := s.started_spec
  have wf : s.started.Canonical := h.upd.hostPortStands
  rw [State.firstStandby_eq, State.storeWakes_mode, State.storeWakes_keeps.boot (by decide), State.storeWakes_keeps.modes (by decide),
    State.arrived_boot]
  refine ⟨running, fun other => State.arrived_standby wf.od (by rwa [mode]), fun safe => ?_⟩
  rw [State.arrived, if_pos (by rw [mode, safe]), mode, modes]
  exact ⟨safe, rfl⟩

/-! ### Training and the scan -/

/-- A bit reads as it was set. -/
theorem bitAt_withBit (v k : Nat) (b : Bool) : bitAt (withBit v k b) k = b := by
  have pos : 0 < 2 ^ k := by positivity
  have up : (v + 2 ^ k) / 2 ^ k = v / 2 ^ k + 1 := Nat.add_div_right v pos
  have down : (v - 2 ^ k) / 2 ^ k = v / 2 ^ k - 1 := by simpa using Nat.sub_mul_div v (2 ^ k) 1
  unfold withBit
  by_cases set : bitAt v k = true
  · rw [if_pos set]
    rw [bitAt, beq_iff_eq] at set
    cases b
    · simp only [Bool.false_eq_true, if_false, bitAt, down, beq_eq_false_iff_ne]
      omega
    · simp only [if_true, bitAt, beq_iff_eq, set]
  · rw [if_neg set]
    rw [bitAt, beq_iff_eq] at set
    cases b
    · simp only [Bool.false_eq_true, if_false, bitAt, beq_eq_false_iff_ne]
      exact set
    · simp only [if_true, bitAt, beq_iff_eq, up]
      omega

/-- A bit of an object that is set shows so. -/
theorem State.bitAt_setO {s : State} (wf : Store.wf Obj.dflt s.od = true) (key v k : Nat) (b : Bool) :
    bitAt ((s.setO key ((withBit v k b : Nat) : Int)).o key) k = b := by
  rw [State.o_setO_nat wf, bitAt_withBit]

/-- The training of frame memory at start-up (02 R43, 12 R414). -/
theorem State.bootTraining_spec {s : State} (wf : Store.wf Obj.dflt s.od = true) (first second : Bool) :
    (s.bootTraining first second).mem.trained = (first || second) ∧ (s.bootTraining first second).mem.selfRefresh = (first || second) ∧
      bitAt ((s.bootTraining first second).o Obj.BOOT_STATUS) 12 = (first || second) ∧
      s.sameBut [Obj.BOOT_STATUS, Obj.MEM_CNT_TRAIN_FAIL] (s.bootTraining first second) := by
  refine ⟨?_, ?_, State.bitAt_setO (State.wf_setO s wf _ _) _ _ _ _, fun k hk => ?_⟩
  · exact congrArg MemSt.trained (State.setO_keeps.mem (by decide))
  · exact congrArg MemSt.selfRefresh (State.setO_keeps.mem (by decide))
  · simp only [List.mem_cons, List.not_mem_nil, or_false, not_or] at hk
    exact (State.oi_setO_of_ne _ _ hk.1).trans (State.oi_setO_of_ne s _ hk.2)

theorem State.judgeKey_keeps {s z : State} {r0 r1 : List RecAt} {acc : State × List Repair} {key : Nat}
    (h : z.keeps [.od, .nv, .free] acc.1) : z.keeps [.od, .nv, .free] (s.judgeKey r0 r1 acc key).1 := by
  unfold State.judgeKey
  split
  · exact h
  · extract_lets t
    have k : z.keeps [.od, .nv, .free] t :=
      State.keeps_ite (State.log_keeps.last (by decide) (State.inc_keeps.last (by decide) h)) h
    split
    exacts [k, k]

theorem State.judgeKeys_keeps {s z : State} {r0 r1 : List RecAt} (l : List Nat) {acc : State × List Repair}
    (h : z.keeps [.od, .nv, .free] acc.1) :
    z.keeps [.od, .nv, .free] (l.foldl (fun acc k => s.judgeKey r0 r1 acc k) acc).1 := by
  induction l generalizing acc with
  | nil => exact h
  | cons key l ih => exact ih (State.judgeKey_keeps h)

theorem State.scanStore_keeps {s : State} {j : Journal} {rs : List Repair} : s.keeps [.od, .nv, .free] (s.scanStore j rs) := by
  unfold State.scanStore
  extract_lets
  exact State.setJournal_frame.last (by decide) (State.judgeKeys_keeps _
    (State.setO_keeps.last (by decide) (State.incBy_keeps.last (by decide) (State.keeps_mk State.keeps_refl))))

theorem State.storeScan_keeps {s : State} : s.keeps [.od, .boot, .nv, .serial, .free] s.storeScan := by
  unfold State.storeScan
  extract_lets s1 s2
  have k1 : s.keeps [.od, .boot, .nv, .serial, .free] s1 := State.setO_keeps.last (by decide) State.keeps_refl
  have k2 : s.keeps [.od, .boot, .nv, .serial, .free] s2 := by
    unfold s2
    split
    · exact State.xipScan_frame.last (by decide) (State.xipScan_frame.last (by decide) (State.scanStore_keeps.last (by decide) k1))
    · exact State.showStore_frame.last (by decide) k1
  exact State.keeps_mk k2

/-- RECORD_REPAIR of BOOT_STATUS says whether repairs are listed (02 R47). -/
def State.repairsShown (s : State) : State :=
  s.setO Obj.BOOT_STATUS ((withBit (s.o Obj.BOOT_STATUS) 13 (!s.nv.repairs.isEmpty) : Nat) : Int)

theorem State.repairsShown_bit {s : State} (wf : Store.wf Obj.dflt s.od = true) :
    bitAt (s.repairsShown.o Obj.BOOT_STATUS) 13 = !s.repairsShown.nv.repairs.isEmpty := by
  rw [State.repairsShown, State.bitAt_setO wf, State.setO_keeps.nv (by decide)]

theorem State.repairsShown_keeps {s : State} : s.keeps [.od] s.repairsShown := State.setO_keeps

theorem State.storeScan_scanned (s : State) : s.storeScan.boot.scanned = true := rfl

/-! ### The rows -/

section
variable {s : State} (t : Nat) (firmware : s.boot.phase = .firmware)
include firmware

theorem exec_dramTrainingComplete (first second : Bool) :
    exec (.dramTrainingComplete first second t) s = .next ((s.advance t).bootTraining first second) := by
  show execDramTrainingComplete first second t s = _
  exact if_pos firmware

theorem exec_storeRecoveryScan :
    exec (.storeRecoveryScan t) s = .next (s.advance t).storeScan.repairsShown := by
  show execStoreRecoveryScan t s = _
  exact if_neg (not_not_intro firmware)

theorem exec_startupSetApply (scanned : s.boot.scanned = true) :
    exec (.startupSetApply t) s = .next ((s.advance t).startupSet.fixLoads.firstStandby) := by
  show execStartupSetApply t s = _
  refine if_neg ?_
  rintro (other | unscanned)
  · exact other firmware
  · exact absurd (scanned.symm.trans unscanned) (by decide)

end

/-- Settles O12: training and the scan by what they write, the start-up set by the parts and the objects that it may change, and the
first STANDBY behind it. -/
theorem startUpToStandby : Obligations.StartUpToStandby := by
  unfold Obligations.StartUpToStandby
  intro s t sound firmware
  have canonical : (s.advance t).Canonical := (State.canonical_iff_objectsOk.mpr sound.1).frame State.advance_keeps
  refine ⟨fun first second => ?_, ?_, fun scanned => ?_⟩
  · obtain ⟨trained, refresh, bit, objects⟩ := State.bootTraining_spec canonical.od first second
    exact ⟨_, exec_dramTrainingComplete t firmware first second, trained, refresh, bit,
      State.bootTraining_frame.boot (by decide), objects⟩
  · refine ⟨_, exec_storeRecoveryScan t firmware, ?_, State.repairsShown_bit canonical.storeScan.od, ?_⟩
    · rw [State.repairsShown_keeps.boot (by decide), State.storeScan_scanned]
    · exact State.repairsShown_keeps.last rfl (State.storeScan_keeps.last rfl (State.advance_keeps.mono rfl))
  · have parts : (s.advance t).keeps setParts (s.advance t).startupSet.fixLoads :=
      State.fixLoads_frame.last (by decide) State.startupSet_keeps
    have mode : (s.advance t).startupSet.fixLoads.mode = s.mode :=
      State.mode_of_shows_self (State.Shows.fixLoads (State.Shows.startupSet (s.advance t).shows_self))
    obtain ⟨running, standby, safe⟩ := State.firstStandby_spec canonical.startupSet.fixLoads
    rw [mode, parts.modes (by decide)] at safe
    rw [mode] at standby
    exact ⟨_, exec_startupSetApply t firmware scanned, running, standby, safe⟩

end Sys2Proof.Machine
end

section
/-!
PROOFS. The mode state (02 R53 to R64): which of its fields the operations of a mode change write, and what MODE reads behind them.
-/
namespace Sys2Proof.Machine
set_option Elab.async false

/-! ### Records and transitions -/

theorem State.recordTxn_modes (s : State) (r : TxnRec) : ∃ h, (s.recordTxn r).modes = { s.modes with hist := h } := by
  have latest : ∀ u : State, (u.setLatest r).modes = u.modes := fun u => State.setLatest_frame.modes (by decide)
  unfold State.recordTxn
  extract_lets
  split
  · exact ⟨s.modes.hist, latest s⟩
  · split
    · exact ⟨_, rfl⟩
    · exact ⟨_, latest _⟩

theorem State.endedWell_modes (s : State) (r : Running) : ∃ h, (s.endedWell r).modes = { s.modes with hist := h } := by
  rw [State.endedWell, State.report_frame.modes (by decide)]
  exact s.recordTxn_modes _

theorem State.endedWell_foldl_modes (l : List Running) (s : State) :
    ∃ h, (l.foldl State.endedWell s).modes = { s.modes with hist := h } := by
  induction l generalizing s with
  | nil => exact ⟨s.modes.hist, rfl⟩
  | cons r l ih =>
    obtain ⟨h, first⟩ := s.endedWell_modes r
    obtain ⟨h', rest⟩ := ih (s.endedWell r)
    exact ⟨h', by rw [List.foldl_cons, rest, first]⟩

theorem State.completed_modes (s : State) (r : Running) :
    ∃ h, (s.completed r).modes = { s.modes with running := none, joined := [], hist := h } := by
  obtain ⟨h, ended⟩ := ({ s with modes := { s.modes with running := none, joined := [] } } : State).endedWell_modes r
  obtain ⟨h', rest⟩ := State.endedWell_foldl_modes s.modes.joined
    (({ s with modes := { s.modes with running := none, joined := [] } } : State).endedWell r)
  exact ⟨h', by rw [State.completed, rest, ended]⟩

theorem State.supersede_modes (s : State) (reason : Nat) :
    ∃ j h, (s.supersede reason).modes = { s.modes with running := none, joined := j, hist := h } := by
  unfold State.supersede
  split
  · next here => exact ⟨s.modes.joined, s.modes.hist, by rw [← here]⟩
  · extract_lets also _ s1
    split
    · obtain ⟨h, ended⟩ := State.endedWell_foldl_modes _ s1
      exact ⟨[], h, ended⟩
    · obtain ⟨h, recorded⟩ := s1.recordTxn_modes _
      exact ⟨[], h, (State.report_frame.modes (by decide)).trans recorded⟩

theorem State.cancelArmed_modes (s : State) (reason : Nat) :
    ∃ h, (s.cancelArmed reason).modes = { s.modes with armed := none, hist := h } := by
  unfold State.cancelArmed
  split
  · next here => exact ⟨s.modes.hist, by rw [← here]⟩
  · extract_lets r _ s1
    obtain ⟨h, recorded⟩ := s1.recordTxn_modes r
    exact ⟨h, (State.report_frame.modes (by decide)).trans recorded⟩

theorem State.putMode_modes (s : State) (target txn since : Nat) : (s.putMode target txn since).modes =
    { s.modes with prevMode := s.mode, prevTxn := s.modes.txn, txn := txn, since := since } := by
  rw [State.putMode, State.showLoads_frame.modes (by decide), State.setO_keeps.modes (by decide)]

theorem State.runSafe_modes (s : State) (frm txn act source lo : Nat) :
    ∃ y j, (s.runSafe frm txn act source lo).modes = { s.modes with running := some y, joined := j } ∧ y.target = 5 := by
  unfold State.runSafe
  split
  · next r here =>
    split
    · next safe =>
      exact ⟨r, _, by rw [← here], safe⟩
    · exact ⟨_, s.modes.joined, rfl, rfl⟩
  · exact ⟨_, s.modes.joined, rfl, rfl⟩

/-! ### The entry to SAFE (02 R62, R64) -/

/-- SAFE is entered with nothing armed, under its transaction, and its transition runs. -/
theorem State.toSafe_modes (s : State) (txn act source hi lo : Nat) :
    (s.toSafe txn act source hi lo).modes.armed = none ∧ (s.toSafe txn act source hi lo).modes.txn = txn ∧
      ∃ y, (s.toSafe txn act source hi lo).modes.running = some y ∧ y.target = 5 := by
  unfold State.toSafe
  extract_lets s1 s2 frm s4 s5 s6 _ r
  have cleared : s2.modes.armed = none := by
    obtain ⟨_, cancelled⟩ := s.debugCap.cancelArmed_modes 8
    obtain ⟨_, _, superseded⟩ := s1.supersede_modes lo
    have armed1 : s1.modes.armed = none := congrArg ModeSt.armed cancelled
    unfold s2
    split
    · split
      · exact armed1
      · rw [superseded, armed1]
    · exact armed1
  have left4 : s4.modes = s2.modes := by
    unfold s4
    rw [State.discardMode_frame.modes (by decide), State.dropAllFrames_frame.modes (by decide), State.dmaSafe_frame.modes (by decide),
      State.leaveImaging_frame.modes (by decide)]
  have put5 : s5.modes.armed = none ∧ s5.modes.txn = txn := by
    unfold s5
    rw [State.setO_keeps.modes (by decide), State.putMode_modes, left4]
    exact ⟨cleared, rfl⟩
  obtain ⟨y, _, (run6 : s6.modes = _), target⟩ := s5.runSafe_modes frm txn act source lo
  obtain ⟨_, recorded⟩ := s6.recordTxn_modes r
  clear_value r s6 s5
  rw [State.notifyCause_frame.modes (by decide), State.modeProceed_frame.modes (by decide), recorded, run6]
  exact ⟨put5.1, put5.2, y, rfl, target⟩

end Sys2Proof.Machine
end

section
/-!
PROOFS. Transitions on their way (02 R54, R62, R64): SAFE_REASON behind the entry to SAFE, and the mode behind the entries to STANDBY and to
the modes that begin from it.
-/
namespace Sys2Proof.Machine
set_option Elab.async false

namespace State.Shows

variable {s u : State} {k : Nat} {x : Int} {p : Pos}

/-! ### The entry to SAFE on its way -/

theorem setLatest {r : TxnRec} (h : s.Shows k x) : (s.setLatest r).Shows k x := h.setOs (by
  simp only [List.forall_mem_cons]
  decide)

theorem recordTxn {r : TxnRec} (h : s.Shows k x) : (s.recordTxn r).Shows k x := .ite h.setLatest (.ite h.upd h.upd.setLatest)

theorem railCut {d : Nat} (h : s.Shows k x) : (s.railCut d).Shows k x := .ite h.domCut.upd (.ite h.upd h.upd)
theorem railOff (h : s.Shows k x) : (s.railOff p).Shows k x := .ite h.railCut.upd h.railCut.railCut
theorem vdetDown (h : s.Shows k x) : s.vdetDown.Shows k x := h.foldl fun _ _ h => .ite h.vdetRamp h
theorem railsDown (h : s.Shows k x) : s.railsDown.Shows k x := h.foldl fun _ _ h => .ite h.railOff h
theorem heldDown (h : s.Shows k x) : s.heldDown.Shows k x := h.foldl fun _ _ h => .ite h.railOff h
theorem flashRelax (h : s.Shows k x) : s.flashRelax.Shows k x := .ite h (.wantOff (.ite h.demand h.wantOff))

theorem cutSlot {r j : Nat} (h : s.Shows k x) : (s.cutSlot r j).Shows k x := by
  unfold State.cutSlot
  refine h.foldl fun s b h => ?_
  split
  exacts [.ite (setPort (h.frame State.setOutPort_frame)) h, h]

/-- The counter of a discard is that of the ring's port, whose number the ring itself gives. -/
theorem discardSlot {why : Discard} {r j : Nat} (h : s.Shows k x) (low : k ≤ Obj.STARTUP_SET) : (s.discardSlot why r j).Shows k x := by
  have counter : ∀ b, k ≠ why.counter b := by
    intro b
    cases why <;> simp only [Discard.counter, Obj.OUT_CNT_LEASE_DISCARD, Obj.OUT_CNT_LINKDOWN, Obj.OUT_CNT_MODE_DISCARD,
      Obj.STARTUP_SET] at low ⊢ <;> omega
  unfold State.discardSlot
  extract_lets _ s1
  have h1 : s1.Shows k x := .ite (h.frame State.dmaDiscard_frame) h
  exact .ite h (.frame (.ite h1.cutSlot (h1.setO_of_ne (counter _))) State.release_frame)

theorem discardIf {why : Discard} {f : RingSlot → Bool} (h : s.Shows k x) (low : k ≤ Obj.STARTUP_SET) : (s.discardIf why f).Shows k x :=
  h.foldl fun _ _ h => .ite (h.discardSlot low) h

theorem stopHold {b : Bool} (h : s.Shows k x) : (s.stopHold b).Shows k x := by
  unfold State.stopHold
  extract_lets
  split
  exacts [h, h.setPort.frame State.setOutPort_frame]

theorem portOff {b : Bool} (h : s.Shows k x) : (s.portOff b).Shows k x := h.stopHold.frame State.setOutPort_frame

theorem domainsOff {but : List Nat} (h : s.Shows k x) (low : k ≤ Obj.STARTUP_SET) : (s.domainsOff but).Shows k x :=
  .flashRelax (.upd ((h.discardIf low).portOff.portOff.foldl fun _ _ h => .ite h h.wantOff))

theorem modeProceed (h : s.Shows k x) (low : k ≤ Obj.STARTUP_SET) : s.modeProceed.Shows k x := by
  unfold State.modeProceed
  extract_lets _ s1 _ s2
  have h1 : s1.Shows k x := h.heldDown.vdetDown.railsDown
  have h2 : s2.Shows k x := h.heldDown.vdetDown.railsDown
  split
  · refine .ite (.ite h.heldDown (.ite (h1.domainsOff low) h1)) ?_
    exact .ite (.ite h.heldDown.vdetDown (.ite (h2.domainsOff low) h2)) h.heldDown
  · exact h.heldDown

theorem runSafe {frm txn act source lo : Nat} (h : s.Shows k x) : (s.runSafe frm txn act source lo).Shows k x := by
  unfold State.runSafe
  split
  exacts [.ite h.upd h.upd, h.upd]

end State.Shows

/-- The reason that SAFE is entered with from another mode shows in SAFE_REASON. -/
theorem State.toSafe_reason {s : State} (h : Store.wf Obj.dflt s.od = true) (txn act source hi lo : Nat) (other : s.mode ≠ 5) :
    (s.toSafe txn act source hi lo).o Obj.SAFE_REASON = hi * 256 + lo := by
  unfold State.toSafe
  extract_lets s1 s2 frm s4 s5 s6 _ r
  have core1 : s1.Core s.oi := .cancelArmed (.upd (State.core_self h))
  have core2 : s2.Core s.oi := by
    unfold s2
    split
    exacts [.ite core1 core1.supersede, core1]
  have frm_ne : frm ≠ 5 := by
    unfold frm
    rwa [core2.mode_same rfl]
  have core4 : (s4.putMode 5 txn act).Core _ := core2.leaveImaging.dmaSafe.dropAllFrames.discardMode.putMode
  have shown : s5.Shows Obj.SAFE_REASON ((hi * 256 + lo : Nat) : Int) := by
    refine ⟨by decide, ?_⟩
    unfold s5
    rw [State.oi_setO_same core4.od, if_neg frm_ne]
  have final := ((shown.runSafe (frm := frm) (txn := txn) (act := act) (source := source) (lo := lo)).recordTxn (r := r)).modeProceed
    (by decide)
  rw [State.o, final.notifyCause.val, Int.toNat_natCast]

end Sys2Proof.Machine
end

section
/-!
PROOFS. Transitions that begin, run and end (02 R54, R62, R64).
-/
namespace Sys2Proof.Machine
set_option Elab.async false

/-! ### MODE behind an entry -/

namespace State.Core

variable {s u : State} {v : Nat → Int} {p : Pos}

theorem run {frm target txn act source bound reason : Nat} {orphan : Bool} (h : s.Core v) :
    (s.run frm target txn act source bound reason orphan).Core v := h.upd

theorem takeModeSettings (h : s.Core v) : s.takeModeSettings.Core v := h.upd

theorem dmaStandby (h : s.Core v) : s.dmaStandby.Core v := by
  unfold State.dmaStandby
  refine h.foldl fun s c h => ?_
  split
  · exact setArray (h.frame State.setCh_frame)
  · exact .ite (h.setArray.frame State.raise_keeps) h

theorem toStandby {txn act source : Nat} (h : s.Core v) :
    (s.toStandby txn act source false).Core (Function.update v Obj.MODE ((0 : Nat) : Int)) := by
  unfold State.toStandby
  extract_lets _ _ _ s1
  have h1 : s1.Core (Function.update v Obj.MODE ((0 : Nat) : Int)) :=
    h.supersede.leaveImaging.putMode.run.dmaStandby.frame State.flushLog_keeps
  rw [if_neg Bool.false_ne_true]
  exact h1.modeProceed

theorem entryPos (h : s.Core v) : (s.entryPos p).Core v := by
  unfold State.entryPos
  extract_lets s1 _ s2 s3 _ _ _ _ _ s6
  have h1 : s1.Core v := (h.frame State.emptyStamps_frame).frame State.clearRowValid_frame
  have h2 : s2.Core v := h1.upd
  have h3 : s3.Core v := .ite h2.setPhase h2
  have h6 : s6.Core v := h3.upd
  refine h6.setOs ?_
  have rows : ∀ q : Pos, Obj.CORR_SUBT_START q.val ∉ coreKeys ∧ Obj.INT_VBLANK_MIN q.val ∉ coreKeys ∧
      Obj.WARM_RESULT q.val ∉ coreKeys ∧ Obj.FPA_ID q.val ∉ coreKeys ∧ Obj.PREP_STATE q.val ∉ coreKeys := by decide
  obtain ⟨subt, blank, warm, id, prep⟩ := rows p
  simp only [List.forall_mem_cons]
  exact ⟨subt, blank, warm, id, prep, by simp⟩

end State.Core

/-! ### The mode state behind an entry -/

theorem State.run_modes (s : State) (frm target txn act source bound reason : Nat) (orphan : Bool) :
    ∃ x, (s.run frm target txn act source bound reason orphan).modes = { s.modes with running := some x } ∧
      x.target = target ∧ x.txn = txn := ⟨_, rfl, rfl, rfl⟩

theorem State.toStandby_modes {s : State} (wf : Store.wf Obj.dflt s.od = true) (txn act source : Nat) :
    (s.toStandby txn act source false).modes.txn = txn ∧ (s.toStandby txn act source false).modes.armed = s.modes.armed ∧
      (s.toStandby txn act source false).modes.prevMode = s.mode := by
  have core1 : ((s.supersede 0).leaveImaging 0).Core s.oi := (State.core_self wf).supersede.leaveImaging
  obtain ⟨j, h, superseded⟩ := s.supersede_modes 0
  unfold State.toStandby
  extract_lets frm s1 s2 s3
  have put : s1.modes.txn = txn ∧ s1.modes.armed = s.modes.armed ∧ s1.modes.prevMode = s.mode := by
    unfold s1
    rw [State.putMode_modes, State.leaveImaging_frame.modes (by decide), superseded, core1.mode_same rfl]
    exact ⟨rfl, rfl, rfl⟩
  obtain ⟨x, (ran : s2.modes = _), -⟩ := s1.run_modes frm 0 txn act source 50000000 0 false
  have same : s3.modes = s2.modes := by
    unfold s3
    rw [State.flushLog_keeps.modes (by decide), State.dmaStandby_frame.modes (by decide)]
  clear_value s3 s2 s1
  rw [if_neg Bool.false_ne_true, State.modeProceed_frame.modes (by decide), same, ran]
  exact put

/-- The entry of a mode that a module enters from STANDBY, up to the training of frame memory. -/
def State.entered (s : State) (target txn act source : Nat) : State :=
  ((((s.supersede 0).abortOps target).putMode target txn act).takeModeSettings).run 0 target txn act source 100000000 0 false

theorem State.entryPos_trained (s : State) (p : Pos) : (s.entryPos p).mem.trained = s.mem.trained := by
  unfold State.entryPos
  extract_lets s1 _ s2 s3 _ _ _ _ _ s6
  have h3 : s3.mem = s2.mem := by
    unfold s3
    split
    · exact State.setPhase_frame.mem (by decide)
    · rfl
  have h6 : s6.mem = s2.mem := h3
  rw [State.setOs_keeps.mem (by decide), h6]
  rfl

theorem State.entryPos_foldl_trained (l : List Pos) (s : State) : (l.foldl State.entryPos s).mem.trained = s.mem.trained := by
  induction l generalizing s with
  | nil => rfl
  | cons p l ih => rw [List.foldl_cons, ih, State.entryPos_trained]

theorem State.takeModeSettings_modes (s : State) :
    ∃ l, s.takeModeSettings.modes = { s.modes with inForce := l } := ⟨_, rfl⟩

theorem State.entered_modes (s : State) (target txn act source : Nat) :
    (s.entered target txn act source).modes.txn = txn ∧ (s.entered target txn act source).modes.armed = s.modes.armed ∧
      ∃ x, (s.entered target txn act source).modes.running = some x ∧ x.target = target ∧ x.txn = txn := by
  obtain ⟨j, h, superseded⟩ := s.supersede_modes 0
  obtain ⟨l, settings⟩ := (((s.supersede 0).abortOps target).putMode target txn act).takeModeSettings_modes
  obtain ⟨x, ran, run⟩ := ((((s.supersede 0).abortOps target).putMode target txn act).takeModeSettings).run_modes 0 target txn act source
    100000000 0 false
  rw [State.entered, ran, settings, State.putMode_modes, State.abortOps_frame.modes (by decide), superseded]
  exact ⟨rfl, rfl, x, rfl, run⟩

theorem State.entered_keeps {s : State} {target txn act source : Nat} :
    s.keeps [.emitted, .od, .ops, .modes, .nv, .coef, .chain, .host, .serial] (s.entered target txn act source) :=
  State.run_frame.last (by decide) (State.takeModeSettings_frame.last (by decide) (State.putMode_frame.last (by decide)
    (State.abortOps_frame.last (by decide) (State.supersede_frame.last (by decide) State.keeps_refl))))

theorem State.Core.entered {s : State} {v : Nat → Int} {target txn act source : Nat} (h : s.Core v) :
    (s.entered target txn act source).Core (Function.update v Obj.MODE ((target : Nat) : Int)) :=
  h.supersede.abortOps.putMode.takeModeSettings.run

/-- With frame memory trained, the mode is entered and its transition runs. -/
theorem State.enter_spec {s : State} {v : Nat → Int} (h : s.Core v) (trained : s.mem.trained = true) (target txn act source : Nat) :
    (s.enter target txn act source).Core (Function.update v Obj.MODE ((target : Nat) : Int)) ∧
      (s.enter target txn act source).modes = (s.entered target txn act source).modes := by
  have core2 : (s.entered target txn act source).Core (Function.update v Obj.MODE ((target : Nat) : Int)) := h.entered
  have trained2 : (s.entered target txn act source).mem.trained = true := by rw [State.entered_keeps.mem (by decide), trained]
  have same : s.enter target txn act source = s.enter target txn act source := rfl
  conv at same => lhs; unfold State.enter
  extract_lets _ s2 s3 _ s4 s5 at same
  have s2_eq : s2 = s.entered target txn act source := by
    unfold s2 State.entered
    rfl
  have core3 : s3.Core (Function.update v Obj.MODE ((target : Nat) : Int)) := by
    unfold s3
    rw [s2_eq]
    exact .showLoads (core2.foldl fun _ _ h => h.entryPos)
  have core4 : s4.Core (Function.update v Obj.MODE ((target : Nat) : Int)) := core3.upd
  have trained4 : s4.mem.trained = true := by
    have keeps4 : s3.keeps [.pwr] s4 := State.keeps_mk State.keeps_refl
    have mem3 : s3.mem = (allPos.foldl State.entryPos s2).mem := State.showLoads_frame.mem (by decide)
    rw [keeps4.mem (by decide), mem3, State.entryPos_foldl_trained, s2_eq, trained2]
  have keeps2 : s2.keeps [.od, .intake, .fpa, .pipe, .coef, .vdet, .ecl, .trig, .mem, .pwr] s4 :=
    State.keeps_mk (State.showLoads_frame.last (by decide)
      (State.keeps_foldl (fun _ _ => State.entryPos_frame.last (by decide) State.keeps_refl) State.keeps_refl))
  have core5 : s5.Core (Function.update v Obj.MODE ((target : Nat) : Int)) := core4.foldl fun _ _ h => .ite h.wantOn h
  have keeps5 : s4.keeps [.od, .pwr, .shut] (s5.enabledPos.foldl State.openAtEntry s5) :=
    State.keeps_foldl (fun _ _ => State.openAtEntry_frame.last (by decide) State.keeps_refl)
      (State.keeps_foldl (fun _ _ => State.keeps_ite (State.wantOn_frame.last (by decide) State.keeps_refl) State.keeps_refl)
        State.keeps_refl)
  rw [if_neg (by rw [trained4]; decide)] at same
  rw [← same]
  refine ⟨core5.foldl fun _ _ h => h.frame State.openAtEntry_frame, ?_⟩
  rw [keeps5.modes (by decide), keeps2.modes (by decide), s2_eq]

/-- A change between the modes that image completes at once where no pulse of the shutter is on its way and no transition ran (02 R54). -/
theorem State.switchMode_modes {s : State} (wf : Store.wf Obj.dflt s.od = true) {a : Armed} {frm : Nat} (run : a.target = 2)
    (prepare : frm = 1) (free : s.modes.running = none) :
    (s.switchMode a frm).modes.txn = a.txn ∧ (s.switchMode a frm).modes.running = none ∧
      (s.switchMode a frm).modes.armed = s.modes.armed ∧ (s.switchMode a frm).modes.prevMode = s.mode := by
  have core0 : (s.dropWindows.abortOps a.target).Core s.oi := ((State.core_self wf).frame State.dropWindows_frame).abortOps
  unfold State.switchMode
  extract_lets s0 other s1 s2 s3 s4
  have put : s0.modes.txn = a.txn ∧ s0.modes.running = none ∧ s0.modes.armed = s.modes.armed ∧ s0.modes.prevMode = s.mode := by
    unfold s0
    rw [State.putMode_modes, State.abortOps_frame.modes (by decide), State.dropWindows_frame.modes (by decide), core0.mode_same rfl]
    exact ⟨rfl, free, rfl, rfl⟩
  obtain ⟨x, (ran : s1.modes = _), -⟩ := s0.run_modes frm a.target a.txn a.act a.source 0 0 false
  have none0 : other = none := put.2.1
  have e2 : s2 = s1 := if_neg (by rw [run]; decide)
  have e3 : s3 = s2 := if_neg (by rw [prepare]; simp)
  have e4 : s4 = s3 := if_neg (by rw [prepare]; simp)
  have ran4 : s4.modes = { s0.modes with running := some x } := by rw [e4, e3, e2, ran]
  clear_value s4 s0 other
  obtain ⟨h, completed⟩ := s4.completed_modes x
  split
  · next r here =>
    obtain rfl : x = r := by
      rw [ran4] at here
      exact Option.some.inj here
    rw [if_neg (by rw [none0]; decide), if_neg (by rw [prepare]; simp), completed, ran4]
    exact ⟨put.1, rfl, put.2.2⟩
  · next here =>
    rw [ran4] at here
    cases here

/-! ### An armed transaction begins -/

/-- The transaction is armed no longer; its beginning is recorded. -/
def State.begun (s : State) (a : Armed) : State :=
  ({ s with modes := { s.modes with armed := none } } : State).recordTxn
    { num := a.txn, frm := s.mode, target := a.target, act := a.act, outcome := 5, reason := 0, fin := 0, source := a.source }

theorem State.begun_core {s : State} {v : Nat → Int} (h : s.Core v) (a : Armed) : (s.begun a).Core v := State.Core.recordTxn h.upd

theorem State.begun_armed (s : State) (a : Armed) : (s.begun a).modes.armed = none := by
  obtain ⟨h, recorded⟩ := ({ s with modes := { s.modes with armed := none } } : State).recordTxn_modes
    { num := a.txn, frm := s.mode, target := a.target, act := a.act, outcome := 5, reason := 0, fin := 0, source := a.source }
  rw [State.begun, recorded]

theorem State.begun_running (s : State) (a : Armed) : (s.begun a).modes.running = s.modes.running := by
  obtain ⟨h, recorded⟩ := ({ s with modes := { s.modes with armed := none } } : State).recordTxn_modes
    { num := a.txn, frm := s.mode, target := a.target, act := a.act, outcome := 5, reason := 0, fin := 0, source := a.source }
  rw [State.begun, recorded]

theorem State.begun_keeps {s : State} {a : Armed} : s.keeps [.od, .modes] (s.begun a) :=
  State.recordTxn_frame.last (by decide) (State.keeps_mk State.keeps_refl)

/-- SAFE is entered from every mode. -/
theorem State.activateTxn_safe (s : State) {a : Armed} (safe : a.target = 5) :
    s.activateTxn a = ({ s with modes := { s.modes with armed := none } } : State).toSafe a.txn a.act a.source 4 0x33 := if_pos safe

/-- What Table 02-5 has begins, but for a mode whose FPA settings cannot be used. -/
theorem State.activateTxn_begins {s : State} {a : Armed} (notSafe : a.target ≠ 5) (fromSafe : s.mode ≠ 5)
    (allowed : modeAllowed s.mode a.target = true) (usable : s.mode = 0 → s.fpaConfigBad = false) :
    s.activateTxn a = (if a.target = 0 then (s.begun a).toStandby a.txn a.act a.source false
      else if s.mode = 0 then (s.begun a).enter a.target a.txn a.act a.source else (s.begun a).switchMode a s.mode) := by
  have fits : ¬(s.mode = 0 ∧ (a.target = 1 ∨ a.target = 4) ∧ s.fpaConfigBad = true) := by
    rintro ⟨standby, -, bad⟩
    rw [usable standby] at bad
    cases bad
  unfold State.activateTxn
  extract_lets _ s1 started frm _ _ s2
  have hasIt : ¬ modeAllowed frm a.target = false := by
    rw [show frm = s.mode from rfl, allowed]
    decide
  have usable1 : ¬(frm = 0 ∧ (a.target = 1 ∨ a.target = 4) ∧ s1.fpaConfigBad = true) := fits
  have notSafe1 : frm ≠ 5 := fromSafe
  rw [if_neg notSafe, if_neg hasIt, if_neg usable1, if_neg notSafe1]
  rfl

end Sys2Proof.Machine
end

section
/-!
PROOFS. The rows of a transition (02 R54, R62, R64).
-/
namespace Sys2Proof.Machine
set_option Elab.async false

/-! ### Activation -/

section
variable {s : State} {a : Armed}

/-- From PREPARE straight into RUN. -/
theorem State.activateTxn_run (canonical : s.Canonical) (run : a.target = 2) (prepare : s.mode = 1) (free : s.modes.running = none) :
    (s.activateTxn a).mode = 2 ∧ (s.activateTxn a).modes.txn = a.txn ∧ (s.activateTxn a).modes.running = none ∧
      (s.activateTxn a).modes.armed = none ∧ (s.activateTxn a).modes.prevMode = 1 := by
  have begun : (s.begun a).Core s.oi := State.begun_core (State.core_self canonical.od) a
  have same : s.activateTxn a = (s.begun a).switchMode a s.mode := by
    rw [State.activateTxn_begins (by omega) (by omega) (by rw [prepare, run]; decide) (by omega), if_neg (by omega), if_neg (by omega)]
  obtain ⟨txn, running, armed, prev⟩ := State.switchMode_modes begun.od run prepare ((s.begun_running a).trans free)
  rw [begun.mode_same rfl] at prev
  rw [s.begun_armed a] at armed
  rw [same]
  exact ⟨begun.switchMode.reads_nat Obj.MODE 2 (by rw [Function.update_self, run]), txn, running, armed, prev.trans prepare⟩

/-- SAFE from any mode. -/
theorem State.activateTxn_toSafe (canonical : s.Canonical) (safe : a.target = 5) :
    (s.activateTxn a).mode = 5 ∧ (s.activateTxn a).modes.txn = a.txn ∧ (s.activateTxn a).modes.armed = none := by
  have core : ({ s with modes := { s.modes with armed := none } } : State).Core s.oi := State.Core.upd (State.core_self canonical.od)
  obtain ⟨armed, txn, -⟩ := State.toSafe_modes { s with modes := { s.modes with armed := none } } a.txn a.act a.source 4 0x33
  rw [s.activateTxn_safe safe]
  exact ⟨core.toSafe.reads_nat Obj.MODE 5 (Function.update_self ..), txn, armed⟩

/-- STANDBY from the modes that image, and from SERVICE. -/
theorem State.activateTxn_toStandby (canonical : s.Canonical) (standby : a.target = 0)
    (images : s.mode = 1 ∨ s.mode = 2 ∨ s.mode = 3 ∨ s.mode = 4) :
    (s.activateTxn a).mode = 0 ∧ (s.activateTxn a).modes.txn = a.txn ∧ (s.activateTxn a).modes.armed = none ∧
      (s.activateTxn a).modes.prevMode = s.mode := by
  have begun : (s.begun a).Core s.oi := State.begun_core (State.core_self canonical.od) a
  have allowed : modeAllowed s.mode a.target = true := by
    rw [standby]
    rcases images with h | h | h | h <;> rw [h] <;> decide
  obtain ⟨txn, armed, prev⟩ := State.toStandby_modes begun.od a.txn a.act a.source
  rw [begun.mode_same rfl] at prev
  rw [s.begun_armed a] at armed
  rw [State.activateTxn_begins (by omega) (by omega) allowed (by omega), if_pos standby]
  exact ⟨begun.toStandby.reads_nat Obj.MODE 0 (Function.update_self ..), txn, armed, prev⟩

/-- PREPARE and SERVICE from STANDBY. -/
theorem State.activateTxn_enter (canonical : s.Canonical) (enters : a.target = 1 ∨ a.target = 4) (standby : s.mode = 0)
    (usable : s.fpaConfigBad = false) (trained : s.mem.trained = true) :
    (s.activateTxn a).mode = a.target ∧ (s.activateTxn a).modes.txn = a.txn ∧ (s.activateTxn a).modes.armed = none ∧
      ∃ x, (s.activateTxn a).modes.running = some x ∧ x.target = a.target ∧ x.txn = a.txn := by
  have begun : (s.begun a).Core s.oi := State.begun_core (State.core_self canonical.od) a
  have allowed : modeAllowed s.mode a.target = true := by
    rw [standby]
    rcases enters with h | h <;> rw [h] <;> decide
  have trained1 : (s.begun a).mem.trained = true := by rw [State.begun_keeps.mem (by decide), trained]
  obtain ⟨core, modes⟩ := State.enter_spec begun trained1 a.target a.txn a.act a.source
  obtain ⟨txn, armed, running⟩ := (s.begun a).entered_modes a.target a.txn a.act a.source
  rw [s.begun_armed a] at armed
  rw [State.activateTxn_begins (by omega) (by omega) allowed (fun _ => usable), if_neg (by omega), if_pos standby, modes]
  exact ⟨core.reads_nat Obj.MODE a.target (Function.update_self ..), txn, armed, running⟩

end

/-! ### Completion and time-out -/

/-- A transition into RUN completes when no shutter pulse runs. -/
theorem State.completeTransition_run {s : State} (canonical : s.Canonical) {x : Running} (refresh : Bool)
    (here : s.modes.running = some x) (run : x.target = 2) (shut : s.shut.running = none) (free : s.dbg.force = false) :
    (s.completeTransition refresh).modes.running = none ∧ (s.completeTransition refresh).mode = s.mode := by
  have core1 : s.modeProceed.Core s.oi := (State.core_self canonical.od).modeProceed
  have running1 : s.modeProceed.modes.running = some x := by rw [State.modeProceed_frame.modes (by decide), here]
  have ready : s.modeProceed.transitionReady x = true := by
    simp only [State.transitionReady, run]
    rw [State.modeProceed_frame.shut (by decide), shut]
    rfl
  obtain ⟨h, completed⟩ := s.modeProceed.completed_modes x
  have forced : (s.modeProceed.completed x).dbg.force = false := by
    rw [State.completed_frame.dbg (by decide), State.modeProceed_frame.dbg (by decide), free]
  have same : s.completeTransition refresh = s.modeProceed.completed x := by
    unfold State.completeTransition
    extract_lets s1
    split
    · next none1 =>
      rw [running1] at none1
      cases none1
    · next r some1 =>
      obtain rfl : x = r := Option.some.inj (running1.symm.trans some1)
      extract_lets s2
      have entry : (if x.frm = 0 then s2.entryDone x.target else s2) = s2 := by
        have done : s2.entryDone x.target = s2 := if_pos (by omega)
        rw [done, ite_self]
      rw [if_neg (by rw [ready]; decide), if_neg (by omega), if_neg (by omega), if_neg (by omega), entry, State.vendorNext,
        if_pos (by rw [forced]; rfl)]
  rw [same, completed]
  exact ⟨rfl, core1.completed.mode_same rfl⟩

/-- A transition past its bound ends in SAFE, with the reason of the bound (Table 02-7). -/
theorem State.timeoutTransition_spec {s : State} (canonical : s.Canonical) {x : Running} (here : s.modes.running = some x)
    (notSafe : x.target ≠ 5) (late : x.deadline < s.time.now) :
    s.timeoutTransition.mode = 5 ∧ (s.mode ≠ 5 → s.timeoutTransition.o Obj.SAFE_REASON = 0x0025) ∧
      ∃ y, s.timeoutTransition.modes.running = some y ∧ y.target = 5 := by
  have same : s.timeoutTransition = s.toSafe 0 s.time.now 0 0 0x25 := by
    simp only [State.timeoutTransition, State.failTransition, here, if_pos late, if_neg notSafe]
  obtain ⟨-, -, running⟩ := s.toSafe_modes 0 s.time.now 0 0 0x25
  rw [same]
  refine ⟨(State.core_self canonical.od).toSafe.reads_nat Obj.MODE 5 (Function.update_self ..), fun other => ?_, running⟩
  rw [State.toSafe_reason canonical.od _ _ _ _ _ other]

/-! ### The rows -/

theorem exec_transitionActivation_due {s : State} {a : Armed} (t : Nat) (armed : s.modes.armed = some a)
    (may : s.fwUp = true ∧ (s.boot.phase = .running ∨ a.target = 5)) (due : a.act ≤ (s.advance t).time.now) :
    exec (.transitionActivation t) s = .next ((s.advance t).activateTxn a) := by
  have begins : (s.advance t).mayBegin a = true := by
    obtain ⟨up, running | safe⟩ := may
    · simp only [State.mayBegin, Bool.and_eq_true, Bool.or_eq_true, beq_iff_eq]
      exact ⟨up, .inl running⟩
    · simp only [State.mayBegin, Bool.and_eq_true, Bool.or_eq_true, beq_iff_eq]
      exact ⟨up, .inr safe⟩
  show execTransitionActivation t s = _
  unfold execTransitionActivation
  extract_lets s1
  split
  · next b here =>
    obtain rfl : a = b := Option.some.inj (armed.symm.trans here)
    exact if_pos ⟨begins, due⟩
  · next here => exact absurd (armed.symm.trans here) (by simp)

theorem exec_transitionActivation_early {s : State} {a : Armed} (t : Nat) (armed : s.modes.armed = some a)
    (early : (s.advance t).time.now < a.act) : exec (.transitionActivation t) s = .next (s.advance t) := by
  show execTransitionActivation t s = _
  unfold execTransitionActivation
  extract_lets s1
  split
  · next b here =>
    obtain rfl : a = b := Option.some.inj (armed.symm.trans here)
    exact if_neg fun due => Nat.not_le.mpr early due.2
  · rfl

/-- Settles O15: what an activation begins, clause by clause, then completion and the bound. -/
theorem transitionsRunAndEnd : Obligations.TransitionsRunAndEnd := by
  unfold Obligations.TransitionsRunAndEnd
  intro s t sound up
  have canonical : (s.advance t).Canonical := (State.canonical_iff_objectsOk.mpr sound.1).frame State.advance_keeps
  refine ⟨fun a armed due => ⟨?_, ?_, ?_, ?_⟩, ?_, ?_, ?_⟩
  · intro running run prepare _ free
    exact ⟨_, exec_transitionActivation_due t armed ⟨up, .inl running⟩ due, State.activateTxn_run canonical run prepare free⟩
  · intro safe
    exact ⟨_, exec_transitionActivation_due t armed ⟨up, .inr safe⟩ due, State.activateTxn_toSafe canonical safe⟩
  · intro running standby images
    exact ⟨_, exec_transitionActivation_due t armed ⟨up, .inl running⟩ due, State.activateTxn_toStandby canonical standby images⟩
  · intro running enters standby usable trained
    exact ⟨_, exec_transitionActivation_due t armed ⟨up, .inl running⟩ due,
      State.activateTxn_enter canonical enters standby usable trained⟩
  · intro a armed early
    exact ⟨_, exec_transitionActivation_early t armed early, State.advance_keeps⟩
  · intro x refresh here run shut free
    exact ⟨_, if_pos up, State.completeTransition_run canonical refresh here run shut free⟩
  · intro x here notSafe late
    exact ⟨_, if_pos up, State.timeoutTransition_spec canonical here notSafe late⟩

end Sys2Proof.Machine
end

section
/-!
PROOFS. Mode requests (02 R60, R61, 10 R371): the answer to a request, and the rows that bring one.
-/
namespace Sys2Proof.Machine
set_option Elab.async false

/-! ### What an answer does -/

section
variable {s : State} {q : ModeReq}

/-- What a request that is armed leaves armed. -/
def ModeReq.armedAt (q : ModeReq) (act : Nat) : Armed :=
  { txn := q.txn, target := q.target, act := act, source := q.source, port := 0, reqTime := q.act }

theorem State.arm_armed (s : State) (q : ModeReq) (act : Nat) : (s.arm q act).1.modes.armed = some (q.armedAt act) := by
  obtain ⟨h, recorded⟩ := ({ s with modes := { s.modes with armed := some (q.armedAt act) } } : State).recordTxn_modes (s.answerRec q 1 0 act)
  exact congrArg ModeSt.armed recorded

theorem State.decline_armed (s : State) (q : ModeReq) (outcome reason : Nat) :
    (s.decline q outcome reason).1.modes.armed = s.modes.armed := by
  obtain ⟨h, recorded⟩ := s.recordTxn_modes (s.answerRec q outcome reason q.act)
  rw [State.decline, recorded]

/-- When a request for SAFE takes effect: at its time, or 1 ms after its arrival where that is 0 or past. -/
def ModeReq.safeAt (q : ModeReq) (now : Nat) : Nat := if q.act ≤ now then now + 1000000 else q.act

theorem State.safeArmed_eq_some {a : Armed} (h : s.safeArmed q = some a) : s.modes.armed = some a ∧ a.txn = q.txn ∧ a.target = 5 := by
  unfold State.safeArmed at h
  split at h
  · next b here =>
    split at h
    · next fits =>
      obtain rfl := Option.some.inj h
      exact ⟨here, fits⟩
    · cases h
  · cases h

theorem State.safeArmed_eq_none {b : Armed} (h : s.safeArmed q = none) (here : s.modes.armed = some b) : ¬(b.txn = q.txn ∧ b.target = 5) := by
  intro fits
  simp only [State.safeArmed, here, if_pos fits] at h
  cases h

/-- A request for SAFE is armed anew unless it repeats the one that is armed. -/
theorem State.safeFor_armed (safe : q.target = 5) (fresh : ∀ b, s.modes.armed = some b → b.txn = q.txn → b.target = 5 → b.reqTime ≠ q.act) :
    s.safeFor q.txn q.act q.source s.time.now (q.armedAt (q.safeAt s.time.now)) :=
  ⟨rfl, safe, fun b here txn target same => absurd same (fresh b here txn target), fun _ => ⟨rfl, rfl⟩⟩

/-- 02 R61: a request for SAFE is armed; the repeat of the armed one leaves it as it is (log 70). -/
theorem State.answerSafe_armed (safe : q.target = 5) :
    (s.answerSafe q).2.num = q.txn ∧ (s.answerSafe q).2.outcome = 1 ∧ (s.answerSafe q).2.target = 5 ∧
      ∃ a, (s.answerSafe q).1.modes.armed = some a ∧ s.safeFor q.txn q.act q.source s.time.now a := by
  unfold State.answerSafe
  extract_lets act
  split
  · next a found =>
    obtain ⟨here, txn, target⟩ := State.safeArmed_eq_some found
    split
    · next again =>
      refine ⟨rfl, rfl, safe, a, here, txn, target, fun b hb _ _ _ => ?_, fun none_ => absurd again.symm (none_ a here txn target)⟩
      exact Option.some.inj (here.symm.trans hb)
    · next other =>
      refine ⟨rfl, rfl, safe, _, s.arm_armed q act, State.safeFor_armed safe fun b hb _ _ same => other ?_⟩
      obtain rfl : a = b := Option.some.inj (here.symm.trans hb)
      exact same.symm
  · next none_ =>
    refine ⟨rfl, rfl, safe, _, (s.cancelArmed 0x33).arm_armed q act, State.safeFor_armed safe fun b hb txn target => ?_⟩
    exact absurd ⟨txn, target⟩ (State.safeArmed_eq_none none_ hb)

theorem State.answerRest_num (s : State) (q : ModeReq) : (s.answerRest q).2.num = q.txn := by
  unfold State.answerRest
  split
  · split
    · rfl
    · split <;> rfl
  · repeat' split
    all_goals rfl

theorem State.answerMode_num (s : State) (q : ModeReq) : (s.answerMode q).2.num = q.txn := by
  unfold State.answerMode
  split
  · next safe => exact (State.answerSafe_armed safe.1).1
  · split
    · rfl
    · exact s.answerRest_num q

theorem State.answerMode_safe (safe : q.target = 5) (level : 1 ≤ q.level) : s.answerMode q = s.answerSafe q := if_pos ⟨safe, level⟩

/-- With none armed, a unicast request of activation time 0 is refused for what speaks against it. -/
theorem State.answerMode_refused (other : q.target ≠ 5) (numbered : q.txn ≠ 0) (free : s.modes.armed = none) (soon : q.act = 0)
    (uni : q.multi = false) (against : s.modeRefusal q ≠ 0) : s.answerMode q = s.decline q 2 (s.modeRefusal q) := by
  have not_armed : s.armedIs q = false := by rw [State.armedIs, free]
  rw [State.answerMode, if_neg (fun h => other h.1), if_neg numbered, State.answerRest, not_armed]
  simp [soon, uni, against]

/-- And armed for 1 ms after its arrival where nothing does. -/
theorem State.answerMode_arms (other : q.target ≠ 5) (numbered : q.txn ≠ 0) (free : s.modes.armed = none) (soon : q.act = 0)
    (uni : q.multi = false) (nothing : s.modeRefusal q = 0) : s.answerMode q = s.arm q (s.time.now + 1000000) := by
  have not_armed : s.armedIs q = false := by rw [State.armedIs, free]
  rw [State.answerMode, if_neg (fun h => other h.1), if_neg numbered, State.answerRest, not_armed]
  simp [soon, uni, nothing, free]

/-- What Table 02-5 does not have is not allowed. -/
theorem State.modeRefusal_notAllowed (notAllowed : modeAllowed s.mode q.target = false) (lease : s.modes.orphan = false) :
    s.modeRefusal q = 1 := by
  rw [State.modeRefusal, if_neg (by rw [lease]; simp), if_pos (.inr notAllowed)]

namespace State.Core

variable {v : Nat → Int}

theorem arm {act : Nat} (h : s.Core v) : (s.arm q act).1.Core v := State.Core.recordTxn h.upd
theorem decline {outcome reason : Nat} (h : s.Core v) : (s.decline q outcome reason).1.Core v := h.recordTxn

theorem answerSafe (h : s.Core v) : (s.answerSafe q).1.Core v := by
  unfold State.answerSafe
  extract_lets act
  split
  · exact .iteFst h h.arm
  · exact h.cancelArmed.arm

theorem answerRest (h : s.Core v) : (s.answerRest q).1.Core v := by
  unfold State.answerRest
  split
  · exact .iteFst (State.Core.recordTxn h.upd) (.iteFst h h)
  · exact .iteFst h.decline (.iteFst h.decline (.iteFst h.decline (.iteFst h.decline (.iteFst h.decline (.iteFst h.decline h.arm)))))

theorem answerMode (h : s.Core v) : (s.answerMode q).1.Core v := .iteFst h.answerSafe (.iteFst h.decline h.answerRest)

end State.Core

end

/-! ### The report -/

theorem State.port_setPort (s : State) (b : Bool) (c : ChainPort) : (s.setPort b c).port b = c := by
  cases b <;> rfl

theorem State.setPort_ether (s : State) (b : Bool) (c : ChainPort) : (s.setPort b c).chain.etherInForce = s.chain.etherInForce := by
  cases b <;> rfl

theorem State.telegram_same {s u : State} (od : u.od = s.od) (ether : u.chain.etherInForce = s.chain.etherInForce)
    (type flags dst seq session : Nat) (payload : List Byte) :
    u.telegram type flags dst seq session payload = s.telegram type flags dst seq session payload := by
  rw [State.telegram, State.telegram, ether, State.o_of_od od, State.o_of_od od]

theorem State.mode_of_od {s u : State} (od : u.od = s.od) : u.mode = s.mode := by rw [State.mode, State.o_of_od od, State.mode]

theorem State.reportBytes_same {s u : State} (od : u.od = s.od) (x : TxnRec) : u.reportBytes x = s.reportBytes x := by
  rw [State.reportBytes, State.mode_of_od od, State.reportBytes]

/-- The report of a request stands last among what its port sends. -/
theorem State.answered_last (s : State) (r : Req) (x : TxnRec) :
    let u := (s.reply r 0x11 (s.reportBytes x)).raise 1
    (u.port r.portB).queue.getLast? = some (0x11, u.telegram 0x11 0x80 0 r.seq r.session (u.reportBytes x)) := by
  intro u
  have od : u.od = s.od := by
    unfold u
    rw [State.raise_keeps.od (by decide), State.reply_keeps.od (by decide)]
  have chain : u.chain = (s.reply r 0x11 (s.reportBytes x)).chain := State.raise_keeps.chain (by decide)
  have ether : u.chain.etherInForce = s.chain.etherInForce := by rw [chain, State.reply, State.originate, State.setPort_ether]
  have port : u.port r.portB = (s.reply r 0x11 (s.reportBytes x)).port r.portB := by rw [State.port, chain, State.port]
  rw [port, State.reply, State.originate, State.port_setPort, List.getLast?_concat, State.telegram_same od ether,
    State.reportBytes_same od]

end Sys2Proof.Machine
end

section
/-!
PROOFS. The rows that bring a mode request (02 R60, R61).
-/
namespace Sys2Proof.Machine
set_option Elab.async false

/-- The request that a telegram brings. -/
def modeReqOf (r : Req) (level : Nat) : ModeReq :=
  { txn := beAt r.payload 0 2, target := beAt r.payload 2 1, act := beAt r.payload 4 8, source := 1, level := level, multi := !(reqUni r) }

/-- A unicast request that names no time. -/
theorem modeReqOf_soon {r : Req} {level : Nat} (soon : beAt r.payload 4 8 = 0) (uni : reqUni r = true) :
    modeReqOf r level = ⟨beAt r.payload 0 2, beAt r.payload 2 1, 0, 1, level, false⟩ := by
  rw [modeReqOf, soon, uni]
  rfl

/-- The answer goes to the port that the request came from. -/
def State.modeAnswered (x : State × TxnRec) (r : Req) : State := (x.1.reply r 0x11 (x.1.reportBytes x.2)).raise 1

theorem exec_modeRequest {s : State} {r : Req} (hears : s.hears r .anyDst 12) : exec (.modeRequest r) s =
    .next (State.modeAnswered ((s.heard r).answerMode (modeReqOf r ((s.heard r).reqLevel r))) r) := by
  show execModeRequest r s = _
  rw [execModeRequest, State.onTelegram_of_hears hears]
  rfl

theorem State.modeAnswered_keeps {x : State × TxnRec} {r : Req} : x.1.keeps [.emitted, .chain, .host] (State.modeAnswered x r) :=
  State.raise_keeps.last (by decide) (State.reply_keeps.last (by decide) State.keeps_refl)

/-- What makes a request for SAFE safe is what is armed before it. -/
theorem State.safeFor_same {s u : State} (modes : u.modes = s.modes) {num time source now : Nat} {a : Armed}
    (h : u.safeFor num time source now a) : s.safeFor num time source now a := by
  unfold State.safeFor at h ⊢
  rwa [modes] at h

/-! ### MODE_REQ_GO -/

/-- The request that the objects hold. -/
def State.heldReq (s : State) (via : Via) : ModeReq :=
  { txn := s.o Obj.MODE_REQ_TXN, target := s.o Obj.MODE_REQ_TARGET, act := s.o Obj.MODE_REQ_TIME, source := 2, level := s.level via,
    multi := false }

/-- Its answer shows in MODE_REQ_ANSWER and is reported. -/
def State.goAnswered (x : State × TxnRec) : State := (x.1.setO Obj.MODE_REQ_ANSWER ((x.2.outcome : Nat) : Int)).report x.2

theorem State.goAnswered_modes (x : State × TxnRec) : (State.goAnswered x).modes = x.1.modes := by
  rw [State.goAnswered, State.report_frame.modes (by decide), State.setO_keeps.modes (by decide)]

theorem State.goAnswered_core {x : State × TxnRec} {v : Nat → Int} (h : x.1.Core v) : (State.goAnswered x).Core v :=
  h.setO.frame State.report_frame

theorem State.goAnswered_answer {x : State × TxnRec} (wf : Store.wf Obj.dflt x.1.od = true) :
    (State.goAnswered x).o Obj.MODE_REQ_ANSWER = x.2.outcome := by
  rw [State.goAnswered, State.o_of_od (State.report_frame.od (by decide)), State.o_setO_nat wf]

theorem exec_modeReqGo {s : State} {via : Via} {v t : Nat} (small : v < 256) (h : s.admits via 1 t) :
    exec (.modeReqGo via v t) s = .next (State.goAnswered ((s.found via t).answerMode ((s.found via t).heldReq via))) := by
  show execModeReqGo via v t s = _
  have key : isExpertKey Obj.MODE_REQ_GO = false := by decide
  have good : anyOf 1 v = true := by simp [anyOf]; omega
  rw [execModeReqGo]
  refine congrArg Host.Outcome.next ((State.runCommand_done h good _).trans ?_)
  rw [State.markExpert_basic _ key]
  rfl

/-- The request that the objects hold is found as it stands in them. -/
theorem State.found_heldReq {s : State} {via : Via} {t : Nat} (safe : s.o Obj.MODE_REQ_TARGET = 5) :
    (s.found via t).heldReq via = ⟨s.o Obj.MODE_REQ_TXN, 5, s.o Obj.MODE_REQ_TIME, 2, (s.advance t).level via, false⟩ := by
  rw [State.heldReq, s.found_o via t (by decide), s.found_o via t (by decide), s.found_o via t (by decide), s.found_level via t, safe]

/-- A command finds the core objects as they were. -/
theorem State.found_core {s : State} (h : s.Canonical) (via : Via) (t : Nat) : (s.found via t).Core s.oi := by
  refine ⟨(h.found via t).od, fun k hk => s.found_oi via t ?_⟩
  rintro rfl
  revert hk
  decide

/-- Settles O14: by the answer to a request on the state that hears or finds it, and by what is left of the mode state there. -/
theorem modeRequestsAreAnswered : Obligations.ModeRequestsAreAnswered := by
  unfold Obligations.ModeRequestsAreAnswered
  intro s sound
  have canonical : s.Canonical := State.canonical_iff_objectsOk.mpr sound.1
  refine ⟨fun r hears level => ?_, fun via v t small admitted safe => ?_⟩
  · have core : (s.heard r).Core s.oi := s.heard_core r canonical.od
    have modes : (s.heard r).modes = s.modes := State.heard_keeps.modes (by decide)
    have mode : (s.heard r).mode = s.mode := core.mode_same rfl
    have now : (s.heard r).time.now = (s.advance r.t).time.now := by rw [s.heard_time r]
    refine ⟨_, exec_modeRequest hears, ((s.heard r).answerMode (modeReqOf r ((s.heard r).reqLevel r))).2, State.answered_last _ r _,
      (s.heard r).answerMode_num _, (core.answerMode.frame State.modeAnswered_keeps).mode_same rfl, fun safe => ?_, ?_⟩
    · obtain ⟨-, outcome, target, a, armed, safeFor⟩ :=
        State.answerSafe_armed (s := s.heard r) (q := modeReqOf r ((s.heard r).reqLevel r)) safe
      rw [now] at safeFor
      rw [State.modeAnswered_keeps.modes (by decide), State.answerMode_safe safe level]
      exact ⟨outcome, target, a, armed, State.safeFor_same modes safeFor⟩
    · intro numbered other free soon uni
      have same : modeReqOf r ((s.heard r).reqLevel r) = ⟨beAt r.payload 0 2, beAt r.payload 2 1, 0, 1, (s.heard r).reqLevel r, false⟩ :=
        modeReqOf_soon soon uni
      have none1 : (s.heard r).modes.armed = none := by rw [modes, free]
      rw [State.modeAnswered_keeps.modes (by decide), same, ← now]
      refine ⟨fun nothing => ?_, fun notAllowed lease => ?_⟩
      · rw [State.answerMode_arms other numbered none1 rfl rfl nothing, State.arm_armed]
        exact ⟨rfl, rfl, _, rfl, rfl, rfl, rfl⟩
      · have refusal := State.modeRefusal_notAllowed (s := s.heard r)
          (q := ⟨beAt r.payload 0 2, beAt r.payload 2 1, 0, 1, (s.heard r).reqLevel r, false⟩) (by rw [mode, notAllowed])
          (by rw [modes, lease])
        rw [State.answerMode_refused other numbered none1 rfl rfl (by rw [refusal]; decide), refusal, State.decline_armed]
        exact ⟨rfl, rfl, none1⟩
  · have core : (s.found via t).Core s.oi := State.found_core canonical via t
    have modes : (s.found via t).modes = s.modes := State.found_keeps.modes (by decide)
    have now : (s.found via t).time.now = (s.advance t).time.now := by rw [s.found_time via t]
    obtain ⟨-, outcome, -, a, armed, safeFor⟩ := State.answerSafe_armed (s := s.found via t) (q := (s.found via t).heldReq via)
      (by rw [State.found_heldReq safe])
    rw [State.found_heldReq safe] at outcome armed safeFor
    rw [now] at safeFor
    have answer := State.answerMode_safe (s := s.found via t)
      (q := ⟨s.o Obj.MODE_REQ_TXN, 5, s.o Obj.MODE_REQ_TIME, 2, (s.advance t).level via, false⟩) rfl admitted.2
    rw [← answer] at outcome armed
    have answered := exec_modeReqGo small admitted
    rw [State.found_heldReq safe] at answered
    refine ⟨_, answered, ?_, (State.goAnswered_core core.answerMode).mode_same rfl, a, ?_, State.safeFor_same modes safeFor⟩
    · rw [State.goAnswered_answer core.answerMode.od, outcome]
    · rw [State.goAnswered_modes, armed]

end Sys2Proof.Machine
end

section
/-!
PROOFS. From power-on to firmware (02 R41, R43, R46): the release of the internal reset, the image check, and what firmware reads when it
starts.
-/
namespace Sys2Proof.Machine
set_option Elab.async false

/-! ### The generators' timers (08 R301) -/

/-- The instant that a generator's TIMER is armed for. -/
def State.timerAt (s : State) (g : Pos) : Nat :=
  (if s.time.now < s.o (Obj.TG_PHASE g.val) then 0
    else (s.time.now - s.o (Obj.TG_PHASE g.val)) / s.o (Obj.TG_PERIOD g.val) + 1) * s.o (Obj.TG_PERIOD g.val) + s.o (Obj.TG_PHASE g.val)

theorem State.rearmTimer_tg (s : State) (p g : Pos) : (s.rearmTimer p).tg.get g =
    { s.tg.get g with nextTimer := if g = p then s.timerAt g else (s.tg.get g).nextTimer } := by
  have set : (s.rearmTimer p).tg = s.tg.set p { s.tg.get p with nextTimer := s.timerAt p } := rfl
  rw [set, Quad.get_set]
  by_cases same : g = p
  · rw [if_pos same, if_pos same, same]
  · rw [if_neg same, if_neg same]

/-- Re-arming changes a generator's next TIMER instant, and nothing else of it. -/
theorem State.rearmTimer_foldl_tg (l : List Pos) (s : State) (g : Pos) : (l.foldl State.rearmTimer s).tg.get g =
    { s.tg.get g with nextTimer := if g ∈ l then s.timerAt g else (s.tg.get g).nextTimer } := by
  induction l generalizing s with
  | nil => rfl
  | cons p l ih =>
    have at_ : (s.rearmTimer p).timerAt g = s.timerAt g := rfl
    rw [List.foldl_cons, ih, State.rearmTimer_tg, at_]
    by_cases rest : g ∈ l
    · rw [if_pos rest, if_pos (List.mem_cons_of_mem p rest)]
    · rw [if_neg rest]
      by_cases same : g = p
      · rw [if_pos same, if_pos (same ▸ List.mem_cons_self)]
      · rw [if_neg same, if_neg (by simp [same, rest])]

/-- With a period, the instant is the first of k × TG_PERIOD + TG_PHASE after the present chain time. -/
theorem State.timerAt_first (s : State) (g : Pos) (period : 0 < s.o (Obj.TG_PERIOD g.val)) :
    s.time.now < s.timerAt g ∧ s.timerAt g ≤ max (s.o (Obj.TG_PHASE g.val)) (s.time.now + s.o (Obj.TG_PERIOD g.val)) := by
  unfold State.timerAt
  generalize s.o (Obj.TG_PHASE g.val) = phase
  generalize s.o (Obj.TG_PERIOD g.val) = per at period ⊢
  generalize s.time.now = now
  by_cases before : now < phase
  · rw [if_pos before]
    omega
  · rw [if_neg before, Nat.add_mul, Nat.one_mul]
    have split : per * ((now - phase) / per) + (now - phase) % per = now - phase := Nat.div_add_mod _ _
    have small : (now - phase) % per < per := Nat.mod_lt _ period
    rw [Nat.mul_comm] at split
    generalize (now - phase) / per * per = whole at split ⊢
    omega

/-! ### The release of the internal reset -/

/-- What the release of the internal reset starts at once. -/
def State.romStarts (s : State) : State := { s with
  boot := { s.boot with phase := .rom, tR := s.time.mono, sysclk := true, tried := 0 },
  time := { s.time with bootMono := s.time.mono },
  therm := { s.therm with active := true },
  host := { s.host with subsys := s.keptAt 3 },
  chain := { s.chain with etherInForce := s.keptAt 0, ifInForce := [s.keptAt 1, s.keptAt 2] },
  serial := { s.serial with role := s.keptAt 4 } }

/-- What the ROM reads and counts, and the devices that it finds. -/
def State.romReads (s : State) : State :=
  let s := s.setOs [(Obj.CHAIN_STATION, ((((s.keep Keep.station 1).headD 0#8).toNat : Nat) : Int)),
    (Obj.NV_KEEP_BP, ((((s.keep Keep.bp 1).headD 0#8).toNat % 4 : Nat) : Int)), (Obj.BOOT_STATUS, ((s.boot.cause % 16 : Nat) : Int))]
  allPos.foldl State.deviceUp (((s.bumpCounter 0 Obj.DEV_POWER_CYCLES).renewNonce.demand 62).demand 79)

theorem State.romReads_keeps {s : State} : s.keeps [.od, .doms, .nv, .sec, .pwr, .free] s.romReads := by
  refine State.keeps_foldl (fun _ _ => State.deviceUp_frame.last (by decide) State.keeps_refl) ?_
  exact State.demand_frame.last (by decide) (State.demand_frame.last (by decide) (State.renewNonce_frame.last (by decide)
    (State.bumpCounter_keeps.last (by decide) (State.setOs_keeps.last (by decide) State.keeps_refl))))

/-- The generators are re-armed last, on the state that the release has made. -/
theorem State.released_eq (s : State) : s.released = allPos.foldl State.rearmTimer s.romStarts.romReads := by
  unfold State.released State.romReads State.romStarts
  rfl

theorem State.rearmTimers_keeps {s : State} : s.keeps [.tg] (allPos.foldl State.rearmTimer s) :=
  State.keeps_foldl (fun _ _ => State.rearmTimer_frame) State.keeps_refl

/-- The ROM begins, with tR and the thermal model. -/
theorem State.released_rom (s : State) :
    s.released.boot.phase = .rom ∧ s.released.boot.tR = s.time.mono ∧ s.released.time.bootMono = s.time.mono ∧
      s.released.boot.tried = 0 ∧ s.released.therm.active = true := by
  have rearm : s.romStarts.romReads.keeps [.tg] s.released := s.released_eq ▸ State.rearmTimers_keeps
  have reads : s.romStarts.keeps [.od, .doms, .nv, .sec, .pwr, .free] s.romStarts.romReads := State.romReads_keeps
  rw [rearm.boot (by decide), rearm.time (by decide), rearm.therm (by decide), reads.boot (by decide), reads.time (by decide),
    reads.therm (by decide)]
  exact ⟨rfl, rfl, rfl, rfl, rfl⟩

/-- Every generator's TIMER is armed. -/
theorem State.released_timers (s : State) (g : Pos) :
    s.released.tg.get g = { s.tg.get g with nextTimer := (s.released.tg.get g).nextTimer } ∧
      (∃ k, (s.released.tg.get g).nextTimer = k * s.released.o (Obj.TG_PERIOD g.val) + s.released.o (Obj.TG_PHASE g.val)) ∧
      (0 < s.released.o (Obj.TG_PERIOD g.val) → s.released.time.now < (s.released.tg.get g).nextTimer ∧
        (s.released.tg.get g).nextTimer ≤
          max (s.released.o (Obj.TG_PHASE g.val)) (s.released.time.now + s.released.o (Obj.TG_PERIOD g.val))) := by
  have rearm : s.romStarts.romReads.keeps [.tg] s.released := s.released_eq ▸ State.rearmTimers_keeps
  have reads : s.romStarts.keeps [.od, .doms, .nv, .sec, .pwr, .free] s.romStarts.romReads := State.romReads_keeps
  have every : g ∈ allPos := by revert g; decide
  have tg : s.romStarts.romReads.tg = s.tg := reads.tg (by decide)
  have armed : s.released.tg.get g = { s.tg.get g with nextTimer := s.romStarts.romReads.timerAt g } := by
    rw [s.released_eq, State.rearmTimer_foldl_tg, if_pos every, tg]
  rw [armed, rearm.time (by decide), State.o_of_od (rearm.od (by decide)), State.o_of_od (rearm.od (by decide))]
  exact ⟨rfl, ⟨_, rfl⟩, s.romStarts.romReads.timerAt_first g⟩

end Sys2Proof.Machine
end

section
/-!
PROOFS. The firmware start (02 R43, 13 R445): the keep array is read, and the host port is enabled as HP_ENABLE says where no start-up set is
named.
-/
namespace Sys2Proof.Machine
set_option Elab.async false

/-! ### The keep array that was read stays read -/

/-- The keep array has been read. -/
structure State.KeepRead (s : State) : Prop where
  ok : s.nv.keepOk = true

namespace State.KeepRead

variable {s u : State}

theorem frame {l : List Part} (h : s.KeepRead) (k : s.keeps l u) (hl : Part.nv ∉ l := by decide) : u.KeepRead :=
  ⟨by rw [k.nv hl, h.ok]⟩

theorem updSec {sec : SecSt} (h : s.KeepRead) : State.KeepRead { s with sec } := ⟨h.ok⟩

theorem ite {c : Prop} [Decidable c] {a b : State} (ha : a.KeepRead) (hb : b.KeepRead) : (if c then a else b).KeepRead := by
  split
  · exact ha
  · exact hb

theorem foldl {α : Type} {f : State → α → State} {l : List α} (h : s.KeepRead) (hf : ∀ s a, s.KeepRead → (f s a).KeepRead) :
    (l.foldl f s).KeepRead := by
  induction l generalizing s with
  | nil => exact h
  | cons a l ih => exact ih (hf s a h)

theorem setO {k : Nat} {v : Int} (h : s.KeepRead) : (s.setO k v).KeepRead := h.frame State.setO_keeps
theorem inc {k : Nat} (h : s.KeepRead) : (s.inc k).KeepRead := h.frame State.inc_keeps
theorem flushLog (h : s.KeepRead) : s.flushLog.KeepRead := .ite h ⟨h.ok⟩
theorem putKeep {a : Nat} {bs : List Byte} (h : s.KeepRead) : (s.putKeep a bs).KeepRead := ⟨h.ok⟩

theorem logRaw {code pos source detail : Nat} {data : List Byte} (h : s.KeepRead) : (s.logRaw code pos source detail data).KeepRead := by
  have room : s.logRoom.KeepRead := .ite h (inc ⟨h.ok⟩)
  have stored : ∀ b, (s.logRoom.logStore b).KeepRead := fun _ => setO (putKeep ⟨room.ok⟩)
  exact .ite h (.ite (stored _).flushLog (stored _))

theorem nvFailed {a : Nat} (h : s.KeepRead) : (s.nvFailed a).KeepRead := logRaw ⟨h.ok⟩
theorem setKeep {a : Nat} {bs : List Byte} (h : s.KeepRead) : (s.setKeep a bs).KeepRead := .ite h.putKeep.nvFailed h.putKeep

theorem setTwoSlot {a n : Nat} (h : s.KeepRead) : (s.setTwoSlot a n).KeepRead := by
  unfold State.setTwoSlot
  split
  exact h.setKeep

theorem slotsBad {a : Nat} (h : s.KeepRead) : (s.slotsBad a).KeepRead := logRaw (inc ⟨h.ok⟩)

/-- Reading the counters reads the keep array. -/
theorem checkCounters (s : State) : s.checkCounters.KeepRead := foldl ⟨rfl⟩ fun _ _ h => h.slotsBad

theorem zeroiseKeys (h : s.KeepRead) : s.zeroiseKeys.KeepRead := by
  unfold State.zeroiseKeys
  extract_lets _ s1 s2
  have h1 : s1.KeepRead := h.foldl fun _ _ h => h.setKeep
  have h2 : s2.KeepRead := h1.setKeep.setKeep
  exact .ite h.updSec (.ite h2.updSec h2.updSec.logRaw)

theorem repairArb (h : s.KeepRead) : s.repairArb.KeepRead := by
  unfold State.repairArb
  extract_lets v s1
  have h1 : s1.KeepRead := h.setTwoSlot.setO
  exact .ite h.setO h1.updSec

end State.KeepRead

/-! ### STARTUP_SET and HP_ENABLE up to the scan of the store -/

namespace State.Shows

variable {s u : State} {k : Nat} {x : Int}

theorem foldlFst {α β : Type} {f : State × α → β → State × α} {l : List β} {c : State × α} (h : c.1.Shows k x)
    (hf : ∀ c b, c.1.Shows k x → (f c b).1.Shows k x) : (l.foldl f c).1.Shows k x := by
  induction l generalizing c with
  | nil => exact h
  | cons b l ih => exact ih (hf c b h)

theorem loadKept (h : s.Shows k x) : s.loadKept.Shows k x := by
  refine setOs (h.foldl_mem fun s i hi h => h.setO ?_) (by simp only [List.forall_mem_cons]; decide)
  exact (by decide : ∀ i ∈ List.range 6, Keep.objects.getD i 0 ∉ statusKeys) i hi

theorem keptCounters (h : s.Shows k x) : s.keptCounters.Shows k x := by
  refine h.setOs ?_
  simp only [List.mem_append, List.mem_map]
  rintro c ((hc | ⟨p, -, rfl⟩) | ⟨p, -, rfl⟩)
  · revert c
    simp only [List.forall_mem_cons]
    decide
  · exact (by decide : ∀ p : Pos, Obj.ECL_SHUT_CYCLES p.val ∉ statusKeys) p
  · exact (by decide : ∀ p : Pos, Obj.ECL_COUNT p.val ∉ statusKeys) p

theorem loadLease (h : s.Shows k x) : s.loadLease.Shows k x := h.setOs (by simp only [List.forall_mem_cons]; decide)
theorem checkCounters (h : s.Shows k x) : s.checkCounters.Shows k x := h.upd.foldl fun _ _ h => h.slotsBad

theorem showStore (h : s.Shows k x) : s.showStore.Shows k x := by
  unfold State.showStore
  split
  · exact h.setOs (by simp only [List.forall_mem_cons]; decide)
  · refine h.setOs ?_
    simp only [List.mem_flatMap, List.mem_cons, List.not_mem_nil, or_false]
    rintro _ ⟨a, -, rfl | rfl⟩ <;> exact array_notStatus (by decide)

theorem judgeKey {r0 r1 : List RecAt} {acc : State × List Repair} {key : Nat} (h : acc.1.Shows k x) :
    (s.judgeKey r0 r1 acc key).1.Shows k x := by
  unfold State.judgeKey
  split
  · exact h
  · extract_lets t
    have judged : t.Shows k x := .ite h.inc.log h
    split
    exacts [judged, judged]

theorem setJournal {j : Journal} {rs : List Repair} (h : s.Shows k x) : (s.setJournal j rs).Shows k x := by
  unfold State.setJournal
  extract_lets _ s1
  have h1 : s1.Shows k x := h.setKeep
  exact showStore h1.upd

theorem scanStore {j : Journal} {rs : List Repair} (h : s.Shows k x) : (s.scanStore j rs).Shows k x := by
  unfold State.scanStore
  extract_lets
  exact setJournal (foldlFst h.upd.incBy.setO fun _ _ h => h.judgeKey)

theorem storeScan (h : s.Shows k x) : s.storeScan.Shows k x := by
  unfold State.storeScan
  extract_lets s1 s2
  have h1 : s1.Shows k x := h.setO
  have h2 : s2.Shows k x := by
    unfold s2
    split
    exacts [(h1.scanStore.frame State.xipScan_frame).frame State.xipScan_frame, h1.showStore]
  exact h2.upd

end State.Shows

end Sys2Proof.Machine
end

section
/-!
PROOFS. The rows from power-on to firmware (02 R41 to R46).
-/
namespace Sys2Proof.Machine
set_option Elab.async false

/-! ### The firmware start -/

def State.firmwareBegins (s : State) : State := { s with boot := { s.boot with phase := .firmware } }

/-- Firmware reads the keep array (13 R445). -/
def State.firmwareReads (s : State) : State :=
  (s.loadKept.keptCounters.loadLease.setO Obj.BOOT_STATUS ((s.bootWord : Nat) : Int)).checkCounters

/-- The host port as it is asked for. -/
def State.hostPortAsAsked (s : State) : State := { s with host := { s.host with enabled := s.hostPortAsked } }

/-- Keys and the roll-back counter are seen to. -/
def State.keysSeenTo (s : State) : State := (if s.sec.zeroise then s.zeroiseKeys else s).repairArb

/-- The domains that stay on come on. -/
def State.quietOn (s : State) : State :=
  (([46, 47, 67, 68, 58, 59] : List Nat).foldl (fun s d => if s.quietDomain d then s.wantOn d else s) s.flashRelax).debugDomain

theorem exec_stewardFirmwareStart {s : State} (t : Nat) (verified : s.boot.phase = .verified) : exec (.stewardFirmwareStart t) s =
    .next (s.advance t).firmwareBegins.firmwareReads.hostPortAsAsked.keysSeenTo.quietOn := by
  show execStewardFirmwareStart t s = _
  unfold execStewardFirmwareStart State.quietOn State.keysSeenTo State.hostPortAsAsked State.firmwareReads State.firmwareBegins
  exact if_neg (not_not_intro verified)

section
variable {s : State} {k : Nat} {x : Int}

theorem State.firmwareReads_keeps : s.keeps [.od, .nv, .free] s.firmwareReads := by
  unfold State.firmwareReads
  exact State.checkCounters_frame.last (by decide) (State.setO_keeps.last (by decide) (State.loadLease_frame.last (by decide)
    (State.keptCounters_frame.last (by decide) (State.loadKept_frame.last (by decide) State.keeps_refl))))

theorem State.Shows.firmwareReads (h : s.Shows k x) : s.firmwareReads.Shows k x := by
  unfold State.firmwareReads
  exact h.loadKept.keptCounters.loadLease.setO.checkCounters

theorem State.updHost_keeps {host : HostSt} : s.keeps [.host] { s with host } := State.keeps_mk State.keeps_refl

theorem State.hostPortAsAsked_keeps : s.keeps [.host] s.hostPortAsAsked := State.updHost_keeps

theorem State.keysSeenTo_keeps : s.keeps [.od, .nv, .sec, .free] s.keysSeenTo := by
  unfold State.keysSeenTo
  exact State.repairArb_frame.last (by decide) (State.keeps_ite State.zeroiseKeys_frame State.keeps_refl)

theorem State.KeepRead.keysSeenTo (h : s.KeepRead) : s.keysSeenTo.KeepRead := .repairArb (.ite h.zeroiseKeys h)

theorem State.quietOn_keeps : s.keeps [.od, .hk, .pwr] s.quietOn := by
  unfold State.quietOn
  exact State.debugDomain_frame.last (by decide) (State.keeps_foldl
    (fun _ _ => State.keeps_ite (State.wantOn_frame.last (by decide) State.keeps_refl) State.keeps_refl) State.flashRelax_frame)

/-- Where no start-up set is named, none is applied. -/
theorem State.startupSet_unnamed (unnamed : 7 < s.o Obj.STARTUP_SET) : s.startupSet = s := by
  unfold State.startupSet
  exact if_pos unnamed

/-- And the host port is asked for as HP_ENABLE says (02 R46). -/
theorem State.hostPortAsked_unnamed (unnamed : 7 < s.o Obj.STARTUP_SET) : s.hostPortAsked = s.ob Obj.HP_ENABLE := by
  have named : s.storeScan.o Obj.STARTUP_SET = s.o Obj.STARTUP_SET := by
    rw [State.o, (State.Shows.storeScan s.shows_self).val, State.o]
  rw [State.hostPortAsked, State.startupSet_unnamed (by rw [named]; exact unnamed), State.ob, State.o,
    (State.Shows.storeScan s.shows_self).val, State.ob, State.o]

theorem State.hostPortAsAsked_enabled (unnamed : 7 < s.o Obj.STARTUP_SET) : s.hostPortAsAsked.host.enabled = s.ob Obj.HP_ENABLE := by
  rw [State.hostPortAsAsked, State.hostPortAsked_unnamed unnamed]

end

/-- Firmware has started (02 R43). -/
theorem State.firmwareStart_spec (s : State) :
    s.firmwareReads.hostPortAsAsked.keysSeenTo.quietOn.boot = s.boot ∧
      (7 < s.o Obj.STARTUP_SET → s.firmwareReads.hostPortAsAsked.keysSeenTo.quietOn.host.enabled = s.ob Obj.HP_ENABLE) ∧
      s.firmwareReads.hostPortAsAsked.keysSeenTo.quietOn.nv.keepOk = true ∧
      s.keeps [.od, .nv, .host, .sec, .hk, .pwr, .free] s.firmwareReads.hostPortAsAsked.keysSeenTo.quietOn := by
  have parts : s.keeps [.od, .nv, .host, .sec, .hk, .pwr, .free] s.firmwareReads.hostPortAsAsked.keysSeenTo.quietOn :=
    State.quietOn_keeps.last (by decide) (State.keysSeenTo_keeps.last (by decide) (State.hostPortAsAsked_keeps.last (by decide)
      (State.firmwareReads_keeps.mono (by decide))))
  have read : s.firmwareReads.KeepRead := State.KeepRead.checkCounters _
  refine ⟨parts.boot (by decide), fun unnamed => ?_, ?_, parts⟩
  · have set : s.firmwareReads.o Obj.STARTUP_SET = s.o Obj.STARTUP_SET := by
      rw [State.o, (State.Shows.firmwareReads s.shows_self).val, State.o]
    rw [State.quietOn_keeps.host (by decide), State.keysSeenTo_keeps.host (by decide),
      State.hostPortAsAsked_enabled (by rw [set]; exact unnamed), State.ob, State.o, (State.Shows.firmwareReads s.shows_self).val,
      State.ob, State.o]
  · exact ((read.frame State.hostPortAsAsked_keeps).keysSeenTo.frame State.quietOn_keeps).ok

/-! ### Power and the resets -/

/-- VIN has reached its threshold, with the input switch closed. -/
def State.vinUp (s : State) (p : PowerSt) : State := { s with boot := { s.boot with vinAt := s.time.mono }, pwr := p }

theorem exec_vinRise {s : State} (held : Bool) (t : Nat) (off : s.boot.phase = .off) :
    ∃ p : PowerSt, p.vin = 34000 ∧ p.swOpen = false ∧
      exec (.vinRise held t) s = .next (((s.advance t).resetLogic (if held then 4 else 0)).vinUp p) :=
  ⟨_, rfl, rfl, (if_neg (not_not_intro off) : execVinRise held t s = _)⟩

/-- The rise of VIN resets the module that was off, by power-on or, with the rails held, by brown-out (02 R41, R42). -/
theorem State.vinRise_spec (s : State) (held : Bool) (p : PowerSt) :
    ((s.resetLogic (if held then 4 else 0)).vinUp p).boot.phase = .reset ∧
      ((s.resetLogic (if held then 4 else 0)).vinUp p).boot.cause = (if held then 4 else 0) ∧
      ((s.resetLogic (if held then 4 else 0)).vinUp p).boot.vinAt = s.time.mono ∧
      ((s.resetLogic (if held then 4 else 0)).vinUp p).boot.resetN = s.boot.resetN ∧
      ((s.resetLogic (if held then 4 else 0)).vinUp p).mem.dram = [] := by
  have lost : State.losesDram (if held then 4 else 0) = true := by cases held <;> rfl
  have dram := s.resetLogic_dram_lost lost
  have leaves := s.resetLogic_leaves (if held then 4 else 0)
  generalize s.resetLogic (if held then 4 else 0) = z at dram leaves ⊢
  unfold State.vinUp
  dsimp only
  rw [leaves.boot, leaves.mono]
  exact ⟨rfl, rfl, rfl, rfl, dram⟩

/-- RESET_N is low. -/
def State.resetNLow (s : State) : State := { s with boot := { s.boot with resetN := false } }

theorem exec_resetNAssert (s : State) (t : Nat) : exec (.resetNAssert t) s =
    .next (if (s.advance t).boot.phase = .off ∨ (s.advance t).boot.phase = .reset then s.advance t
      else (s.advance t).resetLogic 1).resetNLow := rfl

/-- RESET_N resets a module that has started. -/
theorem State.resetNAssert_spec (s : State) : (s.resetLogic 1).resetNLow.boot.phase = .reset ∧
    (s.resetLogic 1).resetNLow.boot.cause = 1 ∧ (s.resetLogic 1).resetNLow.mem.dram = s.mem.dram := by
  have dram := s.resetLogic_dram_kept (cause := 1) rfl
  have leaves := s.resetLogic_leaves 1
  generalize s.resetLogic 1 = z at dram leaves ⊢
  unfold State.resetNLow
  dsimp only
  rw [leaves.boot]
  exact ⟨rfl, rfl, dram⟩

theorem State.updBoot_keeps {s : State} {boot : BootSt} : s.keeps [.boot] { s with boot } := State.keeps_mk State.keeps_refl

/-! ### The release and the image check -/

theorem exec_internalResetRelease {s : State} {t : Nat} (reset : s.boot.phase = .reset) (high : s.boot.resetN = true)
    (noTrip : s.boot.trip = false) (late : s.boot.vinAt + 2000000 ≤ (s.advance t).time.mono) :
    exec (.internalResetRelease t) s = .next (s.advance t).released := by
  show execInternalResetRelease t s = _
  exact if_pos ⟨reset, high, noTrip, late⟩

/-- The ROM accepts the slot whose turn it is (02 R43). -/
def State.slotAccepted (s : State) : State := { s with
  boot := { s.boot with phase := .verified, slot := s.slotToTry, svn := s.imageSvn s.slotToTry, version := s.imageVersion s.slotToTry } }

/-- The ROM refuses it, and tries the other one or holds in boot recovery. -/
def State.slotRefused (s : State) : State :=
  { s with boot := { s.boot with tried := s.boot.tried + 1, phase := if s.boot.tried = 0 then .rom else .recovery } }

theorem State.imageOk_advance (s : State) (t slot : Nat) : (s.advance t).imageOk slot = s.imageOk slot := by
  have bytes : ∀ a n, (s.advance t).flashBytes 0 a n = s.flashBytes 0 a n := fun _ _ => rfl
  have hash : (s.advance t).sec.fwHash = s.sec.fwHash := rfl
  simp only [State.imageOk, bytes, hash]

theorem State.imageSvn_advance (s : State) (t slot : Nat) : (s.advance t).imageSvn slot = s.imageSvn slot := rfl

theorem State.arbValue_advance (s : State) (t : Nat) : (s.advance t).arbValue = s.arbValue := by
  have keep : (s.advance t).keep Keep.arb 32 = s.keep Keep.arb 32 := rfl
  have cycle : (s.advance t).lifecycle = s.lifecycle := rfl
  simp only [State.arbValue, State.imageOk_advance, State.imageSvn_advance, keep, cycle]

/-- The check of a slot is a matter of the images and the keep array, not of the time. -/
theorem State.slotOkay_advance (s : State) (t : Nat) : (s.advance t).slotOkay (s.advance t).slotToTry = s.slotOkay s.slotToTry := by
  have turn : (s.advance t).slotToTry = s.slotToTry := rfl
  rw [turn, State.slotOkay, State.imageOk_advance, State.arbValue_advance, State.imageSvn_advance, State.slotOkay]

theorem exec_firmwareImageCheck {s : State} (t : Nat) (rom : s.boot.phase = .rom) : exec (.firmwareImageCheck t) s =
    .next (if s.slotOkay s.slotToTry = true then (s.advance t).slotAccepted else (s.advance t).slotRefused.slotsFailed) := by
  rw [← s.slotOkay_advance t, apply_ite Host.Outcome.next]
  show execFirmwareImageCheck t s = _
  unfold execFirmwareImageCheck State.slotAccepted State.slotRefused
  exact if_neg (not_not_intro rom)

theorem State.slotsFailed_boot (s : State) : s.slotsFailed.boot = s.boot := State.slotsFailed_frame.boot (by decide)

/-- A slot that is not the second to fail leaves the ROM at work. -/
theorem State.slotsFailed_tries {s : State} (h : s.boot.phase ≠ .recovery) : s.slotsFailed = s := if_neg h

/-- Settles O11: row by row, by what each of them writes; the generators' timers and the firmware start by lemmas of their own. -/
theorem powerOnToFirmware : Obligations.PowerOnToFirmware := by
  unfold Obligations.PowerOnToFirmware
  intro s t
  refine ⟨fun held off => ?_, ?_, ?_, fun reset high noTrip late => ?_, fun rom => ?_, ?_, fun verified => ?_⟩
  · obtain ⟨p, vin, switch, runs⟩ := exec_vinRise held t off
    obtain ⟨phase, cause, vinAt, resetN, dram⟩ := (s.advance t).vinRise_spec held p
    exact ⟨_, runs, phase, cause, vinAt, resetN, vin, switch, dram⟩
  · refine ⟨_, exec_resetNAssert s t, rfl, fun on started => ?_⟩
    have started1 : ¬((s.advance t).boot.phase = .off ∨ (s.advance t).boot.phase = .reset) := not_or.mpr ⟨on, started⟩
    rw [if_neg started1]
    exact (s.advance t).resetNAssert_spec
  · exact ⟨_, rfl, rfl, State.updBoot_keeps.last (by decide) (State.advance_keeps.mono (by decide))⟩
  · obtain ⟨phase, tR, bootMono, tried, active⟩ := (s.advance t).released_rom
    exact ⟨_, exec_internalResetRelease reset high noTrip late, phase, tR, bootMono, tried, active,
      State.released_frame.last rfl (State.advance_keeps.mono rfl), fun g => (s.advance t).released_timers g⟩
  · refine ⟨_, exec_firmwareImageCheck t rom, fun ok => ?_, fun bad => ?_⟩
    · rw [if_pos ok]
      exact ⟨rfl, rfl, State.updBoot_keeps.last (by decide) (State.advance_keeps.mono (by decide))⟩
    · rw [if_neg (by rw [bad]; decide), State.slotsFailed_boot]
      refine ⟨rfl, rfl, fun first => ?_⟩
      have tries : (s.advance t).slotRefused.boot.phase = .rom := if_pos first
      rw [State.slotsFailed_tries (by rw [tries]; decide)]
      exact State.updBoot_keeps.last (by decide) (State.advance_keeps.mono (by decide))
  · exact ⟨_, rfl, rfl, State.updBoot_keeps.last (by decide) (State.advance_keeps.mono (by decide))⟩
  · obtain ⟨boot, enabled, read, parts⟩ := (s.advance t).firmwareBegins.firmwareStart_spec
    refine ⟨_, exec_stewardFirmwareStart t verified, ?_, enabled, read, ?_⟩
    · rw [boot]
      rfl
    · exact parts.last rfl (State.updBoot_keeps.last rfl (State.advance_keeps.mono rfl))

end Sys2Proof.Machine
end

section
/-!
PROOFS. The counter-clear commands (03 R124 and its sisters): each puts the counters of its index ranges back to what they read at
power-on.
-/
namespace Sys2Proof.Machine
set_option Elab.async false

/-- The key lies in one of the index ranges. -/
abbrev inRanges (l : List (Nat × Nat)) (k : Nat) : Prop := ∃ r ∈ l, r.1 ≤ k / 256 ∧ k / 256 ≤ r.2

theorem State.clearCounters_keeps {s : State} {l : List (Nat × Nat)} : s.keeps [.od] (s.clearCounters l) :=
  State.keeps_foldl (fun _ _ => State.clearIdx_keeps) State.keeps_refl

/-- One index range cleared. -/
theorem State.clearIdx_oi {s : State} (h : s.Canonical) (i0 i1 k : Nat) :
    (s.clearIdx i0 i1).oi k = if i0 ≤ k / 256 ∧ k / 256 ≤ i1 then Obj.dflt k else s.oi k := by
  rw [State.oi_clearIdx s h.od]
  exact if_congr (by omega) rfl rfl

/-- An object of the ranges reads its default, every other as before. -/
theorem State.clearCounters_oi {s : State} (h : s.Canonical) (l : List (Nat × Nat)) (k : Nat) :
    (inRanges l k → (s.clearCounters l).oi k = Obj.dflt k) ∧ (¬ inRanges l k → (s.clearCounters l).oi k = s.oi k) := by
  induction l generalizing s with
  | nil => exact ⟨fun ⟨_, hr, _⟩ => absurd hr List.not_mem_nil, fun _ => rfl⟩
  | cons r l ih =>
    obtain ⟨inside, outside⟩ := ih (h.clearIdx (i0 := r.1) (i1 := r.2))
    have first := State.clearIdx_oi h r.1 r.2 k
    have split : inRanges (r :: l) k ↔ (r.1 ≤ k / 256 ∧ k / 256 ≤ r.2) ∨ inRanges l k := by simp [inRanges]
    refine ⟨fun hit => ?_, fun miss => ?_⟩
    · by_cases later : inRanges l k
      · exact inside later
      · rw [if_pos ((split.mp hit).resolve_right later)] at first
        exact (outside later).trans first
    · rw [split, not_or] at miss
      rw [if_neg miss.1] at first
      exact (outside miss.2).trans first

/-- A port that no PAUSE holds has no held time to count anew. -/
theorem State.restartHold_idle {s : State} {b : Bool} (h : (s.outPort b).pausedUntil = none) : s.restartHold b = s := by
  simp only [State.restartHold, h, Option.isSome_none, Bool.false_eq_true, if_false]

/-- What an instruction does as the counter-clear command of the key, with its index ranges; the command of the output counters is
OUT_CNT_CLEAR alone. -/
def State.Clears (s : State) (via : Via) (v t : Nat) (x : Instr × List (Nat × Nat)) : Prop :=
  ∃ key, isExpertKey key = false ∧ exec x.1 s = .next (s.runCommand via key t (State.cmdClear key x.2 via v)) ∧
    (key = Obj.OUT_CNT_CLEAR → x.1 = .outCntClear via v t)

theorem State.Clears.intro {s : State} {via : Via} {v t : Nat} {x : Instr × List (Nat × Nat)} (key : Nat)
    (basic : isExpertKey key = false) (other : key ≠ Obj.OUT_CNT_CLEAR)
    (runs : exec x.1 s = .next (s.runCommand via key t (State.cmdClear key x.2 via v))) : s.Clears via v t x :=
  ⟨key, basic, runs, fun same => absurd same other⟩

/-- A counter-clear command clears its ranges on the state it finds. -/
theorem State.Clears.exec_eq {s : State} {via : Via} {v t : Nat} {c : Instr} {l : List (Nat × Nat)} (h : s.Clears via v t (c, l))
    (level : s.admits via 1 t) (hv : v < 256) (idle : c = .outCntClear via v t → ∀ b, (s.outPort b).pausedUntil = none) :
    exec c s = .next ((s.found via t).clearCounters l) := by
  obtain ⟨key, basic, runs, out⟩ := h
  rw [runs]
  refine congrArg _ ((State.runCommand_done level (decide_eq_true (show v < 256 ^ 1 from hv)) _).trans ?_)
  rw [State.markExpert_basic _ basic]
  split
  · next same =>
    have ports : ∀ b, (((s.found via t).clearCounters l).outPort b).pausedUntil = none := fun b => by
      have kept : s.keeps [.od, .time, .bar0, .chain, .host] ((s.found via t).clearCounters l) :=
        State.clearCounters_keeps.last (by decide) State.found_keeps
      rw [State.outPort, kept.out0 (by decide), kept.out1 (by decide)]
      exact idle (out same) b
    rw [State.restartHold_idle (ports false), State.restartHold_idle (ports true)]
  · rfl

/-- Settles O34: every row of the table runs the command of its key, which clears its ranges on the state it finds. -/
theorem countersClear : Obligations.CountersClear := by
  unfold Obligations.CountersClear
  intro s via v t sound level hv c l row idle
  have h : (s.found via t).Canonical := (State.canonical_iff_objectsOk.mpr sound.1).found via t
  have clears : s.Clears via v t (c, l) := by
    revert row
    generalize (c, l) = x
    revert x
    simp only [List.forall_mem_cons]
    exact ⟨.intro Obj.INT_CNT_CLEAR rfl (by decide) rfl, .intro Obj.CORR_CNT_CLEAR rfl (by decide) rfl,
      .intro Obj.TAIL_CNT_CLEAR rfl (by decide) rfl, .intro Obj.MERGE_CNT_CLEAR rfl (by decide) rfl,
      .intro Obj.RAD_CNT_CLEAR rfl (by decide) rfl, .intro Obj.ECL_CNT_CLEAR rfl (by decide) rfl,
      .intro Obj.INTG_CNT_CLEAR rfl (by decide) rfl, .intro Obj.TIME_CNT_CLEAR rfl (by decide) rfl,
      .intro Obj.TRIG_CNT_CLEAR rfl (by decide) rfl, ⟨Obj.OUT_CNT_CLEAR, rfl, rfl, fun _ => rfl⟩,
      .intro Obj.CHAIN_CNT_CLEAR rfl (by decide) rfl, .intro Obj.MEM_CNT_CLEAR rfl (by decide) rfl,
      .intro Obj.HP_CNT_CLEAR rfl (by decide) rfl, .intro Obj.NV_CNT_CLEAR rfl (by decide) rfl,
      .intro Obj.SP_CNT_CLEAR rfl (by decide) rfl, .intro Obj.HK_CNT_CLEAR rfl (by decide) rfl,
      .intro Obj.THERM_CNT_CLEAR rfl (by decide) rfl, .intro Obj.PWR_CNT_CLEAR rfl (by decide) rfl,
      fun _ none => absurd none List.not_mem_nil⟩
  refine ⟨_, clears.exec_eq level hv idle, fun k hit => ?_, fun k miss => ?_, State.clearCounters_keeps⟩
  · exact (State.clearCounters_oi h l k).1 hit
  · refine (State.clearCounters_oi h l k).2 ?_
    rintro ⟨r, hr, low, high⟩
    rcases miss r hr with below | above <;> omega

end Sys2Proof.Machine
end

section
/-!
PROOFS. Reading rules for the intake family: members of a quad other than the one written, and the objects that operations may write,
chained one after another.
-/
namespace Sys2Proof.Machine

theorem Quad.get_set_of_ne {α : Type} (q : Quad α) {p r : Pos} (a : α) (h : r ≠ p) : (q.set p a).get r = q.get r := by
  rw [Quad.get_set, if_neg h]

theorem Quad.get_upd_of_ne {α : Type} (q : Quad α) {p r : Pos} (f : α → α) (h : r ≠ p) : (q.upd p f).get r = q.get r :=
  Quad.get_set_of_ne q _ h

namespace State.sameBut

variable {ks ls : List Nat} {s t u : State}

theorem refl : s.sameBut ks s := fun _ _ => rfl
theorem of_od (e : u.od = s.od) : s.sameBut ks u := fun k _ => State.oi_eq_of_od e k
theorem trans (h : s.sameBut ks t) (k : t.sameBut ks u) : s.sameBut ks u := fun j hj => (k j hj).trans (h j hj)
theorem mono (h : s.sameBut ks u) (hs : ks ⊆ ls) : s.sameBut ls u := fun j hj => h j fun hk => hj (hs hk)
theorem inc {k : Nat} : s.sameBut [k] (s.inc k) := State.sameBut_setO s k _

/-- An object that is not among those written. -/
theorem oi (h : s.sameBut ks u) {k : Nat} (hk : k ∉ ks) : u.oi k = s.oi k := h k hk

end State.sameBut

/-- A relation of states that every step of a fold has, along its first member. -/
theorem foldl_fst_rel {α β : Type} {R : State → State → Prop} {f : State × β → α → State × β} {l : List α} {x : State × β}
    (refl : ∀ s, R s s) (trans : ∀ {s t u}, R s t → R t u → R s u) (hf : ∀ x, ∀ a ∈ l, R x.1 (f x a).1) : R x.1 (l.foldl f x).1 := by
  induction l generalizing x with
  | nil => exact refl _
  | cons a l ih => exact trans (hf x a List.mem_cons_self) (ih fun x b hb => hf x b (List.mem_cons_of_mem a hb))

/-- A counter that an event raises. -/
theorem State.oi_inc_same {s : State} (h : s.Canonical) (k : Nat) : (s.inc k).oi k = clampI 0 0xFFFFFFFF (s.oi k + 1) :=
  State.oi_setO_same h.od k _

end Sys2Proof.Machine
end

section
/-!
PROOFS. Lanes and the alignment of their groups (03 R75 to R81).
-/
namespace Sys2Proof.Machine
set_option Elab.async false

variable {s u : State} {g lane place raw t : Nat}

/-! ### A lane that is written -/

theorem State.lane_of_lanes (e : u.lanes = s.lanes) (l : Nat) : u.lane l = s.lane l := by rw [State.lane, e, State.lane]

theorem State.lane_setLane_of_ne (s : State) (x : Lane) {l j : Nat} (h : j ≠ l) : (s.setLane l x).lane j = s.lane j := by
  simp [State.lane, State.setLane, List.getD_eq_getElem?_getD, h.symm]

theorem State.lane_setLane_same {l : Nat} (h : l < s.lanes.length) (x : Lane) : (s.setLane l x).lane l = x := by
  simp [State.lane, State.setLane, List.getD_eq_getElem?_getD, h]

/-- A write beyond the lanes changes nothing. -/
theorem State.lane_setLane (s : State) (l : Nat) (x : Lane) (j : Nat) :
    (s.setLane l x).lane j = s.lane j ∨ j = l ∧ (s.setLane l x).lane j = x := by
  by_cases h : j = l
  · subst h
    by_cases inside : j < s.lanes.length
    · exact .inr ⟨rfl, State.lane_setLane_same inside x⟩
    · exact .inl (by rw [State.lane, State.setLane, List.set_eq_of_length_le (Nat.le_of_not_lt inside), State.lane])
  · exact .inl (State.lane_setLane_of_ne s x h)

theorem State.setLane_length (s : State) (l : Nat) (x : Lane) : (s.setLane l x).lanes.length = s.lanes.length := List.length_set

/-! ### The lanes of a group -/

theorem State.groupAligned_of_aligned (e : u.aligned = s.aligned) (g : Nat) : u.groupAligned g = s.groupAligned g := by
  rw [State.groupAligned, e, State.groupAligned]

theorem State.inForce_of_modes (e : u.modes = s.modes) (k : Nat) : u.inForce k = s.inForce k := by rw [State.inForce, e, State.inForce]

theorem State.lanesOf_of_modes (e : u.modes = s.modes) (g : Nat) : u.lanesOf g = s.lanesOf g := by
  rw [State.lanesOf, State.inForce_of_modes e, State.lanesOf]

theorem State.mem_lanesOf : lane ∈ s.lanesOf g ↔ lane < 8 ∧ s.groupOfLane lane = some g := by
  simp [State.lanesOf, groupLanes, State.groupOfLane]

theorem State.mem_stripes : lane ∈ s.stripes g ↔ lane ∈ s.lanesOf g := by
  unfold State.stripes
  split
  · exact List.mem_reverse
  · exact Iff.rfl

theorem State.stripes_nodup (s : State) (g : Nat) : (s.stripes g).Nodup := by
  have order : (s.lanesOf g).Nodup := List.nodup_range.filter _
  unfold State.stripes
  split
  · exact List.nodup_reverse.mpr order
  · exact order

/-- A stripe index is below the number of lanes. -/
theorem State.stripeOf_lt (s : State) (g lane : Nat) : s.stripeOf g lane < 256 := by
  have few : (s.lanesOf g).length ≤ 8 := (List.length_filter_le _ _).trans (by simp)
  have fewer := List.length_filter_le (fun x => decide (x < lane)) (s.lanesOf g)
  unfold State.stripeOf
  dsimp only
  split <;> omega

/-! ### A loss of alignment (03 R81) -/

/-- The markers of the lanes of a list are gone; block lock stays. -/
theorem State.clearMarkers_lane (ls : List Nat) (s : State) (j : Nat) :
    let u := ls.foldl (fun s l => s.setLane l { s.lane l with marker := none }) s
    u.lanes.length = s.lanes.length ∧ (u.lane j).block = (s.lane j).block ∧ (u.lane j).scr = (s.lane j).scr ∧
      ((s.lane j).marker = none → (u.lane j).marker = none) := by
  induction ls generalizing s with
  | nil => exact ⟨rfl, rfl, rfl, id⟩
  | cons l ls ih =>
    obtain ⟨length, block, scr, marker⟩ := ih (s.setLane l { s.lane l with marker := none })
    refine ⟨length.trans (State.setLane_length _ _ _), ?_⟩
    rcases State.lane_setLane s l { s.lane l with marker := none } j with same | ⟨rfl, written⟩
    · rw [same] at block scr marker
      exact ⟨block, scr, marker⟩
    · rw [written] at block scr marker
      exact ⟨block, scr, fun _ => marker rfl⟩

/-- What a loss of alignment leaves of lanes, alignment and objects. -/
structure State.LosesAlignment (s : State) (g : Nat) (u : State) : Prop where
  aligned : u.groupAligned g = false
  length : u.lanes.length = s.lanes.length
  block : ∀ j, (u.lane j).block = (s.lane j).block
  marker : ∀ j, (s.lane j).marker = none → (u.lane j).marker = none
  od : u.od = if s.groupAligned g then (s.inc (Obj.MSL_GROUP_REALIGN g)).od else s.od

theorem State.loseAlignment_loses (s : State) (g : Nat) : s.LosesAlignment g (s.loseAlignment g) := by
  unfold State.loseAlignment
  extract_lets s1 link s2
  have cleared := State.clearMarkers_lane (s2.lanesOf g) s2
  have kept : s2.keeps [.lanes] ((s2.lanesOf g).foldl (fun s l => s.setLane l { s.lane l with marker := none }) s2) :=
    State.keeps_foldl (fun _ _ => State.setLane_frame) State.keeps_refl
  have before : s2.groupAligned g = false ∧ s2.lanes = s.lanes ∧
      s2.od = if s.groupAligned g then (s.inc (Obj.MSL_GROUP_REALIGN g)).od else s.od := by
    unfold s2 link s1
    by_cases h : s.groupAligned g = true
    · simp only [h, if_true]
      exact ⟨Quad.get_set_self _ _ _, rfl, rfl⟩
    · simp only [h]
      exact ⟨Bool.eq_false_iff.mpr h, rfl, rfl⟩
  obtain ⟨aligned, lanes, od⟩ := before
  refine ⟨?_, ?_, fun j => ?_, fun j => ?_, (kept.od (by decide)).trans od⟩
  · rw [State.groupAligned_of_aligned (kept.aligned (by decide)), aligned]
  · rw [(cleared 0).1, lanes]
  · rw [(cleared j).2.1, State.lane_of_lanes lanes]
  · rw [← State.lane_of_lanes lanes]
    exact (cleared j).2.2.2

theorem State.loseAlignment_sameBut (s : State) (g : Nat) : s.sameBut [Obj.MSL_GROUP_REALIGN g] (s.loseAlignment g) := by
  have od := (s.loseAlignment_loses g).od
  split at od
  · exact State.sameBut.inc.trans (.of_od od)
  · exact .of_od od

/-- A loss of an alignment that stood is counted. -/
theorem State.loseAlignment_counts (h : s.Canonical) (stood : s.groupAligned g = true) :
    (s.loseAlignment g).oi (Obj.MSL_GROUP_REALIGN g) = clampI 0 0xFFFFFFFF (s.oi (Obj.MSL_GROUP_REALIGN g) + 1) := by
  have od := (s.loseAlignment_loses g).od
  rw [if_pos stood] at od
  rw [State.oi_eq_of_od od, State.oi_inc_same h]

/-! ### Markers (03 R79, R80) -/

/-- A group with a lane that has no marker does not align. -/
theorem State.tryAlign_unmarked (hl : lane ∈ s.lanesOf g) (hm : (s.lane lane).marker = none) : s.tryAlign g = s := by
  have missing : none ∈ (s.lanesOf g).map (fun l => if (s.lane l).block then (s.lane l).marker else none) :=
    List.mem_map.mpr ⟨lane, hl, by rw [hm, ite_self]⟩
  unfold State.tryAlign
  split
  · next p rest same =>
    rw [same] at missing
    refine if_neg fun all => ?_
    have hit := List.all_eq_true.mp all none (by simpa using missing)
    cases hit
  · rfl

/-- A marker of another stripe takes the alignment of the group away, and its lane has none. -/
theorem State.takeMarker_wrong {stripe : Nat} (hl : lane ∈ s.lanesOf g) (length : s.lanes.length = 8) (wrong : stripe ≠ s.stripeOf g lane) :
    (s.takeMarker lane g stripe place).groupAligned g = false ∧ ((s.takeMarker lane g stripe place).lane lane).marker = none := by
  have bad : (stripe == s.stripeOf g lane) = false := beq_false_of_ne wrong
  simp only [State.takeMarker, bad, Bool.and_false, Bool.false_and, Bool.false_eq_true, if_false]
  have lost : (if s.groupAligned g = true then s.loseAlignment g else s).groupAligned g = false ∧
      (if s.groupAligned g = true then s.loseAlignment g else s).lanes.length = 8 ∧
      (if s.groupAligned g = true then s.loseAlignment g else s).modes = s.modes := by
    split
    · exact ⟨(s.loseAlignment_loses g).aligned, (s.loseAlignment_loses g).length.trans length, State.loseAlignment_frame.modes (by decide)⟩
    · next h => exact ⟨Bool.eq_false_iff.mpr h, length, rfl⟩
  generalize (if s.groupAligned g = true then s.loseAlignment g else s) = w at lost
  obtain ⟨aligned, eight, modes⟩ := lost
  have written := State.lane_setLane_same (s := w) (eight ▸ (State.mem_lanesOf.mp hl).1) { w.lane lane with marker := none }
  have mine : lane ∈ (w.setLane lane { w.lane lane with marker := none }).lanesOf g := by
    rwa [State.lanesOf_of_modes (State.setLane_frame.modes (by decide)), State.lanesOf_of_modes modes]
  rw [State.tryAlign_unmarked mine (congrArg Lane.marker written), written]
  exact ⟨aligned, rfl⟩

/-- The marker of the lane's own stripe in a group that is not aligned is remembered at its place. -/
theorem State.takeMarker_right (length : lane < s.lanes.length) (loose : s.groupAligned g = false) :
    ((s.takeMarker lane g (s.stripeOf g lane) place).lane lane).marker = some place ∧
      s.keeps [.lanes, .aligned] (s.takeMarker lane g (s.stripeOf g lane) place) := by
  simp only [State.takeMarker, loose, Bool.false_and, Bool.false_eq_true, if_false, beq_self_eq_true, if_true]
  refine ⟨?_, State.tryAlign_frame.last (by decide) (State.setLane_frame.mono (by decide))⟩
  rw [State.lane_of_lanes (State.tryAlign_frame.lanes (by decide)), State.lane_setLane_same length]

/-- The marker that an aligned group expects changes nothing. -/
theorem State.takeMarker_expected (stands : s.groupAligned g = true) (here : (s.lane lane).marker = some place) :
    s.takeMarker lane g (s.stripeOf g lane) place = s := by
  simp [State.takeMarker, stands, here]

/-! ### A block of a lane (03 R78) -/

/-- A block has been received on the lane: the descrambler holds its bits. -/
def State.shifted (s : State) (lane raw : Nat) : State :=
  let w := if bitAt (s.inForce Obj.MSL_LANE_INVERT).toNat lane then Nat.xor raw (2 ^ 66 - 1) else raw
  s.setLane lane { s.lane lane with scr := (descramble (s.lane lane).scr (w / 4)).2 }

theorem State.shifted_keeps : s.keeps [.lanes] (s.shifted lane raw) := State.setLane_frame

theorem State.shifted_lane (length : lane < s.lanes.length) :
    (s.shifted lane raw).lane lane = { s.lane lane with scr := ((s.shifted lane raw).lane lane).scr } := by
  unfold State.shifted
  rw [State.lane_setLane_same length]

theorem State.shifted_other {j : Nat} (h : j ≠ lane) : (s.shifted lane raw).lane j = s.lane j := State.lane_setLane_of_ne s _ h

/-- Without block lock there are no blocks; with it, a block is taken by its type. -/
theorem State.blockIn_eq (s : State) (g lane place raw : Nat) : s.blockIn g lane place raw =
    if !((s.shifted lane raw).lane lane).block then (s.shifted lane raw, []) else
      match s.blockAt lane raw with
      | .marker stripe good => ((s.shifted lane raw).takeMarker lane g (if good then stripe else 256) place, [])
      | .invalid => ((s.shifted lane raw).inc (Obj.MSL_LANE_ERR lane)).takeBlock g .invalid
      | b => (s.shifted lane raw).takeBlock g b := rfl

theorem State.shifted_block (length : lane < s.lanes.length) (lock : (s.lane lane).block = true) :
    ((s.shifted lane raw).lane lane).block = true := by
  rw [State.shifted_lane length]
  exact lock

theorem State.blockIn_marker {stripe : Nat} {good : Bool} (length : lane < s.lanes.length) (lock : (s.lane lane).block = true)
    (block : s.blockAt lane raw = .marker stripe good) :
    s.blockIn g lane place raw = ((s.shifted lane raw).takeMarker lane g (if good then stripe else 256) place, []) := by
  simp only [State.blockIn_eq, State.shifted_block length lock, block, Bool.not_true, Bool.false_eq_true, if_false]

/-- An invalid block of a group without alignment only counts. -/
theorem State.blockIn_invalid (length : lane < s.lanes.length) (lock : (s.lane lane).block = true)
    (loose : s.groupAligned g = false) (block : s.blockAt lane raw = .invalid) :
    s.blockIn g lane place raw = ((s.shifted lane raw).inc (Obj.MSL_LANE_ERR lane), []) := by
  have still : ((s.shifted lane raw).inc (Obj.MSL_LANE_ERR lane)).groupAligned g = false := loose
  simp only [State.blockIn_eq, State.shifted_block length lock, block, Bool.not_true, Bool.false_eq_true, if_false, State.takeBlock, still,
    Bool.not_false, if_true]

/-- The objects that a block may write: the errors of its lane and the realignments of its group. -/
theorem State.blockIn_sameBut (s : State) (g lane place raw : Nat) :
    s.sameBut [Obj.MSL_LANE_ERR lane, Obj.MSL_GROUP_REALIGN g] (s.blockIn g lane place raw).1 := by
  have shifted : s.sameBut [Obj.MSL_LANE_ERR lane, Obj.MSL_GROUP_REALIGN g] (s.shifted lane raw) :=
    .of_od (State.shifted_keeps.od (by decide))
  have marked (w : State) (stripe : Nat) :
      w.sameBut [Obj.MSL_LANE_ERR lane, Obj.MSL_GROUP_REALIGN g] (w.takeMarker lane g stripe place) := by
    unfold State.takeMarker
    extract_lets good w1
    have lost : w.sameBut [Obj.MSL_LANE_ERR lane, Obj.MSL_GROUP_REALIGN g] w1 := by
      unfold w1
      split
      · exact (w.loseAlignment_sameBut g).mono (by simp)
      · exact .refl
    split
    · exact .refl
    · exact lost.trans (.of_od (State.tryAlign_frame.od (by decide)))
  rw [State.blockIn_eq]
  split
  · exact shifted
  · split
    · exact shifted.trans (marked _ _)
    · exact shifted.trans ((State.sameBut.inc.mono (by simp)).trans (.of_od (State.takeBlock_frame.od (by decide))))
    · exact shifted.trans (.of_od (State.takeBlock_frame.od (by decide)))

/-! ### Blocks of a burst (03 R79, R82) -/

theorem State.receiveBlocks_keeps {b : LaneBlocks} : s.keeps [.od, .lanes, .aligned, .link] (s.receiveBlocks g b).1 :=
  foldl_fst_rel (x := (s, [])) (fun _ => State.keeps_refl) State.keeps.trans fun _ _ _ => State.blockIn_frame

theorem State.mem_inOrder {b : LaneBlocks} {e : Nat × Nat × Nat} (h : e ∈ s.inOrder g b) : e.1 < 8 := by
  simp only [State.inOrder, List.mem_flatMap, List.mem_filterMap, Option.map_eq_some_iff] at h
  obtain ⟨-, -, l, hl, -, -, rfl⟩ := h
  exact (State.mem_lanesOf.mp (State.mem_stripes.mp hl)).1

theorem State.receiveBlocks_sameBut (s : State) (g : Nat) (b : LaneBlocks) :
    s.sameBut ((List.range 8).map Obj.MSL_LANE_ERR ++ [Obj.MSL_GROUP_REALIGN g]) (s.receiveBlocks g b).1 := by
  refine foldl_fst_rel (x := (s, [])) (fun _ => .refl) State.sameBut.trans fun x e he => ?_
  refine (x.1.blockIn_sameBut g e.1 e.2.1 e.2.2).mono ?_
  simpa using .inl (State.mem_inOrder he)

/-- In a list of lanes that names one lane once, what that lane alone has is had once. -/
theorem lone_lane {α : Type} {ls : List Nat} (order : ls.Nodup) (here : lane ∈ ls) {f : Nat → List α} {x : α} (mine : f lane = [x])
    (other : ∀ l, l ≠ lane → f l = []) :
    (ls.map (fun l => (f l).length)).foldl max 0 = 1 ∧ ∀ i : Nat, ls.filterMap (fun l => ((f l)[0]?).map (fun w => (l, i, w))) = [(lane, i, x)] := by
  obtain ⟨before, after, rfl⟩ := List.append_of_mem here
  obtain ⟨-, tail, apart⟩ := List.nodup_append.mp order
  have clear : ∀ ls : List Nat, lane ∉ ls → (∀ n, (ls.map (fun l => (f l).length)).foldl max n = n) ∧
      ∀ i : Nat, ls.filterMap (fun l => ((f l)[0]?).map (fun w => (l, i, w))) = [] := by
    intro ls
    induction ls with
    | nil => exact fun _ => ⟨fun _ => rfl, fun _ => rfl⟩
    | cons l ls ih =>
      intro away
      obtain ⟨head, rest⟩ := not_or.mp (mt List.mem_cons.mpr away)
      simpa [other l (Ne.symm head)] using ih rest
  obtain ⟨none1, none2⟩ := clear before fun h => apart lane h lane List.mem_cons_self rfl
  obtain ⟨none3, none4⟩ := clear after (List.nodup_cons.mp tail).1
  exact ⟨by simp [none1, none3, mine], fun i => by simp [none2, none4, mine]⟩

/-- One block on one lane of a group, in a burst of its own. -/
theorem State.receive_one (hl : lane < 8) (hg : s.groupOfLane lane = some g) (hp : place < 16384)
    (alone : (s.blockIn g lane place raw).2 = []) :
    s.receive g { place := place, lanes := List.replicate lane [] ++ [[raw]] } = (s.blockIn g lane place raw).1 := by
  have here : lane ∈ s.stripes g := State.mem_stripes.mpr (State.mem_lanesOf.mpr ⟨hl, hg⟩)
  have mine : (List.replicate lane [] ++ [[raw]]).getD lane [] = [raw] := by
    rw [List.getD_append_right _ _ _ _ (by simp)]
    simp
  have other (l : Nat) (h : l ≠ lane) : (List.replicate lane [] ++ [[raw]]).getD l [] = [] := by
    rcases Nat.lt_or_gt_of_ne h with below | above
    · rw [List.getD_append _ _ _ _ (by simpa using below), List.getD_replicate _ below]
    · exact List.getD_eq_default _ _ (by simpa using above)
  obtain ⟨rows, blocks⟩ := lone_lane (s.stripes_nodup g) here mine other
  have one : s.inOrder g { place := place, lanes := List.replicate lane [] ++ [[raw]] } = [(lane, place, raw)] := by
    simp only [State.inOrder, rows, List.range_one, List.flatMap_cons, List.flatMap_nil, List.append_nil, Nat.add_zero,
      Nat.mod_eq_of_lt hp]
    exact blocks place
  simp [State.receive, State.receiveBlocks, one, alone]

/-! ### The rows -/

theorem exec_alignmentMarker (s : State) (lane raw place t : Nat) (hl : lane < 8) (hg : s.groupOfLane lane = some g) (hp : place < 16384)
    (alone : ((s.advance t).blockIn g lane place raw).2 = []) :
    exec (.alignmentMarker lane raw place t) s = .next ((s.advance t).blockIn g lane place raw).1 := by
  have group : (s.advance t).groupOfLane lane = some g := hg
  show execAlignmentMarker lane raw place t s = _
  simp only [execAlignmentMarker, group, State.receive_one hl group hp alone]

/-- A marker is taken on the state that its block leaves. -/
theorem exec_alignmentMarker_marker {stripe : Nat} {good : Bool} (t : Nat) (hl : lane < 8) (length : s.lanes.length = 8)
    (hg : s.groupOfLane lane = some g) (hp : place < 16384) (lock : (s.lane lane).block = true)
    (block : s.blockAt lane raw = .marker stripe good) : exec (.alignmentMarker lane raw place t) s =
      .next (((s.advance t).shifted lane raw).takeMarker lane g (if good then stripe else 256) place) := by
  have here : (s.advance t).blockIn g lane place raw = _ :=
    State.blockIn_marker (s := s.advance t) (by rw [show (s.advance t).lanes = s.lanes from rfl, length]; exact hl) lock block
  rw [exec_alignmentMarker s lane raw place t hl hg hp (by rw [here]), here]

/-- An invalid block of a group without alignment is counted on the state that it leaves. -/
theorem exec_alignmentMarker_invalid (t : Nat) (hl : lane < 8) (length : s.lanes.length = 8) (hg : s.groupOfLane lane = some g)
    (hp : place < 16384) (lock : (s.lane lane).block = true) (loose : s.groupAligned g = false) (block : s.blockAt lane raw = .invalid) :
    exec (.alignmentMarker lane raw place t) s = .next (((s.advance t).shifted lane raw).inc (Obj.MSL_LANE_ERR lane)) := by
  have here : (s.advance t).blockIn g lane place raw = _ :=
    State.blockIn_invalid (s := s.advance t) (by rw [show (s.advance t).lanes = s.lanes from rfl, length]; exact hl) lock loose block
  rw [exec_alignmentMarker s lane raw place t hl hg hp (by rw [here]), here]

/-- The blocks of a burst arrive, and the packets they complete are taken in order, whatever row brings them. -/
theorem State.delivers.exec_eq {s r : State} {grp t : Nat} {b : LaneBlocks} {pkts : List Packet} (h : s.delivers grp b t pkts r) :
    ∀ c ∈ [Instr.mslFrameStart grp b t, .mslRowPacket grp b t, .mslFrameEnd grp b t],
      exec c s = .next (pkts.foldl (fun s pkt => s.onPacket grp pkt) r) := by
  have received : (s.advance t).receive grp b = pkts.foldl (fun s pkt => s.onPacket grp pkt) r := by
    rw [State.receive, show (s.advance t).receiveBlocks grp b = (r, pkts) from h]
  simp only [List.forall_mem_cons]
  exact ⟨congrArg _ received, congrArg _ received, congrArg _ received, fun _ none => absurd none List.not_mem_nil⟩

theorem exec_laneBlockLock (t : Nat) (hl : lane < 8) (used : s.laneUsed lane = true) (powered : s.domOn lane = true) :
    exec (.laneBlockLock lane t) s = .next ((s.advance t).setLane lane { s.lane lane with cdr := true, block := true }) :=
  if_pos ⟨hl, used, powered⟩

/-- The lane without lock and marker, before its group follows. -/
def State.unlocked (s : State) (lane : Nat) : State := s.setLane lane { s.lane lane with block := false, marker := none }

theorem exec_laneBlockLockLoss (t : Nat) (hl : lane < 8) (hg : s.groupOfLane lane = some g) :
    exec (.laneBlockLockLoss lane t) s = .next (((s.advance t).unlocked lane).loseAlignment g) := by
  have group : ((s.advance t).unlocked lane).groupOfLane lane = some g := hg
  unfold State.unlocked at group ⊢
  show execLaneBlockLockLoss lane t s = _
  simp only [execLaneBlockLockLoss, if_pos hl, group]

theorem exec_laneBlockLockLoss_alone (t : Nat) (hl : lane < 8) (hg : s.groupOfLane lane = none) :
    exec (.laneBlockLockLoss lane t) s = .next ((s.advance t).unlocked lane) := by
  have group : ((s.advance t).unlocked lane).groupOfLane lane = none := hg
  unfold State.unlocked at group ⊢
  show execLaneBlockLockLoss lane t s = _
  simp only [execLaneBlockLockLoss, if_pos hl, group]

/-- Block lock of a lane is lost, and with it the alignment of the lane's group. -/
theorem exec_laneBlockLockLoss_runs (h : s.Canonical) (length : s.lanes.length = 8) (t : Nat) (hl : lane < 8) :
    Runs (exec (.laneBlockLockLoss lane t) s) (fun u =>
      (u.lane lane).block = false ∧ (u.lane lane).marker = none ∧ s.keeps [.od, .time, .lanes, .aligned, .link] u ∧
        (∀ g, s.groupOfLane lane = some g → u.groupAligned g = false ∧ s.sameBut [Obj.MSL_GROUP_REALIGN g] u ∧
          (s.groupAligned g = true →
            u.oi (Obj.MSL_GROUP_REALIGN g) = clampI 0 0xFFFFFFFF (s.oi (Obj.MSL_GROUP_REALIGN g) + 1)))) := by
  have written : ((s.advance t).unlocked lane).lane lane = { s.lane lane with block := false, marker := none } :=
    State.lane_setLane_same (s := s.advance t) (length ▸ hl) _
  have kept : s.keeps [.time, .lanes] ((s.advance t).unlocked lane) :=
    State.setLane_frame.last (by decide) (State.advance_keeps.mono (by decide))
  cases group : s.groupOfLane lane with
  | none =>
    refine ⟨_, exec_laneBlockLockLoss_alone t hl group, by rw [written], by rw [written], kept.mono (by decide), ?_⟩
    rintro g ⟨⟩
  | some g =>
    have lost := State.loseAlignment_loses ((s.advance t).unlocked lane) g
    refine ⟨_, exec_laneBlockLockLoss t hl group, ?_, ?_, ?_, ?_⟩
    · rw [lost.block, written]
    · exact lost.marker lane (by rw [written])
    · exact State.loseAlignment_frame.last (by decide) (kept.mono (by decide))
    · rintro _ ⟨⟩
      exact ⟨lost.aligned, State.loseAlignment_sameBut _ g,
        State.loseAlignment_counts (s := (s.advance t).unlocked lane) (h.frame State.advance_keeps |>.frame State.setLane_frame)⟩

/-- Settles O17: the locks by what they write of the lane, a loss by what a loss of alignment leaves, markers by what a marker of the wrong,
the right and the expected stripe does to the state that its block leaves, and blocks by the frame and the objects of each. -/
theorem lanesAndGroupAlignment : Obligations.LanesAndGroupAlignment := by
  unfold Obligations.LanesAndGroupAlignment
  intro s lane t sound hl
  obtain ⟨objects, -, length, -⟩ := sound
  have h : s.Canonical := State.canonical_iff_objectsOk.mpr objects
  have inside : lane < (s.advance t).lanes.length := length ▸ hl
  refine ⟨fun used powered => ?lock, exec_laneBlockLockLoss_runs h length t hl,
    fun g raw place hg lock hp => ⟨fun stripe good block => ?marker, fun block loose => ?invalid⟩, fun grp b _ none c hc => ?blocks⟩
  case lock =>
    have written := State.lane_setLane_same (s := s.advance t) inside { s.lane lane with cdr := true, block := true }
    refine ⟨_, exec_laneBlockLock t hl used powered, by rw [written], by rw [written], by rw [written], fun j hj => ?_, ?_⟩
    · exact State.lane_setLane_of_ne (s.advance t) _ hj
    · exact State.setLane_frame.last (by decide) (State.advance_keeps.mono (by decide))
  case marker =>
    have taken := exec_alignmentMarker_marker t hl length hg hp lock block
    have kept : s.keeps [.time, .lanes] ((s.advance t).shifted lane raw) :=
      State.shifted_keeps.last (by decide) (State.advance_keeps.mono (by decide))
    have mine : lane ∈ ((s.advance t).shifted lane raw).lanesOf g := State.mem_lanesOf.mpr ⟨hl, hg⟩
    have eight : ((s.advance t).shifted lane raw).lanes.length = 8 := (State.setLane_length _ _ _).trans length
    have here : ((s.advance t).shifted lane raw).stripeOf g lane = s.stripeOf g lane := rfl
    refine ⟨fun wrong => ⟨_, taken, State.takeMarker_wrong mine eight ?_⟩, ?_, ?_⟩
    · rw [here]
      have index := s.stripeOf_lt g lane
      rcases wrong with rfl | other
      · exact Nat.ne_of_gt index
      · split
        · exact other
        · exact Nat.ne_of_gt index
    · rintro rfl rfl loose
      rw [if_pos rfl, ← here] at taken
      obtain ⟨marker, keeps⟩ := State.takeMarker_right (s := (s.advance t).shifted lane raw) (place := place) (eight ▸ hl) loose
      exact ⟨_, taken, marker, keeps.last (by decide) (kept.mono (by decide))⟩
    · rintro rfl rfl stands place_
      have same := State.shifted_lane (s := s.advance t) (raw := raw) inside
      have expected := State.takeMarker_expected (s := (s.advance t).shifted lane raw) stands (by rw [same]; exact place_)
      rw [if_pos rfl, ← here, expected] at taken
      exact ⟨_, taken, same, fun j hj => State.shifted_other hj, kept⟩
  case invalid =>
    have kept : s.keeps [.time, .lanes] ((s.advance t).shifted lane raw) :=
      State.shifted_keeps.last (by decide) (State.advance_keeps.mono (by decide))
    have od : ((s.advance t).shifted lane raw).od = s.od := kept.od (by decide)
    refine ⟨_, exec_alignmentMarker_invalid t hl length hg hp lock loose block, ?_, ?_, ?_⟩
    · rw [State.oi_inc_same (h.frame kept), State.oi_eq_of_od od]
    · exact (State.sameBut.of_od od).trans .inc
    · exact State.inc_keeps.last (by decide) (kept.mono (by decide))
  case blocks =>
    have delivered : s.delivers grp b t [] ((s.advance t).receiveBlocks grp b).1 := Prod.ext rfl none
    refine ⟨_, delivered.exec_eq c hc, rfl, ?_, ?_⟩
    · exact State.receiveBlocks_keeps.last (by decide) (State.advance_keeps.mono (by decide))
    · exact State.receiveBlocks_sameBut (s.advance t) grp b

end Sys2Proof.Machine
end

section
/-!
PROOFS. The open frame of a position: packets that count and go, packets of the frame, and its close (03 R86 to R104).
-/
namespace Sys2Proof.Machine
set_option Elab.async false

variable {s u w : State} {p k : Pos} {f g : OpenFrame} {n : Nat}

/-! ### Objects of the intake through the operations of other chapters -/

/-- The object `k` of the intake (03, the objects at 0x20) reads as `x`. -/
structure State.IntakeReads (k : Nat) (x : Int) (s : State) : Prop where
  key : k / 65536 = 0x20
  val : s.oi k = x

namespace State.IntakeReads

variable {j : Nat} {x y : Int}

theorem of_od (h : s.IntakeReads n x) (e : u.od = s.od) : u.IntakeReads n x := ⟨h.key, (State.oi_eq_of_od e n).trans h.val⟩

/-- An operation whose frame law leaves the dictionary. -/
theorem frame {l : List Part} (h : s.IntakeReads n x) (kept : s.keeps l u) (hl : Part.od ∉ l := by decide) : u.IntakeReads n x :=
  h.of_od (kept.od hl)

theorem ite {c : Prop} [Decidable c] {a b : State} (ha : a.IntakeReads n x) (hb : b.IntakeReads n x) :
    (if c then a else b).IntakeReads n x := by
  split
  · exact ha
  · exact hb

/-- A write of an object of another chapter. -/
theorem setO (h : s.IntakeReads n x) (other : j / 65536 ≠ 0x20 := by decide) : (s.setO j y).IntakeReads n x :=
  ⟨h.key, (State.oi_setO_of_ne s y (by rintro rfl; exact other h.key)).trans h.val⟩

/-- A write of an object that a position has of its own in another chapter. -/
theorem setPos {base : Nat} (h : s.IntakeReads n x) (other : ∀ q : Pos, (base + 1 * q.val) / 65536 ≠ 0x20 := by decide) :
    (s.setO (base + 1 * p.val) y).IntakeReads n x := h.setO (other p)

theorem incPos {base : Nat} (h : s.IntakeReads n x) (other : ∀ q : Pos, (base + 1 * q.val) / 65536 ≠ 0x20 := by decide) :
    (s.inc (base + 1 * p.val)).IntakeReads n x := h.setPos other

theorem eclEarly {result : Nat} (h : s.IntakeReads n x) : (s.eclEarly p result).IntakeReads n x := by
  have counted : ((s.setO (Obj.ECL_LAST_RESULT p.val) result).inc (Obj.ECL_CNT_ABORT p.val)).IntakeReads n x := h.setPos.incPos
  exact .ite (.setPos (counted.of_od rfl)) (.ite (.setPos (counted.of_od rfl)) (.setPos (counted.of_od rfl)))

theorem eclClosed {f : OpenFrame} (h : s.IntakeReads n x) : (s.eclClosed p f).IntakeReads n x :=
  .ite h (.ite (.ite (eclEarly (incPos (h.of_od rfl))) (incPos (h.of_od rfl))) (.ite (setPos (h.of_od rfl)) (.ite (eclEarly (h.of_od rfl)) (h.of_od rfl))))

theorem vdetFollow (h : s.IntakeReads n x) : (s.vdetFollow p).IntakeReads n x := .ite (.ite (h.of_od rfl) (setPos (h.of_od rfl))) h

theorem notifySend {code pos : Nat} {fs : List (Nat × Nat)} (h : s.IntakeReads n x) : (s.notifySend code pos fs).IntakeReads n x :=
  .ite h.setO (h.of_od rfl)

/-- A NOTIFY writes the objects of its log and of its sequence (10 R381). -/
theorem notify {code pos : Nat} {fs : List (Nat × Nat)} (h : s.IntakeReads n x) : (s.notify code pos fs).IntakeReads n x := by
  have room : s.logRoom.IntakeReads n x := .ite h (setO (h.of_od rfl))
  have stored (b : List Byte) : (s.logRoom.logStore b).IntakeReads n x := setO (room.of_od rfl)
  have logged : (s.log code pos fs).IntakeReads n x := .ite h ((stored _).frame State.logLimit_keeps)
  exact .ite h (((logged.frame State.raise_keeps).setO.frame State.notifyWindow_keeps).notifySend)

end State.IntakeReads

/-! ### Rows that join the open frame -/

/-- The objects that rows of the open frame of a position, and what completes its shape, may write. -/
def openRowKeys (p : Pos) : List Nat :=
  [Obj.INT_BUF_PEAK, Obj.INT_CNT_COLS_FILLED p.val, Obj.INT_CNT_ROWS_FILLED p.val, Obj.INT_CNT_TRUNC p.val, Obj.INT_CNT_ROIC p.val,
    Obj.INT_CNT_SHORT p.val, Obj.INT_CNT_LONG p.val, Obj.INT_CNT_NO_START, Obj.INT_CNT_DROPPED p.val]

/-- Rows, flags and readouts of the position's open frame may differ, and the objects of its rows: which frame it is, its heritage row, the
closed frames and the intakes of the other positions do not. -/
structure State.SameFrame (p : Pos) (s u : State) : Prop where
  frm : (u.intake.get p).frm.map (fun f => (f.num, f.hpRow)) = (s.intake.get p).frm.map (fun f => (f.num, f.hpRow))
  ended : (u.intake.get p).ended = (s.intake.get p).ended
  other : ∀ q, q ≠ p → u.intake.get q = s.intake.get q
  objects : s.sameBut (openRowKeys p) u
  canonical : s.Canonical → u.Canonical

theorem State.setIntake_same (s : State) (p : Pos) (i : IntakePos) : (s.setIntake p i).intake.get p = i := Quad.get_set_self _ _ _

theorem State.setIntake_other {q : Pos} (s : State) (i : IntakePos) (h : q ≠ p) : (s.setIntake p i).intake.get q = s.intake.get q :=
  Quad.get_set_of_ne _ i h

theorem State.setOpen_frm (s : State) (p : Pos) (f : OpenFrame) : ((s.setOpen p f).intake.get p).frm = some f :=
  congrArg IntakePos.frm (s.setIntake_same p { s.intake.get p with frm := some f })

theorem State.setOpen_fifo (s : State) (p : Pos) (f : OpenFrame) : ((s.setOpen p f).intake.get p).fifo = (s.intake.get p).fifo := by
  rw [State.setOpen, State.setIntake_same]

theorem State.setOpen_other {q : Pos} (s : State) (f : OpenFrame) (h : q ≠ p) : (s.setOpen p f).intake.get q = s.intake.get q :=
  s.setIntake_other _ h

namespace State.SameFrame

theorem refl : s.SameFrame p s := ⟨rfl, rfl, fun _ _ => rfl, .refl, id⟩

theorem ite {c : Prop} [Decidable c] {a b : State} (ha : s.SameFrame p a) (hb : s.SameFrame p b) : s.SameFrame p (if c then a else b) := by
  split
  · exact ha
  · exact hb

theorem foldl {α : Type} {step : State → α → State} {l : List α} (h : s.SameFrame p u)
    (hs : ∀ u a, s.SameFrame p u → s.SameFrame p (step u a)) : s.SameFrame p (l.foldl step u) := by
  induction l generalizing u with
  | nil => exact h
  | cons a l ih => exact ih (hs u a h)

theorem setO {j : Nat} {y : Int} (h : s.SameFrame p u) (hj : j ∈ openRowKeys p := by simp [openRowKeys]) : s.SameFrame p (u.setO j y) :=
  ⟨h.frm, h.ended, h.other, h.objects.trans ((State.sameBut_setO u j y).mono (by simpa using hj)), fun c => (h.canonical c).setO⟩

theorem incBy {j : Nat} (h : s.SameFrame p u) (hj : j ∈ openRowKeys p := by simp [openRowKeys]) : s.SameFrame p (u.incBy j n) := h.setO hj
theorem inc {j : Nat} (h : s.SameFrame p u) (hj : j ∈ openRowKeys p := by simp [openRowKeys]) : s.SameFrame p (u.inc j) := h.setO hj

/-- The intake of the position is written, but neither which frame is open nor the closed frames. -/
theorem setIntake {i : IntakePos} (h : s.SameFrame p u)
    (frm : i.frm.map (fun f => (f.num, f.hpRow)) = (u.intake.get p).frm.map (fun f => (f.num, f.hpRow)) := by rfl)
    (ended : i.ended = (u.intake.get p).ended := by rfl) : s.SameFrame p (u.setIntake p i) :=
  ⟨by rw [State.setIntake_same, frm, h.frm], by rw [State.setIntake_same, ended, h.ended],
    fun q hq => (State.setIntake_other u i hq).trans (h.other q hq), h.objects.trans (.of_od rfl),
    fun c => (h.canonical c).frame State.setIntake_frame⟩

theorem setOpen (h : s.SameFrame p u) (open_ : (u.intake.get p).frm = some f) (num : g.num = f.num := by rfl)
    (hpRow : g.hpRow = f.hpRow := by rfl) : s.SameFrame p (u.setOpen p g) :=
  h.setIntake (by rw [open_, Option.map_some, Option.map_some, num, hpRow])

theorem push {r : RowPkt} (h : s.SameFrame p u) : s.SameFrame p (u.push p r) := .ite h.setIntake.setO h.setIntake

theorem fillRow (h : s.SameFrame p u) : s.SameFrame p (u.fillRow p k) := by
  unfold State.fillRow
  split
  · exact h
  · next open_ =>
    dsimp only
    split
    · exact .ite (h.setOpen open_).incBy.push h
    · exact h

theorem fillRows {row : Nat} (h : s.SameFrame p u) : s.SameFrame p (u.fillRows p k row) := by
  unfold State.fillRows
  split
  · exact h
  · next open_ => exact .ite ((h.setOpen open_).incBy.foldl fun _ _ h => h.push) h

theorem truncate (h : s.SameFrame p u) : s.SameFrame p (u.truncate p n) := by
  unfold State.truncate
  split
  · next open_ => exact .ite h (h.setOpen open_).incBy
  · exact h

/-- The frame that is open afterwards is the frame that was. -/
theorem open_ (h : s.SameFrame p u) (was : (s.intake.get p).frm = some f) :
    ∃ g, (u.intake.get p).frm = some g ∧ g.num = f.num ∧ g.hpRow = f.hpRow := by
  have same := h.frm
  rw [was, Option.map_some, Option.map_eq_some_iff] at same
  obtain ⟨g, hg, pair⟩ := same
  exact ⟨g, hg, congrArg Prod.fst pair, congrArg Prod.snd pair⟩

end State.SameFrame

/-- The open frame that a step later reads again, with the one before as what it falls back to. -/
theorem State.SameFrame.getD (h : s.SameFrame p u) (was : (s.intake.get p).frm = some f) :
    (u.intake.get p).frm = some ((u.intake.get p).frm.getD g) ∧ ((u.intake.get p).frm.getD g).num = f.num ∧
      ((u.intake.get p).frm.getD g).hpRow = f.hpRow := by
  obtain ⟨x, hx, num, hpRow⟩ := h.open_ was
  rw [hx]
  exact ⟨rfl, num, hpRow⟩

theorem State.push_fifo (s : State) (p : Pos) (r : RowPkt) : ((s.push p r).intake.get p).fifo = (s.intake.get p).fifo ++ [r] := by
  have joined := congrArg IntakePos.fifo (s.setIntake_same p { s.intake.get p with fifo := (s.intake.get p).fifo ++ [r] })
  unfold State.push
  dsimp only
  split
  · exact joined
  · exact joined

/-- A packet of an open frame that stays open joins the buffer as its last. -/
structure State.Joins (s : State) (p k : Pos) (row : Nat) (fault : Bool) (u : State) : Prop extends s.SameFrame p u where
  last : ∃ f x, (s.intake.get p).frm = some f ∧ (u.intake.get p).fifo.getLast? = some x ∧ x.num = f.num ∧ x.slot = k.val ∧ x.row = row ∧
    x.synth = false ∧ x.invalid = fault

theorem State.acceptRow_joins {row col0 bytes : Nat} {data : List Nat} {fault shared : Bool} {subt : Option Nat}
    (open_ : (s.intake.get p).frm = some f) : s.Joins p k row fault (s.acceptRow p k row col0 data fault subt shared bytes) := by
  unfold State.acceptRow
  split
  · next none => exact absurd (none.symm.trans open_) (by simp)
  · next f0 here =>
    obtain rfl : f0 = f := Option.some.inj (here.symm.trans open_)
    extract_lets again s1 f1 x next lost at_ keep s2 f2 gap f3 s3 s4 s5
    have h1 : s.SameFrame p s1 := .ite .refl (State.SameFrame.refl.fillRow.fillRows)
    have h2 : s.SameFrame p s2 := h1.truncate
    obtain ⟨read, num, hpRow⟩ := h2.getD (g := f1) open_
    have h3 : s.SameFrame p s3 := (h2.setOpen read).incBy
    have h4 : s.SameFrame p s4 := .ite h3.push h3
    have h5 : s.SameFrame p s5 := .ite h4.inc h4
    exact ⟨h5.push, f0, _, open_, by rw [State.push_fifo, List.getLast?_concat], num, rfl, rfl, rfl, rfl⟩

/-! ### The close of a frame (03 R89) -/

/-- What the close of the open frame of a position leaves. -/
structure State.Closes (s : State) (p : Pos) (f : OpenFrame) (cause : Nat) (u : State) : Prop where
  frm : (u.intake.get p).frm = none
  last : u.o (Obj.INT_LAST_CLOSE p.val) = cause
  ended : ∃ g, (u.intake.get p).ended = (s.intake.get p).ended ++ [g] ∧ g.num = f.num ∧ g.close = cause ∧ g.closedAt = s.time.now
  other : ∀ q, q ≠ p → u.intake.get q = s.intake.get q
  unsolicited : u.oi (Obj.INT_CNT_UNSOLICITED p.val) = s.oi (Obj.INT_CNT_UNSOLICITED p.val)

theorem State.intakeClose_closes (h : s.Canonical) (open_ : (s.intake.get p).frm = some f) (cause : Nat) :
    s.Closes p f cause (s.intakeClose p cause s.time.now) := by
  unfold State.intakeClose
  split
  · next none => exact absurd (none.symm.trans open_) (by simp)
  · next f0 here =>
    obtain rfl : f0 = f := Option.some.inj (here.symm.trans open_)
    extract_lets s1 f1 s2 s3 s4 s5
    have h1 : s.SameFrame p s1 := State.SameFrame.refl.foldl fun _ _ h => h.fillRow.fillRows
    obtain ⟨read, num, hpRow⟩ := h1.getD (g := f0) open_
    have h2 : s.SameFrame p s2 := .ite h1.inc h1
    have h3 : s.SameFrame p s3 := .ite h2.inc h2
    have h4 : s.SameFrame p s4 := .ite h3 h3.inc
    have h5 : s.SameFrame p s5 := .ite h4.inc h4
    have other := (by decide : ∀ q : Pos, Obj.INT_CNT_UNSOLICITED q.val ∉ openRowKeys q ∧
      Obj.INT_CNT_UNSOLICITED q.val ≠ Obj.INT_LAST_CLOSE q.val) p
    refine ⟨?_, State.o_setO_nat ((h5.canonical h).frame State.setIntake_frame).od _ _,
      ⟨{ f1 with close := cause, closedAt := s.time.now }, ?_, num, rfl, rfl⟩, fun q hq => ?_, ?_⟩
    · exact congrArg IntakePos.frm (State.setIntake_same _ _ _)
    · rw [← h5.ended]
      exact congrArg IntakePos.ended (State.setIntake_same _ _ _)
    · exact (State.setIntake_other s5 _ hq).trans (h5.other q hq)
    · rw [State.oi_setO_of_ne _ _ other.2]
      exact h5.objects.oi other.1

/-- What follows the close in the intake neither reopens the frame nor writes objects of the intake. -/
theorem State.frameClosed_closes (h : s.Canonical) (open_ : (s.intake.get p).frm = some f) (cause : Nat) :
    s.Closes p f cause (s.frameClosed p cause) := by
  obtain ⟨frm, last, ended, other, unsolicited⟩ := State.intakeClose_closes h open_ cause
  unfold State.frameClosed
  extract_lets s1 s2 s3
  have after (k : Nat) (hk : k / 65536 = 0x20) : (((s3.vdetTrim p).outsClose p).computeHeld p).IntakeReads k (s1.oi k) := by
    have h1 : s1.IntakeReads k (s1.oi k) := ⟨hk, rfl⟩
    have h2 : s2.IntakeReads k (s1.oi k) := by
      unfold s2
      split
      · exact h1.eclClosed
      · exact h1
    have h3 : s3.IntakeReads k (s1.oi k) := .ite (h2.vdetFollow.frame State.openBlank_frame) h2
    exact ((h3.frame State.vdetTrim_frame).frame State.outsClose_frame).frame State.computeHeld_frame
  have kept : s1.keeps [.emitted, .od, .fpa, .sp0, .vdet, .ecl, .shut, .trig, .trigOut] (((s3.vdetTrim p).outsClose p).computeHeld p) := by
    have k2 : s1.keeps [.emitted, .od, .fpa, .sp0, .vdet, .ecl, .shut, .trig, .trigOut] s2 := by
      unfold s2
      split
      · exact State.eclClosed_frame.mono (by decide)
      · exact State.keeps_refl
    refine State.computeHeld_frame.last (by decide) (State.outsClose_frame.last (by decide) (State.vdetTrim_frame.last (by decide) ?_))
    exact State.keeps_ite (State.openBlank_frame.last (by decide) (State.vdetFollow_frame.last (by decide) k2)) k2
  have intake := kept.intake (by decide)
  refine ⟨by rw [intake, frm], ?_, by rw [intake]; exact ended, fun q hq => by rw [intake, other q hq], ?_⟩
  · rw [State.o, (after _ ((by decide : ∀ q : Pos, Obj.INT_LAST_CLOSE q.val / 65536 = 0x20) p)).val]
    exact last
  · rw [(after _ ((by decide : ∀ q : Pos, Obj.INT_CNT_UNSOLICITED q.val / 65536 = 0x20) p)).val]
    exact unsolicited

/-! ### Closes that no packet asks for (03 R89, R101) -/

theorem execIntIdleTimeout_closes (t : Nat) (open_ : (s.intake.get p).frm = some f) : execIntIdleTimeout p t s =
    if f.lastAt + f.timeout ≤ (s.advance t).time.now then .next ((s.advance t).frameClosed p 3) else .next (s.advance t) := by
  have still : ((s.advance t).intake.get p).frm = some f := open_
  simp only [execIntIdleTimeout, still]

theorem execIntakeForcedClose_closes {r : Running} {t : Nat} (open_ : (s.intake.get p).frm = some f) (running : s.modes.running = some r)
    (standby : r.target = 0) (due : r.act + 20000000 ≤ (s.advance t).time.now) :
    execIntakeForcedClose p t s = .next ((s.advance t).frameClosed p 3) := by
  have still : ((s.advance t).intake.get p).frm = some f := open_
  have runs : (s.advance t).modes.running = some r := running
  simp only [execIntakeForcedClose, runs, standby, due, still, Option.isSome_some, and_self, if_true]

/-- Settles O21: both closes are the close of the open frame with TIMEOUT, on the state at their time. -/
theorem framesCloseOnTheirOwn : Obligations.FramesCloseOnTheirOwn := by
  unfold Obligations.FramesCloseOnTheirOwn
  intro s t p f sound open_
  have h : (s.advance t).Canonical := (State.canonical_iff_objectsOk.mpr sound.1).frame State.advance_keeps
  obtain ⟨frm, last, ⟨g, ended, num, close, -⟩, -, -⟩ := State.frameClosed_closes h (p := p) (f := f) open_ 3
  refine ⟨fun idle => ⟨_, ?_, frm, last, g, ended, num, close⟩, fun early => ⟨s.advance t, ?_, State.advance_keeps⟩,
    fun r running standby due => ⟨_, ?_, frm, last, g, ended, num, close⟩⟩
  · exact (execIntIdleTimeout_closes t open_).trans (if_pos idle)
  · exact (execIntIdleTimeout_closes t open_).trans (if_neg (Nat.not_le_of_lt early))
  · exact execIntakeForcedClose_closes open_ running standby due

/-! ### A packet of the merged link (03 R86, R87) -/

section
variable {r : State} {grp t : Nat} {b : LaneBlocks} {pkt : List Byte} {malformed : Bool} {c : Instr}

theorem State.onPacket_unbound (hcrc : hcrcOk pkt = true) (unbound : r.boundTo grp (fieldOf (beAt pkt 1 1) 7 4) = none) :
    r.onPacket grp (pkt, malformed) = r.inc (Obj.MSL_UNBOUND grp) := by
  simp only [State.onPacket, State.takePacket, hcrc, Bool.not_true, Bool.false_eq_true, if_false, unbound]

/-- A good packet of a bound position is taken there by its type. -/
theorem State.onPacket_bound (hcrc : hcrcOk pkt = true) (good : pktGood pkt = true)
    (bound : r.boundTo grp (fieldOf (beAt pkt 1 1) 7 4) = some p) : r.onPacket grp (pkt, false) =
      if beAt pkt 0 1 = 1 then r.frameStartPkt p pkt else if beAt pkt 0 1 = 2 then r.rowPkt p pkt else r.frameEndPkt p pkt := by
  simp only [State.onPacket, State.takePacket, hcrc, good, Bool.not_true, Bool.false_or, Bool.false_eq_true, if_false, bound]

theorem State.delivers.eq_fst {pkts : List Packet} (delivered : s.delivers grp b t pkts r) : ((s.advance t).receiveBlocks grp b).1 = r :=
  congrArg Prod.fst (show (s.advance t).receiveBlocks grp b = (r, pkts) from delivered)

theorem State.delivers.canonical {pkts : List Packet} (delivered : s.delivers grp b t pkts r) (h : s.Canonical) : r.Canonical := by
  rw [← delivered.eq_fst]
  exact .receiveBlocks (h.frame State.advance_keeps)

theorem State.delivers.time {pkts : List Packet} (delivered : s.delivers grp b t pkts r) : r.time = (s.advance t).time := by
  rw [← delivered.eq_fst]
  exact State.receiveBlocks_keeps.time (by decide)

/-- Settles O18: the packet only counts, on the state that the blocks leave. -/
theorem unboundPacketsAreDiscarded : Obligations.UnboundPacketsAreDiscarded := by
  unfold Obligations.UnboundPacketsAreDiscarded
  intro s r grp t b pkt malformed sound delivered hcrc unbound c hc
  refine ⟨_, delivered.exec_eq c hc, ?_⟩
  rw [List.foldl_cons, List.foldl_nil, State.onPacket_unbound hcrc unbound]
  exact ⟨State.oi_inc_same (delivered.canonical (State.canonical_iff_objectsOk.mpr sound.1)) _, .inc, State.inc_keeps⟩

/-! ### Packets outside the open frame (03 R90, R91) -/

/-- A packet that no open frame takes is a stray packet. -/
theorem State.onPacket_stray (hcrc : hcrcOk pkt = true) (good : pktGood pkt = true)
    (bound : r.boundTo grp (fieldOf (beAt pkt 1 1) 7 4) = some p)
    (outside : (r.intake.get p).frm = none ∨ ∃ f, (r.intake.get p).frm = some f ∧ beAt pkt 2 2 ≠ f.tag ∧
      (beAt pkt 0 1 ≠ 1 ∨ beAt pkt 2 2 ∈ (r.intake.get p).unsol)) : r.onPacket grp (pkt, false) = r.stray p := by
  rw [State.onPacket_bound hcrc good bound, State.frameStartPkt, State.rowPkt, State.frameEndPkt]
  rcases outside with closed | ⟨f, open_, foreign, known⟩
  · simp only [closed, ite_self]
  · simp only [open_, foreign, if_false]
    split
    · next start => rw [if_pos (List.contains_iff_mem.mpr (known.resolve_left (not_not_intro start)))]
    · exact ite_self _

theorem State.onPacket_unsolicited (hcrc : hcrcOk pkt = true) (good : pktGood pkt = true)
    (bound : r.boundTo grp (fieldOf (beAt pkt 1 1) 7 4) = some p) (start : beAt pkt 0 1 = 1) (open_ : (r.intake.get p).frm = some f)
    (foreign : beAt pkt 2 2 ≠ f.tag) (unknown : beAt pkt 2 2 ∉ (r.intake.get p).unsol) :
    r.onPacket grp (pkt, false) = r.unsolicitedStart p (beAt pkt 2 2) := by
  have no : (r.intake.get p).unsol.contains (beAt pkt 2 2) = false := Bool.eq_false_iff.mpr (mt List.contains_iff_mem.mp unknown)
  rw [State.onPacket_bound hcrc good bound, if_pos start, State.frameStartPkt]
  simp only [open_, foreign, no, if_false, Bool.false_eq_true]

/-- Settles O19: a stray packet only counts; the start of an unknown frame closes the open one, counts, and is known. -/
theorem strayPacketsAreDiscarded : Obligations.StrayPacketsAreDiscarded := by
  unfold Obligations.StrayPacketsAreDiscarded
  intro s r grp t b pkt p sound delivered hcrc good bound c hc
  have h : r.Canonical := delivered.canonical (State.canonical_iff_objectsOk.mpr sound.1)
  have taken := delivered.exec_eq c hc
  rw [List.foldl_cons, List.foldl_nil] at taken
  refine ⟨fun outside => ⟨_, taken, ?_⟩, fun start f open_ foreign unknown => ⟨_, taken, ?_⟩⟩
  · rw [State.onPacket_stray hcrc good bound outside]
    exact ⟨State.oi_inc_same h _, .inc, State.inc_keeps⟩
  · rw [State.onPacket_unsolicited hcrc good bound start open_ foreign unknown]
    obtain ⟨frm, last, -, -, unsolicited⟩ := State.frameClosed_closes h open_ 2
    have apart := (by decide : ∀ q : Pos, Obj.INT_LAST_CLOSE q.val ≠ Obj.INT_CNT_UNSOLICITED q.val) p
    refine ⟨?_, ?_, ?_, ?_⟩
    · rw [State.unsolicitedStart, State.setIntake_same]
      exact frm
    · exact (State.o_setO_of_ne _ _ apart).trans last
    · rw [State.unsolicitedStart, State.setIntake_same]
      exact List.mem_append_right _ (List.mem_singleton_self _)
    · rw [← unsolicited]
      exact State.oi_inc_same h.frameClosed _

/-! ### Packets of the open frame (03 R89, R92, R94, R103) -/

/-- What the check of a FRAME_START leaves: the frame remembers it, and a wrong geometry. -/
theorem State.checkStart_checks (h : s.Canonical) (out : s.checkStart p f pkt = u) :
    ∃ bad : Bool, (bad = true ↔ beAt pkt 16 2 ≠ f.width ∨ beAt pkt 18 2 ≠ f.height ∨ beAt pkt 20 2 % 16 ≠ f.mask) ∧
      (∃ g, (u.intake.get p).frm = some g ∧ g.gotStart = true ∧ g.num = f.num ∧ g.geomBad = (f.geomBad || bad)) ∧
      (bad = true → (u.intake.get p).lastGeom = true ∧
        u.oi (Obj.INT_CNT_GEOM p.val) = clampI 0 0xFFFFFFFF (s.oi (Obj.INT_CNT_GEOM p.val) + 1)) ∧
      (bad = false → u.oi (Obj.INT_CNT_GEOM p.val) = s.oi (Obj.INT_CNT_GEOM p.val)) ∧
      s.sameBut [Obj.INT_CNT_GEOM p.val] u ∧ (∀ q, q ≠ p → u.intake.get q = s.intake.get q) ∧ s.keeps [.od, .intake] u := by
  unfold State.checkStart at out
  extract_lets wrong w at out
  have frm : (w.intake.get p).frm = some _ := s.setOpen_frm p _
  have kept : s.keeps [.od, .intake] w := State.setOpen_frame.mono (by decide)
  by_cases differs : wrong
  · rw [if_pos differs] at out
    subst out
    have marked := w.setIntake_same p { w.intake.get p with lastGeom := true }
    refine ⟨true, iff_of_true rfl differs, ⟨_, (congrArg IntakePos.frm marked).trans frm, rfl, rfl, ?_⟩,
      fun _ => ⟨congrArg IntakePos.lastGeom marked, ?_⟩, by simp, ?_, fun q hq => (w.setIntake_other _ hq).trans (s.setOpen_other _ hq), ?_⟩
    · exact congrArg (f.geomBad || ·) (decide_eq_true differs)
    · exact State.oi_inc_same ((h.frame State.setOpen_frame).frame State.setIntake_frame) _
    · exact .trans (.of_od rfl) .inc
    · exact State.inc_keeps.last (by decide) (State.setIntake_frame.last (by decide) kept)
  · rw [if_neg differs] at out
    subst out
    exact ⟨false, iff_of_false Bool.false_ne_true differs, ⟨_, frm, rfl, rfl, congrArg (f.geomBad || ·) (decide_eq_false differs)⟩, by simp,
      fun _ => rfl, .of_od rfl, fun q hq => s.setOpen_other _ hq, kept⟩

theorem State.takeRow_intake {k : Pos} {row col0 : Nat} {data : List Nat} {fault : Bool} {subt : Option Nat} :
    (s.takeRow p k row col0 data fault subt).intake = (s.offerRow p k row col0 data fault subt).intake := by
  unfold State.takeRow
  dsimp only
  split
  · split
    · exact State.warmRow_frame.intake (by decide)
    · rfl
  · rfl

/-- A row that does not lengthen the buffer is no row of the warm start. -/
theorem State.takeRow_unbuffered {k : Pos} {row col0 : Nat} {data : List Nat} {fault : Bool} {subt : Option Nat}
    (same : ((s.offerRow p k row col0 data fault subt).intake.get p).fifo = (s.intake.get p).fifo) :
    s.takeRow p k row col0 data fault subt = s.offerRow p k row col0 data fault subt := by
  unfold State.takeRow
  dsimp only
  split
  · exact if_neg fun longer => absurd longer.1 (by rw [same]; exact lt_irrefl _)
  · rfl

/-- A row of an enabled slot, within the height and in order, is admitted where there is room. -/
theorem State.offerRow_room {k : Pos} {row col0 : Nat} {data : List Nat} {fault sh : Bool} {subt : Option Nat}
    (open_ : (s.intake.get p).frm = some f) (slot : bitAt f.mask k.val = true) (inside : row < f.height) (order : f.outOfOrder k row = false)
    (room : s.bufferRoom p (2 * data.length + 16) = some sh) :
    s.offerRow p k row col0 data fault subt = s.acceptRow p k row col0 data fault subt sh (2 * data.length + 16) := by
  simp only [State.offerRow, open_, slot, Nat.not_le_of_lt inside, order, room, Bool.not_true, Bool.false_eq_true, if_false]

theorem State.offerRow_full {k : Pos} {row col0 : Nat} {data : List Nat} {fault : Bool} {subt : Option Nat}
    (open_ : (s.intake.get p).frm = some f) (slot : bitAt f.mask k.val = true) (inside : row < f.height) (order : f.outOfOrder k row = false)
    (full : s.bufferRoom p (2 * data.length + 16) = none) : s.offerRow p k row col0 data fault subt = s.overflowed p := by
  simp only [State.offerRow, open_, slot, Nat.not_le_of_lt inside, order, full, Bool.not_true, Bool.false_eq_true, if_false]

/-- What a packet that cannot be admitted leaves. -/
theorem State.overflowed_drops (h : s.Canonical) (open_ : (s.intake.get p).frm = some f) :
    ((s.overflowed p).intake.get p).fifo = (s.intake.get p).fifo ∧
      (∃ g, ((s.overflowed p).intake.get p).frm = some g ∧ g.ovf = true) ∧
      (∀ q, q ≠ p → (s.overflowed p).intake.get q = s.intake.get q) ∧
      (s.overflowed p).oi (Obj.INT_CNT_OVERFLOW p.val) = clampI 0 0xFFFFFFFF (s.oi (Obj.INT_CNT_OVERFLOW p.val) + 1) := by
  have counted := State.oi_inc_same h (Obj.INT_CNT_OVERFLOW p.val)
  unfold State.overflowed
  simp only [open_]
  split
  · next again => exact ⟨rfl, ⟨f, open_, again⟩, fun _ _ => rfl, counted⟩
  · have intake {w : State} {code : Nat} {fs : List (Nat × Nat)} : (w.notify code p.val fs).intake = w.intake :=
      State.notify_keeps.intake (by decide)
    refine ⟨?_, ⟨{ f with ovf := true }, ?_, rfl⟩, fun q hq => ?_, ?_⟩
    · rw [intake]
      exact State.setOpen_fifo _ p _
    · rw [intake]
      exact State.setOpen_frm _ p _
    · rw [intake]
      exact State.setOpen_other _ _ hq
    · have reads : (s.inc (Obj.INT_CNT_OVERFLOW p.val)).IntakeReads (Obj.INT_CNT_OVERFLOW p.val) _ :=
        ⟨(by decide : ∀ q : Pos, Obj.INT_CNT_OVERFLOW q.val / 65536 = 0x20) p, counted⟩
      exact ((reads.frame State.setOpen_frame).notify).val

/-- A packet that cannot be admitted leaves the frame open. -/
theorem State.overflowed_sameFrame : ∃ w, s.SameFrame p w ∧ (s.overflowed p).intake = w.intake := by
  unfold State.overflowed
  split
  · next f open_ =>
    dsimp only
    split
    · exact ⟨s, .refl, rfl⟩
    · refine ⟨s.setOpen p { f with ovf := true }, ?_, State.notify_keeps.intake (by decide)⟩
      exact State.SameFrame.refl.setOpen open_
  · exact ⟨s, .refl, rfl⟩

/-- A row offered to the open frame leaves it open. -/
theorem State.takeRow_sameFrame {k : Pos} {row col0 : Nat} {data : List Nat} {fault : Bool} {subt : Option Nat} :
    ∃ w, s.SameFrame p w ∧ (s.takeRow p k row col0 data fault subt).intake = w.intake := by
  rw [State.takeRow_intake, State.offerRow]
  split
  · exact ⟨s, .refl, rfl⟩
  · next f open_ =>
    dsimp only
    split
    · exact ⟨s, .refl, rfl⟩
    · split
      · obtain ⟨g, now, num, hpRow⟩ := (State.SameFrame.refl.truncate (n := data.length)).open_ open_
        refine ⟨_, ?_, rfl⟩
        exact State.SameFrame.refl.truncate.setOpen now num.symm hpRow.symm
      · split
        · exact ⟨s, .refl, rfl⟩
        · split
          · exact State.overflowed_sameFrame
          · exact ⟨_, (State.acceptRow_joins open_).toSameFrame, rfl⟩

/-- A row that is admitted joins the buffer as that row of that slot. -/
theorem State.takeRow_joins {k : Pos} {row col0 : Nat} {data : List Nat} {fault : Bool} {subt : Option Nat}
    (open_ : (s.intake.get p).frm = some f) (slot : bitAt f.mask k.val = true) (inside : row < f.height) (order : f.outOfOrder k row = false)
    (room : (s.bufferRoom p (2 * data.length + 16)).isSome = true) :
    (∃ x, ((s.takeRow p k row col0 data fault subt).intake.get p).fifo.getLast? = some x ∧ x.num = f.num ∧ x.slot = k.val ∧ x.row = row ∧
      x.synth = false ∧ x.invalid = fault) ∧
      ∀ q, q ≠ p → (s.takeRow p k row col0 data fault subt).intake.get q = s.intake.get q := by
  obtain ⟨sh, room⟩ := Option.isSome_iff_exists.mp room
  rw [State.takeRow_intake, State.offerRow_room open_ slot inside order room]
  obtain ⟨same, f', x, open', last, num, rest⟩ := State.acceptRow_joins (k := k) (row := row) (col0 := col0) (data := data)
    (fault := fault) (subt := subt) (shared := sh) (bytes := 2 * data.length + 16) open_
  obtain rfl : f = f' := Option.some.inj (open_.symm.trans open')
  exact ⟨⟨x, last, num, rest⟩, same.other⟩

/-- Settles O20: a FRAME_START by what its check writes, a row by what an admitted packet and one without room leave, and a FRAME_END by what
the close of a frame leaves. -/
theorem packetsOfTheOpenFrame : Obligations.PacketsOfTheOpenFrame := by
  unfold Obligations.PacketsOfTheOpenFrame
  intro s r grp t b pkt p f sound delivered hcrc good bound open_ mine c hc
  have h : r.Canonical := delivered.canonical (State.canonical_iff_objectsOk.mpr sound.1)
  have taken := delivered.exec_eq c hc
  rw [List.foldl_cons, List.foldl_nil, State.onPacket_bound hcrc good bound] at taken
  refine ⟨fun start => ?start, fun row k slotOf slot inside order => ?row, fun finish => ?finish⟩
  case start =>
    rw [if_pos start, State.frameStartPkt, open_] at taken
    simp only [if_pos mine] at taken
    exact ⟨_, taken, State.checkStart_checks h rfl⟩
  case row =>
    rw [if_neg (by omega), if_pos row, State.rowPkt, open_] at taken
    simp only [if_pos mine, ← slotOf] at taken
    refine ⟨fun room => ⟨_, taken, State.takeRow_joins open_ slot inside order (Option.isSome_iff_exists.mpr room)⟩,
      fun full => ⟨_, taken, ?_⟩⟩
    have drops := State.overflowed_drops h open_
    have dropped (fault : Bool) (subt : Option Nat) :=
      State.offerRow_full (col0 := beAt pkt 6 2) (fault := fault) (subt := subt) open_ slot inside order full
    rw [State.takeRow_unbuffered (by rw [dropped]; exact drops.1), dropped]
    exact drops
  case finish =>
    rw [if_neg (by omega), if_neg (by omega), State.frameEndPkt, open_] at taken
    simp only [if_pos mine] at taken
    obtain ⟨frm, last, ⟨g, ended, num, close, at_⟩, other, -⟩ := State.frameClosed_closes h open_ 1
    have now : r.time.now = (s.advance t).time.now := congrArg TimeSt.now delivered.time
    exact ⟨_, taken, frm, last, ⟨g, ended, num, close, at_.trans now⟩, other⟩

end

end Sys2Proof.Machine
end

section
/-!
PROOFS. The sampler of the heritage port, edge by edge (03 R105 to R109).
-/
namespace Sys2Proof.Machine
set_option Elab.async false

variable {s : State} {f : OpenFrame} {h : HpSampler}

/-! ### One edge (03 R105) -/

/-- An edge that HP_PCLK_EDGE does not choose. -/
theorem State.hpSample_unchosen {e : HpEdge} (on : s.hpActive = true) (other : e.rising = (s.inForce Obj.HP_PCLK_EDGE == 1)) :
    s.hpSample e = s := by
  simp only [State.hpSample, on, other, Bool.not_true, Bool.false_eq_true, if_false, beq_self_eq_true, if_true]

/-- An edge on which the module samples, with FVAL and LVAL, while the sampler holds `h`. -/
theorem State.hpSample_hpEdge (on : s.hpActive = true) (h : HpSampler) (fval lval : Bool) (d : Nat) :
    (s.setHp h).hpSample (s.hpEdge fval lval d) =
      let w := if lval && fval then s.setHp { h with fval := true, lval := true, gap := 0, cols := h.cols ++ [d % 65536] }
        else (s.setHp { h with fval := fval, lval := false, gap := if fval then 0 else min 8 (h.gap + 1) }).hpRowEnds
      if fval && !h.fval && h.gap == 8 then w.hpPeriodBegins
      else if !fval && h.gap == 7 then w.hpPeriodEnds
      else w := by
  have active : (s.setHp h).hpActive = true := on
  have level (x y : Bool) : ((x != y) != y) = x := by cases x <;> cases y <;> rfl
  have chosen : ((s.hpEdge fval lval d).rising == ((s.setHp h).inForce Obj.HP_PCLK_EDGE == 1)) = false := by
    show ((!(s.inForce Obj.HP_PCLK_EDGE == 1)) == (s.inForce Obj.HP_PCLK_EDGE == 1)) = false
    cases s.inForce Obj.HP_PCLK_EDGE == 1 <;> rfl
  have fvalRead : ((s.hpEdge fval lval d).fval != bitAt ((s.setHp h).inForce Obj.HP_SYNC_POL).toNat 0) = fval := level _ _
  have lvalRead : ((s.hpEdge fval lval d).lval != bitAt ((s.setHp h).inForce Obj.HP_SYNC_POL).toNat 1) = lval := level _ _
  simp only [State.hpSample, active, chosen, fvalRead, lvalRead, Bool.not_true, Bool.false_eq_true, if_false]
  rfl

/-- With no readout collected there is no row to end. -/
theorem State.hpRowEnds_none (none : s.link.hp.cols = []) : s.hpRowEnds = s := by
  simp only [State.hpRowEnds, none, List.isEmpty_nil, if_true]

/-- FVAL rises after a frame boundary: a period begins. -/
theorem State.hpSample_rise (on : s.hpActive = true) (d : Nat) (low : h.fval = false) (gap : h.gap = 8) (none : h.cols = []) :
    (s.setHp h).hpSample (s.hpEdge true false d) = (s.setHp { h with fval := true, lval := false, gap := 0 }).hpPeriodBegins := by
  rw [State.hpSample_hpEdge on, State.hpRowEnds_none none]
  simp [low, gap]

/-- An edge without FVAL while no readout is collected only counts, up to the seventh. -/
theorem State.hpSample_gap (on : s.hpActive = true) (d : Nat) (few : h.gap < 7) (none : h.cols = []) :
    (s.setHp h).hpSample (s.hpEdge false false d) = s.setHp { h with fval := false, lval := false, gap := h.gap + 1 } := by
  rw [State.hpSample_hpEdge on, State.hpRowEnds_none none]
  have more : min 8 (h.gap + 1) = h.gap + 1 := by omega
  simp [few.ne, more]

/-- The eighth edge without FVAL ends the period. -/
theorem State.hpSample_last (on : s.hpActive = true) (d : Nat) (seven : h.gap = 7) (none : h.cols = []) :
    (s.setHp h).hpSample (s.hpEdge false false d) = (s.setHp { h with fval := false, lval := false, gap := 8 }).hpPeriodEnds := by
  rw [State.hpSample_hpEdge on, State.hpRowEnds_none none]
  simp [seven]

/-- An edge of a row within a period collects a readout. -/
theorem State.hpSample_data (on : s.hpActive = true) (d : Nat) (high : h.fval = true) :
    (s.setHp h).hpSample (s.hpEdge true true d) = s.setHp { h with fval := true, lval := true, gap := 0, cols := h.cols ++ [d % 65536] } := by
  rw [State.hpSample_hpEdge on]
  simp [high]

/-- LVAL ends within a period: the readouts collected are a row. -/
theorem State.hpSample_rowEnd (on : s.hpActive = true) (d : Nat) (high : h.fval = true) :
    (s.setHp h).hpSample (s.hpEdge true false d) = (s.setHp { h with fval := true, lval := false, gap := 0 }).hpRowEnds := by
  rw [State.hpSample_hpEdge on]
  simp [high]

/-! ### Runs of edges -/

/-- Up to seven edges without FVAL only count. -/
theorem State.hpSamples_gap (on : s.hpActive = true) (d n : Nat) (few : h.gap + n ≤ 7) (none : h.cols = []) :
    ∃ x, (s.setHp h).hpSamples (List.replicate n (s.hpEdge false false d)) = s.setHp x ∧ x.gap = h.gap + n ∧ x.cols = [] ∧ x.num = h.num := by
  induction n generalizing h with
  | zero => exact ⟨h, rfl, rfl, none, rfl⟩
  | succ n ih =>
    have first := State.hpSample_gap on d (h := h) (by omega) none
    obtain ⟨x, run, gap, cols, num⟩ := ih (h := { h with fval := false, lval := false, gap := h.gap + 1 }) (by simp only; omega) none
    refine ⟨x, ?_, by rw [gap]; simp only; omega, cols, num⟩
    rw [List.replicate_succ, State.hpSamples, List.foldl_cons, first]
    exact run

/-- The edges of a row collect its readouts. -/
theorem State.hpSamples_data (on : s.hpActive = true) (data : List Nat) (high : h.fval = true) :
    ∃ x, (s.setHp h).hpSamples (data.map (s.hpEdge true true)) = s.setHp x ∧ x.fval = true ∧
      x.cols = h.cols ++ data.map (· % 65536) ∧ x.num = h.num := by
  induction data generalizing h with
  | nil => exact ⟨h, rfl, high, (List.append_nil _).symm, rfl⟩
  | cons d data ih =>
    have first := State.hpSample_data on d high
    obtain ⟨x, run, fval, cols, num⟩ := ih (h := { h with fval := true, lval := true, gap := 0, cols := h.cols ++ [d % 65536] }) rfl
    refine ⟨x, ?_, fval, by rw [cols, List.append_assoc]; rfl, num⟩
    rw [List.map_cons, State.hpSamples, List.foldl_cons, first]
    exact run

theorem State.hpSamples_unchosen (on : s.hpActive = true) {edges : List HpEdge}
    (other : ∀ e ∈ edges, e.rising = (s.inForce Obj.HP_PCLK_EDGE == 1)) : s.hpSamples edges = s := by
  induction edges with
  | nil => rfl
  | cons e edges ih =>
    rw [State.hpSamples, List.foldl_cons, State.hpSample_unchosen on (other e List.mem_cons_self)]
    exact ih fun e he => other e (List.mem_cons_of_mem _ he)

/-! ### Periods of FVAL and of LVAL (03 R106, R107) -/

theorem State.hpFrame_delivers (open_ : (s.intake.get 0).frm = some f) (mine : s.link.hp.num = some f.num) : s.hpFrame = some f := by
  simp only [State.hpFrame, open_, mine, if_true]

theorem State.hpPeriodBegins_open (open_ : (s.intake.get 0).frm = some f) :
    s.hpPeriodBegins = s.setHp { s.link.hp with num := some f.num } := by
  simp only [State.hpPeriodBegins, open_]

theorem State.hpPeriodBegins_ignored (closed : (s.intake.get 0).frm = none) :
    s.hpPeriodBegins = (s.setHp { s.link.hp with num := none }).inc (Obj.INT_CNT_UNSOLICITED 0) := by
  simp only [State.hpPeriodBegins, closed]

/-- A period that begins delivers the open frame, or, with none open, is ignored and counted. -/
theorem State.hpPeriodBegins_delivers (c : s.Canonical) :
    s.hpPeriodBegins.link.hp.fval = s.link.hp.fval ∧ s.hpPeriodBegins.intake = s.intake ∧
      (∀ f, (s.intake.get 0).frm = some f → s.hpPeriodBegins.link.hp.num = some f.num ∧ s.hpPeriodBegins.od = s.od) ∧
      ((s.intake.get 0).frm = none → s.hpPeriodBegins.link.hp.num = none ∧
        s.hpPeriodBegins.oi (Obj.INT_CNT_UNSOLICITED 0) = clampI 0 0xFFFFFFFF (s.oi (Obj.INT_CNT_UNSOLICITED 0) + 1) ∧
        s.sameBut [Obj.INT_CNT_UNSOLICITED 0] s.hpPeriodBegins) := by
  cases open_ : (s.intake.get 0).frm with
  | none =>
    rw [State.hpPeriodBegins_ignored open_]
    have od : (s.setHp { s.link.hp with num := none }).od = s.od := rfl
    refine ⟨rfl, rfl, fun _ some_ => absurd some_ (Option.some_ne_none _).symm, fun _ => ⟨rfl, ?_, (State.sameBut.of_od od).trans .inc⟩⟩
    rw [State.oi_inc_same (c.frame State.setHp_frame), State.oi_eq_of_od od]
  | some f =>
    rw [State.hpPeriodBegins_open open_]
    refine ⟨rfl, rfl, fun g same => ?_, fun none => absurd none (Option.some_ne_none _)⟩
    rw [← Option.some.inj same]
    exact ⟨rfl, rfl⟩

/-- The end of a period that delivers the open frame closes it with END. -/
theorem State.hpPeriodEnds_closes (c : s.Canonical) (open_ : (s.intake.get 0).frm = some f) (mine : s.link.hp.num = some f.num) :
    s.Closes 0 f 1 s.hpPeriodEnds := by
  have ends : s.hpPeriodEnds = ((s.setHp { s.link.hp with num := none }).frameClosed 0 1).askTemp := by
    simp only [State.hpPeriodEnds, State.hpFrame_delivers open_ mine, Option.isSome_some, if_true]
  obtain ⟨frm, last, ended, other, unsolicited⟩ :=
    State.frameClosed_closes (s := s.setHp { s.link.hp with num := none }) (c.frame State.setHp_frame) (p := 0) (f := f) open_ 1
  rw [ends]
  have intake {w : State} : w.askTemp.intake = w.intake := State.askTemp_frame.intake (by decide)
  have od {w : State} : w.askTemp.od = w.od := State.askTemp_frame.od (by decide)
  exact ⟨by rw [intake, frm], by rw [State.o_of_od od, last], by rw [intake]; exact ended, fun q hq => by rw [intake]; exact other q hq,
    by rw [State.oi_eq_of_od od]; exact unsolicited⟩

/-- A position whose open frame is written has the same room in its buffer. -/
theorem State.bufferRoom_setOpen (s : State) (p q : Pos) (f : OpenFrame) (bytes : Nat) : (s.setOpen p f).bufferRoom q bytes = s.bufferRoom q bytes := by
  have fifo (r : Pos) : ((s.setOpen p f).intake.get r).fifo = (s.intake.get r).fifo := by
    by_cases same : r = p
    · rw [same, State.setOpen_fifo]
    · rw [State.setOpen_other s f same]
  have reserve : (s.setOpen p f).reserveUsed q = s.reserveUsed q := by rw [State.reserveUsed, fifo, State.reserveUsed]
  have shared : (s.setOpen p f).sharedUsed = s.sharedUsed := by simp only [State.sharedUsed, fifo]
  rw [State.bufferRoom, reserve, shared]
  rfl

/-- The end of LVAL offers the collected readouts to the open frame as its next row of slot 0. -/
theorem State.hpRowEnds_row (open_ : (s.intake.get 0).frm = some f) (mine : s.link.hp.num = some f.num) (some_ : s.link.hp.cols ≠ []) :
    s.hpRowEnds = ((s.setHp { s.link.hp with cols := [] }).setOpen 0 { f with hpRow := f.hpRow + 1 }).takeRow 0 0 f.hpRow 0
      s.link.hp.cols false f.subt := by
  have delivers : (s.setHp { s.link.hp with cols := [] }).hpFrame = some f := State.hpFrame_delivers open_ mine
  simp only [State.hpRowEnds, delivers, List.isEmpty_eq_false_iff.mpr some_, Bool.false_eq_true, if_false]

/-! ### The rows of the heritage port -/

/-- What the samples of a whole row leave. -/
theorem State.hpSamples_row (on : s.hpActive = true) (high : s.link.hp.fval = true) (empty : s.link.hp.cols = [])
    (mine : s.link.hp.num = some f.num) (open_ : (s.intake.get 0).frm = some f) {data : List Nat} (some_ : data ≠ []) (d : Nat) :
    ∃ h cols, s.hpSamples (data.map (s.hpEdge true true) ++ [s.hpEdge true false d]) =
        ((s.setHp h).setOpen 0 { f with hpRow := f.hpRow + 1 }).takeRow 0 0 f.hpRow 0 cols false f.subt ∧
      h.cols = [] ∧ cols.length = data.length := by
  obtain ⟨x, collected, fval, cols, num⟩ := State.hpSamples_data on data high
  have readouts : x.cols = data.map (· % 65536) := by rw [cols, empty, List.nil_append]
  have row := State.hpRowEnds_row (s := s.setHp { x with fval := true, lval := false, gap := 0 }) open_ (num.trans mine)
    (by simpa [State.setHp, readouts] using some_)
  refine ⟨{ x with fval := true, lval := false, gap := 0, cols := [] }, x.cols, ?_, rfl, by rw [readouts, List.length_map]⟩
  rw [State.hpSamples, List.foldl_append, List.foldl_cons, List.foldl_nil]
  refine (congrArg (State.hpSample · _) collected).trans ?_
  rw [State.hpSample_rowEnd on d fval]
  exact row

/-- Eight edges without FVAL close the frame that the period delivers. -/
theorem State.hpSamples_fall (c : s.Canonical) (on : s.hpActive = true) (gap : s.link.hp.gap = 0) (empty : s.link.hp.cols = [])
    (mine : s.link.hp.num = some f.num) (open_ : (s.intake.get 0).frm = some f) (d : Nat) :
    s.Closes 0 f 1 (s.hpSamples (List.replicate 8 (s.hpEdge false false d))) := by
  obtain ⟨x, run, seven, cols, num⟩ := State.hpSamples_gap on d 7 (h := s.link.hp) (by omega) empty
  have last := State.hpSample_last on d (h := x) (by omega) cols
  have run : s.hpSamples (List.replicate 7 (s.hpEdge false false d)) = s.setHp x := run
  have all : s.hpSamples (List.replicate 8 (s.hpEdge false false d)) = (s.setHp { x with fval := false, lval := false, gap := 8 }).hpPeriodEnds := by
    rw [List.replicate_succ', State.hpSamples, List.foldl_append, List.foldl_cons, List.foldl_nil, ← State.hpSamples, run, last]
  rw [all]
  obtain ⟨frm, closed, ended, other, unsolicited⟩ := State.hpPeriodEnds_closes
    (s := s.setHp { x with fval := false, lval := false, gap := 8 }) (c.frame State.setHp_frame) open_ (num.trans mine)
  exact ⟨frm, closed, ended, other, unsolicited⟩

/-- Settles O22: edge by edge for the rise, the gap, a row and the edges not chosen. -/
theorem heritagePort : Obligations.HeritagePort := by
  unfold Obligations.HeritagePort
  intro s t sound
  have c : (s.advance t).Canonical := (State.canonical_iff_objectsOk.mpr sound.1).frame State.advance_keeps
  refine ⟨fun on low gap empty d => ⟨_, rfl, ?rise⟩, fun f on high gap empty mine open_ d => ⟨?fall, fun n few => ?gap, fun data some_ => ?row⟩,
    fun edges on other => ?unchosen, fun hz => ⟨_, rfl, ?measure⟩⟩
  case rise =>
    have rises : (s.advance t).hpSamples [s.hpEdge true false d] = _ :=
      State.hpSample_rise (s := s.advance t) on d (h := s.link.hp) low gap empty
    rw [rises]
    obtain ⟨fval, intake, delivers, ignored⟩ := State.hpPeriodBegins_delivers
      (c.frame State.setHp_frame : ((s.advance t).setHp { s.link.hp with fval := true, lval := false, gap := 0 }).Canonical)
    refine ⟨fval, intake, ?_, delivers, fun none => ?_⟩
    · exact State.hpPeriodBegins_frame.last (by decide) (State.setHp_frame.last (by decide) (State.advance_keeps.mono (by decide)))
    · obtain ⟨num, counted, others⟩ := ignored none
      exact ⟨num, counted, .trans (.of_od rfl) others⟩
  case fall =>
    obtain ⟨frm, last, ⟨g, ended, num, close, -⟩, -, -⟩ := State.hpSamples_fall (s := s.advance t) c on gap empty mine open_ d
    exact ⟨_, rfl, frm, last, g, ended, num, close⟩
  case gap =>
    obtain ⟨x, run, -⟩ := State.hpSamples_gap (s := s.advance t) on d n (h := s.link.hp) (by omega) empty
    exact ⟨_, congrArg Host.Outcome.next run, State.setHp_frame.last (by decide) (State.advance_keeps.mono (by decide))⟩
  case row =>
    obtain ⟨h, cols, run, none, length⟩ := State.hpSamples_row (s := s.advance t) on high empty mine open_ some_ d
    have opened := ((s.advance t).setHp h).setOpen_frm 0 { f with hpRow := f.hpRow + 1 }
    refine ⟨_, congrArg Host.Outcome.next run, ?_, ?_, fun slot inside order room => ?_⟩
    · obtain ⟨v, same, intake⟩ := State.takeRow_sameFrame (s := ((s.advance t).setHp h).setOpen 0 { f with hpRow := f.hpRow + 1 })
        (p := 0) (k := 0) (row := f.hpRow) (col0 := 0) (data := cols) (fault := false) (subt := f.subt)
      rw [intake]
      exact same.open_ opened
    · rw [State.takeRow_frame.link (by decide)]
      exact none
    · have free : (((s.advance t).setHp h).setOpen 0 { f with hpRow := f.hpRow + 1 }).bufferRoom 0 (2 * cols.length + 16) =
          s.bufferRoom 0 (2 * data.length + 16) := by
        rw [State.bufferRoom_setOpen, length]
        rfl
      obtain ⟨⟨x, last, num, slot_, row, synth, -⟩, -⟩ := State.takeRow_joins (col0 := 0) (data := cols) (fault := false) (subt := f.subt)
        opened slot inside order (free ▸ room)
      exact ⟨x, last, num, slot_, row, synth⟩
  case unchosen => exact ⟨_, congrArg Host.Outcome.next (State.hpSamples_unchosen (s := s.advance t) on other), State.advance_keeps⟩
  case measure =>
    refine ⟨?_, .trans (.of_od rfl) (State.sameBut_setO _ _ _), State.setO_keeps.last (by decide) (State.advance_keeps.mono (by decide))⟩
    rw [State.o, State.oi_setO_same c.od, clampI]
    split <;> [omega; split] <;> omega

end Sys2Proof.Machine
end

section
/-!
PROOFS. Starts on their way to frames: the decision, the mark transaction of a select, and its release (03 R88, R115; 08 R310 to R317).
-/
namespace Sys2Proof.Machine
set_option Elab.async false

variable {s u w : State} {p q sel : Pos} {st : Start} {t rel : Nat}

theorem State.setTrig_same (s : State) (p : Pos) (g : TrigPos) : (s.setTrig p g).trig.get p = g := Quad.get_set_self _ _ _

theorem State.setTrig_other (s : State) (g : TrigPos) (h : q ≠ p) : (s.setTrig p g).trig.get q = s.trig.get q := Quad.get_set_of_ne _ g h

theorem State.fpaSel_of_modes (e : u.modes = s.modes) (p : Pos) : u.fpaSel p = s.fpaSel p := by
  rw [State.fpaSel, State.inForce_of_modes e, State.fpaSel]

/-! ### The decision (08 R310 to R312) -/

/-- A position whose marks and held instant stay has the same clashes. -/
theorem State.clashes_setTrig {g : TrigPos} (sel : Pos) (x : Nat) (marks : g.marks = (s.trig.get p).marks := by rfl)
    (heldAt : g.heldAt = (s.trig.get p).heldAt := by rfl) : (s.setTrig p g).clashes sel x = s.clashes sel x := by
  have each (q : Pos) : ((s.setTrig p g).trig.get q).marks = (s.trig.get q).marks ∧ ((s.setTrig p g).trig.get q).heldAt = (s.trig.get q).heldAt := by
    by_cases same : q = p
    · rw [same, State.setTrig_same]
      exact ⟨marks, heldAt⟩
    · rw [State.setTrig_other s g same]
      exact ⟨rfl, rfl⟩
  have committed : (s.setTrig p g).committed sel = s.committed sel := by
    simp only [State.committed, (each _).1, (each _).2]
    rfl
  rw [State.clashes, committed]
  rfl

/-- The start that waits first leaves the queue. -/
def State.unqueued (s : State) (p : Pos) (rest : List Start) : State := s.setTrig p { s.trig.get p with queue := rest }

/-- The first start waiting is decided at its decision point. -/
theorem State.decide_first {rest : List Start} (first : (s.trig.get p).queue = st :: rest) (due : s.decision p st.s ≤ s.time.now) :
    s.decide_ p =
      let w := if s.clashes (s.fpaSel p) st.s then (s.unqueued p rest).inc (Obj.TRIG_CNT_CLASH p.val) else s.unqueued p rest
      if s.startAllowed p st && !s.clashes (s.fpaSel p) st.s then w.commitStart p st.s st else w.notAllowed p st := by
  have same : (s.unqueued p rest).trig.get p = { s.trig.get p with queue := rest } := State.setTrig_same s p _
  have kept : s.keeps [.trig] (s.unqueued p rest) := State.setTrig_frame
  have clash : (s.unqueued p rest).clashes ((s.unqueued p rest).fpaSel p) st.s = s.clashes (s.fpaSel p) st.s := by
    rw [State.fpaSel_of_modes (kept.modes (by decide)), State.unqueued, State.clashes_setTrig]
  have allowed : (s.unqueued p rest).startAllowed p st = s.startAllowed p st := by
    unfold State.startAllowed State.prevClosed State.gov State.o State.oi
    simp only [same, kept.pwr (by decide), kept.intake (by decide), kept.gen (by decide), kept.od (by decide)]
  unfold State.decide_
  rw [first]
  dsimp only
  rw [if_neg (Nat.not_lt_of_le due), ← State.unqueued, clash]
  rw [allowed]

/-- A start that no throttle drops joins the marks. -/
theorem State.commitStart_made {at_ : Nat} (kept : s.therm.inHalf.get p = true → (s.trig.get p).dropNext = false) :
    s.commitStart p at_ st =
      s.setTrig p { s.trig.get p with marks := (s.trig.get p).marks ++ [(at_, st)], dropNext := s.therm.inHalf.get p } := by
  refine if_neg fun dropped => ?_
  obtain ⟨half, next⟩ := Bool.and_eq_true_iff.mp dropped
  exact Bool.false_ne_true ((kept half).symm.trans next)

/-- A start that is allowed and clashes with nothing joins the marks at its own instant. -/
theorem State.decide_made {rest : List Start} (first : (s.trig.get p).queue = st :: rest) (due : s.decision p st.s ≤ s.time.now)
    (allowed : s.startAllowed p st = true) (clear : s.clashes (s.fpaSel p) st.s = false)
    (kept : s.therm.inHalf.get p = true → (s.trig.get p).dropNext = false) :
    ((s.decide_ p).trig.get p).queue = rest ∧ ((s.decide_ p).trig.get p).marks = (s.trig.get p).marks ++ [(st.s, st)] ∧
      (∀ q, q ≠ p → (s.decide_ p).trig.get q = s.trig.get q) ∧ s.keeps [.trig] (s.decide_ p) := by
  have same : (s.unqueued p rest).trig.get p = { s.trig.get p with queue := rest } := State.setTrig_same s p _
  rw [State.decide_first first due]
  simp only [allowed, clear, Bool.not_false, Bool.and_self, if_true, Bool.false_eq_true, if_false]
  rw [State.commitStart_made (s := s.unqueued p rest) (by rw [same]; exact kept), State.setTrig_same, same]
  exact ⟨rfl, rfl, fun q hq => (State.setTrig_other _ _ hq).trans (State.setTrig_other s _ hq), State.setTrig_frame.trans State.setTrig_frame⟩

/-- Under SKIP a start that is not allowed or clashes is dropped, and counted. -/
theorem State.decide_skipped (h : s.Canonical) {rest : List Start} (first : (s.trig.get p).queue = st :: rest)
    (due : s.decision p st.s ≤ s.time.now) (refused : s.startAllowed p st = false ∨ s.clashes (s.fpaSel p) st.s = true)
    (skip : s.gov p (Obj.TRIG_POLICY p.val) ≠ 1) :
    ((s.decide_ p).trig.get p).queue = rest ∧ ((s.decide_ p).trig.get p).marks = (s.trig.get p).marks ∧
      s.sameBut [Obj.TRIG_SKIPPED p.val, Obj.TRIG_CNT_CLASH p.val] (s.decide_ p) ∧
      (s.decide_ p).oi (Obj.TRIG_SKIPPED p.val) = clampI 0 0xFFFFFFFF (s.oi (Obj.TRIG_SKIPPED p.val) + 1) ∧
      (s.clashes (s.fpaSel p) st.s = true →
        (s.decide_ p).oi (Obj.TRIG_CNT_CLASH p.val) = clampI 0 0xFFFFFFFF (s.oi (Obj.TRIG_CNT_CLASH p.val) + 1)) ∧
      (s.clashes (s.fpaSel p) st.s = false → (s.decide_ p).oi (Obj.TRIG_CNT_CLASH p.val) = s.oi (Obj.TRIG_CNT_CLASH p.val)) := by
  have same : (s.unqueued p rest).trig.get p = { s.trig.get p with queue := rest } := State.setTrig_same s p _
  have queue : ((s.unqueued p rest).trig.get p).queue = rest := by rw [same]
  have marks : ((s.unqueued p rest).trig.get p).marks = (s.trig.get p).marks := by rw [same]
  have dropped : (s.startAllowed p st && !s.clashes (s.fpaSel p) st.s) = false := by
    rcases refused with no | clash
    · rw [no, Bool.false_and]
    · rw [clash, Bool.not_true, Bool.and_false]
  have apart := (by decide : ∀ q : Pos, Obj.TRIG_SKIPPED q.val ≠ Obj.TRIG_CNT_CLASH q.val) p
  have unqueued : (s.unqueued p rest).Canonical := h.frame State.setTrig_frame
  have od : (s.unqueued p rest).od = s.od := rfl
  rw [State.decide_first first due]
  simp only [dropped, Bool.false_eq_true, if_false]
  cases clash : s.clashes (s.fpaSel p) st.s with
  | false =>
    simp only [Bool.false_eq_true, if_false]
    have skipped : (s.unqueued p rest).notAllowed p st = (s.unqueued p rest).inc (Obj.TRIG_SKIPPED p.val) := if_neg fun hold => skip hold.1
    rw [skipped]
    refine ⟨queue, marks, (State.sameBut.of_od od).trans (State.sameBut.inc.mono (by simp)), ?_, by simp, ?_⟩
    · rw [State.oi_inc_same unqueued, State.oi_eq_of_od od]
    · rw [State.inc, State.oi_setO_of_ne _ _ apart.symm, State.oi_eq_of_od od]
      exact fun _ => rfl
  | true =>
    simp only [if_true]
    have skipped : ((s.unqueued p rest).inc (Obj.TRIG_CNT_CLASH p.val)).notAllowed p st =
      ((s.unqueued p rest).inc (Obj.TRIG_CNT_CLASH p.val)).inc (Obj.TRIG_SKIPPED p.val) := if_neg fun hold => skip hold.1
    rw [skipped]
    refine ⟨queue, marks,
      ((State.sameBut.of_od od).trans (State.sameBut.inc.mono (by simp))).trans (State.sameBut.inc.mono (by simp)), ?_, ?_, by simp⟩
    · rw [State.oi_inc_same unqueued.inc, State.inc, State.oi_setO_of_ne _ _ apart, State.oi_eq_of_od od]
    · rw [State.inc, State.oi_setO_of_ne _ _ apart.symm, State.oi_inc_same unqueued, State.oi_eq_of_od od]
      exact fun _ => rfl

/-! ### Held starts (08 R312) -/

theorem State.heldMade_made {h : Nat} (held : (s.trig.get p).held = some st) (known : (s.trig.get p).heldAt = some h)
    (due : h ≤ s.time.now + s.ttx (s.fpaSel p)) (kept : s.therm.inHalf.get p = true → (s.trig.get p).dropNext = false) :
    ((s.heldMade p).trig.get p).held = none ∧
      ((s.heldMade p).trig.get p).marks = (s.trig.get p).marks ++ [(h, { st with s := h, kind := st.kind + 8 })] ∧
      (∀ q, q ≠ p → (s.heldMade p).trig.get q = s.trig.get q) ∧ s.keeps [.trig] (s.heldMade p) := by
  have same := State.setTrig_same s p { s.trig.get p with held := none, heldAt := none }
  have made : s.heldMade p = (s.setTrig p { s.trig.get p with held := none, heldAt := none }).commitStart p h
      { st with s := h, kind := st.kind + 8 } := by
    simp only [State.heldMade, held, known, due, if_true]
  rw [made, State.commitStart_made (by rw [same]; exact kept), State.setTrig_same, same]
  exact ⟨rfl, rfl, fun q hq => (State.setTrig_other _ _ hq).trans (State.setTrig_other s _ hq), State.setTrig_frame.trans State.setTrig_frame⟩

/-! ### The mark transaction (03 R115, 08 R310) -/

theorem State.sp0Begin_begins (s : State) (sel : Pos) (kind fin : Nat) (ws : List (Pos × Sp0Word)) :
    (∃ x, ((s.sp0Begin sel kind ws fin).sp0.get sel).busy = some x ∧ x.kind = kind ∧ x.endAt = fin) ∧
      ∃ bits, Emit.sp0 sel.val bits ∈ (s.sp0Begin sel kind ws fin).out := by
  refine ⟨⟨⟨kind, ws, fin⟩, ?_, rfl, rfl⟩, _, List.mem_cons_self⟩
  exact congrArg Sp0Sel.busy (Quad.get_upd_self _ _ _)

theorem State.markBegin_begins (first : s.firstMark sel = some rel) (due : rel ≤ s.time.now + s.ttx sel)
    (idle : (s.sp0.get sel).busy = none) :
    (∃ x, ((s.markBegin sel).sp0.get sel).busy = some x ∧ x.kind = 0 ∧ x.endAt = rel) ∧
      (∃ bits, Emit.sp0 sel.val bits ∈ (s.markBegin sel).out) ∧ (s.markBegin sel).trig = s.trig := by
  have now : ¬ (s.time.now + s.ttx sel < rel ∨ (s.sp0.get sel).busy.isSome = true) := by
    rw [idle]
    exact not_or.mpr ⟨Nat.not_lt_of_le due, Bool.false_ne_true⟩
  unfold State.markBegin
  rw [first]
  dsimp only
  rw [if_neg now]
  obtain ⟨busy, out⟩ := State.sp0Begin_begins s sel 0 rel _
  exact ⟨busy, out, State.sp0Begin_frame.trig (by decide)⟩

/-! ### The release of another transaction (03 R111, R114) -/

theorem State.sp0Release_release {x : Sp0Txn} {words : List Nat} (busy : (s.sp0.get sel).busy = some x) :
    ((s.sp0Release sel words).sp0.get sel).busy = none ∧ ((s.sp0Release sel words).sp0.get sel).lastRelease = max x.endAt s.time.now ∧
      ∀ q, q ≠ sel → (s.sp0Release sel words).sp0.get q = s.sp0.get q := by
  unfold State.sp0Release
  rw [busy]
  dsimp only
  have replies (l : List ((Pos × Sp0Word) × Nat)) (w : State) : (l.foldl (fun s w =>
      (s.fpaReply w.1.1 w.2 w.1.2).setFpa w.1.1 (((s.fpaReply w.1.1 w.2 w.1.2).fpa.get w.1.1).await w.1.2)) w).sp0 = w.sp0 :=
    State.keeps.sp0 (State.keeps_foldl (fun _ _ => State.setFpa_frame.last (by decide) State.fpaReply_frame) State.keeps_refl) (by decide)
  rw [replies]
  refine ⟨?_, ?_, fun q hq => Quad.get_upd_of_ne _ _ hq⟩
  · rw [Quad.get_upd_self]
  · rw [Quad.get_upd_self]

/-- Without a transition no identity reads are awaited. -/
theorem State.entryIds_none (none : s.modes.running = none) : s.entryIds = s := by
  simp only [State.entryIds, none]

theorem State.sp0Begin_release (s : State) (sel : Pos) (kind fin : Nat) (ws : List (Pos × Sp0Word)) (q : Pos) :
    ((s.sp0Begin sel kind ws fin).sp0.get q).lastRelease = (s.sp0.get q).lastRelease ∧
      (q ≠ sel → (s.sp0Begin sel kind ws fin).sp0.get q = s.sp0.get q) := by
  have sp0 : (s.sp0Begin sel kind ws fin).sp0 = s.sp0.upd sel (fun c => { c with busy := some ⟨kind, ws, fin⟩ }) := by
    have sent : (ws.foldl (fun s w => s.setFpa w.1 ((s.fpa.get w.1).depart w.2)) s).sp0 = s.sp0 :=
      State.keeps.sp0 (State.keeps_foldl (fun _ _ => State.setFpa_frame) State.keeps_refl) (by decide)
    exact congrArg (·.upd sel fun c => { c with busy := some ⟨kind, ws, fin⟩ }) sent
  rw [sp0]
  refine ⟨?_, Quad.get_upd_of_ne _ _⟩
  by_cases same : q = sel
  · rw [same, Quad.get_upd_self]
  · rw [Quad.get_upd_of_ne _ _ same]

/-- A select begins its next transaction, or none. -/
theorem State.sp0Next_cases (s : State) (sel : Pos) :
    s.sp0Next sel = s ∨ ∃ kind ws fin, s.sp0Next sel = s.sp0Begin sel kind ws fin := by
  unfold State.sp0Next
  split
  · exact .inl rfl
  · cases needs : (s.onSel sel).filterMap s.fpaNext with
    | nil =>
      simp only [needs]
      exact .inl trivial
    | cons n rest =>
      simp only [needs]
      exact (ite_eq_or_eq _ _ _).imp id fun begins => ⟨_, _, _, begins⟩

/-- The next transaction of a select leaves its last release and the other selects. -/
theorem State.sp0Next_release (s : State) (sel q : Pos) :
    ((s.sp0Next sel).sp0.get q).lastRelease = (s.sp0.get q).lastRelease ∧ (q ≠ sel → (s.sp0Next sel).sp0.get q = s.sp0.get q) := by
  rcases s.sp0Next_cases sel with idle | ⟨kind, ws, fin, begins⟩
  · rw [idle]
    exact ⟨rfl, fun _ => rfl⟩
  · rw [begins]
    exact s.sp0Begin_release sel kind fin ws q

/-! ### The release of a mark (03 R88, R119; 08 R317) -/

namespace State.Shows

variable {k : Nat} {x : Int}

theorem notify {code pos : Nat} {fs : List (Nat × Nat)} (h : s.Shows k x) : (s.notify code pos fs).Shows k x := .ite h h.log.notifyRest

/-- The acknowledged integration times are shown. -/
theorem setTintAcks {v : Nat → Nat} (h : s.Shows k x) :
    (s.setOs ((List.range 4).map (fun k => (Obj.INTG_TINT_ACK p.val k, ((v k : Nat) : Int))))).Shows k x := by
  refine h.setOs ?_
  simp only [List.forall_mem_map]
  exact (by decide : ∀ q : Pos, ∀ k ∈ List.range 4, Obj.INTG_TINT_ACK q.val k ∉ statusKeys) p

theorem startRefused {tag : Nat} (h : s.Shows k x) : (s.startRefused p tag).Shows k x := .setTintAcks (.of_od (.setPos (h.of_od rfl)) rfl)

theorem wordRefused {word : Sp0Word} {count : Bool} (h : s.Shows k x) : (s.wordRefused p word count).Shows k x := by
  unfold State.wordRefused
  extract_lets s1 f
  have h1 : s1.Shows k x := .ite h.setPos h
  exact .ite (.ite (h1.of_od rfl) (h1.of_od rfl)) (.ite (.ite (h1.of_od rfl) (h1.of_od rfl)) (.ite h1.startRefused h1))

theorem gotId {v : Nat} (h : s.Shows k x) : (s.gotId p v).Shows k x :=
  .ite (h.of_od rfl) (setO (h.of_od rfl) ((by decide : ∀ q : Pos, Obj.FPA_ID q.val ∉ statusKeys) p))

theorem fpaReply {r : Nat} {word : Sp0Word} (h : s.Shows k x) : (s.fpaReply p r word).Shows k x := by
  unfold State.fpaReply
  extract_lets f0 s1 f v s2 c kind d
  split
  · exact h
  · have h1 : s1.Shows k x := h.of_od rfl
    refine .ite ?_ (.ite h1.wordRefused (.ite (.ite (h1.of_od rfl) h1.wordRefused) (.ite (.ite h1.gotId h1.wordRefused)
      (.ite (.ite h1 h1.wordRefused) h1))))
    split
    · exact .ite h1 (h1.of_od rfl)
    · exact .ite (h1.of_od rfl) h1.wordRefused
    · exact h1.of_od rfl
    · exact h1.gotId
    · exact h1

theorem sp0Release {words : List Nat} (h : s.Shows k x) : (s.sp0Release sel words).Shows k x := by
  unfold State.sp0Release
  split
  · exact h
  · exact .foldl (h.of_od rfl) fun _ _ h => .of_od h.fpaReply rfl

theorem endBlank {num : Nat} (h : s.Shows k x) : (s.endBlank p num).Shows k x := by
  unfold State.endBlank
  extract_lets f bad failed s1 s2
  have h1 : s1.Shows k x := h.of_od rfl
  have h2 : s2.Shows k x := .ite (.setPos (h1.of_od rfl)) h1
  refine .ite h ?_
  generalize bad = refused
  cases refused with
  | nil => exact h2
  | cons w rest => exact h2.notify

theorem setPhase {n : Nat} (h : s.Shows k x) : (s.setPhase p n).Shows k x := h.setPos

theorem eclMark {start : Nat} (h : s.Shows k x) : (s.eclMark p start).1.Shows k x := by
  unfold State.eclMark
  extract_lets _ _ _ _ s1
  have h1 : s1.Shows k x := h.of_od rfl
  split
  · exact h
  · split
    · split
      · split
        · exact h1.setPhase
        · exact h1
      · exact h1
    · exact h1
    · exact .of_od h1.setPhase rfl
    · exact h1

theorem applyShadow (h : s.Shows k x) : (s.applyShadow p).Shows k x := .setTintAcks (.setPos (h.of_od rfl))

end State.Shows

/-- The mark of a start is released: the position has had a start. -/
def State.startMarked (s : State) (p : Pos) (r : Nat) (st : Start) : State :=
  (s.setTrig p { s.trig.get p with marks := (s.trig.get p).marks.filter (fun m => m.1 != r), lastStart := some st.s }).setO
    (Obj.TRIG_LAST_START p.val) st.s

/-- The vertical blank has ended and the eclipse has taken the mark. -/
def State.startTaken (s : State) (p : Pos) (st : Start) : State × Nat := (s.endBlank p (s.intake.get p).nextNum).eclMark p st.s

/-- The start has opened its frame. -/
def State.startOpened (s : State) (p : Pos) (st : Start) (kind : Nat) : State :=
  let w := (s.openFrame p (s.provAtStart st) kind).applyShadow p
  ({ w with coef := w.coef.upd p (fun c => { c with started := true, busyFrame := true }) } : State).outsStart p st.s

/-- The module is not in SAFE, and no transition to it runs in ORPHAN. -/
structure State.Calm (s : State) : Prop where
  mode : s.mode ≠ 5
  running : ∀ y, s.modes.running = some y → y.orphan = false

theorem State.Calm.of_shows (h : s.Calm) (mode : u.Shows Obj.MODE (s.oi Obj.MODE)) (modes : u.modes = s.modes) : u.Calm := by
  refine ⟨?_, by rw [modes]; exact h.running⟩
  rw [State.mode, State.o, mode.val]
  exact h.mode

/-- With no mark of the release a position starts nothing. -/
theorem State.frameStarts_none (none : (s.trig.get p).marks.find? (fun m => m.1 / 4 == rel / 4) = none) : s.frameStarts rel p = s := by
  simp only [State.frameStarts, none]

theorem State.startTaken_shows {k : Nat} {x : Int} (h : s.Shows k x) : (s.startTaken p st).1.Shows k x := h.endBlank.eclMark

theorem State.startOpened_shows {k kind : Nat} {x : Int} (h : s.Shows k x) : (s.startOpened p st kind).Shows k x := by
  have shown : ((s.openFrame p (s.provAtStart st) kind).applyShadow p).Shows k x := (h.frame State.openFrame_frame).applyShadow
  exact (State.Shows.upd shown).frame State.outsStart_frame

theorem State.startTaken_keeps : s.keeps [.emitted, .od, .chain, .nv, .intake, .fpa, .ecl, .shut, .host, .free] (s.startTaken p st).1 :=
  State.eclMark_frame.last (by decide) (State.endBlank_frame.mono (by decide))

theorem State.startOpened_keeps {kind : Nat} : s.keeps [.od, .intake, .fpa, .coef, .trigOut] (s.startOpened p st kind) :=
  State.outsStart_frame.last (by decide) (State.keeps_mk (State.applyShadow_frame.last (by decide) (State.openFrame_frame.mono (by decide))))

/-- The release of a mark, away from SAFE and ORPHAN, opens the frame of its start. -/
theorem State.frameStarts_mark (calm : s.Calm) {r : Nat} (mark : (s.trig.get p).marks.find? (fun m => m.1 / 4 == rel / 4) = some (r, st)) :
    s.frameStarts rel p = ((s.startMarked p r st).startTaken p st).1.startOpened p st ((s.startMarked p r st).startTaken p st).2 ∧
      (s.frameStarts rel p).Calm := by
  have marked : (s.startMarked p r st).Shows Obj.MODE (s.oi Obj.MODE) := by
    have self : s.Shows Obj.MODE (s.oi Obj.MODE) := s.shows_self
    unfold State.startMarked
    exact .setO (self.of_od rfl) ((by decide : ∀ q : Pos, Obj.TRIG_LAST_START q.val ∉ statusKeys) p)
  have shows := State.startOpened_shows (p := p) (st := st) (kind := ((s.startMarked p r st).startTaken p st).2)
    (State.startTaken_shows (p := p) (st := st) marked)
  have modes : (((s.startMarked p r st).startTaken p st).1.startOpened p st ((s.startMarked p r st).startTaken p st).2).modes = s.modes :=
    (State.startOpened_keeps.modes (by decide)).trans (State.startTaken_keeps.modes (by decide))
  have after := calm.of_shows shows modes
  have lasting : ¬ ((((s.startMarked p r st).startTaken p st).1.startOpened p st ((s.startMarked p r st).startTaken p st).2).modes.running.map
      (fun r => r.orphan && r.target == 0)) = some true := by
    rw [Option.map_eq_some_iff]
    rintro ⟨y, running, orphan⟩
    rw [after.running y running, Bool.false_and] at orphan
    exact Bool.false_ne_true orphan
  have opens : s.frameStarts rel p =
      ((s.startMarked p r st).startTaken p st).1.startOpened p st ((s.startMarked p r st).startTaken p st).2 := by
    unfold State.frameStarts
    rw [mark]
    exact (if_neg after.mode).trans (if_neg lasting)
  exact ⟨opens, opens ▸ after⟩

/-! ### What a released mark leaves of the positions -/

theorem State.endBlank_intake (s : State) (p : Pos) (num : Nat) :
    ((s.endBlank p num).intake.get p).nextNum = (s.intake.get p).nextNum ∧
      ∀ q, q ≠ p → (s.endBlank p num).intake.get q = s.intake.get q := by
  unfold State.endBlank
  extract_lets f bad failed s1 s2
  have h2 : (s2.intake.get p).nextNum = (s.intake.get p).nextNum ∧ ∀ q, q ≠ p → s2.intake.get q = s.intake.get q := by
    unfold s2
    split
    · have cleared := Quad.get_upd_self s.intake p (fun i => { i with hpSubt := none })
      exact ⟨(congrArg IntakePos.nextNum cleared :), fun q hq => Quad.get_upd_of_ne _ _ hq⟩
    · exact ⟨rfl, fun _ _ => rfl⟩
  split
  · exact ⟨rfl, fun _ _ => rfl⟩
  · generalize bad = refused
    cases refused with
    | nil => exact h2
    | cons w rest =>
      dsimp only
      rw [State.notify_keeps.intake (by decide)]
      exact h2

/-- What the released mark of a start leaves of its position. -/
structure State.Started (p : Pos) (num : Nat) (start : Nat) (u : State) : Prop where
  frm : ∃ f, (u.intake.get p).frm = some f ∧ f.num = num ∧ f.start = start
  nextNum : (u.intake.get p).nextNum = (num + 1) % 2 ^ 32
  lastStart : (u.trig.get p).lastStart = some start
  started : (u.coef.get p).started = true

theorem State.openFrame_opens (s : State) (p : Pos) (st : Start) (kind : Nat) :
    (∃ f, ((s.openFrame p st kind).intake.get p).frm = some f ∧ f.num = (s.intake.get p).nextNum ∧ f.start = st.s) ∧
      ((s.openFrame p st kind).intake.get p).nextNum = ((s.intake.get p).nextNum + 1) % 2 ^ 32 ∧
      ∀ q, q ≠ p → (s.openFrame p st kind).intake.get q = s.intake.get q := by
  unfold State.openFrame
  extract_lets i m slot f
  rw [State.setIntake_same]
  exact ⟨⟨f, rfl, rfl, rfl⟩, rfl, fun q hq => s.setIntake_other _ hq⟩

theorem State.startOpened_started (s : State) (p : Pos) (st : Start) (kind : Nat) (last : (s.trig.get p).lastStart = some st.s) :
    (s.startOpened p st kind).Started p (s.intake.get p).nextNum st.s ∧ (∀ q, q ≠ p → (s.startOpened p st kind).intake.get q = s.intake.get q ∧
      (s.startOpened p st kind).coef.get q = s.coef.get q) := by
  have trig : (s.startOpened p st kind).trig = s.trig := State.startOpened_keeps.trig (by decide)
  have intake : (s.startOpened p st kind).intake = (s.openFrame p (s.provAtStart st) kind).intake := by
    have shown : ((s.openFrame p (s.provAtStart st) kind).applyShadow p).intake = (s.openFrame p (s.provAtStart st) kind).intake :=
      State.applyShadow_frame.intake (by decide)
    rw [← shown]
    exact State.outsStart_frame.intake (by decide)
  have coef : (s.startOpened p st kind).coef = s.coef.upd p (fun c => { c with started := true, busyFrame := true }) := by
    have before : ((s.openFrame p (s.provAtStart st) kind).applyShadow p).coef = s.coef :=
      (State.applyShadow_frame.coef (by decide)).trans (State.openFrame_frame.coef (by decide))
    rw [← before]
    exact State.outsStart_frame.coef (by decide)
  have provenance : (s.provAtStart st).s = st.s := by
    unfold State.provAtStart
    split <;> rfl
  obtain ⟨⟨f, open_, num, start⟩, nextNum, others⟩ := s.openFrame_opens p (s.provAtStart st) kind
  rw [← intake] at open_ nextNum others
  exact ⟨⟨⟨f, open_, num, start.trans provenance⟩, nextNum, by rw [trig, last], by rw [coef, Quad.get_upd_self]⟩,
    fun q hq => ⟨others q hq, by rw [coef, Quad.get_upd_of_ne _ _ hq]⟩⟩

/-- The release of a mark of a position. -/
theorem State.frameStarts_started (calm : s.Calm) {r : Nat}
    (mark : (s.trig.get p).marks.find? (fun m => m.1 / 4 == rel / 4) = some (r, st)) :
    (s.frameStarts rel p).Started p (s.intake.get p).nextNum st.s ∧
      ((s.frameStarts rel p).trig.get p).marks = (s.trig.get p).marks.filter (fun m => m.1 != r) ∧
      ∀ q, q ≠ p → (s.frameStarts rel p).intake.get q = s.intake.get q ∧ (s.frameStarts rel p).trig.get q = s.trig.get q ∧
        (s.frameStarts rel p).coef.get q = s.coef.get q := by
  have trigMarked := s.setTrig_same p { s.trig.get p with marks := (s.trig.get p).marks.filter (fun m => m.1 != r), lastStart := some st.s }
  have trigTaken : ((s.startMarked p r st).startTaken p st).1.trig = (s.startMarked p r st).trig := State.startTaken_keeps.trig (by decide)
  have coefTaken : ((s.startMarked p r st).startTaken p st).1.coef = s.coef := State.startTaken_keeps.coef (by decide)
  obtain ⟨nextNum, otherIntake⟩ := State.endBlank_intake (s.startMarked p r st) p ((s.startMarked p r st).intake.get p).nextNum
  have intakeTaken : ((s.startMarked p r st).startTaken p st).1.intake =
      ((s.startMarked p r st).endBlank p ((s.startMarked p r st).intake.get p).nextNum).intake := State.eclMark_frame.intake (by decide)
  obtain ⟨started, others⟩ := State.startOpened_started ((s.startMarked p r st).startTaken p st).1 p st
    ((s.startMarked p r st).startTaken p st).2 (by rw [trigTaken]; exact congrArg TrigPos.lastStart trigMarked)
  rw [(State.frameStarts_mark calm mark).1]
  have trig : (((s.startMarked p r st).startTaken p st).1.startOpened p st ((s.startMarked p r st).startTaken p st).2).trig =
    (s.startMarked p r st).trig := (State.startOpened_keeps.trig (by decide)).trans trigTaken
  rw [intakeTaken, nextNum] at started
  refine ⟨started, ?_, fun q hq => ⟨?_, ?_, ?_⟩⟩
  · rw [trig]
    exact congrArg TrigPos.marks trigMarked
  · rw [(others q hq).1, intakeTaken, otherIntake q hq]
    rfl
  · rw [trig]
    exact s.setTrig_other _ hq
  · rw [(others q hq).2, coefTaken]

/-- A release leaves what another position has of it. -/
theorem State.frameStarts_other (calm : s.Calm) (other : q ≠ p) :
    (s.frameStarts rel p).Calm ∧ (s.frameStarts rel p).intake.get q = s.intake.get q ∧
      (s.frameStarts rel p).trig.get q = s.trig.get q ∧ (s.frameStarts rel p).coef.get q = s.coef.get q := by
  cases mark : (s.trig.get p).marks.find? (fun m => m.1 / 4 == rel / 4) with
  | none =>
    rw [State.frameStarts_none mark]
    exact ⟨calm, rfl, rfl, rfl⟩
  | some m => exact ⟨(State.frameStarts_mark calm mark).2, (State.frameStarts_started calm mark).2.2 q other⟩

/-- The one mark of a position has been released. -/
structure State.Released (p : Pos) (num start : Nat) (u : State) : Prop extends u.Started p num start where
  marks : (u.trig.get p).marks = []
  calm : u.Calm

theorem State.Released.frameStarts {num start : Nat} (h : s.Released p num start) (q : Pos) : (s.frameStarts rel q).Released p num start := by
  obtain ⟨⟨frm, nextNum, lastStart, started⟩, marks, calm⟩ := h
  by_cases same : q = p
  · subst same
    rw [State.frameStarts_none (by rw [marks]; rfl)]
    exact ⟨⟨frm, nextNum, lastStart, started⟩, marks, calm⟩
  · obtain ⟨after, intake, trig, coef⟩ := State.frameStarts_other (rel := rel) calm (Ne.symm same)
    rw [← intake] at frm nextNum
    rw [← trig] at lastStart marks
    exact ⟨⟨frm, nextNum, lastStart, coef ▸ started⟩, marks, after⟩

theorem State.Released.foldl {num start : Nat} (h : s.Released p num start) (l : List Pos) :
    (l.foldl (fun s q => s.frameStarts rel q) s).Released p num start := by
  induction l generalizing s with
  | nil => exact h
  | cons q l ih => exact ih (h.frameStarts q)

/-- The starts of a release, whichever other positions start with it and however often the position is named. -/
theorem State.foldl_frameStarts_released {r : Nat} (calm : s.Calm) (mark : (s.trig.get p).marks = [(r, st)]) (cycle : r / 4 = rel / 4)
    {l : List Pos} (named : p ∈ l) :
    (l.foldl (fun s q => s.frameStarts rel q) s).Released p (s.intake.get p).nextNum st.s := by
  induction l generalizing s with
  | nil => exact absurd named List.not_mem_nil
  | cons q l ih =>
    by_cases same : q = p
    · subst same
      have found : (s.trig.get q).marks.find? (fun m => m.1 / 4 == rel / 4) = some (r, st) := by
        rw [mark]
        exact List.find?_cons_of_pos (beq_iff_eq.mpr cycle)
      obtain ⟨started, marks, -⟩ := State.frameStarts_started calm found
      refine State.Released.foldl ⟨started, ?_, (State.frameStarts_mark calm found).2⟩ l
      rw [marks, mark]
      simp
    · obtain ⟨after, intake, trig, -⟩ := State.frameStarts_other (rel := rel) calm (Ne.symm same)
      rw [← intake]
      exact ih after (by rw [trig, mark]) ((List.mem_cons.mp named).resolve_left (Ne.symm same))

/-! ### The end of the mark transaction (03 R114, R115) -/

/-- The number that each position's next frame gets stays. -/
structure State.SameNums (s u : State) : Prop where
  num : ∀ q, (u.intake.get q).nextNum = (s.intake.get q).nextNum

namespace State.SameNums

theorem refl : s.SameNums s := ⟨fun _ => rfl⟩
theorem trans (h : s.SameNums u) (k : u.SameNums w) : s.SameNums w := ⟨fun q => (k.num q).trans (h.num q)⟩

/-- An operation whose frame law leaves the intake. -/
theorem frame {l : List Part} (h : s.SameNums u) (kept : u.keeps l w) (hl : Part.intake ∉ l := by decide) : s.SameNums w :=
  h.trans ⟨fun _ => by rw [kept.intake hl]⟩

theorem ite {c : Prop} [Decidable c] {a b : State} (ha : s.SameNums a) (hb : s.SameNums b) : s.SameNums (if c then a else b) := by
  split
  · exact ha
  · exact hb

theorem fpaReply {r : Nat} {word : Sp0Word} (h : s.SameNums u) : s.SameNums (u.fpaReply p r word) := by
  unfold State.fpaReply
  extract_lets f0 s1 f v s2 c kind d
  split
  · exact h
  · have h1 : s.SameNums s1 := h.frame State.setFpa_frame
    refine .ite ?_ (.ite (h1.frame State.wordRefused_frame) (.ite (.ite (h1.frame State.setFpa_frame) (h1.frame State.wordRefused_frame))
      (.ite (.ite (h1.frame State.gotId_frame) (h1.frame State.wordRefused_frame)) (.ite (.ite h1 (h1.frame State.wordRefused_frame)) h1))))
    split
    · exact .ite h1 (h1.frame State.setFpa_frame)
    · exact .ite (h1.frame State.setFpa_frame) (h1.frame State.wordRefused_frame)
    · refine h1.trans ⟨fun q => ?_⟩
      by_cases same : q = p
      · have read := Quad.get_upd_self s1.intake q (fun i => { i with hpSubt := some v })
        subst same
        exact (congrArg IntakePos.nextNum read :)
      · exact congrArg IntakePos.nextNum (Quad.get_upd_of_ne _ _ same)
    · exact h1.frame State.gotId_frame
    · exact h1

theorem foldl {α : Type} {step : State → α → State} {l : List α} (h : s.SameNums u) (hs : ∀ u a, s.SameNums u → s.SameNums (step u a)) :
    s.SameNums (l.foldl step u) := by
  induction l generalizing u with
  | nil => exact h
  | cons a l ih => exact ih (hs u a h)

theorem sp0Release {words : List Nat} (h : s.SameNums u) : s.SameNums (u.sp0Release sel words) := by
  unfold State.sp0Release
  split
  · exact h
  · next x _ =>
    have released : s.SameNums { u with sp0 := u.sp0.upd sel (fun c => { c with busy := none, lastRelease := max x.endAt u.time.now }) } := ⟨h.num⟩
    exact released.foldl fun _ _ h => h.fpaReply.frame State.setFpa_frame

end State.SameNums

/-- A step that leaves intake, starts, coefficients, mode and objects. -/
theorem State.Released.frame {num start : Nat} {l : List Part} (h : s.Released p num start) (kept : s.keeps l u)
    (hl : [Part.intake, .trig, .coef, .od, .modes].all (fun part => !l.contains part) = true := by decide) : u.Released p num start := by
  simp only [List.all_cons, List.all_nil, Bool.and_true, Bool.and_eq_true, Bool.not_eq_true', List.contains_eq_mem, decide_eq_false_iff_not] at hl
  obtain ⟨intake, trig, coef, od, modes⟩ := hl
  obtain ⟨⟨frm, nextNum, lastStart, started⟩, marks, calm⟩ := h
  rw [← kept.intake intake] at frm nextNum
  rw [← kept.trig trig] at lastStart marks
  rw [← kept.coef coef] at started
  exact ⟨⟨frm, nextNum, lastStart, started⟩, marks, calm.of_shows (s.shows_self.frame kept od) (kept.modes modes)⟩

/-- The transaction of a mark is released at its end. -/
theorem State.markEnd_releases {x : Sp0Txn} {word : Sp0Word} {words : List Nat} {r : Nat} (calm : s.Calm) (busy : (s.sp0.get sel).busy = some x)
    (kind : x.kind = 0) (due : x.endAt ≤ s.time.now) (named : (p, word) ∈ x.words) (starts : word.op = 2 ∨ word.op = 6)
    (mark : (s.trig.get p).marks = [(r, st)]) (cycle : r / 4 = x.endAt / 4) :
    (s.markEnd sel words).Released p (s.intake.get p).nextNum st.s := by
  have released : (s.sp0Release sel words).Calm := calm.of_shows s.shows_self.sp0Release (State.sp0Release_frame.modes (by decide))
  have trig : (s.sp0Release sel words).trig = s.trig := State.sp0Release_frame.trig (by decide)
  have num := (State.SameNums.refl (s := s)).sp0Release (sel := sel) (words := words) |>.num p
  have listed : p ∈ (x.words.filter (fun w => w.2.op == 2 || w.2.op == 6)).map (·.1) :=
    List.mem_map.mpr ⟨(p, word), List.mem_filter.mpr ⟨named, by simpa using starts⟩, rfl⟩
  have all := State.foldl_frameStarts_released released (by rw [trig, mark]) cycle listed
  rw [num] at all
  unfold State.markEnd
  rw [busy]
  dsimp only
  rw [if_pos ⟨kind, due⟩]
  exact all.frame State.sp0Next_frame

/-- Another transaction that is released at its end, with no transition running, is followed by the next of its select. -/
theorem execSp0TransactionEnd_released {x : Sp0Txn} {words : List Nat} (busy : (s.sp0.get sel).busy = some x) (kind : x.kind ≠ 0)
    (due : x.endAt ≤ (s.advance t).time.now) (none : s.modes.running = none) :
    execSp0TransactionEnd sel words t s = .next (((s.advance t).sp0Release sel words).sp0Next sel) := by
  have busy' : ((s.advance t).sp0.get sel).busy = some x := busy
  have modes : ((s.advance t).sp0Release sel words).modes = s.modes := State.sp0Release_frame.modes (by decide)
  unfold execSp0TransactionEnd
  dsimp only
  rw [busy']
  dsimp only
  rw [if_pos ⟨kind, due⟩, State.entryIds_none (by rw [modes, none])]

/-- Settles O38: the decision by what it leaves of the queue, the marks and the counts, the transactions by what a select begins and
releases, and the release of a mark by what each of its starts leaves of the position. -/
theorem startsBecomeMarks : Obligations.StartsBecomeMarks := by
  unfold Obligations.StartsBecomeMarks
  intro s p t sound
  have c : (s.advance t).Canonical := (State.canonical_iff_objectsOk.mpr sound.1).frame State.advance_keeps
  refine ⟨fun st rest first due => ⟨fun allowed clear kept => ⟨_, rfl, ?made⟩, fun refused skip => ⟨_, rfl, ?skipped⟩⟩,
    fun st h held known due kept => ⟨_, rfl, ?held⟩, fun rel imaging first due idle => ⟨(s.advance t).markBegin (s.fpaSel p), if_pos imaging, ?begins⟩,
    fun words x w r st safe orphan busy kind due named starts mark cycle => ⟨_, rfl, ?release⟩,
    fun sel words x busy kind due none => ⟨_, execSp0TransactionEnd_released busy kind due none, ?ends⟩⟩
  case made =>
    obtain ⟨queue, marks, others, keeps⟩ := State.decide_made (s := s.advance t) first due allowed clear kept
    rw [State.sp0Next_frame.trig (by decide)]
    exact ⟨queue, marks, others, State.sp0Next_frame.last (by decide) (keeps.last (by decide) (State.advance_keeps.mono (by decide)))⟩
  case skipped =>
    obtain ⟨queue, marks, others, counted, clash, clear⟩ := State.decide_skipped (s := s.advance t) c first due refused skip
    have od {w : State} {sel : Pos} : (w.sp0Next sel).od = w.od := State.sp0Next_frame.od (by decide)
    rw [State.sp0Next_frame.trig (by decide)]
    simp only [State.oi_eq_of_od od]
    exact ⟨queue, marks, others.trans (.of_od od), counted, clash, clear⟩
  case held =>
    obtain ⟨held, marks, others, keeps⟩ := State.heldMade_made (s := s.advance t) held known due kept
    rw [State.sp0Next_frame.trig (by decide)]
    exact ⟨held, marks, others, State.sp0Next_frame.last (by decide) (keeps.last (by decide) (State.advance_keeps.mono (by decide)))⟩
  case begins => exact State.markBegin_begins (s := s.advance t) first due idle
  case release =>
    obtain ⟨⟨frm, nextNum, last, started⟩, marks, -⟩ :=
      State.markEnd_releases (s := s.advance t) (words := words) ⟨safe, orphan⟩ busy kind due named starts mark cycle
    exact ⟨frm, nextNum, marks, last, started⟩
  case ends =>
    obtain ⟨-, release, others⟩ := State.sp0Release_release (s := s.advance t) (words := words) busy
    refine ⟨(State.sp0Next_release _ sel sel).1.trans release, fun q hq => ?_, ?_⟩
    · rw [(State.sp0Next_release ((s.advance t).sp0Release sel words) sel q).2 hq]
      exact others q hq
    · exact State.sp0Next_frame.last (by decide) (State.sp0Release_frame.last (by decide) (State.advance_keeps.mono (by decide)))

end Sys2Proof.Machine
end

section
/-!
PROOFS. A frame's pixels from stage to stage of the pipeline of its position (03 R104, 04 R143 to R147, 05 R187, R201).
-/
namespace Sys2Proof.Machine
set_option Elab.async false

variable {s u w : State} {p : Pos} {t : Nat} {x : FrameCtx}

/-! ### What the stages leave of a pipeline -/

/-- The frame in the pipeline of a position, the rows at the stages behind correction, and the pipelines of the other positions stay. -/
structure State.SamePipe (p : Pos) (s u : State) : Prop where
  frm : (u.pipe.get p).frm = (s.pipe.get p).frm
  outOf : (u.pipe.get p).outOf = (s.pipe.get p).outOf
  tailRows : (u.pipe.get p).tailRows = (s.pipe.get p).tailRows
  other : ∀ q, q ≠ p → u.pipe.get q = s.pipe.get q

theorem State.setPipe_same (s : State) (p : Pos) (y : PipePos) : (s.setPipe p y).pipe.get p = y := Quad.get_set_self _ _ _

theorem State.setPipe_other {q : Pos} (s : State) (y : PipePos) (h : q ≠ p) : (s.setPipe p y).pipe.get q = s.pipe.get q :=
  Quad.get_set_of_ne _ y h

namespace State.SamePipe

theorem refl : s.SamePipe p s := ⟨rfl, rfl, rfl, fun _ _ => rfl⟩

theorem trans (h : s.SamePipe p u) (k : u.SamePipe p w) : s.SamePipe p w :=
  ⟨k.frm.trans h.frm, k.outOf.trans h.outOf, k.tailRows.trans h.tailRows, fun q hq => (k.other q hq).trans (h.other q hq)⟩

/-- An operation whose frame law leaves the pipelines. -/
theorem frame {l : List Part} (h : s.SamePipe p u) (kept : u.keeps l w) (hl : Part.pipe ∉ l := by decide) : s.SamePipe p w := by
  have same := kept.pipe hl
  exact h.trans ⟨by rw [same], by rw [same], by rw [same], fun _ _ => by rw [same]⟩

theorem ite {c : Prop} [Decidable c] {a b : State} (ha : s.SamePipe p a) (hb : s.SamePipe p b) : s.SamePipe p (if c then a else b) := by
  split
  · exact ha
  · exact hb

/-- The pipeline of the position is written elsewhere. -/
theorem setPipe {y : PipePos} (h : s.SamePipe p u) (frm : y.frm = (u.pipe.get p).frm := by rfl)
    (outOf : y.outOf = (u.pipe.get p).outOf := by rfl) (tailRows : y.tailRows = (u.pipe.get p).tailRows := by rfl) :
    s.SamePipe p (u.setPipe p y) :=
  h.trans ⟨by rw [State.setPipe_same, frm], by rw [State.setPipe_same, outOf], by rw [State.setPipe_same, tailRows],
    fun _ hq => State.setPipe_other u y hq⟩

theorem takeSample {r : RowPkt} (h : s.SamePipe p u) : s.SamePipe p (u.takeSample p x r) := by
  unfold State.takeSample
  dsimp only
  split
  · exact h
  · exact .ite h.setPipe h.setPipe

theorem toBuffer {k r : Nat} {px : List CorrPx} {synth : Bool} (h : s.SamePipe p u) : s.SamePipe p (u.toBuffer p k r px synth) :=
  (h.frame State.eclCapture_frame).setPipe.frame State.incBy_keeps

theorem nativeRow {r : RowPkt} {es : List Entry} (h : s.SamePipe p u) : s.SamePipe p (u.nativeRow p x r es) :=
  (h.frame State.incBy_keeps).toBuffer

theorem herRow {up mid dn : HerRow} (h : s.SamePipe p u) : s.SamePipe p (u.herRow p x up mid dn) := (h.frame State.herTnr_frame).toBuffer

theorem heritageRow {r : RowPkt} {es : List Entry} (h : s.SamePipe p u) : s.SamePipe p (u.heritageRow p x r es) := by
  unfold State.heritageRow
  extract_lets y px old row rows s1 at_ s2 s3
  have h1 : s.SamePipe p s1 := h.setPipe
  have h2 : s.SamePipe p s2 := by
    unfold s2
    split
    · exact .ite h1 h1.herRow
    · exact h1
  exact .ite h1 (State.SamePipe.ite h2.herRow h2).setPipe

theorem tailWrite {k r : Nat} {ts : List TailStep} (h : s.SamePipe p u) : s.SamePipe p (u.tailWrite p k r ts) := by
  have history : s.SamePipe p (ts.zipIdx.foldl (fun s d =>
      match d.1.hist with
      | some h => s.setDram (histAt p r d.2 k) (leBytes 2 h)
      | none => s) u) := by
    refine h.frame (l := [.mem]) (State.keeps_foldl (fun u d => ?_) State.keeps_refl)
    split
    · exact State.setDram_frame
    · exact State.keeps_refl
  exact ((history.setPipe).frame State.incBy_keeps).frame State.incBy_keeps

end State.SamePipe

/-! ### Entries and slices (04 R143, R144; 03 R104) -/

theorem State.prefetch_first {j : Nat} {r : RowPkt} (here : (s.pipe.get p).frm = some x)
    (first : (s.intake.get p).fifo.findIdx? (fun r => r.entries.isNone && r.num == x.num) = some j)
    (at_ : (s.intake.get p).fifo[j]? = some r) : s.prefetch p =
      (s.setIntake p { s.intake.get p with fifo := (s.intake.get p).fifo.set j { r with
          entries := some (blockEntries (s.fetchBlocks p r.row r.col0 r.data.length) r.col0 r.data.length r.slot) } }).setPipe p
        { s.pipe.get p with blocks := heldAfter (s.pipe.get p).blocks r.row (s.fetchBlocks p r.row r.col0 r.data.length) } := by
  simp only [State.prefetch, here, first, at_]

/-- The packet whose turn it is has left the buffer, and its sample is taken. -/
def State.served (s : State) (p : Pos) (x : FrameCtx) (r : RowPkt) (rest : List RowPkt) : State :=
  { (s.setIntake p { s.intake.get p with fifo := rest }).takeSample p x r with link := { s.link with turn := p } }

theorem State.enterSlice_serves {r : RowPkt} {rest : List RowPkt} {es : List Entry} (here : (s.pipe.get p).frm = some x)
    (fifo : (s.intake.get p).fifo = r :: rest) (entries : r.entries = some es) (turn : s.bufferTurn = some p) : s.enterSlice p =
      if x.heritage then (s.served p x r rest).heritageRow p x r es else (s.served p x r rest).nativeRow p x r es := by
  simp only [State.enterSlice, here, fifo, entries, turn, if_true]
  rfl

/-- The packet whose turn it is enters its slices. -/
theorem State.enterSlice_turn {r : RowPkt} {rest : List RowPkt} {es : List Entry} (here : (s.pipe.get p).frm = some x)
    (fifo : (s.intake.get p).fifo = r :: rest) (entries : r.entries = some es) (turn : s.bufferTurn = some p) :
    ((s.enterSlice p).intake.get p).fifo = rest ∧ (s.enterSlice p).link.turn = p ∧ s.SamePipe p (s.enterSlice p) ∧
      ∀ q, q ≠ p → (s.enterSlice p).intake.get q = s.intake.get q := by
  have intake : (s.served p x r rest).intake = (s.setIntake p { s.intake.get p with fifo := rest }).intake :=
    State.takeSample_frame.intake (by decide)
  have pipe : s.SamePipe p (s.served p x r rest) := by
    have sampled : s.SamePipe p ((s.setIntake p { s.intake.get p with fifo := rest }).takeSample p x r) :=
      (State.SamePipe.refl.frame State.setIntake_frame).takeSample
    exact ⟨sampled.frm, sampled.outOf, sampled.tailRows, sampled.other⟩
  have kept : (s.served p x r rest).keeps [.od, .pipe, .ecl, .mem]
      (if x.heritage then (s.served p x r rest).heritageRow p x r es else (s.served p x r rest).nativeRow p x r es) :=
    State.keeps_ite State.heritageRow_frame (State.nativeRow_frame.mono (by decide))
  rw [State.enterSlice_serves here fifo entries turn, kept.intake (by decide), kept.link (by decide), intake, State.setIntake_same]
  exact ⟨rfl, rfl, .ite pipe.heritageRow pipe.nativeRow, fun q hq => s.setIntake_other _ hq⟩

theorem State.enterSlice_stall {r : RowPkt} {rest : List RowPkt} {es : List Entry} (here : (s.pipe.get p).frm = some x)
    (fifo : (s.intake.get p).fifo = r :: rest) (entries : r.entries = some es) (turn : s.bufferTurn ≠ some p) : s.enterSlice p = s := by
  simp only [State.enterSlice, here, fifo, entries, turn, if_false]

/-! ### Replacement and tail (04 R147) -/

/-- A row that leaves the tail stage waits for merge behind those that wait. -/
theorem State.toMerge_waits (s : State) (p : Pos) (x : FrameCtx) (k r : Nat) (px : List TailPx) (errs : List Bool) :
    ((s.toMerge p x k r px errs).pipe.get p).outOf = (s.pipe.get p).outOf ∧
      (∃ z, ((s.toMerge p x k r px errs).pipe.get p).tailRows = (s.pipe.get p).tailRows ++ [z] ∧ z.slot = k ∧ z.row = r) ∧
      ∀ q, q ≠ p → (s.toMerge p x k r px errs).pipe.get q = s.pipe.get q := by
  unfold State.toMerge
  extract_lets y full s1
  have joined : (s1.pipe.get p).outOf = (s.pipe.get p).outOf ∧
      (∃ z, (s1.pipe.get p).tailRows = (s.pipe.get p).tailRows ++ [z] ∧ z.slot = k ∧ z.row = r) ∧
      ∀ q, q ≠ p → s1.pipe.get q = s.pipe.get q := by
    unfold s1
    rw [State.setPipe_same]
    exact ⟨rfl, ⟨_, rfl, rfl, rfl⟩, fun q hq => s.setPipe_other _ hq⟩
  split
  · have staged (l : List ((TailPx × Bool) × Nat)) : (l.foldl (fun s d => s.setDram (stageAt p k r d.2) (leBytes 3
        (e24 d.1.1.invalid d.1.1.sat (d.1.1.replaced || d.1.1.unreplaced || d.1.2) d.1.1.z))) s1).pipe = s1.pipe :=
      State.keeps.pipe (State.keeps_foldl (fun _ _ => State.setDram_frame) State.keeps_refl) (by decide)
    rw [State.inc_keeps.pipe (by decide), staged]
    exact joined
  · exact joined

/-- A row that leaves replacement: the next one of its slot follows, and it waits for merge. -/
theorem State.rowOut_leaves (s : State) (p : Pos) (x : FrameCtx) (k : Pos) (r : Nat) (row : List CorrPx) :
    ((s.rowOut p x k.val r row).pipe.get p).outOf = (s.pipe.get p).outOf.set k (r + 1) ∧
      (∃ z, ((s.rowOut p x k.val r row).pipe.get p).tailRows = (s.pipe.get p).tailRows ++ [z] ∧ z.slot = k.val ∧ z.row = r) ∧
      ∀ q, q ≠ p → (s.rowOut p x k.val r row).pipe.get q = s.pipe.get q := by
  have index : posOf k.val = k := Fin.ofNat_val_eq_self k
  unfold State.rowOut
  extract_lets y rep s1 errs z ts z'
  have h1 : (s1.pipe.get p).outOf = (s.pipe.get p).outOf.set k (r + 1) ∧ (s1.pipe.get p).tailRows = (s.pipe.get p).tailRows ∧
      ∀ q, q ≠ p → s1.pipe.get q = s.pipe.get q := by
    unfold s1
    rw [State.countRepl_frame.pipe (by decide), State.setPipe_same, index]
    exact ⟨rfl, rfl, fun q hq => s.setPipe_other _ hq⟩
  have through {w : State} (h : s1.SamePipe p w) (px : List TailPx) :
      ((w.toMerge p x k.val r px errs).pipe.get p).outOf = (s.pipe.get p).outOf.set k (r + 1) ∧
        (∃ z, ((w.toMerge p x k.val r px errs).pipe.get p).tailRows = (s.pipe.get p).tailRows ++ [z] ∧ z.slot = k.val ∧ z.row = r) ∧
        ∀ q, q ≠ p → (w.toMerge p x k.val r px errs).pipe.get q = s.pipe.get q := by
    obtain ⟨outOf, tailRows, other⟩ := h1
    have waits := w.toMerge_waits p x k.val r px errs
    rw [h.outOf, outOf, h.tailRows, tailRows] at waits
    exact ⟨waits.1, waits.2.1, fun q hq => (waits.2.2 q hq).trans ((h.other q hq).trans (other q hq))⟩
  split
  · exact through (State.SamePipe.refl.frame State.tapRow_frame) z
  · exact through ((State.SamePipe.refl.tailWrite.frame State.stampRow_frame).frame State.tapRow_frame) z'

/-- The next row of an enabled slot leaves replacement once the row two below it is corrected. -/
theorem State.replaceRow_leaves {k : Pos} {c : CorrRow} (here : (s.pipe.get p).frm = some x) (slot : bitAt x.mask k.val = true)
    (full : (s.pipe.get p).corr.find? (fun c => c.slot == k.val && c.row == (s.pipe.get p).outOf.get k && c.px.length == x.width) = some c)
    (below : ((s.pipe.get p).corr.find? (fun c => c.slot == k.val && c.row == (s.pipe.get p).outOf.get k + 2 &&
      c.px.length == x.width)).isSome = true) : s.replaceRow p k = s.rowOut p x k.val ((s.pipe.get p).outOf.get k) c.px := by
  simp only [State.replaceRow, here, full, below, slot, Bool.true_or, Bool.and_self, if_true]

/-! ### Merge and the output filters (05 R187, R201) -/

theorem State.mergePixels_length (s : State) (p : Pos) (x : FrameCtx) (r : Nat) (rows : Nat → Array TailPx) :
    (s.mergePixels p x r rows).length = x.width := by
  simp only [State.mergePixels, List.length_map, List.length_range]

/-- The next row is merged once every enabled slot of it waits. -/
theorem State.merge_row (here : (s.pipe.get p).frm = some x) (wait : ∀ k ∈ maskBits x.mask,
      ((s.pipe.get p).tailRows.find? (fun z => z.slot == k && z.row == (s.pipe.get p).merged.length)).isSome = true)
    (inside : (s.pipe.get p).merged.length < x.height) :
    (∃ m, ((s.merge p).pipe.get p).merged = (s.pipe.get p).merged ++ [m] ∧ m.row = (s.pipe.get p).merged.length ∧ m.px.length = x.width) ∧
      ∀ q, q ≠ p → (s.merge p).pipe.get q = s.pipe.get q := by
  unfold State.merge
  rw [here]
  dsimp only
  rw [if_pos (by rw [List.all_eq_true.mpr wait, decide_eq_true inside]; rfl)]
  rw [State.tapPut_frame.pipe (by decide), State.countMerge_frame.pipe (by decide), State.setPipe_same]
  exact ⟨⟨_, rfl, rfl, by rw [List.length_map, State.mergePixels_length]⟩, fun q hq => s.setPipe_other _ hq⟩

/-- The next merged row is filtered once the row below it is merged or it is the last. -/
theorem State.filterRow_row {m : OutRow} (here : (s.pipe.get p).frm = some x)
    (mid : (s.pipe.get p).merged.find? (fun m => m.row == (s.pipe.get p).rows.length) = some m)
    (below : x.height ≤ (s.pipe.get p).rows.length + 1 ∨
      ((s.pipe.get p).merged.find? (fun m => m.row == (s.pipe.get p).rows.length + 1)).isSome = true) :
    (∃ o, ((s.filterRow p).pipe.get p).rows = (s.pipe.get p).rows ++ [o] ∧ o.row = (s.pipe.get p).rows.length) ∧
      ∀ q, q ≠ p → (s.filterRow p).pipe.get q = s.pipe.get q := by
  unfold State.filterRow
  rw [here]
  extract_lets y r row
  have now : row r = some (m.px.map (·.t)).toArray := congrArg (Option.map _) mid
  have ready : ¬ (r + 1 < x.height ∧ (row (r + 1)).isNone = true) := by
    rintro ⟨more, none⟩
    rcases below with last | waits
    · exact absurd more (Nat.not_lt_of_le last)
    · rw [Option.isNone_map] at none
      exact absurd waits (Option.not_isSome_iff_eq_none.mpr (Option.isNone_iff_eq_none.mp none))
  have stored {on : Prop} [Decidable on] {a b : Nat} {x y : List Byte} :
      (if on then (s.setDram a x).setDram b y else s).pipe = s.pipe := by
    split
    · exact (State.setDram_frame.pipe (by decide)).trans (State.setDram_frame.pipe (by decide))
    · rfl
  rw [show y.merged.find? (fun m => m.row == r) = some m from mid, now]
  dsimp only
  rw [if_neg ready, State.tapPut_frame.pipe (by decide), State.setPipe_same]
  refine ⟨⟨_, rfl, rfl⟩, fun q hq => (State.setPipe_other _ _ hq).trans ?_⟩
  rw [stored]

/-- Settles O25: stage by stage, by what the stage leaves of the buffer and of the pipeline. -/
theorem pixelsThroughTheStages : Obligations.PixelsThroughTheStages := by
  unfold Obligations.PixelsThroughTheStages
  intro s p t x _ here
  refine ⟨fun j r first at_ => ⟨_, rfl, ?entries⟩, fun r rest es fifo entries => ⟨fun turn => ⟨_, rfl, ?enters⟩, fun turn => ⟨_, rfl, ?stalls⟩⟩,
    fun k c slot full below => ⟨_, rfl, ?replaced⟩, fun wait inside => ⟨_, rfl, State.merge_row (s := s.advance t) here wait inside⟩,
    fun m mid below => ⟨_, rfl, State.filterRow_row (s := s.advance t) here mid below⟩⟩
  case entries =>
    rw [State.prefetch_first (s := s.advance t) here first at_]
    refine ⟨⟨_, rfl, ?_⟩, fun q hq => ⟨State.setIntake_other (s.advance t) _ hq, State.setPipe_other _ _ hq⟩, ?_, ?_⟩
    · exact congrArg IntakePos.fifo (State.setIntake_same (s.advance t) p _)
    · rw [State.setPipe_same]
      exact here
    · exact State.setPipe_frame.last (by decide) (State.setIntake_frame.last (by decide) (State.advance_keeps.mono (by decide)))
  case enters =>
    obtain ⟨left, turn_, pipe, others⟩ := State.enterSlice_turn (s := s.advance t) here fifo entries turn
    exact ⟨left, turn_, pipe.frm.trans here, fun q hq => ⟨others q hq, pipe.other q hq⟩⟩
  case stalls =>
    rw [State.enterSlice_stall (s := s.advance t) here fifo entries turn]
    exact State.advance_keeps
  case replaced =>
    rw [State.replaceRow_leaves (s := s.advance t) here slot full below]
    exact State.rowOut_leaves (s.advance t) p x k _ c.px

end Sys2Proof.Machine
end

section
/-!
PROOFS. The shape of the state, as an invariant of states, of checked operations and of answers (03 R75, 08 R306, 09 R328, 12 R427,
12 R431). Most operations leave the five lists of the shape, which their frame laws say; the others write one member of a list or lay
the whole list anew.
-/
namespace Sys2Proof.Machine

/-- `State.shapesOk` with its parts named. -/
structure State.Shaped (s : State) : Prop where
  lanes : s.lanes.length = 8
  chan : s.chan.length = 8
  taps : s.taps.length = 8
  dma : s.dma.length = 16
  rings : s.rings.length = 10

theorem State.shaped_iff_shapesOk {s : State} : s.Shaped ↔ s.shapesOk :=
  ⟨fun h => ⟨h.lanes, h.chan, h.taps, h.dma, h.rings⟩, fun ⟨lanes, chan, taps, dma, rings⟩ => ⟨lanes, chan, taps, dma, rings⟩⟩

/-- What a checked operation answers has the shape when it is a state. -/
def Res.Shaped (r : Res) : Prop := ∀ u, r = .ok u → u.Shaped

/-- What a command answers has the shape when it is a next state. -/
def Ans.Shaped (a : Ans) : Prop := ∀ u, a = .next u → u.Shaped

theorem Res.Shaped.ok {u : State} (h : u.Shaped) : Res.Shaped (.ok u) := by
  rintro _ ⟨⟩
  exact h

theorem Res.Shaped.error {c : Nat} : Res.Shaped (.error c) := by
  rintro _ ⟨⟩

theorem Res.Shaped.ite {c : Prop} [Decidable c] {a b : Res} (ha : a.Shaped) (hb : b.Shaped) : Res.Shaped (if c then a else b) := by
  split
  · exact ha
  · exact hb

theorem Res.Shaped.map {a : Res} {f : State → State} (ha : a.Shaped) (hf : ∀ s, s.Shaped → (f s).Shaped) : Res.Shaped (a.map f) := by
  cases a with
  | error c => exact .error
  | ok u => exact .ok (hf u (ha u rfl))

theorem Ans.Shaped.next {u : State} (h : u.Shaped) : Ans.Shaped (.next u) := by
  rintro _ ⟨⟩
  exact h

theorem Ans.Shaped.fault {c : Fault} : Ans.Shaped (.fault c) := by
  rintro _ ⟨⟩

theorem Ans.Shaped.ite {c : Prop} [Decidable c] {a b : Ans} (ha : a.Shaped) (hb : b.Shaped) : Ans.Shaped (if c then a else b) := by
  split
  · exact ha
  · exact hb

/-- Each command that an object key may name answers a state of the shape. -/
def CmdsShaped (o : Option (State → Res)) : Prop := ∀ op, o = some op → ∀ s : State, s.Shaped → (op s).Shaped

theorem CmdsShaped.none : CmdsShaped none := by
  rintro _ ⟨⟩

theorem CmdsShaped.some {op : State → Res} (h : ∀ s : State, s.Shaped → (op s).Shaped) : CmdsShaped (some op) := by
  rintro _ ⟨⟩
  exact h

theorem CmdsShaped.ite {c : Prop} [Decidable c] {a b : Option (State → Res)} (ha : CmdsShaped a) (hb : CmdsShaped b) :
    CmdsShaped (if c then a else b) := by
  split
  · exact ha
  · exact hb

theorem CmdsShaped.map {α : Type} {o : Option α} {f : α → State → Res} (h : ∀ a s, State.Shaped s → (f a s).Shaped) :
    CmdsShaped (o.map f) := by
  cases o with
  | none => exact .none
  | some a => exact .some (h a)

namespace State.Shaped

variable {s u : State}

/-- A record update that leaves the five lists. -/
theorem upd {pending out od doms time boot modes ops chain bar0 nv aligned intake link fpa sp0 pipe coef gen vdet stat ecl shut windows enc0
    enc1 tg trig trigOut out0 out1 mem host ingots serial hk therm pwr sec dbg free} (h : s.Shaped) : State.Shaped { s with
      pending, out, od, doms, time, boot, modes, ops, chain, bar0, nv, aligned, intake, link, fpa, sp0, pipe, coef, gen, vdet, stat, ecl,
      shut, windows, enc0, enc1, tg, trig, trigOut, out0, out1, mem, host, ingots, serial, hk, therm, pwr, sec, dbg, free } :=
  ⟨h.lanes, h.chan, h.taps, h.dma, h.rings⟩

theorem updLanes {l : List Lane} (h : s.Shaped) (hl : l.length = 8) : State.Shaped { s with lanes := l } :=
  ⟨hl, h.chan, h.taps, h.dma, h.rings⟩

theorem updChan {l : List Channel} (h : s.Shaped) (hl : l.length = 8) : State.Shaped { s with chan := l } :=
  ⟨h.lanes, hl, h.taps, h.dma, h.rings⟩

theorem updTaps {l : List TapSt} (h : s.Shaped) (hl : l.length = 8) : State.Shaped { s with taps := l } :=
  ⟨h.lanes, h.chan, hl, h.dma, h.rings⟩

theorem updDma {l : List DmaCh} (h : s.Shaped) (hl : l.length = 16) : State.Shaped { s with dma := l } :=
  ⟨h.lanes, h.chan, h.taps, hl, h.rings⟩

theorem updRings {l : List Ring} (h : s.Shaped) (hl : l.length = 10) : State.Shaped { s with rings := l } :=
  ⟨h.lanes, h.chan, h.taps, h.dma, hl⟩

/-- An operation whose frame law lets it change none of the five lists. -/
theorem frame {l : List Part} (h : s.Shaped) (k : s.keeps l u)
    (hl : Part.lanes ∉ l ∧ Part.chan ∉ l ∧ Part.taps ∉ l ∧ Part.dma ∉ l ∧ Part.rings ∉ l := by decide) : u.Shaped := by
  obtain ⟨lanes, chan, taps, dma, rings⟩ := hl
  exact ⟨k.lanes lanes ▸ h.lanes, k.chan chan ▸ h.chan, k.taps taps ▸ h.taps, k.dma dma ▸ h.dma, k.rings rings ▸ h.rings⟩

theorem ite {c : Prop} [Decidable c] {a b : State} (ha : a.Shaped) (hb : b.Shaped) : (if c then a else b).Shaped := by
  split
  · exact ha
  · exact hb

theorem foldl {α : Type} {f : State → α → State} {l : List α} (h : s.Shaped) (hf : ∀ s a, s.Shaped → (f s a).Shaped) :
    (l.foldl f s).Shaped := by
  induction l generalizing s with
  | nil => exact h
  | cons a l ih => exact ih (hf s a h)

theorem iteFst {α : Type} {c : Prop} [Decidable c] {a b : State × α} (ha : a.1.Shaped) (hb : b.1.Shaped) :
    (if c then a else b).1.Shaped := by
  split
  · exact ha
  · exact hb

theorem foldlFst {α β : Type} {f : State × β → α → State × β} {l : List α} {x : State × β} (h : x.1.Shaped)
    (hf : ∀ x a, x.1.Shaped → (f x a).1.Shaped) : (l.foldl f x).1.Shaped := by
  induction l generalizing x with
  | nil => exact h
  | cons a l ih => exact ih (hf x a h)

theorem reset : State.reset.Shaped := shaped_iff_shapesOk.mpr State.reset_shapesOk
end State.Shaped
end Sys2Proof.Machine
end

section
/-!
PROOFS. The shape over the operations that write the five lists. A proof follows the definition: its branches by `ite` or `split`, its
loops by `foldl`, what it does to a list by the rule of that list, and every operation that leaves the lists by `frame`.
-/
namespace Sys2Proof.Machine
namespace State.Shaped
set_option Elab.async false

variable {s u : State} {p : Pos} {via : Via} {r : Req} {t : Nat}

/-! ### One member of a list -/

theorem setSlot {r k : Nat} {x : RingSlot} (h : s.Shaped) : (s.setSlot r k x).Shaped :=
  (h.updRings (by rw [List.length_set, h.rings])).upd

theorem takeSlot {r k : Nat} {x : RingSlot} (h : s.Shaped) : (s.takeSlot r k x).Shaped := h.setSlot
theorem release {r k : Nat} (h : s.Shaped) : (s.release r k).Shaped := .ite h.setSlot h.setSlot

theorem layRing {r size : Nat} (h : s.Shaped) : (s.layRing r size).Shaped :=
  .foldl (h.updRings (by rw [List.length_set, h.rings])) fun _ _ h => .ite h.setSlot h

theorem setCh {c : Nat} {x : DmaCh} (h : s.Shaped) : (s.setCh c x).Shaped := h.updDma (by rw [List.length_set, h.dma])

theorem dropHold {c : Nat} (h : s.Shaped) : (s.dropHold c).Shaped := by
  unfold State.dropHold
  split
  · split
    exacts [.ite h.setSlot h.setSlot, h]
  · exact h

theorem dmaDiscard {r k : Nat} (h : s.Shaped) : (s.dmaDiscard r k).Shaped := by
  unfold State.dmaDiscard
  refine h.foldl fun s _ h => ?_
  split
  exacts [.ite h.setCh h, h]

theorem setLane {l : Nat} {x : Lane} (h : s.Shaped) : (s.setLane l x).Shaped := h.updLanes (by rw [List.length_set, h.lanes])

theorem setTap {n : Nat} {x : TapSt} (h : s.Shaped) : State.Shaped { s with taps := s.taps.set n x } :=
  h.updTaps (by rw [List.length_set, h.taps])

theorem tapPut {x : FrameCtx} {n k r : Nat} {vals : List Nat} (h : s.Shaped) : (s.tapPut x p n k r vals).Shaped := .ite h.setTap h

theorem tapRow {x : FrameCtx} {k r : Nat} {row : List CorrPx} {rep : List ReplPx} {z : List TailPx} (h : s.Shaped) :
    (s.tapRow x p k r row rep z).Shaped :=
  .ite h.tapPut.tapPut.tapPut.tapPut.tapPut h.tapPut.tapPut.tapPut.tapPut

theorem takeTaps {x : FrameCtx} (h : s.Shaped) : (s.takeTaps p x).1.Shaped := h.foldl fun _ _ h => h.setTap
theorem chTail {c v : Nat} (h : s.Shaped) : (s.chTail c v).Shaped := h.setCh
theorem hostFailed {c : Nat} {x : DescRun} (h : s.Shaped) : (s.hostFailed c x).Shaped := h.setCh

theorem burst {c : Nat} {x : DescRun} {data : List Byte} (h : s.Shaped) : (s.burst c x data).Shaped := by
  unfold State.burst
  extract_lets _ _ s1
  have h1 : s1.Shaped := .ite h.upd h.upd
  exact h1.setCh.upd.upd

theorem chRead {c r : Nat} (h : s.Shaped) : (s.chRead c r).1.Shaped := by
  unfold State.chRead
  extract_lets
  split
  · exact h
  · exact h
  · exact h.setCh
  · exact h.upd
  · split
    exacts [.iteFst h.upd h, h]
  · exact h

theorem bar4Word {a : Nat} (h : s.Shaped) : (s.bar4Word a).1.Shaped := .iteFst h (.iteFst h (.iteFst h.chRead h))

theorem filterRow (h : s.Shaped) : (s.filterRow p).Shaped := by
  unfold State.filterRow
  split
  · exact h
  · extract_lets
    split
    · refine .ite h ?_
      extract_lets _ _ _ _ s1
      have h1 : s1.Shaped := .ite h.upd h
      exact h1.upd.tapPut
    · exact h

/-! ### Machine/Ops -/

theorem setO {k : Nat} {v : Int} (h : s.Shaped) : (s.setO k v).Shaped := h.frame State.setO_keeps
theorem setOs {l : List (Nat × Int)} (h : s.Shaped) : (s.setOs l).Shaped := h.frame State.setOs_keeps
theorem inc {k : Nat} (h : s.Shaped) : (s.inc k).Shaped := h.frame State.inc_keeps
theorem incBy {k n : Nat} (h : s.Shaped) : (s.incBy k n).Shaped := h.frame State.incBy_keeps
theorem log {code pos : Nat} {fs : List (Nat × Nat)} (h : s.Shaped) : (s.log code pos fs).Shaped := h.frame State.log_keeps
theorem logEvt {e : Evt} {pos detail : Nat} {fs : List (Nat × Nat)} (h : s.Shaped) : (s.logEvt e pos detail fs).Shaped :=
  h.frame State.logEvt_keeps
theorem notify {code pos : Nat} {fs : List (Nat × Nat)} (h : s.Shaped) : (s.notify code pos fs).Shaped := h.frame State.notify_keeps
theorem refuse {key code : Nat} (h : s.Shaped) : (s.refuse via key code).Shaped := h.frame State.refuse_keeps
theorem failNoted {key code : Nat} (h : s.Shaped) : (s.failNoted key code).Shaped := h.frame State.failNoted_frame
theorem dropHeld (h : s.Shaped) : s.dropHeld.Shaped := h.frame State.dropHeld_frame

theorem onPath {f : State → State} (h : s.Shaped) (hf : ∀ s, s.Shaped → (f s).Shaped) : (s.onPath via f).Shaped := by
  unfold State.onPath
  split
  · exact .ite h (.ite h.upd (.ite h (hf _ h)))
  · exact .ite h (hf _ h)

theorem writeOf (h : s.Shaped) : (s.writeOf via).Shaped := h.frame State.writeOf_frame

theorem command {key lvl : Nat} {op : State → Res} (h : s.Shaped) (hop : ∀ s, s.Shaped → (op s).Shaped) :
    Res.Shaped (s.command via key lvl op) := by
  unfold State.command
  refine .ite .error ?_
  split
  · exact .ok (.frame (hop _ (h.frame State.touch_keeps) _ ‹_›) State.markExpert_keeps)
  · exact .error

theorem runCommand {key : Nat} {r : State → Res} (h : s.Shaped) (hr : ∀ s, s.Shaped → (r s).Shaped) :
    (s.runCommand via key t r).Shaped := by
  unfold State.runCommand
  refine h.upd.onPath fun s h => ?_
  extract_lets s1
  have h1 : s1.Shaped := h.writeOf
  split
  · exact hr _ h1 _ ‹_›
  · exact h1.failNoted.refuse

/-! ### Machine/PowerOps -/

theorem wantOn {d : Nat} (h : s.Shaped) : (s.wantOn d).Shaped := h.frame State.wantOn_frame
theorem wantOff {d : Nat} (h : s.Shaped) : (s.wantOff d).Shaped := h.frame State.wantOff_frame

/-! ### Machine/OutOps -/

theorem dramLost (h : s.Shaped) : s.dramLost.Shaped := h.frame State.dramLost_frame
theorem requestOf {c : Nat} (h : s.Shaped) : (s.requestOf c).Shaped := .ite (.setO (.ite h.setCh h.setCh)) (.ite h.setCh h.setCh)
theorem requestLine {line : Nat} (h : s.Shaped) : (s.requestLine line).Shaped := h.foldl fun _ _ h => .ite h.requestOf h

theorem endDesc {c : Nat} (h : s.Shaped) : (s.endDesc c).Shaped := by
  unfold State.endDesc
  split
  · exact h
  · extract_lets _ _ _ _ _ _ s1 s2 s3
    have h1 : s1.Shaped := (h.frame State.readBack_frame).dropHold.upd.setCh
    have h2 : s2.Shaped := h1.inc.setO
    have h3 : s3.Shaped := .ite h2.inc h2
    exact .ite (h3.frame State.raise_keeps) h3

theorem dmaDrop (h : s.Shaped) : s.dmaDrop.Shaped := .inc (h.foldl fun _ _ h => .ite h.dropHold.setCh.setO h)

theorem dmaSafe (h : s.Shaped) : s.dmaSafe.Shaped := by
  unfold State.dmaSafe
  refine h.foldl fun s _ h => ?_
  split
  exacts [h.setCh.endDesc, .ite (h.setO.frame State.raise_keeps) h]

theorem dmaStandby (h : s.Shaped) : s.dmaStandby.Shaped := by
  unfold State.dmaStandby
  refine h.foldl fun s _ h => ?_
  split
  exacts [h.setCh.setO, .ite (h.setO.frame State.raise_keeps) h]

theorem discardSlot {why : Discard} {r k : Nat} (h : s.Shaped) : (s.discardSlot why r k).Shaped := by
  unfold State.discardSlot
  extract_lets _ s1
  have h1 : s1.Shaped := .ite h.dmaDiscard h
  exact .ite h (.release (.ite (h1.frame State.cutSlot_frame) h1.inc))

theorem discardIf {why : Discard} {p : RingSlot → Bool} (h : s.Shaped) : (s.discardIf why p).Shaped :=
  h.foldl fun _ _ h => .ite h.discardSlot h

theorem discardRole {role : Nat} (h : s.Shaped) : (s.discardRole role).Shaped := .ite h h.discardIf
theorem discardMode (h : s.Shaped) : s.discardMode.Shaped := h.discardIf

/-! ### Machine/GenOps -/

theorem showLoads (h : s.Shaped) : s.showLoads.Shaped := h.frame State.showLoads_frame

theorem fixLoads (h : s.Shaped) : s.fixLoads.Shaped :=
  .showLoads (.foldl (h.foldl fun _ _ h => h.layRing) fun _ _ h => .ite h h.layRing)

theorem commit {mask : Nat} (h : s.Shaped) : Res.Shaped (s.commit mask) := by
  unfold State.commit
  extract_lets
  refine .ite .error ?_
  split
  exacts [.ok (.fixLoads (h.foldl fun _ _ h => h.frame State.acceptPos_frame)), .error, .error]

theorem countRefused {mask : Nat} (h : s.Shaped) : (s.countRefused mask).Shaped := h.frame State.countRefused_frame
theorem discardGen {mask : Nat} (h : s.Shaped) : Res.Shaped (s.discardGen mask) := .ite .error (.ok (h.foldl fun _ _ h => h.upd.setO))

/-! ### Machine/SensorOps -/

theorem loseAlignment {g : Nat} (h : s.Shaped) : (s.loseAlignment g).Shaped :=
  .foldl (.upd (.ite h.upd.inc h)) fun _ _ h => h.setLane

/-! ### Machine/TrigOps -/

theorem moveTimers {d : Int} (h : s.Shaped) : (s.moveTimers d).Shaped :=
  ⟨h.lanes, h.chan, h.taps, by rw [State.moveTimers, List.length_map, h.dma], h.rings⟩

theorem stepTime {to_ : Nat} (h : s.Shaped) : (s.stepTime to_).Shaped :=
  .notify (.inc ((h.upd.moveTimers.frame State.discardAllStarts_frame).foldl fun _ _ h => h.upd))

/-! ### Machine/PipeOps -/

theorem rowOut {x : FrameCtx} {k r : Nat} {row : List CorrPx} (h : s.Shaped) : (s.rowOut p x k r row).Shaped := by
  unfold State.rowOut
  extract_lets _ _ s1
  have h1 : s1.Shaped := h.upd.frame State.countRepl_frame
  exact .ite (h1.tapRow.frame State.toMerge_frame)
    (((h1.frame State.tailWrite_frame).frame State.stampRow_frame).tapRow.frame State.toMerge_frame)

theorem replaceRow {k : Pos} (h : s.Shaped) : (s.replaceRow p k).Shaped := by
  unfold State.replaceRow
  split
  · exact h
  · extract_lets
    split
    exacts [.ite h.rowOut h, h]

theorem merge (h : s.Shaped) : (s.merge p).Shaped := by
  unfold State.merge
  split
  exacts [h, .ite (h.upd.frame State.countMerge_frame).tapPut h]

theorem aiApply {m : Nat} (h : s.Shaped) : (s.aiApply p m).Shaped := by
  unfold State.aiApply
  extract_lets _ s1
  have h1 : s1.Shaped := h.upd
  refine .ite h1 ?_
  split
  exacts [h1.commit _ ‹_›, h1.countRefused]

theorem aiEvaluate {x : FrameCtx} (h : s.Shaped) : (s.aiEvaluate p x).Shaped := by
  unfold State.aiEvaluate
  refine .ite h ?_
  extract_lets _ _ _ _ _ _ _ _ _ s1
  have h1 : s1.Shaped := h.upd
  refine .ite h1 ?_
  split
  exacts [h1.upd, h1.upd, h1.upd.aiApply]

theorem endDrain (h : s.Shaped) : (s.endDrain p).Shaped := by
  unfold State.endDrain
  split
  · refine .ite h ?_
    exact (((((h.frame State.publishStats_frame).frame State.eclDrained_frame).frame State.carryTrack_frame).takeTaps).upd.aiEvaluate.frame
        State.raise_keeps).requestLine
  · exact h

/-! ### Machine/CoefOps -/

theorem opStart {k total : Nat} (h : s.Shaped) : (s.opStart k total).Shaped := h.frame State.opStart_frame
theorem opEnd {k st result : Nat} (h : s.Shaped) : (s.opEnd k st result).Shaped := h.frame State.opEnd_frame
theorem coefOpen (h : s.Shaped) : Res.Shaped (s.coefOpen p) := .ite .error (.ite .error (.ok (h.frame State.coefToOpen_frame)))
theorem coefClose (h : s.Shaped) : Res.Shaped (s.coefClose p) := .ite .error (.ite .error (.ok h.setO))
theorem closeCheck {source : Nat} (h : s.Shaped) : (s.closeCheck p source).Shaped := h.frame State.closeCheck_frame

theorem importKt2c {k : List Byte} {w i : Nat} (h : s.Shaped) : (s.importKt2c k w i).Shaped := by
  unfold State.importKt2c
  extract_lets _ _ _ _ _ s1
  have h1 : s1.Shaped := .foldl (.setOs (h.foldl fun _ _ h => h.upd)) fun _ _ h => h.frame State.setPending_frame
  split
  exacts [h1.commit _ ‹_›, h1.countRefused]

theorem writeArchive {heritage : Bool} {b : List Byte} (h : s.Shaped) : (s.writeArchive p heritage b).Shaped := by
  unfold State.writeArchive
  extract_lets _ _ s1 s2 s3 s4 _ _ s5
  have h1 : s1.Shaped := by
    unfold s1
    split
    exacts [h.frame State.writePlane_frame, h]
  have h2 : s2.Shaped := ((h1.frame State.writePlane_frame).frame State.writePlane_frame).upd
  have h3 : s3.Shaped := by
    unfold s3
    split
    exacts [h2.importKt2c, h2]
  have h4 : s4.Shaped := by
    unfold s4
    split
    exacts [h3.frame State.writeRad_frame, h3]
  have h5 : s5.Shaped := h4.upd.setOs
  exact .ite h5.logEvt h5

/-! ### Machine/EclOps -/

theorem eclRequest {kind : Nat} (h : s.Shaped) : Res.Shaped (s.eclRequest p kind) :=
  .ite .error (.ite .error (.ok (h.frame State.becomeDue_frame).upd))

/-! ### Machine/EclUpdate -/

theorem eclNative {w : EclUpd} {px good : List EclPx} (h : s.Shaped) : (s.eclNative p w px good).Shaped := by
  unfold State.eclNative
  extract_lets _ x s1
  have hx : x.1.Shaped := foldlFst h fun _ _ h => h.frame State.eclPixel_frame
  have h1 : s1.Shaped := .ite (hx.frame State.relabel_frame) hx
  exact h1.frame State.eclResults_frame

theorem eclUpdate {q : EclParams} {x : FrameCtx} (h : s.Shaped) : (s.eclUpdate p q x).Shaped := by
  unfold State.eclUpdate
  extract_lets _ _ _ _ _ _ s1
  have h1 : s1.Shaped := .ite h.upd.incBy (h.upd.incBy.frame State.tapMeans_frame)
  refine .ite (h1.frame State.eclNoReference_frame) ?_
  exact .ite (.frame (h1.foldl fun _ _ h => h.frame State.eclHerPixel_frame) State.eclUpdated_frame)
    (h1.eclNative.frame State.eclUpdated_frame)

theorem eclUpdateEnd (h : s.Shaped) : (s.eclUpdateEnd p).Shaped := by
  unfold State.eclUpdateEnd
  extract_lets
  split
  exacts [.ite h.eclUpdate h, h]

/-! ### Machine/NvOps -/

theorem nvKick (h : s.Shaped) : s.nvKick.Shaped := h.frame State.nvKick_frame
theorem nvWrite {x : RecJob} (h : s.Shaped) : (s.nvWrite x).Shaped := h.frame State.nvWrite_frame

theorem judgeKey {r0 r1 : List RecAt} {acc : State × List Repair} {key : Nat} (h : acc.1.Shaped) :
    (s.judgeKey r0 r1 acc key).1.Shaped := by
  unfold State.judgeKey
  split
  · exact h
  · exact .iteFst (.ite h.inc.log h) (.ite h.inc.log h)

theorem flashFailed {op : Nat × Nat × Nat × Nat} (h : s.Shaped) : (s.flashFailed op).Shaped := h.frame State.flashFailed_frame

theorem scanStore {j : Journal} {rs : List Repair} (h : s.Shaped) : (s.scanStore j rs).Shaped :=
  .frame (foldlFst h.upd.incBy.setO fun _ _ h => h.judgeKey) State.setJournal_frame

theorem storeScan (h : s.Shaped) : s.storeScan.Shaped := by
  unfold State.storeScan
  extract_lets _ s1
  have h1 : s1.Shaped := by
    unfold s1
    split
    exacts [(h.setO.scanStore.frame State.xipScan_frame).frame State.xipScan_frame, h.setO.frame State.showStore_frame]
  exact h1.upd

/-! ### Machine/ModeOps -/

theorem recordTxn {r : TxnRec} (h : s.Shaped) : (s.recordTxn r).Shaped := h.frame State.recordTxn_frame
theorem cancelArmed {reason : Nat} (h : s.Shaped) : (s.cancelArmed reason).Shaped := h.frame State.cancelArmed_frame
theorem prepUpdate (h : s.Shaped) : (s.prepUpdate p).Shaped := h.frame State.prepUpdate_frame
theorem prepAll (h : s.Shaped) : s.prepAll.Shaped := h.frame State.prepAll_frame
theorem putMode {target txn since : Nat} (h : s.Shaped) : (s.putMode target txn since).Shaped := h.frame State.putMode_frame

theorem dropAllFrames (h : s.Shaped) : s.dropAllFrames.Shaped := by
  have dropped : (allPos.foldl State.dropFrames s).Shaped := h.foldl fun _ _ h => h.frame State.dropFrames_frame
  exact dropped.updTaps (by rw [List.length_map, dropped.taps])

theorem vdetDown (h : s.Shaped) : s.vdetDown.Shaped := h.frame State.vdetDown_frame

theorem domainsOff {but : List Nat} (h : s.Shaped) : (s.domainsOff but).Shaped := by
  unfold State.domainsOff
  extract_lets s1 s2
  have h1 : s1.Shaped := h.discardMode.frame State.outOff_frame
  have h2 : s2.Shaped := h1.foldl fun _ _ h => .ite h h.wantOff
  exact .frame (h2.updLanes rfl).upd State.flashRelax_frame

theorem domainsDown (h : s.Shaped) : s.domainsDown.Shaped := h.domainsOff
theorem heldDown (h : s.Shaped) : s.heldDown.Shaped := h.frame State.heldDown_frame

theorem modeProceed (h : s.Shaped) : s.modeProceed.Shaped := by
  unfold State.modeProceed
  extract_lets _ s1 _ s2
  have h1 : s1.Shaped := h.heldDown.vdetDown.frame State.railsDown_frame
  have h2 : s2.Shaped := h.heldDown.vdetDown.frame State.railsDown_frame
  split
  · refine .ite (.ite h.heldDown (.ite h1.domainsDown h1)) ?_
    exact .ite (.ite h.heldDown.vdetDown (.ite h2.domainsDown h2)) h.heldDown
  · exact h.heldDown

theorem supersede {reason : Nat} (h : s.Shaped) : (s.supersede reason).Shaped := h.frame State.supersede_frame

theorem toStandby {txn act source : Nat} {orphan : Bool} (h : s.Shaped) : (s.toStandby txn act source orphan).Shaped := by
  unfold State.toStandby
  extract_lets _ _ _ s1
  have h1 : s1.Shaped := ((h.supersede.frame State.leaveImaging_frame).putMode.frame State.run_frame).dmaStandby.frame State.flushLog_keeps
  exact .modeProceed (.ite (h1.frame State.closeAllNow_frame) h1)

theorem toSafe {txn act source hi lo : Nat} (h : s.Shaped) : (s.toSafe txn act source hi lo).Shaped := by
  unfold State.toSafe
  extract_lets s1 s2
  have h1 : s1.Shaped := h.upd.cancelArmed
  have h2 : s2.Shaped := by
    unfold s2
    split
    exacts [.ite h1 h1.supersede, h1]
  exact ((h2.frame State.leaveImaging_frame).dmaSafe.dropAllFrames.discardMode.putMode.setO.frame
    State.runSafe_frame).recordTxn.modeProceed.frame State.notifyCause_frame

theorem faultSafe {hi lo : Nat} (h : s.Shaped) : (s.faultSafe hi lo).Shaped := .ite h h.toSafe
theorem addCause {c : Nat} (h : s.Shaped) : (s.addCause c).Shaped := h.frame State.addCause_frame
theorem dropCause {c : Nat} (h : s.Shaped) : (s.dropCause c).Shaped := h.frame State.dropCause_frame

theorem failTransition {reason : Nat} (h : s.Shaped) : (s.failTransition reason).Shaped := by
  unfold State.failTransition
  split
  exacts [.ite h h.toSafe, h]

theorem enter {target txn act source : Nat} (h : s.Shaped) : (s.enter target txn act source).Shaped := by
  unfold State.enter
  extract_lets _ s2 s3 _ s4 s5
  have h2 : s2.Shaped := ((h.supersede.frame State.abortOps_frame).putMode.frame State.takeModeSettings_frame).frame State.run_frame
  have h3 : s3.Shaped := .showLoads (h2.foldl fun _ _ h => h.frame State.entryPos_frame)
  have h4 : s4.Shaped := h3.upd
  have h5 : s5.Shaped := h4.foldl fun _ _ h => .ite h.wantOn h
  exact .ite h4.failTransition (h5.foldl fun _ _ h => h.frame State.openAtEntry_frame)

theorem entryIds (h : s.Shaped) : s.entryIds.Shaped := by
  unfold State.entryIds
  split
  exacts [.ite h (.ite h.failTransition (h.foldl fun _ _ h => .ite (h.upd.frame State.openBlank_frame) h)), h]

theorem vendorNext (h : s.Shaped) : s.vendorNext.Shaped :=
  .ite h (.ite (.ite h h.upd.enter) (.ite h.upd (.ite h h.toStandby)))

theorem activateTxn {a : Armed} (h : s.Shaped) : (s.activateTxn a).Shaped := by
  unfold State.activateTxn
  extract_lets _ _ _ _ _ _ s1
  have h1 : s1.Shaped := h.upd.recordTxn
  refine .ite h.upd.toSafe ?_
  refine .ite (h.upd.recordTxn.frame State.report_frame) ?_
  refine .ite (h.upd.recordTxn.frame State.report_frame) ?_
  exact .ite (h1.frame State.leaveSafe_frame).vendorNext (.ite h1.toStandby (.ite h1.enter (h1.frame State.switchMode_frame)))

theorem completeTransition {refresh : Bool} (h : s.Shaped) : (s.completeTransition refresh).Shaped := by
  unfold State.completeTransition
  extract_lets
  split
  · exact h.modeProceed
  · refine .ite h.modeProceed ?_
    refine .ite h.modeProceed.failTransition ?_
    extract_lets s1
    have h1 : s1.Shaped := h.modeProceed.frame State.completed_frame
    exact .ite h1.wantOff.nvKick.vendorNext (.ite h1.wantOff (.vendorNext (.ite (h1.frame State.entryDone_frame) h1)))

theorem mandatoryFailed (h : s.Shaped) : s.mandatoryFailed.Shaped := .ite (.toSafe (h.foldl fun _ _ h => .ite h.setO h)) h
theorem afterEcl (h : s.Shaped) : s.afterEcl.Shaped := h.mandatoryFailed.prepAll.frame State.eclipseEnds_frame

theorem toOrphan {good : Bool} {station epoch : Nat} (h : s.Shaped) : (s.toOrphan good station epoch).Shaped := by
  unfold State.toOrphan
  extract_lets _ _ _ _ s1
  have h1 : s1.Shaped := (h.cancelArmed.discardRole.setOs.frame State.orphanRecord_frame).notify.frame State.markOrphan_frame
  exact .ite h1 (.ite (.ite (h1.frame State.closeAllNow_frame).modeProceed h1) h1.supersede.toStandby)

/-! ### Machine/SecOps -/

theorem gradeChanged (h : s.Shaped) : s.gradeChanged.Shaped := h.frame State.gradeChanged_frame

/-- A reset lays the five lists anew. -/
theorem resetLogic {cause : Nat} (_ : s.Shaped) : (s.resetLogic cause).Shaped := by
  unfold State.resetLogic
  extract_lets s0 _ _ _ _ _ _ _ _ _ _ _ _ _ _ z1 _ _ _ _ _ z2
  have h1 : z1.Shaped := reset.upd
  have h2 : z2.Shaped := .ite h1 h1.upd
  exact .ite h2.dramLost h2

/-! ### Machine/CmdOps -/

theorem cmd {key lvl : Nat} {ok : Bool} {pre : State → Nat} {eff : State → Res} (h : s.Shaped)
    (heff : ∀ s, s.Shaped → (eff s).Shaped) : Res.Shaped (s.cmd via key lvl ok pre eff) :=
  h.command fun _ h => .ite .error (.ite .error (heff _ h))

theorem cmdDom {key lvl : Nat} {lenOk ok : Bool} {pre : State → Nat} {eff : State → Res} (h : s.Shaped)
    (heff : ∀ s, s.Shaped → (eff s).Shaped) : Res.Shaped (s.cmdDom via key lvl lenOk pre ok eff) :=
  h.command fun _ h => .ite .error (.ite .error (.ite .error (heff _ h)))

theorem done {f : State → State} (h : s.Shaped) (hf : ∀ s, s.Shaped → (f s).Shaped) : Res.Shaped (done f s) :=
  .ok (hf _ h)

theorem logWrite {key : Nat} (h : s.Shaped) : (s.logWrite via key).Shaped := h.frame State.logWrite_frame

theorem kept {key a n : Nat} {f : State → State} (h : s.Shaped) (hf : ∀ s, s.Shaped → (f s).Shaped) :
    Res.Shaped (kept via key a n f s) := .ite .error (.ok (hf _ h).logWrite)

/-! ### Machine/ChainOps -/

theorem onTelegram {k : DstKind} {min : Nat} {f : State → State} (h : s.Shaped) (hf : ∀ s, s.Shaped → (f s).Shaped) :
    (s.onTelegram r k min f).Shaped := by
  unfold State.onTelegram
  extract_lets s1
  have h1 : s1.Shaped := .ite h.upd h.upd
  exact .ite h1 (hf _ ((h1.frame State.place_frame).frame State.touch_keeps))

theorem once {type : Nat} {f : State → State × Reply} (h : s.Shaped) (hf : ∀ s, s.Shaped → (f s).1.Shaped) :
    (s.once r type f).Shaped := by
  unfold State.once
  split
  · exact h.inc.frame State.answer_frame
  · exact ((hf _ h).frame State.keepReply_frame).frame State.answer_frame

end State.Shaped
end Sys2Proof.Machine
end

section
/-!
PROOFS. The shape over the rows of the instruction set and what they are made of, in the same way.
-/
namespace Sys2Proof.Machine
namespace State.Shaped
set_option Elab.async false

variable {s u : State} {p : Pos} {via : Via} {r : Req} {t : Nat}

/-! ### Machine/Boot -/

theorem retraining {first : Bool} (h : s.Shaped) : (s.retraining first).Shaped :=
  .ite (h.frame State.trainFails_frame).dramLost.upd (h.frame State.trainFails_frame).dramLost.upd.failTransition

theorem resetFrom {cause : Nat} (h : s.Shaped) : (s.resetFrom cause).Shaped := .ite h h.resetLogic

theorem cmdSoftReset {v : Nat} (h : s.Shaped) : Res.Shaped (s.cmdSoftReset via v) :=
  h.cmd fun _ h => h.done fun _ h => h.resetFrom

/-! ### Machine/Correct -/

theorem cmdCoefOpen {v : Nat} (h : s.Shaped) : Res.Shaped (s.cmdCoefOpen via p v) := h.cmd fun _ h => h.coefOpen
theorem cmdCoefClose {v : Nat} (h : s.Shaped) : Res.Shaped (s.cmdCoefClose via p v) := h.cmd fun _ h => h.coefClose

theorem cmdLoadGo {v : Nat} (h : s.Shaped) : Res.Shaped (s.cmdLoadGo via p v) :=
  h.cmd fun _ h => h.done fun _ h => (h.frame State.startLoad_frame).prepUpdate

theorem loadEndsBadly {result : Nat} (h : s.Shaped) : (s.loadEndsBadly p result).Shaped :=
  .ite (h.frame State.loadFailed_frame).toSafe ((h.frame State.loadFailed_frame).frame State.loadNext_frame)

theorem loadCloses {her : Bool} (h : s.Shaped) : (s.loadCloses p her).Shaped :=
  .ite (h.closeCheck.prepUpdate.upd.opEnd.frame State.loadNext_frame).prepAll h.closeCheck.prepUpdate.loadEndsBadly

theorem endLoad {key : Nat} (h : s.Shaped) : (s.endLoad p key).Shaped := by
  unfold State.endLoad
  extract_lets _ s1
  have h1 : s1.Shaped := h.frame State.xipRecord_frame
  split
  exacts [h.loadEndsBadly, .ite h1.writeArchive.loadCloses h1.loadEndsBadly]

theorem execCoefLoadEnd (h : s.Shaped) : Ans.Shaped (execCoefLoadEnd t s) := by
  unfold Machine.execCoefLoadEnd
  extract_lets
  split
  exacts [.ite (.next h.upd.endLoad) (.next h.upd), .next h.upd]

theorem saveArchive {key : Nat} (h : s.Shaped) : Res.Shaped (s.saveArchive p key) :=
  .ite .error (.ok h.upd.opStart.nvWrite)

theorem cmdSaveGo {v : Nat} (h : s.Shaped) : Res.Shaped (s.cmdSaveGo via p v) := h.cmd fun _ h => h.saveArchive

theorem cmdTailHistReset {v : Nat} (h : s.Shaped) : Res.Shaped (s.cmdTailHistReset via p v) :=
  h.cmd fun _ h => h.done fun _ h => h.upd

/-! ### Machine/Counters -/

theorem cmdClear {key : Nat} {l : List (Nat × Nat)} {v : Nat} (h : s.Shaped) : Res.Shaped (s.cmdClear key l via v) :=
  h.cmd fun _ h => h.done fun _ h =>
    .ite (((h.frame State.clearCounters_frame).frame State.restartHold_frame).frame State.restartHold_frame)
      (h.frame State.clearCounters_frame)

/-! ### Machine/Eclipse -/

theorem cmdEclRequest {v : Nat} (h : s.Shaped) : Res.Shaped (s.cmdEclRequest via p v) := h.cmd fun _ h => h.eclRequest

theorem cmdEclAbort {v : Nat} (h : s.Shaped) : Res.Shaped (s.cmdEclAbort via p v) :=
  h.cmd fun _ h => h.done fun _ h => (h.frame State.eclEarly_frame).afterEcl

theorem cmdEclFaultClear {v : Nat} (h : s.Shaped) : Res.Shaped (s.cmdEclFaultClear via p v) :=
  h.cmd fun _ h => h.done fun _ h => h.frame State.faultClear_frame

theorem cmdEclShut {v : Nat} (h : s.Shaped) : Res.Shaped (s.cmdEclShut via p v) :=
  h.cmd fun _ h => h.done fun _ h => h.upd

theorem execEclipseGrant (h : s.Shaped) : Ans.Shaped (execEclipseGrant t s) := by
  unfold Machine.execEclipseGrant
  extract_lets _ s1
  have h1 : s1.Shaped := .ite (h.upd.frame State.skipParts_frame).afterEcl h.upd
  refine .ite (.next h.upd) ?_
  split
  exacts [.next (h1.frame State.grant_frame), .next h1]

theorem execPulseHoldExpiry (h : s.Shaped) : Ans.Shaped (execPulseHoldExpiry p t s) := by
  unfold Machine.execPulseHoldExpiry
  extract_lets
  split
  · split
    exacts [.ite (.next (h.upd.frame State.pulseDone_frame).afterEcl) (.next h.upd), .next h.upd]
  · exact .next h.upd

theorem execPulseMaxExpiry (h : s.Shaped) : Ans.Shaped (execPulseMaxExpiry p t s) := by
  unfold Machine.execPulseMaxExpiry
  extract_lets
  split
  exacts [.ite (.next (h.upd.frame State.pulseLongest_frame).afterEcl) (.next h.upd), .next h.upd]

theorem execBothSensorsFault (h : s.Shaped) : Ans.Shaped (execBothSensorsFault p t s) := by
  unfold Machine.execBothSensorsFault
  extract_lets
  split
  exacts [.ite (.next (h.upd.frame State.pulseFault_frame).afterEcl) (.next h.upd),
    .ite (.next (h.upd.frame State.shutterFault_frame)) (.next h.upd)]

theorem execOpeningPulseRetry (h : s.Shaped) : Ans.Shaped (execOpeningPulseRetry p t s) := by
  unfold Machine.execOpeningPulseRetry
  extract_lets
  split
  exacts [.ite (.next h.upd) (.next h.upd), .next h.upd]

theorem execEclipseWindowDeadline (h : s.Shaped) : Ans.Shaped (execEclipseWindowDeadline p t s) := by
  unfold Machine.execEclipseWindowDeadline
  extract_lets
  split
  exacts [.ite (.next (h.upd.frame State.eclEarly_frame).afterEcl) (.next h.upd), .next h.upd]

/-! ### Machine/RawXfer -/

theorem cmdRawXfer {b : List Byte} (h : s.Shaped) : Res.Shaped (s.cmdRawXfer via b) :=
  h.cmdDom fun _ h => .ite .error (.ok (h.frame State.rawAsk_frame))

/-! ### Machine/Security -/

theorem cmdSecLifecycleSet {v : Nat} (h : s.Shaped) : Res.Shaped (s.cmdSecLifecycleSet via v) :=
  h.cmd fun _ h => h.done fun _ h => ((h.upd.frame State.lifecycleEffect_frame).frame State.closeAll_frame).log.logWrite.gradeChanged

theorem cmdSecKeyWrite {v : List Byte} (h : s.Shaped) : Res.Shaped (s.cmdSecKeyWrite via v) :=
  h.cmdDom fun _ h => h.kept fun _ h => (h.frame State.setKey_frame).frame State.closeKey_frame

theorem cmdSecKeyErase {v : Nat} (h : s.Shaped) : Res.Shaped (s.cmdSecKeyErase via v) :=
  h.cmd fun _ h => h.kept fun _ h => (h.frame State.secEmpty_frame).frame State.closeKey_frame

theorem cmdSecArchiveKey {v : List Byte} (h : s.Shaped) : Res.Shaped (s.cmdSecArchiveKey via v) :=
  h.cmdDom fun _ h => h.kept fun _ h => h.frame State.setArchiveKey_frame

theorem cmdSecTokenKey {v : List Byte} (h : s.Shaped) : Res.Shaped (s.cmdSecTokenKey via v) :=
  h.cmdDom fun _ h => h.kept fun _ h => h.frame State.setTokenKey_frame

theorem cmdSecArbCommit {v : Nat} (h : s.Shaped) : Res.Shaped (s.cmdSecArbCommit via v) :=
  h.cmd fun _ h => h.kept fun _ h => h.frame State.raiseArb_frame

theorem execSessionIdleExpiry {id : Nat} (h : s.Shaped) : Ans.Shaped (execSessionIdleExpiry id t s) := by
  unfold Machine.execSessionIdleExpiry
  extract_lets _ s2
  have h2 : s2.Shaped := .ite h.upd h.upd
  exact .next (.ite h2.upd h2)

theorem hpAuthOpen {v : List Byte} (h : s.Shaped) : Res.Shaped (s.hpAuthOpen v) := .ite .error (.ite .error (.ok h.upd))

theorem cmdHpAuthReq {v : List Byte} (h : s.Shaped) : Res.Shaped (s.cmdHpAuthReq via v) :=
  h.cmdDom fun _ h => h.hpAuthOpen.map fun _ h => h.logWrite

theorem cmdHpAuthProve {v : List Byte} (h : s.Shaped) : Res.Shaped (s.cmdHpAuthProve via v) :=
  h.cmdDom fun _ h => h.done fun _ h => (h.frame State.hpAuthProve_frame).logWrite

theorem cmdHpAuthClose {v : Nat} (h : s.Shaped) : Res.Shaped (s.cmdHpAuthClose via v) :=
  h.cmd fun _ h => h.done fun _ h => h.upd.logWrite

/-! ### Machine/Debug -/

theorem cmdDbgSetGrade {v : Nat} (h : s.Shaped) : Res.Shaped (s.cmdDbgSetGrade via v) :=
  h.cmd fun _ h => h.done fun _ h => h.upd.logWrite.gradeChanged

theorem cmdDbgLock {v : Nat} (h : s.Shaped) : Res.Shaped (s.cmdDbgLock via v) :=
  h.cmd fun _ h => h.done fun _ h => h.logWrite.frame State.lockDebug_frame

theorem cmdDbgToken {v : List Byte} (h : s.Shaped) : Res.Shaped (s.cmdDbgToken via v) :=
  h.cmdDom fun _ h => h.done fun _ h => h.logWrite.upd

theorem acceptToken {kind : Nat} (h : s.Shaped) : (s.acceptToken kind).Shaped := by
  unfold State.acceptToken
  extract_lets
  refine .ite h.log.upd.gradeChanged ?_
  exact ((h.log.frame State.zeroiseKeys_frame).frame State.closeAll_frame).upd.gradeChanged.cancelArmed.vendorNext

theorem execDbgTokenAccept (h : s.Shaped) : Ans.Shaped (execDbgTokenAccept t s) := by
  unfold Machine.execDbgTokenAccept
  extract_lets
  split
  exacts [.next h.upd, .ite (.next h.upd) (.ite (.next h.upd.log) (.next h.upd.acceptToken))]

/-! ### Machine/Modes -/

theorem cmdModeReqGo {v : Nat} (h : s.Shaped) : Res.Shaped (s.cmdModeReqGo via v) :=
  h.cmd fun _ h => h.done fun _ h => (h.frame State.answerMode_frame).setO.frame State.report_frame

theorem execTransitionActivation (h : s.Shaped) : Ans.Shaped (execTransitionActivation t s) := by
  unfold Machine.execTransitionActivation
  extract_lets
  split
  exacts [.ite (.next h.upd.activateTxn) (.next h.upd), .next h.upd]

theorem timeoutTransition (h : s.Shaped) : s.timeoutTransition.Shaped := by
  unfold State.timeoutTransition
  split
  exacts [.ite h.failTransition h, h]

theorem cmdOpAbort {k v : Nat} (h : s.Shaped) : Res.Shaped (s.cmdOpAbort via k v) :=
  h.cmd fun _ h => h.done fun _ h => h.frame State.abortOp_frame

/-! ### Machine/Time -/

theorem passedOver {was : Nat} (h : s.Shaped) : (s.passedOver was).Shaped := by
  unfold State.passedOver
  split
  exacts [.ite h.activateTxn h, h]

theorem stepTo {to_ : Nat} (h : s.Shaped) : (s.stepTo to_).Shaped := h.stepTime.upd.passedOver
theorem correctTime {off : Int} (h : s.Shaped) : (s.correctTime off).Shaped :=
  .ite h.stepTo ((h.frame State.servo_frame).frame State.blockedStep_frame)
theorem measured {off : Int} (h : s.Shaped) : (s.measured off).Shaped := (h.setO.upd.frame State.judgeOffset_frame).correctTime

theorem synced {t1 t2 : Int} (h : s.Shaped) : (s.synced t1 t2).Shaped := by
  unfold State.synced
  extract_lets
  split
  exacts [h.upd.measured, h.upd]

theorem ptp {m : PtpMsg} (h : s.Shaped) : (s.ptp m).Shaped := by
  unfold State.ptp
  split
  · exact .ite (h.frame State.announced_frame) h
  · refine .ite h ?_
    extract_lets
    split
    exacts [h.upd.synced, h.upd]
  · exact .ite h.synced h
  · exact h.frame State.sendDelayReq_frame
  · split
    exacts [.ite (.ite h.upd.setO.measured h.upd.setO) h, h]

theorem ppsEdge (h : s.Shaped) : s.ppsEdge.Shaped := .ite h.inc h.upd.measured

theorem cmdTimeSet {v : Nat} (h : s.Shaped) : Res.Shaped (s.cmdTimeSet via v) :=
  h.cmd fun _ h => h.done fun _ h => .ite h.stepTo h.upd

/-! ### Machine/Power -/

theorem startPowerFail (h : s.Shaped) : s.startPowerFail.Shaped :=
  .ite h (.ite h.upd (((h.upd.notify.frame State.nvClose_frame).frame State.pulseCut_frame).frame State.cutOff_frame).faultSafe.addCause)

theorem exhausted (h : s.Shaped) : s.exhausted.Shaped := h.resetLogic.upd

theorem fpaFault (h : s.Shaped) : (s.fpaFault p).Shaped := h.frame State.fpaFault_frame

theorem domFaulted {d : Nat} {inRamp : Bool} (h : s.Shaped) : (s.domFaulted d inRamp).Shaped := by
  unfold State.domFaulted
  extract_lets s1 s2 s3 s4
  have h1 : s1.Shaped := .ite (h.frame State.devicesOff_frame) h
  have h2 : s2.Shaped := .ite h1.fpaFault h1
  have h3 : s3.Shaped := by
    unfold s3
    split
    exacts [h2.flashFailed, h2]
  have h4 : s4.Shaped := by
    unfold s4
    split
    exacts [(h3.frame State.pulseFault_frame).afterEcl, h3]
  exact .ite h4.failTransition (.ite h4.faultSafe h4)

theorem domFault {d : Nat} {inRamp : Bool} (h : s.Shaped) : (s.domFault d inRamp).Shaped :=
  (h.frame State.domFails_frame).inc.logEvt.upd.domFaulted

theorem execDomainRampTimeout {d : Nat} (h : s.Shaped) : Ans.Shaped (execDomainRampTimeout d t s) := by
  unfold Machine.execDomainRampTimeout
  extract_lets
  split
  exacts [.ite (.next h.upd.domFault) (.next h.upd), .next h.upd]

theorem monitorDom {mv ma : List Nat} {d : Nat} (h : s.Shaped) : (s.monitorDom mv ma d).Shaped :=
  .ite h.setOs.upd.domFault h.setOs.upd

theorem fpaBudget (h : s.Shaped) : s.fpaBudget.Shaped :=
  .ite h.upd.setO (.ite h.upd.setO.upd.inc.fpaFault.failTransition h.upd.setO.upd.inc.fpaFault)

theorem execMonitorSnapshot {mv ma vdet sup : List Nat} (h : s.Shaped) :
    Ans.Shaped (execMonitorSnapshot mv ma vdet sup t s) := by
  unfold Machine.execMonitorSnapshot
  extract_lets
  refine .ite (.next h.upd) ?_
  exact .next (.fpaBudget (.foldl ((h.upd.frame State.monitorInput_frame).foldl fun _ _ h => h.monitorDom)
    fun _ _ h => h.frame State.monitorFpa_frame))

/-! ### Machine/Hk -/

theorem cmdHkCtrl {i : Pos} {v : Nat} (h : s.Shaped) : Res.Shaped (s.cmdHkCtrl via i v) := by
  refine h.cmd fun s h => ?_
  split
  exacts [.ok h, .ite .error (.ok (h.frame State.hkStart_frame)), .ok (.ite (h.frame State.hkIdle_frame) h), .error]

theorem execHkConversionResult {i : Fin 4} {volts : List Nat} {refin : Nat} (h : s.Shaped) :
    Ans.Shaped (execHkConversionResult i volts refin t s) := by
  unfold Machine.execHkConversionResult
  extract_lets
  split
  · exact .next h.upd
  · exact .ite (.next h.upd)
      (.ite (.next ((h.upd.frame State.hkWrite_frame).upd.frame State.incWrap_keeps).upd) (.next (h.upd.frame State.hkWrite_frame).upd))

theorem execHkDomainOff {i : Fin 4} (h : s.Shaped) : Ans.Shaped (execHkDomainOff i t s) := by
  unfold Machine.execHkDomainOff
  extract_lets
  split
  exacts [.ite (.next h.upd.wantOff) (.next h.upd), .next h.upd]

theorem execHkCalibrationComplete {offset gain : Int} (h : s.Shaped) :
    Ans.Shaped (execHkCalibrationComplete offset gain t s) := by
  unfold Machine.execHkCalibrationComplete
  extract_lets
  split
  exacts [.ite (.next ((h.upd.frame State.calEnd_frame).frame State.calOwed_frame)) (.next h.upd), .next h.upd]

theorem execShutterTempConversion {volts : List Nat} {refin : Nat} (h : s.Shaped) :
    Ans.Shaped (execShutterTempConversion volts refin t s) := by
  unfold Machine.execShutterTempConversion
  extract_lets
  split
  · split <;> exact .next h.upd
  · exact .next h.upd

/-! ### Machine/HostPort -/

theorem enterD3hot (h : s.Shaped) : s.enterD3hot.Shaped := h.upd.dmaDrop

theorem execMsixVectorUnmask {fn : Bool} {v : Nat} (h : s.Shaped) : Ans.Shaped (execMsixVectorUnmask fn v t s) := by
  unfold Machine.execMsixVectorUnmask
  extract_lets
  refine .ite (.next h.upd) ?_
  refine .ite (.next (h.upd.frame State.sendPending_frame)) ?_
  exact .ite (.next (h.upd.frame State.sendPending_frame)) (.next h.upd)

theorem offlineHit (h : s.Shaped) : s.offlineHit.Shaped := h.frame State.offlineHit_frame

theorem execBar2Write {addr : Nat} {bytes : List Byte} (h : s.Shaped) : Ans.Shaped (execBar2Write addr bytes t s) := by
  unfold Machine.execBar2Write
  extract_lets
  refine .ite .fault ?_
  refine .ite (.next h.upd) ?_
  exact .ite (.next h.upd) (.ite (.next h.upd.offlineHit) (.ite (.next h.upd) (.next (h.upd.frame State.blockedWrite_frame))))

theorem execBar2OfflineAccess {addr n : Nat} {write : Bool} (h : s.Shaped) :
    Ans.Shaped (execBar2OfflineAccess addr n write t s) := by
  unfold Machine.execBar2OfflineAccess
  extract_lets
  refine .ite (.next h.upd) ?_
  exact .ite (.next h.upd) (.ite (.next h.upd) (.ite (.next h.upd.offlineHit) (.next h.upd.offlineHit.upd)))

/-! ### Machine/Integ -/

theorem cmdGenCommit {v : Nat} (h : s.Shaped) : Res.Shaped (s.cmdGenCommit via v) := h.cmd fun _ h => h.commit

theorem execGenCommit {v : Nat} (h : s.Shaped) : Ans.Shaped (execGenCommit via v t s) := by
  refine .next (h.upd.onPath fun s h => ?_)
  extract_lets s1
  have h1 : s1.Shaped := h.writeOf
  split
  exacts [h1.cmdGenCommit _ ‹_›, (h1.frame State.commitRefused_frame).refuse]

theorem chainCommit (h : s.Shaped) : (s.chainCommit r).1.Shaped := by
  unfold State.chainCommit
  extract_lets
  refine .iteFst h ?_
  split
  exacts [h.commit _ ‹_›, h.frame State.commitRefused_frame]

theorem cmdGenDiscard {v : Nat} (h : s.Shaped) : Res.Shaped (s.cmdGenDiscard via v) := h.cmd fun _ h => h.discardGen

theorem execVdetSettle (h : s.Shaped) : Ans.Shaped (execVdetSettle p t s) := by
  unfold Machine.execVdetSettle
  extract_lets
  split
  exacts [.ite (.next h.upd) (.next h.upd), .next h.upd]

theorem execVdetRampEnd (h : s.Shaped) : Ans.Shaped (execVdetRampEnd p t s) := by
  unfold Machine.execVdetRampEnd
  extract_lets
  split
  exacts [.ite (.next (h.upd.frame State.rampEnded_frame).modeProceed) (.next h.upd), .next h.upd]

theorem vdetFault {ma : Nat} (h : s.Shaped) : (s.vdetFault p ma).Shaped :=
  .ite (h.upd.frame State.railsLost_frame).setO.inc.notify.failTransition (h.upd.frame State.railsLost_frame).setO.inc.notify

theorem cmdStatLatch {v : Nat} (h : s.Shaped) : Res.Shaped (s.cmdStatLatch via p v) :=
  h.cmd fun _ h => h.done fun _ h => h.upd

theorem execStatLatchComplete (h : s.Shaped) : Ans.Shaped (execStatLatchComplete p t s) := by
  unfold Machine.execStatLatchComplete
  extract_lets
  split
  exacts [.next h.upd.setO.requestLine, .next h.upd]

/-! ### Machine/IngotOps -/

theorem ringFull {r : Nat} (h : s.Shaped) : (s.ringFull r).Shaped := .ite h.inc h.setTap.inc

theorem takeFor {x : FrameCtx} {q : Nat × Nat × Nat × Nat} (h : s.Shaped) : (s.takeFor x p q).Shaped := by
  unfold State.takeFor
  extract_lets
  split
  · exact h.takeSlot
  · split
    exacts [.ite h.release.ringFull.takeSlot h.ringFull, h.ringFull]

theorem takeSlots {x : FrameCtx} (h : s.Shaped) : (s.takeSlots x p).Shaped := h.foldl fun _ _ h => h.takeFor

theorem completeSlot {d : DoneFrame} {r k : Nat} (h : s.Shaped) : (s.completeSlot p d r k).Shaped := by
  unfold State.completeSlot
  extract_lets _ _ _ _ _ s1 _ s2 s3 _ s4
  have h1 : s1.Shaped := h.upd
  have h2 : s2.Shaped := h1.updRings (by rw [List.length_set, h1.rings])
  have h3 : s3.Shaped := h2.setSlot
  have h4 : s4.Shaped := .ite h3 h3.setTap
  exact .ite h.discardSlot h4.requestLine

theorem completeFrame {d : DoneFrame} (h : s.Shaped) : (s.completeFrame p d).Shaped :=
  h.foldl fun _ _ h => .ite h.release h.completeSlot

theorem completeMeans {d : DoneFrame} (h : s.Shaped) : (s.completeMeans p d).Shaped := by
  unfold State.completeMeans
  extract_lets
  refine .ite h ?_
  refine .ite (h.foldl fun _ _ h => h.inc) ?_
  refine h.foldl fun s _ h => ?_
  split
  exacts [h.takeSlot.completeSlot, h.ringFull]

theorem ingotsDone (h : s.Shaped) : (s.ingotsDone p).Shaped := by
  unfold State.ingotsDone
  split
  exacts [h, .ite h.upd.completeMeans h.upd.completeFrame]

/-! ### Machine/Output -/

theorem portAt {b : Bool} (h : s.Shaped) : (s.portAt b t).Shaped := h.frame State.portAt_frame

theorem outLinkDown {b : Bool} (h : s.Shaped) : (s.outLinkDown b).Shaped := by
  unfold State.outLinkDown
  extract_lets _ s1
  have h1 : s1.Shaped := h.frame State.setOutPort_frame
  exact (h1.frame State.endPause_frame).discardIf

theorem execOutLinkChange {port up : Bool} (h : s.Shaped) : Ans.Shaped (execOutLinkChange port up t s) := by
  unfold Machine.execOutLinkChange
  extract_lets
  refine .ite (.ite (.next (h.portAt.frame State.outLinkUp_frame)) (.next h.portAt)) ?_
  exact .ite (.next h.portAt.outLinkDown) (.next h.portAt)

theorem execArpReply {port : Bool} {ip mac : Nat} (h : s.Shaped) : Ans.Shaped (execArpReply port ip mac t s) := by
  unfold Machine.execArpReply
  extract_lets
  split
  exacts [.ite (.next (h.upd.frame State.putArp_frame)) (.next h.upd), .next h.upd]

theorem execArpRetry {port : Bool} {ip : Nat} (h : s.Shaped) : Ans.Shaped (execArpRetry port ip t s) := by
  unfold Machine.execArpRetry
  extract_lets
  split
  · exact .ite (.next ((h.portAt.frame State.putArp_frame).frame State.askArp_frame)) (.next h.portAt)
  · exact .next h.portAt

theorem execArpRefresh {port : Bool} {ip : Nat} (h : s.Shaped) : Ans.Shaped (execArpRefresh port ip t s) := by
  unfold Machine.execArpRefresh
  extract_lets
  split
  · refine .ite ?_ (.next h.portAt)
    refine .ite (.next (h.portAt.frame State.setOutPort_frame)) ?_
    exact .next ((h.portAt.frame State.putArp_frame).frame State.askArp_frame)
  · exact .next h.portAt

theorem egress {b : Bool} (h : s.Shaped) : (s.egress b).Shaped := by
  unfold State.egress
  split
  · exact h
  · extract_lets
    refine .ite ((h.setSlot.frame State.setOutPort_frame).frame State.fetchAhead_frame) ?_
    exact h.release.inc.frame State.resolve_frame

theorem ingotSent {b : Bool} {r k : Nat} (h : s.Shaped) : (s.ingotSent b r k).Shaped := by
  unfold State.ingotSent
  extract_lets _ s1
  have h1 : s1.Shaped := h.release.frame State.setOutPort_frame
  exact .ite h1.inc h1.inc.inc

theorem datagram {b : Bool} {r k i off : Nat} {d : List Byte} (h : s.Shaped) : (s.datagram b r k i off d).Shaped := by
  unfold State.datagram
  extract_lets _ _ _ _ _ s1
  have h1 : s1.Shaped := (h.upd.frame State.setOutPort_frame).frame State.fetchAhead_frame
  exact .ite h1.setO.ingotSent h1.setO

theorem execDatagramSend {port : Bool} (h : s.Shaped) : Ans.Shaped (execDatagramSend port t s) := by
  unfold Machine.execDatagramSend
  extract_lets
  split
  exacts [.ite (.next h.portAt.datagram) (.next h.portAt), .next h.portAt]

/-! ### Machine/Put -/

theorem put {k : Nat} {x : Written} (h : s.Shaped) : Res.Shaped (s.put via k x) := by
  unfold State.put
  split
  · exact .error
  · extract_lets _ s1
    have h1 : s1.Shaped := h.frame State.touch_keeps
    split
    exacts [.error, .ok (.frame (.frame (.ite (h1.frame State.putScalar_frame) h1.upd) State.putEffect_frame) State.markExpert_keeps)]

/-! ### Machine/Sets -/

theorem saveSet {n : Nat} (h : s.Shaped) : Res.Shaped (s.saveSet n) := .ite .error (.ok h.upd.opStart.nvWrite)
theorem cmdSetSave {v : Nat} (h : s.Shaped) : Res.Shaped (s.cmdSetSave via v) := h.cmd fun _ h => h.saveSet

theorem putEntry {e : SetEntry} (h : s.Shaped) : Res.Shaped (s.putEntry e) := by
  unfold State.putEntry
  split
  exacts [.ite .error h.put, .error]

theorem putEntries {l : List SetEntry} (h : s.Shaped) : (State.putEntries l s).1.Shaped := by
  induction l generalizing s with
  | nil => exact h
  | cons e l ih =>
    unfold State.putEntries
    split
    · exact ih (h.putEntry _ ‹_›)
    · exact h

theorem defaultObjects (h : s.Shaped) : s.defaultObjects.Shaped :=
  .fixLoads ((h.upd.foldl fun _ _ h => h.frame State.defaultGen_frame).foldl fun _ _ h => .ite h (h.frame State.putEffect_frame))

theorem setFailed {n : Nat} (h : s.Shaped) : (s.setFailed n).Shaped := h.frame State.setFailed_frame

theorem applySet {n : Nat} {l : List SetEntry} (h : s.Shaped) : (s.applySet n l).1.Shaped := by
  unfold State.applySet
  extract_lets
  split
  · exact h.putEntries.commit _ ‹_›
  · exact h.putEntries.defaultObjects.countRefused.setFailed
  · exact h.putEntries.defaultObjects.setFailed

theorem cmdSetApply {v : Nat} (h : s.Shaped) : Res.Shaped (s.cmdSetApply via v) := by
  refine h.cmd fun s h => ?_
  split
  exacts [.error, .ok (h.frame State.xipRecord_frame).applySet]

theorem startupSet (h : s.Shaped) : s.startupSet.Shaped := by
  unfold State.startupSet
  extract_lets
  refine .ite h ?_
  split
  · exact h.defaultObjects.setFailed
  · exact .ite (h.frame State.xipRecord_frame).applySet.setO (h.frame State.xipRecord_frame).applySet

theorem hostPortStands (h : s.Shaped) : s.hostPortStands.Shaped :=
  .ite h.upd.wantOn.wantOn (.wantOff (.wantOff (.ite h.upd.dmaDrop h.upd)))

theorem firstStandby (h : s.Shaped) : s.firstStandby.Shaped := by
  unfold State.firstStandby
  extract_lets _ s1 s2
  have h1 : s1.Shaped := h.upd.hostPortStands
  have h2 : s2.Shaped := .ite h1 h1.putMode
  exact .nvKick (.frame (.ite (h2.frame State.raiseArb_frame) h2) State.flushLog_keeps)

theorem execStewardFirmwareStart (h : s.Shaped) : Ans.Shaped (execStewardFirmwareStart t s) := by
  unfold Machine.execStewardFirmwareStart
  extract_lets s1 _ s2 s3 _ s4 s5
  have h1 : s1.Shaped := h.upd
  have h2 : s2.Shaped := h1.upd
  have h3 : s3.Shaped :=
    (((h2.frame State.loadKept_frame).frame State.keptCounters_frame).frame State.loadLease_frame).setO.frame State.checkCounters_frame
  have h4 : s4.Shaped := h3.upd
  have h5 : s5.Shaped := .frame (.ite (h4.frame State.zeroiseKeys_frame) h4) State.repairArb_frame
  exact .ite (.next h1) (.next (.frame ((h5.frame State.flashRelax_frame).foldl fun _ _ h => .ite h.wantOn h) State.debugDomain_frame))

/-! ### Machine/Storage -/

theorem cmdNvUserData {bytes : List Byte} (h : s.Shaped) : Res.Shaped (s.cmdNvUserData via bytes) :=
  h.cmdDom fun _ h => .ite .error (.ok (h.frame State.keepCommit_frame))

theorem cmdNvAnnealNow {v : Nat} (h : s.Shaped) : Res.Shaped (s.cmdNvAnnealNow via v) :=
  h.cmd fun _ h => h.done fun _ h => h.upd

theorem execStoreAnneal {sector : Nat} {weak : Bool} {flips : List (Nat × Byte)} (h : s.Shaped) :
    Ans.Shaped (execStoreAnneal sector weak flips t s) := by
  unfold Machine.execStoreAnneal
  extract_lets
  split
  · refine .ite (.next h.upd) ?_
    extract_lets
    split
    · exact .next h.upd
    · extract_lets s1
      have h1 : s1.Shaped := h.upd.frame State.decayed_frame
      exact .ite (.next (.ite (h1.frame State.compactSector_frame) h1)) (.next (h1.frame State.listFailing_frame))
  · exact .next h.upd

theorem execFlashStatusPoll {busy fail : Bool} (h : s.Shaped) : Ans.Shaped (execFlashStatusPoll busy fail t s) := by
  unfold Machine.execFlashStatusPoll
  extract_lets
  split
  · exact .next h.upd
  · extract_lets s1
    have h1 : s1.Shaped := h.upd.frame State.selectUsed_frame
    refine .ite (.next (.ite (h1.flashFailed.frame State.closeEnd_frame) h1.flashFailed)) ?_
    exact .ite (.next h1) (.next (.ite ((h1.frame State.flashReady_frame).frame State.closeEnd_frame) (h1.frame State.flashReady_frame)))

theorem execRecordRepair (h : s.Shaped) : Ans.Shaped (execRecordRepair t s) := by
  unfold Machine.execRecordRepair
  extract_lets
  refine .ite (.next (h.upd.frame State.askBus_frame)) ?_
  split
  · split
    exacts [.ite (.next (h.upd.frame State.jobTake_frame)) (.next (h.upd.frame State.repairDone_frame).nvKick),
      .next (h.upd.frame State.repairDone_frame).nvKick]
  · exact .next h.upd

theorem execEraseRedone (h : s.Shaped) : Ans.Shaped (execEraseRedone t s) := by
  unfold Machine.execEraseRedone
  extract_lets
  refine .ite (.next (h.upd.frame State.askBus_frame)) ?_
  split
  exacts [.next (h.upd.frame State.eraseStart_frame), .next h.upd]

theorem execStoreCompaction (h : s.Shaped) : Ans.Shaped (execStoreCompaction t s) := by
  unfold Machine.execStoreCompaction
  extract_lets
  refine .ite (.next h.upd) ?_
  split
  exacts [.next ((h.upd.frame State.compactTail_frame).frame State.compactStuck_frame), .ite (.next h.upd.opEnd) (.next h.upd)]

theorem cmdNvCompactGo {v : Nat} (h : s.Shaped) : Res.Shaped (s.cmdNvCompactGo via v) :=
  h.cmd fun _ h => .ite .error (.ok (.ite h.upd.opStart.upd.opEnd h.upd.opStart))

theorem cmdNvStoreFormat {v : Nat} (h : s.Shaped) : Res.Shaped (s.cmdNvStoreFormat via v) :=
  h.cmd fun _ h => .ite .error (.ok (h.upd.opStart.frame State.formatStep_frame))

theorem deleteKey {key : Nat} (h : s.Shaped) : Res.Shaped (s.deleteKey key) := by
  unfold State.deleteKey
  split
  exacts [.error, .ite .error (.ok h.nvWrite)]

theorem cmdNvSetDelete {v : Nat} (h : s.Shaped) : Res.Shaped (s.cmdNvSetDelete via v) := h.cmd fun _ h => h.deleteKey

theorem cmdNvRecordDelete {v : Nat} (h : s.Shaped) : Res.Shaped (s.cmdNvRecordDelete via v) :=
  h.cmd fun _ h => h.deleteKey

/-! ### Machine/Thermal -/

theorem judgeSensor {s0 : State} {es ts : List Int} {i : Nat} (h : s.Shaped) : (s0.judgeSensor es ts s i).Shaped :=
  .ite (.ite (h.upd.frame State.setExcluded_frame) h.upd) (.ite (h.upd.frame State.setExcluded_frame).inc.logEvt h.upd)

theorem sensorFault (h : s.Shaped) : s.sensorFault.Shaped := .ite (.ite h.faultSafe.addCause h) h.dropCause

theorem execThrottleGraceExpiry (h : s.Shaped) : Ans.Shaped (execThrottleGraceExpiry t s) := by
  unfold Machine.execThrottleGraceExpiry
  extract_lets
  split
  exacts [.ite (.next (h.upd.frame State.graceOver_frame)) (.next h.upd), .next h.upd]

theorem execThrottleUndo (h : s.Shaped) : Ans.Shaped (execThrottleUndo t s) := by
  unfold Machine.execThrottleUndo
  extract_lets
  split
  exacts [.ite (.next (h.upd.frame State.undoStep_frame)) (.next h.upd), .next h.upd]

theorem quenchNow (h : s.Shaped) : s.quenchNow.Shaped := by
  unfold State.quenchNow
  extract_lets _ _ _ _ s1
  have h1 : s1.Shaped := ((h.upd.frame State.showThrottle_frame).upd.frame State.bumpCounter_keeps).notify.frame State.nvClose_frame
  exact .ite ((h1.frame State.domCut_frame).frame State.domCut_frame) (.ite h1.faultSafe.addCause.domainsOff h1)

theorem thermState {n : Nat} (h : s.Shaped) : (s.thermState n).Shaped := h.frame State.thermState_frame

theorem thermRise {was n : Nat} (h : s.Shaped) : (s.thermRise was n).Shaped := by
  unfold State.thermRise
  extract_lets _ s1
  have h1 : s1.Shaped := .ite (h.thermState.frame State.warned_frame) h.thermState
  exact .ite h1.quenchNow (.ite (h1.frame State.askThrottle_frame) h1)

theorem thermJudge {i : Int} (h : s.Shaped) : (s.thermJudge i).Shaped :=
  .ite h.upd.thermRise (.ite (h.upd.frame State.thermFall_frame) h.upd)

theorem thermEval {sensors : List Int} (h : s.Shaped) : (s.thermEval sensors).Shaped :=
  .thermJudge (.sensorFault (.setOs (.upd (.frame (h.foldl fun _ _ h => h.judgeSensor) State.showNodes_frame))))

theorem cmdQuenchClear {v : Nat} (h : s.Shaped) : Res.Shaped (s.cmdQuenchClear via v) :=
  h.cmd fun _ h => h.done fun _ h => .ite h (h.upd.dropCause.thermState.frame State.endRequest_frame)

/-! ### Machine/Trigger -/

theorem cmdEncPreset {e : Bool} {v : Nat} (h : s.Shaped) : Res.Shaped (s.cmdEncPreset via e v) :=
  h.cmd fun _ h => h.done fun _ h => h.setO.frame State.rearmEnc_frame

theorem cmdTgFire {g : Pos} {v : Nat} (h : s.Shaped) : Res.Shaped (s.cmdTgFire via g v) :=
  h.cmd fun _ h => h.done fun _ h => h.frame State.genEvent_frame

theorem channelEvent {c seq st e : Nat} (h : s.Shaped) : (s.channelEvent c seq t st e).Shaped := by
  unfold State.channelEvent
  extract_lets _ _ s1
  have h1 : s1.Shaped := h.incBy
  exact (h1.updChan (by rw [List.length_set, h1.chan])).frame State.deliver_frame

theorem takeEvent {b : List Byte} (h : s.Shaped) : (s.takeEvent b).Shaped := by
  unfold State.takeEvent
  extract_lets
  refine .ite h ?_
  refine .ite h.inc ?_
  split
  exacts [.ite h.inc h.channelEvent, h.channelEvent]

theorem execSp0TransactionEnd {sel : Fin 4} {words : List Nat} (h : s.Shaped) :
    Ans.Shaped (execSp0TransactionEnd sel words t s) := by
  unfold Machine.execSp0TransactionEnd
  extract_lets
  split
  exacts [.ite (.next ((h.upd.frame State.sp0Release_frame).entryIds.frame State.sp0Next_frame)) (.next h.upd), .next h.upd]

/-! ### Machine/ObjWrite -/

theorem cmdExpertRelease {v : Nat} (h : s.Shaped) : Res.Shaped (s.cmdExpertRelease via v) :=
  h.cmd fun _ h => h.done fun _ h => h.frame State.releaseExpert_frame

theorem clearEpoch (h : s.Shaped) : Res.Shaped s.clearEpoch := .ite .error (.ok (h.setOs.frame State.writeLease_frame))
theorem cmdEpochClear {v : Nat} (h : s.Shaped) : Res.Shaped (s.cmdEpochClear via v) := h.cmd fun _ h => h.clearEpoch

theorem writeBlob {k : Nat} {b : List Byte} (h : s.Shaped) : Res.Shaped (s.writeBlob via k b) := by
  unfold State.writeBlob
  split
  · exact h.cmdNvUserData
  · exact h.cmdRawXfer
  · exact h.cmdSecKeyWrite
  · exact h.cmdSecArchiveKey
  · exact h.cmdSecTokenKey
  · exact h.cmdHpAuthReq
  · exact h.cmdHpAuthProve
  · exact h.cmdDbgToken
  · exact h.put

theorem domRead (h : s.Shaped) : Res.Shaped s.domRead := by
  unfold State.domRead
  extract_lets
  split
  exacts [.error, .ite .error (.ite .error (.ok (h.frame State.readBlob_frame).upd.setO))]

theorem domWrite (h : s.Shaped) : Res.Shaped s.domWrite := by
  unfold State.domWrite
  extract_lets
  split
  exacts [.error, .ite .error h.writeBlob]

theorem domStart {v : Nat} (h : s.Shaped) : (s.domStart v).Shaped := by
  have hr : Res.Shaped (if v = 1 then s.domRead else s.domWrite) := .ite h.domRead h.domWrite
  unfold State.domStart
  split
  · exact (hr _ ‹_›).upd
  · exact h.failNoted.setO.setO.upd

theorem cmdDomCmd {v : Nat} (h : s.Shaped) : Res.Shaped (s.cmdDomCmd via v) :=
  h.cmd fun _ h => h.done fun _ h => h.domStart

theorem commandOf {k v : Nat} : CmdsShaped (State.commandOf via k v) := by
  unfold State.commandOf
  extract_lets
  split
  · exact .some fun _ h => h.cmdExpertRelease
  · exact .some fun _ h => h.cmdDomCmd
  · exact .ite (.some fun _ h => h.cmdModeReqGo) .none
  · exact .some fun _ h => h.cmdSoftReset
  · exact .some fun _ h => h.cmdEpochClear
  · exact .some fun _ h => h.cmdTimeSet
  · exact .some fun _ h => h.cmdCoefOpen
  · exact .some fun _ h => h.cmdCoefClose
  · exact .some fun _ h => h.cmdLoadGo
  · exact .some fun _ h => h.cmdSaveGo
  · exact .some fun _ h => h.cmdTailHistReset
  · exact .some fun _ h => h.cmdStatLatch
  · exact .some fun _ h => h.cmdGenCommit
  · exact .some fun _ h => h.cmdGenDiscard
  · exact .some fun _ h => h.cmdEclRequest
  · exact .some fun _ h => h.cmdEclAbort
  · exact .some fun _ h => h.cmdEclFaultClear
  · exact .some fun _ h => h.cmdEclShut
  · exact .some fun _ h => h.cmdEncPreset
  · exact .some fun _ h => h.cmdTgFire
  · exact .some fun _ h => h.cmdSetSave
  · exact .some fun _ h => h.cmdNvSetDelete
  · exact .some fun _ h => h.cmdSetApply
  · exact .some fun _ h => h.cmdNvRecordDelete
  · exact .some fun _ h => h.cmdNvAnnealNow
  · exact .some fun _ h => h.cmdNvCompactGo
  · exact .some fun _ h => h.cmdNvStoreFormat
  · exact .some fun _ h => h.cmdHkCtrl
  · exact .some fun _ h => h.cmdQuenchClear
  · exact .some fun _ h => h.cmdSecLifecycleSet
  · exact .some fun _ h => h.cmdSecArbCommit
  · exact .some fun _ h => h.cmdSecKeyErase
  · exact .some fun _ h => h.cmdHpAuthClose
  · exact .some fun _ h => h.cmdDbgSetGrade
  · exact .some fun _ h => h.cmdDbgLock
  · exact .ite (.some fun _ h => h.cmdOpAbort) (.map fun _ _ h => h.cmdClear)

theorem writeCommand {row : ObjRow} {x : Written} {op : State → Res} (h : s.Shaped)
    (hop : ∀ s, s.Shaped → (op s).Shaped) : Res.Shaped (State.writeCommand via row x op s) := by
  unfold State.writeCommand
  refine .ite .error (.ite .error (.ite (hop _ h) ?_))
  split <;> exact .error

theorem objWrite {k : Nat} {x : Written} (h : s.Shaped) : Res.Shaped (State.objWrite via k x s) := by
  unfold State.objWrite
  split
  · exact .error
  · refine .ite (.ite .error h.writeBlob) ?_
    split
    · exact h.writeCommand (commandOf _ ‹_›)
    · exact h.put

theorem writeRefused {k v code : Nat} (h : s.Shaped) : (s.writeRefused k v code).Shaped := h.frame State.writeRefused_frame

theorem execObjectWrite {key v : Nat} {ok : Bool} (h : s.Shaped) : Ans.Shaped (execObjectWrite via key v ok t s) := by
  refine .next ((h.frame State.keptIs_frame).upd.onPath fun s h => ?_)
  extract_lets s1
  have h1 : s1.Shaped := h.writeOf
  split
  exacts [h1.objWrite _ ‹_›, h1.writeRefused.refuse]

/-! ### Machine/Access -/

theorem writeSegment {session k offset : Nat} {last : Bool} {data : List Byte} (h : s.Shaped) :
    (s.writeSegment session k offset last data).1.Shaped := by
  unfold State.writeSegment
  extract_lets s1
  have h1 : s1.Shaped := h.frame State.staleStaging_frame
  split
  · exact h1.upd
  · refine .iteFst ?_ h1.upd
    split
    · exact writeBlob h1.upd _ ‹_›
    · exact h1.upd.failNoted

theorem writeRequest (h : s.Shaped) : (s.writeRequest r).1.Shaped := by
  unfold State.writeRequest
  extract_lets
  split
  · exact h
  · refine .iteFst (h.frame State.foreignSegment_frame) ?_
    refine .iteFst (h.frame State.foreignSegment_frame) ?_
    refine .iteFst ?_ h.writeSegment
    refine .iteFst h ?_
    refine .iteFst h ?_
    split
    exacts [h.objWrite _ ‹_›, h.writeRefused]

/-! ### Machine/Dma -/

theorem bar4Access {f : State → State} (h : s.Shaped) (hf : ∀ s, s.Shaped → (f s).Shaped) :
    (s.bar4Access f).Shaped := .ite h (.ite h.upd (hf _ h))

theorem bar4 {c : Nat} {f : State → State} (h : s.Shaped) (hf : ∀ s, s.Shaped → (f s).Shaped) :
    (s.bar4 c f).Shaped := h.bar4Access fun _ h => .ite (hf _ h) h.inc

theorem chRun {c : Nat} (h : s.Shaped) : (s.chRun c).Shaped := .ite h h.setCh.setO

theorem chStop {c : Nat} {abort : Bool} (h : s.Shaped) : (s.chStop c abort).Shaped := by
  unfold State.chStop
  extract_lets
  refine .ite h ?_
  split
  exacts [h.setO.frame State.raise_keeps, h.setCh.setO]

theorem chStart {c : Nat} {b : List Byte} (h : s.Shaped) : (s.chStart c b).Shaped := by
  unfold State.chStart
  extract_lets _ _ _ _ s1 s2
  have h1 : s1.Shaped := h.frame State.dmaBlocked_frame
  have h2 : s2.Shaped := by
    unfold s2
    split
    exacts [h1.setSlot, h1]
  exact .ite h.setO h2.setCh.setO

theorem execDmaBurstStart {c : Nat} {data : List Byte} {good : Bool} (h : s.Shaped) :
    Ans.Shaped (execDmaBurstStart c data good t s) := by
  unfold Machine.execDmaBurstStart
  extract_lets
  split
  exacts [.ite (.next h.upd) (.ite (.next h.upd.burst) (.next h.upd.hostFailed)), .next h.upd]

theorem execDmaDescriptorEnd {c : Nat} {good : Bool} (h : s.Shaped) : Ans.Shaped (execDmaDescriptorEnd c good t s) := by
  unfold Machine.execDmaDescriptorEnd
  extract_lets
  split
  exacts [.ite (.next h.upd) (.next (.endDesc (.ite h.upd.hostFailed h.upd))), .next h.upd]

theorem execCompletionTimeout {c : Nat} (h : s.Shaped) : Ans.Shaped (execCompletionTimeout c t s) := by
  unfold Machine.execCompletionTimeout
  extract_lets
  split
  exacts [.next h.upd.setCh.endDesc, .next h.upd]

theorem execDmaStandbyCut {c : Nat} (h : s.Shaped) : Ans.Shaped (execDmaStandbyCut c t s) := by
  unfold Machine.execDmaStandbyCut
  extract_lets
  split
  exacts [.ite (.next h.upd.setCh.endDesc) (.next h.upd), .next h.upd]

theorem chCtrl {c v : Nat} (h : s.Shaped) : (s.chCtrl c v).Shaped := by
  unfold State.chCtrl
  extract_lets s1 s2 s3
  have h1 : s1.Shaped := .ite h.chRun h
  have h2 : s2.Shaped := .ite h1.chStop h1
  have h3 : s3.Shaped := .ite h2.chStop h2
  exact .ite h3.requestOf h3

theorem bar4Write {a v : Nat} (h : s.Shaped) : (s.bar4Write a v).Shaped :=
  .ite h.inc (.ite (h.frame State.tableWrite_frame) (.ite h.chTail (.ite h.chCtrl h)))

theorem powerCtl {v : Nat} (h : s.Shaped) : (s.powerCtl v).Shaped :=
  .ite h.enterD3hot (.ite (h.frame State.leaveD3hot_frame) h)

theorem configWrite {a v : Nat} (h : s.Shaped) : (s.configWrite a v).Shaped := by
  unfold State.configWrite
  split
  · exact h.upd
  · exact h.upd
  · exact h.upd
  · exact h.upd
  · exact h.upd
  · exact h.powerCtl
  · exact h.frame State.msixCtl_frame
  · exact .ite h.dmaDrop.upd h.upd
  · exact h

theorem configAccess {f : State → State} (h : s.Shaped) (hf : ∀ s, s.Shaped → (f s).Shaped) :
    (s.configAccess f).Shaped := .ite (hf _ h) h

theorem answerWord {addr size : Nat} {x : State × Nat} (h : x.1.Shaped) : (State.answerWord addr size x).Shaped := h.upd

/-! ### Machine/Bar0 -/

theorem bar0Access {f : State → State} (h : s.Shaped) (hf : ∀ s, s.Shaped → (f s).Shaped) :
    (s.bar0Access f).Shaped := h.onPath fun _ h => hf _ (h.frame State.touch_keeps)

theorem wordRead {bar : Bar} {addr size : Nat} (h : s.Shaped) : (s.wordRead bar addr size).Shaped := by
  unfold State.wordRead
  split
  · exact h.bar0Access fun _ h => h.frame State.bar0Read_frame
  · exact h.bar4Access fun _ h => h.bar4Word.answerWord
  · exact h.configAccess fun _ h => h.answerWord

theorem bar0Drop {addr : Nat} (h : s.Shaped) : (s.bar0Drop addr).Shaped := h.frame State.bar0Drop_frame

theorem bar0Put {k : Nat} {x : Written} (h : s.Shaped) : (s.bar0Put k x).Shaped := by
  unfold State.bar0Put
  split
  exacts [h.objWrite _ ‹_›, h.writeRefused.refuse]

theorem lowWrite {k v : Nat} (h : s.Shaped) : (s.lowWrite k v).Shaped := by
  unfold State.lowWrite
  split
  exacts [h.dropHeld.refuse, .ite h.dropHeld.upd (.ite h.dropHeld.bar0Put h.dropHeld.refuse)]

theorem upperWrite {k v : Nat} (h : s.Shaped) : (s.upperWrite k v).Shaped := by
  unfold State.upperWrite
  extract_lets
  split
  exacts [.ite h.upd.bar0Put h.dropHeld.bar0Put, h.bar0Put]

theorem bar0Write {addr v : Nat} (h : s.Shaped) : (s.bar0Write addr v).Shaped := by
  unfold State.bar0Write
  split
  exacts [h.lowWrite, h.upperWrite, h.dropHeld.upd, h.dropHeld.bar0Drop]

theorem wordWrite {bar : Bar} {addr v : Nat} (h : s.Shaped) : (s.wordWrite bar addr v).Shaped := by
  unfold State.wordWrite
  split
  · exact h.bar0Access fun _ h => .ite h.bar0Write h.dropHeld.bar0Drop
  · exact h.bar4Access fun _ h => .ite h.bar4Write h
  · exact h.configAccess fun _ h => .ite h.configWrite h

theorem execBar0DroppedWrite {bar : Bar} {addr size : Nat} (h : s.Shaped) :
    Ans.Shaped (execBar0DroppedWrite bar addr size t s) := by
  unfold Machine.execBar0DroppedWrite
  extract_lets
  split
  · exact .ite (.next h.upd) (.next (h.upd.bar0Access fun _ h => h.dropHeld.bar0Drop))
  · exact .next (h.upd.bar4Access fun _ h => .ite h h.inc)
  · exact .next h.upd

theorem execBar0DomCmdEnd (h : s.Shaped) : Ans.Shaped (execBar0DomCmdEnd t s) := by
  unfold Machine.execBar0DomCmdEnd
  extract_lets
  split
  exacts [.next h.upd, .next (h.upd.setO.frame State.raise_keeps)]

/-! ### Machine/Frames -/

theorem eclLine {before : Int} (h : s.Shaped) : (s.eclLine p before).Shaped := .ite h.requestLine h

theorem handOver {f : OpenFrame} (h : s.Shaped) : (s.handOver p f).Shaped :=
  (((((((h.frame State.handGen_frame).frame State.handVdet_frame).frame State.handFilter_frame).frame
    State.vdetDue_frame).frame State.eclHandOver_frame).frame State.handCoef_frame).upd.frame
    State.handWords_frame).showLoads.upd.takeSlots.eclLine.afterEcl

theorem execHandOverInstant (h : s.Shaped) : Ans.Shaped (execHandOverInstant p t s) := by
  unfold Machine.execHandOverInstant
  extract_lets
  split
  exacts [.next h.upd.handOver, .next h.upd]

/-! ### Machine/LaneOps -/

theorem takeMarker {lane g stripe place : Nat} (h : s.Shaped) : (s.takeMarker lane g stripe place).Shaped :=
  .ite h (.frame (.setLane (.ite h.loseAlignment h)) State.tryAlign_frame)

theorem blockIn {g lane place raw : Nat} (h : s.Shaped) : (s.blockIn g lane place raw).1.Shaped := by
  unfold State.blockIn
  extract_lets
  refine .iteFst h.setLane ?_
  split
  exacts [h.setLane.takeMarker, h.setLane.inc.frame State.takeBlock_frame, h.setLane.frame State.takeBlock_frame]

theorem receiveBlocks {g : Nat} {b : LaneBlocks} (h : s.Shaped) : (s.receiveBlocks g b).1.Shaped :=
  foldlFst h fun _ _ h => h.blockIn

theorem hpSamples {edges : List HpEdge} (h : s.Shaped) : (s.hpSamples edges).Shaped := h.frame State.hpSamples_frame

/-! ### Machine/Intake -/

theorem execLaneBlockLockLoss {lane : Nat} (h : s.Shaped) : Ans.Shaped (execLaneBlockLockLoss lane t s) := by
  unfold Machine.execLaneBlockLockLoss
  extract_lets
  refine .ite ?_ (.next h.upd)
  split
  exacts [.next h.upd.setLane.loseAlignment, .next h.upd.setLane]

theorem receive {grp : Nat} {b : LaneBlocks} (h : s.Shaped) : (s.receive grp b).Shaped :=
  h.receiveBlocks.foldl fun _ _ h => h.frame State.onPacket_frame

theorem execAlignmentMarker {lane block place : Nat} (h : s.Shaped) :
    Ans.Shaped (execAlignmentMarker lane block place t s) := by
  unfold Machine.execAlignmentMarker
  extract_lets
  split
  exacts [.next h.upd.receive, .next h.upd]

theorem execIntIdleTimeout (h : s.Shaped) : Ans.Shaped (execIntIdleTimeout p t s) := by
  unfold Machine.execIntIdleTimeout
  extract_lets
  split
  exacts [.ite (.next (h.upd.frame State.frameClosed_frame)) (.next h.upd), .next h.upd]

theorem execIntakeForcedClose (h : s.Shaped) : Ans.Shaped (execIntakeForcedClose p t s) := by
  unfold Machine.execIntakeForcedClose
  extract_lets
  split
  exacts [.ite (.next (h.upd.frame State.frameClosed_frame)) (.next h.upd), .next h.upd]

/-! ### Machine/Lease -/

theorem granted {role hb miss epoch : Nat} (h : s.Shaped) : (s.granted role hb miss epoch).Shaped := by
  unfold State.granted
  extract_lets _ _ _ s2 s3
  have h2 : s2.Shaped := (h.discardIf.setOs.frame State.writeLease_frame).frame State.renewLease_frame
  have h3 : s3.Shaped := .ite h2.setO h2
  exact h3.upd

theorem leaseGrant {good : Bool} (h : s.Shaped) : (s.leaseGrant good r).1.Shaped :=
  .ite h.upd.granted (.ite (h.upd.inc.frame State.nvFailed_keeps) h.upd.inc)

theorem leaseAnnounced {good : Bool} {role station epoch : Nat} (h : s.Shaped) :
    (s.leaseAnnounced good role station epoch).Shaped := .ite h.toOrphan (.ite h.inc h)

theorem leaseEntry {good : Bool} {role station epoch : Nat} (h : s.Shaped) :
    (s.leaseEntry good role station epoch).Shaped :=
  .ite (.ite (.ite (h.frame State.renewLease_frame) (.ite (h.frame State.staleEntry_frame) h)) (h.frame State.staleEntry_frame))
    (.ite h.toOrphan h)

theorem leaseDue (h : s.Shaped) : s.leaseDue.Shaped := .ite h.discardRole.setO.inc.notify h

theorem heartbeat {good : Bool} (h : s.Shaped) : (s.heartbeat good r).Shaped :=
  (h.upd.frame State.place_frame).leaseDue.foldl fun _ _ h => h.leaseEntry

/-! ### Machine/Serial -/

theorem mbxWrite (h : s.Shaped) : s.mbxWrite.Shaped := by
  unfold State.mbxWrite
  extract_lets
  refine .ite h.upd ?_
  split
  · exact h.upd
  · split
    exacts [.upd (h.objWrite _ ‹_›), h.writeRefused.upd]

theorem execSp1HandoverTimeout (h : s.Shaped) : Ans.Shaped (execSp1HandoverTimeout t s) := by
  unfold Machine.execSp1HandoverTimeout
  extract_lets
  split
  exacts [.ite (.next h.upd.inc) (.next h.upd), .next h.upd]

theorem dqsSweep {k : Pos} {taps half : List Nat} (h : s.Shaped) : (s.dqsSweep k taps half).Shaped := h.frame State.dqsSweep_frame

theorem execDqsCalibration {k : Pos} {passFirst : Bool} {passTaps passHalf : List Nat} (h : s.Shaped) :
    Ans.Shaped (execDqsCalibration k passFirst passTaps passHalf t s) := by
  unfold Machine.execDqsCalibration
  extract_lets
  refine .ite (.next h.upd) ?_
  refine .ite (.next (h.upd.frame State.selectUsed_frame).dqsSweep) ?_
  refine .ite (.next h.upd) ?_
  exact .ite (.next (h.upd.frame State.selectUsed_frame)) (.next (h.upd.frame State.selectUsed_frame).inc.dqsSweep)

end State.Shaped
end Sys2Proof.Machine
end

section
/-!
PROOFS. Every step keeps the shape.
-/
namespace Sys2Proof.Machine
set_option Elab.async false

/-- The rows of the instruction set: a straight one in place, one that branches on more than conditions by its lemma. -/
theorem exec_shaped {s : State} (c : Instr) (h : s.Shaped) : Ans.Shaped (exec c s) := by
  cases c with
  | vinRise => exact .ite (.next h.upd) (.next h.upd.resetLogic.upd)
  | resetNAssert => exact .next (.upd (.ite h.upd h.upd.resetLogic))
  | resetNRise => exact .next h.upd
  | internalResetRelease => exact .ite (.next (h.upd.frame State.released_frame)) (.next h.upd)
  | firmwareImageCheck => exact .ite (.next h.upd) (.ite (.next h.upd) (.next (h.upd.frame State.slotsFailed_frame)))
  | stewardFirmwareStart => exact h.execStewardFirmwareStart
  | dramTrainingComplete => exact .ite (.next (h.upd.frame State.bootTraining_frame)) (.ite (.next h.upd.retraining) (.next h.upd))
  | storeRecoveryScan => exact .ite (.next h.upd) (.next h.upd.storeScan.setO)
  | startupSetApply => exact .ite (.next h.upd) (.next h.upd.startupSet.fixLoads.firstStandby)
  | watchdogReset => exact .ite (.next h.upd) (.next h.upd.resetFrom)
  | softReset => exact .next (h.runCommand fun _ h => h.cmdSoftReset)
  | sysclkLoss => exact .next h.upd.resetFrom.upd
  | pciePerstRelease => exact .next (h.upd.frame State.linkTrain_frame)
  | pciePerstAssert => exact .ite (.next h.upd) (.next h.upd.dmaDrop.upd.setO.upd)
  | modeRequest => exact .next (h.onTelegram fun _ h => (h.frame State.answerMode_frame).upd.frame State.raise_keeps)
  | modeReqGo => exact .next (h.runCommand fun _ h => h.cmdModeReqGo)
  | transitionActivation => exact h.execTransitionActivation
  | transitionComplete => exact .ite (.next h.upd.completeTransition) (.next h.upd)
  | transitionTimeout => exact .ite (.next h.upd.timeoutTransition) (.next h.upd)
  | opAbort => exact .ite (.next (h.runCommand fun _ h => h.cmdOpAbort)) (.next h.upd)
  | opProgressUpdate => exact .ite (.next (h.upd.frame State.opAt_frame)) (.next h.upd)
  | laneBlockLockLoss => exact h.execLaneBlockLockLoss
  | alignmentMarker => exact h.execAlignmentMarker
  | mslFrameStart => exact .next h.upd.receive
  | mslRowPacket => exact .next h.upd.receive
  | mslFrameEnd => exact .next h.upd.receive
  | intIdleTimeout => exact h.execIntIdleTimeout
  | intakeForcedClose => exact h.execIntakeForcedClose
  | drainComplete => exact .next h.upd.endDrain.modeProceed
  | handOverInstant => exact h.execHandOverInstant
  | ingotComplete => exact .next h.upd.ingotsDone
  | prefetchComplete => exact .next (h.upd.frame State.prefetch_frame)
  | readoutEntersSlice => exact .next (h.upd.frame State.enterSlice_frame)
  | defectReplacementRow => exact .next h.upd.replaceRow
  | pixelMerge => exact .next h.upd.merge
  | outputFilterRow => exact .next h.upd.filterRow
  | corrCoefOpen => exact .next (h.runCommand fun _ h => h.cmdCoefOpen)
  | corrCoefClose => exact .next (h.runCommand fun _ h => h.cmdCoefClose)
  | coefCheckComplete => exact .ite (.next h.upd.closeCheck.prepAll) (.next h.upd)
  | corrLoadGo => exact .next (h.runCommand fun _ h => h.cmdLoadGo)
  | coefLoadEnd => exact h.execCoefLoadEnd
  | corrSaveGo => exact .next (h.runCommand fun _ h => h.cmdSaveGo)
  | tailHistReset => exact .next (h.runCommand fun _ h => h.cmdTailHistReset)
  | eclRequestFull => exact .next (h.runCommand fun _ h => h.cmdEclRequest)
  | eclRequestPartial => exact .next (h.runCommand fun _ h => h.cmdEclRequest)
  | eclAbort => exact .next (h.runCommand fun _ h => h.cmdEclAbort)
  | eclFaultClear => exact .next (h.runCommand fun _ h => h.cmdEclFaultClear)
  | eclShutCmdClose => exact .next (h.runCommand fun _ h => h.cmdEclShut)
  | eclShutCmdOpen => exact .next (h.runCommand fun _ h => h.cmdEclShut)
  | eclipseGrant => exact h.execEclipseGrant
  | shutterPulseStart => exact .next (h.upd.frame State.arbiter_frame).afterEcl
  | endSensorAsserted => exact .next (h.upd.frame State.sensorTime_frame)
  | pulseHoldExpiry => exact h.execPulseHoldExpiry
  | pulseMaxExpiry => exact h.execPulseMaxExpiry
  | bothSensorsFault => exact h.execBothSensorsFault
  | eclipseHeldStart => exact .ite (.next ((h.upd.frame State.heldDecide_frame).frame State.sp0Next_frame)) (.next h.upd)
  | eclipseUpdateComplete => exact .next h.upd.eclUpdateEnd.afterEcl.modeProceed
  | openingEnd => exact .next (h.upd.frame State.openingEnds_frame)
  | openingPulseRetry => exact h.execOpeningPulseRetry
  | eclipseWindowDeadline => exact h.execEclipseWindowDeadline
  | predictiveEvaluation => exact .ite (.next (h.upd.foldl fun _ _ h => (h.frame State.evaluatePos_frame))) (.next h.upd)
  | eclipseOverdue => exact .ite (.next h.upd) (.next (.ite h.upd h.upd.notify))
  | eclipseWindow => exact .next (h.onTelegram fun _ h => h.once fun _ h => (h.frame State.storeWindow_frame))
  | genCommit => exact h.execGenCommit
  | commit => exact .next (h.onTelegram fun _ h => h.once fun _ h => h.chainCommit)
  | genDiscard => exact .next (h.runCommand fun _ h => h.cmdGenDiscard)
  | vdetSettle => exact h.execVdetSettle
  | vdetOvercurrent => exact .ite (.next h.upd) (.next h.upd.vdetFault)
  | statLatch => exact .next (h.runCommand fun _ h => h.cmdStatLatch)
  | statLatchComplete => exact h.execStatLatchComplete
  | statBlockRead => exact .next (h.upd.onPath fun _ h => ((h.frame State.touch_keeps).frame State.statRead_frame).upd)
  | statSnapshotRelease => exact .next h.upd
  | ptpMessageReceive => exact .ite (.next h.upd.ptp) (.next h.upd)
  | syncTimeout => exact .ite (.next (h.upd.frame State.clockState_frame)) (.next h.upd)
  | ppsInEdge => exact .ite (.next h.upd) (.ite (.next h.upd.setO.ppsEdge) (.next h.upd.setO))
  | ppsOutSecond => exact .ite (.next h.upd) (.ite (.next h.upd.requestLine.upd) (.next h.upd.requestLine))
  | ppsOutWidthExpiry => exact .ite (.next h.upd) (.next h.upd)
  | timeSet => exact .next (h.runCommand fun _ h => h.cmdTimeSet)
  | encoderCountChange =>
    exact .ite (.next (h.upd.frame State.setEnc_frame)) (.ite (.next h.upd) (.next (h.upd.frame State.encLevels_frame)))
  | encoderZEdge => exact .ite (.next (h.upd.frame State.zEdge_frame)) (.next h.upd)
  | encPreset => exact .next (h.runCommand fun _ h => h.cmdEncPreset)
  | encSpeedUpdate => exact .ite (.next (h.upd.frame State.setEnc_frame).setO) (.next h.upd)
  | trigInEdge => exact .ite (.next (h.upd.frame State.inputEdge_frame)) (.next h.upd)
  | timerGeneratorTick => exact .ite (.next (h.upd.frame State.genEvent_frame)) (.next h.upd)
  | tgFire => exact .next (h.runCommand fun _ h => h.cmdTgFire)
  | triggerEvent => exact .ite (.next h.upd.takeEvent) (.next h.upd)
  | decisionPoint => exact .next ((h.upd.frame State.decide__frame).frame State.sp0Next_frame)
  | heldStart => exact .next ((h.upd.frame State.heldMade_frame).frame State.sp0Next_frame)
  | markTransactionStart => exact .ite (.next (h.upd.frame State.markBegin_frame)) (.next h.upd)
  | markRelease => exact .next (h.upd.frame State.markEnd_frame)
  | sp0TransactionEnd => exact h.execSp0TransactionEnd
  | trigOutPulseEnd => exact .ite (.next h.upd) (.next h.upd)
  | hpFvalRise => exact .next h.upd.hpSamples
  | hpFvalFall => exact .next h.upd.hpSamples
  | hpRow => exact .next h.upd.hpSamples
  | hpPclkMeasure => exact .next h.upd.setO
  | outLinkChange => exact h.execOutLinkChange
  | pauseFrame => exact .ite (.next (h.portAt.frame State.pauseArrives_frame)) (.next h.portAt)
  | pauseHoldExpiry => exact .next h.portAt
  | pauseHoldNotify => exact .ite (.next (h.upd.frame State.setOutPort_frame).notify) (.next h.upd)
  | arpRequest => exact .ite (.next (h.portAt.frame State.sendFrame_frame)) (.next h.portAt)
  | arpReply => exact h.execArpReply
  | arpRetry => exact h.execArpRetry
  | arpRefresh => exact h.execArpRefresh
  | icmpEchoRequest => exact .ite (.next h.portAt) (.ite (.next (h.portAt.frame State.echo_frame)) (.next h.portAt.inc))
  | outRxDrop => exact .ite (.next h.upd.inc) (.next h.upd)
  | egressIngotStart => exact .ite (.next h.portAt.egress) (.next h.portAt)
  | datagramSend => exact h.execDatagramSend
  | chainLinkChange => exact .ite (.next h.upd) (.ite (.next h.upd.inc.notify.upd) (.next h.upd))
  | chainFrameForward => exact .ite (.next h.upd) (.next (h.upd.frame State.arrive_frame))
  | read =>
    exact .ite (.next (h.upd.frame State.romRead_frame))
      (.next (h.onTelegram fun _ h => (h.frame State.readRequest_frame).frame State.answer_frame))
  | write => exact .next (h.onTelegram fun _ h => h.once fun _ h => h.writeRequest)
  | writeStagingTimeout => exact .next (h.upd.frame State.staleStaging_frame)
  | rangeRead => exact .next (h.onTelegram fun _ h => (h.frame State.rangeRequest_frame).frame State.answer_frame)
  | leaseGrant => exact .next (h.onTelegram fun _ h => h.once fun _ h => h.leaseGrant)
  | leaseAnnounce => exact .next (h.onTelegram fun _ h => h.leaseAnnounced)
  | heartbeat => exact .next (h.onTelegram fun _ h => h.heartbeat)
  | leaseExpiry => exact .next h.upd.leaseDue
  | leaseRecordRetry => exact .next (.ite (h.upd.frame State.orphanRecord_frame) h.upd)
  | authOpen => exact .next (h.onTelegram fun _ h => .ite (h.once fun _ h => (h.upd.frame State.authOpen_frame)) h)
  | authProve => exact .next (h.onTelegram fun _ h => .ite (h.once fun _ h => (h.frame State.authProve_frame)) h)
  | authClose => exact .next (h.onTelegram fun _ h => .ite (h.once fun _ h => h.upd) h)
  | sessionIdleExpiry => exact h.execSessionIdleExpiry
  | authLockoutExpiry => exact .ite (.next h.upd) (.next h.upd)
  | bar0LowRead => exact .next h.upd.wordRead
  | bar0UpperRead => exact .next h.upd.wordRead
  | bar0LowWrite => exact .next h.upd.wordWrite
  | bar0UpperWrite => exact .next h.upd.wordWrite
  | bar0DroppedWrite => exact h.execBar0DroppedWrite
  | bar0DomCmdRead => exact .next (h.runCommand fun _ h => h.cmdDomCmd)
  | bar0DomCmdWrite => exact .next (h.runCommand fun _ h => h.cmdDomCmd)
  | bar0DomCmdEnd => exact h.execBar0DomCmdEnd
  | expertRelease => exact .next (h.runCommand fun _ h => h.cmdExpertRelease)
  | objectWrite => exact h.execObjectWrite
  | chainStationWrite => exact .next ((h.frame State.keptIs_frame).runCommand fun _ h => h.put)
  | leaseEpochClear => exact .next (h.upd.runCommand fun _ h => h.cmdEpochClear)
  | bar2Write => exact h.execBar2Write
  | bar2OfflineAccess => exact h.execBar2OfflineAccess
  | dramRefreshModeRead => exact .ite (.next h.upd.setOs) (.next h.upd)
  | dmaTailDoorbell => exact .next (h.upd.bar4 fun _ h => h.chTail)
  | dmaCtrlRun => exact .next (h.upd.bar4 fun _ h => h.chRun)
  | dmaCtrlStop => exact .next (h.upd.bar4 fun _ h => h.chStop)
  | dmaCtrlAbort => exact .next (h.upd.bar4 fun _ h => h.chStop)
  | dmaCtrlSoftReq => exact .next (h.upd.bar4 fun _ h => .ite h.requestOf h)
  | dmaDescriptorStart => exact .ite (.next h.upd.chStart) (.next h.upd)
  | dmaBurstStart => exact h.execDmaBurstStart
  | dmaDescriptorEnd => exact h.execDmaDescriptorEnd
  | pcieLinkDown => exact .ite (.next h.upd) (.next h.upd.dmaDrop.setO)
  | flr => exact .ite (.next h.upd.dmaDrop.upd) (.next h.upd)
  | d3hotEntry => exact .ite (.next h.upd) (.next h.upd.enterD3hot)
  | keepArrayWrite =>
    exact .ite (.next h.upd) (.ite (.next (h.upd.frame State.keepDrop_frame))
      (.next ((h.upd.frame State.keepDrop_frame).upd.frame State.keepCommit_frame)))
  | nvUserData => exact .next (h.upd.runCommand fun _ h => h.cmdNvUserData)
  | keepAnneal => exact .ite (.next h.upd) (.ite (.next (.frame (.ite h.upd h.upd) State.annealPage_frame)) (.next (.ite h.upd h.upd)))
  | nvAnnealNow => exact .next (h.runCommand fun _ h => h.cmdNvAnnealNow)
  | storeAnneal => exact h.execStoreAnneal
  | recordWriteEnd => exact .ite (.next h.upd) (.next (h.upd.frame State.recordEnd_frame))
  | flashStatusPoll => exact h.execFlashStatusPoll
  | recordRepair => exact h.execRecordRepair
  | storeCompaction => exact h.execStoreCompaction
  | nvCompactGo => exact .next (h.runCommand fun _ h => h.cmdNvCompactGo)
  | nvStoreFormat => exact .next (h.runCommand fun _ h => h.cmdNvStoreFormat)
  | nvSetSave => exact .next (h.runCommand fun _ h => h.cmdSetSave)
  | nvSetApply => exact .next (h.runCommand fun _ h => h.cmdSetApply)
  | nvSetDelete => exact .next (h.runCommand fun _ h => h.cmdNvSetDelete)
  | nvRecordDelete => exact .next (h.runCommand fun _ h => h.cmdNvRecordDelete)
  | nvCloseFlashCut => exact .ite (.next (h.upd.frame State.nvCloseCut_frame)) (.next h.upd)
  | sp1SlaveRead => exact .next (.ite (h.upd.frame State.slaveRead_frame) h.upd)
  | sp1SlaveWrite => exact .next (.ite (h.upd.frame State.slaveWrite_frame) h.upd)
  | sp1SlaveStatus => exact .next (.ite (h.upd.frame State.slaveStatus_frame) h.upd)
  | mbxCmdRead => exact .next (.ite (h.upd.frame State.mbxRead_frame) h.upd)
  | mbxCmdWrite => exact .next (.ite h.upd.mbxWrite h.upd)
  | mbxStateRead => exact .next (.ite (h.upd.frame State.slaveRead_frame) h.upd)
  | upCmdProgram => exact .next (.ite (h.upd.frame State.upProgram_frame) h.upd)
  | upCmdFinish => exact .next (.ite (h.upd.frame State.upFinish_frame) h.upd)
  | sp1BusRequest => exact .next (.ite ((h.upd.frame State.askBus_frame).frame State.busTurn_frame) h.upd)
  | sp1HandoverTimeout => exact h.execSp1HandoverTimeout
  | sp1SlvCollision => exact .next (.ite h.upd.inc h.upd)
  | sp0Slave => exact .next (h.runCommand fun _ h => h.put)
  | dqsCalibration => exact h.execDqsCalibration
  | xipFetch => exact .ite (.next h.upd) (.ite (.next h.upd) (.next (h.upd.frame State.serveFetches_frame)))
  | sp1RawXfer => exact .next (h.runCommand fun _ h => h.cmdRawXfer)
  | hkCtrlStart => exact .next (h.runCommand fun _ h => h.cmdHkCtrl)
  | hkCtrlAbort => exact .next (h.runCommand fun _ h => h.cmdHkCtrl)
  | hkConversionResult => exact h.execHkConversionResult
  | hkResultRead => exact .next (h.upd.onPath fun _ h => ((h.frame State.touch_keeps).frame State.readHkResult_frame).upd)
  | hkStatusRead => exact .next (h.upd.onPath fun _ h => (h.frame State.touch_keeps).upd)
  | hkRefSettled => exact .ite (.next (h.upd.frame State.calOwed_frame)) (.next h.upd)
  | hkDomainOff => exact h.execHkDomainOff
  | hkCalibrationTurn => exact .ite (.next (h.upd.frame State.calTurn_frame)) (.next h.upd)
  | hkCalibrationComplete => exact h.execHkCalibrationComplete
  | shutterTempConversion => exact h.execShutterTempConversion
  | thermalEvaluation => exact .ite (.next h.upd.thermEval) (.next h.upd)
  | throttleGraceExpiry => exact h.execThrottleGraceExpiry
  | throttleUndo => exact h.execThrottleUndo
  | thermQuenchClear => exact .next (h.runCommand fun _ h => h.cmdQuenchClear)
  | hardwareTrip => exact .ite (.next h.upd) (.next h.upd.resetLogic.upd)
  | hardwareTripRelease => exact .next h.upd
  | powerFailWarning => exact .ite (.next h.upd) (.next h.upd.inc.startPowerFail)
  | brownOut => exact .ite (.next h.upd) (.ite (.next h.upd.inc.exhausted) (.next h.upd.inc.startPowerFail))
  | overvoltage => exact .ite (.next h.upd) (.next h.upd.inc.startPowerFail)
  | inputSwitchClose => exact .ite (.next h.upd) (.next h.upd)
  | holdupReady => exact .ite (.next h.upd) (.next (h.upd.frame State.holdupCharged_frame))
  | holdupMissing => exact .ite (.next h.upd) (.next h.upd.logEvt)
  | holdupExhausted => exact .ite (.next h.upd) (.next h.upd.exhausted)
  | powerCauseClear => exact .ite (.next h.upd.dropCause.upd) (.next h.upd)
  | domainRampStart => exact .ite (.next h.upd) (.next h.upd.setO)
  | domainRampTimeout => exact h.execDomainRampTimeout
  | monitorSnapshot => exact h.execMonitorSnapshot
  | secLifecycleSet => exact .next (h.runCommand fun _ h => h.cmdSecLifecycleSet)
  | secKeyWrite => exact .next (h.runCommand fun _ h => h.cmdSecKeyWrite)
  | secKeyErase => exact .next (h.runCommand fun _ h => h.cmdSecKeyErase)
  | secArchiveKey => exact .next (h.runCommand fun _ h => h.cmdSecArchiveKey)
  | secTokenKey => exact .next (h.runCommand fun _ h => h.cmdSecTokenKey)
  | secArbCommit => exact .next (h.runCommand fun _ h => h.cmdSecArbCommit)
  | hpAuthReq => exact .next (h.upd.runCommand fun _ h => h.cmdHpAuthReq)
  | hpAuthProve => exact .next (h.runCommand fun _ h => h.cmdHpAuthProve)
  | hpAuthClose => exact .next (h.runCommand fun _ h => h.cmdHpAuthClose)
  | dbgToken => exact .next (h.runCommand fun _ h => h.cmdDbgToken)
  | dbgTokenAccept => exact h.execDbgTokenAccept
  | dbgSetGrade => exact .next (h.runCommand fun _ h => h.cmdDbgSetGrade)
  | dbgLock => exact .next (h.runCommand fun _ h => h.cmdDbgLock)
  | tapExtest => exact .ite (.next h.upd) (.ite (.next h.upd) (.next h.upd))
  | tapSamplePreload => exact .ite (.next h.upd) (.ite (.next h.upd) (.next h.upd))
  | tapIdcode => exact .ite (.next h.upd) (.next h.upd)
  | tapDbgStatus => exact .ite (.next h.upd) (.next h.upd)
  | tapDbgToken => exact .ite (.next h.upd) (.ite (.next h.upd) (.next h.upd))
  | tapDbgAccess => exact .ite (.next h.upd) (.ite (.next h.upd) (.next (h.upd.frame State.debugAccess_frame)))
  | tapBypass => exact .ite (.next h.upd) (.next h.upd)
  | tapReset => exact .next h.upd
  | stewardHalt => exact .ite (.ite (.next h.upd) (.next h.upd)) (.ite (.next h.upd) (.next h.upd))
  | intCntClear => exact .next (h.runCommand fun _ h => h.cmdClear)
  | corrCntClear => exact .next (h.runCommand fun _ h => h.cmdClear)
  | tailCntClear => exact .next (h.runCommand fun _ h => h.cmdClear)
  | mergeCntClear => exact .next (h.runCommand fun _ h => h.cmdClear)
  | radCntClear => exact .next (h.runCommand fun _ h => h.cmdClear)
  | eclCntClear => exact .next (h.runCommand fun _ h => h.cmdClear)
  | intgCntClear => exact .next (h.runCommand fun _ h => h.cmdClear)
  | timeCntClear => exact .next (h.runCommand fun _ h => h.cmdClear)
  | trigCntClear => exact .next (h.runCommand fun _ h => h.cmdClear)
  | outCntClear => exact .next (h.runCommand fun _ h => h.cmdClear)
  | chainCntClear => exact .next (h.runCommand fun _ h => h.cmdClear)
  | memCntClear => exact .next (h.runCommand fun _ h => h.cmdClear)
  | hpCntClear => exact .next (h.runCommand fun _ h => h.cmdClear)
  | nvCntClear => exact .next (h.runCommand fun _ h => h.cmdClear)
  | spCntClear => exact .next (h.runCommand fun _ h => h.cmdClear)
  | hkCntClear => exact .next (h.runCommand fun _ h => h.cmdClear)
  | thermCntClear => exact .next (h.runCommand fun _ h => h.cmdClear)
  | pwrCntClear => exact .next (h.runCommand fun _ h => h.cmdClear)
  | laneBlockLock => exact .ite (.next h.upd.setLane) (.next h.upd)
  | pcieLinkUp => exact .next (h.upd.frame State.linkTrain_frame)
  | d3hotExit => exact .next (h.upd.frame State.leaveD3hot_frame)
  | msixVectorUnmask => exact h.execMsixVectorUnmask
  | completionTimeout => exact h.execCompletionTimeout
  | dmaStandbyCut => exact h.execDmaStandbyCut
  | trigOutPulseStart => exact .next (h.upd.frame State.pulseBegins_frame)
  | domainRampEnd =>
    exact .ite (.next ((h.upd.frame State.rampDone_frame).frame State.entryStep_frame).modeProceed)
      (.ite (.next (h.upd.frame State.entryStep_frame).modeProceed) (.next h.upd))
  | vdetRampEnd => exact h.execVdetRampEnd
  | powerOnHours => exact .ite (.next (h.upd.frame State.bumpCounter_keeps)) (.next h.upd)
  | eraseRedone => exact h.execEraseRedone
theorem step_shaped {s : State} (h : s.Shaped) : Ans.Shaped (step s) := by
  unfold step
  split
  · exact .next (h.frame State.tick_frame)
  · exact exec_shaped _ h.upd

/-- Settles O6: every operation of the model keeps the lengths of the five lists, so every row of the instruction set does, and so does a
step. -/
theorem shapesStay : Obligations.ShapesStay := by
  unfold Obligations.ShapesStay
  intro s u hs hu
  exact State.shaped_iff_shapesOk.mp (step_shaped (State.shaped_iff_shapesOk.mpr hs) u hu)

end Sys2Proof.Machine
end

section
/-!
PROOFS. The course objects: what tells how the loads, the sets and the record writes stand (02 R69, 04 R151, 13 R454), and what the
operations leave of it that these share.
-/
namespace Sys2Proof.Machine
set_option Elab.async false

/-- BOOT_STATUS, the states of COEF_LOAD and PARAM_SAVE, of each position's set with the limit of its check, and the highest SEQ. -/
def courseKeys : List Nat :=
  [Obj.BOOT_STATUS, Obj.OP_STATE 0, Obj.OP_STATE 3, Obj.CORR_COEF_STATE 0, Obj.CORR_COEF_STATE 1, Obj.CORR_COEF_STATE 2,
    Obj.CORR_COEF_STATE 3, Obj.CORR_CHK_LIMIT 0, Obj.CORR_CHK_LIMIT 1, Obj.CORR_CHK_LIMIT 2, Obj.CORR_CHK_LIMIT 3, Obj.NV_STORE_SEQ]

theorem courseKeys_le : ∀ k ∈ courseKeys, k ≤ Obj.NV_STORE_SEQ := by decide

theorem Obj.CORR_COEF_STATE_course (p : Pos) : Obj.CORR_COEF_STATE p.val ∈ courseKeys := by revert p; decide
theorem Obj.CORR_CHK_LIMIT_course (p : Pos) : Obj.CORR_CHK_LIMIT p.val ∈ courseKeys := by revert p; decide

/-- The object lies below every array that an entry to SAFE writes. -/
abbrev lowKey (k : Nat) : Prop := k ≤ Obj.CORR_CHK_LIMIT 3

theorem Obj.CORR_COEF_STATE_low (p : Pos) : lowKey (Obj.CORR_COEF_STATE p.val) := by revert p; decide

/-- The course object `k` reads as `x`. -/
structure State.Tells (k : Nat) (x : Int) (s : State) : Prop where
  key : k ∈ courseKeys
  val : s.oi k = x

/-- A course object that is written, in a dictionary in its canonical form. -/
theorem State.setO_tells {s : State} (c : s.Canonical) {k : Nat} (x : Int) (hk : k ∈ courseKeys := by decide) : (s.setO k x).Tells k x :=
  ⟨hk, State.oi_setO_same c.od k x⟩

theorem State.tells_self (s : State) {k : Nat} (hk : k ∈ courseKeys := by decide) : s.Tells k (s.oi k) := ⟨hk, rfl⟩

namespace State.Tells

variable {s u : State} {k j : Nat} {x y : Int} {p : Pos}

theorem o (h : s.Tells k x) : s.o k = x.toNat := congrArg Int.toNat h.val
theorem of_od (h : s.Tells k x) (e : u.od = s.od) : u.Tells k x := ⟨h.key, (State.oi_eq_of_od e k).trans h.val⟩

/-- An operation whose frame law leaves the dictionary. -/
theorem frame {l : List Part} (h : s.Tells k x) (f : s.keeps l u) (hl : Part.od ∉ l := by decide) : u.Tells k x := h.of_od (f.od hl)

/-- A record update that leaves the dictionary. -/
theorem upd {out doms modes ops chain nv lanes aligned intake link pipe coef vdet ecl trigOut taps mem dma hk pwr dbg free}
    (h : s.Tells k x) : State.Tells k x { s with
      out, doms, modes, ops, chain, nv, lanes, aligned, intake, link, pipe, coef, vdet, ecl, trigOut, taps, mem, dma, hk, pwr, dbg, free } :=
  ⟨h.key, h.val⟩

theorem ite {c : Prop} [Decidable c] {a b : State} (ha : a.Tells k x) (hb : b.Tells k x) : (if c then a else b).Tells k x := by
  split
  · exact ha
  · exact hb

theorem foldl_mem {α : Type} {f : State → α → State} {l : List α} (h : s.Tells k x)
    (hf : ∀ s, ∀ a ∈ l, s.Tells k x → (f s a).Tells k x) : (l.foldl f s).Tells k x := by
  induction l generalizing s with
  | nil => exact h
  | cons a l ih => exact ih (hf s a List.mem_cons_self h) fun s b hb => hf s b (List.mem_cons_of_mem a hb)

theorem foldl {α : Type} {f : State → α → State} {l : List α} (h : s.Tells k x)
    (hf : ∀ s a, s.Tells k x → (f s a).Tells k x) : (l.foldl f s).Tells k x := h.foldl_mem fun s a _ => hf s a

/-! ### Writes of other objects -/

theorem setO_of_ne (h : s.Tells k x) (hj : k ≠ j) : (s.setO j y).Tells k x := ⟨h.key, (State.oi_setO_of_ne s y hj).trans h.val⟩

theorem setO (h : s.Tells k x) (hj : j ∉ courseKeys := by decide) : (s.setO j y).Tells k x := h.setO_of_ne (ne_of_mem_of_not_mem h.key hj)

theorem setOs {l : List (Nat × Int)} (h : s.Tells k x) (hl : ∀ c ∈ l, c.1 ∉ courseKeys) : (s.setOs l).Tells k x :=
  h.foldl_mem fun _ c hc h => h.setO (hl c hc)

/-- A write of the object that a position has of its own. -/
theorem setPos {base : Nat} (h : s.Tells k x) (hb : ∀ q : Pos, base + 1 * q.val ∉ courseKeys := by decide) :
    (s.setO (base + 1 * p.val) y).Tells k x := h.setO (hb p)

/-- A write of the object that each of two ports has of its own. -/
theorem setPort {base m : Nat} {b : Bool} (h : s.Tells k x) (hb : ∀ b : Bool, base + m * b2n b ∉ courseKeys := by decide) :
    (s.setO (base + m * b2n b) y).Tells k x := h.setO (hb b)

/-- A write of a member of an array behind the course objects. -/
theorem setArray {base n : Nat} (h : s.Tells k x) (hb : Obj.NV_STORE_SEQ < base := by decide) : (s.setO (base + n) y).Tells k x :=
  h.setO_of_ne (Nat.ne_of_lt (Nat.lt_add_right n (Nat.lt_of_le_of_lt (courseKeys_le k h.key) hb)))

/-- A write of a member of an array above a low object. -/
theorem setAbove {base n : Nat} (h : s.Tells k x) (low : lowKey k) (hb : Obj.CORR_CHK_LIMIT 3 < base := by decide) :
    (s.setO (base + n) y).Tells k x :=
  h.setO_of_ne (Nat.ne_of_lt (Nat.lt_add_right n (Nat.lt_of_le_of_lt low hb)))

theorem inc (h : s.Tells k x) (hj : j ∉ courseKeys := by decide) : (s.inc j).Tells k x := h.setO hj

theorem incPos {base : Nat} (h : s.Tells k x) (hb : ∀ q : Pos, base + 1 * q.val ∉ courseKeys := by decide) :
    (s.inc (base + 1 * p.val)).Tells k x := h.setPos hb

theorem incPort {base m : Nat} {b : Bool} (h : s.Tells k x) (hb : ∀ b : Bool, base + m * b2n b ∉ courseKeys := by decide) :
    (s.inc (base + m * b2n b)).Tells k x := h.setPort hb

theorem incAbove {base n : Nat} (h : s.Tells k x) (low : lowKey k) (hb : Obj.CORR_CHK_LIMIT 3 < base := by decide) :
    (s.inc (base + n)).Tells k x := h.setAbove low hb

/-! ### The log and the keep array -/

theorem logRoom (h : s.Tells k x) : s.logRoom.Tells k x := .ite h h.upd.inc
theorem logStore {b : List Byte} (h : s.Tells k x) : (s.logStore b).Tells k x := h.upd.setO

theorem logAdd {code pos source detail : Nat} {data : List Byte} (h : s.Tells k x) :
    (s.logAdd code pos source detail data).Tells k x := h.logRoom.logStore.frame State.logLimit_keeps

theorem logRaw {code pos source detail : Nat} {data : List Byte} (h : s.Tells k x) :
    (s.logRaw code pos source detail data).Tells k x := .ite h h.logAdd

theorem log {code pos : Nat} {fs : List (Nat × Nat)} (h : s.Tells k x) : (s.log code pos fs).Tells k x := h.logRaw

theorem logEvt {e : Evt} {pos detail : Nat} {fs : List (Nat × Nat)} (h : s.Tells k x) : (s.logEvt e pos detail fs).Tells k x := h.logRaw
theorem nvFailed {a : Nat} (h : s.Tells k x) : (s.nvFailed a).Tells k x := h.upd.logEvt
theorem setKeep {a : Nat} {bs : List Byte} (h : s.Tells k x) : (s.setKeep a bs).Tells k x := .ite h.upd.nvFailed h.upd

theorem notifySend {code pos : Nat} {fs : List (Nat × Nat)} (h : s.Tells k x) : (s.notifySend code pos fs).Tells k x := .ite h.inc h.upd

theorem notifyCause {code pos : Nat} {fs : List (Nat × Nat)} (h : s.Tells k x) : (s.notifyCause code pos fs).Tells k x :=
  .ite h (notifySend ((h.logAdd.frame State.raise_keeps).setO.frame State.notifyWindow_keeps))

/-! ### Domains and the flash supply -/

theorem wantOn {d : Nat} (h : s.Tells k x) : (s.wantOn d).Tells k x := .ite h.upd (.ite h h.upd.setArray)
theorem domCut {d : Nat} (h : s.Tells k x) : (s.domCut d).Tells k x := .ite h.upd.setArray.upd h.upd.setArray
theorem wantOff {d : Nat} (h : s.Tells k x) : (s.wantOff d).Tells k x := .ite h (.ite h.upd (.ite h.upd h.domCut))
theorem demand {d : Nat} (h : s.Tells k x) : (s.demand d).Tells k x := .ite h h.wantOn
theorem flashRelax (h : s.Tells k x) : s.flashRelax.Tells k x := .ite h (.wantOff (.ite h.demand h.wantOff))

theorem flashStart {dev a len : Nat} (h : s.Tells k x) : (s.flashStart dev a len).Tells k x :=
  upd (h.demand.demand.frame State.selectTaken_frame)

/-! ### Long operations -/

theorem opAt {i pos : Nat} (h : s.Tells k x) (hi : i < 6) : (s.opAt i pos).Tells k x :=
  .setO (.setO h ((by decide : ∀ i < 6, Obj.OP_POSITION i ∉ courseKeys) i hi)) ((by decide : ∀ i < 6, Obj.OP_PERCENT i ∉ courseKeys) i hi)

/-- The end of another operation. -/
theorem opEnd {i st result : Nat} (h : s.Tells k x) (hi : i < 6) (other : k ≠ Obj.OP_STATE i) : (s.opEnd i st result).Tells k x := by
  have before : (if st = 2 then s.opAt i (s.o (Obj.OP_TOTAL i)) else s).Tells k x := .ite (h.opAt hi) h
  exact .frame ((before.setO_of_ne other).setO ((by decide : ∀ i < 6, Obj.OP_RESULT i ∉ courseKeys) i hi)) State.raise_keeps

end State.Tells

/-- An operation that ends has the state that it ends in. -/
theorem State.opEnd_tells {s : State} (c : s.Canonical) {i : Nat} (st result : Nat) (hi : i = 0 ∨ i = 3) :
    (s.opEnd i st result).Tells (Obj.OP_STATE i) st := by
  have key : Obj.OP_STATE i ∈ courseKeys := by rcases hi with rfl | rfl <;> decide
  have result_ : Obj.OP_RESULT i ∉ courseKeys := by rcases hi with rfl | rfl <;> decide
  have before : (if st = 2 then s.opAt i (s.o (Obj.OP_TOTAL i)) else s).Canonical := .ite c.opAt c
  exact ((State.setO_tells before _ key).setO result_).frame State.raise_keeps

/-- An operation that starts runs. -/
theorem State.opStart_tells {s : State} (c : s.Canonical) {i : Nat} (total : Nat) (hi : i = 0 ∨ i = 3) :
    (s.opStart i total).Tells (Obj.OP_STATE i) 1 := by
  have key : Obj.OP_STATE i ∈ courseKeys := by rcases hi with rfl | rfl <;> decide
  refine State.Tells.frame (State.Tells.setOs (l := [_, _, _, _]) (State.setO_tells c 1 key) ?_) State.raise_keeps
  rcases hi with rfl | rfl <;> simp only [List.forall_mem_cons] <;> decide

end Sys2Proof.Machine
end

section
/-!
PROOFS. The entry to SAFE leaves the low course objects (02 R56), and a load that has ended badly stays so through it (04 R157, R161).
-/
namespace Sys2Proof.Machine
set_option Elab.async false

namespace State.Tells

variable {s u : State} {k : Nat} {x : Int} {p : Pos}

/-! ### Rails and bias -/

theorem railCut {d : Nat} (h : s.Tells k x) : (s.railCut d).Tells k x := .ite h.domCut.upd (.ite h.upd h.upd)
theorem railOff (h : s.Tells k x) : (s.railOff p).Tells k x := .ite h.railCut.upd h.railCut.railCut
theorem vdetRamp {code : Nat} (h : s.Tells k x) : (s.vdetRamp p code).Tells k x := h.upd.setPos
theorem heldDown (h : s.Tells k x) : s.heldDown.Tells k x := h.foldl fun _ _ h => .ite h.railOff h
theorem vdetDown (h : s.Tells k x) : s.vdetDown.Tells k x := h.foldl fun _ _ h => .ite h.vdetRamp h
theorem railsDown (h : s.Tells k x) : s.railsDown.Tells k x := h.foldl fun _ _ h => .ite h.railOff h

/-! ### Outputs and channels -/

theorem cutSlot {r i : Nat} (h : s.Tells k x) : (s.cutSlot r i).Tells k x := by
  unfold State.cutSlot
  refine h.foldl fun s b h => ?_
  split
  exacts [.ite (h.frame State.setOutPort_frame).incPort h, h]

theorem discardSlot {why : Discard} {r i : Nat} (h : s.Tells k x) (low : lowKey k) : (s.discardSlot why r i).Tells k x := by
  have counted : ∀ (s : State) (b : Nat), s.Tells k x → (s.inc (why.counter b)).Tells k x := by
    cases why <;> exact fun _ _ h => h.incAbove low
  unfold State.discardSlot
  extract_lets _ s1
  have h1 : s1.Tells k x := .ite (h.frame State.dmaDiscard_frame) h
  exact .ite h (.frame (.ite h1.cutSlot (counted _ _ h1)) State.release_frame)

theorem discardMode (h : s.Tells k x) (low : lowKey k) : s.discardMode.Tells k x := h.foldl fun _ _ h => .ite (h.discardSlot low) h

theorem portOff {b : Bool} (h : s.Tells k x) : (s.portOff b).Tells k x := by
  have held : (s.stopHold b).Tells k x := by
    unfold State.stopHold
    extract_lets
    split
    exacts [h, h.setPort.frame State.setOutPort_frame]
  exact held.frame State.setOutPort_frame

theorem endDesc {c : Nat} (h : s.Tells k x) (low : lowKey k) : (s.endDesc c).Tells k x := by
  unfold State.endDesc
  split
  · exact h
  · extract_lets _ _ _ _ _ _ _ _ s1
    have h0 := (h.frame (State.readBack_frame (c := c) (x := ‹_›))).frame (State.dropHold_frame (c := c))
    have h1 : s1.Tells k x := .ite (((h0.upd.incAbove low).setAbove low).incAbove low) ((h0.upd.incAbove low).setAbove low)
    exact .ite (h1.frame State.raise_keeps) h1

theorem dmaSafe (h : s.Tells k x) (low : lowKey k) : s.dmaSafe.Tells k x := by
  unfold State.dmaSafe
  refine h.foldl fun s _ h => ?_
  split
  exacts [h.upd.endDesc low, .ite ((h.setAbove low).frame State.raise_keeps) h]

theorem domainsOff {but : List Nat} (h : s.Tells k x) (low : lowKey k) : (s.domainsOff but).Tells k x :=
  .flashRelax (.upd ((h.discardMode low).portOff.portOff.foldl fun _ _ h => .ite h h.wantOff))

theorem modeProceed (h : s.Tells k x) (low : lowKey k) : s.modeProceed.Tells k x := by
  unfold State.modeProceed
  extract_lets _ s1 _ s2
  have h1 : s1.Tells k x := h.heldDown.vdetDown.railsDown
  have h2 : s2.Tells k x := h.heldDown.vdetDown.railsDown
  split
  · refine .ite (.ite h.heldDown (.ite (h1.domainsOff low) h1)) ?_
    exact .ite (.ite h.heldDown.vdetDown (.ite (h2.domainsOff low) h2)) h.heldDown
  · exact h.heldDown

/-! ### Records, modes and frames -/

theorem recordTxn {r : TxnRec} (h : s.Tells k x) : (s.recordTxn r).Tells k x := by
  have latest : ∀ s : State, s.Tells k x → (s.setLatest r).Tells k x := fun _ h => h.setOs (by
    simp only [List.forall_mem_cons]
    decide)
  exact .ite (latest _ h) (.ite h.upd (latest _ h.upd))

theorem cancelArmed {reason : Nat} (h : s.Tells k x) : (s.cancelArmed reason).Tells k x := by
  unfold State.cancelArmed
  split
  exacts [h, h.upd.recordTxn.frame State.report_frame]

theorem supersede {reason : Nat} (h : s.Tells k x) : (s.supersede reason).Tells k x := by
  unfold State.supersede
  split
  · exact h
  · exact .ite (h.upd.foldl fun _ _ h => h.recordTxn.frame State.report_frame) (h.upd.recordTxn.frame State.report_frame)

theorem showLoads (h : s.Tells k x) : s.showLoads.Tells k x := by
  refine .foldl (h.setOs ?_) fun _ _ h => h.setPos
  simp only [List.mem_append, List.mem_map]
  rintro _ ((⟨b, hb, rfl⟩ | ⟨b, hb, rfl⟩) | ⟨g, hg, rfl⟩)
  · exact (by decide : ∀ b ∈ List.range 2, Obj.OUT_LOAD b ∉ courseKeys) b hb
  · exact (by decide : ∀ b ∈ List.range 8, Obj.TAP_LOAD b ∉ courseKeys) b hb
  · exact (by decide : ∀ g ∈ List.range 4, Obj.MSL_GROUP_LOAD g ∉ courseKeys) g hg

theorem putMode {target txn since : Nat} (h : s.Tells k x) : (s.putMode target txn since).Tells k x := h.upd.setO.showLoads
theorem endSlave (h : s.Tells k x) : s.endSlave.Tells k x := .ite h.setO h
theorem dropAllFrames (h : s.Tells k x) : s.dropAllFrames.Tells k x := .upd (h.foldl fun _ _ h => .upd (.upd (.ite h.setPos h)))

theorem runSafe {frm txn act source lo : Nat} (h : s.Tells k x) : (s.runSafe frm txn act source lo).Tells k x := by
  unfold State.runSafe
  split
  exacts [.ite h.upd h.upd, h.upd]

end State.Tells

/-! ### A load that has ended badly -/

/-- The load has FAILED, no load runs, and the set of the position is INVALID. -/
structure State.LoadEnded (p : Pos) (s : State) : Prop where
  canonical : s.Canonical
  state : s.Tells (Obj.OP_STATE 0) 3
  set : s.Tells (Obj.CORR_COEF_STATE p.val) 4
  gone : s.ops.load = none

namespace State.LoadEnded

variable {s u : State} {p q : Pos}

theorem ite {c : Prop} [Decidable c] {a b : State} (ha : a.LoadEnded p) (hb : b.LoadEnded p) : (if c then a else b).LoadEnded p := by
  split
  · exact ha
  · exact hb

theorem foldl_mem {α : Type} {f : State → α → State} {l : List α} (h : s.LoadEnded p)
    (hf : ∀ s, ∀ a ∈ l, s.LoadEnded p → (f s a).LoadEnded p) : (l.foldl f s).LoadEnded p := by
  induction l generalizing s with
  | nil => exact h
  | cons a l ih => exact ih (hf s a List.mem_cons_self h) fun s b hb => hf s b (List.mem_cons_of_mem a hb)

/-- An operation that leaves the low course objects and the running operations. -/
theorem through (h : s.LoadEnded p) (c : u.Canonical) (tells : ∀ {k x}, lowKey k → s.Tells k x → u.Tells k x)
    (ops : u.ops.load = s.ops.load) : u.LoadEnded p :=
  ⟨c, tells (by decide) h.state, tells (Obj.CORR_COEF_STATE_low p) h.set, ops.trans h.gone⟩

theorem idle (h : s.LoadEnded p) : s.opRunning 0 = false := by rw [State.opRunning, h.state.o]; rfl

/-- The end of another operation. -/
theorem opEnd {i st result : Nat} (h : s.LoadEnded p) (hi : i < 6) (other : i ≠ 0) : (s.opEnd i st result).LoadEnded p := by
  have apart : Obj.OP_STATE 0 ≠ Obj.OP_STATE i := by simp only [Obj.OP_STATE]; omega
  have set : Obj.CORR_COEF_STATE p.val ≠ Obj.OP_STATE i := by simp only [Obj.OP_STATE, Obj.CORR_COEF_STATE]; omega
  exact ⟨h.canonical.opEnd, h.state.opEnd hi apart, h.set.opEnd hi set, (congrArg OpsSt.load (State.opEnd_frame.ops (by decide))).trans h.gone⟩

/-- No load runs that could be aborted. -/
theorem abortOp {i : Nat} (h : s.LoadEnded p) (hi : i < 6) : (s.abortOp i).LoadEnded p := by
  unfold State.abortOp
  split
  · exact h
  · next runs =>
    have other : i ≠ 0 := by
      rintro rfl
      exact runs (by rw [h.idle]; rfl)
    split
    · exact absurd rfl other
    · have done := h.opEnd (st := 4) (result := Abort.state) hi other
      exact done.through (done.canonical.frame State.slotInvalid_frame) (fun _ t => t.frame State.slotInvalid_frame)
        (congrArg OpsSt.load (State.slotInvalid_frame.ops (by decide)))
    · exact opEnd (h.through h.canonical.upd (fun _ t => t.upd) rfl) hi other
    · exact opEnd (h.through h.canonical.upd (fun _ t => t.upd) rfl) hi other
    · exact h.opEnd hi other

theorem abortOps {mode : Nat} (h : s.LoadEnded p) : (s.abortOps mode).LoadEnded p :=
  foldl_mem (.ite h (h.through h.canonical.upd (fun _ t => t.upd) rfl)) fun _ i hi h =>
    .ite h (h.abortOp ((by decide : ∀ i ∈ ([0, 1, 2, 3, 4, 5] : List Nat), i < 6) i hi))

/-- A set that becomes INVALID. -/
theorem invalid (h : s.LoadEnded p) : (s.setO (Obj.CORR_COEF_STATE q.val) 4).LoadEnded p := by
  refine ⟨h.canonical.setO, h.state.setO_of_ne ?_, ?_, h.gone⟩
  · simp only [Obj.OP_STATE, Obj.CORR_COEF_STATE]
    omega
  · by_cases same : q = p
    · subst same
      exact State.setO_tells h.canonical 4 (Obj.CORR_COEF_STATE_course q)
    · refine h.set.setO_of_ne fun e => same (Fin.ext ?_)
      simp only [Obj.CORR_COEF_STATE] at e
      omega

/-- What the end of an imaging mode is to the eclipse and to the set of a position. -/
theorem leavePos (h : s.LoadEnded p) :
    (((s.eclModeEnd q true).coefInvalidate q).setO (Obj.PREP_STATE q.val) 0).LoadEnded p := by
  have ended : (s.eclModeEnd q true).LoadEnded p := by
    unfold State.eclModeEnd
    extract_lets _ _ _ s1 _ s2
    have rested := h.through (u := (s.dropPulses q (fun _ => true)).setEcl q { s.ecl.get q with retryAt := none }) h.canonical.upd
      (fun _ t => t.of_od rfl) rfl
    have h1 : s1.LoadEnded p := .ite (rested.invalid.through rested.invalid.canonical.upd (fun _ t => t.upd) rfl) rested
    have h2 : s2.LoadEnded p := .ite (h1.through h1.canonical.upd (fun _ t => t.upd) rfl) h1
    refine .ite h2 (h2.through ?_ (fun _ t => ?_) rfl)
    · exact .upd (.setPhase (.eclIdle (.inc (.setO h2.canonical))))
    · exact .upd (.setPos (.setPos (.upd t.setPos.incPos)))
  have set : ((s.eclModeEnd q true).coefInvalidate q).LoadEnded p := .ite ended.invalid ended
  exact set.through set.canonical.setO (fun _ t => t.setPos) rfl

theorem leaveImaging (h : s.LoadEnded p) : (s.leaveImaging 5).LoadEnded p := by
  have slave : s.dropWindows.endSlave.LoadEnded p :=
    h.through (h.canonical.frame State.dropWindows_frame).endSlave (fun _ t => (t.frame State.dropWindows_frame).endSlave)
      (congrArg OpsSt.load ((State.endSlave_frame.last (L := [.od, .windows]) (by decide) (State.dropWindows_frame.mono (by decide))).ops
        (by decide)))
  have starts := slave.abortOps (mode := 5)
  have starts : (s.dropWindows.endSlave.abortOps 5).discardAllStarts.LoadEnded p :=
    starts.through (starts.canonical.frame State.discardAllStarts_frame) (fun _ t => t.frame State.discardAllStarts_frame)
      (congrArg OpsSt.load (State.discardAllStarts_frame.ops (by decide)))
  have positions := starts.foldl_mem (l := allPos) fun _ q _ h => h.leavePos (q := q)
  exact positions.through (positions.canonical.frame State.outsLow_frame) (fun _ t => t.frame State.outsLow_frame)
    (congrArg OpsSt.load (State.outsLow_frame.ops (by decide)))

/-- What of an entry to SAFE comes before and after the end of the imaging modes leaves loads and sets. -/
theorem toSafe {txn act source hi lo : Nat} (h : s.LoadEnded p) : (s.toSafe txn act source hi lo).LoadEnded p := by
  unfold State.toSafe
  extract_lets s1 s2 frm s3 s4 s5 _ r
  have k1 : s.keeps [.emitted, .od, .modes, .chain, .host, .dbg] s1 :=
    State.cancelArmed_frame.last (by decide) (State.debugCap_frame.mono (by decide))
  have h1 : s1.LoadEnded p := h.through (.cancelArmed h.canonical.upd) (fun _ t => .cancelArmed t.upd)
    (congrArg OpsSt.load (k1.ops (by decide)))
  have h2 : s2.LoadEnded p := by
    have ended := h1.through (u := s1.supersede lo) h1.canonical.supersede (fun _ t => t.supersede)
      (congrArg OpsSt.load (State.supersede_frame.ops (by decide)))
    unfold s2
    split
    exacts [.ite h1 ended, h1]
  have left : (s2.leaveImaging 5).LoadEnded p := h2.leaveImaging
  have rest : (s2.leaveImaging 5).keeps [.emitted, .od, .modes, .chain, .nv, .lanes, .aligned, .intake, .link, .pipe, .vdet, .out0, .out1,
      .taps, .mem, .host, .dma, .rings, .hk, .pwr, .free] (((s5.recordTxn r).modeProceed).notifyCause 0x0070 0xFF [(2, s5.o Obj.SAFE_REASON)]) :=
    State.notifyCause_frame.last (by decide) (State.modeProceed_frame.last (by decide) (State.recordTxn_frame.last (by decide)
      (State.runSafe_frame.last (by decide) (State.setO_keeps.last (by decide) (State.putMode_frame.last (by decide)
        (State.discardMode_frame.last (by decide) (State.dropAllFrames_frame.last (by decide) (State.dmaSafe_frame.mono (by decide)))))))))
  have c3 : s3.Canonical := left.canonical.dmaSafe.dropAllFrames.discardMode
  refine left.through (State.Canonical.setO c3.putMode).runSafe.recordTxn.modeProceed.notifyCause (fun low t => ?_)
    (congrArg OpsSt.load (rest.ops (by decide)))
  have t3 : s3.Tells _ _ := (t.dmaSafe low).dropAllFrames.discardMode low
  exact ((State.Tells.setO t3.putMode).runSafe.recordTxn.modeProceed low).notifyCause

end State.LoadEnded

end Sys2Proof.Machine
end

section
/-!
PROOFS. A command that checks more than its level (11 R388): what it leaves when its checks pass, and when its effect refuses.
-/
namespace Sys2Proof.Machine
set_option Elab.async false

variable {s u : State} {via : Via} {key lvl t : Nat} {ok : State → Bool} {pre : State → Nat} {eff : State → Res}

/-- The path of an admitted command reaches the steward, at the level that the command needs. -/
theorem State.admits.onPath (h : s.admits via lvl t) (f : State → State) :
    (s.advance t).onPath via f = f (s.advance t) ∧ ¬ ((s.advance t).writeOf via).level via < lvl := by
  obtain ⟨reaches, level⟩ := h
  have k : (s.advance t).keeps [.od, .bar0] ((s.advance t).writeOf via) := State.writeOf_frame
  have path : (s.advance t).reaches via := reaches
  refine ⟨State.onPath_of_reaches path f, Nat.not_lt.mpr ?_⟩
  rw [State.level_same (k.sec (by decide)) (k.chain (by decide)) (k.host (by decide)) (k.time (by decide))]
  exact level

/-- Past its checks a command takes its effect on the state it finds; no expert object is meant. -/
theorem State.runCommand_ok (h : s.admits via lvl t) (basic : isExpertKey key = false) (good : ok ((s.advance t).writeOf via) = true)
    (passes : pre (s.found via t) = 0) (takes : eff (s.found via t) = .ok u) :
    s.runCommand via key t (fun s => s.cmd via key lvl (ok s) pre eff) = u := by
  have found : ((s.advance t).writeOf via).touch via = s.found via t := rfl
  rw [State.runCommand, (h.onPath _).1]
  simp only [State.cmd, State.command, if_neg (h.onPath id).2, found, good, passes, takes, ne_eq, not_true, if_false, Bool.not_true,
    Bool.false_eq_true, State.markExpert_basic _ basic]

/-- Past its checks a command whose effect refuses shows the refusal on its path. -/
theorem State.runCommand_refused {c : Nat} (h : s.admits via lvl t) (good : ok ((s.advance t).writeOf via) = true)
    (passes : pre (s.found via t) = 0) (refuses : eff (s.found via t) = .error c) :
    s.runCommand via key t (fun s => s.cmd via key lvl (ok s) pre eff) =
      (((s.advance t).writeOf via).failNoted key c).refuse via key c := by
  have found : ((s.advance t).writeOf via).touch via = s.found via t := rfl
  rw [State.runCommand, (h.onPath _).1]
  simp only [State.cmd, State.command, if_neg (h.onPath id).2, found, good, passes, refuses, ne_eq, not_true, if_false, Bool.not_true,
    Bool.false_eq_true]

/-- What a command reads before it is touched by its session. -/
theorem State.writeOf_o (s : State) (via : Via) (t : Nat) {k : Nat} (h : k ≠ Obj.OD_CNT_BAR0_DROP) :
    ((s.advance t).writeOf via).o k = s.o k := by
  rw [← s.found_o via t h, State.found, State.o_of_od (State.touch_keeps.od (by decide))]

theorem anyOf_one {v : Nat} (h : v < 256) : anyOf 1 v = true := decide_eq_true h

theorem State.found_opRunning (s : State) (via : Via) (t : Nat) {i : Nat} (h : i < 6) : (s.found via t).opRunning i = s.opRunning i := by
  rw [State.opRunning, s.found_o via t ((by decide : ∀ i < 6, Obj.OP_STATE i ≠ Obj.OD_CNT_BAR0_DROP) i h), State.opRunning]

/-- An object that each position has of its own stands as it was when a command finds it. -/
theorem State.found_pos (s : State) (via : Via) (t : Nat) {base : Nat} (p : Pos)
    (h : ∀ q : Pos, base + 1 * q.val ≠ Obj.OD_CNT_BAR0_DROP := by decide) :
    (s.found via t).o (base + 1 * p.val) = s.o (base + 1 * p.val) := s.found_o via t (h p)

theorem State.found_coefState (s : State) (via : Via) (t : Nat) (p : Pos) : (s.found via t).coefState p = s.coefState p :=
  s.found_pos via t p

theorem State.found_saving (s : State) (via : Via) (t : Nat) (p : Pos) : (s.found via t).saving p = s.saving p := by
  rw [State.saving, s.found_opRunning via t (by decide), State.found_keeps.ops (by decide), State.saving]

theorem State.found_loading (s : State) (via : Via) (t : Nat) (p : Pos) : (s.found via t).loading p = s.loading p := by
  rw [State.loading, s.found_opRunning via t (by decide), State.found_keeps.ops (by decide), State.loading]

end Sys2Proof.Machine
end

section
/-!
PROOFS. Coefficient sets on their way (04 R151 to R161, 05 R178).
-/
namespace Sys2Proof.Machine
set_option Elab.async false

variable {s u : State} {via : Via} {p : Pos} {t : Nat}

/-! ### Opening a set (04 R152) -/

/-- Whether a position is idle is a matter of the settings in force and of its set. -/
theorem State.posIdle_same (modes : u.modes = s.modes) (coef : u.coef = s.coef) (p : Pos) : u.posIdle p = s.posIdle p := by
  rw [State.posIdle, State.enabled, State.inForce, modes, coef]
  rfl

theorem State.found_posIdle (s : State) (via : Via) (t : Nat) (p : Pos) : (s.found via t).posIdle p = s.posIdle p :=
  State.posIdle_same (State.found_keeps.modes (by decide)) (State.found_keeps.coef (by decide)) p

/-- The eclipse requests that a command finds waiting are those that wait at its time. -/
theorem State.found_eclAsked (s : State) (via : Via) (t : Nat) (p : Pos) : (s.found via t).eclAsked p = (s.advance t).eclAsked p := by
  have window : (s.found via t).o Obj.BAR0_WIN_INDEX = (s.advance t).o Obj.BAR0_WIN_INDEX := s.found_o via t (by decide)
  have key : (s.found via t).barKey = (s.advance t).barKey := by
    funext a
    rw [State.barKey, window, State.barKey]
  have serial : (s.found via t).serial = (s.advance t).serial := State.found_keeps.serial (by decide)
  have asks : (s.found via t).asksEclipse p = (s.advance t).asksEclipse p := by
    funext c
    simp only [State.asksEclipse, key, serial, s.found_time via t]
  rw [State.eclAsked, asks, State.found_keeps.pending, State.eclAsked]
  rfl

/-- A set that is opened is OPEN at an idle position, and OPENING else. -/
theorem State.coefToOpen_tells (c : s.Canonical) (p : Pos) :
    (s.coefToOpen p).Tells (Obj.CORR_COEF_STATE p.val) (if s.posIdle p then 2 else 1) :=
  State.setO_tells c.upd _ (Obj.CORR_COEF_STATE_course p)

theorem State.coefToOpen_mode (s : State) (p : Pos) : (s.coefToOpen p).mode = s.mode :=
  State.o_setO_of_ne _ _ ((by decide : ∀ q : Pos, Obj.MODE ≠ Obj.CORR_COEF_STATE q.val) p)

/-- Where nothing occupies it, a set that is not open moves toward OPEN. -/
theorem State.coefOpen_ok (mode : s.mode = 1 ∨ s.mode = 2 ∨ s.mode = 4) (phase : s.o (Obj.ECL_PHASE p.val) = 0)
    (loads : s.loading p = false) (saves : s.saving p = false) (asked : s.eclAsked p = false)
    (state : s.coefState p = 0 ∨ s.coefState p = 4) : s.coefOpen p = .ok (s.coefToOpen p) := by
  rw [State.coefOpen, if_neg (not_not.mpr mode), if_neg]
  rw [asked, loads, saves]
  rintro (busy | busy | busy | busy | busy)
  · cases busy
  · exact busy phase
  · cases busy
  · cases busy
  · omega

theorem exec_corrCoefOpen (admitted : s.admits via 2 t) (opens : (s.found via t).coefOpen p = .ok u) :
    exec (.corrCoefOpen via p t) s = .next u :=
  congrArg Host.Outcome.next (State.runCommand_ok (ok := fun _ => anyOf 1 0) (pre := noPre) (eff := fun s => s.coefOpen p) admitted
    ((by decide : ∀ q : Pos, isExpertKey (Obj.CORR_COEF_OPEN q.val) = false) p) rfl rfl opens)

/-! ### Closing a set (04 R154, R155) -/

theorem State.found_dmaIntoRegion (s : State) (via : Via) (t : Nat) (p : Pos) : (s.found via t).dmaIntoRegion p = s.dmaIntoRegion p := by
  simp only [State.dmaIntoRegion, State.ch, (State.found_keeps (s := s) (via := via) (t := t)).dma (by decide)]

/-- An OPEN set that nothing writes is checked. -/
theorem State.coefClose_ok (state : s.coefState p = 2) (loads : s.loading p = false) (writes : s.dmaIntoRegion p = false) :
    s.coefClose p = .ok (s.setO (Obj.CORR_COEF_STATE p.val) 3) := by
  rw [State.coefClose, if_neg (not_not.mpr state), loads, writes]
  rfl

theorem exec_corrCoefClose (admitted : s.admits via 2 t) (closes : (s.found via t).coefClose p = .ok u) :
    exec (.corrCoefClose via p t) s = .next u :=
  congrArg Host.Outcome.next (State.runCommand_ok (ok := fun _ => anyOf 1 0) (pre := noPre) (eff := fun s => s.coefClose p) admitted
    ((by decide : ∀ q : Pos, isExpertKey (Obj.CORR_COEF_CLOSE q.val) = false) p) rfl rfl closes)

namespace State.Tells

variable {k : Nat} {x : Int}

theorem expandRanges (h : s.Tells k x) : (s.expandRanges p).Tells k x := by
  have other : ∀ r ∈ List.range 4, Obj.RAD_INTERP_ERR p.val r ∉ courseKeys :=
    (by decide : ∀ q : Pos, ∀ r ∈ List.range 4, Obj.RAD_INTERP_ERR q.val r ∉ courseKeys) p
  exact .upd (h.foldl_mem fun _ r hr h => .ite (h.upd.setO (other r hr)) (h.setO (other r hr)))

theorem prepUpdate (h : s.Tells k x) : (s.prepUpdate p).Tells k x :=
  .ite h (.ite h.setPos (.ite (.ite h h.setPos) (.ite h.setPos (.ite h.setPos h.setPos))))

theorem prepAll (h : s.Tells k x) : s.prepAll.Tells k x := h.foldl fun _ _ h => h.prepUpdate

end State.Tells

/-- A set that is CLOSED, with the source of what it now holds. -/
theorem State.closed_tells (c : s.Canonical) (p : Pos) (source : Nat) :
    (s.setOs [(Obj.CORR_COEF_STATE p.val, 0), (Obj.CORR_COEF_SOURCE p.val, source)]).Tells (Obj.CORR_COEF_STATE p.val) 0 :=
  (State.setO_tells c 0 (Obj.CORR_COEF_STATE_course p)).setPos

/-- The check of a set ends CLOSED with no more failing entries than its limit admits, else INVALID. -/
theorem State.closeCheck_tells (c : s.Canonical) (p : Pos) (source : Nat) : (s.closeCheck p source).Tells (Obj.CORR_COEF_STATE p.val)
    (if s.badEntries p ≤ s.o (Obj.CORR_CHK_LIMIT p.val) then 0 else 4) := by
  have limit : s.Tells (Obj.CORR_CHK_LIMIT p.val) _ := s.tells_self (Obj.CORR_CHK_LIMIT_course p)
  unfold State.closeCheck
  extract_lets bad s1
  have c1 : s1.Canonical := (c.frame State.relabel_frame).expandRanges.incBy
  have same : s1.Tells (Obj.CORR_CHK_LIMIT p.val) _ := (limit.frame State.relabel_frame).expandRanges.setPos
  rw [show s1.o (Obj.CORR_CHK_LIMIT p.val) = s.o (Obj.CORR_CHK_LIMIT p.val) from same.o]
  split
  · exact State.closed_tells c1.upd p source
  · exact State.setO_tells c1 4 (Obj.CORR_COEF_STATE_course p)

theorem exec_coefCheckComplete (state : s.coefState p = 3) :
    exec (.coefCheckComplete p t) s = .next (((s.advance t).closeCheck p 2).prepAll) := by
  show execCoefCheckComplete p t s = _
  have now : (s.advance t).coefState p = 3 := state
  rw [execCoefCheckComplete, if_pos now]

/-! ### Loading a set (04 R160, R161) -/

theorem State.found_coefBusy (s : State) (via : Via) (t : Nat) (p : Pos) : (s.found via t).coefBusy p = s.coefBusy p := by
  rw [State.coefBusy, s.found_saving via t p, s.found_coefState via t p, s.found_pos via t p, State.coefBusy]

/-- What a load that begins leaves: COEF_LOAD runs for the key, and the set is opened. -/
theorem State.startLoad_spec (c : s.Canonical) (p : Pos) (key : Nat) : (s.startLoad p key).Tells (Obj.OP_STATE 0) 1 ∧
    (s.startLoad p key).ops.load = some (p.val, key) ∧
      (s.startLoad p key).Tells (Obj.CORR_COEF_STATE p.val) (if s.posIdle p then 2 else 1) := by
  unfold State.startLoad
  extract_lets n _ s1
  have c1 : s1.Canonical := c.upd
  have k : s1.keeps [.emitted, .od, .host] (s1.opStart 0 n) := State.opStart_frame
  refine ⟨(State.opStart_tells c1 n (.inl rfl)).upd.setO_of_ne ?_, ?_, ?_⟩
  · exact (by decide : ∀ q : Pos, Obj.OP_STATE 0 ≠ Obj.CORR_COEF_STATE q.val) p
  · rw [State.coefToOpen_frame.ops (by decide), k.ops (by decide)]
  · rw [← State.posIdle_same (u := s1.opStart 0 n) (s := s) (k.modes (by decide)) (k.coef (by decide)) p]
    exact State.coefToOpen_tells c1.opStart p

theorem exec_corrLoadGo {v : Nat} (small : v < 256) (admitted : s.admits via 2 t) (mode : s.mode = 1 ∨ s.mode = 4)
    (idle : s.opRunning 0 = false) (free : s.coefBusy p = false) (named : s.o (Obj.CORR_LOAD_KEY p.val) ≠ 0) :
    exec (.corrLoadGo via p v t) s =
      .next (((s.found via t).startLoad p (s.o (Obj.CORR_LOAD_KEY p.val))).prepUpdate p) := by
  have found : (s.found via t).mode = 1 ∨ (s.found via t).mode = 4 := by
    rwa [State.mode, s.found_o via t (by decide)]
  have key : (s.found via t).o (Obj.CORR_LOAD_KEY p.val) = s.o (Obj.CORR_LOAD_KEY p.val) := s.found_pos via t p
  have before : ((s.advance t).writeOf via).o (Obj.CORR_LOAD_KEY p.val) = s.o (Obj.CORR_LOAD_KEY p.val) :=
    s.writeOf_o via t ((by decide : ∀ q : Pos, Obj.CORR_LOAD_KEY q.val ≠ Obj.OD_CNT_BAR0_DROP) p)
  rw [← key]
  refine congrArg Host.Outcome.next (State.runCommand_ok (ok := fun s => anyOf 1 v && s.o (Obj.CORR_LOAD_KEY p.val) != 0)
    (pre := State.loadPre p) (eff := done fun s => (s.startLoad p (s.o (Obj.CORR_LOAD_KEY p.val))).prepUpdate p) admitted
    ((by decide : ∀ q : Pos, isExpertKey (Obj.CORR_LOAD_GO q.val) = false) p) ?_ ?_ rfl)
  · simp [anyOf_one small, before, named]
  · rw [State.loadPre, if_neg (not_not.mpr found), s.found_opRunning via t (by decide), s.found_coefBusy via t p, idle, free]
    rfl

/-! ### The end of a load (04 R160, R161) -/

theorem State.loadNext_nil (h : s.ops.loadQueue = []) : s.loadNext = s := by
  rw [State.loadNext, h]

theorem State.loadFailed_ops (s : State) (p : Pos) (st result : Nat) : (s.loadFailed p st result).ops = { s.ops with load := none } := by
  rw [State.loadFailed, State.setO_keeps.ops (by decide), State.opEnd_frame.ops (by decide)]
  rfl

/-- A load that fails is over, its set INVALID. -/
theorem State.loadFailed_ended (c : s.Canonical) (p : Pos) (result : Nat) : (s.loadFailed p 3 result).LoadEnded p := by
  have c1 : ({ s with ops := { s.ops with load := none } } : State).Canonical := c.upd
  have set := (State.setO_tells c1 4 (Obj.CORR_COEF_STATE_course p)).incPos (base := 0x212701) (p := p)
  refine ⟨c.loadFailed, State.Tells.setPos ?_, State.Tells.setPos (set.opEnd (by decide) ?_), ?_⟩
  · exact State.opEnd_tells c1.setO.inc 3 result (.inl rfl)
  · exact (by decide : ∀ q : Pos, Obj.CORR_COEF_STATE q.val ≠ Obj.OP_STATE 0) p
  · rw [State.loadFailed_ops]

/-- With no other load waiting, a load that ends badly ends FAILED with its set INVALID, in SAFE or not. -/
theorem State.loadEndsBadly_ended (c : s.Canonical) (waits : s.ops.loadQueue = []) (p : Pos) (result : Nat) :
    (s.loadEndsBadly p result).LoadEnded p := by
  have failed := State.loadFailed_ended c p result
  have queue : (s.loadFailed p 3 result).ops.loadQueue = [] := by rw [State.loadFailed_ops]; exact waits
  unfold State.loadEndsBadly
  exact .ite failed.toSafe (by rw [State.loadNext_nil queue]; exact failed)

/-- The outcomes of a load: DONE with the set CLOSED, or FAILED with it INVALID. -/
def State.loadOutcome (p : Pos) (u : State) : Prop :=
  u.ops.load = none ∧ ((u.coefState p = 0 ∧ u.o (Obj.OP_STATE 0) = 2) ∨ (u.coefState p = 4 ∧ u.o (Obj.OP_STATE 0) = 3))

theorem State.LoadEnded.outcome (h : u.LoadEnded p) : State.loadOutcome p u := ⟨h.gone, .inr ⟨h.set.o, h.state.o⟩⟩

/-- With no other load waiting, a load whose sections are written ends as the check of its set ends. -/
theorem State.loadCloses_outcome (c : s.Canonical) (waits : s.ops.loadQueue = []) (p : Pos) (heritage : Bool) :
    State.loadOutcome p (s.loadCloses p heritage) := by
  unfold State.loadCloses
  extract_lets s1
  have c1 : s1.Canonical := c.closeCheck.prepUpdate
  have k1 : s.keeps [.od, .doms, .coef, .mem] s1 := State.prepUpdate_frame.last (by decide) (State.closeCheck_frame.mono (by decide))
  have queue : s1.ops.loadQueue = [] := by rw [k1.ops (by decide)]; exact waits
  split
  · next closed =>
    have set : s1.Tells (Obj.CORR_COEF_STATE p.val) (s1.oi (Obj.CORR_COEF_STATE p.val)) := s1.tells_self (Obj.CORR_COEF_STATE_course p)
    generalize ended : ({ s1 with ops := { s1.ops with load := none } } : State) = s2
    have c2 : s2.Canonical := ended ▸ c1.upd
    have ops : (s2.opEnd 0 2 0).ops = { s1.ops with load := none } := by
      rw [State.opEnd_frame.ops (by decide), ← ended]
    have last : (s2.opEnd 0 2 0).loadNext = s2.opEnd 0 2 0 := State.loadNext_nil (by rw [ops]; exact queue)
    have apart := (by decide : ∀ q : Pos, Obj.CORR_COEF_STATE q.val ≠ Obj.OP_STATE 0) p
    rw [last]
    refine ⟨?_, .inl ⟨?_, (State.opEnd_tells c2 2 0 (.inl rfl)).prepAll.o⟩⟩
    · rw [State.prepAll_frame.ops (by decide), ops]
    · exact (((set.of_od (u := s2) (by rw [← ended])).opEnd (by decide) apart).prepAll.o).trans closed
  · exact (State.loadEndsBadly_ended c1 queue p _).outcome

/-- The parts that the sections of an archive are written to, and those of the COMMIT of an import. -/
def archiveParts : List Part := [.od, .doms, .nv, .coef, .gen, .mem, .rings, .free]

theorem State.importKt2c_keeps {k : List Byte} {w h : Nat} : s.keeps archiveParts (s.importKt2c k w h) := by
  unfold State.importKt2c
  extract_lets _ _ s1 _ s2 s3
  have k1 : s.keeps archiveParts s1 :=
    State.keeps_foldl (fun _ _ => State.setDram_frame.last (by decide) State.keeps_refl) State.keeps_refl
  have k2 : s.keeps archiveParts s2 := State.setOs_keeps.last (by decide) k1
  have k3 : s.keeps archiveParts s3 := State.keeps_foldl (fun _ _ => State.setPending_frame.last (by decide) State.keeps_refl) k2
  split
  · exact (State.commit_keeps ‹_›).last (by decide) k3
  · exact State.countRefused_frame.last (by decide) k3

theorem State.writeArchive_keeps {heritage : Bool} {b : List Byte} : s.keeps archiveParts (s.writeArchive p heritage b) := by
  unfold State.writeArchive
  extract_lets w h s1 s2 s3 s4 mis _ s5
  have k1 : s.keeps archiveParts s1 := by
    unfold s1
    split
    exacts [State.writePlane_frame.last (by decide) State.keeps_refl, State.keeps_refl]
  have k2 : s.keeps archiveParts s2 := State.setDom_keeps.last (by decide) (State.writePlane_frame.last (by decide)
    (State.writePlane_frame.last (by decide) k1))
  have k3 : s.keeps archiveParts s3 := by
    unfold s3
    split
    exacts [State.importKt2c_keeps.last (by decide) k2, k2]
  have k4 : s.keeps archiveParts s4 := by
    unfold s4
    split
    exacts [State.writeRad_frame.last (by decide) k3, k3]
  have k5 : s.keeps archiveParts s5 := State.setOs_keeps.last (by decide) (State.setCoef_frame.last (by decide) k4)
  exact State.keeps_ite (State.logEvt_keeps.last (by decide) k5) k5

/-- With no other load waiting, the end of a load is one of its outcomes. -/
theorem State.endLoad_outcome (c : s.Canonical) (waits : s.ops.loadQueue = []) (p : Pos) (key : Nat) :
    State.loadOutcome p (s.endLoad p key) := by
  unfold State.endLoad
  extract_lets her s1
  have c1 : s1.Canonical := c.frame State.xipRecord_frame
  have queue : s1.ops.loadQueue = [] := by rw [State.xipRecord_frame.ops (by decide)]; exact waits
  split
  · exact (State.loadEndsBadly_ended c waits p _).outcome
  · split
    · refine State.loadCloses_outcome c1.writeArchive ?_ p her
      rw [State.writeArchive_keeps.ops (by decide)]
      exact queue
    · exact (State.loadEndsBadly_ended c1 queue p _).outcome

theorem posOf_val (p : Pos) : posOf p.val = p := by revert p; decide

theorem exec_coefLoadEnd {key : Nat} (load : s.ops.load = some (p.val, key)) (runs : s.opRunning 0 = true) (state : s.coefState p = 2)
    (writes : s.dmaIntoRegion p = false) : exec (.coefLoadEnd t) s = .next ((s.advance t).endLoad p key) := by
  have now : (s.advance t).ops.load = some (p.val, key) := load
  have ready : (s.advance t).opRunning 0 = true ∧ (s.advance t).coefState p = 2 ∧ (s.advance t).dmaIntoRegion p = false :=
    ⟨runs, state, writes⟩
  show execCoefLoadEnd t s = _
  simp only [execCoefLoadEnd, now, posOf_val, if_pos ready]

/-! ### The tail history (05 R178) -/

theorem exec_tailHistReset {v : Nat} (small : v < 256) (admitted : s.admits via 1 t) : exec (.tailHistReset via p v t) s =
    .next ((s.found via t).setCoef p { (s.found via t).coef.get p with histReset := true }) :=
  congrArg Host.Outcome.next (State.runCommand_ok (ok := fun _ => anyOf 1 v) (pre := noPre)
    (eff := done fun s => s.setCoef p { s.coef.get p with histReset := true }) admitted
    ((by decide : ∀ q : Pos, isExpertKey (Obj.TAIL_HIST_RESET q.val) = false) p) (anyOf_one small) rfl rfl)

/-- Settles O26: each command by the state of the set that it writes, a check and a load by how they end. -/
theorem coefficientSets : Obligations.CoefficientSets := by
  unfold Obligations.CoefficientSets
  intro s p t sound
  have c : s.Canonical := State.canonical_iff_objectsOk.mpr sound.1
  have now : (s.advance t).Canonical := c.frame State.advance_keeps
  refine ⟨fun via admitted mode phase loads saves asked state => ?opens, fun via admitted state loads writes => ?closes,
    fun state => ⟨_, exec_coefCheckComplete state, ?checked⟩,
    fun via v small admitted mode idle free named => ⟨_, exec_corrLoadGo small admitted mode idle free named, ?load⟩,
    fun key load waits runs state writes => ⟨_, exec_coefLoadEnd load runs state writes, State.endLoad_outcome now waits p key⟩,
    fun via v small admitted => ⟨_, exec_tailHistReset small admitted, ?history⟩⟩
  case opens =>
    have found : (s.found via t).mode = s.mode := s.found_o via t (by decide)
    have opened : (s.found via t).coefOpen p = .ok ((s.found via t).coefToOpen p) := by
      refine State.coefOpen_ok ?_ ?_ ?_ ?_ ?_ ?_
      · rwa [found]
      · rwa [s.found_pos via t p]
      · rwa [s.found_loading via t p]
      · rwa [s.found_saving via t p]
      · rwa [s.found_eclAsked via t p]
      · rwa [s.found_coefState via t p]
    refine ⟨_, exec_corrCoefOpen admitted opened, ?_, (State.coefToOpen_mode _ p).trans found⟩
    have tells := (State.coefToOpen_tells (c.found via t) p).o
    rw [s.found_posIdle via t p] at tells
    rw [State.coefState, tells]
    split <;> rfl
  case closes =>
    have closed : (s.found via t).coefClose p = .ok ((s.found via t).setO (Obj.CORR_COEF_STATE p.val) 3) := by
      refine State.coefClose_ok ?_ ?_ ?_
      · rwa [s.found_coefState via t p]
      · rwa [s.found_loading via t p]
      · rwa [s.found_dmaIntoRegion via t p]
    refine ⟨_, exec_corrCoefClose admitted closed, ?_, State.found_keeps.mem (by decide)⟩
    exact (State.setO_tells (c.found via t) 3 (Obj.CORR_COEF_STATE_course p)).o
  case checked =>
    refine (State.closeCheck_tells now p 2).prepAll.o.trans ?_
    show (if (s.advance t).badEntries p ≤ s.o (Obj.CORR_CHK_LIMIT p.val) then _ else _ : Int).toNat = _
    split <;> rfl
  case load =>
    obtain ⟨state, load, set⟩ := State.startLoad_spec (c.found via t) p (s.o (Obj.CORR_LOAD_KEY p.val))
    rw [s.found_posIdle via t p] at set
    refine ⟨?_, by rw [State.prepUpdate_frame.ops (by decide), load], ?_⟩
    · rw [State.opRunning, state.prepUpdate.o]
      rfl
    · rw [State.coefState, set.prepUpdate.o]
      split <;> rfl
  case history =>
    refine ⟨congrArg CoefPos.histReset (Quad.get_set_self _ _ _), fun q hq => ?_, ?_⟩
    · rw [State.setCoef, Quad.get_set_of_ne _ _ hq, State.found_keeps.coef (by decide)]
    · exact State.found_keeps.mem (by decide)

end Sys2Proof.Machine
end

section
/-!
PROOFS. Record writes as they wait, start and end (13 R454), by what they leave of the store and of the course objects.
-/
namespace Sys2Proof.Machine
set_option Elab.async false

variable {s u : State} {x : RecJob} {k i : Nat} {y : Int}

/-! ### The journal through the log and through a device operation (13 R459) -/

theorem State.logRoom_journal (s : State) : s.logRoom.nv.journal = s.nv.journal := by
  unfold State.logRoom
  split <;> rfl

theorem State.logLimit_journal (s : State) : s.logLimit.nv.journal = s.nv.journal := by
  unfold State.logLimit State.flushLog
  split
  · dsimp only
    split <;> rfl
  · rfl

theorem State.log_journal (s : State) (code pos : Nat) (fs : List (Nat × Nat)) : (s.log code pos fs).nv.journal = s.nv.journal := by
  unfold State.log State.logRaw
  split
  · rfl
  · exact (State.logLimit_journal _).trans s.logRoom_journal

/-- A journal that is written stands, with the next GEN. -/
theorem State.setJournal_journal (s : State) (j : Journal) (rs : List Repair) :
    (s.setJournal j rs).nv.journal = some { j with gen := (j.gen + 1) % 2 ^ 32 } := by
  rw [State.setJournal, State.showStore_frame.nv (by decide)]

/-- A device operation that begins writes nothing else of the store. -/
theorem State.flashStart_nv (s : State) (dev a len : Nat) : ∃ op, (s.flashStart dev a len).nv = { s.nv with flashOp := op } := by
  have k : s.keeps [.od, .serial, .pwr] (((s.demand 62).demand 79).selectTaken dev) :=
    State.selectTaken_frame.last (by decide) (State.demand_frame.last (by decide) (State.demand_frame.mono (by decide)))
  refine ⟨some (dev, a, len, (((s.demand 62).demand 79).selectTaken dev).time.mono), ?_⟩
  rw [← k.nv (by decide)]
  rfl

/-- The next page program of a record write leaves what waits and what is being written. -/
theorem State.jobProgram_nv (s : State) : ∃ op, s.jobProgram.nv = { s.nv with flashOp := op } := by
  have same : ∀ u : State, u.nv = s.nv → ∃ op, u.nv = { s.nv with flashOp := op } := fun _ h => ⟨s.nv.flashOp, h⟩
  unfold State.jobProgram
  split
  · split
    · exact same _ rfl
    · split
      · exact same _ (State.askBus_frame.nv (by decide))
      · extract_lets
        split
        · exact s.flashStart_nv _ _ _
        · exact same _ rfl
  · exact same _ rfl

/-- The record write in progress is given up. -/
def State.jobDropped (s : State) : State := { s with nv := { s.nv with job := none } }

/-- A record write that fails ends a save that runs, reports a deletion, or ends alone (13 R454). -/
theorem State.jobFailed_cases (s : State) (x : RecJob) (code : Nat) :
    (s.opRunning 3 = true ∧
      s.jobFailed x code = ({ s.jobDropped with ops := { s.jobDropped.ops with save := none } } : State).opEnd 3 3 code) ∨
    s.jobFailed x code = s.jobDropped.emit (.abort Obj.NV_RECORD_DELETE code) ∨ s.jobFailed x code = s.jobDropped := by
  by_cases saves : (x.purpose = 0 ∨ x.purpose = 1) ∧ s.jobDropped.opRunning 3 = true
  · exact .inl ⟨saves.2, if_pos saves⟩
  · have alone : s.jobFailed x code = if x.purpose = 4 then s.jobDropped.emit (.abort Obj.NV_RECORD_DELETE code) else s.jobDropped :=
      if_neg saves
    by_cases deletes : x.purpose = 4
    · exact .inr (.inl (alone.trans (if_pos deletes)))
    · exact .inr (.inr (alone.trans (if_neg deletes)))

theorem State.jobFailed_nv (s : State) (x : RecJob) (code : Nat) : (s.jobFailed x code).nv = s.jobDropped.nv := by
  rcases s.jobFailed_cases x code with ⟨-, e⟩ | e | e
  · rw [e, State.opEnd_frame.nv (by decide)]
  · rw [e]
    rfl
  · rw [e]

/-- A record taken from the queue is refused, or its write begins; the store and the archive's random draws change alone before. -/
theorem State.jobTake_cases (s : State) (x : RecJob) (rest : List RecJob) (j : Journal) :
    ∃ t, s.keeps [.nv, .sec] t ∧ t.nv.journal = s.nv.journal ∧
      ((∃ code, s.jobTake x rest j = t.jobFailed x code) ∨ s.jobTake x rest j = t.jobProgram) := by
  unfold State.jobTake
  extract_lets _ s1 seq
  have k1 : s.keeps [.nv, .sec] s1 := State.keeps_mk State.keeps_refl
  split
  · exact ⟨s1, k1, rfl, .inl ⟨_, rfl⟩⟩
  next payload _ =>
    extract_lets need
    by_cases supply : 0xFFFFFFFF ≤ seq ∨ s1.dom80 79 = 3
    · exact ⟨s1, k1, rfl, .inl ⟨_, if_pos supply⟩⟩
    by_cases full : j.free 0 < need ∨ j.free 1 < need
    · rw [if_neg supply, if_pos full]
      refine ⟨_, ?_, ?_, .inl ⟨_, rfl⟩⟩
      exacts [State.keeps_mk k1, rfl]
    · rw [if_neg supply, if_neg full]
      refine ⟨_, ?_, ?_, .inr rfl⟩
      exacts [State.keeps_mk k1, rfl]

theorem State.jobTake_journal (s : State) (x : RecJob) (rest : List RecJob) (j : Journal) :
    (s.jobTake x rest j).nv.journal = s.nv.journal := by
  obtain ⟨t, -, same, ⟨code, e⟩ | e⟩ := s.jobTake_cases x rest j
  · rw [e, State.jobFailed_nv, ← same]
    rfl
  · obtain ⟨op, nv⟩ := t.jobProgram_nv
    rw [e, nv, ← same]

theorem State.nvKick_journal (s : State) : s.nvKick.nv.journal = s.nv.journal := by
  unfold State.nvKick
  split
  · rfl
  · split
    · obtain ⟨op, nv⟩ := s.jobProgram_nv
      rw [nv]
    · exact s.jobTake_journal _ _ _
    · rfl

/-- What a record write served writes the journal only where it was a repair, and leaves its heads (13 R458). -/
theorem State.jobServed_heads {j : Journal} (h : s.nv.journal = some j) (x : RecJob) :
    ∃ k, (s.jobServed x).nv.journal = some k ∧ k.head = j.head := by
  have saved : ∃ k, (if s.opRunning 3 then ({ s with ops := { s.ops with save := none } } : State).opEnd 3 2 0 else s).nv.journal =
      some k ∧ k.head = j.head := by
    split
    · exact ⟨j, (congrArg NvSt.journal (State.opEnd_frame.nv (by decide))).trans h, rfl⟩
    · exact ⟨j, h, rfl⟩
  unfold State.jobServed
  split
  · exact saved
  · exact saved
  · exact ⟨j, h, rfl⟩
  · have repaired : s.repairDone = s.setJournal j (s.nv.repairs.drop 1) := by rw [State.repairDone, h]
    refine ⟨{ j with gen := (j.gen + 1) % 2 ^ 32 }, (State.log_journal _ _ _ _).trans (?_ : s.repairDone.nv.journal = _), rfl⟩
    rw [repaired, State.setJournal_journal]
  · exact ⟨j, h, rfl⟩

/-! ### The course objects -/

namespace State.Tells

theorem showStore (h : s.Tells k y) : s.showStore.Tells k y := by
  unfold State.showStore
  split
  · exact h.setO.setO.setO.setO
  · exact setO (setO (setO (h.setO (j := Obj.NV_STORE_SIZE 0)) (j := Obj.NV_STORE_FREE 0)) (j := Obj.NV_STORE_SIZE 1))
      (j := Obj.NV_STORE_FREE 1)

theorem setJournal {j : Journal} {rs : List Repair} (h : s.Tells k y) : (s.setJournal j rs).Tells k y := by
  unfold State.setJournal
  extract_lets
  exact showStore h.setKeep.upd

theorem updJournal {f : Journal → Journal} (h : s.Tells k y) : (s.updJournal f).Tells k y := by
  unfold State.updJournal
  split
  exacts [h.setJournal, h]

theorem repairDone (h : s.Tells k y) : s.repairDone.Tells k y := by
  unfold State.repairDone
  split
  exacts [h.setJournal, h]

theorem jobProgram (h : s.Tells k y) : s.jobProgram.Tells k y := by
  unfold State.jobProgram
  split
  · extract_lets
    refine .ite h (.ite (h.frame State.askBus_frame) ?_)
    split
    exacts [h.flashStart, h]
  · exact h

/-- A record write that fails tells so in PARAM_SAVE alone, and only while one runs. -/
theorem jobFailed {code : Nat} (h : s.Tells k y) (apart : k ≠ Obj.OP_STATE 3 ∨ s.opRunning 3 = false) :
    (s.jobFailed x code).Tells k y := by
  have dropped : s.jobDropped.Tells k y := h.of_od rfl
  rcases s.jobFailed_cases x code with ⟨runs, e⟩ | e | e
  · rw [e]
    exact opEnd (dropped.of_od rfl) (by decide) (apart.resolve_right fun idle => Bool.false_ne_true (idle.symm.trans runs))
  · exact e ▸ dropped.frame State.emit_keeps
  · exact e ▸ dropped

theorem jobTake {rest : List RecJob} {j : Journal} (h : s.Tells k y) (apart : k ≠ Obj.OP_STATE 3 ∨ s.opRunning 3 = false) :
    (s.jobTake x rest j).Tells k y := by
  obtain ⟨t, taken, -, ⟨code, e⟩ | e⟩ := s.jobTake_cases x rest j
  · rw [e]
    refine (h.frame taken).jobFailed (apart.imp_right fun idle => ?_)
    rwa [State.opRunning, State.o_of_od (taken.od (by decide))]
  · exact e ▸ (h.frame taken).jobProgram

theorem nvKick (h : s.Tells k y) (apart : k ≠ Obj.OP_STATE 3 ∨ s.opRunning 3 = false) : s.nvKick.Tells k y := by
  unfold State.nvKick
  refine .ite h ?_
  split
  exacts [h.jobProgram, h.jobTake apart, h]

/-- What a record write served tells in PARAM_SAVE alone. -/
theorem jobServed (h : s.Tells k y) (other : k ≠ Obj.OP_STATE 3) : (s.jobServed x).Tells k y := by
  unfold State.jobServed
  split
  exacts [.ite (h.upd.opEnd (by decide) other) h, .ite (h.upd.opEnd (by decide) other) h, h.upd, h.repairDone.inc.log, h]

end State.Tells

/-! ### A save on its way (13 R464, 04 R162) -/

/-- PARAM_SAVE runs for the save, or has FAILED. -/
def State.saveStands (save : Option (Nat × Nat × Nat)) (u : State) : Prop :=
  (u.Tells (Obj.OP_STATE 3) 1 ∧ u.ops.save = save) ∨ u.Tells (Obj.OP_STATE 3) 3

theorem State.jobFailed_save (c : s.Canonical) (runs : s.Tells (Obj.OP_STATE 3) 1) (x : RecJob) (code : Nat) :
    State.saveStands s.ops.save (s.jobFailed x code) := by
  rcases s.jobFailed_cases x code with ⟨-, e⟩ | e | e
  · have canonical : State.Canonical { s.jobDropped with ops := { s.jobDropped.ops with save := none } } := c.upd
    exact .inr (e ▸ State.opEnd_tells canonical 3 code (.inr rfl))
  · exact .inl ⟨e ▸ State.Tells.frame (s := s.jobDropped) (runs.of_od rfl) State.emit_keeps, by rw [e]; rfl⟩
  · exact .inl ⟨e ▸ runs.of_od rfl, by rw [e]; rfl⟩

theorem State.jobTake_save (c : s.Canonical) (runs : s.Tells (Obj.OP_STATE 3) 1) (x : RecJob) (rest : List RecJob) (j : Journal) :
    State.saveStands s.ops.save (s.jobTake x rest j) := by
  obtain ⟨t, taken, -, ⟨code, e⟩ | e⟩ := s.jobTake_cases x rest j
  · rw [e, ← taken.ops (by decide)]
    exact State.jobFailed_save (c.frame taken) (runs.frame taken) x code
  · rw [e, ← taken.ops (by decide)]
    exact .inl ⟨(runs.frame taken).jobProgram, congrArg OpsSt.save (State.jobProgram_frame.ops (by decide))⟩

theorem State.nvKick_save (c : s.Canonical) (runs : s.Tells (Obj.OP_STATE 3) 1) : State.saveStands s.ops.save s.nvKick := by
  have stays : State.saveStands s.ops.save s := .inl ⟨runs, rfl⟩
  unfold State.nvKick
  split
  · exact stays
  · split
    · exact .inl ⟨runs.jobProgram, congrArg OpsSt.save (State.jobProgram_frame.ops (by decide))⟩
    · exact State.jobTake_save c runs _ _ _
    · exact stays

/-- While the device is busy, a record waits behind those before it. -/
theorem State.nvWrite_busy (h : s.nv.flashOp.isSome = true) (x : RecJob) :
    s.nvWrite x = { s with nv := { s.nv with queue := s.nv.queue ++ [x] } } := by
  rw [State.nvWrite, State.nvKick, if_pos (.inr (.inl h))]

/-- PARAM_SAVE of `n` bytes begins for a save. -/
def State.saveBegun (s : State) (save : Nat × Nat × Nat) (n : Nat) : State :=
  ({ s with ops := { s.ops with save := some save } } : State).opStart 3 n

theorem State.saveBegun_nv (s : State) (save : Nat × Nat × Nat) (n : Nat) : (s.saveBegun save n).nv = s.nv :=
  State.opStart_frame.nv (by decide)

/-- A save that has begun runs for its record or has FAILED; while the device is busy it runs, and its record waits. -/
theorem State.saveBegun_nvWrite (c : s.Canonical) (save : Nat × Nat × Nat) (n : Nat) (x : RecJob) :
    (((s.saveBegun save n).nvWrite x).o (Obj.OP_STATE 3) = 1 ∧ ((s.saveBegun save n).nvWrite x).ops.save = some save ∨
        ((s.saveBegun save n).nvWrite x).o (Obj.OP_STATE 3) = 3) ∧
      (s.nv.flashOp.isSome = true → ((s.saveBegun save n).nvWrite x).o (Obj.OP_STATE 3) = 1 ∧
        ((s.saveBegun save n).nvWrite x).nv.queue = s.nv.queue ++ [x]) := by
  have started : (s.saveBegun save n).Tells (Obj.OP_STATE 3) 1 := State.opStart_tells c.upd n (.inr rfl)
  have canonical : (s.saveBegun save n).Canonical := c.upd.opStart
  have ops : (s.saveBegun save n).ops.save = some save := congrArg OpsSt.save (State.opStart_frame.ops (by decide))
  refine ⟨?_, fun busy => ?_⟩
  · rw [← ops]
    exact (State.nvKick_save (s := { s.saveBegun save n with nv := _ }) canonical.upd started.upd).imp (fun h => ⟨h.1.o, h.2⟩) (·.o)
  · rw [State.nvWrite_busy (by rwa [s.saveBegun_nv save n])]
    exact ⟨started.o, by rw [s.saveBegun_nv save n]⟩

/-! ### A deletion that starts (13 R456) -/

/-- A record taken in the clear starts at the heads of both areas with the next SEQ, where supply, SEQ and room are there. -/
theorem State.jobTake_starts {j : Journal} (clear : x.seals = false)
    (supply : ¬(0xFFFFFFFF ≤ s.o Obj.NV_STORE_SEQ + 1 ∨ s.dom80 79 = 3))
    (room : ¬(j.free 0 < recTotal x.payload.length ∨ j.free 1 < recTotal x.payload.length)) (rest : List RecJob) :
    ∃ y, (s.jobTake x rest j).nv.job = some y ∧ y.key = x.key ∧ y.payload = x.payload ∧ y.seq = s.o Obj.NV_STORE_SEQ + 1 ∧
      y.priAt = j.head 0 ∧ y.secAt = j.head 1 ∧ (s.jobTake x rest j).nv.queue = rest := by
  have kept : ∀ t : State, t.sealPayload x (s.o Obj.NV_STORE_SEQ + 1) = some x.payload := fun t => by
    rw [State.sealPayload, if_neg (ne_true_of_eq_false clear)]
  unfold State.jobTake
  extract_lets _ s1 seq
  split
  · next none => exact absurd ((kept s1).symm.trans none) (Option.some_ne_none _)
  next payload same =>
    cases (kept s1).symm.trans same
    extract_lets need
    rw [if_neg (by exact supply), if_neg (by exact room)]
    obtain ⟨op, nv⟩ := State.jobProgram_nv _
    rw [nv]
    exact ⟨_, rfl, rfl, rfl, rfl, rfl, rfl, rfl⟩

/-- With nothing in progress, the first record in the queue that may start is taken. -/
theorem State.nvKick_takes {j : Journal} (free : ¬(s.nv.closed = true ∨ s.nv.flashOp.isSome = true ∨ s.pwr.blocked = true))
    (idle : s.nv.job = none) (journal : s.nv.journal = some j) (first : s.nv.queue.find? s.mayTake = some x) :
    s.nvKick = s.jobTake x (s.nv.queue.eraseP s.mayTake) j := by
  rw [State.nvKick, if_neg free, idle, journal, first]

/-- With nothing else in progress, a deletion starts at the heads of both areas with the next SEQ. -/
theorem State.deletion_starts {j : Journal} (store : s.storeOpen = true) (journal : s.nv.journal = some j)
    (room : ¬(j.free 0 < 48 ∨ j.free 1 < 48)) (ready : s.nv.flashOp = none) (idle : s.nv.job = none)
    (first : s.nv.queue = []) (repaired : s.nv.repairs = [])
    (powered : s.pwr.blocked = false) (key : Nat) : ∃ x, (s.nvWrite (RecJob.make key 0 [] 4 0 0)).nv.job = some x ∧ x.key = key ∧
      x.payload = [] ∧ x.seq = s.o Obj.NV_STORE_SEQ + 1 ∧ x.priAt = j.head 0 ∧ x.secAt = j.head 1 ∧
        (s.nvWrite (RecJob.make key 0 [] 4 0 0)).nv.queue = [] := by
  simp only [State.storeOpen, Bool.and_eq_true, Bool.not_eq_true', bne_iff_ne, decide_eq_true_eq] at store
  obtain ⟨⟨⟨-, opened⟩, supplied⟩, seqs⟩ := store
  let s1 : State := { s with nv := { s.nv with queue := [RecJob.make key 0 [] 4 0 0] } }
  have alone : s.nvWrite (RecJob.make key 0 [] 4 0 0) = s1.nvKick := by rw [State.nvWrite, first, List.nil_append]
  have taken : s1.mayTake (RecJob.make key 0 [] 4 0 0) = true := by simp [State.mayTake, RecJob.make, s1, repaired]
  have free : ¬(s1.nv.closed = true ∨ s1.nv.flashOp.isSome = true ∨ s1.pwr.blocked = true) := by simp [s1, opened, ready, powered]
  have starts : s1.nvKick = s1.jobTake (RecJob.make key 0 [] 4 0 0) [] j := by
    rw [State.nvKick_takes free idle journal (List.find?_cons_of_pos taken), List.eraseP_cons_of_pos taken]
  have seqLeft : ¬0xFFFFFFFF ≤ s.o Obj.NV_STORE_SEQ + 1 := by omega
  have total : recTotal (RecJob.make key 0 [] 4 0 0).payload.length = 48 := by simp [recTotal, RecJob.make]
  rw [alone, starts]
  exact State.jobTake_starts (s := s1) rfl (not_or.mpr ⟨seqLeft, supplied⟩) (by rwa [total]) []

end Sys2Proof.Machine
end

section
/-!
PROOFS. The end of a record write (13 R454), and the commands that save, delete and apply (04 R162, 13 R464, 13 R465).
-/
namespace Sys2Proof.Machine
set_option Elab.async false

variable {s u : State} {via : Via} {x : RecJob} {p : Pos} {t v key : Nat}

/-! ### The end of a record write -/

/-- A record write that is complete, before what it served: both heads stand beyond its copies, and its SEQ is the highest. -/
def State.recordStands (s : State) (x : RecJob) : State :=
  let n := recTotal x.payload.length
  let s := (s.updJournal (fun j => (j.withHead 0 (x.priAt + n)).withHead 1 (x.secAt + n))).setO Obj.NV_STORE_SEQ ((x.seq : Nat) : Int)
  { s with nv := { s.nv with job := none } }

theorem State.recordEnd_eq (job : s.nv.job = some x) (written : 4 ≤ x.phase) :
    s.recordEnd = (((s.recordStands x).jobServed x).nvKick).flashRelax := by
  rw [State.recordEnd, job]
  exact if_neg (Nat.not_lt.mpr written)

theorem State.Canonical.recordStands (c : s.Canonical) (x : RecJob) : (s.recordStands x).Canonical := .upd c.updJournal.setO

theorem State.recordStands_journal {j : Journal} (journal : s.nv.journal = some j) (x : RecJob) :
    ∃ k, (s.recordStands x).nv.journal = some k ∧ k.head 0 = x.priAt + recTotal x.payload.length ∧
      k.head 1 = x.secAt + recTotal x.payload.length := by
  unfold State.recordStands
  simp only [State.setO, State.updJournal, journal, State.setJournal_journal]
  exact ⟨_, rfl, rfl, rfl⟩

/-- A save that runs is DONE when its record stands. -/
theorem State.jobServed_done (c : s.Canonical) (saves : x.purpose ≤ 1) (runs : s.opRunning 3 = true) :
    (s.jobServed x).Tells (Obj.OP_STATE 3) 2 := by
  have ended : s.jobServed x = ({ s with ops := { s.ops with save := none } } : State).opEnd 3 2 0 := by
    have which : x.purpose = 0 ∨ x.purpose = 1 := by omega
    rcases which with e | e <;> simp only [State.jobServed, e, runs, if_true]
  exact ended ▸ State.opEnd_tells (State.Canonical.upd c) 2 0 (.inr rfl)

/-- What a record write leaves when its secondary COMMIT has been read back. -/
theorem State.recordEnd_spec {j : Journal} (c : s.Canonical) (job : s.nv.job = some x) (written : 4 ≤ x.phase)
    (journal : s.nv.journal = some j) : s.recordEnd.Tells Obj.NV_STORE_SEQ x.seq ∧
      (∃ k, s.recordEnd.nv.journal = some k ∧ k.head 0 = x.priAt + recTotal x.payload.length ∧
        k.head 1 = x.secAt + recTotal x.payload.length) ∧
      (x.purpose ≤ 1 → s.opRunning 3 = true → s.recordEnd.Tells (Obj.OP_STATE 3) 2) := by
  have canonical := c.recordStands x
  rw [State.recordEnd_eq job written]
  refine ⟨?seq, ?heads, fun saves runs => ?done⟩
  case seq =>
    have stands : (s.recordStands x).Tells Obj.NV_STORE_SEQ x.seq := .upd (State.setO_tells c.updJournal _)
    exact ((stands.jobServed (by decide)).nvKick (.inl (by decide))).flashRelax
  case heads =>
    obtain ⟨k, stands, head0, head1⟩ := State.recordStands_journal journal x
    obtain ⟨k', served, same⟩ := State.jobServed_heads stands x
    refine ⟨k', ?_, (congrFun same 0).trans head0, (congrFun same 1).trans head1⟩
    rw [State.flashRelax_frame.nv (by decide), State.nvKick_journal, served]
  case done =>
    have state : (s.recordStands x).Tells (Obj.OP_STATE 3) (s.oi (Obj.OP_STATE 3)) :=
      .upd ((s.tells_self).updJournal.setO_of_ne (by decide))
    have running : (s.recordStands x).opRunning 3 = true := by
      rw [State.opRunning, state.o]
      exact runs
    have done := State.jobServed_done canonical saves running
    refine (done.nvKick (.inr ?_)).flashRelax
    rw [State.opRunning, done.o]
    rfl

theorem exec_recordWriteEnd (opened : s.nv.closed = false) : exec (.recordWriteEnd t) s = .next (s.advance t).recordEnd :=
  if_neg (ne_true_of_eq_false opened)

/-! ### Saves (13 R464, 04 R162) -/

theorem State.found_nv (s : State) (via : Via) (t : Nat) : (s.found via t).nv = s.nv := State.found_keeps.nv (by decide)

theorem State.found_storeOpen (s : State) (via : Via) (t : Nat) : (s.found via t).storeOpen = s.storeOpen := by
  rw [State.storeOpen, State.dom80, s.found_nv via t, s.found_o via t (by decide), s.found_o via t (by decide), State.storeOpen,
    State.dom80]

/-- An operation that starts writes its own objects alone. -/
theorem State.opStart_o (c : s.Canonical) (i n : Nat) {k : Nat}
    (h : ∀ b ∈ [Obj.OP_STATE i, Obj.OP_POSITION i, Obj.OP_TOTAL i, Obj.OP_PERCENT i, Obj.OP_RESULT i], b ≠ k) :
    (s.opStart i n).o k = s.o k := by
  rw [State.opStart, State.o_of_od (State.raise_keeps.od (by decide)), State.o, State.oi_setOs_out _ _ c.od, State.o]
  exact fun b hb => h b.1 (List.mem_map_of_mem hb)

theorem State.saveSet_ok (store : s.storeOpen = true) (n : Nat) : s.saveSet n = .ok
    ((s.saveBegun (1, n, recordKey n) (s.setPayload n).length).nvWrite (RecJob.make (recordKey n) 0 (s.setPayload n) 1 0 0)) := by
  rw [State.saveSet, store]
  rfl

/-- Without archive encryption a coefficient set is saved in the clear. -/
theorem State.saveArchive_ok (c : s.Canonical) (store : s.storeOpen = true) (clear : s.ob Obj.SEC_ARCHIVE_ENC = false) (p : Pos)
    (key : Nat) : s.saveArchive p key = .ok
      ((s.saveBegun (0, p.val, key) (s.archiveBytes p).length).nvWrite (RecJob.make key 0 (s.archiveBytes p) 0 0 0)) := by
  have begun : (s.saveBegun (0, p.val, key) (s.archiveBytes p).length).ob Obj.SEC_ARCHIVE_ENC = false := by
    rw [State.ob, State.saveBegun, State.opStart_o c.upd 3 _ (by decide)]
    exact clear
  rw [State.saveArchive, store]
  unfold State.saveBegun at begun ⊢
  simp only [begun]
  rfl

theorem exec_nvSetSave (small : v ≤ 7) (admitted : s.admits via 2 t) (mode : s.mode ≠ 5) (idle : s.opRunning 3 = false)
    (saves : (s.found via t).saveSet v = .ok u) : exec (.nvSetSave via v t) s = .next u := by
  refine congrArg Host.Outcome.next (State.runCommand_ok (ok := fun _ => decide (v ≤ 7))
    (pre := fun s => if s.mode = Mode.safe then Abort.state else if s.opRunning 3 then Abort.busy else 0) (eff := State.saveSet v)
    admitted (by decide) (decide_eq_true small) ?_ saves)
  have found : (s.found via t).mode = s.mode := s.found_o via t (by decide)
  rw [found, if_neg (by exact mode), s.found_opRunning via t (by decide), idle]
  rfl

theorem exec_corrSaveGo (small : v < 256) (admitted : s.admits via 2 t) (mode : s.mode ≠ 5) (idle : s.opRunning 3 = false)
    (closed : s.coefState p = 0) (phase : s.o (Obj.ECL_PHASE p.val) = 0) (clear : s.ob Obj.SEC_ARCHIVE_ENC = false)
    (named : s.o (Obj.CORR_SAVE_KEY p.val) ≠ 0) (saves : (s.found via t).saveArchive p (s.o (Obj.CORR_SAVE_KEY p.val)) = .ok u) :
    exec (.corrSaveGo via p v t) s = .next u := by
  have key : (s.found via t).o (Obj.CORR_SAVE_KEY p.val) = s.o (Obj.CORR_SAVE_KEY p.val) := s.found_pos via t p
  have before : ((s.advance t).writeOf via).o (Obj.CORR_SAVE_KEY p.val) = s.o (Obj.CORR_SAVE_KEY p.val) :=
    s.writeOf_o via t ((by decide : ∀ q : Pos, Obj.CORR_SAVE_KEY q.val ≠ Obj.OD_CNT_BAR0_DROP) p)
  refine congrArg Host.Outcome.next (State.runCommand_ok (ok := fun s => anyOf 1 v && s.o (Obj.CORR_SAVE_KEY p.val) != 0)
    (pre := State.savePre p) (eff := fun s => s.saveArchive p (s.o (Obj.CORR_SAVE_KEY p.val))) admitted
    ((by decide : ∀ q : Pos, isExpertKey (Obj.CORR_SAVE_GO q.val) = false) p) ?_ ?_ (by rw [key]; exact saves))
  · simp [anyOf_one small, before, named]
  · have found : (s.found via t).mode = s.mode := s.found_o via t (by decide)
    have same : (s.found via t).ob Obj.SEC_ARCHIVE_ENC = false := by
      rw [State.ob, s.found_o via t (by decide)]
      exact clear
    rw [State.savePre, same, found, s.found_opRunning via t (by decide), idle, s.found_coefState via t p, closed, s.found_pos via t p,
      phase]
    exact if_neg (by rintro (safe | ⟨⟨⟩⟩); exact mode safe)

/-! ### Refusals with NV -/

/-- A refusal on BAR0 shows its code, and changes no object but those that show it. -/
theorem State.refuse_host (c : s.Canonical) (key code : Nat) : (s.refuse .host key code).o Obj.OD_LAST_ABORT = code ∧
    s.sameBut [Obj.OD_LAST_ABORT, Obj.OD_LAST_ABORT_ADDR] (s.refuse .host key code) := by
  have od : (s.refuse .host key code).od = ((s.setO Obj.OD_LAST_ABORT code).setO Obj.OD_LAST_ABORT_ADDR key).od :=
    State.raise_keeps.od (by decide)
  refine ⟨?_, ?_⟩
  · rw [State.o_of_od od, State.o_setO_of_ne _ _ (by decide), State.o_setO_nat c.od]
  · exact (((State.sameBut_setO s _ _).mono (by decide)).trans ((State.sameBut_setO _ _ _).mono (by decide))).trans (.of_od od)

/-- A refusal with NV of a command that the keep array has no home for notes nothing (13 R441). -/
theorem State.failNoted_homeless (home : s.keepHome key = none) : s.failNoted key Abort.nv = s := by
  rw [State.failNoted, if_neg (by decide), home]
  exact ite_self s

/-! ### Deletions (13 R456) -/

/-- A command that deletes the records of a key: NV_SET_DELETE or NV_RECORD_DELETE. -/
def Deletes (via : Via) (t key : Nat) (c : Instr) : Prop :=
  (∃ v, v ≤ 7 ∧ c = Instr.nvSetDelete via v t ∧ key = recordKey v) ∨ (c = .nvRecordDelete via key t ∧ keyOk key = true)

/-- Either deletion is the same command of its own object. -/
theorem exec_deletes {c : Instr} (h : Deletes via t key c) (s : State) : ∃ object, isExpertKey object = false ∧
    (∀ u : State, u.keepHome object = none) ∧
      exec c s = .next (s.runCommand via object t (fun s => s.cmd via object 2 true noPre (State.deleteKey key))) := by
  have home : ∀ k, keptAddr k = none → k ∉ [Obj.LEASE_EPOCH_CLEAR, Obj.NV_USER_DATA, Obj.SEC_ARB_COMMIT, Obj.SEC_KEY_WRITE,
      Obj.SEC_KEY_ERASE, Obj.SEC_ARCHIVE_KEY, Obj.SEC_TOKEN_KEY] → ∀ u : State, u.keepHome k = none := fun k kept other u => by
    simp only [List.mem_cons, List.not_mem_nil, or_false, not_or] at other
    simp only [State.keepHome, kept, other, or_self, if_false]
  obtain ⟨v, small, rfl, rfl⟩ | ⟨rfl, named⟩ := h
  · refine ⟨Obj.NV_SET_DELETE, by decide, home _ (by decide) (by decide), ?_⟩
    rw [← decide_eq_true small]
    rfl
  · refine ⟨Obj.NV_RECORD_DELETE, by decide, home _ (by decide) (by decide), ?_⟩
    rw [← named]
    rfl

theorem exec_deletes_ok {c : Instr} (h : Deletes via t key c) (admitted : s.admits via 2 t)
    (deleted : (s.found via t).deleteKey key = .ok u) : exec c s = .next u := by
  obtain ⟨object, basic, -, e⟩ := exec_deletes h s
  exact e.trans (congrArg Host.Outcome.next (State.runCommand_ok (ok := fun _ => true) (pre := noPre) (eff := State.deleteKey key)
    admitted basic rfl rfl deleted))

theorem exec_deletes_refused {c : Instr} (h : Deletes via t key c) (admitted : s.admits via 2 t)
    (refused : (s.found via t).deleteKey key = .error Abort.nv) :
    ∃ object, exec c s = .next (((s.advance t).writeOf via).refuse via object Abort.nv) := by
  obtain ⟨object, -, home, e⟩ := exec_deletes h s
  refine ⟨object, e.trans (congrArg Host.Outcome.next ?_)⟩
  rw [State.runCommand_refused (ok := fun _ => true) (pre := noPre) (eff := State.deleteKey key) admitted rfl rfl refused,
    State.failNoted_homeless (home _)]

/-- A store that takes no write takes no deletion. -/
theorem State.deleteKey_closed (closed : s.storeOpen = false) (key : Nat) : s.deleteKey key = .error Abort.nv := by
  unfold State.deleteKey
  split
  · rfl
  · exact if_pos (.inl closed)

theorem State.deleteKey_ok {j : Journal} (store : s.storeOpen = true) (journal : s.nv.journal = some j)
    (room : ¬(j.free 0 < 48 ∨ j.free 1 < 48)) (key : Nat) : s.deleteKey key = .ok (s.nvWrite (RecJob.make key 0 [] 4 0 0)) := by
  have takes : ¬(s.storeOpen = false ∨ j.free 0 < 48 ∨ j.free 1 < 48) := not_or.mpr ⟨ne_false_of_eq_true store, room⟩
  rw [State.deleteKey, journal]
  exact if_neg takes

/-! ### Settings sets applied (13 R465) -/

theorem exec_nvSetApply (small : v ≤ 7) (admitted : s.admits via 2 t) (mode : s.mode = 0) {l : List SetEntry}
    (reads : (s.found via t).readSet v = some l) :
    exec (.nvSetApply via v t) s = .next (((s.found via t).xipRecord (recordKey v)).applySet v l).1 := by
  have found : (s.found via t).mode = s.mode := s.found_o via t (by decide)
  refine congrArg Host.Outcome.next (State.runCommand_ok (ok := fun _ => decide (v ≤ 7))
    (pre := fun s => stateIf (s.mode != Mode.standby)) admitted (by decide) (decide_eq_true small) ?_ ?_)
  · rw [found, mode]
    rfl
  · simp only [reads]

/-- A set that cannot be read is refused, in the mode that applies sets. -/
theorem exec_nvSetApply_refused (small : v ≤ 7) (admitted : s.admits via 2 t) (mode : s.mode = 0)
    (unread : (s.found via t).readSet v = none) :
    exec (.nvSetApply via v t) s = .next (((s.advance t).writeOf via).refuse via Obj.NV_SET_APPLY Abort.nv) := by
  have found : (s.found via t).mode = s.mode := s.found_o via t (by decide)
  have home : ((s.advance t).writeOf via).keepHome Obj.NV_SET_APPLY = none := rfl
  rw [← State.failNoted_homeless home]
  refine congrArg Host.Outcome.next (State.runCommand_refused (ok := fun _ => decide (v ≤ 7))
    (pre := fun s => stateIf (s.mode != Mode.standby)) admitted (decide_eq_true small) ?_ ?_)
  · rw [found, mode]
    rfl
  · simp only [unread]

theorem State.applySet_ok {l : List SetEntry} {w : State} (puts : State.putEntries l s = (u, true)) (commits : u.commit 15 = .ok w)
    (n : Nat) : (s.applySet n l).1 = w := by
  simp only [State.applySet, puts, commits]

/-- A set that fails shows in BOOT_STATUS. -/
theorem State.setFailed_shows (c : s.Canonical) (n : Nat) : bitAt ((s.setFailed n).o Obj.BOOT_STATUS) 15 = true := by
  have shows_ : (s.setFailed n).Tells Obj.BOOT_STATUS (withBit (s.o Obj.BOOT_STATUS) 15 true : Nat) := (State.setO_tells c _).logEvt
  rw [shows_.o, Int.toNat_natCast, bitAt_withBit]

/-- A set whose entries or COMMIT are refused fails. -/
theorem State.applySet_fails (c : s.Canonical) {l : List SetEntry}
    (fails : (State.putEntries l s).2 = false ∨ ∃ e, (State.putEntries l s).1.commit 15 = .error e) (n : Nat) :
    bitAt ((s.applySet n l).1.o Obj.BOOT_STATUS) 15 = true := by
  have canonical : (State.putEntries l s).1.Canonical := c.putEntries
  unfold State.applySet
  extract_lets r
  split
  · next put committed =>
    rcases fails with e | ⟨code, e⟩
    · cases e.symm.trans put
    · cases e.symm.trans committed
  · exact State.setFailed_shows canonical.defaultObjects.countRefused n
  · exact State.setFailed_shows canonical.defaultObjects n

/-- Settles O56: each command by its effect on the state it finds, a record write that ends by what it leaves. -/
theorem recordsAreWritten : Obligations.RecordsAreWritten := by
  unfold Obligations.RecordsAreWritten
  intro s via t sound
  have c : s.Canonical := State.canonical_iff_objectsOk.mpr sound.1
  have now : (s.advance t).Canonical := c.frame State.advance_keeps
  have found : (s.found via t).Canonical := c.found via t
  have nv : (s.found via t).nv = s.nv := s.found_nv via t
  have opened := s.found_storeOpen via t
  refine ⟨fun admitted mode idle store => ⟨fun v small => ?set, fun p v small closed phase clear named => ?archive⟩,
    fun d key admitted deletes store => ?refused, fun d key j admitted store journal room0 room1 deletes => ?deleted,
    fun x j still job written journal => ?ends, fun v r admitted small mode read => ?applied⟩
  case set =>
    rw [← opened] at store
    rw [← nv]
    exact ⟨_, exec_nvSetSave small admitted mode idle (State.saveSet_ok store v), State.saveBegun_nvWrite found _ _ _⟩
  case archive =>
    have same : (s.found via t).ob Obj.SEC_ARCHIVE_ENC = false := by
      rw [State.ob, s.found_o via t (by decide)]
      exact clear
    rw [← opened] at store
    rw [← nv]
    exact ⟨_, exec_corrSaveGo small admitted mode idle closed phase clear named (State.saveArchive_ok found store same p _),
      State.saveBegun_nvWrite found _ _ _⟩
  case refused =>
    obtain ⟨object, e⟩ := exec_deletes_refused deletes admitted (State.deleteKey_closed (opened.trans store) key)
    refine ⟨_, e, ?_, ?_⟩
    · rw [State.refuse_keeps.nv (by decide), State.writeOf_frame.nv (by decide)]
      rfl
    · rintro rfl
      exact (State.refuse_host now.writeOf object Abort.nv).1
  case deleted =>
    have room : ¬(j.free 0 < 48 ∨ j.free 1 < 48) := by omega
    have same : (s.found via t).nv.journal = some j := (congrArg NvSt.journal nv).trans journal
    have queued := exec_deletes_ok deletes admitted (State.deleteKey_ok (opened.trans store) same room key)
    refine ⟨fun busy => ⟨_, queued, ?_⟩, fun ready free first repaired powered => ⟨_, queued, ?_⟩⟩
    · rw [State.nvWrite_busy (by rwa [nv]), nv]
    · have power : (s.found via t).pwr = s.pwr := State.found_keeps.pwr (by decide)
      have seq : (s.found via t).o Obj.NV_STORE_SEQ = s.o Obj.NV_STORE_SEQ := s.found_o via t (by decide)
      rw [← seq]
      rw [← nv] at ready free first repaired
      rw [← power] at powered
      exact State.deletion_starts (opened.trans store) same room ready free first repaired powered key
  case ends =>
    obtain ⟨seq, heads, saves⟩ := State.recordEnd_spec now job written journal
    exact ⟨_, exec_recordWriteEnd still, seq.o, heads, fun purpose runs => (saves purpose runs).o⟩
  case applied =>
    subst read
    have fetched := found.frame (State.xipRecord_frame (key := recordKey v))
    refine ⟨fun l x w reads puts commits => ⟨_, exec_nvSetApply small admitted mode reads, ?_⟩,
      fun l reads fails => ⟨_, exec_nvSetApply small admitted mode reads, State.applySet_fails fetched fails v⟩,
      fun unread host => ?_⟩
    · rw [State.applySet_ok puts commits]
      exact ⟨rfl, rfl, rfl⟩
    · subst host
      obtain ⟨shown, same⟩ := State.refuse_host (now.writeOf (via := .host)) Obj.NV_SET_APPLY Abort.nv
      have touched : (s.found .host t).sameBut [Obj.OD_LAST_ABORT, Obj.OD_LAST_ABORT_ADDR] ((s.advance t).writeOf .host) :=
        .of_od (State.touch_keeps.symm.od (by decide))
      refine ⟨_, exec_nvSetApply_refused small admitted mode unread, shown, ?_, touched.trans same⟩
      rw [State.refuse_keeps.gen (by decide), State.writeOf_frame.gen (by decide)]
      rfl

end Sys2Proof.Machine
end

section
/-!
PROOFS. What the eclipse engine writes of a position and of its shutter (06 R206 to R225), and what an eclipse that ends early leaves.
-/
namespace Sys2Proof.Machine
set_option Elab.async false

variable {s u : State} {p q : Pos} {x : Pulse} {n result : Nat}

theorem State.setEcl_same (s : State) (p : Pos) (e : EclPos) : (s.setEcl p e).ecl.get p = e := Quad.get_set_self _ _ _

theorem State.setEcl_other (s : State) (e : EclPos) (h : q ≠ p) : (s.setEcl p e).ecl.get q = s.ecl.get q := Quad.get_set_of_ne _ e h

theorem State.setPhase_phase (c : s.Canonical) (p : Pos) (n : Nat) : (s.setPhase p n).phase p = n := State.o_setO_nat c.od _ n

theorem State.setPhase_mode (s : State) (p : Pos) (n : Nat) : (s.setPhase p n).mode = s.mode :=
  State.o_setO_of_ne _ _ ((by decide : ∀ q : Pos, Obj.MODE ≠ Obj.ECL_PHASE q.val) p)

/-- Outside PREPARE and ECLIPSE the end of an eclipse means nothing to the mode (02 R52, R56). -/
theorem State.afterEcl_of_mode (h : s.mode = 2 ∨ s.mode = 4) : s.afterEcl = s := by
  have prepare : s.mode ≠ Mode.prepare := by rcases h with h | h <;> rw [h] <;> decide
  have eclipse : s.mode ≠ Mode.eclipse := by rcases h with h | h <;> rw [h] <;> decide
  rw [State.afterEcl, State.mandatoryFailed, if_neg fun failed => prepare failed.1, State.prepAll,
    List.foldl_fixed' (f := State.prepUpdate) fun p => if_pos (.inl prepare), State.eclipseEnds, if_pos eclipse]

/-! ### An eclipse that ends early (06 R223) -/

/-- The record of an eclipse that ends early: its result, and no UPDATE to wait for. -/
def EclPos.early (e : EclPos) (result : Nat) : EclPos := { e with result := result, updateDone := true, updating := false }

/-- The result of an eclipse that ends early is shown, and counted. -/
def State.earlyNoted (s : State) (p : Pos) (result : Nat) : State :=
  (s.setO (Obj.ECL_LAST_RESULT p.val) result).inc (Obj.ECL_CNT_ABORT p.val)

theorem State.earlyNoted_phase (s : State) (p : Pos) (result : Nat) : (s.earlyNoted p result).phase p = s.phase p :=
  (State.o_setO_of_ne _ _ ((by decide : ∀ q : Pos, Obj.ECL_PHASE q.val ≠ Obj.ECL_CNT_ABORT q.val) p)).trans
    (State.o_setO_of_ne _ _ ((by decide : ∀ q : Pos, Obj.ECL_PHASE q.val ≠ Obj.ECL_LAST_RESULT q.val) p))

theorem State.Canonical.earlyNoted (c : s.Canonical) : (s.earlyNoted p result).Canonical := c.setO.inc

/-- Before its first frame the position returns at once. -/
theorem State.eclEarly_waiting (waits : s.phase p ≤ 1) :
    s.eclEarly p result = ((s.earlyNoted p result).setEcl p { (s.ecl.get p).early result with part := 2 }).eclIdle p :=
  if_pos ((s.earlyNoted_phase p result).trans_le waits)

/-- Once its closing pulse has begun the engine asks for the opening pulse. -/
theorem State.eclEarly_closing (runs : 2 ≤ s.phase p) (begun : (s.ecl.get p).closeStart.isSome = true) : s.eclEarly p result =
    (((s.earlyNoted p result).setEcl p ((s.ecl.get p).early result)).askPulse p false 5).setPhase p 5 := by
  have noted : ¬ (s.earlyNoted p result).phase p ≤ 1 := by
    rw [s.earlyNoted_phase]
    omega
  refine (if_neg noted).trans (if_neg ?_)
  rw [Option.isNone_iff_eq_none]
  exact Option.ne_none_iff_isSome.mpr begun

/-- Behind the result and the count the end writes the phase, and no other object. -/
theorem State.eclEarly_sameBut (s : State) (p : Pos) (result : Nat) :
    (s.earlyNoted p result).sameBut [Obj.ECL_PHASE p.val] (s.eclEarly p result) := by
  have phase {w : State} (od : w.od = (s.earlyNoted p result).od) (n : Nat) :
      (s.earlyNoted p result).sameBut [Obj.ECL_PHASE p.val] (w.setPhase p n) :=
    State.sameBut.trans (.of_od od) (State.sameBut_setO w _ _)
  unfold State.eclEarly
  extract_lets
  split
  · exact phase rfl _
  · split <;> exact phase rfl _

theorem State.eclEarly_result (c : s.Canonical) (p : Pos) (result : Nat) :
    (s.eclEarly p result).o (Obj.ECL_LAST_RESULT p.val) = result := by
  have apart := (by decide : ∀ q : Pos, Obj.ECL_LAST_RESULT q.val ∉ [Obj.ECL_PHASE q.val]) p
  rw [State.o, (s.eclEarly_sameBut p result).oi apart, State.earlyNoted, State.inc, State.oi_setO_of_ne _ _
    ((by decide : ∀ q : Pos, Obj.ECL_LAST_RESULT q.val ≠ Obj.ECL_CNT_ABORT q.val) p), State.oi_setO_same c.od]
  rfl

theorem State.eclEarly_count (c : s.Canonical) (p : Pos) (result : Nat) : (s.eclEarly p result).oi (Obj.ECL_CNT_ABORT p.val) =
    clampI 0 0xFFFFFFFF (s.oi (Obj.ECL_CNT_ABORT p.val) + 1) := by
  have apart := (by decide : ∀ q : Pos, Obj.ECL_CNT_ABORT q.val ∉ [Obj.ECL_PHASE q.val]) p
  rw [(s.eclEarly_sameBut p result).oi apart, State.earlyNoted, State.oi_inc_same c.setO, State.oi_setO_of_ne _ _
    ((by decide : ∀ q : Pos, Obj.ECL_CNT_ABORT q.val ≠ Obj.ECL_LAST_RESULT q.val) p)]

/-! ### What leaves the shutters alone -/

/-- No pulse begins or ends, no bridge output and no shutter fault changes, and neither does MODE. -/
structure State.ShuttersStay (s u : State) : Prop where
  running : u.shut.running = s.shut.running
  lastEnd : u.shut.lastEnd = s.shut.lastEnd
  outA : u.shut.outA = s.shut.outA
  outB : u.shut.outB = s.shut.outB
  fault : ∀ q, (u.ecl.get q).shutFault = (s.ecl.get q).shutFault
  mode : u.mode = s.mode

namespace State.ShuttersStay

variable {w : State} {e : EclPos} {v : Int}

theorem refl : s.ShuttersStay s := ⟨rfl, rfl, rfl, rfl, fun _ => rfl, rfl⟩

theorem trans (h : s.ShuttersStay u) (k : u.ShuttersStay w) : s.ShuttersStay w :=
  ⟨k.running.trans h.running, k.lastEnd.trans h.lastEnd, k.outA.trans h.outA, k.outB.trans h.outB,
    fun q => (k.fault q).trans (h.fault q), k.mode.trans h.mode⟩

theorem ite {c : Prop} [Decidable c] {a b : State} (ha : s.ShuttersStay a) (hb : s.ShuttersStay b) :
    s.ShuttersStay (if c then a else b) := by
  split
  · exact ha
  · exact hb

/-- An operation whose frame law leaves shutters and eclipses. -/
theorem frame {l : List Part} (h : s.ShuttersStay u) (k : u.keeps l w) (mode : w.mode = u.mode)
    (hl : Part.shut ∉ l ∧ Part.ecl ∉ l := by decide) : s.ShuttersStay w := by
  obtain ⟨shut, ecl⟩ := And.intro (k.shut hl.1) (k.ecl hl.2)
  exact h.trans ⟨by rw [shut], by rw [shut], by rw [shut], by rw [shut], fun q => by rw [ecl], mode⟩

/-- A write of the object that a position has of its own. -/
theorem setPos {base : Nat} (h : s.ShuttersStay u) (hb : ∀ q : Pos, Obj.MODE ≠ base + 1 * q.val := by decide) :
    s.ShuttersStay (u.setO (base + 1 * p.val) v) :=
  h.frame State.setO_keeps (State.o_setO_of_ne _ _ (hb p))

/-- A record of a position that has its shutter fault. -/
theorem setEcl (h : s.ShuttersStay u) (fault : e.shutFault = (u.ecl.get p).shutFault := by rfl) : s.ShuttersStay (u.setEcl p e) := by
  refine h.trans ⟨rfl, rfl, rfl, rfl, fun q => ?_, rfl⟩
  by_cases same : q = p
  · rw [same, State.setEcl_same, fault]
  · rw [State.setEcl_other _ _ same]

/-- Pulses that wait, or wait no more. -/
theorem waiting {l : List Pulse} (h : s.ShuttersStay u) : s.ShuttersStay { u with shut := { u.shut with queue := l } } :=
  h.trans ⟨rfl, rfl, rfl, rfl, fun _ => rfl, rfl⟩

theorem eclIdle (h : s.ShuttersStay u) : s.ShuttersStay (u.eclIdle p) := by
  have rest (e : EclPos) : e.rest.shutFault = e.shutFault := by
    unfold EclPos.rest
    split <;> rfl
  exact (h.setEcl (rest _)).setPos

theorem eclEarly (h : s.ShuttersStay u) : s.ShuttersStay (u.eclEarly p result) := by
  have noted : s.ShuttersStay (u.earlyNoted p result) := h.setPos.setPos
  exact .ite noted.setEcl.eclIdle (.ite noted.setEcl.waiting.setPos noted.setEcl.waiting.setPos)

theorem openingFailed (h : s.ShuttersStay u) : s.ShuttersStay (u.openingFailed p) := by
  unfold State.openingFailed
  extract_lets e s1 _ s2
  have h1 : u.ShuttersStay s1 := .ite refl.setPos refl
  have h2 : u.ShuttersStay s2 := .ite (h1.frame State.setCoef_frame rfl) h1
  refine .eclIdle (.setEcl (h.trans h2) ?_)
  exact (h2.fault p).symm

/-- What follows a fault of a pulse leaves the shutters. -/
theorem pulseFailed (h : s.ShuttersStay u) : s.ShuttersStay (u.pulseFailed x) :=
  .ite (.ite h.eclEarly h) (.ite (.ite h.openingFailed h.setEcl) (.ite (.ite h.setEcl h) (.ite h h.setEcl)))

theorem cycleFailed (h : s.ShuttersStay u) : s.ShuttersStay (u.cycleFailed x) := .ite h.eclEarly h

end State.ShuttersStay

end Sys2Proof.Machine
end

section
/-!
PROOFS. Shutter pulses (06 R206 to R212): how the arbiter starts one, how it ends, and what its fault leaves.
-/
namespace Sys2Proof.Machine
set_option Elab.async false

variable {s u : State} {p : Pos} {x : Pulse} {rest : List Pulse} {since t n : Nat} {written : Bool}

theorem State.Shows.mode (h : u.Shows Obj.MODE (s.oi Obj.MODE)) : u.mode = s.mode := congrArg Int.toNat h.val

theorem State.Shows.bumpCounter {k obj : Nat} {v : Int} (h : s.Shows k v) (other : obj ∉ statusKeys) : (s.bumpCounter n obj).Shows k v :=
  .ite h (h.updTwoSlot.setO other)

/-- What a pulse is driven and bounded with are latched values and objects. -/
theorem State.pulseCfg_same (ecl : u.ecl = s.ecl) (od : u.od = s.od) (x : Pulse) : u.pulseCfg x = s.pulseCfg x := by
  simp only [State.pulseCfg, ecl, State.o_of_od od]

/-! ### A pulse that ends (06 R207, R208) -/

/-- The bridge of a position drives no more: the pulse that ran has ended at the present time. -/
structure State.PulseOver (p : Pos) (s u : State) : Prop where
  running : u.shut.running = none
  outA : u.shut.outA.get p = false
  outB : u.shut.outB.get p = false
  lastEnd : u.shut.lastEnd = some s.time.now
  mode : u.mode = s.mode

theorem State.brake_over (s : State) (p : Pos) : s.PulseOver p (s.brake p) :=
  ⟨rfl, Quad.get_set_self _ _ _, Quad.get_set_self _ _ _, rfl, rfl⟩

theorem State.PulseOver.stays {w : State} (h : s.PulseOver p u) (k : u.ShuttersStay w) : s.PulseOver p w :=
  ⟨k.running.trans h.running, k.outA ▸ h.outA, k.outB ▸ h.outB, k.lastEnd.trans h.lastEnd, k.mode.trans h.mode⟩

/-- A pulse that ends as it should leaves the shutter faults. -/
theorem State.pulseDone_stays (s : State) (x : Pulse) : (s.brake x.pos).ShuttersStay (s.pulseDone x) := by
  unfold State.pulseDone
  extract_lets w e e1
  refine .ite (.ite (.setPos (.setEcl .refl)) .refl) (.setEcl .refl ?_)
  have held : e1.shutFault = e.shutFault := by
    unfold e1
    split <;> rfl
  rw [← show e.shutFault = _ from rfl, ← held]
  split <;> rfl

theorem State.pulseDone_over (s : State) (x : Pulse) : s.PulseOver x.pos (s.pulseDone x) :=
  (s.brake_over x.pos).stays (s.pulseDone_stays x)

/-- A shutter fault is set; the bridges and MODE stay. -/
theorem State.shutterFault_sets (s : State) (p : Pos) : ((s.shutterFault p).ecl.get p).shutFault = true ∧
    (s.shutterFault p).shut = s.shut ∧ (s.shutterFault p).mode = s.mode := by
  refine ⟨?_, State.shutterFault_frame.shut (by decide), State.Shows.mode (State.Shows.notify (s.shows_self.of_od rfl))⟩
  rw [State.shutterFault, State.notify_keeps.ecl (by decide), State.setEcl_same]

/-- A pulse that ends in a fault leaves its position's bridge low and the fault set. -/
theorem State.pulseFault_over (s : State) (x : Pulse) :
    s.PulseOver x.pos (s.pulseFault x) ∧ ((s.pulseFault x).ecl.get x.pos).shutFault = true := by
  obtain ⟨fault, shut, mode⟩ := (s.brake x.pos).shutterFault_sets x.pos
  have stays : ((s.brake x.pos).shutterFault x.pos).ShuttersStay (s.pulseFault x) := State.ShuttersStay.refl.pulseFailed
  obtain ⟨running, outA, outB, lastEnd, still⟩ := s.brake_over x.pos
  have ended : s.PulseOver x.pos ((s.brake x.pos).shutterFault x.pos) :=
    ⟨shut ▸ running, shut ▸ outA, shut ▸ outB, shut ▸ lastEnd, mode.trans still⟩
  exact ⟨ended.stays stays, (stays.fault x.pos).trans fault⟩

/-! ### A pulse that starts (06 R206, R209, R210) -/

/-- The pulse that has waited longest leaves the queue. -/
def State.pulseTaken (s : State) (rest : List Pulse) : State := { s with shut := { s.shut with queue := rest } }

/-- The bridge of a pulse that begins: one output high by its direction and the swap bit. -/
structure State.PulseBegun (x : Pulse) (s u : State) : Prop where
  running : u.shut.running = some (x, s.time.now)
  queue : u.shut.queue = s.shut.queue
  outA : u.shut.outA.get x.pos = (x.closing != bitAt (s.pulseCfg x) 0)
  outB : u.shut.outB.get x.pos = !(x.closing != bitAt (s.pulseCfg x) 0)
  mode : u.mode = s.mode

theorem State.pulseBegin_begun (s : State) (x : Pulse) : s.PulseBegun x (s.pulseBegin x) := by
  unfold State.pulseBegin
  extract_lets w0 _ w e w1
  have begun : s.PulseBegun x w := ⟨rfl, rfl, Quad.get_set_self _ _ _, Quad.get_set_self _ _ _, rfl⟩
  have counted : w1.shut = w.shut ∧ w1.mode = w.mode := ⟨State.bumpCounter_keeps.shut (by decide), State.Shows.mode
    (State.Shows.bumpCounter w.shows_self ((by decide : ∀ q : Pos, Obj.ECL_SHUT_CYCLES q.val ∉ statusKeys) x.pos))⟩
  have through {v : State} (shut : v.shut = w.shut) (mode : v.mode = w.mode) : s.PulseBegun x v :=
    ⟨shut ▸ begun.running, shut ▸ begun.queue, shut ▸ begun.outA, shut ▸ begun.outB, mode.trans begun.mode⟩
  split
  · split
    · exact through counted.1 counted.2
    · exact through counted.1 counted.2
  · split
    · exact through rfl rfl
    · exact begun

/-- The arbiter can start the pulse that has waited longest: none runs, 10 ms have passed since the last, and the supply is on. -/
structure State.CanStart (x : Pulse) (rest : List Pulse) (s : State) : Prop where
  queue : s.shut.queue = x :: rest
  idle : s.shut.running = none
  rested : ∀ e, s.shut.lastEnd = some e → e + 10000000 ≤ s.time.now
  sound : s.dom80 78 ≠ 3
  on : s.domOn 78 = true

/-- A pulse that can start is taken, its cycle counter written where it closes. -/
theorem State.arbiter_takes (h : s.CanStart x rest) (written : Bool) : s.arbiter written =
    let w := if x.closing && !s.nv.closed then (s.pulseTaken rest).pageIs (Keep.counter (3 + x.pos.val)) 32 written
      else s.pulseTaken rest
    if x.closing && s.nv.closed then w.cycleFailed x
    else if x.closing && w.wornAt (Keep.counter (3 + x.pos.val)) 32 then (w.nvFailed (Keep.counter (3 + x.pos.val))).cycleFailed x
    else w.pulseBegin x := by
  obtain ⟨queue, idle, rested, sound, on⟩ := h
  have free : ¬ (s.shut.running.isSome = true ∨
      (match s.shut.lastEnd with | some t => decide (s.time.now < t + 10000000) | none => false) = true) := by
    rw [idle]
    cases last : s.shut.lastEnd with
    | none => simp
    | some e =>
      have := rested e last
      simp
      omega
  unfold State.arbiter
  rw [queue]
  refine (if_neg free).trans ?_
  simp only [if_neg sound, on, Bool.and_true, Bool.not_true, Bool.false_eq_true, if_false]
  rfl

/-- A pulse whose cycle counter is written, if it closes, begins. -/
theorem State.arbiter_begins (h : s.CanStart x rest) (counts : x.closing = true → s.nv.closed = false ∧ written = true) :
    (s.arbiter written).shut.running = some (x, s.time.now) ∧ (s.arbiter written).shut.queue = rest ∧
      (s.arbiter written).shut.outA.get x.pos = (x.closing != bitAt (s.pulseCfg x) 0) ∧
      (s.arbiter written).shut.outB.get x.pos = !(x.closing != bitAt (s.pulseCfg x) 0) ∧ (s.arbiter written).mode = s.mode := by
  have begins (w : State) (k : (s.pulseTaken rest).keeps [.nv] w) (e : s.arbiter written = w.pulseBegin x) :
      (s.arbiter written).shut.running = some (x, s.time.now) ∧ (s.arbiter written).shut.queue = rest ∧
        (s.arbiter written).shut.outA.get x.pos = (x.closing != bitAt (s.pulseCfg x) 0) ∧
        (s.arbiter written).shut.outB.get x.pos = !(x.closing != bitAt (s.pulseCfg x) 0) ∧ (s.arbiter written).mode = s.mode := by
    obtain ⟨running, queue, outA, outB, mode⟩ := w.pulseBegin_begun x
    have cfg : w.pulseCfg x = s.pulseCfg x := State.pulseCfg_same (k.ecl (by decide)) (k.od (by decide)) x
    rw [e, running, queue, outA, outB, mode, cfg, k.time (by decide), k.shut (by decide)]
    exact ⟨rfl, rfl, rfl, rfl, State.o_of_od (k.od (by decide)) _⟩
  have taken := State.arbiter_takes h written
  cases closing : x.closing with
  | false =>
    simp only [closing, Bool.false_and, Bool.false_eq_true, if_false] at taken
    exact closing ▸ begins _ State.keeps_refl taken
  | true =>
    obtain ⟨opened, rfl⟩ := counts closing
    simp only [closing, opened, Bool.not_false, Bool.and_true, Bool.and_false, Bool.false_eq_true, if_true, if_false,
      State.pageIs_good] at taken
    exact closing ▸ begins _ State.pageIs_frame taken

/-- A write of the keep array that fails leaves its first page worn. -/
theorem State.pageIs_bad (s : State) (a : Nat) : (s.pageIs a 32 false).wornAt a 32 = true := by
  refine List.any_eq_true.mpr ⟨a / 256, List.mem_cons_self .., decide_eq_true ?_⟩
  omega

/-- A closing pulse whose cycle counter cannot be written does not begin; the eclipse that asked for it ends with NV. -/
theorem State.arbiter_holds (h : s.CanStart x rest) (c : s.Canonical) (closing : x.closing = true)
    (fails : s.nv.closed = true ∨ written = false) : s.ShuttersStay (s.arbiter written) ∧
      (x.purpose = 0 → (s.arbiter written).o (Obj.ECL_LAST_RESULT x.pos.val) = 9) := by
  have ends {w : State} (stays : s.ShuttersStay w) (cw : w.Canonical) (e : s.arbiter written = w.cycleFailed x) :
      s.ShuttersStay (s.arbiter written) ∧ (x.purpose = 0 → (s.arbiter written).o (Obj.ECL_LAST_RESULT x.pos.val) = 9) := by
    rw [e]
    refine ⟨stays.cycleFailed, fun eclipse => ?_⟩
    rw [State.cycleFailed, if_pos eclipse]
    exact State.eclEarly_result cw _ _
  have taken : s.ShuttersStay (s.pulseTaken rest) := State.ShuttersStay.refl.waiting
  have canonical : (s.pulseTaken rest).Canonical := c.upd
  have arbiter := State.arbiter_takes h written
  cases closed : s.nv.closed with
  | true =>
    simp only [closing, closed, Bool.not_true, Bool.and_true, Bool.and_false, Bool.false_eq_true, if_true, if_false] at arbiter
    exact ends taken canonical arbiter
  | false =>
    obtain rfl := fails.resolve_left (by simp [closed])
    simp only [closing, closed, Bool.not_false, Bool.and_true, Bool.and_false, Bool.false_eq_true, if_true, if_false,
      State.pageIs_bad] at arbiter
    have paged : s.ShuttersStay ((s.pulseTaken rest).pageIs (Keep.counter (3 + x.pos.val)) 32 false) :=
      taken.frame State.pageIs_frame rfl
    refine ends (paged.frame State.nvFailed_keeps (State.Shows.mode (State.shows_self _).nvFailed)) ?_ arbiter
    exact (canonical.frame State.pageIs_frame).nvFailed

end Sys2Proof.Machine
end

section
/-!
PROOFS. O28: the end sensors, and how a shutter pulse starts and ends in RUN and SERVICE (06 R206 to R210).
-/
namespace Sys2Proof.Machine
set_option Elab.async false

variable {s u : State} {p : Pos} {x : Pulse} {rest : List Pulse} {since t : Nat} {written : Bool}

/-- A sensor that has been asserted is remembered with the present time. -/
def State.sensorSeen (s : State) (p : Pos) (closed : Bool) : State :=
  { s with shut := if closed then { s.shut with closedPin := s.shut.closedPin.set p (some s.time.now) }
    else { s.shut with openPin := s.shut.openPin.set p (some s.time.now) } }

/-- An asserted end sensor is remembered; no pulse begins or ends. -/
theorem endSensorAsserted_runs (s : State) (p : Pos) (closed : Bool) (t : Nat) : Runs (exec (.endSensorAsserted p closed t) s) (fun u =>
    (if closed then u.shut.closedPin else u.shut.openPin).get p = some (s.advance t).time.now ∧
      u.shut.queue = s.shut.queue ∧ u.shut.running = s.shut.running ∧ s.keeps [.time, .ecl, .shut] u) := by
  refine ⟨((s.advance t).sensorSeen p closed).sensorTime p closed, rfl, ?_⟩
  have seen : (s.advance t).keeps [.shut] ((s.advance t).sensorSeen p closed) := State.keeps_mk State.keeps_refl
  have shut : (((s.advance t).sensorSeen p closed).sensorTime p closed).shut = ((s.advance t).sensorSeen p closed).shut :=
    State.sensorTime_frame.shut (by decide)
  simp only [shut]
  refine ⟨?_, ?_, ?_, ?_⟩
  · cases closed <;> exact Quad.get_set_self _ _ _
  · cases closed <;> rfl
  · cases closed <;> rfl
  · exact (State.advance_keeps.mono rfl).trans ((seen.mono rfl).trans (State.sensorTime_frame.mono rfl))

/-- In RUN and SERVICE the arbiter starts the pulse that has waited longest, unless it closes and its cycle cannot be counted. -/
theorem shutterPulseStart_runs (c : s.Canonical) (mode : s.mode = 2 ∨ s.mode = 4) (h : (s.advance t).CanStart x rest) (written : Bool) :
    ((x.closing = true → s.nv.closed = false ∧ written = true) → Runs (exec (.shutterPulseStart written t) s) (fun u =>
      u.shut.running = some (x, (s.advance t).time.now) ∧ u.shut.queue = rest ∧
        u.shut.outA.get x.pos = (x.closing != bitAt (s.pulseCfg x) 0) ∧
        u.shut.outB.get x.pos = !(x.closing != bitAt (s.pulseCfg x) 0))) ∧
    (x.closing = true → s.nv.closed = true ∨ written = false → Runs (exec (.shutterPulseStart written t) s) (fun u =>
      u.shut.running = none ∧ u.shut.outA = s.shut.outA ∧ u.shut.outB = s.shut.outB ∧
        (x.purpose = 0 → u.o (Obj.ECL_LAST_RESULT x.pos.val) = 9))) := by
  have answers (still : ((s.advance t).arbiter written).mode = s.mode) :
      exec (.shutterPulseStart written t) s = .next ((s.advance t).arbiter written) :=
    congrArg Host.Outcome.next (State.afterEcl_of_mode (still ▸ mode))
  refine ⟨fun counts => ?_, fun closing fails => ?_⟩
  · obtain ⟨running, queue, outA, outB, still⟩ := State.arbiter_begins h counts
    exact ⟨_, answers still, running, queue, outA, outB⟩
  · obtain ⟨stays, result⟩ := State.arbiter_holds h (c.frame State.advance_keeps) closing fails
    exact ⟨_, answers stays.mode, stays.running.trans h.idle, stays.outA, stays.outB, result⟩

/-! ### The end of a running pulse -/

theorem State.pulseOf_running (runs : s.shut.running = some (x, since)) : s.pulseOf x.pos = some (x, since) := by
  rw [State.pulseOf, runs]
  exact if_pos rfl

/-- ECL_PULSE_HOLD after its sensor a pulse ends. -/
theorem pulseHoldExpiry_ends {a : Nat} (mode : s.mode = 2 ∨ s.mode = 4) (runs : s.shut.running = some (x, since))
    (sensor : s.endPin x = some a) (sensing : s.sensing x = true) (held : a + s.pulseHoldNs x ≤ (s.advance t).time.now) :
    ∃ u, exec (.pulseHoldExpiry x.pos t) s = .next u ∧ (s.advance t).PulseOver x.pos u := by
  have ended := (s.advance t).pulseDone_over x
  have pulse : (s.advance t).pulseOf x.pos = some (x, since) := State.pulseOf_running runs
  have pin : (s.advance t).endPin x = some a := sensor
  refine ⟨(s.advance t).pulseDone x, ?_, ended⟩
  show execPulseHoldExpiry x.pos t s = _
  simp only [execPulseHoldExpiry, pulse, pin]
  exact (if_pos ⟨sensing, held⟩).trans (congrArg Host.Outcome.next (State.afterEcl_of_mode (ended.mode ▸ mode)))

/-- At its longest a pulse takes the course of `pulseLongest`. -/
theorem pulseMaxExpiry_runs (mode : s.mode = 2 ∨ s.mode = 4) (runs : s.shut.running = some (x, since))
    (longest : since + s.pulseMaxNs x ≤ (s.advance t).time.now) (course : (s.advance t).pulseLongest x since = u)
    (still : u.mode = s.mode) : exec (.pulseMaxExpiry x.pos t) s = .next u := by
  have pulse : (s.advance t).pulseOf x.pos = some (x, since) := State.pulseOf_running runs
  show execPulseMaxExpiry x.pos t s = _
  simp only [execPulseMaxExpiry, pulse, course]
  exact (if_pos longest).trans (congrArg Host.Outcome.next (State.afterEcl_of_mode (still ▸ mode)))

/-- A pulse at its longest without end sensing ends, with no fault. -/
theorem pulseMaxExpiry_ends (mode : s.mode = 2 ∨ s.mode = 4) (runs : s.shut.running = some (x, since))
    (longest : since + s.pulseMaxNs x ≤ (s.advance t).time.now) (blind : s.sensing x = false) :
    ∃ u, exec (.pulseMaxExpiry x.pos t) s = .next u ∧ (s.advance t).PulseOver x.pos u ∧
      (u.ecl.get x.pos).shutFault = (s.ecl.get x.pos).shutFault := by
  have ended := (s.advance t).pulseDone_over x
  have course : (s.advance t).pulseLongest x since = (s.advance t).pulseDone x :=
    if_pos (by rw [show (s.advance t).sensing x = false from blind]; rfl)
  exact ⟨_, pulseMaxExpiry_runs mode runs longest course ended.mode, ended, ((s.advance t).pulseDone_stays x).fault x.pos⟩

/-- A pulse at its longest whose sensor has not asserted ends in a shutter fault. -/
theorem pulseMaxExpiry_faults (mode : s.mode = 2 ∨ s.mode = 4) (runs : s.shut.running = some (x, since))
    (longest : since + s.pulseMaxNs x ≤ (s.advance t).time.now) (sensing : s.sensing x = true) (sensor : s.endPin x = none) :
    ∃ u, exec (.pulseMaxExpiry x.pos t) s = .next u ∧ (s.advance t).PulseOver x.pos u ∧ (u.ecl.get x.pos).shutFault = true := by
  obtain ⟨ended, fault⟩ := (s.advance t).pulseFault_over x
  have course : (s.advance t).pulseLongest x since = (s.advance t).pulseFault x := by
    refine (if_neg ?_).trans (if_pos ?_)
    · rw [show (s.advance t).sensing x = true from sensing]
      decide
    · rw [show (s.advance t).endPin x = none from sensor]
      rfl
  exact ⟨_, pulseMaxExpiry_runs mode runs longest course ended.mode, ended, fault⟩

/-! ### Both sensors together (06 R208) -/

/-- Both sensors together end a running pulse with end sensing in a shutter fault. -/
theorem bothSensorsFault_ends (mode : s.mode = 2 ∨ s.mode = 4) (runs : s.shut.running = some (x, since)) (sensing : s.sensing x = true) :
    ∃ u, exec (.bothSensorsFault x.pos t) s = .next u ∧ (s.advance t).PulseOver x.pos u ∧ (u.ecl.get x.pos).shutFault = true := by
  show ∃ u, execBothSensorsFault x.pos t s = .next u ∧ _
  unfold execBothSensorsFault
  extract_lets _ _ _ w
  have pulse : w.pulseOf x.pos = some (x, since) := State.pulseOf_running runs
  obtain ⟨⟨running, outA, outB, lastEnd, still⟩, fault⟩ := w.pulseFault_over x
  simp only [pulse]
  exact ⟨w.pulseFault x, (if_pos sensing).trans (congrArg Host.Outcome.next (State.afterEcl_of_mode (still ▸ mode))),
    ⟨running, outA, outB, lastEnd, still⟩, fault⟩

/-- With no pulse of the position running they set the fault alone. -/
theorem bothSensorsFault_idle (idle : s.pulseOf p = none) (sensing : bitAt (s.o (Obj.ECL_SHUT_CFG p.val)) 1 = true) :
    Runs (exec (.bothSensorsFault p t) s) (fun u => u.shut.running = s.shut.running ∧ (u.ecl.get p).shutFault = true) := by
  show Runs (execBothSensorsFault p t s) _
  unfold execBothSensorsFault
  extract_lets _ _ _ w
  have rests : w.pulseOf p = none := idle
  obtain ⟨fault, shut, -⟩ := w.shutterFault_sets p
  simp only [rests]
  exact ⟨w.shutterFault p, if_pos sensing, by rw [shut]; rfl, fault⟩

/-- Settles O28: the end sensors, the start of a pulse by the arbiter, and its ends under its hold, at its longest and by both sensors. -/
theorem shutterPulses : Obligations.ShutterPulses := by
  unfold Obligations.ShutterPulses
  intro s p t sound
  have canonical : s.Canonical := State.canonical_iff_objectsOk.mpr sound.1
  refine ⟨fun closed => endSensorAsserted_runs s p closed t, fun mode => ⟨?start, ?ends, bothSensorsFault_idle⟩⟩
  case start =>
    intro x rest queue idle rested sound on written
    exact shutterPulseStart_runs canonical mode ⟨queue, idle, rested, sound, on⟩ written
  case ends =>
    rintro x since runs rfl
    refine ⟨fun a sensor sensing held => ?_, fun longest => ⟨fun blind => ?_, fun sensing sensor => ?_⟩, fun sensing => ?_⟩
    · obtain ⟨u, answers, ended⟩ := pulseHoldExpiry_ends mode runs sensor sensing held
      exact ⟨u, answers, ended.running, ended.outA, ended.outB, ended.lastEnd⟩
    · obtain ⟨u, answers, ended, fault⟩ := pulseMaxExpiry_ends mode runs longest blind
      exact ⟨u, answers, ended.running, ended.outA, ended.outB, fault⟩
    · obtain ⟨u, answers, ended, fault⟩ := pulseMaxExpiry_faults mode runs longest sensing sensor
      exact ⟨u, answers, ended.running, ended.outA, ended.outB, fault⟩
    · obtain ⟨u, answers, ended, fault⟩ := bothSensorsFault_ends mode runs sensing
      exact ⟨u, answers, ended.running, ended.outA, ended.outB, fault⟩

end Sys2Proof.Machine
end

section
/-!
PROOFS. O27: what the commands of the eclipse engine leave, and a grant (06 R211, R212, R223, R246, R247).
-/
namespace Sys2Proof.Machine
set_option Elab.async false

variable {s u : State} {p : Pos} {via : Via} {key lvl t v k : Nat}

/-- Past its checks a command takes its effect on the state it finds, and an expert object is marked. -/
theorem State.runCommand_marks {ok : State → Bool} {pre : State → Nat} {eff : State → Res} (h : s.admits via lvl t)
    (good : ok ((s.advance t).writeOf via) = true) (passes : pre (s.found via t) = 0) (takes : eff (s.found via t) = .ok u) :
    s.runCommand via key t (fun s => s.cmd via key lvl (ok s) pre eff) = u.markExpert key := by
  have found : ((s.advance t).writeOf via).touch via = s.found via t := rfl
  rw [State.runCommand, (h.onPath _).1]
  simp only [State.cmd, State.command, if_neg (h.onPath id).2, found, good, passes, takes, ne_eq, not_true, if_false, Bool.not_true,
    Bool.false_eq_true]

theorem State.found_mode (s : State) (via : Via) (t : Nat) : (s.found via t).mode = s.mode := s.found_o via t (by decide)

theorem State.found_phase (s : State) (via : Via) (t : Nat) (p : Pos) : (s.found via t).phase p = s.phase p := s.found_pos via t p

theorem State.found_ecl (s : State) (via : Via) (t : Nat) : (s.found via t).ecl = s.ecl := State.found_keeps.ecl (by decide)

theorem State.found_shut (s : State) (via : Via) (t : Nat) : (s.found via t).shut = s.shut := State.found_keeps.shut (by decide)

theorem State.found_enabled (s : State) (via : Via) (t : Nat) (p : Pos) : (s.found via t).enabled p = s.enabled p := by
  rw [State.enabled, State.inForce, State.found_keeps.modes (by decide), State.enabled, State.inForce]

/-! ### ECL_REQUEST (06 R246) -/

/-- A position that waits in QUEUED on request, in full or in part. -/
structure State.Queued (p : Pos) (k : Nat) (s u : State) : Prop where
  phase : u.phase p = 1
  requested : (u.ecl.get p).requested = true
  due : (u.ecl.get p).due = true
  kind : (u.ecl.get p).kind = k
  mode : u.mode = s.mode
  others : ∀ q, q ≠ p → u.ecl.get q = s.ecl.get q

/-- Where none of its checks refuses, a request queues the position. -/
theorem State.eclRequest_queues (c : s.Canonical) (mode : ¬ (s.mode = 0 ∨ s.mode = 5)) (enabled : s.enabled p = true)
    (fault : (s.ecl.get p).shutFault = false) (idle : s.phase p = 0) (closed : s.coefState p = 0) (saves : s.saving p = false) (k : Nat) :
    ∃ u, s.eclRequest p k = .ok u ∧ s.Queued p k u := by
  have allowed : ¬ (s.mode = 0 ∨ s.mode = 5 ∨ s.enabled p = false ∨ (s.ecl.get p).shutFault = true) := by
    simp only [enabled, fault, Bool.false_eq_true, Bool.true_eq_false, or_false]
    exact mode
  have free : ¬ (s.phase p ≠ 0 ∨ s.coefState p ≠ 0 ∨ s.saving p = true) := by simp [idle, closed, saves]
  refine ⟨_, (if_neg allowed).trans (if_neg free), ?_⟩
  have due : s.becomeDue p = (s.setEcl p { s.ecl.get p with
      due := true, dueSince := if (s.ecl.get p).due then (s.ecl.get p).dueSince else s.time.now }).setPhase p 1 := if_pos idle
  rw [due]
  refine ⟨State.setPhase_phase c.upd p 1, ?_, ?_, ?_, State.setPhase_mode _ p 1, fun q other => ?_⟩
  · rw [State.setEcl_same]
  · rw [State.setEcl_same]
    exact congrArg EclPos.due (s.setEcl_same p _)
  · rw [State.setEcl_same]
  · rw [State.setEcl_other _ _ other]
    exact s.setEcl_other _ other

/-- From L1 the request of an idle position queues it. -/
theorem eclRequest_runs {c : Instr} (request : (k, c) ∈ [(1, Instr.eclRequestFull via p t), (2, Instr.eclRequestPartial via p t)])
    (admitted : s.admits via 1 t) (queues : ∃ u, (s.found via t).eclRequest p k = .ok u ∧ (s.found via t).Queued p k u) :
    ∃ u, exec c s = .next u ∧ (s.found via t).Queued p k u := by
  obtain ⟨u, takes, queued⟩ := queues
  refine ⟨u, ?_, queued⟩
  have asks : exec c s = .next (s.runCommand via (Obj.ECL_REQUEST p.val) t (State.cmdEclRequest via p k)) ∧
      (k == 1 || k == 2) = true := by
    simp only [List.mem_cons, Prod.mk.injEq, List.not_mem_nil, or_false] at request
    obtain ⟨rfl, rfl⟩ | ⟨rfl, rfl⟩ := request <;> exact ⟨rfl, rfl⟩
  refine asks.1.trans (congrArg Host.Outcome.next (State.runCommand_ok (ok := fun _ => k == 1 || k == 2)
    (pre := preOf fun s => s.eclRequest p k) (eff := fun s => s.eclRequest p k) admitted
    ((by decide : ∀ q : Pos, isExpertKey (Obj.ECL_REQUEST q.val) = false) p) asks.2 ?_ takes))
  rw [preOf, takes]

/-! ### ECL_ABORT (06 R223) -/

theorem EclPos.rest_wanted (e : EclPos) : e.rest.wanted = e.wanted := by
  unfold EclPos.rest
  split <;> rfl

theorem EclPos.rest_granted (e : EclPos) : e.rest.granted = false := by
  unfold EclPos.rest
  split <;> rfl

/-- A position that is idle again is not granted, and QUEUED while it is wanted. -/
theorem State.eclIdle_waits (c : s.Canonical) : (s.eclIdle p).phase p = (if (s.ecl.get p).wanted then 1 else 0) ∧
    ((s.eclIdle p).ecl.get p).granted = false := by
  refine ⟨?_, ?_⟩
  · rw [← EclPos.rest_wanted]
    exact State.setPhase_phase c.upd p _
  · show ((s.setEcl p (s.ecl.get p).rest).ecl.get p).granted = false
    rw [State.setEcl_same, EclPos.rest_granted]

theorem exec_eclAbort (small : v < 256) (admitted : s.admits via 1 t) (mode : s.mode = 2 ∨ s.mode = 4) (begun : 1 ≤ s.phase p)
    (runs : s.phase p ≤ 4) : exec (.eclAbort via p v t) s = .next ((s.found via t).eclEarly p 6) := by
  have still : ((s.found via t).eclEarly p 6).mode = s.mode := State.ShuttersStay.refl.eclEarly.mode.trans (s.found_mode via t)
  refine congrArg Host.Outcome.next (State.runCommand_ok (ok := fun _ => anyOf 1 v)
    (pre := fun s => stateIf (s.phase p == 0 || decide (5 ≤ s.phase p))) (eff := done fun s => (s.eclEarly p 6).afterEcl) admitted
    ((by decide : ∀ q : Pos, isExpertKey (Obj.ECL_ABORT q.val) = false) p) (anyOf_one small) ?_
    (congrArg Except.ok (State.afterEcl_of_mode (still ▸ mode))))
  have inside : (s.phase p == 0 || decide (5 ≤ s.phase p)) = false := by
    simp only [Bool.or_eq_false_iff, beq_eq_false_iff_ne, decide_eq_false_iff_not]
    omega
  rw [s.found_phase, inside]
  rfl

/-! ### ECL_FAULT_CLEAR (06 R211) -/

/-- The flags of the position are cleared; an imaging mode that does not know the shutter open asks for an opening pulse. -/
theorem State.faultClear_clears (s : State) (p : Pos) :
    ((s.faultClear p).ecl.get p).shutFault = false ∧ ((s.faultClear p).ecl.get p).overdue = false ∧
      (s.imaging = true → s.shut.openPin.get p = none → (s.faultClear p).shut.queue = s.shut.queue ++ [⟨p, false, 3⟩]) := by
  unfold State.faultClear
  extract_lets _ w
  have cleared : (w.ecl.get p).shutFault = false ∧ (w.ecl.get p).overdue = false := by
    rw [s.setEcl_same]
    exact ⟨rfl, rfl⟩
  split
  case isTrue known =>
    rw [State.setEcl_same]
    refine ⟨cleared.1, cleared.2, fun _ unknown => ?_⟩
    have : w.shut.openPin.get p = none := unknown
    simp [this] at known
  case isFalse =>
    split
    case isTrue dark =>
      refine ⟨cleared.1, cleared.2, fun images _ => ?_⟩
      have : w.imaging = true := images
      simp [this] at dark
    case isFalse => exact ⟨cleared.1, cleared.2, fun _ _ => rfl⟩

theorem exec_eclFaultClear (small : v < 256) (admitted : s.admits via 2 t) :
    exec (.eclFaultClear via p v t) s = .next ((s.found via t).faultClear p) :=
  congrArg Host.Outcome.next (State.runCommand_ok (ok := fun _ => anyOf 1 v) (pre := noPre) (eff := done fun s => s.faultClear p) admitted
    ((by decide : ∀ q : Pos, isExpertKey (Obj.ECL_FAULT_CLEAR q.val) = false) p) (anyOf_one small) rfl rfl)

/-! ### ECL_SHUT_CMD (06 R212) -/

/-- In SERVICE a pulse of an idle position is asked for. -/
theorem exec_eclShutCmd {closing : Bool} {c : Instr}
    (asked : (closing, c) ∈ [(true, Instr.eclShutCmdClose via p t), (false, Instr.eclShutCmdOpen via p t)]) (admitted : s.admits via 2 t)
    (service : s.mode = 4) (idle : s.phase p = 0) :
    exec c s = .next (((s.found via t).askPulse p closing 2).markExpert (Obj.ECL_SHUT_CMD p.val)) := by
  have argument : ∃ v, exec c s = .next (s.runCommand via (Obj.ECL_SHUT_CMD p.val) t (State.cmdEclShut via p v)) ∧
      (v == 1 || v == 2) = true ∧ (v == 1) = closing := by
    simp only [List.mem_cons, Prod.mk.injEq, List.not_mem_nil, or_false] at asked
    obtain ⟨rfl, rfl⟩ | ⟨rfl, rfl⟩ := asked
    · exact ⟨1, rfl, rfl, rfl⟩
    · exact ⟨2, rfl, rfl, rfl⟩
  obtain ⟨v, runs, good, rfl⟩ := argument
  refine runs.trans (congrArg Host.Outcome.next (State.runCommand_marks (ok := fun _ => v == 1 || v == 2)
    (pre := fun s => if s.mode ≠ Mode.service then Abort.state else if s.phase p ≠ 0 then Abort.busy else 0)
    (eff := done fun s => s.askPulse p (v == 1) 2) admitted good ?_ rfl))
  rw [s.found_mode, service, s.found_phase, idle]
  rfl

/-! ### A grant (06 R247) -/

/-- Outside ECLIPSE mode the position next in turn is granted. -/
theorem exec_eclipseGrant {w : Option Nat} (serves : s.serving = true) (images : s.imaging = true) (mode : s.mode ≠ 3)
    (may : (s.advance t).mayGrant = true) (next : (s.advance t).nextGrant = some (p, w)) :
    exec (.eclipseGrant t) s = .next ((s.advance t).grant p w) := by
  have passes : ¬ (!(s.advance t).serving || !(s.advance t).imaging || !(s.advance t).mayGrant) = true := by
    rw [show (s.advance t).serving = true from serves, show (s.advance t).imaging = true from images, may]
    decide
  have other : ¬ (s.advance t).mode = Mode.eclipse := mode
  refine (if_neg passes).trans ?_
  simp only [if_neg other, next]

/-- Settles O27: each command takes its effect on the state that it finds, and a grant latches its window and its values. -/
theorem eclipseCommands : Obligations.EclipseCommands := by
  unfold Obligations.EclipseCommands
  intro s p t sound
  have canonical : s.Canonical := State.canonical_iff_objectsOk.mpr sound.1
  refine ⟨?request, ?abort, ?clear, ?shutter, ?grant⟩
  case request =>
    intro via k c request admitted standby safe enabled fault idle closed saves
    have queues := State.eclRequest_queues (p := p) (canonical.found via t) (by rw [s.found_mode]; omega) (by rw [s.found_enabled, enabled])
      (by rw [s.found_ecl, fault]) (by rw [s.found_phase, idle]) (by rw [s.found_coefState, closed]) (by rw [s.found_saving, saves]) k
    obtain ⟨u, answers, queued⟩ := eclRequest_runs request admitted queues
    exact ⟨u, answers, queued.phase, queued.requested, queued.due, queued.kind, queued.mode.trans (s.found_mode via t),
      fun q other => by rw [queued.others q other, s.found_ecl]⟩
  case abort =>
    intro via v small admitted mode begun runs
    have found := canonical.found via t
    refine ⟨_, exec_eclAbort small admitted mode begun runs, State.eclEarly_result found p 6, ?_, fun first closing => ?_,
      fun queued => ?_⟩
    · rw [State.eclEarly_count found, s.found_oi via t ((by decide : ∀ q : Pos, Obj.ECL_CNT_ABORT q.val ≠ Obj.OD_CNT_BAR0_DROP) p)]
    · rw [State.eclEarly_closing (by rwa [s.found_phase]) (by rwa [s.found_ecl])]
      refine ⟨State.setPhase_phase found.earlyNoted.upd p 5, ?_⟩
      show (s.found via t).shut.queue ++ _ = _
      rw [s.found_shut]
    · rw [State.eclEarly_waiting (by rw [s.found_phase]; omega)]
      obtain ⟨phase, granted⟩ := State.eclIdle_waits (p := p) (s := ((s.found via t).earlyNoted p 6).setEcl p
        { ((s.found via t).ecl.get p).early 6 with part := 2 }) found.earlyNoted.upd
      refine ⟨phase.trans ?_, granted⟩
      rw [State.setEcl_same, s.found_ecl]
      rfl
  case clear =>
    intro via v small admitted
    obtain ⟨fault, overdue, pulse⟩ := (s.found via t).faultClear_clears p
    refine ⟨_, exec_eclFaultClear small admitted, fault, overdue, fun images unknown => ?_⟩
    rw [pulse (by rw [State.imaging, s.found_mode]; exact images) (by rw [s.found_shut, unknown]), s.found_shut]
  case shutter =>
    intro via closing c asked admitted service idle
    refine ⟨_, exec_eclShutCmd asked admitted service idle, ?_, ?_⟩
    · rw [State.markExpert_keeps.shut (by decide), State.askPulse, s.found_shut]
    · rw [State.markExpert_keeps.ecl (by decide)]
      exact s.found_ecl via t
  case grant =>
    intro w serves images mode may next
    refine ⟨_, exec_eclipseGrant serves images mode may next, ?_⟩
    unfold State.grant
    extract_lets e kind
    refine ⟨?_, ?_, State.setPhase_phase (State.Canonical.upd (canonical.frame State.advance_keeps)) p 1, ?_, fun q other => ?_⟩
    · exact congrArg EclPos.granted (State.setEcl_same _ p _)
    · exact congrArg EclPos.windowEnd (State.setEcl_same _ p _)
    · exact congrArg EclPos.params (State.setEcl_same _ p _)
    · exact State.setEcl_other (s.advance t) _ other

end Sys2Proof.Machine
end

section
/-!
PROOFS. O29: why the statement about the course of an eclipse does not hold of every state (06 R224, 09 R346).
-/
namespace Sys2Proof.Machine
set_option Elab.async false

/-- A frame without a pixel: an UPDATE that it ends finds no pixel to correct (06 R602). -/
def emptyFrame : FrameCtx :=
  { num := 1, start := 0, width := 0, height := 0, mask := 1, ackMask := 1, times := [], heritage := false, dropShort := false, gov := []
    settingsGen := 0, coefGen := 0, coefTag := 0, mode := 2, txn := 0, role := 0, epoch := 0, station := 0, trigKind := 0, trigT := 0
    trigE := 0, trigSeq := 0, eclAge := 0, driftAge := 0, eclCount := 0, throttle := 0, throttled := false, notReady := false
    eclipsed := true, subt := none, short := false, long := false, clipped := false, eclKind := 1, close := 0, closedAt := 0
    geom := false, overflow := false }

/-- A transition from RUN to STANDBY. -/
def toStandby : Running :=
  { frm := 2, target := 0, txn := 1, act := 0, source := 0, deadline := 1000000000, orphan := false, reason := 0 }

/-- A position whose accumulation frames are all in, so that its UPDATE can end. -/
def updatingPos : EclPos :=
  let q := State.reset.eclParams 0 1
  { EclPos.reset with params := some q, lastCtx := some emptyFrame, updating := true, accIn := q.n }

/-- RUN on its way to STANDBY, with position 0 in phase 4 and its UPDATE the last thing that the transition waits for.  An ingot waits
in the first ring for output port 0xBA00, which no row of the model gives it (every row gives port 0 or 1).  The object that counts what
a mode discards at a port of that number is the phase of position 0. -/
def ingotBeyondPorts : State :=
  { State.reset with
    od := [(Obj.MODE, 2), (Obj.ECL_PHASE 0, 4)]
    modes := { ModeSt.reset with running := some toStandby }
    ecl := State.reset.ecl.set 0 updatingPos
    rings := State.reset.rings.set 0 { slots := [{ freeSlot with st := 2, port := 0xBA00 }], size := 1, count := 1 } }

theorem ingotBeyondPorts_sound : ingotBeyondPorts.sound := by decide +kernel

theorem ingotBeyondPorts_counter : Obj.OUT_CNT_MODE_DISCARD 0xBA00 = Obj.ECL_PHASE 0 ∧ ingotBeyondPorts.phase 0 = 4 := by decide +kernel

/-- The end of UPDATE lets the transition go on: it discards the ingot and counts it, in the phase of position 0. -/
theorem ingotBeyondPorts_update : ∃ u, exec (.eclipseUpdateComplete 0 0) ingotBeyondPorts = .next u ∧ u.phase 0 = 5 :=
  ⟨_, rfl, by decide +kernel⟩

/-- Refutes O29: a sound state may hold an ingot for any port number, and the statement then has the end of UPDATE leave the phase.  With
an ingot for port 0xBA00, whose discards the phase of position 0 counts, the transition that waits for UPDATE raises the phase to 5. -/
theorem not_eclipseCourse : ¬ Obligations.EclipseCourse := by
  unfold Obligations.EclipseCourse
  intro claim
  obtain ⟨-, update, -⟩ := claim ingotBeyondPorts 0 0 ingotBeyondPorts_sound
  obtain ⟨u, runs, raised⟩ := ingotBeyondPorts_update
  obtain ⟨v, same, -, stays, -⟩ := update _ emptyFrame (by decide +kernel) rfl rfl rfl rfl
  obtain rfl : u = v := Host.Outcome.next.inj (runs.symm.trans same)
  obtain ⟨-, before⟩ := ingotBeyondPorts_counter
  obtain ⟨-, phase⟩ := stays (by rw [before]; decide)
  rw [raised, before] at phase
  exact absurd phase (by decide)

end Sys2Proof.Machine
end
